-- ==== Sys2Proof/Word.lean ====
section
/-! DEFINITION. The words the concentrator's manual counts in: bytes, 16-bit Awl words, 32-bit registers and
64-bit register pairs. Bit 0 is the least significant bit (R5). -/

namespace Sys2Proof

abbrev Byte := BitVec 8
abbrev Word16 := BitVec 16
abbrev Word32 := BitVec 32
abbrev Word64 := BitVec 64

end Sys2Proof
end

