-- ==== Sys2Proof/Image.lean ====
section
/-! DEFINITION. The harness image (chapter 02) and the configuration that its sections carry, with the field names
of the chapters' section tables. The header, the section directory, the key block and the stored section bytes are
held as the image delivers them, so that verification (R82) works on them; the sections' contents are held parsed
(log entry 6). -/

namespace Sys2Proof

/-- A directory entry (R73) with the section bytes as stored in the image. -/
structure DirEntry where
  type : Nat
  dieMask : Nat
  encrypted : Bool
  required : Bool
  flagsRsv : Nat
  offset : Nat
  len : Nat
  hash : List Byte
  stored : List Byte
  /-- The entry's reserved bytes 12 to 15. -/
  rsv : Nat
deriving DecidableEq, Repr, Inhabited

/-- An endorsement of the key block (R744): its bytes 0 to 63, their fields, and the signature over them. -/
structure Endorsement where
  bytes : List Byte
  pub : List Byte
  role : Nat
  minSec : Nat
  serial : Nat
  sig : List Byte
deriving DecidableEq, Repr, Inhabited

/-- The key block (R744): its bytes, and the fields read from them. -/
structure KeyBlock where
  bytes : List Byte
  magic : Nat
  rootPub : List Byte
  chain : List Endorsement
deriving DecidableEq, Repr, Inhabited

/-- The signer key: PUB of the last endorsement (R745). -/
def KeyBlock.signerPub (k : KeyBlock) : List Byte := ((k.chain.getLast?).map (·.pub)).getD []

/-- The image header (R72) with the flash descriptor's fields in `flash`. -/
structure ImgHeader where
  magic : Nat
  format : Nat
  hdrLen : Nat
  length : Nat
  imageId : Nat
  secVer : Nat
  dies : Nat
  flags : Nat
  sections : Nat
  dirOff : Nat
  keyOff : Nat
  sigOff : Nat
  flash : Nat
  serial : Nat
  /-- The reserved bytes 48 to 63. -/
  rsv : List Byte
deriving DecidableEq, Repr, Inhabited

/-- The base block of the TIME section (R585); values as written, before the "0 selects" rules. -/
structure TimeBase where
  profile : Nat
  autoFirst : Bool
  slaveOnly : Bool
  twoStep : Bool
  /-- SRC0 to SRC3, highest priority first. -/
  src : List Nat
  jumpNs : Nat
  lockNs : Nat
  servoBw : Nat
  freqRef : Nat
  maxSlew : Nat
  utcOfs : Int
  domain : Nat
  priority1 : Nat
  priority2 : Nat
  classLocked : Nat
  classHold : Nat
  classFree : Nat
  accuracy : Nat
  ptpQueue : Nat
  variance : Nat
  clockId : Nat
  clkout : Nat
deriving DecidableEq, Repr, Inhabited

/-- A PTP port block of the TIME section (kind 0x02). -/
structure PtpBlk where
  die : Nat
  port : Nat
  index : Nat
  role : Nat
  transport : Nat
  delay : Nat
  oneStep : Bool
  logAnnounce : Int
  logSync : Int
  logDelay : Int
  annTimeout : Nat
  asymNs : Int
  vlan : Nat
  iface : Nat
  nbrLimitNs : Nat
deriving DecidableEq, Repr, Inhabited

/-- A capture block of the TIME section (kind 0x03). -/
structure CapBlk where
  die : Nat
  input : Nat
  mode : Nat
  edge : Nat
  lace : Nat
  irig : Nat
  filterNs : Nat
  freqHz : Nat
deriving DecidableEq, Repr, Inhabited

/-- A pulse block of the TIME section (kind 0x04). -/
structure PulseBlk where
  die : Nat
  output : Nat
  mode : Nat
  pflags : Nat
  start : Nat
  periodNs : Nat
  widthNs : Nat
deriving DecidableEq, Repr, Inhabited

/-- The TIME section (R585). -/
structure TimeCfg where
  base : TimeBase
  ptp : List PtpBlk
  caps : List CapBlk
  pulses : List PulseBlk
deriving DecidableEq, Repr, Inhabited

/-- A partition block of the RECORDER section (R712), with the LBA size of its namespace (R692). -/
structure RecPart where
  die : Nat
  arcDie : Nat
  nsid : Nat
  firstLba : Nat
  lbaCount : Nat
  lbaSize : Nat
deriving DecidableEq, Repr, Inhabited

/-- The RECORDER section (R712); values as written, before the "0 selects" rules. -/
structure RecorderCfg where
  mode : Nat
  flushMs : Nat
  lgBudgetMs : Nat
  lgFlashKib : Nat
  cmds : List Nat
  parts : List RecPart
deriving DecidableEq, Repr, Inhabited

/-- An entry of the CALIBRATION section (R126). -/
structure CalEntry where
  item : Nat
  die : Nat
  inst : Nat
  value : Int
deriving DecidableEq, Repr, Inhabited

/-- The ADMISSION section (R93, R102): the compiler's totals per die and its list of affected units (UIDs, R125). -/
structure AdmissionCfg where
  /-- (die, cluster, engine-share total). -/
  engineShares : List (Nat × Nat × Nat)
  /-- (die, bank, store-share total). -/
  storeShares : List (Nat × Nat × Nat)
  /-- (die, guaranteed cells). -/
  cellRes : List (Nat × Nat)
  compiler : Nat
  affected : List Nat
deriving DecidableEq, Repr, Inhabited

/-- A range entry of the DATAPOINTS section (R195) with the descriptor template's 16 bytes. -/
structure DpRange where
  die : Nat
  firstDpi : Nat
  count : Nat
  template : List Byte
deriving DecidableEq, Repr, Inhabited

/-- The DATAPOINTS sections (R193, R194): range entries, and the enabled notice channels as (die, channel, TID). -/
structure DatapointsCfg where
  ranges : List DpRange
  channels : List (Nat × Nat × Nat)
deriving DecidableEq, Repr, Inhabited

/-- An entry of the REGIONS section: die, master, target die, rights, first and last line. -/
structure RegionEntry where
  die : Nat
  master : Nat
  target : Nat
  rd : Bool
  wr : Bool
  base : Nat
  limit : Nat
deriving DecidableEq, Repr, Inhabited

/-- The REGIONS sections (R136, R155): pack-state size per die in units of 256 KiB, and the region registers. -/
structure RegionsCfg where
  packState : List (Nat × Nat)
  entries : List RegionEntry
deriving DecidableEq, Repr, Inhabited

/-- A mirror block of the REIN section (R850). -/
structure MirrorBlk where
  inbound : Bool
  peer : Nat
  firstDpi : Nat
  count : Nat
  peerFirst : Nat
deriving DecidableEq, Repr, Inhabited

/-- The REIN section (R850). -/
structure ReinCfg where
  mgmtFrom : Nat
  mirrors : List MirrorBlk
deriving DecidableEq, Repr, Inhabited

/-- A PACK section (R354) with its 192 header bytes and its parsed fields; `code`, `priv` and `shared` are the body's
instruction words and initial images in 16-bit words. -/
structure PackSec where
  dieMask : Nat
  head : List Byte
  magic : Nat
  packId : Nat
  version : Nat
  packSec : Nat
  codeWords : Nat
  privInit : Nat
  sharedInit : Nat
  maxCommits : Nat
  pflags : Nat
  hlQueue : Nat
  keyId : Nat
  bodyHash : List Byte
  sig : List Byte
  body : List Byte
  code : List Nat
  priv : List Nat
  shared : List Nat
deriving DecidableEq, Repr, Inhabited

/-- A PLACEMENT entry (R356) with its configuration block. -/
structure PlaceEntry where
  die : Nat
  cluster : Nat
  packId : Nat
  version : Nat
  transport : Bool
  ibankGrant : Bool
  transportCl : Nat
  hlEngines : Nat
  hlSlots : Nat
  ctlMask : Nat
  psOff : Nat
  psQ : Nat
  cfg : List Byte
deriving DecidableEq, Repr, Inhabited

/-- A STITCH entry (R369) of one die. -/
structure StitchEntry where
  die : Nat
  key : Nat
  dpi : Nat
  cluster : Nat
  outbound : Bool
  fast : Bool
  evtEn : Bool
  evtClass : Nat
  enc : Nat
  bitPos : Nat
  qsrc : Nat
  tsrc : Nat
  elem : Nat
  bias : Nat
  deadband : Nat
  mult : Nat
deriving DecidableEq, Repr, Inhabited

/-- A binding entry of SWITCH_MAP (R512). -/
structure Binding where
  die : Nat
  port : Nat
  prio : Nat
  cval : Nat
  cmask : Nat
  sel : Nat
  headline : Bool
  cut : Bool
  capture : Bool
  kval : Nat
  kmask : Nat
  tid : Nat
  dest : Nat
  target : Nat
  queue : Nat
  slowq : Nat
  destDie : Nat
  capClass : Nat
deriving DecidableEq, Repr, Inhabited

/-- The SWITCH_MAP section (R512): bindings in section order; output quotas (die, output, cells); tenant cells (die,
tenant, reserve, quota); egress grants (die, port code, queue mask, tenant); allocation tenants (die, cluster,
tenant). -/
structure SwitchCfg where
  bindings : List Binding
  outQuotas : List (Nat × Nat × Nat)
  tenants : List (Nat × Nat × Nat × Nat)
  grants : List (Nat × Nat × Nat × Nat)
  allocs : List (Nat × Nat × Nat)
deriving DecidableEq, Repr, Inhabited

/-- A tenant shaper block of GATES (R535). -/
structure ShaperBlk where
  die : Nat
  port : Nat
  tid : Nat
  rate : Nat
  burst : Nat
deriving DecidableEq, Repr, Inhabited

/-- A lace program block (R594): `inmap` the eight input sources, `sel` the 32 SEL bytes, `table` the 128 entries,
`loops` the four (FIRST, LAST) pairs. -/
structure LaceProg where
  die : Nat
  engine : Nat
  autostart : Bool
  group : Nat
  init : Nat
  loopSel : Nat
  inThr : Nat
  outThr : Nat
  div : Nat
  progId : Nat
  inmap : List Nat
  outmap : Nat
  sel : List Nat
  table : List Nat
  loops : List (Nat × Nat)
deriving DecidableEq, Repr, Inhabited

/-- The LACE section (R594, R595) with the lace entries of PORTS: pin functions (die, pin, FUNC; R592), bindings (die,
engine, cluster, EVENT_ENG; R593), programs, and safe levels (die, pin, SAFE). -/
structure LaceCfg where
  pins : List (Nat × Nat × Nat)
  binds : List (Nat × Nat × Nat × Nat)
  progs : List LaceProg
  safes : List (Nat × Nat × Nat)
deriving DecidableEq, Repr, Inhabited

/-- An Ethernet PORTS entry (R397); values as written, before the "0 selects" rules. `mac` has the first byte on the wire
in bits 7:0. -/
structure EthEntry where
  die : Nat
  port : Nat
  mode : Nat
  adv : Nat
  msForce : Bool
  msMaster : Bool
  red : Nat
  pauseEn : Bool
  pfcEn : Bool
  cl37 : Bool
  sgmiiAn : Bool
  latePolicy : Bool
  mac : Nat
  maxLen : Nat
  pauseWd : Nat
  window8 : Nat
  age : Nat
  sup : Nat
deriving DecidableEq, Repr, Inhabited

/-- A port gate block (R431): `entries` the gate list as (GATES, INTERVAL_NS), `idle` the eight IDLE_KBPS values. -/
structure GateBlk where
  die : Nat
  port : Nat
  base : Nat
  cycle : Nat
  idle : List Nat
  entries : List (Nat × Nat)
deriving DecidableEq, Repr, Inhabited

/-- A serial PORTS entry (R446). -/
structure SerEntry where
  die : Nat
  port : Nat
  mode : Nat
  elec : Nat
  pair : Bool
  listen : Bool
  nom : Nat
  data : Nat
  format : Nat
  gapBits : Nat
  icBits : Nat
  gapMin : Nat
  deLead : Nat
  deHold : Nat
  maxLen : Nat
  invLimit : Nat
  detect : Bool
  measure : Bool
deriving DecidableEq, Repr, Inhabited

/-- A CAN acceptance filter (R453). -/
structure CanFilter where
  die : Nat
  port : Nat
  index : Nat
  ident : Nat
  ide : Bool
  mask : Nat
  en : Bool
  fdOnly : Bool
deriving DecidableEq, Repr, Inhabited

/-- A TTCAN entry (R471). -/
structure TtcanEntry where
  die : Nat
  port : Nat
  level : Nat
  role : Nat
  prio : Nat
  matrix : Nat
  refId : Nat
  refIde : Bool
  cycle : Nat
  base : Nat
  watch : Nat
deriving DecidableEq, Repr, Inhabited

/-- A TTCAN trigger entry (R471): TYPE 1 TX_EXCL, 2 ARB_START, 3 ARB_END, 4 RX_CHECK. -/
structure TtcanTrig where
  die : Nat
  port : Nat
  index : Nat
  type : Nat
  buf : Nat
  rep : Nat
  baseCycle : Nat
  offset : Nat
  expId : Nat
  expIde : Bool
deriving DecidableEq, Repr, Inhabited

/-- A group block of TT_MATRIX (R484). -/
structure TtGroupBlk where
  die : Nat
  mode : Nat
  rate : Nat
  cycles : Nat
  windows : Nat
  coldstart : Bool
  sync : Bool
  lead : Bool
  alone : Bool
  haltPolicy : Bool
  autoRestart : Bool
  tssBits : Nat
  base : Nat
  cycle : Nat
  tol : Nat
  arbStep : Nat
  maxActive : Nat
  readmit : Nat
  minSync : Nat
  maxPassive : Nat
  toActive : Nat
  listenUs : Nat
  attempts : Nat
  maxOffset : Nat
  maxRate : Nat
  branches : Nat
deriving DecidableEq, Repr, Inhabited

/-- A window block (R484): TYPE 1 EXCLUSIVE, 2 ARBITRATING. -/
structure TtWindow where
  die : Nat
  index : Nat
  type : Nat
  start : Nat
  len : Nat
  arbBase : Nat
  arbIds : Nat
  rx : Bool
  ch : Nat
deriving DecidableEq, Repr, Inhabited

/-- An assignment block (R484). -/
structure TtAssign where
  die : Nat
  window : Nat
  rep : Nat
  baseCycle : Nat
  ownerA : Nat
  ownerB : Nat
  frameId : Nat
  words : Nat
  rx : Bool
  sync : Bool
  startup : Bool
  event : Bool
  ch : Nat
deriving DecidableEq, Repr, Inhabited

/-- The TT_MATRIX section (R484). -/
structure TtMatrix where
  groups : List TtGroupBlk
  windows : List TtWindow
  assigns : List TtAssign
deriving DecidableEq, Repr, Inhabited

/-- A tenant entry (R722). -/
structure TenantEntry where
  tid : Nat
  enabled : Bool
  tokenOnly : Bool
  pasidReq : Bool
  ports : Nat
  pasid : Nat
  pasidValid : Bool
  tokGenMin : Nat
deriving DecidableEq, Repr, Inhabited

/-- The TENANTS section (R722): the tenant entries, and the binding entries by KIND as (DIE, TID, …): READ as (TID, FIRST_DPI,
COUNT), MAILBOX with ENGINE and SLOT, DMA with CHANNEL, SLOT and PASID_EN, HOSTQ with QUEUE, ENGINE with CLUSTER and ENG_SHARE,
STORE, CLASSES, and DEFAULT as (DIE, DEF_STORE). -/
structure TenantsCfg where
  entries : List TenantEntry
  reads : List (Nat × Nat × Nat)
  mailboxes : List (Nat × Nat × Nat × Nat)
  dmas : List (Nat × Nat × Nat × Nat × Bool)
  hostqs : List (Nat × Nat × Nat)
  engShares : List (Nat × Nat × Nat × Nat)
  stores : List (Nat × Nat × Nat)
  classes : List (Nat × Nat × Nat)
  defaults : List (Nat × Nat)
deriving DecidableEq, Repr, Inhabited

/-- A PCIe entry of PORTS (R617): ROLE 0 OFF, 1 HOST, 2 ARCHIVE. -/
structure PcieEntry where
  die : Nat
  role : Nat
  owner : Bool
  maxGen : Nat
  width : Nat
  subsys : Nat
deriving DecidableEq, Repr, Inhabited

/-- A die block of the POWER section: the 48 plan codes. -/
structure PowerDie where
  die : Nat
  plan : List Nat
deriving DecidableEq, Repr, Inhabited

/-- The POWER section (R756); values as written, before the "0 selects" rules. -/
structure PowerCfg where
  actMv : Nat
  trimMv : Nat
  adapt : Bool
  wakeEn : Bool
  pomEn : Bool
  mbxEn : Bool
  wakeRetain : Bool
  sentUs : Nat
  drainUs : Nat
  idleMs : Nat
  cycleMs : Nat
  paceTarget : Nat
  dies : List PowerDie
deriving DecidableEq, Repr, Inhabited

/-- A pad entry of PORTS (kind 0x09, R869). -/
structure PadEntry where
  die : Nat
  index : Nat
  slew : Nat
  filter : Nat
  pull : Nat
deriving DecidableEq, Repr, Inhabited

-- SECTIONS

/-- The parsed contents of an image's sections (R77). -/
structure HarnessCfg where
  time : TimeCfg
  recorder : RecorderCfg
  calibration : List CalEntry
  admission : AdmissionCfg
  datapoints : DatapointsCfg
  regions : RegionsCfg
  rein : ReinCfg
  packs : List PackSec
  placement : List PlaceEntry
  stitch : List StitchEntry
  switch : SwitchCfg
  shapers : List ShaperBlk
  lace : LaceCfg
  eth : List EthEntry
  gates : List GateBlk
  serial : List SerEntry
  canFilters : List CanFilter
  ttcan : List TtcanEntry
  ttTrigs : List TtcanTrig
  tt : TtMatrix
  tenants : TenantsCfg
  pcie : List PcieEntry
  power : PowerCfg
  pads : List PadEntry
  /-- Field-bank levels of PORTS (kind 0x0A): die, bank, LEVEL. -/
  vioBanks : List (Nat × Nat × Nat)
  -- CFGFIELDS
deriving DecidableEq, Repr, Inhabited

/-- A harness image as delivered (R71 to R76). -/
structure Image where
  hdr : ImgHeader
  dir : List DirEntry
  key : KeyBlock
  sig : List Byte
  /-- Bytes delivered. -/
  delivered : Nat
  cfg : HarnessCfg
deriving DecidableEq, Repr, Inhabited

end Sys2Proof
end

