-- ==== Sys2Proof/Syntax.lean ====
section
/-! DEFINITION. The commands of the concentrator: one constructor of `Instr` per row of the table of operations and
events, with the operands that the row's rules name. A command stands for the instant at which its event happens: who
sends it, and when, is outside the model (log entry 2). -/

namespace Sys2Proof

/-- A die number (R41); a die at or beyond the die count does not exist. -/
abbrev Die := Fin 8
/-- A unit of one die by its number: an Ethernet, serial port or cluster, an engine, a bank or lace engine. -/
abbrev Unit8 := Fin 8
abbrev Engine := Fin 64
abbrev Unit16 := Fin 16

/-- A decoded IRIG frame (R574, R575): its validity, the decoded time in seconds since the PTP epoch, the
C37.118.1 local offset in seconds, and whether a leap second is pending with this frame. -/
structure IrigFrame where
  valid : Bool
  seconds : Int
  localOffset : Int
  leap : Int
deriving DecidableEq, Repr, Inhabited

/-- A record submission (R680): class, FMT (0 PART, 1 PACK, 2 HOST, 3 CAPTURE), SOURCE, TENANT and record bytes 16
onward. -/
structure Submission where
  cls : Fin 8
  fmt : Fin 4
  source : Nat
  tid : Nat
  body : List Byte
deriving DecidableEq, Repr

/-- Causes of a MARK record (R681) other than PERIODIC, STEP and BOOT. -/
inductive TimeMark where
  | servo | relockStart | relockDone | skew
deriving DecidableEq, Repr

/-- Causes of a last gasp (R700). -/
inductive GaspCause where
  | pfail | safe | pkgReset
deriving DecidableEq, Repr

/-- Lost records of one class that R705 accounts for after a last gasp: die, class, count, first and last SEQ. -/
structure MissingLoss where
  die : Nat
  cls : Nat
  count : Nat
  first : Nat
  last : Nat
deriving DecidableEq, Repr, Inhabited

/-- A fault that a March C- run found (R176, R177): line index (for a spare, 0 working, 1 repair), word, element,
background and whether the line is a spare. -/
structure MarchFault where
  line : Nat
  word : Nat
  element : Nat
  solidZero : Bool
  spare : Bool
deriving DecidableEq, Repr, Inhabited

/-- A substitution element (R637, R639): DPI, operand, source time and its validity, and the quality operand's bits
OVERFLOW, QUESTIONABLE, TEST, BLOCKED and SRC_UNSYNC. -/
structure ScatterElem where
  dpi : Nat
  operand : Nat
  srcTime : Nat
  srcValid : Bool
  overflow : Bool
  questionable : Bool
  test : Bool
  blocked : Bool
  srcUnsync : Bool
deriving DecidableEq, Repr, Inhabited

/-- A redundancy trailer or tag as the port recognised it (IEC 62439-3): sequence number, LanId, LSDUsize, and the LSDU of
the received frame counted under R416. -/
structure RedTag where
  seq : Nat
  lan : Nat
  size : Nat
  lsdu : Nat
deriving DecidableEq, Repr, Inhabited

/-- What a link reports as it comes up: the rate code, MDI crossover, the master role, and the partner's abilities as
ETH_AN_STATUS shows them. -/
structure LinkResult where
  speed : Nat
  mdix : Bool
  master : Bool
  abil : Nat
  pause : Bool
  asmDir : Bool
  lpAn : Bool
deriving DecidableEq, Repr, Inhabited

/-- A PDU that the transport pack delivers (R382): the framing rule, the class code, the ingress port, the arrival stamp and
end instant of the completing segment, the tenant charged, and the PDU's bytes. -/
structure Pdu where
  rule : Fin 5
  cls : Nat
  port : Nat
  stamp : Nat
  endInstant : Nat
  tid : Nat
  bytes : List Byte
deriving DecidableEq, Repr

/-- What a serial port received (R451): the frame as its mode reads it off the line, and what the line showed of it. -/
inductive SerRx where
  /-- A CAN frame: identifier, IDE, RTR, FDF, DLC, BRS, ESI, data; LEC of an error that ISO 11898-1 defines (0 none), and
  whether that error counts 8. -/
  | can (ident : BitVec 29) (ide rtr fdf : Bool) (dlc : BitVec 4) (brs esi : Bool) (data : List Byte) (lec : Fin 7)
      (heavy : Bool)
  /-- UART characters, whether one had a framing or parity error or overran, and whether a gap of IC_BITS was seen. -/
  | uart (chars : List (BitVec 9)) (bad gap : Bool)
  /-- FT1.2 characters, and whether one was bad or an idle longer than one character time stood between them. -/
  | ft12 (chars : List Byte) (bad : Bool)
  /-- Bytes between HDLC flags without the FCS, whether the FCS is good, an abort was seen, and a whole number of bytes. -/
  | hdlc (bytes : List Byte) (fcsOk aborted whole : Bool)
  /-- An MVB frame: slave or master, its data without check sequences, and whether delimiter, coding and checks are good. -/
  | mvb (slave : Bool) (data : List Byte) (ok : Bool)
deriving DecidableEq, Repr

/-- How a serial transmission ends: sent, arbitration lost, or an error with its LEC; `quiet` is an acknowledgement error of an
error-passive node, which leaves TEC as it is. -/
inductive SerTxOutcome where
  | sent
  | lost
  | error (lec : Fin 7) (quiet : Bool)
deriving DecidableEq, Repr

/-- A received time-triggered frame (R495, ISO 17458-2): what the line and the CRCs show of it, its header bits and bytes, and
the RXD edge that begins it in ps of the time base. -/
structure TtRx where
  codeOk : Bool
  hcrcOk : Bool
  fcrcOk : Bool
  null : Bool
  sync : Bool
  startup : Bool
  frameId : Nat
  cycle : Nat
  words : Nat
  header : List Byte
  payload : List Byte
  edgePs : Nat
deriving DecidableEq, Repr

/-- Events that move the group between its states (Group transitions); a double cycle is judged by what the group counted. -/
inductive TtEvent where
  | configured
  | startupSeen
  | otherNode
  | alone
  | collision
  | doubleCycle
  | autoRestart
deriving DecidableEq, Repr


/-- A request on BAR0 or BAR2 of a HOST port: the offset within the BAR, the bytes it covers (4 or 8 where aligned), the data of
a write, and a PASID prefix. -/
structure HostReq where
  page : Bool
  off : Nat
  len : Nat
  write : Option Nat
  pasid : Option Nat
deriving DecidableEq, Repr

/-- What waits for a store bucket (R735): the command of a page, or a DMA channel. -/
inductive BucketWaiter where
  | page (t : Nat)
  | dma (ch : Fin 32)
deriving DecidableEq, Repr

/-- What a request that a sentinel breaks was for (R776): a load of an engine with its address, the oldest entry of its store buffer, a
HOST request by BAR, offset and length in double words, a frame of the switch core, a record of the recorder by class. -/
inductive SentObj where
  | none
  | load (addr : Word16)
  | store
  | host (bar off len : Nat)
  | frame (f : Nat)
  | record (cls : Fin 8)
deriving DecidableEq, Repr

/-- A scope whose rung 2 reset failed (R800): a unit by UID, or a region. -/
inductive ResetScope where
  | unit (u : BitVec 16)
  | region (q : Fin 4)
deriving DecidableEq, Repr

/-- What the surroundings give an operation that a register write starts: the faults that a March C- run finds on spares first, the
connections that a transport cluster loses, and where a clear of the archive is cut short. -/
structure WriteEnv where
  spares : List (Nat × MarchFault)
  conns : List (Nat × Nat × Nat)
  cut : Option Nat
deriving DecidableEq, Repr

/-- One constructor per row of the table of operations and events, in the table's order. -/
inductive Instr where
  /-- PACE_WINDOW_END (R56). At the end of each 1 µs window a pace monitor reports the handshake rate it measured, and ARC_PACE and BOUND_NS are updated. -/
  | paceWindowEnd (d : Die) (c0 : Fin 65536) (c1 : Fin 65536) (c2 : Fin 65536) (c3 : Fin 65536) (spine : Fin 65536)
  /-- BOUND_HOLD_EXPIRE (R60). After HOLD_MS of sustained higher pace, BOUND_NS falls to the value of R58 for the lowest pace of the hold. -/
  | boundHoldExpire
  /-- SKEW_MEASURE (R70). At least every 1 ms each die measures its offset from die 0 into ARC_SKEW and sets OUT_OF_LIMIT when beyond the limit. -/
  | skewMeasure (d : Die) (ps : Int)
  /-- REGION_RESET_REQ (R67). A write of 1 to ARC_REGION_RST.REQ by an allowed master requests the reset of region q. -/
  | regionResetReq (d : Die) (q : Fin 4)
  /-- REGION_RESET_DONE (R68). When every unit of the reset region has been reloaded from the harness, DONE (or FAILED) is set. -/
  | regionResetDone (d : Die) (q : Fin 4)
  /-- BOOT_SEEK (R86). After power-on reset, wake or failed re-verification, the boot ROM seeks an image from the boot sources in order. -/
  | bootSeek (a : Option Image) (b : Option Image)
  /-- FLASH_READ_TIMEOUT (R89). A flash read not complete within 1 s fails with SOURCE_IO. -/
  | flashReadTimeout (slotB : Bool)
  /-- HAR_LOAD (R88). HAR_CTRL.CMD LOAD starts fetching an image from HAR_SRC_ADDR into STAGED, or is refused with BUSY. -/
  | harLoad
  /-- LOAD_COMPLETE (R82). The end of an image fetch and verification moves the state to RUN or STAGED on success, or records the refusal. -/
  | loadComplete (img : Option Image)
  /-- HAR_PREPARE (R103). HAR_CTRL.CMD PREPARE starts loading shadow configuration into every affected unit. -/
  | harPrepare
  /-- SHADOW_READY (R103). A unit reports ready once its shadow is fully loaded and checked; all ready moves the state to PREPARED. -/
  | shadowReady (u : BitVec 16)
  /-- HAR_ARM (R104). HAR_CTRL.CMD ARM schedules the commit instant, or is refused with INSTANT_PAST. -/
  | harArm
  /-- HAR_ABORT (R106). HAR_CTRL.CMD ABORT before the guard check aborts the re-harness with OWNER_ABORT and returns to STAGED. -/
  | harAbort
  /-- HAR_DISCARD (R113). HAR_CTRL.CMD DISCARD empties the STAGED slot and returns to RUN. -/
  | harDiscard
  /-- GUARD_CHECK (R105). At the commit time minus GUARD_US the part checks readiness and locks or aborts with NOT_READY. -/
  | guardCheck (members : Fin 32)
  /-- COMMIT_INSTANT (R107). At the instant the new tables apply, EPOCH advances, the slots exchange roles and the state becomes SWITCHING. -/
  | commitInstant
  /-- UNIT_SWITCH (R108). An affected unit switches to the new configuration at its next handshake boundary after the instant. -/
  | unitSwitch (u : BitVec 16)
  /-- LACE_SWITCH_TIMEOUT (R109). A lace engine that has not passed its loop end 1 ms after the instant is stopped, reloaded, restarted and counted late. -/
  | laceSwitchTimeout (d : Die) (e : Unit16)
  /-- GROUP_REPORT_RX (R121). The package at Rein address 0 receives a member's guard-check result for a group commit. -/
  | groupReportRx (src : Fin 31) (ready : Bool) (guardUs : Nat) (time : Nat) (members : Fin 32)
  /-- GROUP_DECISION_RX (R122). A member receives the group decision and commits or aborts with REIN_ABORT. -/
  | groupDecisionRx (commit : Bool)
  /-- GROUP_DECISION_TIMEOUT (R122). A member without a decision by the instant, or a head missing a report in time, aborts with REIN_ABORT. -/
  | groupDecisionTimeout
  /-- BANK_GRANT (R146). When a bank finishes an access it grants the next request by class and rotating pointer and performs it indivisibly. -/
  | bankGrant (d : Die) (b : Unit16)
  /-- VAT_BYTE_ACCESS (R154). A byte-addressed access by a master is checked against protected areas and region registers at the master's die. -/
  | vatByteAccess (d : Die) (m : Fin 43) (t : Die) (off : Nat) (n : Nat) (write : Option (List Byte))
  /-- CLASS_B_STARVE (R150). A class B request waiting longer than 10 µs increments VAT_ARB_STARVE. -/
  | classBStarve (d : Die)
  /-- MAINT_PROMOTE (R149). A maintenance request that has waited 1 µs is promoted to port P15 in class B. -/
  | maintPromote (d : Die) (b : Unit16)
  /-- SCRUB_WRITE (R166). A scrub write re-reads the line inside its locked pair and writes the corrected data back. -/
  | scrubWrite (d : Die) (b : Unit16)
  /-- BURNISHER_READ (R165). Every INTERVAL_US each bank walker reads its next line and treats any error found. -/
  | burnisherRead (d : Die) (b : Unit16)
  /-- VAT_CLEAR_DONE (R169). A Vat clear completes, after which access to the bank is granted. -/
  | vatClearDone (d : Die)
  /-- MARCH_START (R179). VAT_MARCH_CTRL.START requests a March C- run of MODE on BANKS, or is refused. -/
  | marchStart (d : Die) (destructive : Bool) (banks : Nat) (spares : List (Nat × MarchFault))
  /-- MARCH_ABORT (R180). VAT_MARCH_CTRL.ABORT (or a reset or RETAIN entry) stops the run after the copy-back in progress. -/
  | marchAbort (d : Die)
  /-- MARCH_LINE_DONE (R174). A preserving run finishes testing one line and copies the working spare back. -/
  | marchLineDone (d : Die) (b : Unit16) (fault : Option MarchFault)
  /-- MARCH_DONE (R173). A March C- run ends on its banks and sets RESULT and MARCH_DONE. -/
  | marchDone (d : Die) (faults : List (Nat × MarchFault))
  /-- STARTUP_RUN (R178). At power-on reset a destructive March C- run tests every bank of every die. -/
  | startupRun (faults : List (Nat × Nat × MarchFault))
  /-- COMMIT_APPLY (R205). A commit arriving at its home die is checked and, if accepted, written as one RECORD_UPDATE. -/
  | commitApply (d : Die)
  /-- FORCE (R209). A substitution FORCE stores the operand with ORIGIN forced and no deadline. -/
  | force (d : Die) (tid : Nat) (elem : ScatterElem)
  /-- RELEASE (R209). A substitution RELEASE keeps the value but marks it not valid, questionable and immediately stale. -/
  | release (d : Die) (tid : Nat) (elem : ScatterElem)
  /-- FENCE_MARK_DONE (R228). Fence marking completes, DPT_FENCE.BUSY clears and FENCE_DONE is set. -/
  | fenceMarkDone (d : Die)
  /-- SKIVER_PASS (R231). Each multiple of 65,536 ns of the time base starts a Skiver pass that scans entries, disarms due ones and writes notices. -/
  | skiverPass (d : Die)
  /-- NOTICE_RD_ADVANCE (R238). A write of DPT_NCH_IDX(n).RD consumes notices of a channel within the ring limit. -/
  | noticeRdAdvance (d : Die) (n : Fin 64) (rd : Nat)
  /-- LEAD_WRITE (R213). A write of DPT_LEAD_HOST or DPT_LEAD_ENG applies to requests issued 1 µs or more later. -/
  | leadWrite (host : Bool) (ns : Nat)
  /-- NOP (R308). Does nothing for one slot. -/
  | awlNop (d : Die) (e : Engine) (c : Fin 8)
  /-- DROP (R308). Pops the top of stack. -/
  | awlDrop (d : Die) (e : Engine) (c : Fin 8)
  /-- DUP (R308). Duplicates the top of stack. -/
  | awlDup (d : Die) (e : Engine) (c : Fin 8)
  /-- SWAP (R308). Exchanges the two top entries. -/
  | awlSwap (d : Die) (e : Engine) (c : Fin 8)
  /-- OVER (R308). Pushes a copy of the second entry. -/
  | awlOver (d : Die) (e : Engine) (c : Fin 8)
  /-- ROT (R308). Rotates the three top entries. -/
  | awlRot (d : Die) (e : Engine) (c : Fin 8)
  /-- NIP (R308). Removes the second entry. -/
  | awlNip (d : Die) (e : Engine) (c : Fin 8)
  /-- TUCK (R308). Copies the top below the second entry. -/
  | awlTuck (d : Die) (e : Engine) (c : Fin 8)
  /-- DROP2 (R308). Pops two entries. -/
  | awlDrop2 (d : Die) (e : Engine) (c : Fin 8)
  /-- DUP2 (R308). Duplicates the top pair. -/
  | awlDup2 (d : Die) (e : Engine) (c : Fin 8)
  /-- OVER2 (R308). Pushes a copy of the second pair. -/
  | awlOver2 (d : Die) (e : Engine) (c : Fin 8)
  /-- SWAP2 (R308). Exchanges the two top pairs. -/
  | awlSwap2 (d : Die) (e : Engine) (c : Fin 8)
  /-- TOR (R308). Moves the top of the operand stack to the return stack. -/
  | awlTor (d : Die) (e : Engine) (c : Fin 8)
  /-- FROMR (R308). Moves the top of the return stack to the operand stack. -/
  | awlFromr (d : Die) (e : Engine) (c : Fin 8)
  /-- RFETCH (R308). Copies the top of the return stack to the operand stack. -/
  | awlRfetch (d : Die) (e : Engine) (c : Fin 8)
  /-- PICK (R308). Pushes a copy of entry n. -/
  | awlPick (d : Die) (e : Engine) (c : Fin 8) (n : Fin 16)
  /-- ADD (R301). Adds the two top entries and sets flags of kind add. -/
  | awlAdd (d : Die) (e : Engine) (c : Fin 8)
  /-- ADC (R301). Adds with carry. -/
  | awlAdc (d : Die) (e : Engine) (c : Fin 8)
  /-- SUB (R301). Subtracts and sets flags of kind sub. -/
  | awlSub (d : Die) (e : Engine) (c : Fin 8)
  /-- SBC (R301). Subtracts with borrow. -/
  | awlSbc (d : Die) (e : Engine) (c : Fin 8)
  /-- AND (R308). Bitwise AND. -/
  | awlAnd (d : Die) (e : Engine) (c : Fin 8)
  /-- OR (R308). Bitwise OR. -/
  | awlOr (d : Die) (e : Engine) (c : Fin 8)
  /-- XOR (R308). Bitwise XOR. -/
  | awlXor (d : Die) (e : Engine) (c : Fin 8)
  /-- NOT (R308). Bitwise complement. -/
  | awlNot (d : Die) (e : Engine) (c : Fin 8)
  /-- NEG (R308). Two's-complement negation. -/
  | awlNeg (d : Die) (e : Engine) (c : Fin 8)
  /-- INC (R308). Increments the top. -/
  | awlInc (d : Die) (e : Engine) (c : Fin 8)
  /-- DEC (R308). Decrements the top. -/
  | awlDec (d : Die) (e : Engine) (c : Fin 8)
  /-- CMP (R308). Sets flags of a minus b without a result. -/
  | awlCmp (d : Die) (e : Engine) (c : Fin 8)
  /-- ADD2 (R310). 32-bit addition of two pairs. -/
  | awlAdd2 (d : Die) (e : Engine) (c : Fin 8)
  /-- SUB2 (R310). 32-bit subtraction of two pairs. -/
  | awlSub2 (d : Die) (e : Engine) (c : Fin 8)
  /-- CMP2 (R310). 32-bit compare setting flags. -/
  | awlCmp2 (d : Die) (e : Engine) (c : Fin 8)
  /-- SWAB (R308). Exchanges the two bytes of the top. -/
  | awlSwab (d : Die) (e : Engine) (c : Fin 8)
  /-- SEXT8 (R308). Sign-extends the low byte. -/
  | awlSext8 (d : Die) (e : Engine) (c : Fin 8)
  /-- ZEXT8 (R308). Zero-extends the low byte. -/
  | awlZext8 (d : Die) (e : Engine) (c : Fin 8)
  /-- SHL (R309). Immediate logical left shift. -/
  | awlShl (d : Die) (e : Engine) (c : Fin 8) (k : Fin 16)
  /-- SHR (R309). Immediate logical right shift. -/
  | awlShr (d : Die) (e : Engine) (c : Fin 8) (k : Fin 16)
  /-- SAR (R309). Immediate arithmetic right shift. -/
  | awlSar (d : Die) (e : Engine) (c : Fin 8) (k : Fin 16)
  /-- ROL (R309). Immediate rotate left. -/
  | awlRol (d : Die) (e : Engine) (c : Fin 8) (k : Fin 16)
  /-- SHLV (R309). Variable logical left shift. -/
  | awlShlv (d : Die) (e : Engine) (c : Fin 8)
  /-- SHRV (R309). Variable logical right shift. -/
  | awlShrv (d : Die) (e : Engine) (c : Fin 8)
  /-- SARV (R309). Variable arithmetic right shift. -/
  | awlSarv (d : Die) (e : Engine) (c : Fin 8)
  /-- ROLV (R309). Variable rotate left. -/
  | awlRolv (d : Die) (e : Engine) (c : Fin 8)
  /-- MUL (R346). Starts an unsigned multiply into the accumulator. -/
  | awlMul (d : Die) (e : Engine) (c : Fin 8)
  /-- MULS (R346). Starts a signed multiply into the accumulator. -/
  | awlMuls (d : Die) (e : Engine) (c : Fin 8)
  /-- MACC (R346). Starts an unsigned multiply-accumulate. -/
  | awlMacc (d : Die) (e : Engine) (c : Fin 8)
  /-- MACCS (R346). Starts a signed multiply-accumulate. -/
  | awlMaccs (d : Die) (e : Engine) (c : Fin 8)
  /-- MCLR (R346). Clears the accumulator. -/
  | awlMclr (d : Die) (e : Engine) (c : Fin 8)
  /-- LIT (R306). Pushes an 11-bit sign-extended literal. -/
  | awlLit (d : Die) (e : Engine) (c : Fin 8) (v : BitVec 11)
  /-- LITX (R307). Shifts the top left by 4 and inserts a nibble. -/
  | awlLitx (d : Die) (e : Engine) (c : Fin 8) (n : Fin 16)
  /-- BTST (R302). Tests bit b of the top into T. -/
  | awlBtst (d : Die) (e : Engine) (c : Fin 8) (b : Fin 16)
  /-- TEQ (R302). Tests equality into T. -/
  | awlTeq (d : Die) (e : Engine) (c : Fin 8)
  /-- TNE (R302). Tests inequality into T. -/
  | awlTne (d : Die) (e : Engine) (c : Fin 8)
  /-- TLTU (R302). Tests unsigned less-than into T. -/
  | awlTltu (d : Die) (e : Engine) (c : Fin 8)
  /-- TLTS (R302). Tests signed less-than into T. -/
  | awlTlts (d : Die) (e : Engine) (c : Fin 8)
  /-- TGEU (R302). Tests unsigned greater-or-equal into T. -/
  | awlTgeu (d : Die) (e : Engine) (c : Fin 8)
  /-- TGES (R302). Tests signed greater-or-equal into T. -/
  | awlTges (d : Die) (e : Engine) (c : Fin 8)
  /-- TZ (R302). Tests the top for zero into T. -/
  | awlTz (d : Die) (e : Engine) (c : Fin 8)
  /-- TT (R302). Copies NOT T into Z. -/
  | awlTt (d : Die) (e : Engine) (c : Fin 8)
  /-- TEQ2 (R302). Tests 32-bit equality into T. -/
  | awlTeq2 (d : Die) (e : Engine) (c : Fin 8)
  /-- TLTU2 (R302). Tests 32-bit unsigned less-than into T. -/
  | awlTltu2 (d : Die) (e : Engine) (c : Fin 8)
  /-- TIN (R302). Tests an unsigned range into T. -/
  | awlTin (d : Die) (e : Engine) (c : Fin 8)
  /-- TSET (R302). Sets T. -/
  | awlTset (d : Die) (e : Engine) (c : Fin 8)
  /-- TCLR (R302). Clears T. -/
  | awlTclr (d : Die) (e : Engine) (c : Fin 8)
  /-- RET (R305). Returns to the popped return address. -/
  | awlRet (d : Die) (e : Engine) (c : Fin 8)
  /-- CALLS (R315). Calls the address popped from the operand stack. -/
  | awlCalls (d : Die) (e : Engine) (c : Fin 8)
  /-- JMPS (R315). Jumps to the address popped from the operand stack. -/
  | awlJmps (d : Die) (e : Engine) (c : Fin 8)
  /-- BR (R314). Relative branch under its condition. -/
  | awlBr (d : Die) (e : Engine) (c : Fin 7) (off : BitVec 11)
  /-- CALL (R314). Unconditional relative call. -/
  | awlCall (d : Die) (e : Engine) (off : BitVec 11)
  /-- WAIT (R263). Drains the store buffer, releases the group and receive frame, then resumes on a pending event or sleeps. -/
  | awlWait (d : Die) (e : Engine) (c : Fin 8)
  /-- ENGINE_WAKE (R263). A sleeping engine wakes when an enabled event becomes pending, binding a queued frame for frame events. -/
  | engineWake (d : Die) (e : Engine)
  /-- RETT (R287). Trap return restores FLAGS, clears IN_TRAP and resumes at TRAP_PC. -/
  | awlRett (d : Die) (e : Engine) (c : Fin 8)
  /-- TRAP (R312). Takes the SOFTWARE trap. -/
  | awlTrap (d : Die) (e : Engine) (c : Fin 8)
  /-- SYNC (R344). Completes only when the store buffer is empty. -/
  | awlSync (d : Die) (e : Engine) (c : Fin 8)
  /-- MRX (R313). Pops a mailbox word if any and sets T. -/
  | awlMrx (d : Die) (e : Engine) (c : Fin 8)
  /-- MTX (R313). Pushes a word onto the outbound mailbox queue. -/
  | awlMtx (d : Die) (e : Engine) (c : Fin 8)
  /-- LD (R316). Loads a word from the engine word map. -/
  | awlLd (d : Die) (e : Engine) (c : Fin 8) (o : Fin 64)
  /-- ST (R316). Stores a word to the engine word map. -/
  | awlSt (d : Die) (e : Engine) (c : Fin 8) (o : Fin 64)
  /-- LD2 (R317). Loads a pair of words after checking both. -/
  | awlLd2 (d : Die) (e : Engine) (c : Fin 8) (o : Fin 64)
  /-- ST2 (R317). Stores a pair of words after checking both. -/
  | awlSt2 (d : Die) (e : Engine) (c : Fin 8) (o : Fin 64)
  /-- LDZ (R320). Loads private word n. -/
  | awlLdz (d : Die) (e : Engine) (c : Fin 8) (n : Fin 64)
  /-- STZ (R320). Stores private word n. -/
  | awlStz (d : Die) (e : Engine) (c : Fin 8) (n : Fin 64)
  /-- LDS (R320). Loads a special register. -/
  | awlLds (d : Die) (e : Engine) (c : Fin 8) (r : Fin 64)
  /-- STS (R320). Stores a special register without its own row. -/
  | awlSts (d : Die) (e : Engine) (c : Fin 8) (r : Fin 64)
  /-- FLD (R321). Rotated frame-window load. -/
  | awlFld (d : Die) (e : Engine) (c : Fin 8) (fmt : Fin 64)
  /-- FST (R321). Rotated frame-window store. -/
  | awlFst (d : Die) (e : Engine) (c : Fin 8) (fmt : Fin 64)
  /-- VLD (R324). Rotated Vat-window load. -/
  | awlVld (d : Die) (e : Engine) (c : Fin 8) (fmt : Fin 64)
  /-- VST (R324). Rotated Vat-window store. -/
  | awlVst (d : Die) (e : Engine) (c : Fin 8) (fmt : Fin 64)
  /-- CRC (R332). Updates a CRC state by data bytes under a preset. -/
  | awlCrc (d : Die) (e : Engine) (c : Fin 8) (fmt : Fin 64)
  /-- COMMIT (R333). Adds one commit from a private commit block to the open group. -/
  | awlCommit (d : Die) (e : Engine) (c : Fin 8) (n : Fin 64)
  /-- RDREC (R326). Copies one whole record into private words in one line read. -/
  | awlRdrec (d : Die) (e : Engine) (c : Fin 8) (n : Fin 64)
  /-- BFX (R329). Extracts an unsigned bit field. -/
  | awlBfx (d : Die) (e : Engine) (c : Fin 8) (p : Fin 16) (w : Fin 16)
  /-- BFI (R330). Inserts a bit field. -/
  | awlBfi (d : Die) (e : Engine) (c : Fin 8) (p : Fin 16) (w : Fin 16)
  /-- ILLEGAL_WORD (R299). An undefined encoding takes the ILLEGAL trap whatever its condition. -/
  | illegalWord (d : Die) (e : Engine)
  /-- FW_RELEASE (R270). FW_CTRL CMD RELEASE releases the bound receive frame. -/
  | fwRelease (d : Die) (e : Engine)
  /-- FW_HOLD (R270). FW_CTRL CMD HOLD keeps the receive frame across WAIT. -/
  | fwHold (d : Die) (e : Engine)
  /-- FW_REQUEUE (R270). FW_CTRL CMD REQUEUE puts the receive frame back on queue QSEL. -/
  | fwRequeue (d : Die) (e : Engine) (q : Fin 4)
  /-- FW_ALLOC (R524). FW_CTRL CMD ALLOC charges cells and binds a zeroed transmit frame, or sets NOCELL. -/
  | fwAlloc (d : Die) (e : Engine)
  /-- FW_SEND (R525). FW_CTRL CMD SEND checks the egress grant and hands the transmit frame to the switch core. -/
  | fwSend (d : Die) (e : Engine)
  /-- FW_DISCARD (R344). FW_CTRL CMD DISCARD drops the transmit frame and its buffered stores. -/
  | fwDiscard (d : Die) (e : Engine)
  /-- SIGNAL (R256). A write to SIGNAL raises SIG on the named engines of the cluster. -/
  | signal (d : Die) (e : Engine) (mask : Nat)
  /-- TMR_WRITE (R256). A write to TMR arms or disarms the engine timer. -/
  | tmrWrite (d : Die) (e : Engine) (us : Word16)
  /-- TIMER_EXPIRE (R262). The TMR interval elapses and TIMER becomes pending. -/
  | timerExpire (d : Die) (e : Engine)
  /-- MBX_RX (R256). A read of MBX_RX pops the oldest inbound word or sets RX_UNDER. -/
  | mbxRx (d : Die) (e : Engine)
  /-- MBX_TX (R256). A write of MBX_TX pushes an outbound word or traps MBX_FULL. -/
  | mbxTx (d : Die) (e : Engine) (w : Word16)
  /-- CREFUSED (R256). A read of CREFUSED returns and clears the refusal count and FIRST_REASON. -/
  | crefused (d : Die) (e : Engine)
  /-- NOW_LATCH (R256). A read of NOW0 latches all 64 bits of the die time base. -/
  | nowLatch (d : Die) (e : Engine)
  /-- TRAP_PC_WRITE (R256). A write to TRAP_PC sets the resume address only while IN_TRAP is 1. -/
  | trapPcWrite (d : Die) (e : Engine) (pc : Word16)
  /-- STORE_DRAIN (R340). The oldest store-buffer entry drains and becomes visible. -/
  | storeDrain (d : Die) (e : Engine)
  /-- TRAP_ENTRY (R286). A non-fatal trap writes the trap frame, sets IN_TRAP and continues at the trap vector. -/
  | trapEntry (d : Die) (e : Engine)
  /-- FATAL_TRAP (R289). A fatal trap logs, resets the engine, discards the open group and writes a class 2 record. -/
  | fatalTrap (d : Die) (e : Engine)
  /-- RUN_LIMIT (R266). An engine running LIMIT_US without WAIT takes RUN_LIMIT, or RUN_LIMIT2 the second time. -/
  | runLimit (d : Die) (e : Engine)
  /-- FETCH_UE (R255). An uncorrectable instruction fetch takes the fatal trap and requests a cluster reset. -/
  | fetchUe (d : Die) (e : Engine)
  /-- ENGINE_RESET (R291). A write of AWL_ENG_CTRL.RESET resets one engine with the effects of the Reset effects table. -/
  | engineReset (d : Die) (e : Engine)
  /-- CLUSTER_RESET (R291). A write of AWL_CL_CTRL.RESET resets a cluster, its frames, banks and queues. -/
  | clusterReset (d : Die) (k : Unit8) (conns : List (Nat × Nat × Nat))
  /-- ENGINE_RESET_DONE (R290). Reset completes and the engine starts at word 0 of a bank holding a pack. -/
  | engineResetDone (d : Die) (e : Engine)
  /-- IBANK_TEST (R281). IBANK_OP TEST runs March C- over an unselected instruction bank. -/
  | ibankTest (d : Die) (k : Unit8) (b : Fin 2)
  /-- IBANK_CLEAR (R281). IBANK_OP CLEAR zeroes an unselected instruction bank. -/
  | ibankClear (d : Die) (k : Unit8) (b : Fin 2)
  /-- IBANK_RELOAD (R281). IBANK_OP RELOAD writes the cluster's pack from CURRENT into an unselected bank. -/
  | ibankReload (d : Die) (k : Unit8) (b : Fin 2)
  /-- IBANK_DONE (R282). An instruction-bank operation ends and sets IBANK_RESULT and IBANK_DONE. -/
  | ibankDone (d : Die) (k : Unit8) (fault : Bool)
  /-- PDU_DELIVER (R382). The transport pack delivers a complete application PDU as a frame to the application cluster queue. -/
  | pduDeliver (d : Die) (c : Unit8) (q : Fin 4) (pdu : Pdu)
  /-- FRAMING_ERR (R383). A TCP stream that breaks its framing rule is reset and counted. -/
  | framingErr (d : Die)
  /-- TCP_SYN_REFUSED (R385). A SYN finding the connection table or backlog full is answered with a reset. -/
  | tcpSynRefused (d : Die)
  /-- COMMAND_TIMEOUT (R378). A command without a RESULT in time is answered negatively and reported with RESULT 3. -/
  | commandTimeout (d : Die) (e : Engine) (dpi : BitVec 20) (token : Word16)
  /-- PARTIAL_MESSAGE_TIMEOUT (R379). Fewer than 8 words queued 1 ms after the first are discarded and counted. -/
  | partialMessageTimeout (d : Die) (e : Engine)
  /-- FRAME_RECEIVE (R405). A received Ethernet frame passes the receive steps in order and is dropped or passed to the switch map. -/
  | frameReceive (d : Die) (p : Unit8) (bytes : List Byte) (symErr : Bool) (fcsOk : Bool) (red : Option RedTag)
  /-- PAUSE_EXPIRE (R436). A pause time elapses and the paused queues resume. -/
  | pauseExpire (d : Die) (p : Unit8) (q : Fin 9)
  /-- PAUSE_WATCHDOG (R439). A pause continuously in force for PAUSE_WD_MS is broken and received pause is ignored for a hold-off. -/
  | pauseWatchdog (d : Die) (p : Unit8) (q : Fin 9)
  /-- PAUSE_HOLDOFF_END (R439). The hold-off ends and received pause frames are obeyed again. -/
  | pauseHoldoffEnd (d : Die) (p : Unit8)
  /-- DUP_KEY_EXPIRE (R419). A duplicate-discard key leaves the table AGE_MS after insertion. -/
  | dupKeyExpire (d : Die) (k : Fin 4) (sa : Nat) (seq : Nat)
  /-- SUPERVISION_SEND (R423). Every SUP_MS the pair sends a supervision frame on both ports. -/
  | supervisionSend (d : Die) (k : Fin 4)
  /-- LINK_UP (R401). A port's link comes up when mode, negotiation and PCS lock succeed. -/
  | linkUp (d : Die) (p : Unit8) (r : LinkResult)
  /-- LINK_DOWN (R402). A link going down ends transmission, releases queued frames and writes a port record. -/
  | linkDown (d : Die) (p : Unit8)
  /-- RESTART_AN (R401). A write of RESTART_AN takes the link down and restarts auto-negotiation in negotiating modes. -/
  | restartAn (d : Die) (p : Unit8)
  /-- ADMIN_DOWN (R401). A write of ETH_PORT_CTRL.ADMIN_DOWN holds the link down or releases it. -/
  | adminDown (d : Die) (p : Unit8) (v : Bool)
  /-- EGRESS_SELECT (R427). When the port is idle and the gap elapsed, it selects and starts the next eligible head frame. -/
  | egressSelect (d : Die) (p : Unit8)
  /-- QUEUE_HEAD_ARRIVE (R429). A frame reaching its queue head is checked for length, far launch time and gate fit. -/
  | queueHeadArrive (d : Die) (p : Unit8) (q : Unit8)
  /-- TX_END (R402). A transmitted frame ends at the port, its cells are freed and its engine receives TXDONE. -/
  | txEnd (d : Die) (p : Unit8)
  /-- GATE_ENTRY_CHANGE (R432). At the end of a gate-list interval the next entry's gate states apply. -/
  | gateEntryChange (d : Die) (p : Unit8)
  /-- CUT_THROUGH_START (R528). Once 64 bytes are in cells, an eligible frame starts cut-through on its egress port. -/
  | cutThroughStart (d : Die) (p : Unit8) (first : List Byte)
  /-- SERIAL_FRAME_RECEIVE (R455). A serial frame is checked, stamped, filtered and passed to the switch core or dropped. -/
  | serialFrameReceive (d : Die) (p : Unit8) (rx : SerRx) (edgePs : Nat)
  /-- UART_FRAME_END (R456). An idle of the configured length after a stop bit ends a UART frame. -/
  | uartFrameEnd (d : Die) (p : Unit8) (chars : List (BitVec 9)) (bad : Bool) (gap : Bool) (edgePs : Nat)
  /-- SERIAL_TX_START (R463). The serial FIFO head starts at bus or line idle, at or after its launch time. -/
  | serialTxStart (d : Die) (p : Unit8)
  /-- SERIAL_TX_END (R464). A serial frame ends sent, or lost arbitration or error leads to retry or ONE_SHOT release. -/
  | serialTxEnd (d : Die) (p : Unit8) (out : SerTxOutcome)
  /-- SERIAL_FIFO_ENTER (R462). An accepted serial frame enters the FIFO or an exclusive buffer, or is dropped as full or bad. -/
  | serialFifoEnter (d : Die) (p : Unit8)
  /-- BUS_OFF (R461). A CAN port entering bus-off stops transmitting and may start recovery. -/
  | busOff (d : Die) (p : Unit8)
  /-- RECOVER (R461). A write of SER_PORT_CTRL.RECOVER starts bus-off recovery. -/
  | recover (d : Die) (p : Unit8)
  /-- BUS_OFF_RECOVERY_DONE (R461). Recovery completes, counters clear and the port is error active. -/
  | busOffRecoveryDone (d : Die) (p : Unit8)
  /-- ABORT_HEAD (R467). A write of ABORT_HEAD releases the FIFO head or marks it for release at its end. -/
  | abortHead (d : Die) (p : Unit8)
  /-- INV_LONG (R466). An inversion episode reaching INV_LIMIT_US sets INV_LONG. -/
  | invLong (d : Die) (p : Unit8)
  /-- DETECT_START (R470). A write of DETECT_START enters DETECT once any frame in transmission ends. -/
  | detectStart (d : Die) (p : Unit8)
  /-- DETECT_DONE (R469). Rate detection ends with a result and the port enters LISTEN. -/
  | detectDone (d : Die) (p : Unit8) (shortest : Option Nat) (frames : Bool)
  /-- GO (R470). A write of SER_PORT_CTRL.GO moves a CAN port from LISTEN to ACTIVE. -/
  | go (d : Die) (p : Unit8)
  /-- TTCAN_REFERENCE_SEND (R473). The current time master starts a reference message at each cycle instant. -/
  | ttcanReferenceSend (d : Die) (p : Unit8)
  /-- TTCAN_REFERENCE_RX (R474). A received reference message times the triggers and may demote the current master. -/
  | ttcanReferenceRx (d : Die) (p : Unit8) (prio : Unit8) (cycle : Fin 64)
  /-- TTCAN_WATCH_EXPIRE (R474). A potential master without a reference by WATCH_NS sends its own. -/
  | ttcanWatchExpire (d : Die) (p : Unit8) (won : Bool)
  /-- TTCAN_TRIGGER (R475). A TX_EXCL, ARB_START, ARB_END or RX_CHECK trigger acts at its offset. -/
  | ttcanTrigger (d : Die) (p : Unit8) (k : Fin 64) (idle : Bool)
  /-- TTCAN_SYNC_LOSS (R475). No reference for 3 basic cycles clears SYNC and stops the triggers. -/
  | ttcanSyncLoss (d : Die) (p : Unit8)
  /-- TT_BUFFER_LATCH (R491). 2 µs before a window opens the group latches the window buffer. -/
  | ttBufferLatch (d : Die) (w : Fin 32)
  /-- TT_CELL_START (R492). In each own cell the node starts its frame or a null frame, or counts a miss. -/
  | ttCellStart (d : Die) (w : Fin 32) (busyA : Bool) (busyB : Bool)
  /-- TT_ARB_STEP (R494). In an arbitrating window the step counter advances and the queued frame of matching priority starts. -/
  | ttArbStep (d : Die) (ch : Fin 2) (w : Fin 32)
  /-- TT_FRAME_RECEIVE (R495). A received time-triggered frame is checked and delivered as first valid copy or dropped. -/
  | ttFrameReceive (d : Die) (ch : Fin 2) (b : Fin 4) (rx : TtRx)
  /-- TT_CLOCK_CORRECTION (R487). Offset and rate corrections are computed per cycle and double cycle and applied within limits. -/
  | ttClockCorrection (d : Die)
  /-- TT_STATE_CHANGE (R489). The group moves between its states on startup, sync and failure events. -/
  | ttStateChange (d : Die) (ev : TtEvent)
  /-- TT_LISTEN_TIMEOUT (R489). A coldstart node silent for LISTEN_US with attempts left enters COLDSTART. -/
  | ttListenTimeout (d : Die)
  /-- BRIDLE_VIOLATION (R500). A branch violating the matrix is cut off within 100 ns and recorded. -/
  | bridleViolation (d : Die) (ch : Fin 2) (b : Fin 4) (kind : Fin 3)
  /-- BRIDLE_READMIT (R501). At a basic cycle start a branch with READMIT clean cycles, or an owner readmit, is readmitted. -/
  | bridleReadmit (d : Die)
  /-- TT_CUT (R501). A write of TTE_BR_CTRL.CUT cuts off a branch at once. -/
  | ttCut (d : Die) (ch : Fin 2) (b : Fin 4)
  /-- TT_READMIT (R501). A write of TTE_BR_CTRL.READMIT readmits a branch at the next cycle start. -/
  | ttReadmit (d : Die) (ch : Fin 2) (b : Fin 4)
  /-- TT_RESTART (R489). A write of TTE_CTRL.RESTART moves the group from HALT to LISTEN. -/
  | ttRestart (d : Die)
  /-- TT_SEND (R490). A transmit frame to the group fills a window buffer or arbitrating queue, or is dropped as bad. -/
  | ttSend (d : Die)
  /-- SCHEDULER_ROUND (R518). A matching round grants and accepts input-output pairs and moves head frames to outputs. -/
  | schedulerRound (d : Die)
  /-- CAPTURE_RECORD (R527). The recorder writes a capture record of a frame and releases its hold. -/
  | captureRecord (d : Die)
  /-- CT_UNDERRUN (R531). An egress port reaching an unwritten cut-through line ends the frame with an inverted FCS. -/
  | ctUnderrun (d : Die) (p : Unit8)
  /-- COMMIT_QUEUE_WAIT_END (R532). An engine waiting for room in the commit queue releases its group once it fits. -/
  | commitQueueWaitEnd (d : Die) (e : Engine)
  /-- HCQ_WAIT_END (R534). A writer waiting on a full host completion queue writes its entry once a slot frees. -/
  | hcqWaitEnd (d : Die)
  /-- LEAK_AUDIT (R540). Every 10 ms the detector audits cells and owner counts and confirms or reclaims findings. -/
  | leakAudit (d : Die)
  /-- TSH_RATE_WRITE (R538). A write of SWC_TSH_RATE keeps the shaper level and applies the new refill rate. -/
  | tshRateWrite (d : Die) (k : Fin 256) (rate : Word32)
  /-- SERVO_MEASUREMENT (R555). A measurement of the selected source is judged as jump or accepted and steers RATE. -/
  | servoMeasurement (src : Fin 4) (ofs : Int)
  /-- SOURCE_SELECT (R554). A source becoming valid or lost makes the servo re-select. -/
  | sourceSelect (src : Fin 4) (valid : Bool)
  /-- ACCEPT (R561). TIM_CTRL.CMD ACCEPT in REFUSED schedules a step by TIM_OFFSET. -/
  | accept
  /-- STEP (R561). TIM_CTRL.CMD STEP schedules a step by TIM_STEP. -/
  | step
  /-- RELOCK (R581). TIM_CTRL.CMD RELOCK, or a reference change or loss, relocks the time PLL. -/
  | relock
  /-- RELOCK_DONE (R582). The time PLL relock completes and gated islands are released. -/
  | relockDone
  /-- STEP_INSTANT (R562). At the step instant every die applies the step together. -/
  | stepInstant (members : Fin 32)
  /-- PTP_MESSAGE_TX (R567). The time unit builds and queues a PTP message in egress queue PTP_QUEUE. -/
  | ptpMessageTx (k : Fin 16) (msg : List Byte)
  /-- CAPTURE_EDGE (R572). An edge on a capture input stamps TIM_CAP_TIME and sets CAP. -/
  | captureEdge (d : Die) (n : Fin 4) (rising : Bool)
  /-- PPS_EDGE (R573). A PPS edge gives a measurement to the nearest whole second. -/
  | ppsEdge (d : Die) (n : Fin 4)
  /-- IRIG_FRAME (R574). A decoded IRIG frame paired with its on-time stamp gives a measurement. -/
  | irigFrame (d : Die) (n : Fin 4) (frame : IrigFrame)
  /-- FREQ_INPUT_LOSS (R576). A FREQ input without edges for 1 µs is lost and the PLL falls back to XIN. -/
  | freqInputLoss (d : Die) (n : Fin 4)
  /-- SOURCE_LOSS_TIMEOUT (R553). A source with no valid edge, frame or SLAVE port within its limit is lost. -/
  | sourceLossTimeout (src : Fin 4)
  /-- PULSE_START (R577). A pulse output starts a pulse at a grid time. -/
  | pulseStart (d : Die) (n : Fin 4)
  /-- PULSE_END (R578). A pulse ends WIDTH after it started on TIM_MONO. -/
  | pulseEnd (d : Die) (n : Fin 4)
  /-- PULSE_ARM (R578). A write of ARM applies the held pulse parameters at the next inactive level. -/
  | pulseArm (d : Die) (n : Fin 4)
  /-- CLKOUT_FREQ_WRITE (R583). A change of CLKOUT frequency finishes the high phase and restarts on the new grid. -/
  | clkoutFreqWrite (freq : Nat)
  /-- LACE_STEP (R598). At a step tick a running lace engine applies one table entry or stalls. -/
  | laceStep (d : Die) (engines : List Nat) (pins : Nat) (caps : Nat)
  /-- CUE_START (R608). LCE_CUE ACT START starts named stopped engines at the cue edge. -/
  | cueStart (d : Die) (mask : Nat) (delay : Fin 512)
  /-- CUE_REPHASE (R608). LCE_CUE ACT REPHASE sets step 0 of named running engines at the cue edge. -/
  | cueRephase (d : Die) (mask : Nat) (delay : Fin 512)
  /-- CUE_START_REPHASE (R608). LCE_CUE ACT START_REPHASE starts or rephases named engines at one cue edge. -/
  | cueStartRephase (d : Die) (mask : Nat) (delay : Fin 512)
  /-- CUE_STOP (R608). LCE_CUE ACT STOP halts named engines at the cue edge. -/
  | cueStop (d : Die) (mask : Nat) (delay : Fin 512)
  /-- CUE_RESET (R608). LCE_CUE ACT RESET stops named engines and returns them to INIT with empty FIFOs. -/
  | cueReset (d : Die) (mask : Nat) (delay : Fin 512)
  /-- CUE_EDGE (R608). A delayed cue reaches its cue edge and acts on its engines. -/
  | cueEdge (d : Die)
  /-- LACE_AUTOSTART (R609). Loaded AUTOSTART engines start at INIT, groups together once every member is loaded. -/
  | laceAutostart (d : Die)
  /-- LCE_IN_FIFO (R604). A write to LCE_IN_FIFO pushes a word or sets IN_OVF. -/
  | lceInFifo (d : Die) (e : Unit16) (word : Nat)
  /-- LCE_OUT_FIFO (R605). A read of LCE_OUT_FIFO pops the oldest word or reports empty. -/
  | lceOutFifo (d : Die) (e : Unit16)
  /-- LCE_LOOP_WRITE (R599). A write to LCE_LOOP or LCE_LOOPDEF changes loop selection or bounds from a later tick. -/
  | lceLoopWrite (d : Die) (e : Unit16) (sel : Option Nat) (loop : Option (Nat × Nat × Nat))
  /-- LCE_DIV_WRITE (R603). A write to LCE_DIV changes the divider keeping the last step tick. -/
  | lceDivWrite (d : Die) (e : Unit16) (div : Nat)
  /-- LCE_FLAGS_WRITE (R600). A write to LCE_FLAGS sets region flags, overridden by engine writes at the same edge. -/
  | lceFlagsWrite (d : Die) (flags : Nat)
  /-- BAR0_ACCESS (R626). A BAR0 request reaches the control space of a die, or is refused. -/
  | bar0Access (p : Die) (r : HostReq) (env : WriteEnv)
  /-- BAR4_ACCESS (R626). A BAR4 request reads or writes the Vat or recorder buffer as master 40, checked. -/
  | bar4Access (p : Die) (off : Nat) (len : Nat) (write : Option (List Byte))
  /-- PORT_RESET (R621). FLR, hot reset, link down or PERST_N stops the port's channels and frees its contexts. -/
  | portReset (p : Die) (kind : Fin 4)
  /-- PAGE_GATHER (R636). PCI_PG_CMD OP GATHER reads COUNT records into the record window. -/
  | pageGather (p : Die) (t : Fin 4096) (n : Fin 128) (pasid : Option Nat)
  /-- PAGE_SCATTER (R637). PCI_PG_CMD OP SCATTER applies COUNT scatter elements as substitutions. -/
  | pageScatter (p : Die) (t : Fin 4096) (n : Fin 128) (pasid : Option Nat)
  /-- PAGE_RELEASE (R635). PCI_PG_CMD OP RELEASE frees the page's command context. -/
  | pageRelease (p : Die) (t : Fin 4096) (pasid : Option Nat)
  /-- CONTEXT_ALLOCATE (R634). A first write to a page's index list or record window takes a command context or sets NOCTX. -/
  | contextAllocate (p : Die) (t : Fin 4096) (off : Nat) (v : BitVec 32) (pasid : Option Nat)
  /-- CONTEXT_IDLE_EXPIRE (R635). A context idle for 100 ms is released. -/
  | contextIdleExpire (p : Die) (t : Fin 4096)
  /-- NOTICE_WINDOW_RD (R642). A write of PCI_PG_NCH_IDX.RD advances the channel's read index if allowed. -/
  | noticeWindowRd (p : Die) (t : Fin 4096) (rd : Fin 512) (pasid : Option Nat)
  /-- MBX_PG_TX (R645). A host word to MBX_PG_TX enters the inbound queue or is dropped on overrun. -/
  | mbxPgTx (p : Die) (t : Fin 4096) (k : Unit16) (w : BitVec 16) (pasid : Option Nat)
  /-- MBX_PG_RX (R644). A read of MBX_PG_RX pops the oldest outbound word. -/
  | mbxPgRx (p : Die) (t : Fin 4096) (k : Unit16) (pasid : Option Nat)
  /-- MBX_PG_BELL (R648). A write of MBX_PG_BELL raises DOORBELL on the bound engine. -/
  | mbxPgBell (p : Die) (t : Fin 4096) (k : Unit16) (pasid : Option Nat)
  /-- DMA_PI_WRITE (R651). A write of DMA_PG_PI makes new descriptors available to the channel. -/
  | dmaPiWrite (p : Die) (t : Fin 4096) (j : Unit8) (pi : Fin 4096) (pasid : Option Nat)
  /-- DMA_DESCRIPTOR_START (R654). The channel reads and validates its next descriptor and starts it. -/
  | dmaDescriptorStart (d : Die) (ch : Fin 32) (bytes : Option (List Byte))
  /-- DMA_BURST (R654). A channel moves one burst, line, element or record of its descriptor. -/
  | dmaBurst (d : Die) (ch : Fin 32) (host : Option (List Byte))
  /-- DMA_DESCRIPTOR_END (R661). A descriptor ends and its status record enters the host completion queue. -/
  | dmaDescriptorEnd (d : Die) (ch : Fin 32)
  /-- DMA_ABORT (R666). A write of ABORT stops the channel after the burst in progress with status ABORTED. -/
  | dmaAbort (d : Die) (ch : Fin 32)
  /-- DMA_CH_RESET (R661). A write of DMA_CH_CTRL.RESET stops the channel with code RESET and clears its ring. -/
  | dmaChReset (d : Die) (ch : Fin 32)
  /-- DMA_ENABLE (R662). A write of ENABLE starts or restarts a channel. -/
  | dmaEnable (p : Die) (t : Fin 4096) (j : Unit8) (v : BitVec 32) (pasid : Option Nat)
  /-- CIRCULAR_RECORD (R658). A CIRCULAR channel writes one frame of its host receive queue as a ring record. -/
  | circularRecord (d : Die) (ch : Fin 32)
  /-- CIRCULAR_CRD_WRITE (R659). A write of DMA_PG_CRD frees ring space and may resume a paused channel. -/
  | circularCrdWrite (p : Die) (t : Fin 4096) (j : Unit8) (rd : Nat) (pasid : Option Nat)
  /-- HCQ_DRAIN (R663). The HOST port drains one completion-queue slot, writing status and sending its interrupt. -/
  | hcqDrain (d : Die)
  /-- STORE_BUCKET_WAIT_END (R735). An element waiting on an empty tenant or default store bucket proceeds once a token is available. -/
  | storeBucketWaitEnd (d : Die) (w : BucketWaiter)
  /-- RECORD_SUBMIT (R675). A submitted record is assigned the next SEQ and stored or lost, or refused. -/
  | recordSubmit (d : Die) (sub : Option Submission)
  /-- MARK_TICK (R681). At each 1 ms of TIM_MONO the recorder writes pending LOSS records and a periodic mark. -/
  | markTick (d : Die)
  /-- TIME_EVENT_MARK (R681). A time event (servo change, relock, skew, reset, RETAIN exit) is marked in the stream. -/
  | timeEventMark (d : Die) (cause : TimeMark)
  /-- SNAP_TAKE (R690). A write of ERC_SNAP.TAKE writes pending losses and holds a range of blocks. -/
  | snapTake (d : Die) (k : Fin 4)
  /-- SNAP_RELEASE (R690). A write of ERC_SNAP.RELEASE releases the snapshot. -/
  | snapRelease (d : Die) (k : Fin 4)
  /-- SEGMENT_CLOSE (R693). A segment closes after 15 blocks or FLUSH_MS and is written to the archive. -/
  | segmentClose (d : Die)
  /-- FLUSH (R693). A write of ERC_CTRL.FLUSH closes the current block and segment now. -/
  | flush (d : Die)
  /-- NVME_WRITE_DONE (R695). A segment Write completes with success, flushing its blocks, or with error. -/
  | nvmeWriteDone (d : Die) (tag : Nat) (ok : Bool)
  /-- NVME_WRITE_TIMEOUT (R695). A Write without completion in 100 ms is treated as failed and retried. -/
  | nvmeWriteTimeout (d : Die) (tag : Nat)
  /-- ARCHIVE_RETRY_TIMER (R695). In archive fault the recorder resets the controller and retries every 1 s. -/
  | archiveRetryTimer (d : Die)
  /-- ARC_RETRY (R695). A write of ERC_CTRL.ARC_RETRY retries the archive at once. -/
  | arcRetry (d : Die)
  /-- ARC_ADOPT (R698). A write of ERC_CTRL.ARC_ADOPT adopts a foreign partition from its start at GEN 0. -/
  | arcAdopt (d : Die)
  /-- ERC_ALARM_CLR (R687). A write of ERC_CTRL.ALARM_CLR while C0_OVF is 0 releases the recorder's hold on ALARM_N. -/
  | ercAlarmClr (d : Die)
  /-- LAST_GASP (R700). PFAIL_N, SAFE_N or a package-reset decision starts the last gasp of unflushed records. -/
  | lastGasp (cause : GaspCause)
  /-- LAST_GASP_END (R702). The last gasp ends at its budget or when all is written, setting GASP_DONE. -/
  | lastGaspEnd (written : Nat)
  /-- BOOT_CONTINUATION (R705). At the first RECORDER apply after power-up the recorder imports, accounts losses and continues each stream. -/
  | bootContinuation (missing : List MissingLoss) (foreign : List Nat)
  /-- CLR_NONCE (R708). A read of ERC_CLR_NONCE issues a new nonce. -/
  | clrNonce
  /-- NONCE_EXPIRE (R708). A nonce not used within 60 s expires. -/
  | nonceExpire
  /-- CLEAR_GO (R709). ERC_CLR_CTRL.GO checks the clear token and removes records up to UPTO. -/
  | clearGo (cut : Option Nat)
  /-- BIND (R729). TEN_CTRL.CMD BIND checks a signed token and binds a tenant's ports and PASID. -/
  | bind
  /-- UNBIND (R731). TEN_CTRL.CMD UNBIND clears a tenant's token binding. -/
  | unbind
  /-- RAISE_SEC (R749). TEN_CTRL.CMD RAISE_SEC raises the fused minimum security version. -/
  | raiseSec
  /-- ATTEST (R750). TEN_CTRL.CMD ATTEST writes a signed attestation report over a nonce. -/
  | attest
  /-- CMD_ACTIVE (R760). PWR_CTRL.CMD ACTIVE moves the package from TRIM or RETAIN to ACTIVE. -/
  | cmdActive
  /-- CMD_TRIM (R760). PWR_CTRL.CMD TRIM raises the bound and steps VCORE down to TRIM_MV. -/
  | cmdTrim
  /-- CMD_RETAIN (R763). PWR_CTRL.CMD RETAIN enters RETAIN in its order. -/
  | cmdRetain
  /-- CMD_OFF_WAKE (R786). PWR_CTRL.CMD OFF_WAKE flushes, powers down and drops PWR_EN. -/
  | cmdOffWake
  /-- CMD_CYCLE (R786). PWR_CTRL.CMD CYCLE enters OFF-WAKE and wakes after CYCLE_MS. -/
  | cmdCycle
  /-- RETAIN_EXIT (R764). A wake or command leaves RETAIN in its order. -/
  | retainExit
  /-- VCORE_CODE_STEP (R759). When the previous step has settled after 50 µs, the VID code moves one step toward the target. -/
  | vcoreCodeStep (mvs : List (Fin 1024))
  /-- VCORE_SLOW (R900). A VCORE not within range 1 ms after a step sets VCORE_SLOW and the next step proceeds. -/
  | vcoreSlow (mv : Fin 1024)
  /-- ADAPT_STEP (R761). With ADAPT, pace above target for 10 ms steps VCORE down and pace below target steps it up. -/
  | adaptStep
  /-- VCORE_TARGET_WRITE (R893). A write of ACT_MV or TRIM_MV retargets VCORE at once or at the next entry. -/
  | vcoreTargetWrite (v : BitVec 32)
  /-- DOMAIN_FENCE (R766). The sequencer fences a domain, refusing requests to it from then on. -/
  | domainFence (d : Die) (n : Fin 50)
  /-- DOMAIN_DRAIN_END (R767). A fenced domain finishes draining and its power is removed. -/
  | domainDrainEnd (d : Die) (n : Fin 50)
  /-- DRAIN_FORCED (R768). A drain exceeding DRAIN_US is forced, in-flight requests withdrawn and power removed. -/
  | drainForced (d : Die) (n : Fin 50) (count : Nat)
  /-- DOMAIN_RAMP_DONE (R770). A domain's power ramp ends, reset is released, units reload and the fence is removed. -/
  | domainRampDone (d : Die) (n : Fin 50)
  /-- DEMAND_WAKE (R771). A wake request powers a DEMAND cluster up or leaves RETAIN. -/
  | demandWake (d : Die) (c : Unit8)
  /-- DEMAND_IDLE_EXPIRE (R772). A DEMAND cluster idle for IDLE_MS is fenced and powered down. -/
  | demandIdleExpire (d : Die) (c : Unit8)
  /-- SENTINEL_EXPIRE (R774). A wait reaching SENT_US is broken and its master takes its sentinel outcome. -/
  | sentinelExpire (d : Die) (m : Fin 105) (td : Die) (dom : Fin 50) (off : BitVec 32) (write : Bool) (accepted : Bool) (origin : Option (Die × Fin 102)) (obj : SentObj)
  /-- CROSSING_RESET_ACK (R785). A crossing reset is acknowledged by the live side, or forced idle after 2 µs. -/
  | crossingResetAck (d : Die) (n : Fin 50) (forced : Bool)
  /-- WAKE_SOURCE (R788). WAKE high, POM_CS_N falling or the CYCLE timer starts the wake sequence. -/
  | wakeSource (kind : Fin 3)
  /-- RAILS_GOOD (R789). All rail monitors read good and the wake sequence continues to boot. -/
  | railsGood
  /-- RAIL_GOOD_TIMEOUT (R789). Rails not good in 500 ms drop PWR_EN and retry after 1 s, up to 3 times. -/
  | railGoodTimeout
  /-- RAIL_UNDERVOLTAGE (R790). A rail below its threshold for 1 µs acts as PFAIL_N and is recorded. -/
  | railUndervoltage (d : Die) (rail : Fin 9) (mv : Nat)
  /-- RAIL_UV_TIMEOUT (R790). A rail not good again within 20 ms sends the package to OFF-WAKE. -/
  | railUvTimeout
  /-- XIN_LOSS (R783). The always-on domain reports loss of XIN within 10 µs. -/
  | xinLoss (d : Die)
  /-- POWER_ON_RESET (R791). VAON rising past its threshold drives PWR_EN high and starts up the part. -/
  | powerOnReset
  /-- VAON_LOSS (R760). VAON below its threshold puts the package in OFF. -/
  | vaonLoss
  /-- FAULT_DETECT (R796). A fault class occurrence or activation latches its bit and writes a FAULT record. -/
  | faultDetect (d : Die) (c : Unit16) (u : BitVec 16) (on : Bool)
  /-- RELOAD_FAIL (R800). A rung 2 reset overrunning its bound or failing to reload escalates one scope up. -/
  | reloadFail (d : Die) (scope : ResetScope)
  /-- PKG_RESET (R803). RCV_CTRL.CMD PKG_RESET or a rung 3 decision resets the package in order. -/
  | pkgReset
  /-- RESET_N_ASSERT (R804). RESET_N low for 1 µs is a rung 3 decision held at step 3 while low. -/
  | resetNAssert (short : Bool)
  /-- RESET_N_RELEASE (R804). RESET_N rising lets the package reset continue from step 4. -/
  | resetNRelease
  /-- RUNG4 (R805). RCV_CTRL.CMD RUNG4 or escalation power-cycles the package through PWR_EN. -/
  | rung4
  /-- RUNG4_OFF_EXPIRE (R805). After RUNG4_MS with PWR_EN low the wake sequence runs. -/
  | rung4OffExpire
  /-- UNIT_RST_GO (R799). RCV_UNIT_RST.GO requests a rung 2 reset of one unit. -/
  | unitRstGo (d : Die) (u : BitVec 16)
  /-- WDOG_EN (R806). A write of 1 to RCV_WDOG.EN starts the host watchdog. -/
  | wdogEn
  /-- WDOG_KICK (R806). A write of the key restarts the watchdog; any other value expires it. -/
  | wdogKick (key : BitVec 16)
  /-- WDOG_EXPIRE (R806). The host watchdog expires, latches WDOG and takes its action. -/
  | wdogExpire
  /-- QSTALL (R807). A cluster holding a frame STALL_MS without WAIT is reset. -/
  | qstall (d : Die) (c : Unit8)
  /-- SAFE_N_ASSERT (R810). SAFE_N low for 1 µs enters safe state. -/
  | safeNAssert
  /-- SAFE_SET (R810). RCV_CTRL.CMD SAFE_SET sets the safe request and enters safe state. -/
  | safeSet
  /-- SAFE_CLR (R810). RCV_CTRL.CMD SAFE_CLR clears the safe request. -/
  | safeClr
  /-- SAFE_EXIT (R812). RCV_CTRL.CMD SAFE_EXIT ends safe state when no cause remains. -/
  | safeExit
  /-- ALARM_CLR (R814). RCV_CTRL.CMD ALARM_CLR clears inactive latched classes and recorder alarms. -/
  | alarmClr
  /-- COND_CLR (R809). RCV_CTRL.CMD COND_CLR clears the COND bits. -/
  | condClr
  /-- TEMP_CONVERSION (R880). Every 100 µs each temperature sensor converts, feeding TEMP_HIGH and TEMP_CRIT. -/
  | tempConversion (d : Die) (k : Fin 5) (mC : Int)
  /-- TEMP_CRIT (R795). A sensor above 135 °C for 1 ms activates TEMP_CRIT and safe state. -/
  | tempCrit (d : Die) (on : Bool)
  /-- POMMEL_STATUS (R817). Pommel STATUS returns the status block. -/
  | pommelStatus (crc : BitVec 8)
  /-- POMMEL_FAULTS (R817). Pommel FAULTS returns the die fault block. -/
  | pommelFaults (die : BitVec 8) (crc : BitVec 8)
  /-- POMMEL_READ (R820). Pommel READ reads a control register as the owner. -/
  | pommelRead (die : BitVec 8) (off : BitVec 24) (crc : BitVec 8)
  /-- POMMEL_WRITE (R820). Pommel WRITE writes a control register as the owner. -/
  | pommelWrite (die : BitVec 8) (off : BitVec 24) (data : BitVec 32) (crc : BitVec 8) (env : WriteEnv)
  /-- POMMEL_MBX_PUT (R817). Pommel MBX_PUT pushes a word to an engine's inbound queue or NAKs. -/
  | pommelMbxPut (die : BitVec 8) (engine : BitVec 8) (w : BitVec 16) (crc : BitVec 8)
  /-- POMMEL_MBX_GET (R817). Pommel MBX_GET pops an outbound word of an engine. -/
  | pommelMbxGet (die : BitVec 8) (engine : BitVec 8) (crc : BitVec 8)
  /-- POMMEL_LOAD_BEGIN (R819). Pommel LOAD_BEGIN starts a Pommel image load or is refused. -/
  | pommelLoadBegin (len : BitVec 32) (crc : BitVec 8)
  /-- POMMEL_LOAD_DATA (R819). Pommel LOAD_DATA delivers the next 256 image bytes in order. -/
  | pommelLoadData (off : BitVec 32) (data : List Byte) (crc : BitVec 8)
  /-- POMMEL_LOAD_END (R819). Pommel LOAD_END finishes the load and returns its verification code. -/
  | pommelLoadEnd (img : Option Image) (inOrder : Bool) (crc : BitVec 8)
  /-- POMMEL_LOAD_TIMEOUT (R819). A Pommel load with no LOAD_DATA for 10 s ends with SOURCE_IO. -/
  | pommelLoadTimeout
  /-- POMMEL_SAFE (R817). Pommel SAFE sets or clears the safe request. -/
  | pommelSafe (on : BitVec 8) (crc : BitVec 8)
  /-- POMMEL_SAFE_EXIT (R812). Pommel SAFE_EXIT ends safe state or returns REFUSED. -/
  | pommelSafeExit (crc : BitVec 8)
  /-- POMMEL_RESET (R817). Pommel RESET requests a rung 2, 3 or 4 action. -/
  | pommelReset (rung : BitVec 8) (u : BitVec 16) (crc : BitVec 8)
  /-- POMMEL_ALARM_CLR (R817). Pommel ALARM_CLR clears inactive latched classes. -/
  | pommelAlarmClr (crc : BitVec 8)
  /-- WELT_PACKET_RX (R829). A welt packet arriving with good CRC in sequence is acknowledged; otherwise it is replayed. -/
  | weltPacketRx (d : Die) (k : Fin 3) (seq : Fin 128) (good : Bool)
  /-- WELT_RETRAIN (R830). Eight failed replays start a link retrain; repeated failures take the link down. -/
  | weltRetrain (d : Die) (k : Fin 3)
  /-- WELT_RETRAIN_DONE (R830). A link retrain completes or fails. -/
  | weltRetrainDone (d : Die) (k : Fin 3) (ok : Bool)
  /-- WELT_TRAINING (R831). Every used link trains at power-up, wake and package reset, or is DOWN after 10 ms. -/
  | weltTraining (d : Die) (k : Fin 3) (ok : Bool)
  /-- WELT_CREDIT_WAIT_END (R828). A transaction waiting for a channel credit proceeds when one returns. -/
  | weltCreditWaitEnd (d : Die) (k : Fin 3) (ns : Nat)
  /-- TIME_MESSAGE (R832). Every 16 µs die 0 sends a time message that steers each replica. -/
  | timeMessage (d : Die) (mag : Nat)
  /-- REIN_MESSAGE_RX (R837). A Rein message is forwarded, consumed or discarded by its destination. -/
  | reinMessageRx (up : Bool) (good : Bool) (kind : BitVec 8) (dst : Fin 32) (src : Fin 32) (payload : List Byte) (members : Fin 32) (env : WriteEnv)
  /-- REIN_RESET (R840). REI_CTRL.CMD REIN_RESET on the head, or a REIN_RESET message, clears addresses and re-enumerates. -/
  | reinReset (owner : Bool)
  /-- REIN_LINK_UP (R838). A Rein downstream link coming up sends ENUM offering the next address. -/
  | reinLinkUp (up : Bool)
  /-- REIN_BREAK (R841). Loss of lock or 300 µs without STATUS is a break detected at both ends. -/
  | reinBreak (up : Bool)
  /-- REIN_STATUS_SEND (R836). Every 100 µs a package sends a STATUS message on its links. -/
  | reinStatusSend
  /-- TIME_SYNC_EXCHANGE (R842). Every 1 ms a REIN-sourced package exchanges TIME_SYNC and TIME_RESP upstream. -/
  | timeSyncExchange
  /-- MGMT_GO (R843). REI_MGMT_CTRL.GO sends a management request to another package. -/
  | mgmtGo
  /-- MGMT_REQ (R844). A target package performs or denies a received management request. -/
  | mgmtReq (src : Fin 31) (g : BitVec 64) (data : BitVec 32) (wr : Bool) (env : WriteEnv)
  /-- MGMT_RSP (R843). A management response sets RESULT and read data. -/
  | mgmtRsp (src : Fin 31) (result : Fin 8) (data : BitVec 32)
  /-- MGMT_TIMEOUT (R844). A management response not arrived in 1 ms ends with TIMEOUT. -/
  | mgmtTimeout
  /-- MIRROR (R847). A received MIRROR message is checked and applied as one RECORD_UPDATE, or refused. -/
  | mirror (src : Fin 31) (dpi : BitVec 32) (type : BitVec 32) (bytes : List Byte)
  /-- CAL_USER_WRITE (R878). A write to CAL_USER updates the effective calibration within 2 µs. -/
  | calUserWrite (d : Die) (v : BitVec 32)
  /-- BANK_HOLD (R872). A VIO_F bank out of range for 10 µs is held with its pads high-impedance. -/
  | bankHold (d : Die) (b : Fin 5) (mv : Fin 4096)
  /-- BANK_HOLD_RELEASE (R872). A held bank in range for 1 ms is released. -/
  | bankHoldRelease (d : Die) (b : Fin 5) (mv : Fin 4096)
  /-- ELX_PAD_WRITE (R873). A write to ELX_PAD changes slew, filter and pull of a pad. -/
  | elxPadWrite (d : Die) (n : Fin 128) (v : BitVec 32)
  /-- REGISTER_WRITE (R10). A write to a register field without a row of its own acts by its access code. -/
  | registerWrite (d : Die) (off : Nat) (v : BitVec 32)
  /-- READ_CLEAR (R12). A read of a register holding RC fields returns and clears them, and a low-word read of a 64-bit pair latches the high word. -/
  | readClear (d : Die) (off : Nat) (wide : Bool)
  /-- PCIE_LINK_UP (R673). A PCIe port's link trains and enters L0, setting PCI_EVENT.LINK_UP. -/
  | pcieLinkUp (p : Die) (gen : Fin 8) (width : Fin 8)
  /-- SAFE_N_RELEASE (R812). SAFE_N returns high, clearing RCV_STATUS.SAFE_PIN and removing one cause of safe state. -/
  | safeNRelease
  /-- ISLAND_PLL_UNLOCK (R782). A PHY, SerDes, PCIe or flash PLL loses lock and its island clock is gated. -/
  | islandPllUnlock (d : Die) (island : Fin 5)
  /-- ISLAND_PLL_RELOCK (R782). A gated island PLL regains lock and its clock gate reopens glitch-free. -/
  | islandPllRelock (d : Die) (island : Fin 5)
  /-- FREQ_INPUT_RETURN (R581). A lost FREQ_REF capture input shows edges again and the time PLL relocks onto it. -/
  | freqInputReturn (d : Die) (n : Fin 4)
  /-- ANNOUNCE_RECEIPT_TIMEOUT (R565). A PTP port receives no Announce within ANN_TIMEOUT intervals, counts TIMEOUTS and re-runs the best master clock algorithm. -/
  | announceReceiptTimeout (k : Fin 16)
  /-- AUTO_NEGOTIATION_FAIL (R394). Auto-negotiation ends without a link because of half-duplex-only abilities, parallel detection or a master-slave fault, setting AN_FAIL. -/
  | autoNegotiationFail (d : Die) (p : Unit8) (why : Fin 3)
  /-- RAIL_RETRY (R789). One second after a failed rail start, PWR_EN is driven high again for the next retry. -/
  | railRetry
  /-- REASSEMBLY_TIMEOUT (R380). An incomplete fragmented datagram reaches its 1 s timeout and is dropped and counted in PKT_REASM_DROP. -/
  | reassemblyTimeout (d : Die)
  /-- BRANCH_ACTIVITY (R498). A Bridle branch becomes active or returns idle, and the star starts, stops or refuses relaying it, counting collisions. -/
  | branchActivity (d : Die) (ch : Fin 2) (b : Fin 4) (active : Bool)
deriving DecidableEq, Repr

end Sys2Proof
end

