-- ==== Sys2Proof/Config.lean ====
section
/-! DEFINITION. What the spec leaves open, as constants without a body (no proof can see their values), and the
standards that the spec names without reproducing them, as uninterpreted functions. Log entries 3 and 4. -/

namespace Sys2Proof.Config

/-- A fresh free value for each value of the state's `fresh` counter: the result of an operation whose value the
spec leaves open. -/
opaque freeNat : Nat → Nat

/-- A hashed message's digest, 48 bytes: SHA-384 (FIPS 180-4, named by R73 and R694). -/
opaque sha384 : List Byte → List Byte

/-- Ed25519 (RFC 8032) verification: public key, message, signature. -/
opaque edVerify : List Byte → List Byte → List Byte → Bool

/-- Ed25519 signature by the device identity key (R748): message to 64 bytes. -/
opaque devSign : List Byte → List Byte

/-- The vendor pack keys fused in slots 0 to 3 (R355). -/
opaque packKey : Nat → List Byte

/-- Whether the AES-256-GCM tag of an encrypted section is valid under the fused pack-decryption key (R76). -/
opaque gcmTagValid : List Byte → Bool

/-- The rounding of the servo's real-valued RATE and integral term (R891) to the resolution of TIM_RATE, 1/256 ppb:
numerator and denominator of the exact value. -/
opaque roundQ8 : Int → Nat → Int

/-- The best master clock decision of IEEE 1588-2019 and IEEE 802.1AS (R565), which the spec names and does not
reproduce: PTP port index and a fresh counter to a portState. -/
opaque bmca : Nat → Nat → Nat

/-- The deviation of the always-on oscillator from its slowest permitted rate (R778: 1 MHz ± 20 %). -/
opaque aonDev : Nat

/-- The UID that records and logs give for a region of a die (die × 4 + region): R125 gives a region none (log entry 130). -/
opaque regionUid : Nat → Nat

end Sys2Proof.Config
end

