-- ==== Sys2Proof/Machine/Bits.lean ====
section
/-! DEFINITION. Bit fields of registers and records, the access codes of register fields (R10), the shape of a
register descriptor, saturating counters (R13) and two's-complement readings. -/

namespace Sys2Proof.Machine

/-- One register of a die's control space: its offset (R20) and its Reset value (R19). -/
structure Reg where
  off : Nat
  rst : Word64
deriving DecidableEq, Repr

/-- The bits `hi` to `lo` of a register. -/
structure Field where
  reg : Reg
  hi : Nat
  lo : Nat
deriving DecidableEq, Repr

/-- The Access codes table (R10). -/
inductive Access where
  | ro | rw | w1c | w1s | wo | rc | st
deriving DecidableEq, Repr

/-- The bits of one field and its access code. -/
structure AccField where
  hi : Nat
  lo : Nat
  acc : Access
deriving DecidableEq, Repr

/-- A register, or an array of registers repeated per unit, as the register summaries and field tables give it:
the offset of its first register, the repetitions as (count, stride) pairs, whether it is a 64-bit pair, whether it
is package-wide (on die 0 only, R20), its Reset value and its fields. -/
structure RegDesc where
  base : Nat
  dims : List (Nat × Nat)
  wide : Bool
  pkg : Bool
  rst : Word64
  flds : List AccField
deriving DecidableEq, Repr

/-- The value of bits `hi` to `lo` of a word. -/
def bits {n : Nat} (v : BitVec n) (hi lo : Nat) : Nat := (v >>> lo).toNat % 2 ^ (hi + 1 - lo)

/-- A 64-bit mask of bits `hi` to `lo`. -/
def maskBits (hi lo : Nat) : Word64 := BitVec.ofNat 64 ((2 ^ (hi + 1 - lo) - 1) * 2 ^ lo)

/-- `v` with bits `hi` to `lo` replaced by the low bits of `x`. -/
def putBits (v : Word64) (hi lo x : Nat) : Word64 :=
  (v &&& ~~~ maskBits hi lo) ||| ((BitVec.ofNat 64 x <<< lo) &&& maskBits hi lo)

/-- Counters saturate at their maximum (R13): `v + k`, at most `2 ^ w - 1`. -/
def satAdd (w v k : Nat) : Nat := min (v + k) (2 ^ w - 1)

/-- A number as one bit. -/
def bit (b : Bool) : Nat := if b then 1 else 0

/-- Bit `i` of a number. -/
def nbit (x i : Nat) : Bool := x.testBit i

/-- The two's-complement reading of the low `w` bits of a number. -/
def toSigned (w x : Nat) : Int :=
  let y := x % 2 ^ w
  if y < 2 ^ (w - 1) then (y : Int) else (y : Int) - (2 ^ w : Nat)

/-- The low `w` bits of an integer in two's complement. -/
def ofSigned (w : Nat) (x : Int) : Nat := (x % ((2 ^ w : Nat) : Int)).toNat

/-- `x` held within `lo` and `hi`. -/
def clampInt (lo hi x : Int) : Int := max lo (min hi x)

/-- The number least at or above `a / b` (0 when `b` is 0). -/
def ceilDiv (a b : Nat) : Nat := if b = 0 then 0 else (a + b - 1) / b

/-- The little-endian bytes of a number, `n` of them (R6). -/
def leBytes : Nat → Nat → List Byte
  | 0, _ => []
  | n + 1, x => BitVec.ofNat 8 x :: leBytes n (x / 256)

/-- The number that little-endian bytes hold (R6). -/
def leNat : List Byte → Nat
  | [] => 0
  | b :: bs => b.toNat + 256 * leNat bs

/-- The number that bytes in network order hold (R7). -/
def beNat (bs : List Byte) : Nat := leNat bs.reverse

/-- The low `n` numbers of `0, 1, …` that meet a test. -/
def countUp (n : Nat) (p : Nat → Bool) : List Nat := (List.range n).filter p

/-- The index of the first element that meets a test. -/
def firstIdx {α : Type} (p : α → Bool) : List α → Option Nat
  | [] => none
  | a :: as => if p a then some 0 else (firstIdx p as).map (· + 1)

/-- The value that bits of a word hold as a truth value. -/
def isSet {n : Nat} (v : BitVec n) (i : Nat) : Bool := v.getLsbD i

end Sys2Proof.Machine
end

