-- ==== Sys2Proof/Machine/RegMapA.lean ====
section
/-! DEFINITION. The register map of the control space, blocks ETH_, SER_, TTE_, SWC_, TIM_, LCE_: every register of the chapters' register summaries
with its offset within a die's control space and its Reset value (R19, R20, R48), and every field with its bits.
Repeated registers take their unit numbers as arguments. A field whose Reset column names no number (fused, per
variant, per die, pin) reads 0 here, and State.reset lists the value the model gives it; the pads that every die has read
PRESENT (R888). -/


namespace Sys2Proof.Machine

namespace R

def ETH_PORT_CFG (p : Nat) : Reg := ⟨0x0 + p * 0x400, 0x0⟩
def ETH_PORT_CTRL (p : Nat) : Reg := ⟨0x4 + p * 0x400, 0x1F40320⟩
def ETH_PORT_STATUS (p : Nat) : Reg := ⟨0x8 + p * 0x400, 0x0⟩
def ETH_PORT_EVENT (p : Nat) : Reg := ⟨0xC + p * 0x400, 0x0⟩
def ETH_PORT_IRQ_EN (p : Nat) : Reg := ⟨0x10 + p * 0x400, 0x0⟩
def ETH_AN_STATUS (p : Nat) : Reg := ⟨0x14 + p * 0x400, 0x0⟩
def ETH_MAC_ADDR (p : Nat) : Reg := ⟨0x18 + p * 0x400, 0x0⟩
def ETH_GATE_STATUS (p : Nat) : Reg := ⟨0x20 + p * 0x400, 0x0⟩
def ETH_GATE_BASE (p : Nat) : Reg := ⟨0x28 + p * 0x400, 0x0⟩
def ETH_GATE_CYCLE (p : Nat) : Reg := ⟨0x30 + p * 0x400, 0x0⟩
def ETH_LEN_LOG (p : Nat) : Reg := ⟨0x38 + p * 0x400, 0x0⟩
def ETH_CBS (p q : Nat) : Reg := ⟨0x40 + p * 0x400 + q * 0x4, 0x0⟩
def ETH_GCL (p i : Nat) : Reg := ⟨0x10000 + p * 0x400 + i * 0x4, 0x0⟩
def ETH_STATUS : Reg := ⟨0x30000, 0x0⟩
def ETH_IRQ_SUM : Reg := ⟨0x30004, 0x0⟩
def ETH_RED (k : Nat) : Reg := ⟨0x30010 + k * 0x8, 0x0⟩
def ETH_RED_STATUS (k : Nat) : Reg := ⟨0x30014 + k * 0x8, 0x0⟩
def ETH_RX_FRAMES (p : Nat) : Reg := ⟨0x80 + p * 0x400, 0x0⟩
def ETH_RX_BYTES (p : Nat) : Reg := ⟨0x88 + p * 0x400, 0x0⟩
def ETH_RX_FCS (p : Nat) : Reg := ⟨0x90 + p * 0x400, 0x0⟩
def ETH_RX_RUNT (p : Nat) : Reg := ⟨0x94 + p * 0x400, 0x0⟩
def ETH_RX_OVERSIZE (p : Nat) : Reg := ⟨0x98 + p * 0x400, 0x0⟩
def ETH_RX_SYMBOL (p : Nat) : Reg := ⟨0x9C + p * 0x400, 0x0⟩
def ETH_RX_CTL (p : Nat) : Reg := ⟨0xA0 + p * 0x400, 0x0⟩
def ETH_DROP_LEN (p : Nat) : Reg := ⟨0xA4 + p * 0x400, 0x0⟩
def ETH_PARSE_TRUNC (p : Nat) : Reg := ⟨0xA8 + p * 0x400, 0x0⟩
def ETH_RED_DUP (p : Nat) : Reg := ⟨0xAC + p * 0x400, 0x0⟩
def ETH_RED_OWN (p : Nat) : Reg := ⟨0xB0 + p * 0x400, 0x0⟩
def ETH_RED_WRONG_LAN (p : Nat) : Reg := ⟨0xB4 + p * 0x400, 0x0⟩
def ETH_TX_FRAMES (p : Nat) : Reg := ⟨0xB8 + p * 0x400, 0x0⟩
def ETH_TX_BYTES (p : Nat) : Reg := ⟨0xC0 + p * 0x400, 0x0⟩
def ETH_TX_DROP_LEN (p : Nat) : Reg := ⟨0xC8 + p * 0x400, 0x0⟩
def ETH_TX_STOMP (p : Nat) : Reg := ⟨0xCC + p * 0x400, 0x0⟩
def ETH_DROP_LINK (p : Nat) : Reg := ⟨0xD0 + p * 0x400, 0x0⟩
def ETH_LAUNCH_DROP (p : Nat) : Reg := ⟨0xD4 + p * 0x400, 0x0⟩
def ETH_LAUNCH_LATE_SENT (p : Nat) : Reg := ⟨0xD8 + p * 0x400, 0x0⟩
def ETH_GATE_DROP (p : Nat) : Reg := ⟨0xDC + p * 0x400, 0x0⟩
def ETH_PAUSE_BREAK (p : Nat) : Reg := ⟨0xE0 + p * 0x400, 0x0⟩
def SER_PORT_CFG (s : Nat) : Reg := ⟨0x40000 + s * 0x400, 0x0⟩
def SER_PORT_CTRL (s : Nat) : Reg := ⟨0x40004 + s * 0x400, 0x0⟩
def SER_PORT_STATUS (s : Nat) : Reg := ⟨0x40008 + s * 0x400, 0x0⟩
def SER_PORT_EVENT (s : Nat) : Reg := ⟨0x4000C + s * 0x400, 0x0⟩
def SER_PORT_IRQ_EN (s : Nat) : Reg := ⟨0x40010 + s * 0x400, 0x0⟩
def SER_TX_CTRL (s : Nat) : Reg := ⟨0x40014 + s * 0x400, 0x0⟩
def SER_CAN_ERR (s : Nat) : Reg := ⟨0x40018 + s * 0x400, 0x0⟩
def SER_INV_TIME (s : Nat) : Reg := ⟨0x4001C + s * 0x400, 0x0⟩
def SER_INV_CNT (s : Nat) : Reg := ⟨0x40020 + s * 0x400, 0x0⟩
def SER_DETECT (s : Nat) : Reg := ⟨0x40024 + s * 0x400, 0x0⟩
def SER_DETECT_RATE (s : Nat) : Reg := ⟨0x40028 + s * 0x400, 0x0⟩
def SER_TT_STATUS (s : Nat) : Reg := ⟨0x4002C + s * 0x400, 0x0⟩
def SER_STATUS : Reg := ⟨0x44000, 0x0⟩
def SER_IRQ_SUM : Reg := ⟨0x44004, 0x0⟩
def SER_RX_FRAMES (s : Nat) : Reg := ⟨0x40040 + s * 0x400, 0x0⟩
def SER_RX_ERR (s : Nat) : Reg := ⟨0x40044 + s * 0x400, 0x0⟩
def SER_RX_FILTERED (s : Nat) : Reg := ⟨0x40048 + s * 0x400, 0x0⟩
def SER_LINE_ERR (s : Nat) : Reg := ⟨0x4004C + s * 0x400, 0x0⟩
def SER_TX_FRAMES (s : Nat) : Reg := ⟨0x40050 + s * 0x400, 0x0⟩
def SER_TX_DROP_FULL (s : Nat) : Reg := ⟨0x40054 + s * 0x400, 0x0⟩
def SER_TX_BAD (s : Nat) : Reg := ⟨0x40058 + s * 0x400, 0x0⟩
def SER_TX_ABORT (s : Nat) : Reg := ⟨0x4005C + s * 0x400, 0x0⟩
def SER_TX_DROP_FLUSH (s : Nat) : Reg := ⟨0x40060 + s * 0x400, 0x0⟩
def SER_BUS_OFF (s : Nat) : Reg := ⟨0x40064 + s * 0x400, 0x0⟩
def SER_TT_MISS (s : Nat) : Reg := ⟨0x40068 + s * 0x400, 0x0⟩
def TTE_CFG : Reg := ⟨0x80000, 0x0⟩
def TTE_CTRL : Reg := ⟨0x80004, 0x0⟩
def TTE_STATUS : Reg := ⟨0x80008, 0x0⟩
def TTE_EVENT : Reg := ⟨0x8000C, 0x0⟩
def TTE_IRQ_EN : Reg := ⟨0x80010, 0x0⟩
def TTE_POS : Reg := ⟨0x80014, 0x0⟩
def TTE_SYNC : Reg := ⟨0x80018, 0x0⟩
def TTE_RATE : Reg := ⟨0x8001C, 0x0⟩
def TTE_BR_CTRL (ch : Nat) : Reg := ⟨0x80028 + ch * 0x4, 0x0⟩
def TTE_TXBUF : Reg := ⟨0x80030, 0x0⟩
def TTE_ARBQ : Reg := ⟨0x80034, 0x0⟩
def TTE_NEXT_MATRIX : Reg := ⟨0x80038, 0x0⟩
def TTE_BR (ch b : Nat) : Reg := ⟨0x80040 + ch * 0x10 + b * 0x4, 0x0⟩
def TTE_RX_FRAMES (ch : Nat) : Reg := ⟨0x80080 + ch * 0x4, 0x0⟩
def TTE_RX_ERR (ch : Nat) : Reg := ⟨0x80088 + ch * 0x4, 0x0⟩
def TTE_RX_NULL (ch : Nat) : Reg := ⟨0x80090 + ch * 0x4, 0x0⟩
def TTE_RX_DUP : Reg := ⟨0x80098, 0x0⟩
def TTE_TX_FRAMES : Reg := ⟨0x8009C, 0x0⟩
def TTE_TX_NULL : Reg := ⟨0x800A0, 0x0⟩
def TTE_TX_BAD : Reg := ⟨0x800A4, 0x0⟩
def TTE_TX_MISS : Reg := ⟨0x800A8, 0x0⟩
def TTE_BR_COLL (ch : Nat) : Reg := ⟨0x800AC + ch * 0x4, 0x0⟩
def TTE_SYNC_LOSS : Reg := ⟨0x800B4, 0x0⟩
def SWC_STATUS : Reg := ⟨0xC0000, 0x0⟩
def SWC_EVENT : Reg := ⟨0xC0004, 0x0⟩
def SWC_IRQ_EN : Reg := ⟨0xC0008, 0x0⟩
def SWC_POOL : Reg := ⟨0xC000C, 0x0⟩
def SWC_DESC : Reg := ⟨0xC0010, 0x4000⟩
def SWC_CQ : Reg := ⟨0xC0014, 0x0⟩
def SWC_CT_FRAMES : Reg := ⟨0xC0018, 0x0⟩
def SWC_CT_UNDERRUN : Reg := ⟨0xC001C, 0x0⟩
def SWC_LEAK_CTRL : Reg := ⟨0xC0020, 0x3⟩
def SWC_LEAK_CELLS : Reg := ⟨0xC0024, 0x0⟩
def SWC_LEAK_LOG : Reg := ⟨0xC0028, 0x0⟩
def SWC_TEN_SEL : Reg := ⟨0xC0030, 0x0⟩
def SWC_TEN_CELLS : Reg := ⟨0xC0034, 0x0⟩
def SWC_TEN_DROP : Reg := ⟨0xC0038, 0x0⟩
def SWC_TEN_RES : Reg := ⟨0xC003C, 0x0⟩
def SWC_DROP (r : Nat) : Reg := ⟨0xC0040 + r * 0x4, 0x0⟩
def SWC_OUT (o : Nat) : Reg := ⟨0xC1000 + o * 0x4, 0x0⟩
def SWC_TSH_CFG (k : Nat) : Reg := ⟨0xC2000 + k * 0x10, 0x0⟩
def SWC_TSH_RATE (k : Nat) : Reg := ⟨0xC2004 + k * 0x10, 0x0⟩
def SWC_TSH_LEVEL (k : Nat) : Reg := ⟨0xC2008 + k * 0x10, 0x0⟩
def SWC_TSH_BURST (k : Nat) : Reg := ⟨0xC200C + k * 0x10, 0x0⟩
def TIM_STATUS : Reg := ⟨0x100000, 0xF800F0⟩
def TIM_CTRL : Reg := ⟨0x100004, 0x0⟩
def TIM_EVENT : Reg := ⟨0x100008, 0x0⟩
def TIM_IRQ_EN : Reg := ⟨0x10000C, 0x0⟩
def TIM_NOW : Reg := ⟨0x100010, 0x0⟩
def TIM_NOW_FRAC : Reg := ⟨0x100018, 0x0⟩
def TIM_MONO : Reg := ⟨0x100020, 0x0⟩
def TIM_OFFSET : Reg := ⟨0x100028, 0x0⟩
def TIM_STEP : Reg := ⟨0x100030, 0x0⟩
def TIM_JUMP : Reg := ⟨0x100038, 0x3E8⟩
def TIM_RATE : Reg := ⟨0x10003C, 0x0⟩
def TIM_UTC : Reg := ⟨0x100040, 0x0⟩
def TIM_REFUSED : Reg := ⟨0x100044, 0x0⟩
def TIM_GM_ID : Reg := ⟨0x100048, 0x0⟩
def TIM_CLKOUT : Reg := ⟨0x100050, 0x0⟩
def TIM_PTP_PORT (k : Nat) : Reg := ⟨0x100100 + k * 0x8, 0x0⟩
def TIM_PTP_CNT (k : Nat) : Reg := ⟨0x100104 + k * 0x8, 0x0⟩
def TIM_CAP_CFG (n : Nat) : Reg := ⟨0x100200 + n * 0x20, 0x0⟩
def TIM_CAP_TIME (n : Nat) : Reg := ⟨0x100208 + n * 0x20, 0x0⟩
def TIM_CAP_STAT (n : Nat) : Reg := ⟨0x100210 + n * 0x20, 0x0⟩
def TIM_CAP_FREQ (n : Nat) : Reg := ⟨0x100214 + n * 0x20, 0x0⟩
def TIM_PULSE_CFG (n : Nat) : Reg := ⟨0x100300 + n * 0x20, 0x4⟩
def TIM_PULSE_START (n : Nat) : Reg := ⟨0x100308 + n * 0x20, 0x0⟩
def TIM_PULSE_PERIOD (n : Nat) : Reg := ⟨0x100310 + n * 0x20, 0x0⟩
def TIM_PULSE_WIDTH (n : Nat) : Reg := ⟨0x100318 + n * 0x20, 0x0⟩
def LCE_STATUS : Reg := ⟨0x140000, 0x0⟩
def LCE_EVENT : Reg := ⟨0x140004, 0x0⟩
def LCE_IRQ_EN : Reg := ⟨0x140008, 0x0⟩
def LCE_CUE : Reg := ⟨0x14000C, 0x0⟩
def LCE_CUE_STAT : Reg := ⟨0x140010, 0x0⟩
def LCE_FLAGS : Reg := ⟨0x140014, 0x0⟩
def LCE_PIN_IN : Reg := ⟨0x140018, 0x0⟩
def LCE_PIN_OUT : Reg := ⟨0x14001C, 0x0⟩
def LCE_PIN_CFG (p : Nat) : Reg := ⟨0x140080 + p * 0x4, 0x8⟩
def LCE_ENG_CFG (e : Nat) : Reg := ⟨0x140100 + e * 0x40, 0x0⟩
def LCE_ENG_STATUS (e : Nat) : Reg := ⟨0x140104 + e * 0x40, 0x0⟩
def LCE_LOOP (e : Nat) : Reg := ⟨0x140108 + e * 0x40, 0x0⟩
def LCE_DIV (e : Nat) : Reg := ⟨0x14010C + e * 0x40, 0x40⟩
def LCE_IN_FIFO (e : Nat) : Reg := ⟨0x140110 + e * 0x40, 0x0⟩
def LCE_OUT_FIFO (e : Nat) : Reg := ⟨0x140114 + e * 0x40, 0x0⟩
def LCE_FIFO_STAT (e : Nat) : Reg := ⟨0x140118 + e * 0x40, 0x1000⟩
def LCE_SR (e : Nat) : Reg := ⟨0x14011C + e * 0x40, 0x0⟩
def LCE_INMAP (e : Nat) : Reg := ⟨0x140120 + e * 0x40, 0x0⟩
def LCE_OUTMAP (e : Nat) : Reg := ⟨0x140128 + e * 0x40, 0x0⟩
def LCE_STALLS (e : Nat) : Reg := ⟨0x14012C + e * 0x40, 0x0⟩
def LCE_SEL (e s : Nat) : Reg := ⟨0x141000 + e * 0x80 + s * 0x4, 0x0⟩
def LCE_LOOPDEF (e j : Nat) : Reg := ⟨0x142000 + e * 0x10 + j * 0x4, 0x0⟩
def LCE_TABLE (e i : Nat) : Reg := ⟨0x144000 + e * 0x200 + i * 0x4, 0x0⟩

end R

namespace F

def ETH_PORT_CFG_MODE (p : Nat) : Field := ⟨R.ETH_PORT_CFG p, 3, 0⟩
def ETH_PORT_CFG_ADV (p : Nat) : Field := ⟨R.ETH_PORT_CFG p, 6, 4⟩
def ETH_PORT_CFG_MS_FORCE (p : Nat) : Field := ⟨R.ETH_PORT_CFG p, 7, 7⟩
def ETH_PORT_CFG_MS_MASTER (p : Nat) : Field := ⟨R.ETH_PORT_CFG p, 8, 8⟩
def ETH_PORT_CFG_RED (p : Nat) : Field := ⟨R.ETH_PORT_CFG p, 10, 9⟩
def ETH_PORT_CFG_PAUSE_EN (p : Nat) : Field := ⟨R.ETH_PORT_CFG p, 11, 11⟩
def ETH_PORT_CFG_PFC_EN (p : Nat) : Field := ⟨R.ETH_PORT_CFG p, 12, 12⟩
def ETH_PORT_CFG_CL37_AN (p : Nat) : Field := ⟨R.ETH_PORT_CFG p, 13, 13⟩
def ETH_PORT_CFG_SGMII_AN (p : Nat) : Field := ⟨R.ETH_PORT_CFG p, 14, 14⟩
def ETH_PORT_CFG_MAX_LEN (p : Nat) : Field := ⟨R.ETH_PORT_CFG p, 29, 16⟩
def ETH_PORT_CTRL_ADMIN_DOWN (p : Nat) : Field := ⟨R.ETH_PORT_CTRL p, 0, 0⟩
def ETH_PORT_CTRL_RESTART_AN (p : Nat) : Field := ⟨R.ETH_PORT_CTRL p, 1, 1⟩
def ETH_PORT_CTRL_LATE_POLICY (p : Nat) : Field := ⟨R.ETH_PORT_CTRL p, 2, 2⟩
def ETH_PORT_CTRL_PAUSE_WD_MS (p : Nat) : Field := ⟨R.ETH_PORT_CTRL p, 17, 4⟩
def ETH_PORT_CTRL_WINDOW_8NS (p : Nat) : Field := ⟨R.ETH_PORT_CTRL p, 31, 18⟩
def ETH_PORT_STATUS_LINK (p : Nat) : Field := ⟨R.ETH_PORT_STATUS p, 0, 0⟩
def ETH_PORT_STATUS_SPEED (p : Nat) : Field := ⟨R.ETH_PORT_STATUS p, 3, 1⟩
def ETH_PORT_STATUS_AN_DONE (p : Nat) : Field := ⟨R.ETH_PORT_STATUS p, 4, 4⟩
def ETH_PORT_STATUS_MDIX (p : Nat) : Field := ⟨R.ETH_PORT_STATUS p, 5, 5⟩
def ETH_PORT_STATUS_MASTER (p : Nat) : Field := ⟨R.ETH_PORT_STATUS p, 6, 6⟩
def ETH_PORT_STATUS_PAUSED (p : Nat) : Field := ⟨R.ETH_PORT_STATUS p, 7, 7⟩
def ETH_PORT_STATUS_PFC_PAUSED (p : Nat) : Field := ⟨R.ETH_PORT_STATUS p, 15, 8⟩
def ETH_PORT_STATUS_PAUSE_BROKEN (p : Nat) : Field := ⟨R.ETH_PORT_STATUS p, 16, 16⟩
def ETH_PORT_STATUS_SAFE (p : Nat) : Field := ⟨R.ETH_PORT_STATUS p, 17, 17⟩
def ETH_PORT_STATUS_AN_FAIL (p : Nat) : Field := ⟨R.ETH_PORT_STATUS p, 19, 18⟩
def ETH_PORT_STATUS_FENCED (p : Nat) : Field := ⟨R.ETH_PORT_STATUS p, 20, 20⟩
def ETH_PORT_EVENT_LINK_UP (p : Nat) : Field := ⟨R.ETH_PORT_EVENT p, 0, 0⟩
def ETH_PORT_EVENT_LINK_DOWN (p : Nat) : Field := ⟨R.ETH_PORT_EVENT p, 1, 1⟩
def ETH_PORT_EVENT_AN_FAIL (p : Nat) : Field := ⟨R.ETH_PORT_EVENT p, 2, 2⟩
def ETH_PORT_EVENT_DROP_LEN (p : Nat) : Field := ⟨R.ETH_PORT_EVENT p, 3, 3⟩
def ETH_PORT_EVENT_PARSE_TRUNC (p : Nat) : Field := ⟨R.ETH_PORT_EVENT p, 4, 4⟩
def ETH_PORT_EVENT_PAUSE_BREAK (p : Nat) : Field := ⟨R.ETH_PORT_EVENT p, 5, 5⟩
def ETH_PORT_EVENT_LAUNCH_LATE (p : Nat) : Field := ⟨R.ETH_PORT_EVENT p, 6, 6⟩
def ETH_PORT_EVENT_LAUNCH_FAR (p : Nat) : Field := ⟨R.ETH_PORT_EVENT p, 7, 7⟩
def ETH_PORT_EVENT_GATE_DROP (p : Nat) : Field := ⟨R.ETH_PORT_EVENT p, 8, 8⟩
def ETH_PORT_EVENT_RED_EVICT (p : Nat) : Field := ⟨R.ETH_PORT_EVENT p, 9, 9⟩
def ETH_PORT_EVENT_TX_STOMP (p : Nat) : Field := ⟨R.ETH_PORT_EVENT p, 10, 10⟩
def ETH_PORT_IRQ_EN_EN (p : Nat) : Field := ⟨R.ETH_PORT_IRQ_EN p, 10, 0⟩
def ETH_AN_STATUS_LP_ABIL (p : Nat) : Field := ⟨R.ETH_AN_STATUS p, 5, 0⟩
def ETH_AN_STATUS_LP_PAUSE (p : Nat) : Field := ⟨R.ETH_AN_STATUS p, 6, 6⟩
def ETH_AN_STATUS_LP_ASM_DIR (p : Nat) : Field := ⟨R.ETH_AN_STATUS p, 7, 7⟩
def ETH_AN_STATUS_LP_AN (p : Nat) : Field := ⟨R.ETH_AN_STATUS p, 8, 8⟩
def ETH_AN_STATUS_IDLE_ERR (p : Nat) : Field := ⟨R.ETH_AN_STATUS p, 23, 16⟩
def ETH_MAC_ADDR_ADDR (p : Nat) : Field := ⟨R.ETH_MAC_ADDR p, 47, 0⟩
def ETH_GATE_STATUS_STATE (p : Nat) : Field := ⟨R.ETH_GATE_STATUS p, 7, 0⟩
def ETH_GATE_STATUS_ENTRY (p : Nat) : Field := ⟨R.ETH_GATE_STATUS p, 15, 8⟩
def ETH_GATE_STATUS_LIST (p : Nat) : Field := ⟨R.ETH_GATE_STATUS p, 16, 16⟩
def ETH_GATE_BASE_BASE_TIME (p : Nat) : Field := ⟨R.ETH_GATE_BASE p, 63, 0⟩
def ETH_GATE_CYCLE_CYCLE_NS (p : Nat) : Field := ⟨R.ETH_GATE_CYCLE p, 31, 0⟩
def ETH_LEN_LOG_CHECK (p : Nat) : Field := ⟨R.ETH_LEN_LOG p, 3, 0⟩
def ETH_LEN_LOG_LEVEL (p : Nat) : Field := ⟨R.ETH_LEN_LOG p, 7, 4⟩
def ETH_LEN_LOG_VALID (p : Nat) : Field := ⟨R.ETH_LEN_LOG p, 8, 8⟩
def ETH_LEN_LOG_FIELD (p : Nat) : Field := ⟨R.ETH_LEN_LOG p, 31, 16⟩
def ETH_LEN_LOG_AVAIL (p : Nat) : Field := ⟨R.ETH_LEN_LOG p, 47, 32⟩
def ETH_CBS_IDLE_KBPS (p q : Nat) : Field := ⟨R.ETH_CBS p q, 23, 0⟩
def ETH_CBS_CREDIT_NEG (p q : Nat) : Field := ⟨R.ETH_CBS p q, 24, 24⟩
def ETH_GCL_GATES (p i : Nat) : Field := ⟨R.ETH_GCL p i, 7, 0⟩
def ETH_GCL_INTERVAL_NS (p i : Nat) : Field := ⟨R.ETH_GCL p i, 31, 8⟩
def ETH_STATUS_LINK : Field := ⟨R.ETH_STATUS, 7, 0⟩
def ETH_STATUS_ENABLED : Field := ⟨R.ETH_STATUS, 15, 8⟩
def ETH_IRQ_SUM_PEND : Field := ⟨R.ETH_IRQ_SUM, 7, 0⟩
def ETH_RED_RED (k : Nat) : Field := ⟨R.ETH_RED k, 1, 0⟩
def ETH_RED_AGE_MS (k : Nat) : Field := ⟨R.ETH_RED k, 17, 2⟩
def ETH_RED_SUP_MS (k : Nat) : Field := ⟨R.ETH_RED k, 31, 18⟩
def ETH_RED_STATUS_USED (k : Nat) : Field := ⟨R.ETH_RED_STATUS k, 12, 0⟩
def ETH_RED_STATUS_EVICT (k : Nat) : Field := ⟨R.ETH_RED_STATUS k, 31, 16⟩
def ETH_RX_FRAMES_COUNT (p : Nat) : Field := ⟨R.ETH_RX_FRAMES p, 31, 0⟩
def ETH_RX_BYTES_COUNT (p : Nat) : Field := ⟨R.ETH_RX_BYTES p, 63, 0⟩
def ETH_RX_FCS_COUNT (p : Nat) : Field := ⟨R.ETH_RX_FCS p, 31, 0⟩
def ETH_RX_RUNT_COUNT (p : Nat) : Field := ⟨R.ETH_RX_RUNT p, 31, 0⟩
def ETH_RX_OVERSIZE_COUNT (p : Nat) : Field := ⟨R.ETH_RX_OVERSIZE p, 31, 0⟩
def ETH_RX_SYMBOL_COUNT (p : Nat) : Field := ⟨R.ETH_RX_SYMBOL p, 31, 0⟩
def ETH_RX_CTL_COUNT (p : Nat) : Field := ⟨R.ETH_RX_CTL p, 31, 0⟩
def ETH_DROP_LEN_COUNT (p : Nat) : Field := ⟨R.ETH_DROP_LEN p, 31, 0⟩
def ETH_PARSE_TRUNC_COUNT (p : Nat) : Field := ⟨R.ETH_PARSE_TRUNC p, 31, 0⟩
def ETH_RED_DUP_COUNT (p : Nat) : Field := ⟨R.ETH_RED_DUP p, 31, 0⟩
def ETH_RED_OWN_COUNT (p : Nat) : Field := ⟨R.ETH_RED_OWN p, 31, 0⟩
def ETH_RED_WRONG_LAN_COUNT (p : Nat) : Field := ⟨R.ETH_RED_WRONG_LAN p, 31, 0⟩
def ETH_TX_FRAMES_COUNT (p : Nat) : Field := ⟨R.ETH_TX_FRAMES p, 31, 0⟩
def ETH_TX_BYTES_COUNT (p : Nat) : Field := ⟨R.ETH_TX_BYTES p, 63, 0⟩
def ETH_TX_DROP_LEN_COUNT (p : Nat) : Field := ⟨R.ETH_TX_DROP_LEN p, 31, 0⟩
def ETH_TX_STOMP_COUNT (p : Nat) : Field := ⟨R.ETH_TX_STOMP p, 31, 0⟩
def ETH_DROP_LINK_COUNT (p : Nat) : Field := ⟨R.ETH_DROP_LINK p, 31, 0⟩
def ETH_LAUNCH_DROP_COUNT (p : Nat) : Field := ⟨R.ETH_LAUNCH_DROP p, 31, 0⟩
def ETH_LAUNCH_LATE_SENT_COUNT (p : Nat) : Field := ⟨R.ETH_LAUNCH_LATE_SENT p, 31, 0⟩
def ETH_GATE_DROP_COUNT (p : Nat) : Field := ⟨R.ETH_GATE_DROP p, 31, 0⟩
def ETH_PAUSE_BREAK_COUNT (p : Nat) : Field := ⟨R.ETH_PAUSE_BREAK p, 31, 0⟩
def SER_PORT_CFG_MODE (s : Nat) : Field := ⟨R.SER_PORT_CFG s, 3, 0⟩
def SER_PORT_CFG_ELEC (s : Nat) : Field := ⟨R.SER_PORT_CFG s, 5, 4⟩
def SER_PORT_CFG_PAIR (s : Nat) : Field := ⟨R.SER_PORT_CFG s, 6, 6⟩
def SER_PORT_CFG_TTCAN (s : Nat) : Field := ⟨R.SER_PORT_CFG s, 7, 7⟩
def SER_PORT_CFG_FILTERS (s : Nat) : Field := ⟨R.SER_PORT_CFG s, 8, 8⟩
def SER_PORT_CFG_MAX_LEN (s : Nat) : Field := ⟨R.SER_PORT_CFG s, 29, 16⟩
def SER_PORT_CTRL_ADMIN_DOWN (s : Nat) : Field := ⟨R.SER_PORT_CTRL s, 0, 0⟩
def SER_PORT_CTRL_RECOVER (s : Nat) : Field := ⟨R.SER_PORT_CTRL s, 1, 1⟩
def SER_PORT_CTRL_DETECT_START (s : Nat) : Field := ⟨R.SER_PORT_CTRL s, 2, 2⟩
def SER_PORT_CTRL_GO (s : Nat) : Field := ⟨R.SER_PORT_CTRL s, 3, 3⟩
def SER_PORT_STATUS_STATE (s : Nat) : Field := ⟨R.SER_PORT_STATUS s, 2, 0⟩
def SER_PORT_STATUS_BUSY (s : Nat) : Field := ⟨R.SER_PORT_STATUS s, 3, 3⟩
def SER_PORT_STATUS_CTS (s : Nat) : Field := ⟨R.SER_PORT_STATUS s, 4, 4⟩
def SER_PORT_STATUS_RATE_DETECTED (s : Nat) : Field := ⟨R.SER_PORT_STATUS s, 5, 5⟩
def SER_PORT_EVENT_RX_ERR (s : Nat) : Field := ⟨R.SER_PORT_EVENT s, 0, 0⟩
def SER_PORT_EVENT_BUS_OFF (s : Nat) : Field := ⟨R.SER_PORT_EVENT s, 1, 1⟩
def SER_PORT_EVENT_INV_LONG (s : Nat) : Field := ⟨R.SER_PORT_EVENT s, 2, 2⟩
def SER_PORT_EVENT_ABORT_MISSED (s : Nat) : Field := ⟨R.SER_PORT_EVENT s, 3, 3⟩
def SER_PORT_EVENT_DETECT_DONE (s : Nat) : Field := ⟨R.SER_PORT_EVENT s, 4, 4⟩
def SER_PORT_EVENT_TT_MASTER (s : Nat) : Field := ⟨R.SER_PORT_EVENT s, 5, 5⟩
def SER_PORT_EVENT_TT_MISS (s : Nat) : Field := ⟨R.SER_PORT_EVENT s, 6, 6⟩
def SER_PORT_EVENT_COLLIDE (s : Nat) : Field := ⟨R.SER_PORT_EVENT s, 7, 7⟩
def SER_PORT_EVENT_TX_DROP (s : Nat) : Field := ⟨R.SER_PORT_EVENT s, 8, 8⟩
def SER_PORT_IRQ_EN_EN (s : Nat) : Field := ⟨R.SER_PORT_IRQ_EN s, 8, 0⟩
def SER_TX_CTRL_ABORT_HEAD (s : Nat) : Field := ⟨R.SER_TX_CTRL s, 0, 0⟩
def SER_TX_CTRL_FIFO_COUNT (s : Nat) : Field := ⟨R.SER_TX_CTRL s, 13, 8⟩
def SER_TX_CTRL_EXCL_FULL (s : Nat) : Field := ⟨R.SER_TX_CTRL s, 31, 16⟩
def SER_CAN_ERR_TEC (s : Nat) : Field := ⟨R.SER_CAN_ERR s, 8, 0⟩
def SER_CAN_ERR_REC (s : Nat) : Field := ⟨R.SER_CAN_ERR s, 23, 16⟩
def SER_CAN_ERR_ERR_STATE (s : Nat) : Field := ⟨R.SER_CAN_ERR s, 25, 24⟩
def SER_CAN_ERR_LEC (s : Nat) : Field := ⟨R.SER_CAN_ERR s, 28, 26⟩
def SER_INV_TIME_MAX_US (s : Nat) : Field := ⟨R.SER_INV_TIME s, 31, 0⟩
def SER_INV_CNT_COUNT (s : Nat) : Field := ⟨R.SER_INV_CNT s, 31, 0⟩
def SER_DETECT_RESULT (s : Nat) : Field := ⟨R.SER_DETECT s, 2, 0⟩
def SER_DETECT_BUSY (s : Nat) : Field := ⟨R.SER_DETECT s, 3, 3⟩
def SER_DETECT_INDEX (s : Nat) : Field := ⟨R.SER_DETECT s, 7, 4⟩
def SER_DETECT_BRP (s : Nat) : Field := ⟨R.SER_DETECT s, 15, 8⟩
def SER_DETECT_RATE_RATE (s : Nat) : Field := ⟨R.SER_DETECT_RATE s, 31, 0⟩
def SER_TT_STATUS_SYNC (s : Nat) : Field := ⟨R.SER_TT_STATUS s, 0, 0⟩
def SER_TT_STATUS_CURRENT (s : Nat) : Field := ⟨R.SER_TT_STATUS s, 1, 1⟩
def SER_TT_STATUS_MASTER_PRIO (s : Nat) : Field := ⟨R.SER_TT_STATUS s, 4, 2⟩
def SER_TT_STATUS_CYCLE (s : Nat) : Field := ⟨R.SER_TT_STATUS s, 13, 8⟩
def SER_STATUS_ENABLED : Field := ⟨R.SER_STATUS, 7, 0⟩
def SER_STATUS_ACTIVE : Field := ⟨R.SER_STATUS, 15, 8⟩
def SER_IRQ_SUM_PEND : Field := ⟨R.SER_IRQ_SUM, 7, 0⟩
def SER_RX_FRAMES_COUNT (s : Nat) : Field := ⟨R.SER_RX_FRAMES s, 31, 0⟩
def SER_RX_ERR_COUNT (s : Nat) : Field := ⟨R.SER_RX_ERR s, 31, 0⟩
def SER_RX_FILTERED_COUNT (s : Nat) : Field := ⟨R.SER_RX_FILTERED s, 31, 0⟩
def SER_LINE_ERR_COUNT (s : Nat) : Field := ⟨R.SER_LINE_ERR s, 31, 0⟩
def SER_TX_FRAMES_COUNT (s : Nat) : Field := ⟨R.SER_TX_FRAMES s, 31, 0⟩
def SER_TX_DROP_FULL_COUNT (s : Nat) : Field := ⟨R.SER_TX_DROP_FULL s, 31, 0⟩
def SER_TX_BAD_COUNT (s : Nat) : Field := ⟨R.SER_TX_BAD s, 31, 0⟩
def SER_TX_ABORT_COUNT (s : Nat) : Field := ⟨R.SER_TX_ABORT s, 31, 0⟩
def SER_TX_DROP_FLUSH_COUNT (s : Nat) : Field := ⟨R.SER_TX_DROP_FLUSH s, 31, 0⟩
def SER_BUS_OFF_COUNT (s : Nat) : Field := ⟨R.SER_BUS_OFF s, 31, 0⟩
def SER_TT_MISS_MISS (s : Nat) : Field := ⟨R.SER_TT_MISS s, 15, 0⟩
def SER_TT_MISS_MSTR_CHG (s : Nat) : Field := ⟨R.SER_TT_MISS s, 31, 16⟩
def TTE_CFG_MODE : Field := ⟨R.TTE_CFG, 1, 0⟩
def TTE_CFG_RATE : Field := ⟨R.TTE_CFG, 3, 2⟩
def TTE_CFG_CYCLES : Field := ⟨R.TTE_CFG, 10, 4⟩
def TTE_CFG_WINDOWS : Field := ⟨R.TTE_CFG, 16, 11⟩
def TTE_CFG_BRANCHES : Field := ⟨R.TTE_CFG, 24, 17⟩
def TTE_CFG_LEAD : Field := ⟨R.TTE_CFG, 25, 25⟩
def TTE_CFG_COLDSTART : Field := ⟨R.TTE_CFG, 26, 26⟩
def TTE_CFG_SYNC : Field := ⟨R.TTE_CFG, 27, 27⟩
def TTE_CFG_HALT_POLICY : Field := ⟨R.TTE_CFG, 28, 28⟩
def TTE_CFG_AUTO_RESTART : Field := ⟨R.TTE_CFG, 29, 29⟩
def TTE_CTRL_RESTART : Field := ⟨R.TTE_CTRL, 0, 0⟩
def TTE_CTRL_ADMIN_DOWN : Field := ⟨R.TTE_CTRL, 1, 1⟩
def TTE_STATUS_STATE : Field := ⟨R.TTE_STATUS, 3, 0⟩
def TTE_STATUS_SYNCED : Field := ⟨R.TTE_STATUS, 4, 4⟩
def TTE_STATUS_CH_A_UP : Field := ⟨R.TTE_STATUS, 5, 5⟩
def TTE_STATUS_CH_B_UP : Field := ⟨R.TTE_STATUS, 6, 6⟩
def TTE_STATUS_MATRIX_LATE : Field := ⟨R.TTE_STATUS, 7, 7⟩
def TTE_EVENT_STATE_CHG : Field := ⟨R.TTE_EVENT, 0, 0⟩
def TTE_EVENT_SYNC_LOST : Field := ⟨R.TTE_EVENT, 1, 1⟩
def TTE_EVENT_HALT : Field := ⟨R.TTE_EVENT, 2, 2⟩
def TTE_EVENT_RX_ERR : Field := ⟨R.TTE_EVENT, 3, 3⟩
def TTE_EVENT_TX_MISS : Field := ⟨R.TTE_EVENT, 4, 4⟩
def TTE_EVENT_TX_BAD : Field := ⟨R.TTE_EVENT, 5, 5⟩
def TTE_EVENT_CUT : Field := ⟨R.TTE_EVENT, 6, 6⟩
def TTE_EVENT_READMIT : Field := ⟨R.TTE_EVENT, 7, 7⟩
def TTE_EVENT_COLL : Field := ⟨R.TTE_EVENT, 8, 8⟩
def TTE_IRQ_EN_EN : Field := ⟨R.TTE_IRQ_EN, 8, 0⟩
def TTE_POS_CYCLE : Field := ⟨R.TTE_POS, 5, 0⟩
def TTE_POS_WINDOW : Field := ⟨R.TTE_POS, 10, 6⟩
def TTE_POS_IN_WINDOW : Field := ⟨R.TTE_POS, 11, 11⟩
def TTE_SYNC_OFFSET_NS : Field := ⟨R.TTE_SYNC, 15, 0⟩
def TTE_SYNC_SYNC_SEEN : Field := ⟨R.TTE_SYNC, 23, 16⟩
def TTE_RATE_RATE_PPB : Field := ⟨R.TTE_RATE, 31, 0⟩
def TTE_BR_CTRL_CUT (ch : Nat) : Field := ⟨R.TTE_BR_CTRL ch, 3, 0⟩
def TTE_BR_CTRL_READMIT (ch : Nat) : Field := ⟨R.TTE_BR_CTRL ch, 7, 4⟩
def TTE_TXBUF_FULL : Field := ⟨R.TTE_TXBUF, 31, 0⟩
def TTE_ARBQ_COUNT : Field := ⟨R.TTE_ARBQ, 3, 0⟩
def TTE_NEXT_MATRIX_TIME : Field := ⟨R.TTE_NEXT_MATRIX, 63, 0⟩
def TTE_BR_CLEAN (ch b : Nat) : Field := ⟨R.TTE_BR ch b, 7, 0⟩
def TTE_BR_CUT (ch b : Nat) : Field := ⟨R.TTE_BR ch b, 8, 8⟩
def TTE_BR_ADMIN (ch b : Nat) : Field := ⟨R.TTE_BR ch b, 9, 9⟩
def TTE_BR_LAST_KIND (ch b : Nat) : Field := ⟨R.TTE_BR ch b, 11, 10⟩
def TTE_BR_VIOL (ch b : Nat) : Field := ⟨R.TTE_BR ch b, 31, 16⟩
def TTE_RX_FRAMES_COUNT (ch : Nat) : Field := ⟨R.TTE_RX_FRAMES ch, 31, 0⟩
def TTE_RX_ERR_COUNT (ch : Nat) : Field := ⟨R.TTE_RX_ERR ch, 31, 0⟩
def TTE_RX_NULL_COUNT (ch : Nat) : Field := ⟨R.TTE_RX_NULL ch, 31, 0⟩
def TTE_RX_DUP_COUNT : Field := ⟨R.TTE_RX_DUP, 31, 0⟩
def TTE_TX_FRAMES_COUNT : Field := ⟨R.TTE_TX_FRAMES, 31, 0⟩
def TTE_TX_NULL_COUNT : Field := ⟨R.TTE_TX_NULL, 31, 0⟩
def TTE_TX_BAD_COUNT : Field := ⟨R.TTE_TX_BAD, 31, 0⟩
def TTE_TX_MISS_COUNT : Field := ⟨R.TTE_TX_MISS, 31, 0⟩
def TTE_BR_COLL_COUNT (ch : Nat) : Field := ⟨R.TTE_BR_COLL ch, 31, 0⟩
def TTE_SYNC_LOSS_COUNT : Field := ⟨R.TTE_SYNC_LOSS, 31, 0⟩
def SWC_STATUS_RUN : Field := ⟨R.SWC_STATUS, 0, 0⟩
def SWC_STATUS_AUDIT_BUSY : Field := ⟨R.SWC_STATUS, 1, 1⟩
def SWC_STATUS_CQ_STALL : Field := ⟨R.SWC_STATUS, 2, 2⟩
def SWC_STATUS_HCQ_STALL : Field := ⟨R.SWC_STATUS, 3, 3⟩
def SWC_EVENT_DROP : Field := ⟨R.SWC_EVENT, 0, 0⟩
def SWC_EVENT_LEAK : Field := ⟨R.SWC_EVENT, 1, 1⟩
def SWC_EVENT_COUNT_FIX : Field := ⟨R.SWC_EVENT, 2, 2⟩
def SWC_EVENT_CQ_FULL : Field := ⟨R.SWC_EVENT, 3, 3⟩
def SWC_EVENT_HCQ_FULL : Field := ⟨R.SWC_EVENT, 4, 4⟩
def SWC_EVENT_CT_UNDERRUN : Field := ⟨R.SWC_EVENT, 5, 5⟩
def SWC_IRQ_EN_EN : Field := ⟨R.SWC_IRQ_EN, 5, 0⟩
def SWC_POOL_FREE : Field := ⟨R.SWC_POOL, 15, 0⟩
def SWC_POOL_RX_HELD : Field := ⟨R.SWC_POOL, 26, 16⟩
def SWC_DESC_FREE : Field := ⟨R.SWC_DESC, 14, 0⟩
def SWC_CQ_USED : Field := ⟨R.SWC_CQ, 12, 0⟩
def SWC_CQ_WAITS : Field := ⟨R.SWC_CQ, 31, 16⟩
def SWC_CT_FRAMES_COUNT : Field := ⟨R.SWC_CT_FRAMES, 31, 0⟩
def SWC_CT_UNDERRUN_COUNT : Field := ⟨R.SWC_CT_UNDERRUN, 31, 0⟩
def SWC_LEAK_CTRL_EN : Field := ⟨R.SWC_LEAK_CTRL, 0, 0⟩
def SWC_LEAK_CTRL_RECLAIM : Field := ⟨R.SWC_LEAK_CTRL, 1, 1⟩
def SWC_LEAK_CELLS_COUNT : Field := ⟨R.SWC_LEAK_CELLS, 31, 0⟩
def SWC_LEAK_LOG_OWNER : Field := ⟨R.SWC_LEAK_LOG, 15, 0⟩
def SWC_LEAK_LOG_CELLS : Field := ⟨R.SWC_LEAK_LOG, 31, 16⟩
def SWC_LEAK_LOG_FIRST_CELL : Field := ⟨R.SWC_LEAK_LOG, 47, 32⟩
def SWC_LEAK_LOG_VALID : Field := ⟨R.SWC_LEAK_LOG, 48, 48⟩
def SWC_LEAK_LOG_COUNT_ONLY : Field := ⟨R.SWC_LEAK_LOG, 49, 49⟩
def SWC_LEAK_LOG_MORE : Field := ⟨R.SWC_LEAK_LOG, 50, 50⟩
def SWC_TEN_SEL_TID : Field := ⟨R.SWC_TEN_SEL, 11, 0⟩
def SWC_TEN_CELLS_HELD : Field := ⟨R.SWC_TEN_CELLS, 15, 0⟩
def SWC_TEN_CELLS_QUOTA : Field := ⟨R.SWC_TEN_CELLS, 31, 16⟩
def SWC_TEN_DROP_COUNT : Field := ⟨R.SWC_TEN_DROP, 31, 0⟩
def SWC_TEN_RES_RESERVE : Field := ⟨R.SWC_TEN_RES, 15, 0⟩
def SWC_DROP_COUNT (r : Nat) : Field := ⟨R.SWC_DROP r, 31, 0⟩
def SWC_OUT_HELD (o : Nat) : Field := ⟨R.SWC_OUT o, 15, 0⟩
def SWC_OUT_QUOTA (o : Nat) : Field := ⟨R.SWC_OUT o, 31, 16⟩
def SWC_TSH_CFG_EN (k : Nat) : Field := ⟨R.SWC_TSH_CFG k, 0, 0⟩
def SWC_TSH_CFG_PORT (k : Nat) : Field := ⟨R.SWC_TSH_CFG k, 3, 1⟩
def SWC_TSH_CFG_TID (k : Nat) : Field := ⟨R.SWC_TSH_CFG k, 15, 4⟩
def SWC_TSH_CFG_FROZEN (k : Nat) : Field := ⟨R.SWC_TSH_CFG k, 16, 16⟩
def SWC_TSH_RATE_RATE_KBPS (k : Nat) : Field := ⟨R.SWC_TSH_RATE k, 23, 0⟩
def SWC_TSH_LEVEL_LEVEL (k : Nat) : Field := ⟨R.SWC_TSH_LEVEL k, 31, 0⟩
def SWC_TSH_BURST_BURST (k : Nat) : Field := ⟨R.SWC_TSH_BURST k, 20, 0⟩
def TIM_STATUS_STATE : Field := ⟨R.TIM_STATUS, 3, 0⟩
def TIM_STATUS_SRC_IDX : Field := ⟨R.TIM_STATUS, 6, 4⟩
def TIM_STATUS_UNSYNC : Field := ⟨R.TIM_STATUS, 7, 7⟩
def TIM_STATUS_JUMP_REFUSED : Field := ⟨R.TIM_STATUS, 8, 8⟩
def TIM_STATUS_EVER_LOCKED : Field := ⟨R.TIM_STATUS, 9, 9⟩
def TIM_STATUS_RELOCK : Field := ⟨R.TIM_STATUS, 10, 10⟩
def TIM_STATUS_REF_EXT : Field := ⟨R.TIM_STATUS, 11, 11⟩
def TIM_STATUS_STEP_PENDING : Field := ⟨R.TIM_STATUS, 12, 12⟩
def TIM_STATUS_CLOCK_CLASS : Field := ⟨R.TIM_STATUS, 23, 16⟩
def TIM_CTRL_CMD : Field := ⟨R.TIM_CTRL, 2, 0⟩
def TIM_EVENT_STATE_CHG : Field := ⟨R.TIM_EVENT, 0, 0⟩
def TIM_EVENT_JUMP : Field := ⟨R.TIM_EVENT, 1, 1⟩
def TIM_EVENT_STEPPED : Field := ⟨R.TIM_EVENT, 2, 2⟩
def TIM_EVENT_SRC_CHG : Field := ⟨R.TIM_EVENT, 3, 3⟩
def TIM_EVENT_RELOCK_START : Field := ⟨R.TIM_EVENT, 4, 4⟩
def TIM_EVENT_RELOCK_DONE : Field := ⟨R.TIM_EVENT, 5, 5⟩
def TIM_EVENT_CMD_IGNORED : Field := ⟨R.TIM_EVENT, 6, 6⟩
def TIM_EVENT_CLAMP : Field := ⟨R.TIM_EVENT, 7, 7⟩
def TIM_EVENT_CAP : Field := ⟨R.TIM_EVENT, 11, 8⟩
def TIM_EVENT_PULSE : Field := ⟨R.TIM_EVENT, 15, 12⟩
def TIM_IRQ_EN_EN : Field := ⟨R.TIM_IRQ_EN, 15, 0⟩
def TIM_NOW_NS : Field := ⟨R.TIM_NOW, 63, 0⟩
def TIM_NOW_FRAC_FRAC : Field := ⟨R.TIM_NOW_FRAC, 15, 0⟩
def TIM_MONO_NS : Field := ⟨R.TIM_MONO, 63, 0⟩
def TIM_OFFSET_OFS : Field := ⟨R.TIM_OFFSET, 63, 0⟩
def TIM_STEP_DELTA : Field := ⟨R.TIM_STEP, 63, 0⟩
def TIM_JUMP_JUMP_NS : Field := ⟨R.TIM_JUMP, 29, 0⟩
def TIM_RATE_RATE_Q8 : Field := ⟨R.TIM_RATE, 31, 0⟩
def TIM_UTC_UTC_OFS : Field := ⟨R.TIM_UTC, 15, 0⟩
def TIM_UTC_LEAP61 : Field := ⟨R.TIM_UTC, 16, 16⟩
def TIM_UTC_LEAP59 : Field := ⟨R.TIM_UTC, 17, 17⟩
def TIM_UTC_FROM_SRC : Field := ⟨R.TIM_UTC, 18, 18⟩
def TIM_REFUSED_COUNT : Field := ⟨R.TIM_REFUSED, 31, 0⟩
def TIM_GM_ID_ID : Field := ⟨R.TIM_GM_ID, 63, 0⟩
def TIM_CLKOUT_FREQ : Field := ⟨R.TIM_CLKOUT, 2, 0⟩
def TIM_CLKOUT_GATED : Field := ⟨R.TIM_CLKOUT, 3, 3⟩
def TIM_PTP_PORT_STATE (k : Nat) : Field := ⟨R.TIM_PTP_PORT k, 3, 0⟩
def TIM_PTP_PORT_AS_CAPABLE (k : Nat) : Field := ⟨R.TIM_PTP_PORT k, 4, 4⟩
def TIM_PTP_PORT_ONE_STEP (k : Nat) : Field := ⟨R.TIM_PTP_PORT k, 5, 5⟩
def TIM_PTP_PORT_MPD_NS (k : Nat) : Field := ⟨R.TIM_PTP_PORT k, 31, 8⟩
def TIM_PTP_CNT_RX_DROP (k : Nat) : Field := ⟨R.TIM_PTP_CNT k, 15, 0⟩
def TIM_PTP_CNT_TIMEOUTS (k : Nat) : Field := ⟨R.TIM_PTP_CNT k, 31, 16⟩
def TIM_CAP_CFG_MODE (n : Nat) : Field := ⟨R.TIM_CAP_CFG n, 2, 0⟩
def TIM_CAP_CFG_EDGE (n : Nat) : Field := ⟨R.TIM_CAP_CFG n, 4, 3⟩
def TIM_CAP_CFG_LEVEL (n : Nat) : Field := ⟨R.TIM_CAP_CFG n, 5, 5⟩
def TIM_CAP_TIME_NS (n : Nat) : Field := ⟨R.TIM_CAP_TIME n, 63, 0⟩
def TIM_CAP_STAT_FRAC (n : Nat) : Field := ⟨R.TIM_CAP_STAT n, 15, 0⟩
def TIM_CAP_STAT_VALID (n : Nat) : Field := ⟨R.TIM_CAP_STAT n, 16, 16⟩
def TIM_CAP_STAT_RISING (n : Nat) : Field := ⟨R.TIM_CAP_STAT n, 17, 17⟩
def TIM_CAP_STAT_MISSED (n : Nat) : Field := ⟨R.TIM_CAP_STAT n, 31, 24⟩
def TIM_CAP_FREQ_ERR_PPB (n : Nat) : Field := ⟨R.TIM_CAP_FREQ n, 31, 0⟩
def TIM_PULSE_CFG_MODE (n : Nat) : Field := ⟨R.TIM_PULSE_CFG n, 1, 0⟩
def TIM_PULSE_CFG_POLARITY (n : Nat) : Field := ⟨R.TIM_PULSE_CFG n, 2, 2⟩
def TIM_PULSE_CFG_UNSYNC_HOLD (n : Nat) : Field := ⟨R.TIM_PULSE_CFG n, 3, 3⟩
def TIM_PULSE_CFG_ARM (n : Nat) : Field := ⟨R.TIM_PULSE_CFG n, 4, 4⟩
def TIM_PULSE_CFG_PENDING (n : Nat) : Field := ⟨R.TIM_PULSE_CFG n, 5, 5⟩
def TIM_PULSE_CFG_LEVEL (n : Nat) : Field := ⟨R.TIM_PULSE_CFG n, 6, 6⟩
def TIM_PULSE_START_START (n : Nat) : Field := ⟨R.TIM_PULSE_START n, 63, 0⟩
def TIM_PULSE_PERIOD_PERIOD_NS (n : Nat) : Field := ⟨R.TIM_PULSE_PERIOD n, 63, 0⟩
def TIM_PULSE_WIDTH_WIDTH_NS (n : Nat) : Field := ⟨R.TIM_PULSE_WIDTH n, 31, 0⟩
def LCE_STATUS_RUN : Field := ⟨R.LCE_STATUS, 15, 0⟩
def LCE_STATUS_STALLED : Field := ⟨R.LCE_STATUS, 31, 16⟩
def LCE_EVENT_STALL : Field := ⟨R.LCE_EVENT, 15, 0⟩
def LCE_EVENT_IN_OVF : Field := ⟨R.LCE_EVENT, 31, 16⟩
def LCE_IRQ_EN_EN : Field := ⟨R.LCE_IRQ_EN, 31, 0⟩
def LCE_CUE_MASK : Field := ⟨R.LCE_CUE, 15, 0⟩
def LCE_CUE_ACT : Field := ⟨R.LCE_CUE, 18, 16⟩
def LCE_CUE_DELAY : Field := ⟨R.LCE_CUE, 27, 19⟩
def LCE_CUE_STAT_PENDING : Field := ⟨R.LCE_CUE_STAT, 0, 0⟩
def LCE_CUE_STAT_REFUSED : Field := ⟨R.LCE_CUE_STAT, 1, 1⟩
def LCE_FLAGS_FLAG : Field := ⟨R.LCE_FLAGS, 31, 0⟩
def LCE_PIN_IN_LEVEL : Field := ⟨R.LCE_PIN_IN, 31, 0⟩
def LCE_PIN_OUT_DRIVE : Field := ⟨R.LCE_PIN_OUT, 31, 0⟩
def LCE_PIN_CFG_FUNC (p : Nat) : Field := ⟨R.LCE_PIN_CFG p, 1, 0⟩
def LCE_PIN_CFG_SAFE (p : Nat) : Field := ⟨R.LCE_PIN_CFG p, 3, 2⟩
def LCE_PIN_CFG_DRIVEN (p : Nat) : Field := ⟨R.LCE_PIN_CFG p, 4, 4⟩
def LCE_PIN_CFG_DRIVER (p : Nat) : Field := ⟨R.LCE_PIN_CFG p, 8, 5⟩
def LCE_PIN_CFG_OUTPUT (p : Nat) : Field := ⟨R.LCE_PIN_CFG p, 11, 9⟩
def LCE_PIN_CFG_AT_SAFE (p : Nat) : Field := ⟨R.LCE_PIN_CFG p, 12, 12⟩
def LCE_ENG_CFG_INIT (e : Nat) : Field := ⟨R.LCE_ENG_CFG e, 4, 0⟩
def LCE_ENG_CFG_AUTOSTART (e : Nat) : Field := ⟨R.LCE_ENG_CFG e, 5, 5⟩
def LCE_ENG_CFG_GROUP (e : Nat) : Field := ⟨R.LCE_ENG_CFG e, 8, 6⟩
def LCE_ENG_CFG_CLUSTER (e : Nat) : Field := ⟨R.LCE_ENG_CFG e, 11, 9⟩
def LCE_ENG_CFG_EVENT_ENG (e : Nat) : Field := ⟨R.LCE_ENG_CFG e, 14, 12⟩
def LCE_ENG_CFG_BOUND (e : Nat) : Field := ⟨R.LCE_ENG_CFG e, 15, 15⟩
def LCE_ENG_CFG_PROG_ID (e : Nat) : Field := ⟨R.LCE_ENG_CFG e, 31, 16⟩
def LCE_ENG_STATUS_STATE (e : Nat) : Field := ⟨R.LCE_ENG_STATUS e, 2, 0⟩
def LCE_ENG_STATUS_CUR (e : Nat) : Field := ⟨R.LCE_ENG_STATUS e, 7, 3⟩
def LCE_ENG_STATUS_STALL_DRAW (e : Nat) : Field := ⟨R.LCE_ENG_STATUS e, 8, 8⟩
def LCE_ENG_STATUS_STALL_DEPOSIT (e : Nat) : Field := ⟨R.LCE_ENG_STATUS e, 9, 9⟩
def LCE_ENG_STATUS_ENTRY (e : Nat) : Field := ⟨R.LCE_ENG_STATUS e, 22, 16⟩
def LCE_LOOP_SEL (e : Nat) : Field := ⟨R.LCE_LOOP e, 1, 0⟩
def LCE_DIV_DIV (e : Nat) : Field := ⟨R.LCE_DIV e, 23, 0⟩
def LCE_IN_FIFO_WORD (e : Nat) : Field := ⟨R.LCE_IN_FIFO e, 15, 0⟩
def LCE_OUT_FIFO_WORD (e : Nat) : Field := ⟨R.LCE_OUT_FIFO e, 15, 0⟩
def LCE_OUT_FIFO_VALID (e : Nat) : Field := ⟨R.LCE_OUT_FIFO e, 16, 16⟩
def LCE_FIFO_STAT_IN_COUNT (e : Nat) : Field := ⟨R.LCE_FIFO_STAT e, 3, 0⟩
def LCE_FIFO_STAT_OUT_COUNT (e : Nat) : Field := ⟨R.LCE_FIFO_STAT e, 7, 4⟩
def LCE_FIFO_STAT_IN_THR (e : Nat) : Field := ⟨R.LCE_FIFO_STAT e, 11, 8⟩
def LCE_FIFO_STAT_OUT_THR (e : Nat) : Field := ⟨R.LCE_FIFO_STAT e, 15, 12⟩
def LCE_FIFO_STAT_IN_OVF (e : Nat) : Field := ⟨R.LCE_FIFO_STAT e, 16, 16⟩
def LCE_FIFO_STAT_OUT_EMPTY_READ (e : Nat) : Field := ⟨R.LCE_FIFO_STAT e, 17, 17⟩
def LCE_SR_INR (e : Nat) : Field := ⟨R.LCE_SR e, 15, 0⟩
def LCE_SR_FDR (e : Nat) : Field := ⟨R.LCE_SR e, 31, 16⟩
def LCE_INMAP_SLOTS (e : Nat) : Field := ⟨R.LCE_INMAP e, 63, 0⟩
def LCE_OUTMAP_MAP (e : Nat) : Field := ⟨R.LCE_OUTMAP e, 31, 0⟩
def LCE_STALLS_COUNT (e : Nat) : Field := ⟨R.LCE_STALLS e, 31, 0⟩
def LCE_SEL_SEL_A (e s : Nat) : Field := ⟨R.LCE_SEL e s, 2, 0⟩
def LCE_SEL_SEL_B (e s : Nat) : Field := ⟨R.LCE_SEL e s, 5, 3⟩
def LCE_LOOPDEF_FIRST (e j : Nat) : Field := ⟨R.LCE_LOOPDEF e j, 4, 0⟩
def LCE_LOOPDEF_LAST (e j : Nat) : Field := ⟨R.LCE_LOOPDEF e j, 12, 8⟩
def LCE_TABLE_ENTRY (e i : Nat) : Field := ⟨R.LCE_TABLE e i, 31, 0⟩

end F

/-- The registers of block ETH_ with their layout and access codes, for accesses by offset (R10, R14 to R18). -/
def descETH : List RegDesc :=
  [ ⟨0x0, [(8, 0x400)], false, false, 0x0, [⟨3, 0, .ro⟩, ⟨6, 4, .ro⟩, ⟨7, 7, .ro⟩, ⟨8, 8, .ro⟩, ⟨10, 9, .ro⟩, ⟨11, 11, .ro⟩, ⟨12, 12, .ro⟩, ⟨13, 13, .ro⟩, ⟨14, 14, .ro⟩, ⟨29, 16, .ro⟩]⟩,
    ⟨0x4, [(8, 0x400)], false, false, 0x1F40320, [⟨0, 0, .rw⟩, ⟨1, 1, .w1s⟩, ⟨2, 2, .rw⟩, ⟨17, 4, .rw⟩, ⟨31, 18, .rw⟩]⟩,
    ⟨0x8, [(8, 0x400)], false, false, 0x0, [⟨0, 0, .ro⟩, ⟨3, 1, .ro⟩, ⟨4, 4, .ro⟩, ⟨5, 5, .ro⟩, ⟨6, 6, .ro⟩, ⟨7, 7, .ro⟩, ⟨15, 8, .ro⟩, ⟨16, 16, .ro⟩, ⟨17, 17, .ro⟩, ⟨19, 18, .ro⟩, ⟨20, 20, .ro⟩]⟩,
    ⟨0xC, [(8, 0x400)], false, false, 0x0, [⟨0, 0, .w1c⟩, ⟨1, 1, .w1c⟩, ⟨2, 2, .w1c⟩, ⟨3, 3, .w1c⟩, ⟨4, 4, .w1c⟩, ⟨5, 5, .w1c⟩, ⟨6, 6, .w1c⟩, ⟨7, 7, .w1c⟩, ⟨8, 8, .w1c⟩, ⟨9, 9, .w1c⟩, ⟨10, 10, .w1c⟩]⟩,
    ⟨0x10, [(8, 0x400)], false, false, 0x0, [⟨10, 0, .rw⟩]⟩,
    ⟨0x14, [(8, 0x400)], false, false, 0x0, [⟨5, 0, .ro⟩, ⟨6, 6, .ro⟩, ⟨7, 7, .ro⟩, ⟨8, 8, .ro⟩, ⟨23, 16, .rc⟩]⟩,
    ⟨0x18, [(8, 0x400)], true, false, 0x0, [⟨47, 0, .ro⟩]⟩,
    ⟨0x20, [(8, 0x400)], false, false, 0x0, [⟨7, 0, .ro⟩, ⟨15, 8, .ro⟩, ⟨16, 16, .ro⟩]⟩,
    ⟨0x28, [(8, 0x400)], true, false, 0x0, [⟨63, 0, .ro⟩]⟩,
    ⟨0x30, [(8, 0x400)], false, false, 0x0, [⟨31, 0, .ro⟩]⟩,
    ⟨0x38, [(8, 0x400)], true, false, 0x0, [⟨3, 0, .rc⟩, ⟨7, 4, .rc⟩, ⟨8, 8, .rc⟩, ⟨31, 16, .rc⟩, ⟨47, 32, .rc⟩]⟩,
    ⟨0x40, [(8, 0x400), (8, 0x4)], false, false, 0x0, [⟨23, 0, .ro⟩, ⟨24, 24, .ro⟩]⟩ ] ++
  [ ⟨0x10000, [(8, 0x400), (256, 0x4)], false, false, 0x0, [⟨7, 0, .ro⟩, ⟨31, 8, .ro⟩]⟩,
    ⟨0x30000, [], false, false, 0x0, [⟨7, 0, .ro⟩, ⟨15, 8, .ro⟩]⟩,
    ⟨0x30004, [], false, false, 0x0, [⟨7, 0, .ro⟩]⟩,
    ⟨0x30010, [(4, 0x8)], false, false, 0x0, [⟨1, 0, .ro⟩, ⟨17, 2, .ro⟩, ⟨31, 18, .ro⟩]⟩,
    ⟨0x30014, [(4, 0x8)], false, false, 0x0, [⟨12, 0, .ro⟩, ⟨31, 16, .rc⟩]⟩,
    ⟨0x80, [(8, 0x400)], false, false, 0x0, [⟨31, 0, .rc⟩]⟩,
    ⟨0x88, [(8, 0x400)], true, false, 0x0, [⟨63, 0, .rc⟩]⟩,
    ⟨0x90, [(8, 0x400)], false, false, 0x0, [⟨31, 0, .rc⟩]⟩,
    ⟨0x94, [(8, 0x400)], false, false, 0x0, [⟨31, 0, .rc⟩]⟩,
    ⟨0x98, [(8, 0x400)], false, false, 0x0, [⟨31, 0, .rc⟩]⟩,
    ⟨0x9C, [(8, 0x400)], false, false, 0x0, [⟨31, 0, .rc⟩]⟩,
    ⟨0xA0, [(8, 0x400)], false, false, 0x0, [⟨31, 0, .rc⟩]⟩ ] ++
  [ ⟨0xA4, [(8, 0x400)], false, false, 0x0, [⟨31, 0, .rc⟩]⟩,
    ⟨0xA8, [(8, 0x400)], false, false, 0x0, [⟨31, 0, .rc⟩]⟩,
    ⟨0xAC, [(8, 0x400)], false, false, 0x0, [⟨31, 0, .rc⟩]⟩,
    ⟨0xB0, [(8, 0x400)], false, false, 0x0, [⟨31, 0, .rc⟩]⟩,
    ⟨0xB4, [(8, 0x400)], false, false, 0x0, [⟨31, 0, .rc⟩]⟩,
    ⟨0xB8, [(8, 0x400)], false, false, 0x0, [⟨31, 0, .rc⟩]⟩,
    ⟨0xC0, [(8, 0x400)], true, false, 0x0, [⟨63, 0, .rc⟩]⟩,
    ⟨0xC8, [(8, 0x400)], false, false, 0x0, [⟨31, 0, .rc⟩]⟩,
    ⟨0xCC, [(8, 0x400)], false, false, 0x0, [⟨31, 0, .rc⟩]⟩,
    ⟨0xD0, [(8, 0x400)], false, false, 0x0, [⟨31, 0, .rc⟩]⟩,
    ⟨0xD4, [(8, 0x400)], false, false, 0x0, [⟨31, 0, .rc⟩]⟩,
    ⟨0xD8, [(8, 0x400)], false, false, 0x0, [⟨31, 0, .rc⟩]⟩ ] ++
  [ ⟨0xDC, [(8, 0x400)], false, false, 0x0, [⟨31, 0, .rc⟩]⟩,
    ⟨0xE0, [(8, 0x400)], false, false, 0x0, [⟨31, 0, .rc⟩]⟩ ]

/-- The registers of block SER_ with their layout and access codes, for accesses by offset (R10, R14 to R18). -/
def descSER : List RegDesc :=
  [ ⟨0x40000, [(8, 0x400)], false, false, 0x0, [⟨3, 0, .ro⟩, ⟨5, 4, .ro⟩, ⟨6, 6, .ro⟩, ⟨7, 7, .ro⟩, ⟨8, 8, .ro⟩, ⟨29, 16, .ro⟩]⟩,
    ⟨0x40004, [(8, 0x400)], false, false, 0x0, [⟨0, 0, .rw⟩, ⟨1, 1, .w1s⟩, ⟨2, 2, .w1s⟩, ⟨3, 3, .w1s⟩]⟩,
    ⟨0x40008, [(8, 0x400)], false, false, 0x0, [⟨2, 0, .ro⟩, ⟨3, 3, .ro⟩, ⟨4, 4, .ro⟩, ⟨5, 5, .ro⟩]⟩,
    ⟨0x4000C, [(8, 0x400)], false, false, 0x0, [⟨0, 0, .w1c⟩, ⟨1, 1, .w1c⟩, ⟨2, 2, .w1c⟩, ⟨3, 3, .w1c⟩, ⟨4, 4, .w1c⟩, ⟨5, 5, .w1c⟩, ⟨6, 6, .w1c⟩, ⟨7, 7, .w1c⟩, ⟨8, 8, .w1c⟩]⟩,
    ⟨0x40010, [(8, 0x400)], false, false, 0x0, [⟨8, 0, .rw⟩]⟩,
    ⟨0x40014, [(8, 0x400)], false, false, 0x0, [⟨0, 0, .w1s⟩, ⟨13, 8, .ro⟩, ⟨31, 16, .ro⟩]⟩,
    ⟨0x40018, [(8, 0x400)], false, false, 0x0, [⟨8, 0, .ro⟩, ⟨23, 16, .ro⟩, ⟨25, 24, .ro⟩, ⟨28, 26, .ro⟩]⟩,
    ⟨0x4001C, [(8, 0x400)], false, false, 0x0, [⟨31, 0, .rc⟩]⟩,
    ⟨0x40020, [(8, 0x400)], false, false, 0x0, [⟨31, 0, .rc⟩]⟩,
    ⟨0x40024, [(8, 0x400)], false, false, 0x0, [⟨2, 0, .ro⟩, ⟨3, 3, .ro⟩, ⟨7, 4, .ro⟩, ⟨15, 8, .ro⟩]⟩,
    ⟨0x40028, [(8, 0x400)], false, false, 0x0, [⟨31, 0, .ro⟩]⟩,
    ⟨0x4002C, [(8, 0x400)], false, false, 0x0, [⟨0, 0, .ro⟩, ⟨1, 1, .ro⟩, ⟨4, 2, .ro⟩, ⟨13, 8, .ro⟩]⟩ ] ++
  [ ⟨0x44000, [], false, false, 0x0, [⟨7, 0, .ro⟩, ⟨15, 8, .ro⟩]⟩,
    ⟨0x44004, [], false, false, 0x0, [⟨7, 0, .ro⟩]⟩,
    ⟨0x40040, [(8, 0x400)], false, false, 0x0, [⟨31, 0, .rc⟩]⟩,
    ⟨0x40044, [(8, 0x400)], false, false, 0x0, [⟨31, 0, .rc⟩]⟩,
    ⟨0x40048, [(8, 0x400)], false, false, 0x0, [⟨31, 0, .rc⟩]⟩,
    ⟨0x4004C, [(8, 0x400)], false, false, 0x0, [⟨31, 0, .rc⟩]⟩,
    ⟨0x40050, [(8, 0x400)], false, false, 0x0, [⟨31, 0, .rc⟩]⟩,
    ⟨0x40054, [(8, 0x400)], false, false, 0x0, [⟨31, 0, .rc⟩]⟩,
    ⟨0x40058, [(8, 0x400)], false, false, 0x0, [⟨31, 0, .rc⟩]⟩,
    ⟨0x4005C, [(8, 0x400)], false, false, 0x0, [⟨31, 0, .rc⟩]⟩,
    ⟨0x40060, [(8, 0x400)], false, false, 0x0, [⟨31, 0, .rc⟩]⟩,
    ⟨0x40064, [(8, 0x400)], false, false, 0x0, [⟨31, 0, .rc⟩]⟩ ] ++
  [ ⟨0x40068, [(8, 0x400)], false, false, 0x0, [⟨15, 0, .rc⟩, ⟨31, 16, .rc⟩]⟩ ]

/-- The registers of block TTE_ with their layout and access codes, for accesses by offset (R10, R14 to R18). -/
def descTTE : List RegDesc :=
  [ ⟨0x80000, [], false, false, 0x0, [⟨1, 0, .ro⟩, ⟨3, 2, .ro⟩, ⟨10, 4, .ro⟩, ⟨16, 11, .ro⟩, ⟨24, 17, .ro⟩, ⟨25, 25, .ro⟩, ⟨26, 26, .ro⟩, ⟨27, 27, .ro⟩, ⟨28, 28, .ro⟩, ⟨29, 29, .ro⟩]⟩,
    ⟨0x80004, [], false, false, 0x0, [⟨0, 0, .w1s⟩, ⟨1, 1, .rw⟩]⟩,
    ⟨0x80008, [], false, false, 0x0, [⟨3, 0, .ro⟩, ⟨4, 4, .ro⟩, ⟨5, 5, .ro⟩, ⟨6, 6, .ro⟩, ⟨7, 7, .ro⟩]⟩,
    ⟨0x8000C, [], false, false, 0x0, [⟨0, 0, .w1c⟩, ⟨1, 1, .w1c⟩, ⟨2, 2, .w1c⟩, ⟨3, 3, .w1c⟩, ⟨4, 4, .w1c⟩, ⟨5, 5, .w1c⟩, ⟨6, 6, .w1c⟩, ⟨7, 7, .w1c⟩, ⟨8, 8, .w1c⟩]⟩,
    ⟨0x80010, [], false, false, 0x0, [⟨8, 0, .rw⟩]⟩,
    ⟨0x80014, [], false, false, 0x0, [⟨5, 0, .ro⟩, ⟨10, 6, .ro⟩, ⟨11, 11, .ro⟩]⟩,
    ⟨0x80018, [], false, false, 0x0, [⟨15, 0, .ro⟩, ⟨23, 16, .ro⟩]⟩,
    ⟨0x8001C, [], false, false, 0x0, [⟨31, 0, .ro⟩]⟩,
    ⟨0x80028, [(2, 0x4)], false, false, 0x0, [⟨3, 0, .w1s⟩, ⟨7, 4, .w1s⟩]⟩,
    ⟨0x80030, [], false, false, 0x0, [⟨31, 0, .ro⟩]⟩,
    ⟨0x80034, [], false, false, 0x0, [⟨3, 0, .ro⟩]⟩,
    ⟨0x80038, [], true, false, 0x0, [⟨63, 0, .ro⟩]⟩ ] ++
  [ ⟨0x80040, [(2, 0x10), (4, 0x4)], false, false, 0x0, [⟨7, 0, .ro⟩, ⟨8, 8, .ro⟩, ⟨9, 9, .ro⟩, ⟨11, 10, .ro⟩, ⟨31, 16, .rc⟩]⟩,
    ⟨0x80080, [(2, 0x4)], false, false, 0x0, [⟨31, 0, .rc⟩]⟩,
    ⟨0x80088, [(2, 0x4)], false, false, 0x0, [⟨31, 0, .rc⟩]⟩,
    ⟨0x80090, [(2, 0x4)], false, false, 0x0, [⟨31, 0, .rc⟩]⟩,
    ⟨0x80098, [], false, false, 0x0, [⟨31, 0, .rc⟩]⟩,
    ⟨0x8009C, [], false, false, 0x0, [⟨31, 0, .rc⟩]⟩,
    ⟨0x800A0, [], false, false, 0x0, [⟨31, 0, .rc⟩]⟩,
    ⟨0x800A4, [], false, false, 0x0, [⟨31, 0, .rc⟩]⟩,
    ⟨0x800A8, [], false, false, 0x0, [⟨31, 0, .rc⟩]⟩,
    ⟨0x800AC, [(2, 0x4)], false, false, 0x0, [⟨31, 0, .rc⟩]⟩,
    ⟨0x800B4, [], false, false, 0x0, [⟨31, 0, .rc⟩]⟩ ]

/-- The registers of block SWC_ with their layout and access codes, for accesses by offset (R10, R14 to R18). -/
def descSWC : List RegDesc :=
  [ ⟨0xC0000, [], false, false, 0x0, [⟨0, 0, .ro⟩, ⟨1, 1, .ro⟩, ⟨2, 2, .ro⟩, ⟨3, 3, .ro⟩]⟩,
    ⟨0xC0004, [], false, false, 0x0, [⟨0, 0, .w1c⟩, ⟨1, 1, .w1c⟩, ⟨2, 2, .w1c⟩, ⟨3, 3, .w1c⟩, ⟨4, 4, .w1c⟩, ⟨5, 5, .w1c⟩]⟩,
    ⟨0xC0008, [], false, false, 0x0, [⟨5, 0, .rw⟩]⟩,
    ⟨0xC000C, [], false, false, 0x0, [⟨15, 0, .ro⟩, ⟨26, 16, .ro⟩]⟩,
    ⟨0xC0010, [], false, false, 0x4000, [⟨14, 0, .ro⟩]⟩,
    ⟨0xC0014, [], false, false, 0x0, [⟨12, 0, .ro⟩, ⟨31, 16, .rc⟩]⟩,
    ⟨0xC0018, [], false, false, 0x0, [⟨31, 0, .rc⟩]⟩,
    ⟨0xC001C, [], false, false, 0x0, [⟨31, 0, .rc⟩]⟩,
    ⟨0xC0020, [], false, false, 0x3, [⟨0, 0, .rw⟩, ⟨1, 1, .rw⟩]⟩,
    ⟨0xC0024, [], false, false, 0x0, [⟨31, 0, .rc⟩]⟩,
    ⟨0xC0028, [], true, false, 0x0, [⟨15, 0, .rc⟩, ⟨31, 16, .rc⟩, ⟨47, 32, .rc⟩, ⟨48, 48, .rc⟩, ⟨49, 49, .rc⟩, ⟨50, 50, .rc⟩]⟩,
    ⟨0xC0030, [], false, false, 0x0, [⟨11, 0, .rw⟩]⟩ ] ++
  [ ⟨0xC0034, [], false, false, 0x0, [⟨15, 0, .ro⟩, ⟨31, 16, .ro⟩]⟩,
    ⟨0xC0038, [], false, false, 0x0, [⟨31, 0, .rc⟩]⟩,
    ⟨0xC003C, [], false, false, 0x0, [⟨15, 0, .ro⟩]⟩,
    ⟨0xC0044, [(10, 0x4)], false, false, 0x0, [⟨31, 0, .rc⟩]⟩,
    ⟨0xC1000, [(114, 0x4)], false, false, 0x0, [⟨15, 0, .ro⟩, ⟨31, 16, .ro⟩]⟩,
    ⟨0xC2000, [(256, 0x10)], false, false, 0x0, [⟨0, 0, .ro⟩, ⟨3, 1, .ro⟩, ⟨15, 4, .ro⟩, ⟨16, 16, .ro⟩]⟩,
    ⟨0xC2004, [(256, 0x10)], false, false, 0x0, [⟨23, 0, .rw⟩]⟩,
    ⟨0xC2008, [(256, 0x10)], false, false, 0x0, [⟨31, 0, .ro⟩]⟩,
    ⟨0xC200C, [(256, 0x10)], false, false, 0x0, [⟨20, 0, .ro⟩]⟩ ]

/-- The registers of block TIM_ with their layout and access codes, for accesses by offset (R10, R14 to R18). -/
def descTIM : List RegDesc :=
  [ ⟨0x100000, [], false, true, 0xF800F0, [⟨3, 0, .ro⟩, ⟨6, 4, .ro⟩, ⟨7, 7, .ro⟩, ⟨8, 8, .ro⟩, ⟨9, 9, .ro⟩, ⟨10, 10, .ro⟩, ⟨11, 11, .ro⟩, ⟨12, 12, .ro⟩, ⟨23, 16, .ro⟩]⟩,
    ⟨0x100004, [], false, true, 0x0, [⟨2, 0, .wo⟩]⟩,
    ⟨0x100008, [], false, false, 0x0, [⟨0, 0, .w1c⟩, ⟨1, 1, .w1c⟩, ⟨2, 2, .w1c⟩, ⟨3, 3, .w1c⟩, ⟨4, 4, .w1c⟩, ⟨5, 5, .w1c⟩, ⟨6, 6, .w1c⟩, ⟨7, 7, .w1c⟩, ⟨11, 8, .w1c⟩, ⟨15, 12, .w1c⟩]⟩,
    ⟨0x10000C, [], false, false, 0x0, [⟨15, 0, .rw⟩]⟩,
    ⟨0x100010, [], true, false, 0x0, [⟨63, 0, .ro⟩]⟩,
    ⟨0x100018, [], false, false, 0x0, [⟨15, 0, .ro⟩]⟩,
    ⟨0x100020, [], true, false, 0x0, [⟨63, 0, .ro⟩]⟩,
    ⟨0x100028, [], true, true, 0x0, [⟨63, 0, .ro⟩]⟩,
    ⟨0x100030, [], true, true, 0x0, [⟨63, 0, .rw⟩]⟩,
    ⟨0x100038, [], false, true, 0x3E8, [⟨29, 0, .rw⟩]⟩,
    ⟨0x10003C, [], false, true, 0x0, [⟨31, 0, .ro⟩]⟩,
    ⟨0x100040, [], false, true, 0x0, [⟨15, 0, .rw⟩, ⟨16, 16, .rw⟩, ⟨17, 17, .rw⟩, ⟨18, 18, .ro⟩]⟩ ] ++
  [ ⟨0x100044, [], false, true, 0x0, [⟨31, 0, .rc⟩]⟩,
    ⟨0x100048, [], true, true, 0x0, [⟨63, 0, .ro⟩]⟩,
    ⟨0x100050, [], false, true, 0x0, [⟨2, 0, .rw⟩, ⟨3, 3, .ro⟩]⟩,
    ⟨0x100100, [(16, 0x8)], false, true, 0x0, [⟨3, 0, .ro⟩, ⟨4, 4, .ro⟩, ⟨5, 5, .ro⟩, ⟨31, 8, .ro⟩]⟩,
    ⟨0x100104, [(16, 0x8)], false, true, 0x0, [⟨15, 0, .rc⟩, ⟨31, 16, .rc⟩]⟩,
    ⟨0x100200, [(4, 0x20)], false, false, 0x0, [⟨2, 0, .ro⟩, ⟨4, 3, .ro⟩, ⟨5, 5, .ro⟩]⟩,
    ⟨0x100208, [(4, 0x20)], true, false, 0x0, [⟨63, 0, .ro⟩]⟩,
    ⟨0x100210, [(4, 0x20)], false, false, 0x0, [⟨15, 0, .ro⟩, ⟨16, 16, .rc⟩, ⟨17, 17, .ro⟩, ⟨31, 24, .rc⟩]⟩,
    ⟨0x100214, [(4, 0x20)], false, false, 0x0, [⟨31, 0, .ro⟩]⟩,
    ⟨0x100300, [(4, 0x20)], false, false, 0x4, [⟨1, 0, .rw⟩, ⟨2, 2, .rw⟩, ⟨3, 3, .rw⟩, ⟨4, 4, .w1s⟩, ⟨5, 5, .ro⟩, ⟨6, 6, .ro⟩]⟩,
    ⟨0x100308, [(4, 0x20)], true, false, 0x0, [⟨63, 0, .rw⟩]⟩,
    ⟨0x100310, [(4, 0x20)], true, false, 0x0, [⟨63, 0, .rw⟩]⟩ ] ++
  [ ⟨0x100318, [(4, 0x20)], false, false, 0x0, [⟨31, 0, .rw⟩]⟩ ]

/-- The registers of block LCE_ with their layout and access codes, for accesses by offset (R10, R14 to R18). -/
def descLCE : List RegDesc :=
  [ ⟨0x140000, [], false, false, 0x0, [⟨15, 0, .ro⟩, ⟨31, 16, .ro⟩]⟩,
    ⟨0x140004, [], false, false, 0x0, [⟨15, 0, .w1c⟩, ⟨31, 16, .w1c⟩]⟩,
    ⟨0x140008, [], false, false, 0x0, [⟨31, 0, .rw⟩]⟩,
    ⟨0x14000C, [], false, false, 0x0, [⟨15, 0, .wo⟩, ⟨18, 16, .wo⟩, ⟨27, 19, .wo⟩]⟩,
    ⟨0x140010, [], false, false, 0x0, [⟨0, 0, .ro⟩, ⟨1, 1, .w1c⟩]⟩,
    ⟨0x140014, [], false, false, 0x0, [⟨31, 0, .rw⟩]⟩,
    ⟨0x140018, [], false, false, 0x0, [⟨31, 0, .ro⟩]⟩,
    ⟨0x14001C, [], false, false, 0x0, [⟨31, 0, .ro⟩]⟩,
    ⟨0x140080, [(32, 0x4)], false, false, 0x8, [⟨1, 0, .ro⟩, ⟨3, 2, .ro⟩, ⟨4, 4, .ro⟩, ⟨8, 5, .ro⟩, ⟨11, 9, .ro⟩, ⟨12, 12, .ro⟩]⟩,
    ⟨0x140100, [(16, 0x40)], false, false, 0x0, [⟨4, 0, .ro⟩, ⟨5, 5, .ro⟩, ⟨8, 6, .ro⟩, ⟨11, 9, .ro⟩, ⟨14, 12, .ro⟩, ⟨15, 15, .ro⟩, ⟨31, 16, .ro⟩]⟩,
    ⟨0x140104, [(16, 0x40)], false, false, 0x0, [⟨2, 0, .ro⟩, ⟨7, 3, .ro⟩, ⟨8, 8, .ro⟩, ⟨9, 9, .ro⟩, ⟨22, 16, .ro⟩]⟩,
    ⟨0x140108, [(16, 0x40)], false, false, 0x0, [⟨1, 0, .rw⟩]⟩ ] ++
  [ ⟨0x14010C, [(16, 0x40)], false, false, 0x40, [⟨23, 0, .rw⟩]⟩,
    ⟨0x140110, [(16, 0x40)], false, false, 0x0, [⟨15, 0, .wo⟩]⟩,
    ⟨0x140114, [(16, 0x40)], false, false, 0x0, [⟨15, 0, .rc⟩, ⟨16, 16, .rc⟩]⟩,
    ⟨0x140118, [(16, 0x40)], false, false, 0x1000, [⟨3, 0, .ro⟩, ⟨7, 4, .ro⟩, ⟨11, 8, .rw⟩, ⟨15, 12, .rw⟩, ⟨16, 16, .w1c⟩, ⟨17, 17, .w1c⟩]⟩,
    ⟨0x14011C, [(16, 0x40)], false, false, 0x0, [⟨15, 0, .ro⟩, ⟨31, 16, .ro⟩]⟩,
    ⟨0x140120, [(16, 0x40)], true, false, 0x0, [⟨63, 0, .ro⟩]⟩,
    ⟨0x140128, [(16, 0x40)], false, false, 0x0, [⟨31, 0, .ro⟩]⟩,
    ⟨0x14012C, [(16, 0x40)], false, false, 0x0, [⟨31, 0, .rc⟩]⟩,
    ⟨0x141000, [(16, 0x80), (32, 0x4)], false, false, 0x0, [⟨2, 0, .ro⟩, ⟨5, 3, .ro⟩]⟩,
    ⟨0x142000, [(16, 0x10), (4, 0x4)], false, false, 0x0, [⟨4, 0, .rw⟩, ⟨12, 8, .rw⟩]⟩,
    ⟨0x144000, [(16, 0x200), (128, 0x4)], false, false, 0x0, [⟨31, 0, .ro⟩]⟩ ]

end Sys2Proof.Machine
end

