-- ==== Sys2Proof/Machine/RegMapB.lean ====
section
/-! DEFINITION. The register map of the control space, blocks PCI_, DMA_, MBX_, ERC_, PKT_, DPT_, VAT_, AWL_, HAR_: every register of the chapters' register summaries
with its offset within a die's control space and its Reset value (R19, R20, R48), and every field with its bits.
Repeated registers take their unit numbers as arguments. A field whose Reset column names no number (fused, per
variant, per die, pin) reads 0 here, and State.reset lists the value the model gives it; the pads that every die has read
PRESENT (R888). -/


namespace Sys2Proof.Machine

namespace R

def PCI_ID : Reg := ⟨0x180000, 0x0⟩
def PCI_PORT_CFG : Reg := ⟨0x180004, 0x0⟩
def PCI_STATUS : Reg := ⟨0x180008, 0x0⟩
def PCI_EVENT : Reg := ⟨0x18000C, 0x0⟩
def PCI_IRQ_EN : Reg := ⟨0x180010, 0x0⟩
def PCI_ERR_LOG : Reg := ⟨0x180018, 0x0⟩
def PCI_OWN_VEC (i : Nat) : Reg := ⟨0x181000 + i * 0x4, 0x0⟩
def PCI_PG_VEC (t : Nat) : Reg := ⟨0x188000 + t * 0x4, 0x0⟩
def DMA_STATUS : Reg := ⟨0x1C0000, 0x0⟩
def DMA_EVENT : Reg := ⟨0x1C0004, 0x0⟩
def DMA_IRQ_EN : Reg := ⟨0x1C0008, 0x0⟩
def DMA_HCQ : Reg := ⟨0x1C000C, 0x0⟩
def DMA_CH_CFG (ch : Nat) : Reg := ⟨0x1C0100 + ch * 0x10, 0x0⟩
def DMA_CH_PASID (ch : Nat) : Reg := ⟨0x1C0104 + ch * 0x10, 0x0⟩
def DMA_CH_STATUS (ch : Nat) : Reg := ⟨0x1C0108 + ch * 0x10, 0x0⟩
def DMA_CH_CTRL (ch : Nat) : Reg := ⟨0x1C010C + ch * 0x10, 0x0⟩
def MBX_EVENT : Reg := ⟨0x200000, 0x0⟩
def MBX_IRQ_EN : Reg := ⟨0x200004, 0x0⟩
def MBX_ENG (e : Nat) : Reg := ⟨0x200100 + e * 0x8, 0x0⟩
def MBX_DROP (e : Nat) : Reg := ⟨0x200104 + e * 0x8, 0x0⟩
def ERC_STATUS : Reg := ⟨0x240000, 0x0⟩
def ERC_CTRL : Reg := ⟨0x240004, 0x0⟩
def ERC_EVENT : Reg := ⟨0x240008, 0x0⟩
def ERC_IRQ_EN : Reg := ⟨0x24000C, 0x0⟩
def ERC_NEXT_SEQ : Reg := ⟨0x240010, 0x0⟩
def ERC_FLUSHED : Reg := ⟨0x240018, 0x0⟩
def ERC_ARC_OLDEST : Reg := ⟨0x240020, 0x0⟩
def ERC_ARC_POS : Reg := ⟨0x240028, 0x0⟩
def ERC_OCC : Reg := ⟨0x240030, 0x0⟩
def ERC_REFUSED : Reg := ⟨0x240034, 0x0⟩
def ERC_GASP : Reg := ⟨0x240038, 0x0⟩
def ERC_CLR_NONCE : Reg := ⟨0x240040, 0x0⟩
def ERC_CLR_CTRL : Reg := ⟨0x240048, 0x0⟩
def ERC_CLR_TOKEN (i : Nat) : Reg := ⟨0x240080 + i * 0x4, 0x0⟩
def ERC_LOST (c : Nat) : Reg := ⟨0x240100 + c * 0x4, 0x0⟩
def ERC_SNAP (k : Nat) : Reg := ⟨0x240200 + k * 0x20, 0x0⟩
def ERC_SNAP_FIRST (k : Nat) : Reg := ⟨0x240208 + k * 0x20, 0x0⟩
def ERC_SNAP_LAST (k : Nat) : Reg := ⟨0x240210 + k * 0x20, 0x0⟩
def PKT_STATUS : Reg := ⟨0x280000, 0x0⟩
def PKT_EVENT : Reg := ⟨0x280004, 0x0⟩
def PKT_IRQ_EN : Reg := ⟨0x280008, 0x0⟩
def PKT_KEYS : Reg := ⟨0x28000C, 0x0⟩
def PKT_TCP_STATUS : Reg := ⟨0x280010, 0x0⟩
def PKT_TCP_REFUSED : Reg := ⟨0x280014, 0x0⟩
def PKT_CSUM_ERR : Reg := ⟨0x280018, 0x0⟩
def PKT_REASM_DROP : Reg := ⟨0x28001C, 0x0⟩
def PKT_FRAMING_ERR : Reg := ⟨0x280020, 0x0⟩
def PKT_PASS_FRAMES : Reg := ⟨0x280024, 0x0⟩
def PKT_CL_ID (c : Nat) : Reg := ⟨0x280100 + c * 0x10, 0x0⟩
def PKT_CL_FRAMES (c : Nat) : Reg := ⟨0x280104 + c * 0x10, 0x0⟩
def PKT_CL_SLOW (c : Nat) : Reg := ⟨0x280108 + c * 0x10, 0x0⟩
def PKT_CL_DROP (c : Nat) : Reg := ⟨0x28010C + c * 0x10, 0x0⟩
def DPT_STATUS : Reg := ⟨0x2C0000, 0x0⟩
def DPT_CTRL : Reg := ⟨0x2C0004, 0x1⟩
def DPT_EVENT : Reg := ⟨0x2C0008, 0x0⟩
def DPT_IRQ_EN : Reg := ⟨0x2C000C, 0x0⟩
def DPT_LEAD_HOST : Reg := ⟨0x2C0010, 0x0⟩
def DPT_LEAD_ENG : Reg := ⟨0x2C0014, 0x0⟩
def DPT_COMMITS : Reg := ⟨0x2C0018, 0x0⟩
def DPT_FUTURE_SRC : Reg := ⟨0x2C001C, 0x0⟩
def DPT_REFUSE_LOG : Reg := ⟨0x2C0020, 0x0⟩
def DPT_SEQ_RESTART : Reg := ⟨0x2C0028, 0x0⟩
def DPT_FENCE : Reg := ⟨0x2C002C, 0xFFFF⟩
def DPT_FENCE_CNT : Reg := ⟨0x2C0030, 0x0⟩
def DPT_SKV_STATUS : Reg := ⟨0x2C0034, 0x0⟩
def DPT_SKV_ARMED : Reg := ⟨0x2C0038, 0x0⟩
def DPT_REFUSE (r : Nat) : Reg := ⟨0x2C0040 + r * 0x4, 0x0⟩
def DPT_NCH_CFG (n : Nat) : Reg := ⟨0x2C0100 + n * 0x8, 0x0⟩
def DPT_NCH_IDX (n : Nat) : Reg := ⟨0x2C0104 + n * 0x8, 0x0⟩
def VAT_STATUS : Reg := ⟨0x300000, 0x3⟩
def VAT_EVENT : Reg := ⟨0x300004, 0x0⟩
def VAT_IRQ_EN : Reg := ⟨0x300008, 0x0⟩
def VAT_PART : Reg := ⟨0x30000C, 0x0⟩
def VAT_ARB_STARVE : Reg := ⟨0x300010, 0x0⟩
def VAT_CLEAR : Reg := ⟨0x300014, 0x2⟩
def VAT_ECC_UE_LOG : Reg := ⟨0x300020, 0x0⟩
def VAT_ECC_CE_LOG : Reg := ⟨0x300028, 0x0⟩
def VAT_BURN_CTRL : Reg := ⟨0x300030, 0x41⟩
def VAT_BURN_PASS : Reg := ⟨0x300034, 0x0⟩
def VAT_MARCH_CTRL : Reg := ⟨0x300040, 0xFFFF0000⟩
def VAT_MARCH_STATUS : Reg := ⟨0x300044, 0x11⟩
def VAT_MARCH_FAIL : Reg := ⟨0x300048, 0x0⟩
def VAT_MARCH_REPAIR : Reg := ⟨0x30004C, 0x0⟩
def VAT_VIOL_LOG : Reg := ⟨0x300050, 0x0⟩
def VAT_VIOL_CNT : Reg := ⟨0x300054, 0x0⟩
def VAT_CE_CNT (b : Nat) : Reg := ⟨0x300100 + b * 0x4, 0x0⟩
def VAT_UE_CNT (b : Nat) : Reg := ⟨0x300140 + b * 0x4, 0x0⟩
def VAT_RGN (m t k : Nat) : Reg := ⟨0x308000 + m * 0x400 + t * 0x80 + k * 0x8, 0x0⟩
def AWL_STATUS : Reg := ⟨0x340000, 0xFF0000⟩
def AWL_EVENT : Reg := ⟨0x340004, 0x0⟩
def AWL_IRQ_EN : Reg := ⟨0x340008, 0x0⟩
def AWL_RUN_LIMIT : Reg := ⟨0x34000C, 0x3E8⟩
def AWL_TRAP_LOG : Reg := ⟨0x340010, 0x0⟩
def AWL_CL_STATUS (c : Nat) : Reg := ⟨0x340100 + c * 0x10, 0x0⟩
def AWL_CL_CTRL (c : Nat) : Reg := ⟨0x340104 + c * 0x10, 0x0⟩
def AWL_CL_TRAPS (c : Nat) : Reg := ⟨0x340108 + c * 0x10, 0x0⟩
def AWL_CL_CNT (c : Nat) : Reg := ⟨0x34010C + c * 0x10, 0x0⟩
def AWL_ENG_STATUS (e : Nat) : Reg := ⟨0x340200 + e * 0x8, 0x0⟩
def AWL_ENG_CTRL (e : Nat) : Reg := ⟨0x340204 + e * 0x8, 0x0⟩
def HAR_STATUS : Reg := ⟨0x380000, 0x0⟩
def HAR_CTRL : Reg := ⟨0x380004, 0x0⟩
def HAR_ERROR : Reg := ⟨0x380008, 0x1FF00⟩
def HAR_EPOCH : Reg := ⟨0x38000C, 0x0⟩
def HAR_IMAGE_ID : Reg := ⟨0x380010, 0x0⟩
def HAR_STAGED_ID : Reg := ⟨0x380014, 0x0⟩
def HAR_SRC_ADDR : Reg := ⟨0x380018, 0x0⟩
def HAR_SRC_LEN : Reg := ⟨0x380020, 0x0⟩
def HAR_COMMIT_TIME : Reg := ⟨0x380028, 0x0⟩
def HAR_GUARD : Reg := ⟨0x380030, 0x64⟩
def HAR_READY : Reg := ⟨0x380034, 0x0⟩
def HAR_NOTREADY : Reg := ⟨0x380038, 0xFFFF⟩
def HAR_ABORTS : Reg := ⟨0x38003C, 0x0⟩
def HAR_EVENT : Reg := ⟨0x380040, 0x0⟩
def HAR_IRQ_EN : Reg := ⟨0x380044, 0x0⟩
def HAR_BOOT : Reg := ⟨0x380048, 0x0⟩
def HAR_DIE_STATE : Reg := ⟨0x380050, 0x0⟩

end R

namespace F

def PCI_ID_VENDOR : Field := ⟨R.PCI_ID, 15, 0⟩
def PCI_ID_DEVICE : Field := ⟨R.PCI_ID, 31, 16⟩
def PCI_PORT_CFG_ROLE : Field := ⟨R.PCI_PORT_CFG, 1, 0⟩
def PCI_PORT_CFG_OWNER : Field := ⟨R.PCI_PORT_CFG, 2, 2⟩
def PCI_PORT_CFG_MAX_GEN : Field := ⟨R.PCI_PORT_CFG, 5, 3⟩
def PCI_PORT_CFG_WIDTH : Field := ⟨R.PCI_PORT_CFG, 8, 6⟩
def PCI_PORT_CFG_SUBSYS_ID : Field := ⟨R.PCI_PORT_CFG, 31, 16⟩
def PCI_STATUS_LINK_UP : Field := ⟨R.PCI_STATUS, 0, 0⟩
def PCI_STATUS_GEN : Field := ⟨R.PCI_STATUS, 3, 1⟩
def PCI_STATUS_WIDTH : Field := ⟨R.PCI_STATUS, 6, 4⟩
def PCI_STATUS_BOOT : Field := ⟨R.PCI_STATUS, 7, 7⟩
def PCI_STATUS_CTX_USED : Field := ⟨R.PCI_STATUS, 14, 8⟩
def PCI_EVENT_LINK_UP : Field := ⟨R.PCI_EVENT, 0, 0⟩
def PCI_EVENT_LINK_DOWN : Field := ⟨R.PCI_EVENT, 1, 1⟩
def PCI_EVENT_PORT_RESET : Field := ⟨R.PCI_EVENT, 2, 2⟩
def PCI_EVENT_ALIGN : Field := ⟨R.PCI_EVENT, 3, 3⟩
def PCI_EVENT_OWNER_DENIED : Field := ⟨R.PCI_EVENT, 4, 4⟩
def PCI_EVENT_CA : Field := ⟨R.PCI_EVENT, 5, 5⟩
def PCI_EVENT_UR : Field := ⟨R.PCI_EVENT, 6, 6⟩
def PCI_EVENT_HOST_ERR : Field := ⟨R.PCI_EVENT, 7, 7⟩
def PCI_IRQ_EN_EN : Field := ⟨R.PCI_IRQ_EN, 7, 0⟩
def PCI_ERR_LOG_OFFSET : Field := ⟨R.PCI_ERR_LOG, 27, 0⟩
def PCI_ERR_LOG_BAR : Field := ⟨R.PCI_ERR_LOG, 29, 28⟩
def PCI_ERR_LOG_WRITE : Field := ⟨R.PCI_ERR_LOG, 30, 30⟩
def PCI_ERR_LOG_VALID : Field := ⟨R.PCI_ERR_LOG, 31, 31⟩
def PCI_ERR_LOG_KIND : Field := ⟨R.PCI_ERR_LOG, 34, 32⟩
def PCI_ERR_LOG_LEN : Field := ⟨R.PCI_ERR_LOG, 38, 35⟩
def PCI_OWN_VEC_VEC (i : Nat) : Field := ⟨R.PCI_OWN_VEC i, 10, 0⟩
def PCI_OWN_VEC_EN (i : Nat) : Field := ⟨R.PCI_OWN_VEC i, 15, 15⟩
def PCI_PG_VEC_NORMAL (t : Nat) : Field := ⟨R.PCI_PG_VEC t, 10, 0⟩
def PCI_PG_VEC_NORMAL_EN (t : Nat) : Field := ⟨R.PCI_PG_VEC t, 15, 15⟩
def PCI_PG_VEC_ERROR (t : Nat) : Field := ⟨R.PCI_PG_VEC t, 26, 16⟩
def PCI_PG_VEC_ERROR_EN (t : Nat) : Field := ⟨R.PCI_PG_VEC t, 31, 31⟩
def DMA_STATUS_RUN : Field := ⟨R.DMA_STATUS, 31, 0⟩
def DMA_EVENT_ERR : Field := ⟨R.DMA_EVENT, 31, 0⟩
def DMA_IRQ_EN_EN : Field := ⟨R.DMA_IRQ_EN, 31, 0⟩
def DMA_HCQ_USED : Field := ⟨R.DMA_HCQ, 10, 0⟩
def DMA_HCQ_STALLS : Field := ⟨R.DMA_HCQ, 31, 16⟩
def DMA_CH_CFG_TID (ch : Nat) : Field := ⟨R.DMA_CH_CFG ch, 11, 0⟩
def DMA_CH_CFG_BOUND (ch : Nat) : Field := ⟨R.DMA_CH_CFG ch, 12, 12⟩
def DMA_CH_CFG_PASID_EN (ch : Nat) : Field := ⟨R.DMA_CH_CFG ch, 13, 13⟩
def DMA_CH_CFG_PORT (ch : Nat) : Field := ⟨R.DMA_CH_CFG ch, 16, 14⟩
def DMA_CH_CFG_PORT_VALID (ch : Nat) : Field := ⟨R.DMA_CH_CFG ch, 17, 17⟩
def DMA_CH_CFG_SLOT (ch : Nat) : Field := ⟨R.DMA_CH_CFG ch, 20, 18⟩
def DMA_CH_PASID_PASID (ch : Nat) : Field := ⟨R.DMA_CH_PASID ch, 19, 0⟩
def DMA_CH_STATUS_STATE (ch : Nat) : Field := ⟨R.DMA_CH_STATUS ch, 2, 0⟩
def DMA_CH_STATUS_TYPE (ch : Nat) : Field := ⟨R.DMA_CH_STATUS ch, 4, 3⟩
def DMA_CH_STATUS_CODE (ch : Nat) : Field := ⟨R.DMA_CH_STATUS ch, 11, 8⟩
def DMA_CH_STATUS_CI (ch : Nat) : Field := ⟨R.DMA_CH_STATUS ch, 27, 16⟩
def DMA_CH_CTRL_ABORT (ch : Nat) : Field := ⟨R.DMA_CH_CTRL ch, 0, 0⟩
def DMA_CH_CTRL_RESET (ch : Nat) : Field := ⟨R.DMA_CH_CTRL ch, 1, 1⟩
def MBX_EVENT_OVERRUN : Field := ⟨R.MBX_EVENT, 0, 0⟩
def MBX_EVENT_FENCE_DROP : Field := ⟨R.MBX_EVENT, 1, 1⟩
def MBX_EVENT_WAKE : Field := ⟨R.MBX_EVENT, 2, 2⟩
def MBX_IRQ_EN_EN : Field := ⟨R.MBX_IRQ_EN, 2, 0⟩
def MBX_ENG_IN_COUNT (e : Nat) : Field := ⟨R.MBX_ENG e, 3, 0⟩
def MBX_ENG_OUT_COUNT (e : Nat) : Field := ⟨R.MBX_ENG e, 7, 4⟩
def MBX_ENG_BOUND (e : Nat) : Field := ⟨R.MBX_ENG e, 8, 8⟩
def MBX_ENG_TID (e : Nat) : Field := ⟨R.MBX_ENG e, 20, 9⟩
def MBX_ENG_SLOT (e : Nat) : Field := ⟨R.MBX_ENG e, 24, 21⟩
def MBX_ENG_WAKE_PENDING (e : Nat) : Field := ⟨R.MBX_ENG e, 25, 25⟩
def MBX_DROP_OVERRUN (e : Nat) : Field := ⟨R.MBX_DROP e, 15, 0⟩
def MBX_DROP_FENCE (e : Nat) : Field := ⟨R.MBX_DROP e, 31, 16⟩
def ERC_STATUS_RUN : Field := ⟨R.ERC_STATUS, 0, 0⟩
def ERC_STATUS_ARCHIVE : Field := ⟨R.ERC_STATUS, 1, 1⟩
def ERC_STATUS_ARC_FAULT : Field := ⟨R.ERC_STATUS, 2, 2⟩
def ERC_STATUS_C0_OVF : Field := ⟨R.ERC_STATUS, 3, 3⟩
def ERC_STATUS_ALARM : Field := ⟨R.ERC_STATUS, 4, 4⟩
def ERC_STATUS_GASP_BUSY : Field := ⟨R.ERC_STATUS, 5, 5⟩
def ERC_STATUS_FC1 : Field := ⟨R.ERC_STATUS, 6, 6⟩
def ERC_STATUS_END : Field := ⟨R.ERC_STATUS, 7, 7⟩
def ERC_STATUS_PENDING : Field := ⟨R.ERC_STATUS, 15, 8⟩
def ERC_STATUS_HELD_BACK : Field := ⟨R.ERC_STATUS, 16, 16⟩
def ERC_CTRL_FLUSH : Field := ⟨R.ERC_CTRL, 0, 0⟩
def ERC_CTRL_ALARM_CLR : Field := ⟨R.ERC_CTRL, 1, 1⟩
def ERC_CTRL_ARC_RETRY : Field := ⟨R.ERC_CTRL, 2, 2⟩
def ERC_CTRL_ARC_ADOPT : Field := ⟨R.ERC_CTRL, 3, 3⟩
def ERC_EVENT_LOSS : Field := ⟨R.ERC_EVENT, 0, 0⟩
def ERC_EVENT_C0_OVF : Field := ⟨R.ERC_EVENT, 1, 1⟩
def ERC_EVENT_ARC_FAIL : Field := ⟨R.ERC_EVENT, 2, 2⟩
def ERC_EVENT_ARC_WRAP : Field := ⟨R.ERC_EVENT, 3, 3⟩
def ERC_EVENT_SNAP_ENDED : Field := ⟨R.ERC_EVENT, 4, 4⟩
def ERC_EVENT_GASP_DONE : Field := ⟨R.ERC_EVENT, 5, 5⟩
def ERC_EVENT_CLEARED : Field := ⟨R.ERC_EVENT, 6, 6⟩
def ERC_EVENT_REFUSED : Field := ⟨R.ERC_EVENT, 7, 7⟩
def ERC_EVENT_FOREIGN : Field := ⟨R.ERC_EVENT, 8, 8⟩
def ERC_IRQ_EN_EN : Field := ⟨R.ERC_IRQ_EN, 8, 0⟩
def ERC_NEXT_SEQ_SEQ : Field := ⟨R.ERC_NEXT_SEQ, 63, 0⟩
def ERC_FLUSHED_SEQ : Field := ⟨R.ERC_FLUSHED, 63, 0⟩
def ERC_ARC_OLDEST_SEQ : Field := ⟨R.ERC_ARC_OLDEST, 63, 0⟩
def ERC_ARC_POS_BLOCK : Field := ⟨R.ERC_ARC_POS, 39, 0⟩
def ERC_ARC_POS_GEN : Field := ⟨R.ERC_ARC_POS, 63, 48⟩
def ERC_OCC_O_KIB : Field := ⟨R.ERC_OCC, 12, 0⟩
def ERC_OCC_BLOCK : Field := ⟨R.ERC_OCC, 25, 16⟩
def ERC_REFUSED_COUNT : Field := ⟨R.ERC_REFUSED, 31, 0⟩
def ERC_GASP_FOUND : Field := ⟨R.ERC_GASP, 1, 0⟩
def ERC_GASP_CAUSE : Field := ⟨R.ERC_GASP, 3, 2⟩
def ERC_GASP_GAP : Field := ⟨R.ERC_GASP, 4, 4⟩
def ERC_GASP_IMPORTED : Field := ⟨R.ERC_GASP, 31, 8⟩
def ERC_CLR_NONCE_NONCE : Field := ⟨R.ERC_CLR_NONCE, 63, 0⟩
def ERC_CLR_CTRL_GO : Field := ⟨R.ERC_CLR_CTRL, 0, 0⟩
def ERC_CLR_CTRL_RESULT : Field := ⟨R.ERC_CLR_CTRL, 3, 1⟩
def ERC_CLR_TOKEN_WORD (i : Nat) : Field := ⟨R.ERC_CLR_TOKEN i, 31, 0⟩
def ERC_LOST_COUNT (c : Nat) : Field := ⟨R.ERC_LOST c, 31, 0⟩
def ERC_SNAP_TAKE (k : Nat) : Field := ⟨R.ERC_SNAP k, 0, 0⟩
def ERC_SNAP_RELEASE (k : Nat) : Field := ⟨R.ERC_SNAP k, 1, 1⟩
def ERC_SNAP_HELD (k : Nat) : Field := ⟨R.ERC_SNAP k, 2, 2⟩
def ERC_SNAP_ENDED (k : Nat) : Field := ⟨R.ERC_SNAP k, 3, 3⟩
def ERC_SNAP_INCOMPLETE (k : Nat) : Field := ⟨R.ERC_SNAP k, 4, 4⟩
def ERC_SNAP_FIRST_SEQ (k : Nat) : Field := ⟨R.ERC_SNAP_FIRST k, 63, 0⟩
def ERC_SNAP_LAST_SEQ (k : Nat) : Field := ⟨R.ERC_SNAP_LAST k, 63, 0⟩
def PKT_STATUS_CL_PACK : Field := ⟨R.PKT_STATUS, 7, 0⟩
def PKT_STATUS_CL_TRANSPORT : Field := ⟨R.PKT_STATUS, 15, 8⟩
def PKT_STATUS_ASSIST_RUN : Field := ⟨R.PKT_STATUS, 16, 16⟩
def PKT_EVENT_CSUM_ERR : Field := ⟨R.PKT_EVENT, 0, 0⟩
def PKT_EVENT_REASM_DROP : Field := ⟨R.PKT_EVENT, 1, 1⟩
def PKT_EVENT_TCP_REFUSED : Field := ⟨R.PKT_EVENT, 2, 2⟩
def PKT_EVENT_FRAMING_ERR : Field := ⟨R.PKT_EVENT, 3, 3⟩
def PKT_EVENT_TCP_FULL : Field := ⟨R.PKT_EVENT, 4, 4⟩
def PKT_EVENT_CL_DROP : Field := ⟨R.PKT_EVENT, 5, 5⟩
def PKT_IRQ_EN_EN : Field := ⟨R.PKT_IRQ_EN, 5, 0⟩
def PKT_KEYS_SLOT_VALID : Field := ⟨R.PKT_KEYS, 3, 0⟩
def PKT_KEYS_REVOKED : Field := ⟨R.PKT_KEYS, 7, 4⟩
def PKT_KEYS_MIN_SEC : Field := ⟨R.PKT_KEYS, 31, 8⟩
def PKT_TCP_STATUS_OPEN : Field := ⟨R.PKT_TCP_STATUS, 12, 0⟩
def PKT_TCP_STATUS_LISTEN : Field := ⟨R.PKT_TCP_STATUS, 24, 16⟩
def PKT_TCP_REFUSED_COUNT : Field := ⟨R.PKT_TCP_REFUSED, 31, 0⟩
def PKT_CSUM_ERR_COUNT : Field := ⟨R.PKT_CSUM_ERR, 31, 0⟩
def PKT_REASM_DROP_COUNT : Field := ⟨R.PKT_REASM_DROP, 31, 0⟩
def PKT_FRAMING_ERR_COUNT : Field := ⟨R.PKT_FRAMING_ERR, 31, 0⟩
def PKT_PASS_FRAMES_COUNT : Field := ⟨R.PKT_PASS_FRAMES, 31, 0⟩
def PKT_CL_ID_PACK_ID (c : Nat) : Field := ⟨R.PKT_CL_ID c, 15, 0⟩
def PKT_CL_ID_VERSION (c : Nat) : Field := ⟨R.PKT_CL_ID c, 31, 16⟩
def PKT_CL_FRAMES_COUNT (c : Nat) : Field := ⟨R.PKT_CL_FRAMES c, 31, 0⟩
def PKT_CL_SLOW_COUNT (c : Nat) : Field := ⟨R.PKT_CL_SLOW c, 31, 0⟩
def PKT_CL_DROP_UNSUP (c : Nat) : Field := ⟨R.PKT_CL_DROP c, 15, 0⟩
def PKT_CL_DROP_NOSTITCH (c : Nat) : Field := ⟨R.PKT_CL_DROP c, 31, 16⟩
def DPT_STATUS_SKV_RUN : Field := ⟨R.DPT_STATUS, 0, 0⟩
def DPT_STATUS_FENCE_BUSY : Field := ⟨R.DPT_STATUS, 1, 1⟩
def DPT_STATUS_RESYNC_PENDING : Field := ⟨R.DPT_STATUS, 2, 2⟩
def DPT_CTRL_SKV_EN : Field := ⟨R.DPT_CTRL, 0, 0⟩
def DPT_EVENT_REFUSE : Field := ⟨R.DPT_EVENT, 0, 0⟩
def DPT_EVENT_FUTURE_SRC : Field := ⟨R.DPT_EVENT, 1, 1⟩
def DPT_EVENT_SEQ_RESTART : Field := ⟨R.DPT_EVENT, 2, 2⟩
def DPT_EVENT_FENCE_DONE : Field := ⟨R.DPT_EVENT, 3, 3⟩
def DPT_EVENT_SKV_LATE : Field := ⟨R.DPT_EVENT, 4, 4⟩
def DPT_EVENT_NCH_FULL : Field := ⟨R.DPT_EVENT, 5, 5⟩
def DPT_EVENT_STEP : Field := ⟨R.DPT_EVENT, 6, 6⟩
def DPT_EVENT_UE_READ : Field := ⟨R.DPT_EVENT, 7, 7⟩
def DPT_IRQ_EN_EN : Field := ⟨R.DPT_IRQ_EN, 7, 0⟩
def DPT_LEAD_HOST_LEAD_NS : Field := ⟨R.DPT_LEAD_HOST, 23, 0⟩
def DPT_LEAD_ENG_LEAD_NS : Field := ⟨R.DPT_LEAD_ENG, 23, 0⟩
def DPT_COMMITS_COUNT : Field := ⟨R.DPT_COMMITS, 31, 0⟩
def DPT_FUTURE_SRC_COUNT : Field := ⟨R.DPT_FUTURE_SRC, 31, 0⟩
def DPT_REFUSE_LOG_DPI : Field := ⟨R.DPT_REFUSE_LOG, 19, 0⟩
def DPT_REFUSE_LOG_REASON : Field := ⟨R.DPT_REFUSE_LOG, 23, 20⟩
def DPT_REFUSE_LOG_VALID : Field := ⟨R.DPT_REFUSE_LOG, 24, 24⟩
def DPT_REFUSE_LOG_SUBST : Field := ⟨R.DPT_REFUSE_LOG, 25, 25⟩
def DPT_REFUSE_LOG_ISSUER : Field := ⟨R.DPT_REFUSE_LOG, 47, 32⟩
def DPT_SEQ_RESTART_COUNT : Field := ⟨R.DPT_SEQ_RESTART, 31, 0⟩
def DPT_FENCE_LAST_UID : Field := ⟨R.DPT_FENCE, 15, 0⟩
def DPT_FENCE_BUSY : Field := ⟨R.DPT_FENCE, 16, 16⟩
def DPT_FENCE_CNT_COUNT : Field := ⟨R.DPT_FENCE_CNT, 31, 0⟩
def DPT_SKV_STATUS_PASSES : Field := ⟨R.DPT_SKV_STATUS, 15, 0⟩
def DPT_SKV_STATUS_LATE : Field := ⟨R.DPT_SKV_STATUS, 16, 16⟩
def DPT_SKV_ARMED_ARMED : Field := ⟨R.DPT_SKV_ARMED, 17, 0⟩
def DPT_REFUSE_COUNT (r : Nat) : Field := ⟨R.DPT_REFUSE r, 31, 0⟩
def DPT_NCH_CFG_EN (n : Nat) : Field := ⟨R.DPT_NCH_CFG n, 0, 0⟩
def DPT_NCH_CFG_TID (n : Nat) : Field := ⟨R.DPT_NCH_CFG n, 15, 4⟩
def DPT_NCH_IDX_WR (n : Nat) : Field := ⟨R.DPT_NCH_IDX n, 8, 0⟩
def DPT_NCH_IDX_RD (n : Nat) : Field := ⟨R.DPT_NCH_IDX n, 24, 16⟩
def DPT_NCH_IDX_FULL (n : Nat) : Field := ⟨R.DPT_NCH_IDX n, 31, 31⟩
def VAT_STATUS_CLEAR_BUSY : Field := ⟨R.VAT_STATUS, 0, 0⟩
def VAT_STATUS_MARCH_BUSY : Field := ⟨R.VAT_STATUS, 1, 1⟩
def VAT_STATUS_BURN_RUN : Field := ⟨R.VAT_STATUS, 2, 2⟩
def VAT_STATUS_RETAINED : Field := ⟨R.VAT_STATUS, 3, 3⟩
def VAT_STATUS_BANK_FAIL : Field := ⟨R.VAT_STATUS, 19, 4⟩
def VAT_EVENT_CE : Field := ⟨R.VAT_EVENT, 0, 0⟩
def VAT_EVENT_UE : Field := ⟨R.VAT_EVENT, 1, 1⟩
def VAT_EVENT_VIOL : Field := ⟨R.VAT_EVENT, 2, 2⟩
def VAT_EVENT_STARVE : Field := ⟨R.VAT_EVENT, 3, 3⟩
def VAT_EVENT_MARCH_DONE : Field := ⟨R.VAT_EVENT, 4, 4⟩
def VAT_EVENT_MARCH_FAIL : Field := ⟨R.VAT_EVENT, 5, 5⟩
def VAT_EVENT_BURN_PASS : Field := ⟨R.VAT_EVENT, 6, 6⟩
def VAT_EVENT_CLEAR_DONE : Field := ⟨R.VAT_EVENT, 7, 7⟩
def VAT_IRQ_EN_EN : Field := ⟨R.VAT_IRQ_EN, 7, 0⟩
def VAT_PART_PS_Q : Field := ⟨R.VAT_PART, 3, 0⟩
def VAT_PART_CELLS : Field := ⟨R.VAT_PART, 19, 4⟩
def VAT_ARB_STARVE_COUNT : Field := ⟨R.VAT_ARB_STARVE, 31, 0⟩
def VAT_CLEAR_CAUSE : Field := ⟨R.VAT_CLEAR, 1, 0⟩
def VAT_CLEAR_DONE : Field := ⟨R.VAT_CLEAR, 2, 2⟩
def VAT_CLEAR_TIME_US : Field := ⟨R.VAT_CLEAR, 19, 4⟩
def VAT_ECC_UE_LOG_ADDR : Field := ⟨R.VAT_ECC_UE_LOG, 23, 3⟩
def VAT_ECC_UE_LOG_SYNDROME : Field := ⟨R.VAT_ECC_UE_LOG, 31, 24⟩
def VAT_ECC_UE_LOG_SOURCE : Field := ⟨R.VAT_ECC_UE_LOG, 35, 32⟩
def VAT_ECC_UE_LOG_VALID : Field := ⟨R.VAT_ECC_UE_LOG, 36, 36⟩
def VAT_ECC_UE_LOG_MORE : Field := ⟨R.VAT_ECC_UE_LOG, 37, 37⟩
def VAT_ECC_CE_LOG_ADDR : Field := ⟨R.VAT_ECC_CE_LOG, 23, 3⟩
def VAT_ECC_CE_LOG_SYNDROME : Field := ⟨R.VAT_ECC_CE_LOG, 31, 24⟩
def VAT_BURN_CTRL_EN : Field := ⟨R.VAT_BURN_CTRL, 0, 0⟩
def VAT_BURN_CTRL_INTERVAL_US : Field := ⟨R.VAT_BURN_CTRL, 10, 1⟩
def VAT_BURN_PASS_PASSES : Field := ⟨R.VAT_BURN_PASS, 15, 0⟩
def VAT_BURN_PASS_POS : Field := ⟨R.VAT_BURN_PASS, 29, 16⟩
def VAT_MARCH_CTRL_START : Field := ⟨R.VAT_MARCH_CTRL, 0, 0⟩
def VAT_MARCH_CTRL_ABORT : Field := ⟨R.VAT_MARCH_CTRL, 1, 1⟩
def VAT_MARCH_CTRL_MODE : Field := ⟨R.VAT_MARCH_CTRL, 2, 2⟩
def VAT_MARCH_CTRL_BANKS : Field := ⟨R.VAT_MARCH_CTRL, 31, 16⟩
def VAT_MARCH_STATUS_BUSY : Field := ⟨R.VAT_MARCH_STATUS, 0, 0⟩
def VAT_MARCH_STATUS_RESULT : Field := ⟨R.VAT_MARCH_STATUS, 3, 1⟩
def VAT_MARCH_STATUS_STARTUP : Field := ⟨R.VAT_MARCH_STATUS, 4, 4⟩
def VAT_MARCH_STATUS_BANKS_DONE : Field := ⟨R.VAT_MARCH_STATUS, 31, 16⟩
def VAT_MARCH_FAIL_BANK : Field := ⟨R.VAT_MARCH_FAIL, 3, 0⟩
def VAT_MARCH_FAIL_LINE : Field := ⟨R.VAT_MARCH_FAIL, 17, 4⟩
def VAT_MARCH_FAIL_WORD : Field := ⟨R.VAT_MARCH_FAIL, 20, 18⟩
def VAT_MARCH_FAIL_ELEMENT : Field := ⟨R.VAT_MARCH_FAIL, 23, 21⟩
def VAT_MARCH_FAIL_BACKGROUND : Field := ⟨R.VAT_MARCH_FAIL, 24, 24⟩
def VAT_MARCH_FAIL_SPARE : Field := ⟨R.VAT_MARCH_FAIL, 25, 25⟩
def VAT_MARCH_FAIL_VALID : Field := ⟨R.VAT_MARCH_FAIL, 26, 26⟩
def VAT_MARCH_REPAIR_REPAIRED : Field := ⟨R.VAT_MARCH_REPAIR, 15, 0⟩
def VAT_MARCH_REPAIR_WORKING_HELD : Field := ⟨R.VAT_MARCH_REPAIR, 31, 16⟩
def VAT_VIOL_LOG_MASTER : Field := ⟨R.VAT_VIOL_LOG, 5, 0⟩
def VAT_VIOL_LOG_TARGET : Field := ⟨R.VAT_VIOL_LOG, 8, 6⟩
def VAT_VIOL_LOG_LINE : Field := ⟨R.VAT_VIOL_LOG, 26, 9⟩
def VAT_VIOL_LOG_WRITE : Field := ⟨R.VAT_VIOL_LOG, 27, 27⟩
def VAT_VIOL_LOG_PROTECTED : Field := ⟨R.VAT_VIOL_LOG, 28, 28⟩
def VAT_VIOL_LOG_VALID : Field := ⟨R.VAT_VIOL_LOG, 29, 29⟩
def VAT_VIOL_CNT_COUNT : Field := ⟨R.VAT_VIOL_CNT, 31, 0⟩
def VAT_CE_CNT_COUNT (b : Nat) : Field := ⟨R.VAT_CE_CNT b, 31, 0⟩
def VAT_UE_CNT_COUNT (b : Nat) : Field := ⟨R.VAT_UE_CNT b, 31, 0⟩
def VAT_RGN_EN (m t k : Nat) : Field := ⟨R.VAT_RGN m t k, 0, 0⟩
def VAT_RGN_RD (m t k : Nat) : Field := ⟨R.VAT_RGN m t k, 1, 1⟩
def VAT_RGN_WR (m t k : Nat) : Field := ⟨R.VAT_RGN m t k, 2, 2⟩
def VAT_RGN_BASE (m t k : Nat) : Field := ⟨R.VAT_RGN m t k, 23, 6⟩
def VAT_RGN_LIMIT (m t k : Nat) : Field := ⟨R.VAT_RGN m t k, 55, 38⟩
def AWL_STATUS_CL_RUN : Field := ⟨R.AWL_STATUS, 7, 0⟩
def AWL_STATUS_CL_RESET : Field := ⟨R.AWL_STATUS, 15, 8⟩
def AWL_STATUS_CL_OFF : Field := ⟨R.AWL_STATUS, 23, 16⟩
def AWL_EVENT_TRAP : Field := ⟨R.AWL_EVENT, 0, 0⟩
def AWL_EVENT_ENG_RESET : Field := ⟨R.AWL_EVENT, 1, 1⟩
def AWL_EVENT_CL_RESET_DONE : Field := ⟨R.AWL_EVENT, 2, 2⟩
def AWL_EVENT_IBANK_DONE : Field := ⟨R.AWL_EVENT, 3, 3⟩
def AWL_EVENT_IBANK_REFUSED : Field := ⟨R.AWL_EVENT, 4, 4⟩
def AWL_EVENT_FETCH_CE : Field := ⟨R.AWL_EVENT, 5, 5⟩
def AWL_EVENT_FETCH_UE : Field := ⟨R.AWL_EVENT, 6, 6⟩
def AWL_EVENT_RUN_LIMIT : Field := ⟨R.AWL_EVENT, 7, 7⟩
def AWL_IRQ_EN_EN : Field := ⟨R.AWL_IRQ_EN, 7, 0⟩
def AWL_RUN_LIMIT_LIMIT_US : Field := ⟨R.AWL_RUN_LIMIT, 15, 0⟩
def AWL_TRAP_LOG_UID : Field := ⟨R.AWL_TRAP_LOG, 15, 0⟩
def AWL_TRAP_LOG_CAUSE : Field := ⟨R.AWL_TRAP_LOG, 23, 16⟩
def AWL_TRAP_LOG_SUB : Field := ⟨R.AWL_TRAP_LOG, 27, 24⟩
def AWL_TRAP_LOG_IMPRECISE : Field := ⟨R.AWL_TRAP_LOG, 28, 28⟩
def AWL_TRAP_LOG_VALID : Field := ⟨R.AWL_TRAP_LOG, 29, 29⟩
def AWL_TRAP_LOG_MORE : Field := ⟨R.AWL_TRAP_LOG, 30, 30⟩
def AWL_TRAP_LOG_PC : Field := ⟨R.AWL_TRAP_LOG, 45, 32⟩
def AWL_TRAP_LOG_ADDR : Field := ⟨R.AWL_TRAP_LOG, 63, 48⟩
def AWL_CL_STATUS_ACTIVE_BANK (c : Nat) : Field := ⟨R.AWL_CL_STATUS c, 0, 0⟩
def AWL_CL_STATUS_SHADOW_VALID (c : Nat) : Field := ⟨R.AWL_CL_STATUS c, 1, 1⟩
def AWL_CL_STATUS_ON_BANK1 (c : Nat) : Field := ⟨R.AWL_CL_STATUS c, 9, 2⟩
def AWL_CL_STATUS_BUSY (c : Nat) : Field := ⟨R.AWL_CL_STATUS c, 10, 10⟩
def AWL_CL_STATUS_IBANK_BUSY (c : Nat) : Field := ⟨R.AWL_CL_STATUS c, 11, 11⟩
def AWL_CL_STATUS_IBANK_RESULT (c : Nat) : Field := ⟨R.AWL_CL_STATUS c, 14, 12⟩
def AWL_CL_CTRL_RESET (c : Nat) : Field := ⟨R.AWL_CL_CTRL c, 0, 0⟩
def AWL_CL_CTRL_IBANK_OP (c : Nat) : Field := ⟨R.AWL_CL_CTRL c, 2, 1⟩
def AWL_CL_CTRL_IBANK_SEL (c : Nat) : Field := ⟨R.AWL_CL_CTRL c, 3, 3⟩
def AWL_CL_TRAPS_NONFATAL (c : Nat) : Field := ⟨R.AWL_CL_TRAPS c, 15, 0⟩
def AWL_CL_TRAPS_FATAL (c : Nat) : Field := ⟨R.AWL_CL_TRAPS c, 31, 16⟩
def AWL_CL_CNT_ENG_RESETS (c : Nat) : Field := ⟨R.AWL_CL_CNT c, 15, 0⟩
def AWL_CL_CNT_FETCH_CE (c : Nat) : Field := ⟨R.AWL_CL_CNT c, 31, 16⟩
def AWL_ENG_STATUS_STATE (e : Nat) : Field := ⟨R.AWL_ENG_STATUS e, 2, 0⟩
def AWL_ENG_STATUS_BANK (e : Nat) : Field := ⟨R.AWL_ENG_STATUS e, 3, 3⟩
def AWL_ENG_STATUS_PC (e : Nat) : Field := ⟨R.AWL_ENG_STATUS e, 17, 4⟩
def AWL_ENG_STATUS_LAST_CAUSE (e : Nat) : Field := ⟨R.AWL_ENG_STATUS e, 25, 18⟩
def AWL_ENG_CTRL_RESET (e : Nat) : Field := ⟨R.AWL_ENG_CTRL e, 0, 0⟩
def HAR_STATUS_STATE : Field := ⟨R.HAR_STATUS, 3, 0⟩
def HAR_STATUS_SRC : Field := ⟨R.HAR_STATUS, 6, 4⟩
def HAR_STATUS_VALID : Field := ⟨R.HAR_STATUS, 7, 7⟩
def HAR_STATUS_LATE : Field := ⟨R.HAR_STATUS, 8, 8⟩
def HAR_STATUS_STAGED_VALID : Field := ⟨R.HAR_STATUS, 9, 9⟩
def HAR_CTRL_CMD : Field := ⟨R.HAR_CTRL, 2, 0⟩
def HAR_CTRL_REIN_GROUP : Field := ⟨R.HAR_CTRL, 8, 8⟩
def HAR_ERROR_CODE : Field := ⟨R.HAR_ERROR, 7, 0⟩
def HAR_ERROR_SECTION : Field := ⟨R.HAR_ERROR, 16, 8⟩
def HAR_ERROR_DIE : Field := ⟨R.HAR_ERROR, 19, 17⟩
def HAR_ERROR_IGNORED : Field := ⟨R.HAR_ERROR, 31, 24⟩
def HAR_EPOCH_EPOCH : Field := ⟨R.HAR_EPOCH, 3, 0⟩
def HAR_EPOCH_COUNT : Field := ⟨R.HAR_EPOCH, 31, 4⟩
def HAR_IMAGE_ID_ID : Field := ⟨R.HAR_IMAGE_ID, 31, 0⟩
def HAR_STAGED_ID_ID : Field := ⟨R.HAR_STAGED_ID, 31, 0⟩
def HAR_SRC_ADDR_ADDR : Field := ⟨R.HAR_SRC_ADDR, 63, 0⟩
def HAR_SRC_LEN_LEN : Field := ⟨R.HAR_SRC_LEN, 24, 0⟩
def HAR_COMMIT_TIME_INSTANT : Field := ⟨R.HAR_COMMIT_TIME, 63, 0⟩
def HAR_GUARD_GUARD_US : Field := ⟨R.HAR_GUARD, 19, 0⟩
def HAR_READY_AFFECTED : Field := ⟨R.HAR_READY, 15, 0⟩
def HAR_READY_READY : Field := ⟨R.HAR_READY, 31, 16⟩
def HAR_NOTREADY_FIRST_UID : Field := ⟨R.HAR_NOTREADY, 15, 0⟩
def HAR_NOTREADY_COUNT : Field := ⟨R.HAR_NOTREADY, 31, 16⟩
def HAR_ABORTS_COUNT : Field := ⟨R.HAR_ABORTS, 31, 0⟩
def HAR_EVENT_LOADED : Field := ⟨R.HAR_EVENT, 0, 0⟩
def HAR_EVENT_LOAD_FAIL : Field := ⟨R.HAR_EVENT, 1, 1⟩
def HAR_EVENT_PREPARED : Field := ⟨R.HAR_EVENT, 2, 2⟩
def HAR_EVENT_COMMITTED : Field := ⟨R.HAR_EVENT, 3, 3⟩
def HAR_EVENT_ABORTED : Field := ⟨R.HAR_EVENT, 4, 4⟩
def HAR_EVENT_LATE_UNIT : Field := ⟨R.HAR_EVENT, 5, 5⟩
def HAR_EVENT_CMD_REFUSED : Field := ⟨R.HAR_EVENT, 6, 6⟩
def HAR_EVENT_SWITCHED : Field := ⟨R.HAR_EVENT, 7, 7⟩
def HAR_IRQ_EN_EN : Field := ⟨R.HAR_IRQ_EN, 7, 0⟩
def HAR_BOOT_A_CODE : Field := ⟨R.HAR_BOOT, 7, 0⟩
def HAR_BOOT_B_CODE : Field := ⟨R.HAR_BOOT, 15, 8⟩
def HAR_BOOT_WIDTH : Field := ⟨R.HAR_BOOT, 17, 16⟩
def HAR_BOOT_STORE_FAIL : Field := ⟨R.HAR_BOOT, 18, 18⟩
def HAR_DIE_STATE_READY : Field := ⟨R.HAR_DIE_STATE, 0, 0⟩
def HAR_DIE_STATE_SWITCHED : Field := ⟨R.HAR_DIE_STATE, 1, 1⟩
def HAR_DIE_STATE_CURRENT_OK : Field := ⟨R.HAR_DIE_STATE, 2, 2⟩
def HAR_DIE_STATE_STAGED_OK : Field := ⟨R.HAR_DIE_STATE, 3, 3⟩
def HAR_DIE_STATE_LATE : Field := ⟨R.HAR_DIE_STATE, 15, 8⟩

end F

/-- The registers of block PCI_ with their layout and access codes, for accesses by offset (R10, R14 to R18). -/
def descPCI : List RegDesc :=
  [ ⟨0x180000, [], false, false, 0x0, [⟨15, 0, .ro⟩, ⟨31, 16, .ro⟩]⟩,
    ⟨0x180004, [], false, false, 0x0, [⟨1, 0, .ro⟩, ⟨2, 2, .ro⟩, ⟨5, 3, .ro⟩, ⟨8, 6, .ro⟩, ⟨31, 16, .ro⟩]⟩,
    ⟨0x180008, [], false, false, 0x0, [⟨0, 0, .ro⟩, ⟨3, 1, .ro⟩, ⟨6, 4, .ro⟩, ⟨7, 7, .ro⟩, ⟨14, 8, .ro⟩]⟩,
    ⟨0x18000C, [], false, false, 0x0, [⟨0, 0, .w1c⟩, ⟨1, 1, .w1c⟩, ⟨2, 2, .w1c⟩, ⟨3, 3, .w1c⟩, ⟨4, 4, .w1c⟩, ⟨5, 5, .w1c⟩, ⟨6, 6, .w1c⟩, ⟨7, 7, .w1c⟩]⟩,
    ⟨0x180010, [], false, false, 0x0, [⟨7, 0, .rw⟩]⟩,
    ⟨0x180018, [], true, false, 0x0, [⟨27, 0, .rc⟩, ⟨29, 28, .rc⟩, ⟨30, 30, .rc⟩, ⟨31, 31, .rc⟩, ⟨34, 32, .rc⟩, ⟨38, 35, .rc⟩]⟩,
    ⟨0x181000, [(256, 0x4)], false, false, 0x0, [⟨10, 0, .rw⟩, ⟨15, 15, .rw⟩]⟩,
    ⟨0x188000, [(4096, 0x4)], false, false, 0x0, [⟨10, 0, .rw⟩, ⟨15, 15, .rw⟩, ⟨26, 16, .rw⟩, ⟨31, 31, .rw⟩]⟩ ]

/-- The registers of block DMA_ with their layout and access codes, for accesses by offset (R10, R14 to R18). -/
def descDMA : List RegDesc :=
  [ ⟨0x1C0000, [], false, false, 0x0, [⟨31, 0, .ro⟩]⟩,
    ⟨0x1C0004, [], false, false, 0x0, [⟨31, 0, .w1c⟩]⟩,
    ⟨0x1C0008, [], false, false, 0x0, [⟨31, 0, .rw⟩]⟩,
    ⟨0x1C000C, [], false, false, 0x0, [⟨10, 0, .ro⟩, ⟨31, 16, .rc⟩]⟩,
    ⟨0x1C0100, [(32, 0x10)], false, false, 0x0, [⟨11, 0, .ro⟩, ⟨12, 12, .ro⟩, ⟨13, 13, .ro⟩, ⟨16, 14, .ro⟩, ⟨17, 17, .ro⟩, ⟨20, 18, .ro⟩]⟩,
    ⟨0x1C0104, [(32, 0x10)], false, false, 0x0, [⟨19, 0, .ro⟩]⟩,
    ⟨0x1C0108, [(32, 0x10)], false, false, 0x0, [⟨2, 0, .ro⟩, ⟨4, 3, .ro⟩, ⟨11, 8, .ro⟩, ⟨27, 16, .ro⟩]⟩,
    ⟨0x1C010C, [(32, 0x10)], false, false, 0x0, [⟨0, 0, .w1s⟩, ⟨1, 1, .w1s⟩]⟩ ]

/-- The registers of block MBX_ with their layout and access codes, for accesses by offset (R10, R14 to R18). -/
def descMBX : List RegDesc :=
  [ ⟨0x200000, [], false, false, 0x0, [⟨0, 0, .w1c⟩, ⟨1, 1, .w1c⟩, ⟨2, 2, .w1c⟩]⟩,
    ⟨0x200004, [], false, false, 0x0, [⟨2, 0, .rw⟩]⟩,
    ⟨0x200100, [(64, 0x8)], false, false, 0x0, [⟨3, 0, .ro⟩, ⟨7, 4, .ro⟩, ⟨8, 8, .ro⟩, ⟨20, 9, .ro⟩, ⟨24, 21, .ro⟩, ⟨25, 25, .ro⟩]⟩,
    ⟨0x200104, [(64, 0x8)], false, false, 0x0, [⟨15, 0, .rc⟩, ⟨31, 16, .rc⟩]⟩ ]

/-- The registers of block ERC_ with their layout and access codes, for accesses by offset (R10, R14 to R18). -/
def descERC : List RegDesc :=
  [ ⟨0x240000, [], false, false, 0x0, [⟨0, 0, .ro⟩, ⟨1, 1, .ro⟩, ⟨2, 2, .ro⟩, ⟨3, 3, .ro⟩, ⟨4, 4, .ro⟩, ⟨5, 5, .ro⟩, ⟨6, 6, .ro⟩, ⟨7, 7, .ro⟩, ⟨15, 8, .ro⟩, ⟨16, 16, .ro⟩]⟩,
    ⟨0x240004, [], false, false, 0x0, [⟨0, 0, .w1s⟩, ⟨1, 1, .wo⟩, ⟨2, 2, .wo⟩, ⟨3, 3, .wo⟩]⟩,
    ⟨0x240008, [], false, false, 0x0, [⟨0, 0, .w1c⟩, ⟨1, 1, .w1c⟩, ⟨2, 2, .w1c⟩, ⟨3, 3, .w1c⟩, ⟨4, 4, .w1c⟩, ⟨5, 5, .w1c⟩, ⟨6, 6, .w1c⟩, ⟨7, 7, .w1c⟩, ⟨8, 8, .w1c⟩]⟩,
    ⟨0x24000C, [], false, false, 0x0, [⟨8, 0, .rw⟩]⟩,
    ⟨0x240010, [], true, false, 0x0, [⟨63, 0, .ro⟩]⟩,
    ⟨0x240018, [], true, false, 0x0, [⟨63, 0, .ro⟩]⟩,
    ⟨0x240020, [], true, false, 0x0, [⟨63, 0, .ro⟩]⟩,
    ⟨0x240028, [], true, false, 0x0, [⟨39, 0, .ro⟩, ⟨63, 48, .ro⟩]⟩,
    ⟨0x240030, [], false, false, 0x0, [⟨12, 0, .ro⟩, ⟨25, 16, .ro⟩]⟩,
    ⟨0x240034, [], false, false, 0x0, [⟨31, 0, .rc⟩]⟩,
    ⟨0x240038, [], false, true, 0x0, [⟨1, 0, .ro⟩, ⟨3, 2, .ro⟩, ⟨4, 4, .ro⟩, ⟨31, 8, .ro⟩]⟩,
    ⟨0x240040, [], true, true, 0x0, [⟨63, 0, .rc⟩]⟩ ] ++
  [ ⟨0x240048, [], false, true, 0x0, [⟨0, 0, .w1s⟩, ⟨3, 1, .ro⟩]⟩,
    ⟨0x240080, [(32, 0x4)], false, true, 0x0, [⟨31, 0, .wo⟩]⟩,
    ⟨0x240100, [(8, 0x4)], false, false, 0x0, [⟨31, 0, .rc⟩]⟩,
    ⟨0x240200, [(4, 0x20)], false, false, 0x0, [⟨0, 0, .w1s⟩, ⟨1, 1, .wo⟩, ⟨2, 2, .ro⟩, ⟨3, 3, .w1c⟩, ⟨4, 4, .ro⟩]⟩,
    ⟨0x240208, [(4, 0x20)], true, false, 0x0, [⟨63, 0, .ro⟩]⟩,
    ⟨0x240210, [(4, 0x20)], true, false, 0x0, [⟨63, 0, .ro⟩]⟩ ]

/-- The registers of block PKT_ with their layout and access codes, for accesses by offset (R10, R14 to R18). -/
def descPKT : List RegDesc :=
  [ ⟨0x280000, [], false, false, 0x0, [⟨7, 0, .ro⟩, ⟨15, 8, .ro⟩, ⟨16, 16, .ro⟩]⟩,
    ⟨0x280004, [], false, false, 0x0, [⟨0, 0, .w1c⟩, ⟨1, 1, .w1c⟩, ⟨2, 2, .w1c⟩, ⟨3, 3, .w1c⟩, ⟨4, 4, .w1c⟩, ⟨5, 5, .w1c⟩]⟩,
    ⟨0x280008, [], false, false, 0x0, [⟨5, 0, .rw⟩]⟩,
    ⟨0x28000C, [], false, false, 0x0, [⟨3, 0, .ro⟩, ⟨7, 4, .ro⟩, ⟨31, 8, .ro⟩]⟩,
    ⟨0x280010, [], false, false, 0x0, [⟨12, 0, .ro⟩, ⟨24, 16, .ro⟩]⟩,
    ⟨0x280014, [], false, false, 0x0, [⟨31, 0, .rc⟩]⟩,
    ⟨0x280018, [], false, false, 0x0, [⟨31, 0, .rc⟩]⟩,
    ⟨0x28001C, [], false, false, 0x0, [⟨31, 0, .rc⟩]⟩,
    ⟨0x280020, [], false, false, 0x0, [⟨31, 0, .rc⟩]⟩,
    ⟨0x280024, [], false, false, 0x0, [⟨31, 0, .rc⟩]⟩,
    ⟨0x280100, [(8, 0x10)], false, false, 0x0, [⟨15, 0, .ro⟩, ⟨31, 16, .ro⟩]⟩,
    ⟨0x280104, [(8, 0x10)], false, false, 0x0, [⟨31, 0, .rc⟩]⟩ ] ++
  [ ⟨0x280108, [(8, 0x10)], false, false, 0x0, [⟨31, 0, .rw⟩]⟩,
    ⟨0x28010C, [(8, 0x10)], false, false, 0x0, [⟨15, 0, .rw⟩, ⟨31, 16, .rw⟩]⟩ ]

/-- The registers of block DPT_ with their layout and access codes, for accesses by offset (R10, R14 to R18). -/
def descDPT : List RegDesc :=
  [ ⟨0x2C0000, [], false, false, 0x0, [⟨0, 0, .ro⟩, ⟨1, 1, .ro⟩, ⟨2, 2, .ro⟩]⟩,
    ⟨0x2C0004, [], false, false, 0x1, [⟨0, 0, .rw⟩]⟩,
    ⟨0x2C0008, [], false, false, 0x0, [⟨0, 0, .w1c⟩, ⟨1, 1, .w1c⟩, ⟨2, 2, .w1c⟩, ⟨3, 3, .w1c⟩, ⟨4, 4, .w1c⟩, ⟨5, 5, .w1c⟩, ⟨6, 6, .w1c⟩, ⟨7, 7, .w1c⟩]⟩,
    ⟨0x2C000C, [], false, false, 0x0, [⟨7, 0, .rw⟩]⟩,
    ⟨0x2C0010, [], false, true, 0x0, [⟨23, 0, .rw⟩]⟩,
    ⟨0x2C0014, [], false, true, 0x0, [⟨23, 0, .rw⟩]⟩,
    ⟨0x2C0018, [], false, false, 0x0, [⟨31, 0, .rc⟩]⟩,
    ⟨0x2C001C, [], false, false, 0x0, [⟨31, 0, .rc⟩]⟩,
    ⟨0x2C0020, [], true, false, 0x0, [⟨19, 0, .rc⟩, ⟨23, 20, .rc⟩, ⟨24, 24, .rc⟩, ⟨25, 25, .rc⟩, ⟨47, 32, .rc⟩]⟩,
    ⟨0x2C0028, [], false, false, 0x0, [⟨31, 0, .rc⟩]⟩,
    ⟨0x2C002C, [], false, false, 0xFFFF, [⟨15, 0, .ro⟩, ⟨16, 16, .ro⟩]⟩,
    ⟨0x2C0030, [], false, false, 0x0, [⟨31, 0, .rc⟩]⟩ ] ++
  [ ⟨0x2C0034, [], false, false, 0x0, [⟨15, 0, .rc⟩, ⟨16, 16, .w1c⟩]⟩,
    ⟨0x2C0038, [], false, false, 0x0, [⟨17, 0, .ro⟩]⟩,
    ⟨0x2C0044, [(7, 0x4)], false, false, 0x0, [⟨31, 0, .rc⟩]⟩,
    ⟨0x2C0100, [(64, 0x8)], false, false, 0x0, [⟨0, 0, .ro⟩, ⟨15, 4, .ro⟩]⟩,
    ⟨0x2C0104, [(64, 0x8)], false, false, 0x0, [⟨8, 0, .ro⟩, ⟨24, 16, .rw⟩, ⟨31, 31, .w1c⟩]⟩ ]

/-- The registers of block VAT_ with their layout and access codes, for accesses by offset (R10, R14 to R18). -/
def descVAT : List RegDesc :=
  [ ⟨0x300000, [], false, false, 0x3, [⟨0, 0, .ro⟩, ⟨1, 1, .ro⟩, ⟨2, 2, .ro⟩, ⟨3, 3, .ro⟩, ⟨19, 4, .ro⟩]⟩,
    ⟨0x300004, [], false, false, 0x0, [⟨0, 0, .w1c⟩, ⟨1, 1, .w1c⟩, ⟨2, 2, .w1c⟩, ⟨3, 3, .w1c⟩, ⟨4, 4, .w1c⟩, ⟨5, 5, .w1c⟩, ⟨6, 6, .w1c⟩, ⟨7, 7, .w1c⟩]⟩,
    ⟨0x300008, [], false, false, 0x0, [⟨7, 0, .rw⟩]⟩,
    ⟨0x30000C, [], false, false, 0x0, [⟨3, 0, .ro⟩, ⟨19, 4, .ro⟩]⟩,
    ⟨0x300010, [], false, false, 0x0, [⟨31, 0, .rc⟩]⟩,
    ⟨0x300014, [], false, false, 0x2, [⟨1, 0, .ro⟩, ⟨2, 2, .ro⟩, ⟨19, 4, .ro⟩]⟩,
    ⟨0x300020, [], true, false, 0x0, [⟨23, 3, .ro⟩, ⟨31, 24, .ro⟩, ⟨35, 32, .ro⟩, ⟨36, 36, .w1c⟩, ⟨37, 37, .w1c⟩]⟩,
    ⟨0x300028, [], false, false, 0x0, [⟨23, 3, .ro⟩, ⟨31, 24, .ro⟩]⟩,
    ⟨0x300030, [], false, false, 0x41, [⟨0, 0, .rw⟩, ⟨10, 1, .rw⟩]⟩,
    ⟨0x300034, [], false, false, 0x0, [⟨15, 0, .rc⟩, ⟨29, 16, .ro⟩]⟩,
    ⟨0x300040, [], false, false, 0xFFFF0000, [⟨0, 0, .wo⟩, ⟨1, 1, .wo⟩, ⟨2, 2, .rw⟩, ⟨31, 16, .rw⟩]⟩,
    ⟨0x300044, [], false, false, 0x11, [⟨0, 0, .ro⟩, ⟨3, 1, .ro⟩, ⟨4, 4, .ro⟩, ⟨31, 16, .ro⟩]⟩ ] ++
  [ ⟨0x300048, [], false, false, 0x0, [⟨3, 0, .ro⟩, ⟨17, 4, .ro⟩, ⟨20, 18, .ro⟩, ⟨23, 21, .ro⟩, ⟨24, 24, .ro⟩, ⟨25, 25, .ro⟩, ⟨26, 26, .ro⟩]⟩,
    ⟨0x30004C, [], false, false, 0x0, [⟨15, 0, .st⟩, ⟨31, 16, .st⟩]⟩,
    ⟨0x300050, [], false, false, 0x0, [⟨5, 0, .rc⟩, ⟨8, 6, .rc⟩, ⟨26, 9, .rc⟩, ⟨27, 27, .rc⟩, ⟨28, 28, .rc⟩, ⟨29, 29, .rc⟩]⟩,
    ⟨0x300054, [], false, false, 0x0, [⟨31, 0, .rc⟩]⟩,
    ⟨0x300100, [(16, 0x4)], false, false, 0x0, [⟨31, 0, .rc⟩]⟩,
    ⟨0x300140, [(16, 0x4)], false, false, 0x0, [⟨31, 0, .rc⟩]⟩,
    ⟨0x308000, [(43, 0x400), (8, 0x80), (16, 0x8)], true, false, 0x0, [⟨0, 0, .ro⟩, ⟨1, 1, .ro⟩, ⟨2, 2, .ro⟩, ⟨23, 6, .ro⟩, ⟨55, 38, .ro⟩]⟩ ]

/-- The registers of block AWL_ with their layout and access codes, for accesses by offset (R10, R14 to R18). -/
def descAWL : List RegDesc :=
  [ ⟨0x340000, [], false, false, 0xFF0000, [⟨7, 0, .ro⟩, ⟨15, 8, .ro⟩, ⟨23, 16, .ro⟩]⟩,
    ⟨0x340004, [], false, false, 0x0, [⟨0, 0, .w1c⟩, ⟨1, 1, .w1c⟩, ⟨2, 2, .w1c⟩, ⟨3, 3, .w1c⟩, ⟨4, 4, .w1c⟩, ⟨5, 5, .w1c⟩, ⟨6, 6, .w1c⟩, ⟨7, 7, .w1c⟩]⟩,
    ⟨0x340008, [], false, false, 0x0, [⟨7, 0, .rw⟩]⟩,
    ⟨0x34000C, [], false, false, 0x3E8, [⟨15, 0, .rw⟩]⟩,
    ⟨0x340010, [], true, false, 0x0, [⟨15, 0, .rc⟩, ⟨23, 16, .rc⟩, ⟨27, 24, .rc⟩, ⟨28, 28, .rc⟩, ⟨29, 29, .rc⟩, ⟨30, 30, .rc⟩, ⟨45, 32, .rc⟩, ⟨63, 48, .rc⟩]⟩,
    ⟨0x340100, [(8, 0x10)], false, false, 0x0, [⟨0, 0, .ro⟩, ⟨1, 1, .ro⟩, ⟨9, 2, .ro⟩, ⟨10, 10, .ro⟩, ⟨11, 11, .ro⟩, ⟨14, 12, .ro⟩]⟩,
    ⟨0x340104, [(8, 0x10)], false, false, 0x0, [⟨0, 0, .w1s⟩, ⟨2, 1, .wo⟩, ⟨3, 3, .wo⟩]⟩,
    ⟨0x340108, [(8, 0x10)], false, false, 0x0, [⟨15, 0, .rc⟩, ⟨31, 16, .rc⟩]⟩,
    ⟨0x34010C, [(8, 0x10)], false, false, 0x0, [⟨15, 0, .rc⟩, ⟨31, 16, .rc⟩]⟩,
    ⟨0x340200, [(64, 0x8)], false, false, 0x0, [⟨2, 0, .ro⟩, ⟨3, 3, .ro⟩, ⟨17, 4, .ro⟩, ⟨25, 18, .ro⟩]⟩,
    ⟨0x340204, [(64, 0x8)], false, false, 0x0, [⟨0, 0, .w1s⟩]⟩ ]

/-- The registers of block HAR_ with their layout and access codes, for accesses by offset (R10, R14 to R18). -/
def descHAR : List RegDesc :=
  [ ⟨0x380000, [], false, true, 0x0, [⟨3, 0, .ro⟩, ⟨6, 4, .ro⟩, ⟨7, 7, .ro⟩, ⟨8, 8, .ro⟩, ⟨9, 9, .ro⟩]⟩,
    ⟨0x380004, [], false, true, 0x0, [⟨2, 0, .wo⟩, ⟨8, 8, .rw⟩]⟩,
    ⟨0x380008, [], false, true, 0x1FF00, [⟨7, 0, .ro⟩, ⟨16, 8, .ro⟩, ⟨19, 17, .ro⟩, ⟨31, 24, .rc⟩]⟩,
    ⟨0x38000C, [], false, true, 0x0, [⟨3, 0, .ro⟩, ⟨31, 4, .ro⟩]⟩,
    ⟨0x380010, [], false, true, 0x0, [⟨31, 0, .ro⟩]⟩,
    ⟨0x380014, [], false, true, 0x0, [⟨31, 0, .ro⟩]⟩,
    ⟨0x380018, [], true, true, 0x0, [⟨63, 0, .rw⟩]⟩,
    ⟨0x380020, [], false, true, 0x0, [⟨24, 0, .rw⟩]⟩,
    ⟨0x380028, [], true, true, 0x0, [⟨63, 0, .rw⟩]⟩,
    ⟨0x380030, [], false, true, 0x64, [⟨19, 0, .rw⟩]⟩,
    ⟨0x380034, [], false, true, 0x0, [⟨15, 0, .ro⟩, ⟨31, 16, .ro⟩]⟩,
    ⟨0x380038, [], false, true, 0xFFFF, [⟨15, 0, .ro⟩, ⟨31, 16, .ro⟩]⟩ ] ++
  [ ⟨0x38003C, [], false, true, 0x0, [⟨31, 0, .rc⟩]⟩,
    ⟨0x380040, [], false, true, 0x0, [⟨0, 0, .w1c⟩, ⟨1, 1, .w1c⟩, ⟨2, 2, .w1c⟩, ⟨3, 3, .w1c⟩, ⟨4, 4, .w1c⟩, ⟨5, 5, .w1c⟩, ⟨6, 6, .w1c⟩, ⟨7, 7, .w1c⟩]⟩,
    ⟨0x380044, [], false, true, 0x0, [⟨7, 0, .rw⟩]⟩,
    ⟨0x380048, [], false, true, 0x0, [⟨7, 0, .st⟩, ⟨15, 8, .st⟩, ⟨17, 16, .st⟩, ⟨18, 18, .st⟩]⟩,
    ⟨0x380050, [], false, false, 0x0, [⟨0, 0, .ro⟩, ⟨1, 1, .ro⟩, ⟨2, 2, .ro⟩, ⟨3, 3, .ro⟩, ⟨15, 8, .ro⟩]⟩ ]

end Sys2Proof.Machine
end

