-- ==== Sys2Proof/Machine/RegMapC.lean ====
section
/-! DEFINITION. The register map of the control space, blocks TEN_, PWR_, RCV_, POM_, WLT_, REI_, CAL_, ELX_, ARC_: every register of the chapters' register summaries
with its offset within a die's control space and its Reset value (R19, R20, R48), and every field with its bits.
Repeated registers take their unit numbers as arguments. A field whose Reset column names no number (fused, per
variant, per die, pin) reads 0 here, and State.reset lists the value the model gives it; the pads that every die has read
PRESENT (R888). -/


namespace Sys2Proof.Machine

namespace R

def TEN_STATUS : Reg := ⟨0x3C0000, 0x0⟩
def TEN_CTRL : Reg := ⟨0x3C0004, 0x0⟩
def TEN_EVENT : Reg := ⟨0x3C0008, 0x0⟩
def TEN_IRQ_EN : Reg := ⟨0x3C000C, 0x0⟩
def TEN_SEL : Reg := ⟨0x3C0010, 0x0⟩
def TEN_RESULT : Reg := ⟨0x3C0014, 0x0⟩
def TEN_DENIED : Reg := ⟨0x3C0018, 0x0⟩
def TEN_VIOL_LOG : Reg := ⟨0x3C0020, 0x0⟩
def TEN_ROOT_HASH (i : Nat) : Reg := ⟨0x3C0040 + i * 0x4, 0x0⟩
def TEN_DEV_PUB (i : Nat) : Reg := ⟨0x3C0080 + i * 0x4, 0x0⟩
def TEN_OWNER_PUB (i : Nat) : Reg := ⟨0x3C00A0 + i * 0x4, 0x0⟩
def TEN_TOKEN (i : Nat) : Reg := ⟨0x3C0100 + i * 0x4, 0x0⟩
def TEN_ATTEST (i : Nat) : Reg := ⟨0x3C0180 + i * 0x4, 0x0⟩
def TEN_MBX_OVERRUN (w : Nat) : Reg := ⟨0x3C0200 + w * 0x4, 0x0⟩
def TEN_D_STORE (t : Nat) : Reg := ⟨0x3C4000 + t * 0x4, 0x0⟩
def TEN_T_CFG (t : Nat) : Reg := ⟨0x3D0000 + t * 0x10, 0x0⟩
def TEN_T_PASID (t : Nat) : Reg := ⟨0x3D0004 + t * 0x10, 0x0⟩
def TEN_T_GEN (t : Nat) : Reg := ⟨0x3D0008 + t * 0x10, 0x0⟩
def TEN_T_VIOL (t : Nat) : Reg := ⟨0x3D000C + t * 0x10, 0x0⟩
def PWR_STATUS : Reg := ⟨0x4C0000, 0x0⟩
def PWR_CTRL : Reg := ⟨0x4C0004, 0x0⟩
def PWR_EVENT : Reg := ⟨0x4C0008, 0x0⟩
def PWR_IRQ_EN : Reg := ⟨0x4C000C, 0x0⟩
def PWR_VCORE : Reg := ⟨0x4C0010, 0x1E962EE⟩
def PWR_BOUNDS : Reg := ⟨0x4C0014, 0x190140A⟩
def PWR_SENT_CNT : Reg := ⟨0x4C0018, 0x0⟩
def PWR_SENT_LOG : Reg := ⟨0x4C0020, 0x0⟩
def PWR_WAKE : Reg := ⟨0x4C0028, 0x64B⟩
def PWR_AON : Reg := ⟨0x4C002C, 0x0⟩
def PWR_RAIL : Reg := ⟨0x4C0030, 0x0⟩
def PWR_DOM_ON : Reg := ⟨0x4C0038, 0x318FFFF000000⟩
def PWR_DOM (n : Nat) : Reg := ⟨0x4C0100 + n * 0x4, if (24 ≤ n ∧ n ≤ 39) ∨ n = 43 ∨ n = 44 ∨ n = 48 ∨ n = 49 then 0xA else 0x0⟩
def RCV_STATUS : Reg := ⟨0x500000, 0x0⟩
def RCV_CTRL : Reg := ⟨0x500004, 0x0⟩
def RCV_EVENT : Reg := ⟨0x500008, 0x0⟩
def RCV_IRQ_EN : Reg := ⟨0x50000C, 0x0⟩
def RCV_FAULT : Reg := ⟨0x500010, 0x0⟩
def RCV_FAULT_SUM : Reg := ⟨0x500014, 0x0⟩
def RCV_ALARM : Reg := ⟨0x500018, 0x2FD91⟩
def RCV_WDOG : Reg := ⟨0x50001C, 0x103E8⟩
def RCV_WDOG_KICK : Reg := ⟨0x500020, 0x0⟩
def RCV_ESC : Reg := ⟨0x500024, 0x14D1A3E8⟩
def RCV_UNIT_RST : Reg := ⟨0x500028, 0x0⟩
def RCV_QSTALL : Reg := ⟨0x50002C, 0x64⟩
def RCV_LOG : Reg := ⟨0x500030, 0x0⟩
def POM_STATUS : Reg := ⟨0x540000, 0x0⟩
def POM_CTRL : Reg := ⟨0x540004, 0x3⟩
def POM_ERR : Reg := ⟨0x540008, 0x0⟩
def POM_MBX : Reg := ⟨0x54000C, 0x0⟩
def POM_LOAD : Reg := ⟨0x540010, 0x0⟩
def WLT_STATUS : Reg := ⟨0x580000, 0x0⟩
def WLT_EVENT : Reg := ⟨0x580004, 0x0⟩
def WLT_IRQ_EN : Reg := ⟨0x580008, 0x0⟩
def WLT_LINK (k : Nat) : Reg := ⟨0x580010 + k * 0x10, 0x0⟩
def WLT_REPLAY (k : Nat) : Reg := ⟨0x580014 + k * 0x10, 0x0⟩
def WLT_RETRAIN (k : Nat) : Reg := ⟨0x580018 + k * 0x10, 0x0⟩
def WLT_STALL (k : Nat) : Reg := ⟨0x58001C + k * 0x10, 0x0⟩
def REI_STATUS : Reg := ⟨0x5C0000, 0x1F⟩
def REI_CTRL : Reg := ⟨0x5C0004, 0x0⟩
def REI_EVENT : Reg := ⟨0x5C0008, 0x0⟩
def REI_IRQ_EN : Reg := ⟨0x5C000C, 0x0⟩
def REI_MGMT_ADDR : Reg := ⟨0x5C0010, 0x0⟩
def REI_MGMT_DATA : Reg := ⟨0x5C0018, 0x0⟩
def REI_MGMT_CTRL : Reg := ⟨0x5C001C, 0x0⟩
def REI_LINK_DELAY : Reg := ⟨0x5C0020, 0x0⟩
def REI_MIRROR_TX : Reg := ⟨0x5C0024, 0x0⟩
def REI_MIRROR_DROP : Reg := ⟨0x5C0028, 0x0⟩
def REI_MIRROR_REFUSED : Reg := ⟨0x5C002C, 0x0⟩
def REI_MGMT_DENIED : Reg := ⟨0x5C0030, 0x0⟩
def REI_REPLAY : Reg := ⟨0x5C0034, 0x0⟩
def CAL_STATUS : Reg := ⟨0x600000, 0x0⟩
def CAL_SEL : Reg := ⟨0x600004, 0x0⟩
def CAL_FACT : Reg := ⟨0x600008, 0x0⟩
def CAL_USER : Reg := ⟨0x60000C, 0x0⟩
def CAL_EFF : Reg := ⟨0x600010, 0x0⟩
def CAL_CLAMPS : Reg := ⟨0x600014, 0x0⟩
def ELX_STATUS : Reg := ⟨0x640000, 0x0⟩
def ELX_EVENT : Reg := ⟨0x640004, 0x0⟩
def ELX_IRQ_EN : Reg := ⟨0x640008, 0x0⟩
def ELX_TEMP_MAX : Reg := ⟨0x64000C, 0x0⟩
def ELX_TEMP (s : Nat) : Reg := ⟨0x640010 + s * 0x4, 0x0⟩
def ELX_BANK (b : Nat) : Reg := ⟨0x640040 + b * 0x4, 0x0⟩
def ELX_PAD (i : Nat) : Reg := ⟨0x640100 + i * 0x4, if i ≤ 96 then 0x102 else if 103 ≤ i ∧ i ≤ 112 then 0x0 else 0x2⟩
def ARC_ID : Reg := ⟨0x680000, 0x4E0A0100⟩
def ARC_CONFIG : Reg := ⟨0x680004, 0x1F00⟩
def ARC_SERIAL : Reg := ⟨0x680008, 0x0⟩
def ARC_PACE : Reg := ⟨0x680010, 0x0⟩
def ARC_LAT_BOUND : Reg := ⟨0x680020, 0xFFFF⟩
def ARC_LAT_OVER : Reg := ⟨0x680024, 0x0⟩
def ARC_LAT_MAX : Reg := ⟨0x680028, 0x0⟩
def ARC_LAT_CTRL : Reg := ⟨0x68002C, 0x101⟩
def ARC_STATUS : Reg := ⟨0x680030, 0x0⟩
def ARC_IRQ_EN : Reg := ⟨0x680034, 0x0⟩
def ARC_REGION_RST : Reg := ⟨0x680040, 0x0⟩
def ARC_SKEW : Reg := ⟨0x680050, 0x0⟩

end R

namespace F

def TEN_STATUS_APPLIED : Field := ⟨R.TEN_STATUS, 0, 0⟩
def TEN_STATUS_COUNT : Field := ⟨R.TEN_STATUS, 13, 1⟩
def TEN_STATUS_OWNER_KEY : Field := ⟨R.TEN_STATUS, 14, 14⟩
def TEN_STATUS_DEV_KEY : Field := ⟨R.TEN_STATUS, 15, 15⟩
def TEN_STATUS_SEC_MIN : Field := ⟨R.TEN_STATUS, 21, 16⟩
def TEN_STATUS_BUSY : Field := ⟨R.TEN_STATUS, 22, 22⟩
def TEN_CTRL_CMD : Field := ⟨R.TEN_CTRL, 2, 0⟩
def TEN_EVENT_VIOL : Field := ⟨R.TEN_EVENT, 0, 0⟩
def TEN_EVENT_DENIED : Field := ⟨R.TEN_EVENT, 1, 1⟩
def TEN_EVENT_CMD_DONE : Field := ⟨R.TEN_EVENT, 2, 2⟩
def TEN_EVENT_MBX_OVERRUN : Field := ⟨R.TEN_EVENT, 3, 3⟩
def TEN_EVENT_SEC_RAISED : Field := ⟨R.TEN_EVENT, 4, 4⟩
def TEN_IRQ_EN_EN : Field := ⟨R.TEN_IRQ_EN, 4, 0⟩
def TEN_SEL_TID : Field := ⟨R.TEN_SEL, 11, 0⟩
def TEN_RESULT_CODE : Field := ⟨R.TEN_RESULT, 3, 0⟩
def TEN_RESULT_TID : Field := ⟨R.TEN_RESULT, 15, 4⟩
def TEN_DENIED_COUNT : Field := ⟨R.TEN_DENIED, 31, 0⟩
def TEN_VIOL_LOG_TID : Field := ⟨R.TEN_VIOL_LOG, 11, 0⟩
def TEN_VIOL_LOG_KIND : Field := ⟨R.TEN_VIOL_LOG, 15, 12⟩
def TEN_VIOL_LOG_DIE : Field := ⟨R.TEN_VIOL_LOG, 18, 16⟩
def TEN_VIOL_LOG_PORT : Field := ⟨R.TEN_VIOL_LOG, 21, 19⟩
def TEN_VIOL_LOG_VALID : Field := ⟨R.TEN_VIOL_LOG, 22, 22⟩
def TEN_VIOL_LOG_MORE : Field := ⟨R.TEN_VIOL_LOG, 23, 23⟩
def TEN_VIOL_LOG_DETAIL : Field := ⟨R.TEN_VIOL_LOG, 63, 32⟩
def TEN_ROOT_HASH_WORD (i : Nat) : Field := ⟨R.TEN_ROOT_HASH i, 31, 0⟩
def TEN_DEV_PUB_WORD (i : Nat) : Field := ⟨R.TEN_DEV_PUB i, 31, 0⟩
def TEN_OWNER_PUB_WORD (i : Nat) : Field := ⟨R.TEN_OWNER_PUB i, 31, 0⟩
def TEN_TOKEN_WORD (i : Nat) : Field := ⟨R.TEN_TOKEN i, 31, 0⟩
def TEN_ATTEST_WORD (i : Nat) : Field := ⟨R.TEN_ATTEST i, 31, 0⟩
def TEN_MBX_OVERRUN_OVERRUN (w : Nat) : Field := ⟨R.TEN_MBX_OVERRUN w, 31, 0⟩
def TEN_D_STORE_STORE (t : Nat) : Field := ⟨R.TEN_D_STORE t, 15, 0⟩
def TEN_D_STORE_WAITS (t : Nat) : Field := ⟨R.TEN_D_STORE t, 31, 16⟩
def TEN_T_CFG_ENABLED (t : Nat) : Field := ⟨R.TEN_T_CFG t, 0, 0⟩
def TEN_T_CFG_TOKEN_ONLY (t : Nat) : Field := ⟨R.TEN_T_CFG t, 1, 1⟩
def TEN_T_CFG_PASID_REQ (t : Nat) : Field := ⟨R.TEN_T_CFG t, 2, 2⟩
def TEN_T_CFG_PORTS_STATIC (t : Nat) : Field := ⟨R.TEN_T_CFG t, 11, 4⟩
def TEN_T_CFG_PORTS_TOKEN (t : Nat) : Field := ⟨R.TEN_T_CFG t, 19, 12⟩
def TEN_T_PASID_PASID (t : Nat) : Field := ⟨R.TEN_T_PASID t, 19, 0⟩
def TEN_T_PASID_VALID (t : Nat) : Field := ⟨R.TEN_T_PASID t, 20, 20⟩
def TEN_T_PASID_FROM_TOKEN (t : Nat) : Field := ⟨R.TEN_T_PASID t, 21, 21⟩
def TEN_T_GEN_FLOOR (t : Nat) : Field := ⟨R.TEN_T_GEN t, 31, 0⟩
def TEN_T_VIOL_ACCESS (t : Nat) : Field := ⟨R.TEN_T_VIOL t, 7, 0⟩
def TEN_T_VIOL_PASID (t : Nat) : Field := ⟨R.TEN_T_VIOL t, 15, 8⟩
def TEN_T_VIOL_DMA (t : Nat) : Field := ⟨R.TEN_T_VIOL t, 23, 16⟩
def TEN_T_VIOL_MBX (t : Nat) : Field := ⟨R.TEN_T_VIOL t, 31, 24⟩
def PWR_STATUS_STATE : Field := ⟨R.PWR_STATUS, 2, 0⟩
def PWR_STATUS_BUSY : Field := ⟨R.PWR_STATUS, 3, 3⟩
def PWR_STATUS_TARGET : Field := ⟨R.PWR_STATUS, 6, 4⟩
def PWR_STATUS_HELD : Field := ⟨R.PWR_STATUS, 7, 7⟩
def PWR_CTRL_CMD : Field := ⟨R.PWR_CTRL, 2, 0⟩
def PWR_EVENT_STATE_CHG : Field := ⟨R.PWR_EVENT, 0, 0⟩
def PWR_EVENT_CMD_REFUSED : Field := ⟨R.PWR_EVENT, 1, 1⟩
def PWR_EVENT_DRAIN_FORCED : Field := ⟨R.PWR_EVENT, 2, 2⟩
def PWR_EVENT_SENTINEL : Field := ⟨R.PWR_EVENT, 3, 3⟩
def PWR_EVENT_WAKE_REQ : Field := ⟨R.PWR_EVENT, 4, 4⟩
def PWR_EVENT_UV : Field := ⟨R.PWR_EVENT, 5, 5⟩
def PWR_EVENT_FENCE_REFUSE : Field := ⟨R.PWR_EVENT, 6, 6⟩
def PWR_EVENT_XIN_LOSS : Field := ⟨R.PWR_EVENT, 7, 7⟩
def PWR_EVENT_VCORE_SLOW : Field := ⟨R.PWR_EVENT, 8, 8⟩
def PWR_IRQ_EN_EN : Field := ⟨R.PWR_IRQ_EN, 8, 0⟩
def PWR_VCORE_ACT_MV : Field := ⟨R.PWR_VCORE, 9, 0⟩
def PWR_VCORE_TRIM_MV : Field := ⟨R.PWR_VCORE, 19, 10⟩
def PWR_VCORE_ADAPT : Field := ⟨R.PWR_VCORE, 20, 20⟩
def PWR_VCORE_VID : Field := ⟨R.PWR_VCORE, 25, 21⟩
def PWR_BOUNDS_SENT_US : Field := ⟨R.PWR_BOUNDS, 5, 0⟩
def PWR_BOUNDS_DRAIN_US : Field := ⟨R.PWR_BOUNDS, 17, 8⟩
def PWR_BOUNDS_IDLE_MS : Field := ⟨R.PWR_BOUNDS, 31, 18⟩
def PWR_SENT_CNT_COUNT : Field := ⟨R.PWR_SENT_CNT, 31, 0⟩
def PWR_SENT_LOG_MASTER : Field := ⟨R.PWR_SENT_LOG, 6, 0⟩
def PWR_SENT_LOG_DOMAIN : Field := ⟨R.PWR_SENT_LOG, 12, 7⟩
def PWR_SENT_LOG_DIE : Field := ⟨R.PWR_SENT_LOG, 15, 13⟩
def PWR_SENT_LOG_WRITE : Field := ⟨R.PWR_SENT_LOG, 16, 16⟩
def PWR_SENT_LOG_ACCEPTED : Field := ⟨R.PWR_SENT_LOG, 17, 17⟩
def PWR_SENT_LOG_VALID : Field := ⟨R.PWR_SENT_LOG, 18, 18⟩
def PWR_SENT_LOG_MORE : Field := ⟨R.PWR_SENT_LOG, 19, 19⟩
def PWR_SENT_LOG_OFFSET : Field := ⟨R.PWR_SENT_LOG, 63, 32⟩
def PWR_WAKE_WAKE_EN : Field := ⟨R.PWR_WAKE, 0, 0⟩
def PWR_WAKE_POM_EN : Field := ⟨R.PWR_WAKE, 1, 1⟩
def PWR_WAKE_MBX_EN : Field := ⟨R.PWR_WAKE, 2, 2⟩
def PWR_WAKE_WAKE_RETAIN : Field := ⟨R.PWR_WAKE, 3, 3⟩
def PWR_WAKE_CYCLE_MS : Field := ⟨R.PWR_WAKE, 17, 4⟩
def PWR_AON_LAST_WAKE : Field := ⟨R.PWR_AON, 2, 0⟩
def PWR_AON_RAIL_FAIL : Field := ⟨R.PWR_AON, 3, 3⟩
def PWR_AON_RETRIES : Field := ⟨R.PWR_AON, 5, 4⟩
def PWR_AON_WAKES : Field := ⟨R.PWR_AON, 31, 16⟩
def PWR_RAIL_UV : Field := ⟨R.PWR_RAIL, 8, 0⟩
def PWR_RAIL_VCORE_MV : Field := ⟨R.PWR_RAIL, 25, 16⟩
def PWR_DOM_ON_ON : Field := ⟨R.PWR_DOM_ON, 49, 0⟩
def PWR_DOM_STATE (n : Nat) : Field := ⟨R.PWR_DOM n, 2, 0⟩
def PWR_DOM_PLAN (n : Nat) : Field := ⟨R.PWR_DOM n, 4, 3⟩
def PWR_DOM_WAKE_PEND (n : Nat) : Field := ⟨R.PWR_DOM n, 5, 5⟩
def PWR_DOM_REFUSED (n : Nat) : Field := ⟨R.PWR_DOM n, 31, 16⟩
def RCV_STATUS_LAST_RUNG : Field := ⟨R.RCV_STATUS, 2, 0⟩
def RCV_STATUS_SAFE : Field := ⟨R.RCV_STATUS, 3, 3⟩
def RCV_STATUS_SAFE_PIN : Field := ⟨R.RCV_STATUS, 4, 4⟩
def RCV_STATUS_SAFE_REQ : Field := ⟨R.RCV_STATUS, 5, 5⟩
def RCV_STATUS_ALARM : Field := ⟨R.RCV_STATUS, 6, 6⟩
def RCV_STATUS_COND : Field := ⟨R.RCV_STATUS, 10, 8⟩
def RCV_STATUS_PKG_RESETS : Field := ⟨R.RCV_STATUS, 19, 16⟩
def RCV_STATUS_RUNG4 : Field := ⟨R.RCV_STATUS, 23, 20⟩
def RCV_CTRL_CMD : Field := ⟨R.RCV_CTRL, 2, 0⟩
def RCV_EVENT_FAULT : Field := ⟨R.RCV_EVENT, 0, 0⟩
def RCV_EVENT_RUNG2 : Field := ⟨R.RCV_EVENT, 1, 1⟩
def RCV_EVENT_RUNG3 : Field := ⟨R.RCV_EVENT, 2, 2⟩
def RCV_EVENT_ESCALATE : Field := ⟨R.RCV_EVENT, 3, 3⟩
def RCV_EVENT_SAFE_ENTER : Field := ⟨R.RCV_EVENT, 4, 4⟩
def RCV_EVENT_SAFE_EXIT : Field := ⟨R.RCV_EVENT, 5, 5⟩
def RCV_IRQ_EN_EN : Field := ⟨R.RCV_IRQ_EN, 5, 0⟩
def RCV_FAULT_LATCHED : Field := ⟨R.RCV_FAULT, 15, 0⟩
def RCV_FAULT_ACTIVE : Field := ⟨R.RCV_FAULT, 31, 16⟩
def RCV_FAULT_SUM_CLASSES : Field := ⟨R.RCV_FAULT_SUM, 15, 0⟩
def RCV_FAULT_SUM_DIES : Field := ⟨R.RCV_FAULT_SUM, 23, 16⟩
def RCV_ALARM_EN : Field := ⟨R.RCV_ALARM, 15, 0⟩
def RCV_ALARM_REC : Field := ⟨R.RCV_ALARM, 16, 16⟩
def RCV_ALARM_SAFE_ALARM : Field := ⟨R.RCV_ALARM, 17, 17⟩
def RCV_WDOG_TIMEOUT_MS : Field := ⟨R.RCV_WDOG, 15, 0⟩
def RCV_WDOG_ACT : Field := ⟨R.RCV_WDOG, 17, 16⟩
def RCV_WDOG_EN : Field := ⟨R.RCV_WDOG, 18, 18⟩
def RCV_WDOG_EXPIRED : Field := ⟨R.RCV_WDOG, 19, 19⟩
def RCV_WDOG_KICK_KEY : Field := ⟨R.RCV_WDOG_KICK, 15, 0⟩
def RCV_ESC_WINDOW_MS : Field := ⟨R.RCV_ESC, 9, 0⟩
def RCV_ESC_ENG_LIMIT : Field := ⟨R.RCV_ESC, 14, 10⟩
def RCV_ESC_CL_LIMIT : Field := ⟨R.RCV_ESC, 18, 15⟩
def RCV_ESC_RG_LIMIT : Field := ⟨R.RCV_ESC, 21, 19⟩
def RCV_ESC_PKG_LIMIT : Field := ⟨R.RCV_ESC, 24, 22⟩
def RCV_ESC_PKG_WIN_MIN : Field := ⟨R.RCV_ESC, 31, 25⟩
def RCV_UNIT_RST_UID : Field := ⟨R.RCV_UNIT_RST, 15, 0⟩
def RCV_UNIT_RST_GO : Field := ⟨R.RCV_UNIT_RST, 16, 16⟩
def RCV_UNIT_RST_RESULT : Field := ⟨R.RCV_UNIT_RST, 19, 17⟩
def RCV_QSTALL_STALL_MS : Field := ⟨R.RCV_QSTALL, 15, 0⟩
def RCV_QSTALL_COUNT : Field := ⟨R.RCV_QSTALL, 23, 16⟩
def RCV_LOG_RUNG : Field := ⟨R.RCV_LOG, 2, 0⟩
def RCV_LOG_ABSORBED : Field := ⟨R.RCV_LOG, 3, 3⟩
def RCV_LOG_TRIGGER : Field := ⟨R.RCV_LOG, 6, 4⟩
def RCV_LOG_VALID : Field := ⟨R.RCV_LOG, 7, 7⟩
def RCV_LOG_CLASS : Field := ⟨R.RCV_LOG, 11, 8⟩
def RCV_LOG_MORE : Field := ⟨R.RCV_LOG, 12, 12⟩
def RCV_LOG_UID : Field := ⟨R.RCV_LOG, 31, 16⟩
def RCV_LOG_AON_MS : Field := ⟨R.RCV_LOG, 63, 32⟩
def POM_STATUS_ACTIVE : Field := ⟨R.POM_STATUS, 0, 0⟩
def POM_STATUS_LOADING : Field := ⟨R.POM_STATUS, 1, 1⟩
def POM_STATUS_LAST_CMD : Field := ⟨R.POM_STATUS, 15, 8⟩
def POM_STATUS_LAST_STATUS : Field := ⟨R.POM_STATUS, 23, 16⟩
def POM_CTRL_REG_EN : Field := ⟨R.POM_CTRL, 0, 0⟩
def POM_CTRL_MBX_EN : Field := ⟨R.POM_CTRL, 1, 1⟩
def POM_ERR_CRC : Field := ⟨R.POM_ERR, 15, 0⟩
def POM_ERR_BAD_CMD : Field := ⟨R.POM_ERR, 31, 16⟩
def POM_MBX_ENGINE : Field := ⟨R.POM_MBX, 5, 0⟩
def POM_MBX_DIE : Field := ⟨R.POM_MBX, 8, 6⟩
def POM_MBX_EMPTY : Field := ⟨R.POM_MBX, 9, 9⟩
def POM_LOAD_NEXT : Field := ⟨R.POM_LOAD, 24, 0⟩
def POM_LOAD_ACTIVE : Field := ⟨R.POM_LOAD, 25, 25⟩
def WLT_STATUS_USED : Field := ⟨R.WLT_STATUS, 2, 0⟩
def WLT_STATUS_UP : Field := ⟨R.WLT_STATUS, 5, 3⟩
def WLT_STATUS_TIME_OK : Field := ⟨R.WLT_STATUS, 6, 6⟩
def WLT_EVENT_LINK_UP : Field := ⟨R.WLT_EVENT, 0, 0⟩
def WLT_EVENT_LINK_DOWN : Field := ⟨R.WLT_EVENT, 1, 1⟩
def WLT_EVENT_RETRAIN : Field := ⟨R.WLT_EVENT, 2, 2⟩
def WLT_EVENT_REPLAY : Field := ⟨R.WLT_EVENT, 3, 3⟩
def WLT_IRQ_EN_EN : Field := ⟨R.WLT_IRQ_EN, 3, 0⟩
def WLT_LINK_STATE (k : Nat) : Field := ⟨R.WLT_LINK k, 1, 0⟩
def WLT_LINK_PEER (k : Nat) : Field := ⟨R.WLT_LINK k, 4, 2⟩
def WLT_LINK_USED (k : Nat) : Field := ⟨R.WLT_LINK k, 5, 5⟩
def WLT_REPLAY_COUNT (k : Nat) : Field := ⟨R.WLT_REPLAY k, 31, 0⟩
def WLT_RETRAIN_COUNT (k : Nat) : Field := ⟨R.WLT_RETRAIN k, 31, 0⟩
def WLT_STALL_COUNT (k : Nat) : Field := ⟨R.WLT_STALL k, 31, 0⟩
def REI_STATUS_ADDR : Field := ⟨R.REI_STATUS, 4, 0⟩
def REI_STATUS_HEAD : Field := ⟨R.REI_STATUS, 5, 5⟩
def REI_STATUS_UP_LINK : Field := ⟨R.REI_STATUS, 6, 6⟩
def REI_STATUS_DOWN_LINK : Field := ⟨R.REI_STATUS, 7, 7⟩
def REI_STATUS_MISMATCH : Field := ⟨R.REI_STATUS, 8, 8⟩
def REI_STATUS_UP_UNSYNC : Field := ⟨R.REI_STATUS, 9, 9⟩
def REI_STATUS_MQ_USED : Field := ⟨R.REI_STATUS, 21, 10⟩
def REI_CTRL_CMD : Field := ⟨R.REI_CTRL, 1, 0⟩
def REI_EVENT_ENUMERATED : Field := ⟨R.REI_EVENT, 0, 0⟩
def REI_EVENT_BREAK_UP : Field := ⟨R.REI_EVENT, 1, 1⟩
def REI_EVENT_BREAK_DOWN : Field := ⟨R.REI_EVENT, 2, 2⟩
def REI_EVENT_CHAIN_LONG : Field := ⟨R.REI_EVENT, 3, 3⟩
def REI_EVENT_HEAD_CONFLICT : Field := ⟨R.REI_EVENT, 4, 4⟩
def REI_EVENT_MGMT_DONE : Field := ⟨R.REI_EVENT, 5, 5⟩
def REI_EVENT_MIRROR_DROP : Field := ⟨R.REI_EVENT, 6, 6⟩
def REI_IRQ_EN_EN : Field := ⟨R.REI_IRQ_EN, 6, 0⟩
def REI_MGMT_ADDR_GADDR : Field := ⟨R.REI_MGMT_ADDR, 47, 0⟩
def REI_MGMT_DATA_DATA : Field := ⟨R.REI_MGMT_DATA, 31, 0⟩
def REI_MGMT_CTRL_GO : Field := ⟨R.REI_MGMT_CTRL, 0, 0⟩
def REI_MGMT_CTRL_WRITE : Field := ⟨R.REI_MGMT_CTRL, 1, 1⟩
def REI_MGMT_CTRL_BUSY : Field := ⟨R.REI_MGMT_CTRL, 2, 2⟩
def REI_MGMT_CTRL_RESULT : Field := ⟨R.REI_MGMT_CTRL, 5, 3⟩
def REI_LINK_DELAY_DELAY_PS : Field := ⟨R.REI_LINK_DELAY, 23, 0⟩
def REI_MIRROR_TX_COUNT : Field := ⟨R.REI_MIRROR_TX, 31, 0⟩
def REI_MIRROR_DROP_COUNT : Field := ⟨R.REI_MIRROR_DROP, 31, 0⟩
def REI_MIRROR_REFUSED_COUNT : Field := ⟨R.REI_MIRROR_REFUSED, 31, 0⟩
def REI_MGMT_DENIED_COUNT : Field := ⟨R.REI_MGMT_DENIED, 31, 0⟩
def REI_REPLAY_COUNT : Field := ⟨R.REI_REPLAY, 31, 0⟩
def CAL_STATUS_FUSE_OK : Field := ⟨R.CAL_STATUS, 0, 0⟩
def CAL_STATUS_SEL_VALID : Field := ⟨R.CAL_STATUS, 1, 1⟩
def CAL_STATUS_USER_OK : Field := ⟨R.CAL_STATUS, 2, 2⟩
def CAL_STATUS_CLAMPED : Field := ⟨R.CAL_STATUS, 3, 3⟩
def CAL_STATUS_PENDING : Field := ⟨R.CAL_STATUS, 4, 4⟩
def CAL_SEL_ITEM : Field := ⟨R.CAL_SEL, 15, 0⟩
def CAL_SEL_INST : Field := ⟨R.CAL_SEL, 23, 16⟩
def CAL_FACT_VALUE : Field := ⟨R.CAL_FACT, 31, 0⟩
def CAL_USER_VALUE : Field := ⟨R.CAL_USER, 31, 0⟩
def CAL_EFF_VALUE : Field := ⟨R.CAL_EFF, 31, 0⟩
def CAL_CLAMPS_COUNT : Field := ⟨R.CAL_CLAMPS, 15, 0⟩
def CAL_CLAMPS_NEW : Field := ⟨R.CAL_CLAMPS, 16, 16⟩
def ELX_STATUS_BANK_HELD : Field := ⟨R.ELX_STATUS, 4, 0⟩
def ELX_STATUS_TEMP_HIGH : Field := ⟨R.ELX_STATUS, 5, 5⟩
def ELX_STATUS_TEMP_CRIT : Field := ⟨R.ELX_STATUS, 6, 6⟩
def ELX_EVENT_BANK : Field := ⟨R.ELX_EVENT, 4, 0⟩
def ELX_EVENT_TEMP_HIGH : Field := ⟨R.ELX_EVENT, 5, 5⟩
def ELX_EVENT_TEMP_CRIT : Field := ⟨R.ELX_EVENT, 6, 6⟩
def ELX_IRQ_EN_EN : Field := ⟨R.ELX_IRQ_EN, 6, 0⟩
def ELX_TEMP_MAX_MAX : Field := ⟨R.ELX_TEMP_MAX, 11, 0⟩
def ELX_TEMP_MAX_SENSOR : Field := ⟨R.ELX_TEMP_MAX, 14, 12⟩
def ELX_TEMP_TEMP (s : Nat) : Field := ⟨R.ELX_TEMP s, 11, 0⟩
def ELX_TEMP_VALID (s : Nat) : Field := ⟨R.ELX_TEMP s, 12, 12⟩
def ELX_BANK_LEVEL (b : Nat) : Field := ⟨R.ELX_BANK b, 1, 0⟩
def ELX_BANK_PRESENT (b : Nat) : Field := ⟨R.ELX_BANK b, 2, 2⟩
def ELX_BANK_HELD (b : Nat) : Field := ⟨R.ELX_BANK b, 3, 3⟩
def ELX_BANK_MV (b : Nat) : Field := ⟨R.ELX_BANK b, 27, 16⟩
def ELX_PAD_SLEW (i : Nat) : Field := ⟨R.ELX_PAD i, 1, 0⟩
def ELX_PAD_FILTER (i : Nat) : Field := ⟨R.ELX_PAD i, 4, 2⟩
def ELX_PAD_PULL (i : Nat) : Field := ⟨R.ELX_PAD i, 6, 5⟩
def ELX_PAD_PRESENT (i : Nat) : Field := ⟨R.ELX_PAD i, 8, 8⟩
def ARC_ID_FAMILY : Field := ⟨R.ARC_ID, 31, 16⟩
def ARC_ID_PART : Field := ⟨R.ARC_ID, 15, 8⟩
def ARC_ID_STEP : Field := ⟨R.ARC_ID, 7, 4⟩
def ARC_CONFIG_DIE_COUNT : Field := ⟨R.ARC_CONFIG, 3, 0⟩
def ARC_CONFIG_DIE_ID : Field := ⟨R.ARC_CONFIG, 6, 4⟩
def ARC_CONFIG_LEAD : Field := ⟨R.ARC_CONFIG, 7, 7⟩
def ARC_CONFIG_PKG_ADDR : Field := ⟨R.ARC_CONFIG, 12, 8⟩
def ARC_CONFIG_GATES : Field := ⟨R.ARC_CONFIG, 16, 16⟩
def ARC_CONFIG_HOME_BITS : Field := ⟨R.ARC_CONFIG, 18, 17⟩
def ARC_CONFIG_HOST_MAX : Field := ⟨R.ARC_CONFIG, 21, 19⟩
def ARC_SERIAL_SERIAL : Field := ⟨R.ARC_SERIAL, 63, 0⟩
def ARC_PACE_PACE : Field := ⟨R.ARC_PACE, 15, 0⟩
def ARC_PACE_SLOW_SRC : Field := ⟨R.ARC_PACE, 18, 16⟩
def ARC_LAT_BOUND_BOUND_NS : Field := ⟨R.ARC_LAT_BOUND, 15, 0⟩
def ARC_LAT_BOUND_VALID : Field := ⟨R.ARC_LAT_BOUND, 16, 16⟩
def ARC_LAT_BOUND_ABOVE_HEADLINE : Field := ⟨R.ARC_LAT_BOUND, 17, 17⟩
def ARC_LAT_OVER_COUNT : Field := ⟨R.ARC_LAT_OVER, 31, 0⟩
def ARC_LAT_MAX_MAX_NS : Field := ⟨R.ARC_LAT_MAX, 15, 0⟩
def ARC_LAT_CTRL_MEAS_EN : Field := ⟨R.ARC_LAT_CTRL, 0, 0⟩
def ARC_LAT_CTRL_HOLD_MS : Field := ⟨R.ARC_LAT_CTRL, 15, 8⟩
def ARC_STATUS_BOUND_RISE : Field := ⟨R.ARC_STATUS, 0, 0⟩
def ARC_STATUS_HEADLINE_LOST : Field := ⟨R.ARC_STATUS, 1, 1⟩
def ARC_STATUS_OVER : Field := ⟨R.ARC_STATUS, 2, 2⟩
def ARC_STATUS_SKEW : Field := ⟨R.ARC_STATUS, 3, 3⟩
def ARC_STATUS_REGION_DONE : Field := ⟨R.ARC_STATUS, 4, 4⟩
def ARC_IRQ_EN_EN : Field := ⟨R.ARC_IRQ_EN, 4, 0⟩
def ARC_REGION_RST_REQ : Field := ⟨R.ARC_REGION_RST, 3, 0⟩
def ARC_REGION_RST_BUSY : Field := ⟨R.ARC_REGION_RST, 7, 4⟩
def ARC_REGION_RST_DONE : Field := ⟨R.ARC_REGION_RST, 11, 8⟩
def ARC_REGION_RST_FAILED : Field := ⟨R.ARC_REGION_RST, 15, 12⟩
def ARC_SKEW_SKEW_PS : Field := ⟨R.ARC_SKEW, 15, 0⟩
def ARC_SKEW_OUT_OF_LIMIT : Field := ⟨R.ARC_SKEW, 16, 16⟩

end F

/-- The registers of block TEN_ with their layout and access codes, for accesses by offset (R10, R14 to R18). -/
def descTEN : List RegDesc :=
  [ ⟨0x3C0000, [], false, true, 0x0, [⟨0, 0, .ro⟩, ⟨13, 1, .ro⟩, ⟨14, 14, .ro⟩, ⟨15, 15, .ro⟩, ⟨21, 16, .ro⟩, ⟨22, 22, .ro⟩]⟩,
    ⟨0x3C0004, [], false, true, 0x0, [⟨2, 0, .wo⟩]⟩,
    ⟨0x3C0008, [], false, true, 0x0, [⟨0, 0, .w1c⟩, ⟨1, 1, .w1c⟩, ⟨2, 2, .w1c⟩, ⟨3, 3, .w1c⟩, ⟨4, 4, .w1c⟩]⟩,
    ⟨0x3C000C, [], false, true, 0x0, [⟨4, 0, .rw⟩]⟩,
    ⟨0x3C0010, [], false, true, 0x0, [⟨11, 0, .rw⟩]⟩,
    ⟨0x3C0014, [], false, true, 0x0, [⟨3, 0, .ro⟩, ⟨15, 4, .ro⟩]⟩,
    ⟨0x3C0018, [], false, false, 0x0, [⟨31, 0, .rc⟩]⟩,
    ⟨0x3C0020, [], true, true, 0x0, [⟨11, 0, .rc⟩, ⟨15, 12, .rc⟩, ⟨18, 16, .rc⟩, ⟨21, 19, .rc⟩, ⟨22, 22, .rc⟩, ⟨23, 23, .rc⟩, ⟨63, 32, .rc⟩]⟩,
    ⟨0x3C0040, [(12, 0x4)], false, true, 0x0, [⟨31, 0, .ro⟩]⟩,
    ⟨0x3C0080, [(8, 0x4)], false, true, 0x0, [⟨31, 0, .ro⟩]⟩,
    ⟨0x3C00A0, [(8, 0x4)], false, true, 0x0, [⟨31, 0, .ro⟩]⟩,
    ⟨0x3C0100, [(32, 0x4)], false, true, 0x0, [⟨31, 0, .wo⟩]⟩ ] ++
  [ ⟨0x3C0180, [(32, 0x4)], false, true, 0x0, [⟨31, 0, .ro⟩]⟩,
    ⟨0x3C0200, [(128, 0x4)], false, true, 0x0, [⟨31, 0, .st⟩]⟩,
    ⟨0x3C4000, [(4096, 0x4)], false, false, 0x0, [⟨15, 0, .ro⟩, ⟨31, 16, .rc⟩]⟩,
    ⟨0x3D0000, [(4096, 0x10)], false, true, 0x0, [⟨0, 0, .ro⟩, ⟨1, 1, .ro⟩, ⟨2, 2, .ro⟩, ⟨11, 4, .ro⟩, ⟨19, 12, .ro⟩]⟩,
    ⟨0x3D0004, [(4096, 0x10)], false, true, 0x0, [⟨19, 0, .ro⟩, ⟨20, 20, .ro⟩, ⟨21, 21, .ro⟩]⟩,
    ⟨0x3D0008, [(4096, 0x10)], false, true, 0x0, [⟨31, 0, .ro⟩]⟩,
    ⟨0x3D000C, [(4096, 0x10)], false, true, 0x0, [⟨7, 0, .rc⟩, ⟨15, 8, .rc⟩, ⟨23, 16, .rc⟩, ⟨31, 24, .rc⟩]⟩ ]

/-- The registers of block PWR_ with their layout and access codes, for accesses by offset (R10, R14 to R18). -/
def descPWR : List RegDesc :=
  [ ⟨0x4C0000, [], false, true, 0x0, [⟨2, 0, .ro⟩, ⟨3, 3, .ro⟩, ⟨6, 4, .ro⟩, ⟨7, 7, .ro⟩]⟩,
    ⟨0x4C0004, [], false, true, 0x0, [⟨2, 0, .wo⟩]⟩,
    ⟨0x4C0008, [], false, false, 0x0, [⟨0, 0, .w1c⟩, ⟨1, 1, .w1c⟩, ⟨2, 2, .w1c⟩, ⟨3, 3, .w1c⟩, ⟨4, 4, .w1c⟩, ⟨5, 5, .w1c⟩, ⟨6, 6, .w1c⟩, ⟨7, 7, .w1c⟩, ⟨8, 8, .w1c⟩]⟩,
    ⟨0x4C000C, [], false, false, 0x0, [⟨8, 0, .rw⟩]⟩,
    ⟨0x4C0010, [], false, true, 0x1E962EE, [⟨9, 0, .rw⟩, ⟨19, 10, .rw⟩, ⟨20, 20, .rw⟩, ⟨25, 21, .ro⟩]⟩,
    ⟨0x4C0014, [], false, false, 0x190140A, [⟨5, 0, .rw⟩, ⟨17, 8, .rw⟩, ⟨31, 18, .rw⟩]⟩,
    ⟨0x4C0018, [], false, false, 0x0, [⟨31, 0, .rc⟩]⟩,
    ⟨0x4C0020, [], true, false, 0x0, [⟨6, 0, .rc⟩, ⟨12, 7, .rc⟩, ⟨15, 13, .rc⟩, ⟨16, 16, .rc⟩, ⟨17, 17, .rc⟩, ⟨18, 18, .rc⟩, ⟨19, 19, .rc⟩, ⟨63, 32, .rc⟩]⟩,
    ⟨0x4C0028, [], false, true, 0x64B, [⟨0, 0, .rw⟩, ⟨1, 1, .rw⟩, ⟨2, 2, .rw⟩, ⟨3, 3, .rw⟩, ⟨17, 4, .rw⟩]⟩,
    ⟨0x4C002C, [], false, true, 0x0, [⟨2, 0, .st⟩, ⟨3, 3, .st⟩, ⟨5, 4, .st⟩, ⟨31, 16, .st⟩]⟩,
    ⟨0x4C0030, [], false, false, 0x0, [⟨8, 0, .w1c⟩, ⟨25, 16, .ro⟩]⟩,
    ⟨0x4C0038, [], true, false, 0x318FFFF000000, [⟨49, 0, .ro⟩]⟩ ] ++
  [ ⟨0x4C0100, [(24, 0x4)], false, false, 0x0, [⟨2, 0, .ro⟩, ⟨4, 3, .ro⟩, ⟨5, 5, .ro⟩, ⟨31, 16, .rc⟩]⟩,
    ⟨0x4C0160, [(16, 0x4)], false, false, 0xA, [⟨2, 0, .ro⟩, ⟨4, 3, .ro⟩, ⟨5, 5, .ro⟩, ⟨31, 16, .rc⟩]⟩,
    ⟨0x4C01A0, [(3, 0x4)], false, false, 0x0, [⟨2, 0, .ro⟩, ⟨4, 3, .ro⟩, ⟨5, 5, .ro⟩, ⟨31, 16, .rc⟩]⟩,
    ⟨0x4C01AC, [(2, 0x4)], false, false, 0xA, [⟨2, 0, .ro⟩, ⟨4, 3, .ro⟩, ⟨5, 5, .ro⟩, ⟨31, 16, .rc⟩]⟩,
    ⟨0x4C01B4, [(3, 0x4)], false, false, 0x0, [⟨2, 0, .ro⟩, ⟨4, 3, .ro⟩, ⟨5, 5, .ro⟩, ⟨31, 16, .rc⟩]⟩,
    ⟨0x4C01C0, [(2, 0x4)], false, false, 0xA, [⟨2, 0, .ro⟩, ⟨4, 3, .ro⟩, ⟨5, 5, .ro⟩, ⟨31, 16, .rc⟩]⟩ ]

/-- The registers of block RCV_ with their layout and access codes, for accesses by offset (R10, R14 to R18). -/
def descRCV : List RegDesc :=
  [ ⟨0x500000, [], false, true, 0x0, [⟨2, 0, .ro⟩, ⟨3, 3, .ro⟩, ⟨4, 4, .ro⟩, ⟨5, 5, .ro⟩, ⟨6, 6, .ro⟩, ⟨10, 8, .st⟩, ⟨19, 16, .st⟩, ⟨23, 20, .st⟩]⟩,
    ⟨0x500004, [], false, true, 0x0, [⟨2, 0, .wo⟩]⟩,
    ⟨0x500008, [], false, false, 0x0, [⟨0, 0, .w1c⟩, ⟨1, 1, .w1c⟩, ⟨2, 2, .w1c⟩, ⟨3, 3, .w1c⟩, ⟨4, 4, .w1c⟩, ⟨5, 5, .w1c⟩]⟩,
    ⟨0x50000C, [], false, false, 0x0, [⟨5, 0, .rw⟩]⟩,
    ⟨0x500010, [], false, false, 0x0, [⟨15, 0, .w1c⟩, ⟨31, 16, .ro⟩]⟩,
    ⟨0x500014, [], false, true, 0x0, [⟨15, 0, .ro⟩, ⟨23, 16, .ro⟩]⟩,
    ⟨0x500018, [], false, true, 0x2FD91, [⟨15, 0, .rw⟩, ⟨16, 16, .ro⟩, ⟨17, 17, .rw⟩]⟩,
    ⟨0x50001C, [], false, true, 0x103E8, [⟨15, 0, .rw⟩, ⟨17, 16, .rw⟩, ⟨18, 18, .w1s⟩, ⟨19, 19, .w1c⟩]⟩,
    ⟨0x500020, [], false, true, 0x0, [⟨15, 0, .wo⟩]⟩,
    ⟨0x500024, [], false, true, 0x14D1A3E8, [⟨9, 0, .rw⟩, ⟨14, 10, .rw⟩, ⟨18, 15, .rw⟩, ⟨21, 19, .rw⟩, ⟨24, 22, .rw⟩, ⟨31, 25, .rw⟩]⟩,
    ⟨0x500028, [], false, false, 0x0, [⟨15, 0, .rw⟩, ⟨16, 16, .w1s⟩, ⟨19, 17, .ro⟩]⟩,
    ⟨0x50002C, [], false, false, 0x64, [⟨15, 0, .rw⟩, ⟨23, 16, .rc⟩]⟩ ] ++
  [ ⟨0x500030, [], true, false, 0x0, [⟨2, 0, .rc⟩, ⟨3, 3, .rc⟩, ⟨6, 4, .rc⟩, ⟨7, 7, .rc⟩, ⟨11, 8, .rc⟩, ⟨12, 12, .rc⟩, ⟨31, 16, .rc⟩, ⟨63, 32, .rc⟩]⟩ ]

/-- The registers of block POM_ with their layout and access codes, for accesses by offset (R10, R14 to R18). -/
def descPOM : List RegDesc :=
  [ ⟨0x540000, [], false, true, 0x0, [⟨0, 0, .ro⟩, ⟨1, 1, .ro⟩, ⟨15, 8, .ro⟩, ⟨23, 16, .ro⟩]⟩,
    ⟨0x540004, [], false, true, 0x3, [⟨0, 0, .rw⟩, ⟨1, 1, .rw⟩]⟩,
    ⟨0x540008, [], false, true, 0x0, [⟨15, 0, .rc⟩, ⟨31, 16, .rc⟩]⟩,
    ⟨0x54000C, [], false, true, 0x0, [⟨5, 0, .ro⟩, ⟨8, 6, .ro⟩, ⟨9, 9, .w1c⟩]⟩,
    ⟨0x540010, [], false, true, 0x0, [⟨24, 0, .ro⟩, ⟨25, 25, .ro⟩]⟩ ]

/-- The registers of block WLT_ with their layout and access codes, for accesses by offset (R10, R14 to R18). -/
def descWLT : List RegDesc :=
  [ ⟨0x580000, [], false, false, 0x0, [⟨2, 0, .ro⟩, ⟨5, 3, .ro⟩, ⟨6, 6, .ro⟩]⟩,
    ⟨0x580004, [], false, false, 0x0, [⟨0, 0, .w1c⟩, ⟨1, 1, .w1c⟩, ⟨2, 2, .w1c⟩, ⟨3, 3, .w1c⟩]⟩,
    ⟨0x580008, [], false, false, 0x0, [⟨3, 0, .rw⟩]⟩,
    ⟨0x580010, [(3, 0x10)], false, false, 0x0, [⟨1, 0, .ro⟩, ⟨4, 2, .ro⟩, ⟨5, 5, .ro⟩]⟩,
    ⟨0x580014, [(3, 0x10)], false, false, 0x0, [⟨31, 0, .rc⟩]⟩,
    ⟨0x580018, [(3, 0x10)], false, false, 0x0, [⟨31, 0, .rc⟩]⟩,
    ⟨0x58001C, [(3, 0x10)], false, false, 0x0, [⟨31, 0, .rc⟩]⟩ ]

/-- The registers of block REI_ with their layout and access codes, for accesses by offset (R10, R14 to R18). -/
def descREI : List RegDesc :=
  [ ⟨0x5C0000, [], false, true, 0x1F, [⟨4, 0, .ro⟩, ⟨5, 5, .ro⟩, ⟨6, 6, .ro⟩, ⟨7, 7, .ro⟩, ⟨8, 8, .ro⟩, ⟨9, 9, .ro⟩, ⟨21, 10, .ro⟩]⟩,
    ⟨0x5C0004, [], false, true, 0x0, [⟨1, 0, .wo⟩]⟩,
    ⟨0x5C0008, [], false, true, 0x0, [⟨0, 0, .w1c⟩, ⟨1, 1, .w1c⟩, ⟨2, 2, .w1c⟩, ⟨3, 3, .w1c⟩, ⟨4, 4, .w1c⟩, ⟨5, 5, .w1c⟩, ⟨6, 6, .w1c⟩]⟩,
    ⟨0x5C000C, [], false, true, 0x0, [⟨6, 0, .rw⟩]⟩,
    ⟨0x5C0010, [], true, true, 0x0, [⟨47, 0, .rw⟩]⟩,
    ⟨0x5C0018, [], false, true, 0x0, [⟨31, 0, .rw⟩]⟩,
    ⟨0x5C001C, [], false, true, 0x0, [⟨0, 0, .w1s⟩, ⟨1, 1, .rw⟩, ⟨2, 2, .ro⟩, ⟨5, 3, .ro⟩]⟩,
    ⟨0x5C0020, [], false, true, 0x0, [⟨23, 0, .ro⟩]⟩,
    ⟨0x5C0024, [], false, true, 0x0, [⟨31, 0, .rc⟩]⟩,
    ⟨0x5C0028, [], false, true, 0x0, [⟨31, 0, .rc⟩]⟩,
    ⟨0x5C002C, [], false, true, 0x0, [⟨31, 0, .rc⟩]⟩,
    ⟨0x5C0030, [], false, true, 0x0, [⟨31, 0, .rc⟩]⟩ ] ++
  [ ⟨0x5C0034, [], false, true, 0x0, [⟨31, 0, .rc⟩]⟩ ]

/-- The registers of block CAL_ with their layout and access codes, for accesses by offset (R10, R14 to R18). -/
def descCAL : List RegDesc :=
  [ ⟨0x600000, [], false, false, 0x0, [⟨0, 0, .ro⟩, ⟨1, 1, .ro⟩, ⟨2, 2, .ro⟩, ⟨3, 3, .ro⟩, ⟨4, 4, .ro⟩]⟩,
    ⟨0x600004, [], false, false, 0x0, [⟨15, 0, .rw⟩, ⟨23, 16, .rw⟩]⟩,
    ⟨0x600008, [], false, false, 0x0, [⟨31, 0, .ro⟩]⟩,
    ⟨0x60000C, [], false, false, 0x0, [⟨31, 0, .rw⟩]⟩,
    ⟨0x600010, [], false, false, 0x0, [⟨31, 0, .ro⟩]⟩,
    ⟨0x600014, [], false, false, 0x0, [⟨15, 0, .ro⟩, ⟨16, 16, .w1c⟩]⟩ ]

/-- The registers of block ELX_ with their layout and access codes, for accesses by offset (R10, R14 to R18). -/
def descELX : List RegDesc :=
  [ ⟨0x640000, [], false, false, 0x0, [⟨4, 0, .ro⟩, ⟨5, 5, .ro⟩, ⟨6, 6, .ro⟩]⟩,
    ⟨0x640004, [], false, false, 0x0, [⟨4, 0, .w1c⟩, ⟨5, 5, .w1c⟩, ⟨6, 6, .w1c⟩]⟩,
    ⟨0x640008, [], false, false, 0x0, [⟨6, 0, .rw⟩]⟩,
    ⟨0x64000C, [], false, false, 0x0, [⟨11, 0, .rc⟩, ⟨14, 12, .rc⟩]⟩,
    ⟨0x640010, [(5, 0x4)], false, false, 0x0, [⟨11, 0, .ro⟩, ⟨12, 12, .ro⟩]⟩,
    ⟨0x640040, [(5, 0x4)], false, false, 0x0, [⟨1, 0, .ro⟩, ⟨2, 2, .ro⟩, ⟨3, 3, .ro⟩, ⟨27, 16, .ro⟩]⟩,
    ⟨0x640100, [(97, 0x4)], false, false, 0x102, [⟨1, 0, .rw⟩, ⟨4, 2, .rw⟩, ⟨6, 5, .rw⟩, ⟨8, 8, .ro⟩]⟩,
    ⟨0x640284, [(6, 0x4)], false, false, 0x2, [⟨1, 0, .rw⟩, ⟨4, 2, .rw⟩, ⟨6, 5, .rw⟩, ⟨8, 8, .ro⟩]⟩,
    ⟨0x64029C, [(10, 0x4)], false, false, 0x0, [⟨1, 0, .rw⟩, ⟨4, 2, .rw⟩, ⟨6, 5, .rw⟩, ⟨8, 8, .ro⟩]⟩,
    ⟨0x6402C4, [(15, 0x4)], false, false, 0x2, [⟨1, 0, .rw⟩, ⟨4, 2, .rw⟩, ⟨6, 5, .rw⟩, ⟨8, 8, .ro⟩]⟩ ]

/-- The registers of block ARC_ with their layout and access codes, for accesses by offset (R10, R14 to R18). -/
def descARC : List RegDesc :=
  [ ⟨0x680000, [], false, false, 0x4E0A0100, [⟨31, 16, .ro⟩, ⟨15, 8, .ro⟩, ⟨7, 4, .ro⟩]⟩,
    ⟨0x680004, [], false, false, 0x1F00, [⟨3, 0, .ro⟩, ⟨6, 4, .ro⟩, ⟨7, 7, .ro⟩, ⟨12, 8, .ro⟩, ⟨16, 16, .ro⟩, ⟨18, 17, .ro⟩, ⟨21, 19, .ro⟩]⟩,
    ⟨0x680008, [], true, true, 0x0, [⟨63, 0, .ro⟩]⟩,
    ⟨0x680010, [], false, false, 0x0, [⟨15, 0, .ro⟩, ⟨18, 16, .ro⟩]⟩,
    ⟨0x680020, [], false, true, 0xFFFF, [⟨15, 0, .ro⟩, ⟨16, 16, .ro⟩, ⟨17, 17, .ro⟩]⟩,
    ⟨0x680024, [], false, false, 0x0, [⟨31, 0, .rc⟩]⟩,
    ⟨0x680028, [], false, false, 0x0, [⟨15, 0, .rc⟩]⟩,
    ⟨0x68002C, [], false, false, 0x101, [⟨0, 0, .rw⟩, ⟨15, 8, .rw⟩]⟩,
    ⟨0x680030, [], false, false, 0x0, [⟨0, 0, .w1c⟩, ⟨1, 1, .w1c⟩, ⟨2, 2, .w1c⟩, ⟨3, 3, .w1c⟩, ⟨4, 4, .w1c⟩]⟩,
    ⟨0x680034, [], false, false, 0x0, [⟨4, 0, .rw⟩]⟩,
    ⟨0x680040, [], false, false, 0x0, [⟨3, 0, .w1s⟩, ⟨7, 4, .ro⟩, ⟨11, 8, .w1c⟩, ⟨15, 12, .w1c⟩]⟩,
    ⟨0x680050, [], false, false, 0x0, [⟨15, 0, .ro⟩, ⟨16, 16, .w1c⟩]⟩ ]

end Sys2Proof.Machine
end

