-- ==== Sys2Proof/Machine/VatState.lean ====
section
/-! DEFINITION. What the Vat, the datapoint logic and the Skiver hold beside registers and memory (chapters 03 and
04): bank requests and pointers, walkers, March C- runs, Skiver entries, the commit queues and the mirror queue. -/

namespace Sys2Proof.Machine

/-- A request at a bank (R138): the access kind with its bytes. -/
inductive BankAccess where
  | lineRead (off n lead : Nat)
  | wordWrite (off : Nat) (bytes : List Byte)
  | mergeWrite (off : Nat) (bytes : List Byte)
  | scrubWrite (off : Nat)
deriving DecidableEq, Repr

/-- A request waiting at a bank: the port P0 to P15 it entered on, its class (true for A), the reader or writer as
the SOURCE code of VAT_ECC_UE_LOG, and the access. -/
structure BankReq where
  port : Nat
  classA : Bool
  source : Nat
  kind : BankAccess
deriving DecidableEq, Repr

/-- One bank (R145, R146, R165, R174, R176): waiting requests in arrival order, the two class pointers, the scrub
writes waiting as maintenance requests, the walker's line index, the line of a preserving run under test, and the
line that the repair spare replaces. -/
structure Bank where
  reqs : List BankReq
  ptrA : Nat
  ptrB : Nat
  maint : List Nat
  walker : Nat
  marchLine : Nat
  repair : Option Nat
  /-- The run in progress found a fault and mapped it. -/
  repairedNow : Bool
deriving DecidableEq, Repr

def Bank.reset : Bank := ⟨[], 0, 0, [], 0, 0, none, false⟩

/-- A Skiver entry (R230): armed, notice channel, deadline tick. -/
structure Skv where
  armed : Bool
  nch : Nat
  tick : Nat
deriving DecidableEq, Repr, Inhabited

def Skv.reset : Skv := ⟨false, 0, 0⟩

/-- The quality operand of a commit (R198). -/
structure QOperand where
  valid : Bool
  overflow : Bool
  sourceInvalid : Bool
  questionable : Bool
  test : Bool
  blocked : Bool
  origin : Nat
  srcUnsync : Bool
deriving DecidableEq, Repr, Inhabited

/-- A commit request (R198) as it leaves its engine: `epoch` is that of the configuration the engine executes (R279),
`unsync` the condition of R210 at issue, `endInstant` the frame's end instant on the headline path (R63), and
`released` the mark of its release (R201). -/
structure Commit where
  dpi : Nat
  operand : Nat
  srcTime : Nat
  srcValid : Bool
  arrival : Nat
  q : QOperand
  issuer : Nat
  epoch : Nat
  unsync : Bool
  endInstant : Option Nat
  released : Bool
deriving DecidableEq, Repr, Inhabited

/-- A MIRROR message (R845): peer, destination DPI, source TYPE and the 32 record bytes. -/
structure MirrorMsg where
  src : Nat
  peer : Nat
  dpi : Nat
  type : Nat
  bytes : List Byte
deriving DecidableEq, Repr, Inhabited

/-- A datapoint record (R184). -/
structure DpRec where
  value : Nat
  srcTime : Nat
  deadline : Nat
  seq : Nat
  quality : Nat
  owner : Nat
deriving DecidableEq, Repr, Inhabited

/-- A descriptor (R189). -/
structure Desc where
  type : Nat
  base : Nat
  notifyEn : Bool
  substEn : Bool
  nch : Nat
  rdPrivate : Bool
  headline : Bool
  writer : Nat
  maxAge : Nat
  tid : Nat
  qmap : Nat
  scale : Nat
deriving DecidableEq, Repr, Inhabited

end Sys2Proof.Machine
end

