-- ==== Sys2Proof/Machine/AwlState.lean ====
section
/-! DEFINITION. What the Awl engines and clusters hold (chapters 05 and 06): stacks, flags, special registers, the
store buffer, the multiplier, the open commit group and the mailbox of an engine, and the banks and dispatcher of a
cluster. -/

namespace Sys2Proof.Machine

/-- A 16-bit word of an engine. -/
abbrev W16 := BitVec 16

/-- The flags (FLAGS bits 4 to 0). -/
structure Flags where
  z : Bool
  n : Bool
  c : Bool
  v : Bool
  t : Bool
deriving DecidableEq, Repr, Inhabited

/-- Where a buffered store goes (R338): bytes of the cluster-shared scratchpad, of a transmit frame, of a die's Vat, or
of the control space of the engine's own die. -/
inductive SbTarget where
  | shared
  | frame (f : Nat)
  | vat (d : Nat)
  | ctl
deriving DecidableEq, Repr

/-- A store-buffer entry: its target, the global address of its first byte and its bytes, with the word address and
VW_PAGE that a trap reports (R343); no VW_PAGE where the store used none. -/
structure SbEntry where
  target : SbTarget
  addr : Nat
  bytes : List Byte
  word : Nat
  page : Option Nat
deriving DecidableEq, Repr

/-- What waits in the store buffer in program order: stores, and the operations that R344 orders after them. -/
inductive SbItem where
  | store (e : SbEntry)
  | send (f : Nat)
  | signal (mask : Nat)
  | mbx (w : W16)
deriving DecidableEq, Repr

/-- A trap not yet taken: an imprecise failure reported by a drain (R285). -/
structure PendTrap where
  sub : Nat
  addr : Nat
  page : Option Nat
deriving DecidableEq, Repr

/-- The state of an engine (Engine states table). -/
inductive EngState where
  | off | reset | run | wait | trap
deriving DecidableEq, Repr, Inhabited

/-- One engine. -/
structure Eng where
  st : EngState
  pc : Nat
  /-- The bank selector. -/
  bank : Nat
  /-- Operand and return stacks, top first. -/
  ds : List W16
  rs : List W16
  fl : Flags
  vwPage : Nat
  evMask : Nat
  /-- Latched pulse events. -/
  evPend : Nat
  evCause : Nat
  /-- TIM_MONO at which the TMR interval ends. -/
  tmr : Option Nat
  /-- The 64 bits that a read of NOW0 latched. -/
  nowLatch : Nat
  sel : Bool
  qsel : Nat
  held : Bool
  nocell : Bool
  sendErr : Bool
  cmdErr : Bool
  txLen : Nat
  /-- Head slot of the bound receive frame, and the bound transmit frame. -/
  rx : Option Nat
  tx : Option Nat
  mbxIn : List W16
  mbxOut : List W16
  /-- Words that arrived in RESET or while the domain is off (R292, R647). -/
  mbxHeld : List W16
  /-- A doorbell rung while the domain is off or fenced (R771). -/
  bellHeld : Bool
  rxUnder : Bool
  /-- The open commit group, oldest first. -/
  group : List Commit
  /-- Released commits whose status has not returned. -/
  outstanding : Nat
  /-- A released group that waits for room in the commit queue (R532). -/
  cqWait : Bool
  firstReason : Nat
  refused : Nat
  cause : Nat
  sub : Nat
  imprecise : Bool
  inTrap : Bool
  trapPc : Nat
  trapAddr : Nat
  trapPage : Nat
  trapFlags : Nat
  lastCause : Nat
  pend : Option PendTrap
  sb : List SbItem
  /-- The accumulator that MH, ML and MX show, the accumulator as the last operation leaves it, and the results in
  flight as (instructions until visible, value), oldest first (R347, R348). -/
  accVis : Nat
  acc : Nat
  accQ : List (Nat × Nat)
  /-- RUN_LIMIT was taken since the last WAIT (R266). -/
  limitHit : Bool
deriving DecidableEq, Repr, Inhabited

/-- An engine after power-on: off, every special register at its Reset value. -/
def Eng.power : Eng :=
  { (default : Eng) with st := .off, evCause := 0xFF }

/-- An engine whose reset has taken hold (R291); the selector is kept. -/
def Eng.afterReset (g : Eng) : Eng :=
  { Eng.power with st := .reset, bank := g.bank, lastCause := g.lastCause, mbxHeld := g.mbxHeld, bellHeld := g.bellHeld }

/-- One cluster beside its registers. -/
structure Cl where
  /-- The engine at which the dispatcher's rotating order starts (R264). -/
  disp : Nat
  /-- Whether bank 0 and bank 1 hold a pack. -/
  pack0 : Bool
  pack1 : Bool
  /-- Engines (bits) whose reset has not completed. -/
  resetting : Nat
  /-- The instruction-bank operation in progress: operation and bank. -/
  ibank : Option (Nat × Nat)
deriving DecidableEq, Repr, Inhabited

def Cl.reset : Cl := ⟨0, false, false, 0, none⟩

end Sys2Proof.Machine
end

