-- ==== Sys2Proof/Machine/Table.lean ====
section
/-! DEFINITION. Sparse tables: a list of (key, value) pairs in one canonical form, the keys strictly rising and no
entry equal to what an unlisted key reads as, so that equal tables are equal data. Registers, Vat bytes and the
per-unit records of the machine are held in such tables. -/

namespace Sys2Proof.Machine

/-- What key `k` reads as; `d` is what an unlisted key reads as. -/
def tblGet {α : Type} (t : List (Nat × α)) (d : α) (k : Nat) : α :=
  match t with
  | [] => d
  | e :: r => if k = e.1 then e.2 else tblGet r d k

/-- The table with an entry for key `k`, kept in the order of the keys. -/
def tblIns {α : Type} (t : List (Nat × α)) (k : Nat) (v : α) : List (Nat × α) :=
  match t with
  | [] => [(k, v)]
  | e :: r => if k < e.1 then (k, v) :: e :: r else if k = e.1 then (k, v) :: r else e :: tblIns r k v

/-- The table with key `k` holding `v`, in canonical form: an entry equal to `d` is not listed. -/
def tblSet {α : Type} [DecidableEq α] (t : List (Nat × α)) (d : α) (k : Nat) (v : α) : List (Nat × α) :=
  if v = d then t.filter (fun e => e.1 != k) else tblIns t k v

/-- Every key of the table is above `k`, and the table is canonical. -/
def tblWfFrom {α : Type} [DecidableEq α] (d : α) (k : Nat) : List (Nat × α) → Bool
  | [] => true
  | e :: r => decide (k < e.1) && decide (e.2 ≠ d) && tblWfFrom d e.1 r

/-- The canonical form: keys strictly rising, no entry equal to `d`. -/
def tblWf {α : Type} [DecidableEq α] (d : α) : List (Nat × α) → Bool
  | [] => true
  | e :: r => decide (e.2 ≠ d) && tblWfFrom d e.1 r

/-- The table without the keys that meet a test. -/
def tblDrop {α : Type} (p : Nat → Bool) (t : List (Nat × α)) : List (Nat × α) := t.filter (fun e => !p e.1)

end Sys2Proof.Machine
end

