-- ==== Sys2Proof/Machine/EthState.lean ====
section
/-! DEFINITION. What an Ethernet port and a port pair hold beside their registers (chapter 08): the frame in transmission,
the frame under cut-through reception, shaper credits, pauses, port-record bookkeeping and the duplicate-discard table. -/

namespace Sys2Proof.Machine

/-- An Ethernet port. Times of pauses and records are TIM_MONO readings. -/
structure EthPort where
  /-- The frame in transmission and its egress queue. -/
  tx : Option (Nat × Nat)
  /-- A frame under cut-through reception: its forwarded copy, none once that copy is gone. -/
  rxCut : Option (Option Nat)
  /-- Head frames of the egress queues that have passed the head checks. -/
  headOk : List Nat
  /-- Credits of the eight credit-based shapers in units of 10^-7 bit, and TIM_MONO in 0.1 ns at which they stood so. -/
  credits : List Int
  creditAt : Nat
  /-- Ends of the pauses in force in 0.1 ns: queues 0 to 7, and the whole port at index 8; and their starts. -/
  pauseEnd : List (Option Nat)
  pauseSince : List (Option Nat)
  /-- By KIND 1 to 3 at index KIND − 1: time of the last port record, and the events suppressed since (R440). -/
  lastRec : List (Option Nat)
  suppressed : List Nat
deriving DecidableEq, Repr, Inhabited

def EthPort.reset : EthPort :=
  ⟨none, none, [], List.replicate 8 0, 0, List.replicate 9 none, List.replicate 9 none, List.replicate 3 none,
    List.replicate 3 0⟩

/-- A port pair: the sequence counter, and the duplicate-discard keys (source address, sequence number), oldest first. -/
structure EthPair where
  seq : Nat
  keys : List (Nat × Nat)
deriving DecidableEq, Repr, Inhabited

def EthPair.reset : EthPair := ⟨0, []⟩

end Sys2Proof.Machine
end

