-- ==== Sys2Proof/Machine/HarState.lean ====
section
/-! DEFINITION. What the harness logic holds beside the HAR_ registers (chapter 02): the slots, the load in progress,
and the units of a re-harness. -/

namespace Sys2Proof.Machine

/-- Where a load takes its image from (R86), with SRC's codes: 0 slot A, 1 slot B, 2 HOST, 3 Pommel, 4 store. -/
inductive LoadSrc where
  | flashA | flashB | host | pommel | store
deriving DecidableEq, Repr

/-- The harness logic beside its registers. -/
structure Har where
  current : Option Image
  staged : Option Image
  /-- The old CURRENT from the instant to the end of switching (R111). -/
  retiring : Option Image
  loading : Option LoadSrc
  /-- Affected units (UIDs) that have reported ready. -/
  ready : List Nat
  /-- Affected units that have not yet switched. -/
  unswitched : List Nat
  /-- Late units of the last commit, in the order counted. -/
  late : List Nat
  /-- Rein group: members that have reported (address, ready), and the decision received. -/
  groupReports : List (Nat × Bool)
  groupDecision : Option Bool
  /-- Time base at the instant, for SWITCH_NS. -/
  instant : Nat
  /-- Harness-store slot that holds CURRENT, 0 or 1 (R111), SRC of the STAGED image, and whether the commit is one of a Rein group
  (R121). -/
  slot : Nat
  stagedSrc : Nat
  group : Bool
  /-- Flash slots whose read timed out in this boot (R89). -/
  flashTimeout : List Nat
deriving DecidableEq, Repr, Inhabited

def Har.reset : Har := ⟨none, none, none, none, [], [], [], [], none, 0, 0, 0, false, []⟩

end Sys2Proof.Machine
end

