-- ==== Sys2Proof/Machine/HostState.lean ====
section
/-! DEFINITION. What the host interface holds beside its registers (chapters 14 and 16): command contexts, page commands in
progress, DMA channels, host completion queues, store buckets and the MSI-X structures. -/

namespace Sys2Proof.Machine

/-- A page command in progress: OP 1 GATHER or 2 SCATTER, COUNT, and the next element. -/
structure PageCmd where
  op : Nat
  count : Nat
  next : Nat
deriving DecidableEq, Repr, Inhabited

/-- A descriptor as the DMA descriptor table lays it out. -/
structure DmaDesc where
  type : Nat
  srcSp : Nat
  dstSp : Nat
  irq : Bool
  half : Bool
  full : Bool
  barrier : Bool
  high : Nat
  low : Nat
  len : Nat
  src : Nat
  dst : Nat
  status : Nat
deriving DecidableEq, Repr, Inhabited

/-- A descriptor in progress: its ring index, bytes, elements or frames done, the bytes of an EGRESS frame read so far, and
the code with which it ends once that is known. -/
structure DmaRun where
  desc : DmaDesc
  index : Nat
  done : Nat
  buf : List Byte
  code : Option Nat
deriving DecidableEq, Repr, Inhabited

/-- A DMA channel: the descriptor in progress, its entries in the host completion queue, an end whose status waits for the
queue, and an element that waits for its store bucket. -/
structure DmaCh where
  run : Option DmaRun
  inHcq : Nat
  bucketWait : Bool
deriving DecidableEq, Repr, Inhabited

def DmaCh.reset : DmaCh := ⟨none, 0, false⟩

/-- An entry of a host completion queue (R663): the status record, its host address, the HOST port, and what it reports: a
descriptor of a channel (with its IRQ flag, whether it ends by abort), or the command of a page. -/
inductive HcqSrc where
  | dma (ch : Nat) (irq aborted : Bool)
  | page (t : Nat)
deriving DecidableEq, Repr, Inhabited

structure HcqEntry where
  status : List Byte
  addr : Nat
  port : Nat
  src : HcqSrc
deriving DecidableEq, Repr, Inhabited

/-- A host completion queue: its entries, oldest first, the slot of the oldest, and the writers that wait (R534). -/
structure Hcq where
  entries : List HcqEntry
  head : Nat
  waiting : List HcqEntry
deriving DecidableEq, Repr, Inhabited

/-- A store bucket (R735): its level in units of 1/256000 element and the TIM_MONO at which it stood so. A bucket starts full. -/
structure Bucket where
  level : Int
  at_ : Nat
deriving DecidableEq, Repr, Inhabited

def Bucket.full : Bucket := ⟨64 * 256000, 0⟩

/-- The host interface of the package. -/
structure HostIf where
  /-- Pages with a command context, by port × 4096 + page, with the TIM_MONO of the last access. -/
  ctx : List (Nat × Nat)
  cmds : List (Nat × PageCmd)
  /-- The index lists and record windows, as 32-bit words by (port × 4096 + page) × 4096 + offset. -/
  win : List (Nat × Nat)
  /-- DMA channels by die × 32 + channel. -/
  dma : List (Nat × DmaCh)
  hcq : List (Nat × Hcq)
  /-- Store buckets by die × 4096 + tenant, and the default pools by die. -/
  buckets : List (Nat × Bucket)
  pools : List (Nat × Bucket)
  /-- MSI-X table words by port × 8192 + word, and pending vectors by port × 2048 + vector. -/
  msix : List (Nat × Nat)
  msixPend : List Nat
  /-- Interrupt sources that were asserted when their messages were last considered. -/
  asserted : List Nat
deriving DecidableEq, Repr, Inhabited

def HostIf.reset : HostIf := ⟨[], [], [], [], [], [], [], [], [], []⟩

end Sys2Proof.Machine
end

