-- ==== Sys2Proof/Machine/LceState.lean ====
section
/-! DEFINITION. What a lace engine holds beside its registers (chapter 13): the FIFOs, the input value of a held entry,
the divider phase, and the cue that waits for its edge. -/

namespace Sys2Proof.Machine

/-- One lace engine. LCE_ENG_STATUS, LCE_SR, LCE_LOOP, LCE_LOOPDEF, LCE_DIV and the program registers hold the rest. -/
structure LaceEng where
  inF : List Nat
  outF : List Nat
  /-- Input A as sampled when the held entry was chosen. -/
  heldA : Bool
  /-- LACECLK period of the last start, rephase or divider write, and the number of steps since, that one included
  when it was a step. -/
  base : Nat
  steps : Nat
  /-- LOOP_SEL of the program. -/
  loopSel : Nat
  /-- Loaded and not yet started or kept stopped under R609. -/
  loaded : Bool
  /-- The last applied step was a pass through the loop end (R599). -/
  atEnd : Bool
deriving DecidableEq, Repr, Inhabited

def LaceEng.reset : LaceEng := ⟨[], [], false, 0, 0, 0, false, false⟩

end Sys2Proof.Machine
end

