-- ==== Sys2Proof/Machine/PwrState.lean ====
section
/-! DEFINITION. What the always-on domain and the power sequencer hold beside the PWR_, RCV_, POM_ and ARC_ registers
(chapters 01, 17 and 18). -/

namespace Sys2Proof.Machine

/-- Whether the package holds power: on (ACTIVE, TRIM, RETAIN), OFF-WAKE, or OFF. -/
inductive PkgMode where
  | on | offWake | off
deriving DecidableEq, Repr, Inhabited

/-- What the power sequencer is doing: nothing; moving VCORE between ACTIVE and TRIM; draining and then lowering VCORE for RETAIN
(R763); raising VCORE to leave it (R764); draining for OFF-WAKE (R786). -/
inductive PwrPhase where
  | idle | vcore | drain | lower | raise | offDrain
deriving DecidableEq, Repr, Inhabited

/-- What waits under R762: a command code of PWR_CTRL, or a wake. -/
inductive HeldCmd where
  | cmd (c : Nat)
  | wake
deriving DecidableEq, Repr

structure Pwr where
  mode : PkgMode
  phase : PwrPhase
  held : Option HeldCmd
  /-- The VID code that the sequencer steps toward. -/
  target : Nat
  /-- OFF-WAKE was entered by CYCLE, whose timer wakes the package (R786). -/
  cycle : Bool
  /-- The level of PWR_EN. -/
  en : Bool
  /-- Rails awaited after PWR_EN went high (R789, R791), and the rail retries made. -/
  railsWait : Bool
  /-- The rails failed and RAIL_RETRY is due (R789). -/
  retryWait : Bool
  retries : Nat
  /-- The wake follows a power-on reset of VAON (R791); and its start-up run has not ended (R178). -/
  cold : Bool
  startup : Bool
  /-- LAST_WAKE of the wake in progress. -/
  source : Nat
  /-- Domains waiting for one of the four ramps of their die, as (die, domain), oldest first (R770). -/
  rampQ : List (Nat × Nat)
  /-- Domains whose crossings are in reset and not acknowledged (R784, R785). -/
  crossings : List (Nat × Nat)
  /-- Rails below their threshold, as (die, rail code) (R790). -/
  low : List (Nat × Nat)
  /-- Per die: TIM_MONO from which a SENTINEL record may be written again, and the breaks since the last one (R777). -/
  sent : List (Nat × (Nat × Nat))
  /-- Island PLLs out of lock, by die × 8 + island (R782). -/
  unlocked : List Nat
deriving DecidableEq, Repr, Inhabited

/-- After power-on reset: powered, VCORE at 750 mV. -/
def Pwr.reset : Pwr := ⟨.on, .idle, none, 15, false, true, false, false, 0, false, false, 0, [], [], [], [], []⟩

/-- Where a package reset or a rung 4 action stands: none; the last gasp before a package reset or a rung 4; held at step 3 by
RESET_N (R804); waiting for the Vat clear of step 4; waiting for VCORE before step 5; PWR_EN low for RUNG4_MS (R805). -/
inductive PkgPhase where
  | idle | gasp | held | clear | volts | gasp4 | off4
deriving DecidableEq, Repr, Inhabited

/-- A counted action of R801: 0 an engine reset, 1 a cluster reset, 2 a region reset; where (die × 8 + cluster, die × 4 + region);
and AON_MS. -/
structure EscCount where
  kind : Nat
  key : Nat
  time : Nat
deriving DecidableEq, Repr

structure Rcv where
  /-- The always-on oscillator since power-on reset, in ps. -/
  aon : Nat
  pkg : PkgPhase
  /-- RESET_N is low. -/
  resetN : Bool
  /-- A rung 4 is in progress (R814). -/
  rung4 : Bool
  counts : List EscCount
  /-- AON_MS of the counted package resets. -/
  resets : List Nat
  /-- FAULT records: by die × 16 + class, AON_MS from which the next may be written and the occurrences suppressed. -/
  recs : List (Nat × (Nat × Nat))
  /-- Per die: AON_MS of the first latch, UID and class of the last latched class. -/
  first : List (Nat × Nat)
  lastUid : List (Nat × Nat)
  lastClass : List (Nat × Nat)
  /-- IMAGE_ID and signature of the image before a package reset (R808). -/
  before : Option (Nat × List Byte)
  /-- TEMP_CRIT active, by die. -/
  hot : List Nat
  /-- Copies of domain-48 fields that the Pommel status block reports in OFF-WAKE: bytes 1, 2, 7, 8 and 9 (R797, R818). -/
  copies : List Nat
  /-- Dies with a temperature reading since ELX_TEMP_MAX was read (R887). -/
  temps : List Nat
  /-- The image bytes that a Pommel load has delivered, by LENGTH (R819). -/
  pomLen : Nat
deriving DecidableEq, Repr, Inhabited

def Rcv.reset : Rcv := ⟨0, .idle, false, false, [], [], [], [], [], [], none, [], [], [], 0⟩

/-- The latency bound's logic (R58 to R60): dies with a completed window, the pace that BOUND_NS assumes, and the lowest pace of
the hold that runs. -/
structure Arc where
  done : List Nat
  pace : Nat
  hold : Option Nat
deriving DecidableEq, Repr, Inhabited

def Arc.reset : Arc := ⟨[], 0, none⟩

end Sys2Proof.Machine
end

