-- ==== Sys2Proof/Machine/RecState.lean ====
section
/-! DEFINITION. What the event recorder holds beside its registers (chapter 15): records, buffer blocks, pending
losses, archive segments and outstanding segment writes, and the last gasp. -/

namespace Sys2Proof.Machine

/-- A record (R678): the header fields and the bytes from 16 on, padding and FC-1 trailer included. -/
structure Rec where
  seq : Nat
  cls : Nat
  flags : Nat
  source : Nat
  tenant : Nat
  body : List Byte
deriving DecidableEq, Repr, Inhabited

/-- A 4 KiB buffer block (R683): its records, oldest first, the bytes used, and its state as the recorder index
gives it (0 free, 1 filling, 2 closed, 3 flushed); `noArchive` marks a closed block that counts as free although a
partition exists (closed before the instant that gained the partition, R901). -/
structure RBlock where
  recs : List Rec
  used : Nat
  state : Nat
  noArchive : Bool
deriving DecidableEq, Repr, Inhabited

/-- The pending loss of a class (R686). -/
structure Loss where
  count : Nat
  first : Nat
  last : Nat
  time : Nat
  cause : Nat
deriving DecidableEq, Repr, Inhabited

/-- An archive segment (R693): where it starts in the partition, its header fields and its records. -/
structure Seg where
  block : Nat
  nblocks : Nat
  firstSeq : Nat
  lastSeq : Nat
  gen : Nat
  sflags : Nat
  closeTime : Nat
  chain : List Byte
  sig : List Byte
  recs : List Rec
deriving DecidableEq, Repr, Inhabited

/-- An outstanding Write of a segment: its tag, the buffer blocks it carries and the attempts made (R695). -/
structure SegWrite where
  tag : Nat
  seg : Seg
  bufBlocks : List Nat
  tries : Nat
deriving DecidableEq, Repr, Inhabited

/-- The recorder of one die beside its registers. -/
structure RecDie where
  blocks : List (Nat × RBlock)
  losses : List (Nat × Loss)
  segs : List Seg
  writes : List SegWrite
  nextTag : Nat
  chain : List Byte
  part : Option RecPart
  /-- The recorder still flushes to a partition that a re-harness removed (R901). -/
  oldPart : Option RecPart
  /-- The partition's headers carry another SERIAL (R698). -/
  foreign : Bool
  /-- The partition's wrap generation (R696); ERC_ARC_POS.GEN shows its low 16 bits. -/
  gen : Nat
deriving DecidableEq, Repr, Inhabited

def RecDie.reset : RecDie := ⟨[], [], [], [], 0, List.replicate 48 0, none, none, false, 0⟩

/-- The package's part of the recorder: the last gasp, its flash region, and the clear nonce. -/
structure RecPkg where
  gaspCause : Nat
  gaspTrigger : Nat
  gaspTarget : Nat
  gaspFlash : List Rec
  nonce : Nat
  nonceValid : Bool
  /-- R705 has run since power-on reset or wake. -/
  continued : Bool
deriving DecidableEq, Repr, Inhabited

def RecPkg.reset : RecPkg := ⟨0, 0, 0, [], 0, false, false⟩

end Sys2Proof.Machine
end

