-- ==== Sys2Proof/Machine/ReinState.lean ====
section
/-! DEFINITION. What the welt links and the Rein hold beside the WLT_ and REI_ registers (chapter 19). -/

namespace Sys2Proof.Machine

/-- One end of a welt link: the sequence number it expects next, the failed replays of the packet in hand, TIM_MONO of its
retrains, and the transactions that wait for a credit. -/
structure WeltEnd where
  expect : Nat
  fails : Nat
  retrains : List Nat
  waiting : Nat
deriving DecidableEq, Repr, Inhabited

def WeltEnd.reset : WeltEnd := ⟨0, 0, [], 0⟩

/-- A Rein message (R836) without its check sequence. -/
structure ReinMsg where
  kind : Nat
  dst : Nat
  src : Nat
  payload : List Byte
deriving DecidableEq, Repr, Inhabited

/-- The Rein of the package: the replay buffers of the upstream and downstream ports (the messages last sent, at most 32 each), the
departure stamp of a TIME_SYNC without an answer, the target of the management transaction in progress, the sides on which a
link is broken (R841), and per die TIM_MONO of the last time message and the steering of its replica in 1/256 ppb (R832). -/
structure ReinSt where
  up : List ReinMsg
  down : List ReinMsg
  syncAt : Option Nat
  mgmtTo : Option Nat
  brokenUp : Bool
  brokenDown : Bool
  timeAt : List (Nat × Nat)
  steer : List (Nat × Int)
deriving DecidableEq, Repr, Inhabited

def ReinSt.reset : ReinSt := ⟨[], [], none, none, false, false, [], []⟩

end Sys2Proof.Machine
end

