-- ==== Sys2Proof/Machine/SerState.lean ====
section
/-! DEFINITION. What a serial port holds beside its registers (chapter 09): the transmit FIFO and exclusive buffers, the
frame in transmission, inversion episodes, detection, TTCAN and record bookkeeping. -/

namespace Sys2Proof.Machine

/-- A serial port. -/
structure SerPort where
  /-- The transmit FIFO, head first, and the exclusive buffers as (n, frame). -/
  fifo : List Nat
  excl : List (Nat × Nat)
  /-- The frame in transmission; true for one of an exclusive buffer. -/
  tx : Option (Nat × Bool)
  /-- TIM_MONO at which the inversion episode in progress started, and whether it has reached INV_LIMIT_US. -/
  invSince : Option Nat
  invLong : Bool
  /-- The bus-off recovery sequence runs. -/
  recovering : Bool
  /-- BRP − 1 of a detected rate in force. -/
  brp : Option Nat
  /-- F_code of the last MVB master frame. -/
  fcode : Nat
  /-- On the even port of a PAIR: the line and the time in 0.1 ns of the last copy delivered. -/
  pairLast : Option (Nat × Nat)
  /-- TTCAN: time base at the reference start of frame, the ARB_END instant of an open arbitrating window, the frames
  started in the cycle as (identifier, IDE), and the current master observed. -/
  ttSof : Nat
  arbEnd : Option Nat
  ttSeen : List (Nat × Bool)
  ttMaster : Option Nat
  /-- By KIND 0x11 to 0x13: TIM_MONO of the last record, and the events suppressed since. -/
  lastRec : List (Option Nat)
  suppressed : List Nat
deriving DecidableEq, Repr, Inhabited

def SerPort.reset : SerPort :=
  ⟨[], [], none, none, false, false, none, 0, none, 0, none, [], none, [none, none, none], [0, 0, 0]⟩

end Sys2Proof.Machine
end

