-- ==== Sys2Proof/Machine/SwcState.lean ====
section
/-! DEFINITION. What the switch core holds beside its registers (chapter 11): frame descriptors, the cell link table,
virtual output queues, output queues, head slots, shaper levels and the leak detector's suspects. -/

namespace Sys2Proof.Machine

/-- A frame descriptor (R508) with the metadata of the Frame metadata table. The frame's bytes lie in its cells in the
Vat (R28, R137). -/
structure Frame where
  /-- A descriptor in use. -/
  live : Bool
  len : Nat
  port : Nat
  kind : Nat
  /-- Arrival stamp, or launch time of a transmit frame. -/
  stamp : Nat
  cls : Nat
  levels : Nat
  pflags : Nat
  hoff : List Nat
  tid : Nat
  tci : Nat
  queue : Nat
  /-- DIE: the receiving die, or the die of the egress port. -/
  die : Nat
  /-- The frame's cells, first cell first. -/
  cells : List Nat
  /-- The tenant charged; none while the cells are of the reception reserve. -/
  charged : Option Nat
  /-- Outputs charged, as (die, output, cells). -/
  outs : List (Nat × Nat × Nat)
  /-- End instant (R407). -/
  endInstant : Nat
  /-- The engine that sent it (die × 64 + engine), for TXDONE. -/
  sender : Option Nat
  /-- The UID of the engine or DMA channel that sent it, the SOURCE of its record (R680). -/
  origin : Nat
  /-- The section index of its binding, and the binding's CAP_CLASS. -/
  binding : Nat
  capClass : Nat
  /-- Pending destinations (at most 2). -/
  dests : Nat
  /-- The binding's class H (R514). -/
  hi : Bool
  /-- Cut-through: bytes not yet written count from here. -/
  written : Nat
  cutThrough : Bool
  /-- A failure found while it was already forwarded (R408). -/
  bad : Bool
  /-- The sequence number of its redundancy trailer or tag (R417, R422). -/
  redSeq : Option Nat
  /-- Sent on its own port alone: a PTP message (R568) or a frame forwarded on a ring (R422). -/
  single : Bool
deriving DecidableEq, Repr, Inhabited

/-- An entry of a virtual output queue (R516). -/
structure VEntry where
  input : Nat
  output : Nat
  hi : Bool
  frame : Nat
deriving DecidableEq, Repr, Inhabited

/-- An entry of the cell link table: in use, the owner (R510), and the tenant charged; none in the reception reserve. -/
structure Cell where
  used : Bool
  owner : Nat
  tid : Option Nat
deriving DecidableEq, Repr, Inhabited

def Cell.free : Cell := ⟨false, 0, none⟩

/-- A head slot of a cluster (R250): the frame, its copied bytes, and the queue it stands in. -/
structure HeadSlot where
  used : Bool
  frame : Nat
  queue : Nat
  bytes : List Byte
  /-- The engine (0 to 7) it is bound to. -/
  bound : Option Nat
deriving DecidableEq, Repr, Inhabited

def HeadSlot.free : HeadSlot := ⟨false, 0, 0, [], none⟩

/-- A tenant shaper's level in units of 1/(256 · 2048000000) byte, in which RATE_KBPS × 2^-16 ns is a whole number, and the instant (in 2^-16 ns of TIM_MONO) at which it stood so (R537). -/
structure Shaper where
  level : Int
  at_ : Nat
deriving DecidableEq, Repr, Inhabited

/-- A suspect of the leak detector (R541): a leaked cell with its owner, or an owner with its count difference. -/
inductive Suspect where
  | cell (c owner : Nat)
  | count (owner : Nat) (diff : Int)
deriving DecidableEq, Repr

end Sys2Proof.Machine
end

