-- ==== Sys2Proof/Machine/TimeState.lean ====
section
/-! DEFINITION. What the time unit holds beside its registers (chapter 12): the servo's integral term and runs, the
pending step, the relock, pulse outputs and CLKOUT. -/

namespace Sys2Proof.Machine

/-- The servo and the package's part of the time unit (die 0). Rates are in 1/256 ppb. -/
structure Servo where
  /-- The integral term I of R891. -/
  integ : Int
  /-- Consecutive measurements within LOCK_NS in ACQUIRE (R557). -/
  runIn : Nat
  /-- Consecutive measurements beyond 4 × LOCK_NS in LOCKED (R557). -/
  runOut : Nat
  /-- TIM_MONO at the last accepted measurement of the selected source; none before the first. -/
  lastAcc : Option Nat
  /-- RATE over the time spent in LOCKED: (duration in ns, RATE), newest first (R558). -/
  rateLog : List (Nat × Int)
  /-- While LOCKED: TIM_MONO at which the present RATE took effect. -/
  rateSince : Nat
  holdRate : Int
  /-- Which of the sources SRC0 to SRC3 are valid. -/
  valid : List Nat
  /-- The accepted step Δ and its instant S (R562). -/
  stepDelta : Int
  stepAt : Nat
  /-- The pending step was applied by the part itself (R560) and leads to ACQUIRE. -/
  autoStep : Bool
  /-- The upstream Rein package reports UNSYNC (R559). -/
  upUnsync : Bool
  /-- The capture inputs of die 0 in FREQ mode that are lost (R576, R581), ascending. -/
  refsLost : List Nat
  /-- UTC offset and leap flags come from the selected PTP master (R570). -/
  utcFromPtp : Bool
deriving DecidableEq, Repr, Inhabited

def Servo.reset : Servo := ⟨0, 0, 0, none, [], 0, 0, [], 0, 0, false, false, [], false⟩

/-- A pulse output (R577, R578): the parameters in force, and the pulse in progress. -/
structure Pulse where
  start : Nat
  period : Nat
  width : Nat
  /-- TIM_MONO at which the pulse in progress ends. -/
  endMono : Option Nat
  /-- A ONCE pulse has fired. -/
  fired : Bool
  /-- Held inactive until this TIM_MONO after a step or a relock (R577). -/
  quietMono : Nat
deriving DecidableEq, Repr, Inhabited

def Pulse.reset : Pulse := ⟨0, 0, 0, none, false, 0⟩

/-- CLKOUT (R580, R583): the frequency code in force and the first rising edge of the new grid while GATED. -/
structure ClkOut where
  freq : Nat
  restartAt : Nat
deriving DecidableEq, Repr, Inhabited

def ClkOut.reset : ClkOut := ⟨0, 0⟩

end Sys2Proof.Machine
end

