-- ==== Sys2Proof/Machine/TteState.lean ====
section
/-! DEFINITION. What a time-triggered group holds beside its registers (chapter 10): buffers, cluster clock, sync
measurements, duplicate keys, the star's branches and record bookkeeping. -/

namespace Sys2Proof.Machine

/-- A time-triggered group. Channel 0 is A, 1 is B; a branch is (channel, branch). -/
structure TtGroup where
  /-- Window buffers as (window, frame), latched contents as (window, frame or none), and the arbitrating queue with the
  channels on which its frames have been sent. -/
  buf : List (Nat × Nat)
  latched : List (Nat × Option Nat)
  arbq : List Nat
  arbSent : List (Nat × Nat)
  /-- Step counters of the channels as (channel, basic cycle, window, counter). -/
  arbStep : List (Nat × Int × Nat × Nat)
  /-- Cluster clock: offset in ns at a time base reading, and the rate correction in ppb from there on (R486, R487). -/
  ofs : Int
  ratePpb : Int
  since : Nat
  /-- Deviations of sync frames as (frame ID, ns): of the present basic cycle and of the one before. -/
  devs : List (Nat × Int)
  prevDevs : List (Nat × Int)
  /-- Sync frames in the double cycle so far, and whether its first cycle has ended. -/
  syncSeen : Nat
  half : Bool
  /-- A correction of the double cycle lay beyond its limit. -/
  offLimit : Bool
  goodRun : Nat
  badRun : Nat
  attempts : Nat
  /-- Keys of frames delivered in the present basic cycle: (basic cycle, window, frame ID). -/
  keys : List (Int × Nat × Nat)
  /-- Active branches, and the branch relayed on each channel. -/
  active : List (Nat × Nat)
  relay : List (Nat × Nat)
  /-- By channel: the time base at which the node's own frame in transmission ends. -/
  sending : List (Nat × Nat)
  /-- Branches that committed a violation in the present basic cycle, and whether the group was unsynchronised in it. -/
  violated : List (Nat × Nat)
  unsynced : Bool
  /-- By (KIND, channel, branch): TIM_MONO of the last Bridle record, and events suppressed since. -/
  recs : List ((Nat × Nat × Nat) × Nat × Nat)
deriving DecidableEq, Repr, Inhabited

def TtGroup.reset : TtGroup :=
  ⟨[], [], [], [], [], 0, 0, 0, [], [], 0, false, false, 0, 0, 0, [], [], [], [], [], false, []⟩

end Sys2Proof.Machine
end

