-- ==== Sys2Proof/Machine/State.lean ====
section
/-! DEFINITION. The state of the concentrator: the queue of waiting commands, the register file, the Vat, and what
the units of chapters 01 to 20 hold beside their registers. Tables are sparse (Machine/Table.lean): an unlisted key
reads as the reset value. -/

namespace Sys2Proof.Machine

/-- What stops the machine. Both are safe: the spec gives such a command no meaning. -/
inductive Fault where
  /-- Raised by a command that names a die at or beyond ARC_CONFIG.DIE_COUNT (R43, R50): no such die exists. Safe. -/
  | noSuchDie
  /-- Raised by a command that names a unit number the spec gives the die no unit for. Safe. -/
  | noSuchUnit
deriving DecidableEq, Repr

/-- Commands without a meaning. -/
inductive Refusal where
  /-- Raised by an arm of `exec` whose command the model does not cover, with its mnemonic. Safe. -/
  | notModelled (mnemonic : String)
deriving DecidableEq, Repr

/-- What the last read or request returned to the one that made it. `ok` is false for a request answered with an
error. -/
structure Resp where
  data : List Nat
  ok : Bool
deriving DecidableEq, Repr, Inhabited

/-- The state of the package. -/
structure State where
  /-- The commands waiting, first in, first out. -/
  pending : List Instr
  /-- The control-space registers, keyed by die × 0x80_0000 + offset (R20, R48). -/
  regs : List (Nat × Word64)
  /-- High words latched by a low-word read (R16, R572, R590), by the same key. -/
  latch : List (Nat × Word32)
  /-- The Vat of every die, keyed by die × 2^24 + Vat offset (R45). -/
  mem : List Host.Cell
  /-- Bit errors of stored 72-bit words: die × 2^21 + word address to a mask, data in bits 63:0, check bits in 71:64
  (R161). A word not listed holds what was written. -/
  errs : List (Nat × Nat)
  /-- Registers of the tenant pages, keyed by (port die × 4096 + page) × 4096 + offset; registers of scope Package
  stand on port die 0. -/
  pages : List (Nat × Word64)
  /-- The model's own counter of free values drawn (log entry 3). -/
  fresh : Nat
  /-- What the last command that reads or requests returned. -/
  resp : Resp
  har : Har
  servo : Servo
  /-- The 48 fraction bits of each die's time base below the nanosecond (R546), by die. -/
  frac : List (Nat × Nat)
  /-- The same for TIM_MONO. -/
  monoFrac : List (Nat × Nat)
  /-- Pulse outputs, by die × 4 + output. -/
  pulses : List (Nat × Pulse)
  clkout : ClkOut
  recD : List (Nat × RecDie)
  recP : RecPkg
  /-- Factory and user calibration values by `calKey` (R127). -/
  calFact : List (Nat × Int)
  calUser : List (Nat × Int)
  /-- Vat banks, by die × 16 + bank. -/
  banks : List (Nat × Bank)
  /-- Skiver entries, by die × 2^17 + slot. -/
  skv : List (Nat × Skv)
  /-- Channels with a waiting RESYNC notice (R895) as die × 64 + channel, and dies that re-arm at the next pass. -/
  resync : List Nat
  rearm : List Nat
  /-- Dies whose next pass is the first after RETAIN, with the time of the return (R241). -/
  skvBack : List (Nat × Nat)
  /-- Fenced writer scopes: UIDs of engines and clusters (R35). -/
  fenced : List Nat
  /-- Released commits in each die's commit queue, oldest first (R201, R532). -/
  commitQ : List (Nat × List Commit)
  /-- BOUND_NS values with the time each came into force, newest first (R62). -/
  boundLog : List (Nat × Nat)
  mirrorQ : List MirrorMsg
  /-- Frame descriptors in use, by die × 2^14 + descriptor (R507). -/
  frames : List (Nat × Frame)
  /-- The cell link table, by die × 2^16 + cell, and the counts of cells per owner, by die × 2^16 + UID (R510). -/
  cells : List (Nat × Cell)
  owners : List (Nat × Nat)
  /-- Cells held and frames dropped per tenant, by die × 4096 + TID (R522, R523). -/
  tenCells : List (Nat × Nat)
  tenDrops : List (Nat × Nat)
  /-- Frames in virtual output queues, per die in order of entry (R516). -/
  voq : List (Nat × List VEntry)
  /-- Grant and accept pointers of the scheduler (R518), by (die × 2 + class) × 128 + output or input. -/
  grantPtr : List (Nat × Nat)
  acceptPtr : List (Nat × Nat)
  /-- Frames that the scheduler has moved to an output, by die × 128 + output, oldest first. -/
  outQ : List (Nat × List Nat)
  /-- Head slots by (die × 8 + cluster) × 16 + slot, and the slots waiting in each cluster queue, oldest first, by
  (die × 8 + cluster) × 4 + queue. -/
  slots : List (Nat × HeadSlot)
  clq : List (Nat × List Nat)
  /-- Tenant shapers by die × 256 + k, and the leak detector's suspects by die. -/
  shapers : List (Nat × Shaper)
  suspects : List (Nat × List Suspect)
  /-- Engines by die × 64 + engine, clusters by die × 8 + cluster. -/
  engs : List (Nat × Eng)
  cls : List (Nat × Cl)
  /-- Instruction words by ((die × 8 + cluster) × 2 + bank) × 2^14 + address, and their errors (1 correctable, 2 not). -/
  imem : List (Nat × Nat)
  imemErr : List (Nat × Nat)
  /-- Scratchpad words by (die × 8 + cluster) × 81920 + word, and their errors. -/
  spad : List (Nat × W16)
  spadErr : List (Nat × Nat)
  /-- Lace engines by die × 16 + engine, and the delayed cue of each die as (action, mask) (R608). -/
  lace : List (Nat × LaceEng)
  cues : List (Nat × Option (Nat × Nat))
  /-- Ethernet ports by die × 8 + port, port pairs by die × 4 + pair. -/
  ethPorts : List (Nat × EthPort)
  ethPairs : List (Nat × EthPair)
  /-- Serial ports by die × 8 + port. -/
  serPorts : List (Nat × SerPort)
  /-- Time-triggered groups by die. -/
  ttGroups : List (Nat × TtGroup)
  host : HostIf
  /-- The power sequencer and the always-on domain. -/
  pwr : Pwr
  rcv : Rcv
  /-- The latency bound's logic. -/
  arc : Arc
  /-- Ends of welt links by die × 4 + link. -/
  welt : List (Nat × WeltEnd)
  rein : ReinSt
deriving DecidableEq, Repr

/-! ## Reset -/

/-- Register values of a die that its fuses, its variant, its number or its pins give, at their offsets in rising order (log entry
133). The package is a TGM-8 with production silicon; its serial number, keys and vendor identification are 0, and REIN_HEAD is
low. -/
def dieStraps (d : Nat) : List (Nat × Nat) :=
  let link (k : Nat) : Nat × Nat := (0x580010 + 16 * k, 32 + 4 * (d ^^^ 2 ^ k))
  let pads : List (Nat × Nat) :=
    if d = 0 then (List.range 6).map (fun i => (0x640284 + 4 * i, 0x102)) ++ (List.range 10).map (fun i => (0x64029C + 4 * i, 0x100))
    else []
  [(0x180000, 0x7A080000)] ++ (if d = 0 then [(0x3C0000, 0x8000)] else []) ++ [(0x580000, 7), link 0, link 1, link 2, (0x600000, 1)] ++
    pads ++ [(0x680000, 0x4E0A0110), (0x680004, 0x271F08 + 16 * d + (if d = 0 then 128 else 0))]

/-- The registers that do not read as their Reset values. -/
def strapRegs : List (Nat × Word64) :=
  (List.range 8).flatMap (fun d => (dieStraps d).map (fun e => (d * 0x800000 + e.1, BitVec.ofNat 64 e.2)))

/-- The package right after power-on reset: every register at its Reset value, memory cleared, the start-up run passed, the boot ROM
about to look for an image (R19, R91, R178, R791; log entry 1). -/
def State.reset : State where
  pending := []
  regs := strapRegs
  latch := []
  mem := []
  errs := []
  pages := []
  fresh := 0
  resp := ⟨[], true⟩
  har := Har.reset
  servo := Servo.reset
  frac := []
  monoFrac := []
  pulses := []
  clkout := ClkOut.reset
  recD := []
  recP := RecPkg.reset
  calFact := []
  calUser := []
  banks := []
  skv := []
  resync := []
  rearm := []
  skvBack := []
  fenced := []
  commitQ := []
  boundLog := [(0xFFFF, 0)]
  mirrorQ := []
  frames := []
  cells := []
  owners := []
  tenCells := []
  tenDrops := []
  voq := []
  grantPtr := []
  acceptPtr := []
  outQ := []
  slots := []
  clq := []
  shapers := []
  suspects := []
  engs := []
  cls := []
  imem := []
  imemErr := []
  spad := []
  spadErr := []
  lace := []
  cues := []
  ethPorts := []
  ethPairs := []
  serPorts := []
  ttGroups := []
  host := HostIf.reset
  pwr := Pwr.reset
  rcv := Rcv.reset
  arc := Arc.reset
  welt := []
  rein := ReinSt.reset

end Sys2Proof.Machine
end

