-- ==== Sys2Proof/Machine/Ops.lean ====
section
/-! DEFINITION. The named operations over registers, memory and the machine's clocks that every meaning is written
with: register fields by name, saturating counters (R13), event bits, Vat bytes (R6), the time base, free values and
calibration values. -/

namespace Sys2Proof.Machine

/-- What a meaning answers. -/
abbrev Res := Host.Outcome State Fault Refusal

/-! ## Registers -/

/-- The key of a register of die `d` (R20). -/
def regKey (d : Nat) (r : Reg) : Nat := d * 0x800000 + r.off

/-- A register's contents; an unlisted register reads as its Reset value. -/
def State.rd (s : State) (d : Nat) (r : Reg) : Word64 := tblGet s.regs r.rst (regKey d r)

def State.wr (s : State) (d : Nat) (r : Reg) (v : Word64) : State :=
  { s with regs := tblSet s.regs r.rst (regKey d r) v }

/-- A field's value. -/
def State.get (s : State) (d : Nat) (f : Field) : Nat := bits (s.rd d f.reg) f.hi f.lo

/-- A field written with the low bits of `x`; the register's other bits stay. -/
def State.put (s : State) (d : Nat) (f : Field) (x : Nat) : State :=
  s.wr d f.reg (putBits (s.rd d f.reg) f.hi f.lo x)

/-- A one-bit field as a truth value. -/
def State.flag (s : State) (d : Nat) (f : Field) : Bool := s.get d f != 0

def State.putFlag (s : State) (d : Nat) (f : Field) (b : Bool) : State := s.put d f (bit b)

/-- Fields of die `d` written in turn. -/
def State.puts (s : State) (d : Nat) (l : List (Field × Nat)) : State := l.foldl (fun a e => a.put d e.1 e.2) s

/-- A counter field increased by `k`, saturating (R13). -/
def State.count (s : State) (d : Nat) (f : Field) (k : Nat) : State :=
  s.put d f (satAdd (f.hi + 1 - f.lo) (s.get d f) k)

/-- Bit `i` of a field set to 1. -/
def State.setBit (s : State) (d : Nat) (f : Field) (i : Nat) : State := s.put d f (s.get d f ||| 2 ^ i)

/-- Bit `i` of a field set to 0. -/
def State.clrBit (s : State) (d : Nat) (f : Field) (i : Nat) : State :=
  s.put d f (s.get d f - (s.get d f &&& 2 ^ i))

def State.getBit (s : State) (d : Nat) (f : Field) (i : Nat) : Bool := (s.get d f).testBit i

/-! ## Dies -/

/-- The die count of the package (R4, ARC_CONFIG.DIE_COUNT). -/
def State.dieCount (s : State) : Nat := s.get 0 F.ARC_CONFIG_DIE_COUNT

/-- The dies of the package. -/
def State.dieList (s : State) : List Nat := List.range s.dieCount

/-- An operation on each die of the package in ascending order. -/
def State.eachDie (s : State) (f : Nat → State → State) : State := s.dieList.foldl (fun a d => f d a) s

/-- Whether the package's domains hold power: not in OFF-WAKE and not in OFF (R758, R787). -/
def State.powered (s : State) : Bool := s.pwr.mode == .on

/-- Whether an island's clock is gated since its PLL lost lock (R782): 0 copper PHY, 1 SerDes, 2 Rein SerDes, 3 PCIe, 4 boot flash. -/
def State.islandGated (s : State) (d island : Nat) : Bool := s.pwr.unlocked.contains (d * 8 + island)

/-- A meaning on a die of the package; a die beyond the die count is a fault. A unit without power takes no part in
anything (R787; log entry 120). -/
def onDie (s : State) (d : Nat) (k : State) : Res :=
  if d < s.dieCount then .next (if s.powered then k else s) else .fault .noSuchDie

/-- A meaning of the package as a whole. -/
def onPkg (s : State) (k : State) : Res := .next (if s.powered then k else s)

/-! ## Free values -/

/-- Draws a free value below `m`: nothing constrains which (log entry 3). -/
def State.freeVal (s : State) (m : Nat) : Nat × State :=
  (Config.freeNat s.fresh % m, { s with fresh := s.fresh + 1 })

/-! ## Time -/

/-- Die `d`'s time base in nanoseconds (R545). -/
def State.now (s : State) (d : Nat) : Nat := (s.rd d R.TIM_NOW).toNat

/-- Die `d`'s TIM_MONO in nanoseconds (R548). -/
def State.mono (s : State) (d : Nat) : Nat := (s.rd d R.TIM_MONO).toNat

/-- The time base's fraction FRAC in units of 2^-16 ns, the upper 16 of the 48 fraction bits (R546). -/
def State.nowFrac (s : State) (d : Nat) : Nat := tblGet s.frac 0 d / 2 ^ 32

/-! ## The Vat's bytes -/

/-- The key of a Vat byte. -/
def vatKey (d off : Nat) : Nat := d * 0x1000000 + off % 0x1000000

/-- The form that the stored bytes keep: keys rising, no byte of 0 listed (log entry 5). -/
def Memory.wf (m : List Host.Cell) : Bool := tblWf 0 m

/-- A Vat byte; a byte that nothing has written reads 0 (R168, R178: the Vat clear). -/
def State.byte (s : State) (d off : Nat) : Byte := tblGet s.mem 0 (vatKey d off)

def State.setByte (s : State) (d off : Nat) (v : Byte) : State :=
  { s with mem := tblSet s.mem 0 (vatKey d off) v }

/-- `n` Vat bytes from an offset. -/
def State.readBytes (s : State) (d off : Nat) : Nat → List Byte
  | 0 => []
  | n + 1 => s.byte d off :: s.readBytes d (off + 1) n

/-- Bytes written to consecutive Vat offsets. -/
def State.writeBytes (s : State) (d off : Nat) : List Byte → State
  | [] => s
  | b :: bs => (s.setByte d off b).writeBytes d (off + 1) bs

/-- A little-endian field of `n` bytes (R6). -/
def State.readLE (s : State) (d off n : Nat) : Nat := leNat (s.readBytes d off n)

def State.writeLE (s : State) (d off n x : Nat) : State := s.writeBytes d off (leBytes n x)

/-! ## Calibration -/

/-- The key of a calibration value: die, item code, instance. -/
def calKey (d item inst : Nat) : Nat := d * 0x1000000 + item * 0x100 + inst

/-- The effective limits of the Calibration items table; the rail thresholds (item 0x21) are not clamped here. -/
def calLimits (item : Nat) : Int × Int :=
  if item = 1 ∨ item = 2 then (0, 2000000)
  else if 3 ≤ item ∧ item ≤ 6 then (0, 100000)
  else if item = 7 then (-50000, 50000)
  else if item = 8 then (-8, 7)
  else if item = 9 then (-5000, 5000)
  else if item = 0x20 ∨ item = 0x23 then (0, 65535)
  else if item = 0x22 then (-512, 511)
  else (-2147483648, 2147483647)

/-- Whether a VIO_F bank is held: its pads are high-impedance and its inputs idle (R872). -/
def State.bankHeld (s : State) (d b : Nat) : Bool := s.flag d (F.ELX_BANK_HELD b)

/-- The count of instances of an item on die `d` (Calibration items); items above 9 have no user value. -/
def calInstances (item d : Nat) : Nat :=
  match item with
  | 1 | 2 | 3 | 4 => 8
  | 5 => 4
  | 6 => if d = 0 then 5 else 4
  | 7 => if d = 0 then 1 else 0
  | 8 => 6
  | 9 => 5
  | 0x20 => 40
  | 0x21 => 9
  | 0x22 => 1
  | 0x23 => 31
  | _ => 0

/-- Factory plus user value, before the limits. -/
def State.calSum (s : State) (d item inst : Nat) : Int :=
  tblGet s.calFact 0 (calKey d item inst) + tblGet s.calUser 0 (calKey d item inst)

/-- The effective value (R127): the sum held within the limits. -/
def State.calEff (s : State) (d item inst : Nat) : Int :=
  clampInt (calLimits item).1 (calLimits item).2 (s.calSum d item inst)

/-- Whether an item's effective value is clamped. -/
def State.calClamped (s : State) (d item inst : Nat) : Bool := s.calEff d item inst != s.calSum d item inst

/-- An instant in units of 2^-16 ns. -/
def State.nowQ16 (s : State) (d : Nat) : Nat := s.now d * 2 ^ 16 + s.nowFrac d

/-- A stamp taken now and corrected by `-ps` picoseconds (R550), in units of 2^-16 ns. -/
def State.stampQ16 (s : State) (d : Nat) (ps : Int) : Nat :=
  ((s.nowQ16 d : Int) - ps * 65536 / 1000).toNat

/-! ## Units -/

/-- A unit identifier (R125): die, type, instance. -/
def uid (d ty i : Nat) : Nat := d * 0x2000 + ty * 0x100 + i

/-! ## The configuration in force -/

/-- The configuration of CURRENT; the empty configuration before a first image. -/
def State.cfg (s : State) : HarnessCfg := (s.har.current.map (·.cfg)).getD default

/-- The configuration that a unit executes: that of the retiring image until the unit switches (R108, R111). -/
def State.cfgOf (s : State) (u : Nat) : HarnessCfg :=
  if u ∈ s.har.unswitched then (s.har.retiring.map (·.cfg)).getD default else s.cfg

end Sys2Proof.Machine
end

