-- ==== Sys2Proof/Machine/RegMapP.lean ====
section
/-! DEFINITION. The registers of a tenant page (chapter 14, Tenant page layout): offsets within the page, Reset
values and fields. The index list, the record window and the notice window are held apart (Machine/HostState.lean). -/

namespace Sys2Proof.Machine

namespace R

def PCI_PG_ID : Reg := ⟨0x000, 0x0⟩
def PCI_PG_EVENT : Reg := ⟨0x004, 0x0⟩
def PCI_PG_IRQ_EN : Reg := ⟨0x008, 0x0⟩
def PCI_PG_CMD : Reg := ⟨0x00C, 0x0⟩
def PCI_PG_CMD_STAT : Reg := ⟨0x010, 0x0⟩
def PCI_PG_NCH_SEL : Reg := ⟨0x020, 0x0⟩
def PCI_PG_NCH_IDX : Reg := ⟨0x024, 0x0⟩
def MBX_PG_TX (i : Nat) : Reg := ⟨0x200 + i * 0x10, 0x0⟩
def MBX_PG_RX (i : Nat) : Reg := ⟨0x204 + i * 0x10, 0x0⟩
def MBX_PG_STAT (i : Nat) : Reg := ⟨0x208 + i * 0x10, 0x0⟩
def MBX_PG_BELL (i : Nat) : Reg := ⟨0x20C + i * 0x10, 0x0⟩
def DMA_PG_BASE (j : Nat) : Reg := ⟨0x300 + j * 0x20, 0x0⟩
def DMA_PG_CTRL (j : Nat) : Reg := ⟨0x308 + j * 0x20, 0x4⟩
def DMA_PG_PI (j : Nat) : Reg := ⟨0x30C + j * 0x20, 0x0⟩
def DMA_PG_CI (j : Nat) : Reg := ⟨0x310 + j * 0x20, 0x0⟩
def DMA_PG_STAT (j : Nat) : Reg := ⟨0x314 + j * 0x20, 0x0⟩
def DMA_PG_CRD (j : Nat) : Reg := ⟨0x318 + j * 0x20, 0x0⟩
def DMA_PG_CWR (j : Nat) : Reg := ⟨0x31C + j * 0x20, 0x0⟩

end R

namespace F

def PCI_PG_ID_TID : Field := ⟨R.PCI_PG_ID, 11, 0⟩
def PCI_PG_ID_ENABLED : Field := ⟨R.PCI_PG_ID, 12, 12⟩
def PCI_PG_EVENT_CMD_DONE : Field := ⟨R.PCI_PG_EVENT, 0, 0⟩
def PCI_PG_EVENT_MBX_IN : Field := ⟨R.PCI_PG_EVENT, 1, 1⟩
def PCI_PG_EVENT_MBX_EMPTY : Field := ⟨R.PCI_PG_EVENT, 2, 2⟩
def PCI_PG_EVENT_DMA_DONE : Field := ⟨R.PCI_PG_EVENT, 3, 3⟩
def PCI_PG_EVENT_DMA_HALF : Field := ⟨R.PCI_PG_EVENT, 4, 4⟩
def PCI_PG_EVENT_DMA_FULL : Field := ⟨R.PCI_PG_EVENT, 5, 5⟩
def PCI_PG_EVENT_NOTICE : Field := ⟨R.PCI_PG_EVENT, 6, 6⟩
def PCI_PG_EVENT_MBX_OVERRUN : Field := ⟨R.PCI_PG_EVENT, 8, 8⟩
def PCI_PG_EVENT_DMA_ERR : Field := ⟨R.PCI_PG_EVENT, 9, 9⟩
def PCI_PG_EVENT_NOCTX : Field := ⟨R.PCI_PG_EVENT, 10, 10⟩
def PCI_PG_EVENT_ACCESS : Field := ⟨R.PCI_PG_EVENT, 11, 11⟩
def PCI_PG_IRQ_EN_EN : Field := ⟨R.PCI_PG_IRQ_EN, 11, 0⟩
def PCI_PG_CMD_OP : Field := ⟨R.PCI_PG_CMD, 1, 0⟩
def PCI_PG_CMD_COUNT : Field := ⟨R.PCI_PG_CMD, 14, 8⟩
def PCI_PG_CMD_STAT_BUSY : Field := ⟨R.PCI_PG_CMD_STAT, 0, 0⟩
def PCI_PG_CMD_STAT_CTX : Field := ⟨R.PCI_PG_CMD_STAT, 1, 1⟩
def PCI_PG_CMD_STAT_RESULT : Field := ⟨R.PCI_PG_CMD_STAT, 3, 2⟩
def PCI_PG_CMD_STAT_DONE : Field := ⟨R.PCI_PG_CMD_STAT, 14, 8⟩
def PCI_PG_NCH_SEL_DIE : Field := ⟨R.PCI_PG_NCH_SEL, 2, 0⟩
def PCI_PG_NCH_SEL_CH : Field := ⟨R.PCI_PG_NCH_SEL, 13, 8⟩
def PCI_PG_NCH_SEL_VALID : Field := ⟨R.PCI_PG_NCH_SEL, 16, 16⟩
def PCI_PG_NCH_IDX_WR : Field := ⟨R.PCI_PG_NCH_IDX, 8, 0⟩
def PCI_PG_NCH_IDX_RD : Field := ⟨R.PCI_PG_NCH_IDX, 24, 16⟩
def PCI_PG_NCH_IDX_FULL : Field := ⟨R.PCI_PG_NCH_IDX, 31, 31⟩
def MBX_PG_TX_WORD (i : Nat) : Field := ⟨R.MBX_PG_TX i, 15, 0⟩
def MBX_PG_RX_WORD (i : Nat) : Field := ⟨R.MBX_PG_RX i, 15, 0⟩
def MBX_PG_RX_VALID (i : Nat) : Field := ⟨R.MBX_PG_RX i, 16, 16⟩
def MBX_PG_STAT_IN_COUNT (i : Nat) : Field := ⟨R.MBX_PG_STAT i, 3, 0⟩
def MBX_PG_STAT_OUT_COUNT (i : Nat) : Field := ⟨R.MBX_PG_STAT i, 7, 4⟩
def MBX_PG_STAT_BOUND (i : Nat) : Field := ⟨R.MBX_PG_STAT i, 8, 8⟩
def MBX_PG_STAT_OVERRUN (i : Nat) : Field := ⟨R.MBX_PG_STAT i, 9, 9⟩
def MBX_PG_STAT_EMPTY (i : Nat) : Field := ⟨R.MBX_PG_STAT i, 10, 10⟩
def MBX_PG_STAT_ARRIVED (i : Nat) : Field := ⟨R.MBX_PG_STAT i, 11, 11⟩
def MBX_PG_BELL_RING (i : Nat) : Field := ⟨R.MBX_PG_BELL i, 0, 0⟩
def DMA_PG_BASE_BASE (j : Nat) : Field := ⟨R.DMA_PG_BASE j, 63, 0⟩
def DMA_PG_CTRL_RING_LOG2 (j : Nat) : Field := ⟨R.DMA_PG_CTRL j, 3, 0⟩
def DMA_PG_CTRL_ENABLE (j : Nat) : Field := ⟨R.DMA_PG_CTRL j, 8, 8⟩
def DMA_PG_CTRL_ABORT (j : Nat) : Field := ⟨R.DMA_PG_CTRL j, 9, 9⟩
def DMA_PG_CTRL_BOUND (j : Nat) : Field := ⟨R.DMA_PG_CTRL j, 10, 10⟩
def DMA_PG_PI_PI (j : Nat) : Field := ⟨R.DMA_PG_PI j, 11, 0⟩
def DMA_PG_CI_CI (j : Nat) : Field := ⟨R.DMA_PG_CI j, 11, 0⟩
def DMA_PG_STAT_STATE (j : Nat) : Field := ⟨R.DMA_PG_STAT j, 2, 0⟩
def DMA_PG_STAT_CODE (j : Nat) : Field := ⟨R.DMA_PG_STAT j, 7, 4⟩
def DMA_PG_STAT_DONE (j : Nat) : Field := ⟨R.DMA_PG_STAT j, 8, 8⟩
def DMA_PG_STAT_HALF (j : Nat) : Field := ⟨R.DMA_PG_STAT j, 9, 9⟩
def DMA_PG_STAT_FULL (j : Nat) : Field := ⟨R.DMA_PG_STAT j, 10, 10⟩
def DMA_PG_STAT_ERR (j : Nat) : Field := ⟨R.DMA_PG_STAT j, 11, 11⟩
def DMA_PG_CRD_RD (j : Nat) : Field := ⟨R.DMA_PG_CRD j, 23, 0⟩
def DMA_PG_CWR_WR (j : Nat) : Field := ⟨R.DMA_PG_CWR j, 23, 0⟩

end F

/-- The page registers with their layout and access codes. -/
def descPage : List RegDesc :=
  [ ⟨0x000, [], false, false, 0x0, [⟨11, 0, .ro⟩, ⟨12, 12, .ro⟩]⟩,
    ⟨0x004, [], false, false, 0x0, [⟨0, 0, .w1c⟩, ⟨1, 1, .w1c⟩, ⟨2, 2, .w1c⟩, ⟨3, 3, .w1c⟩, ⟨4, 4, .w1c⟩, ⟨5, 5, .w1c⟩, ⟨6, 6, .w1c⟩, ⟨8, 8, .w1c⟩, ⟨9, 9, .w1c⟩, ⟨10, 10, .w1c⟩, ⟨11, 11, .w1c⟩]⟩,
    ⟨0x008, [], false, false, 0x0, [⟨11, 0, .rw⟩]⟩,
    ⟨0x00C, [], false, false, 0x0, [⟨1, 0, .wo⟩, ⟨14, 8, .wo⟩]⟩,
    ⟨0x010, [], false, false, 0x0, [⟨0, 0, .ro⟩, ⟨1, 1, .ro⟩, ⟨3, 2, .ro⟩, ⟨14, 8, .ro⟩]⟩,
    ⟨0x020, [], false, false, 0x0, [⟨2, 0, .rw⟩, ⟨13, 8, .rw⟩, ⟨16, 16, .ro⟩]⟩,
    ⟨0x024, [], false, false, 0x0, [⟨8, 0, .ro⟩, ⟨24, 16, .rw⟩, ⟨31, 31, .ro⟩]⟩,
    ⟨0x200, [(16, 0x10)], false, false, 0x0, [⟨15, 0, .wo⟩]⟩,
    ⟨0x204, [(16, 0x10)], false, false, 0x0, [⟨15, 0, .rc⟩, ⟨16, 16, .rc⟩]⟩,
    ⟨0x208, [(16, 0x10)], false, false, 0x0, [⟨3, 0, .ro⟩, ⟨7, 4, .ro⟩, ⟨8, 8, .ro⟩, ⟨9, 9, .w1c⟩, ⟨10, 10, .w1c⟩, ⟨11, 11, .w1c⟩]⟩,
    ⟨0x20C, [(16, 0x10)], false, false, 0x0, [⟨0, 0, .wo⟩]⟩,
    ⟨0x300, [(8, 0x20)], true, false, 0x0, [⟨63, 0, .rw⟩]⟩,
    ⟨0x308, [(8, 0x20)], false, false, 0x4, [⟨3, 0, .rw⟩, ⟨8, 8, .rw⟩, ⟨9, 9, .w1s⟩, ⟨10, 10, .ro⟩]⟩,
    ⟨0x30C, [(8, 0x20)], false, false, 0x0, [⟨11, 0, .rw⟩]⟩,
    ⟨0x310, [(8, 0x20)], false, false, 0x0, [⟨11, 0, .ro⟩]⟩,
    ⟨0x314, [(8, 0x20)], false, false, 0x0, [⟨2, 0, .ro⟩, ⟨7, 4, .ro⟩, ⟨8, 8, .w1c⟩, ⟨9, 9, .w1c⟩, ⟨10, 10, .w1c⟩, ⟨11, 11, .w1c⟩]⟩,
    ⟨0x318, [(8, 0x20)], false, false, 0x0, [⟨23, 0, .rw⟩]⟩,
    ⟨0x31C, [(8, 0x20)], false, false, 0x0, [⟨23, 0, .ro⟩]⟩ ]

end Sys2Proof.Machine
end

