-- ==== Sys2Proof/Machine/VatOps.lean ====
section
/-! DEFINITION. The shared operations of the Vat (chapter 03): the SECDED code, checked reads and writes, region
checks, and the staleness that every bank read port computes (R142, R211). -/

namespace Sys2Proof.Machine

/-! ## The SECDED code (R889) -/

/-- The number of one bits of an 8-bit value. -/
def weight8 (x : Nat) : Nat := ((List.range 8).filter (fun i => x.testBit i)).length

/-- The 8-bit values of weight 3 in ascending order. -/
def weight3 : List Nat := (List.range 256).filter (fun x => weight8 x == 3)

/-- The column of bit `i` of the 72-bit word: data bits 0 to 63, check bits 64 to 71. -/
def eccColumn (i : Nat) : Nat :=
  if i < 56 then weight3.getD i 0
  else if i < 64 then [0x1F, 0x2F, 0x37, 0x3B, 0x3D, 0x3E, 0x4F, 0x57].getD (i - 56) 0
  else 2 ^ (i - 64)

/-- The syndrome of an error mask: the XOR of the columns of its bits. -/
def eccSyndrome (mask : Nat) : Nat :=
  (List.range 72).foldl (fun a i => if mask.testBit i then a ^^^ eccColumn i else a) 0

/-- The bit whose column a syndrome equals. -/
def eccBit (syn : Nat) : Option Nat := firstIdx (fun i => eccColumn i == syn) (List.range 72)

/-- What a read of a word delivers (R889): no error, a corrected single-bit error, or an uncorrectable one. -/
inductive EccOutcome where
  | clean
  | corrected
  | uncorrectable
deriving DecidableEq, Repr

/-- Decodes an error mask: the outcome, the syndrome, and the mask of what remains in the data delivered. -/
def eccDecode (mask : Nat) : EccOutcome × Nat × Nat :=
  let syn := eccSyndrome mask
  if syn = 0 then (.clean, 0, mask % 2 ^ 64)
  else match eccBit syn with
    | some i => (.corrected, syn, (mask ^^^ 2 ^ i) % 2 ^ 64)
    | none => (.uncorrectable, syn, mask % 2 ^ 64)

/-- The key of the word that holds a Vat offset. -/
def wordKey (d off : Nat) : Nat := d * 0x200000 + off % 0x1000000 / 8

def State.wordErr (s : State) (d off : Nat) : Nat := tblGet s.errs 0 (wordKey d off)
def State.setWordErr (s : State) (d off m : Nat) : State :=
  { s with errs := tblSet s.errs 0 (wordKey d off) m }

/-- The bank of a Vat offset (R133) and the line index within it. -/
def bankOf (off : Nat) : Nat := off / 64 % 16
def lineIdx (off : Nat) : Nat := off / 1024 % 16384
/-- The Vat offset of line `i` of bank `b`. -/
def lineOff (b i : Nat) : Nat := i * 1024 + b * 64

def State.bank (s : State) (d b : Nat) : Bank := tblGet s.banks Bank.reset (d * 16 + b)
def State.setBank (s : State) (d b : Nat) (k : Bank) : State :=
  { s with banks := tblSet s.banks Bank.reset (d * 16 + b) k }

/-- A corrected error: counted, logged, and its line queued for a scrub write (R162). -/
def State.eccCe (s : State) (d off syn : Nat) : State :=
  let b := bankOf off
  let s := (s.count d (F.VAT_CE_CNT_COUNT b) 1).putFlag d F.VAT_EVENT_CE true
  let s := (s.put d F.VAT_ECC_CE_LOG_ADDR (off % 0x1000000 / 8)).put d F.VAT_ECC_CE_LOG_SYNDROME syn
  let k := s.bank d b
  s.setBank d b { k with maint := k.maint ++ [off % 0x1000000 / 64 * 64] }

/-- An uncorrectable error: counted and captured unless a capture is held (R163). -/
def State.eccUe (s : State) (d off syn source : Nat) : State :=
  let s := (s.count d (F.VAT_UE_CNT_COUNT (bankOf off)) 1).putFlag d F.VAT_EVENT_UE true
  if s.flag d F.VAT_ECC_UE_LOG_VALID then s.putFlag d F.VAT_ECC_UE_LOG_MORE true
  else
    let s := (s.put d F.VAT_ECC_UE_LOG_ADDR (off % 0x1000000 / 8)).put d F.VAT_ECC_UE_LOG_SYNDROME syn
    (s.put d F.VAT_ECC_UE_LOG_SOURCE source).putFlag d F.VAT_ECC_UE_LOG_VALID true

/-- The effects of reading one word: whether it was uncorrectable, and the state after. -/
def State.eccWord (s : State) (d off source : Nat) : Bool × State :=
  let m := s.wordErr d off
  if m = 0 then (false, s)
  else
    let r := eccDecode m
    match r.1 with
    | .clean => (false, s)
    | .corrected => (false, s.eccCe d off r.2.1)
    | .uncorrectable => (true, s.eccUe d off r.2.1 source)

/-- The effects of reading the words from word offset `w` on, `n` of them. -/
def State.eccWords (s : State) (d w source : Nat) : Nat → Bool × State
  | 0 => (false, s)
  | n + 1 =>
    let r := s.eccWord d w source
    let q := r.2.eccWords d (w + 8) source n
    (r.1 || q.1, q.2)

/-- The words that `n` bytes from an offset cover. -/
def wordsCovered (off n : Nat) : Nat := if n = 0 then 0 else (off + n - 1) / 8 - off / 8 + 1

/-- A byte as a read delivers it: the stored byte with what ECC leaves uncorrected. -/
def State.eccByte (s : State) (d off : Nat) : Byte :=
  let m := s.wordErr d off
  if m = 0 then s.byte d off
  else s.byte d off ^^^ BitVec.ofNat 8 ((eccDecode m).2.2 / 2 ^ (8 * (off % 8)))

def State.eccBytes (s : State) (d off : Nat) : Nat → List Byte
  | 0 => []
  | n + 1 => s.eccByte d off :: s.eccBytes d (off + 1) n

/-- A checked read of `n` bytes by a reader: the bytes, whether a word was uncorrectable, and the state after. -/
def State.vatRead (s : State) (d off n source : Nat) : List Byte × Bool × State :=
  let r := s.eccWords d (off / 8 * 8) source (wordsCovered off n)
  (s.eccBytes d off n, r.1, r.2)

/-- The error masks of the words that `n` bytes fill whole, from an offset, cleared: a write stores new check bits. -/
def State.clearErrs (s : State) (d off n : Nat) : State :=
  if s.errs.isEmpty then s
  else
    let lo := wordKey d (ceilDiv off 8 * 8)
    let hi := wordKey d off + (off % 8 + n) / 8
    { s with errs := tblDrop (fun k => decide (lo ≤ k) && decide (k < hi)) s.errs }

/-- Bytes stored with fresh check bits; every word written here is filled whole or read correctly before. -/
def State.vatStore (s : State) (d off : Nat) (bs : List Byte) : State :=
  (s.writeBytes d off bs).clearErrs d off bs.length

/-- Whether bytes fill whole words (R138). -/
def wholeWords (off n : Nat) : Bool := off % 8 == 0 && n % 8 == 0

/-- A write within one line (R138, R890): a WORD_WRITE when it fills whole words, else a MERGE_WRITE, which writes
nothing when a word that it merges is uncorrectable. Answers whether that happened. -/
def State.lineWrite (s : State) (d off source : Nat) (bs : List Byte) : Bool × State :=
  if wholeWords off bs.length then (false, s.vatStore d off bs)
  else
    let r := s.eccWords d (off / 8 * 8) source (wordsCovered off bs.length)
    if r.1 then (true, r.2)
    else (false, (r.2.writeBytes d off bs).clearErrs d (off / 8 * 8) (8 * wordsCovered off bs.length))

/-- The bytes of a transfer that fall in its first line. -/
def firstPart (off n : Nat) : Nat := min n (64 - off % 64)

/-- A write split per line in ascending order (R140); answers whether any part was refused as uncorrectable. -/
def State.vatWrite (s : State) (d off source : Nat) (bs : List Byte) : Nat → Bool × State
  | 0 => (false, s)
  | fuel + 1 =>
    match bs with
    | [] => (false, s)
    | b :: rest =>
      let n := firstPart off (b :: rest).length
      let r := s.lineWrite d off source ((b :: rest).take n)
      let q := r.2.vatWrite d (off + n) source ((b :: rest).drop n) fuel
      (r.1 || q.1, q.2)

/-! ## Staleness in the bank read port (R142, R211) -/

/-- STALE of a deadline at a reading of the home die's time base with a lead. -/
def isStale (now lead deadline : Nat) : Bool :=
  deadline != 0xFFFFFFFFFFFFFFFF && decide (now + lead ≥ deadline)

/-- Whether an offset lies in the datapoint-record area. -/
def inRecords (off : Nat) : Bool := decide (off < 0x400000)

/-- A byte of a read as the bank read port delivers it: bit 1 of byte 28 of each record is STALE. -/
def State.portByte (s : State) (d lead off : Nat) (b : Byte) : Byte :=
  if inRecords off ∧ off % 32 = 28 then
    (b &&& 0xFD#8) ||| BitVec.ofNat 8 (2 * bit (isStale (s.now d) lead (leNat (s.eccBytes d (off - 12) 8))))
  else b

/-- A checked read through the bank read port with a lead (R211, R212). -/
def State.portRead (s : State) (d off n source lead : Nat) : List Byte × Bool × State :=
  let r := s.vatRead d off n source
  (((List.range n).zip r.1).map (fun e => s.portByte d lead (off + e.1) e.2), r.2)

/-! ## Region checks (R152 to R156) -/

/-- Whether an offset lies in the harness store, or in the records or descriptors. -/
def inHarnessStore (off : Nat) : Bool := decide (0x600000 ≤ off) && decide (off < 0xA00000)
def inRecordsOrDesc (off : Nat) : Bool := decide (off < 0x600000)

/-- The check of R154 on line `L` (Vat offset[23:6]) of die `t` by master `m` of die `d`: none when allowed, else
whether it was refused as PROTECTED. VAT_RGN of a die beyond the die count reads 0. -/
def State.regionCheck (s : State) (d m t line : Nat) (write : Bool) : Option Bool :=
  let off := line * 64
  if inHarnessStore off || (write && inRecordsOrDesc off) then some true
  else if (List.range 16).any (fun k =>
      s.flag d (F.VAT_RGN_EN m t k) && decide (s.get d (F.VAT_RGN_BASE m t k) ≤ line) &&
      decide (line ≤ s.get d (F.VAT_RGN_LIMIT m t k)) &&
      (if write then s.flag d (F.VAT_RGN_WR m t k) else s.flag d (F.VAT_RGN_RD m t k))) then none
  else some false

/-- A refused access counted and logged (R156). -/
def State.vatViolation (s : State) (d m t line : Nat) (write prot : Bool) : State :=
  let s := (s.count d F.VAT_VIOL_CNT_COUNT 1).putFlag d F.VAT_EVENT_VIOL true
  if s.flag d F.VAT_VIOL_LOG_VALID then s
  else
    let s := ((s.put d F.VAT_VIOL_LOG_MASTER m).put d F.VAT_VIOL_LOG_TARGET t).put d F.VAT_VIOL_LOG_LINE line
    ((s.putFlag d F.VAT_VIOL_LOG_WRITE write).putFlag d F.VAT_VIOL_LOG_PROTECTED prot).putFlag d
      F.VAT_VIOL_LOG_VALID true

/-- The lines that `n` bytes from an offset touch. -/
def linesOf (off n : Nat) : List Nat :=
  if n = 0 then [] else (List.range ((off + n - 1) / 64 - off / 64 + 1)).map (fun i => off / 64 + i)

/-- The first line of a transfer that the checks refuse, with the kind of refusal. -/
def State.firstRefused (s : State) (d m t off n : Nat) (write : Bool) : Option (Nat × Bool) :=
  (linesOf off n).findSome? (fun l => (s.regionCheck d m t l write).map (fun p => (l, p)))

/-- A byte-addressed transfer checked whole: allowed, or refused with its violation counted (R153, R156). -/
def State.vatAllowed (s : State) (d m t off n : Nat) (write : Bool) : Bool × State :=
  match s.firstRefused d m t off n write with
  | none => (true, s)
  | some (l, p) => (false, s.vatViolation d m t l write p)

/-! ## Ports of a bank -/

/-- The welt link on which a request from die `s` arrives at die `t` (R824, R825). -/
def arrivalLink (dies s t : Nat) : Nat :=
  let x := s ^^^ t
  if dies = 8 then (if x ≥ 4 then 2 else if x ≥ 2 then 1 else 0)
  else if dies = 4 then x - 1
  else 0

/-- The request port of a bank (R145): the welt link for a request from another die, else its master's port. -/
def bankPort (dies d m t : Nat) : Nat :=
  if d ≠ t then 8 + arrivalLink dies d t
  else if m < 8 then m
  else if m < 41 then 12
  else if m = 41 then 13
  else 11

/-- The SOURCE code of VAT_ECC_UE_LOG for a region-register master. -/
def masterSource (m : Nat) : Nat :=
  if m < 8 then 3 else if m < 40 then 4 else if m = 40 then 5 else if m = 41 then 6 else 2

/-- The lead that a master's request carries (R212). -/
def State.leadOf (s : State) (m : Nat) : Nat :=
  if m < 8 then s.get 0 F.DPT_LEAD_ENG_LEAD_NS
  else if m < 41 then s.get 0 F.DPT_LEAD_HOST_LEAD_NS
  else 0

/-! ## Tenant page registers -/

/-- The key of a page register of port die `p` and page `t`. -/
def pageKey (p t : Nat) (r : Reg) : Nat := (p * 4096 + t) * 4096 + r.off

def State.pget (s : State) (p t : Nat) (f : Field) : Nat :=
  bits (tblGet s.pages f.reg.rst (pageKey p t f.reg)) f.hi f.lo
def State.pput (s : State) (p t : Nat) (f : Field) (x : Nat) : State :=
  let k := pageKey p t f.reg
  { s with pages := tblSet s.pages f.reg.rst k (putBits (tblGet s.pages f.reg.rst k) f.hi f.lo x) }
def State.pflag (s : State) (p t : Nat) (f : Field) : Bool := s.pget p t f != 0
def State.pputFlag (s : State) (p t : Nat) (f : Field) (b : Bool) : State := s.pput p t f (bit b)

/-- The dies whose PCIe port has the HOST role. -/
def State.hostPorts (s : State) : List Nat := s.dieList.filter (fun d => s.get d F.PCI_PORT_CFG_ROLE == 1)

/-- A page event set on every HOST port. -/
def State.pageEvent (s : State) (t : Nat) (f : Field) : State :=
  s.hostPorts.foldl (fun a p => a.pputFlag p t f true) s

end Sys2Proof.Machine
end

