-- ==== Sys2Proof/Machine/DpOps.lean ====
section
/-! DEFINITION. The shared operations of datapoints (chapter 04): records and descriptors, the conversion and checks
of commits, the record update with its Skiver entry and mirror message, substitution, and fence marking. -/

namespace Sys2Proof.Machine

/-! ## Placing (R49 to R52) -/

/-- The home die of a DPI: its home-die bits (R49). -/
def State.homeDie (s : State) (dpi : Nat) : Nat := if s.dieCount = 0 then 0 else dpi / 0x20000 % s.dieCount

/-- The slot within the home die (R49). -/
def dpSlot (dpi : Nat) : Nat := dpi % 0x20000

/-- Whether a DPI obeys R50. -/
def State.dpiOk (s : State) (dpi : Nat) : Bool := decide (dpi < s.dieCount * 0x20000)

/-- The DPI of a slot of a die. -/
def dpiOf (d slot : Nat) : Nat := d * 0x20000 + slot

/-- Vat offsets of a record and of a descriptor (R52). -/
def recOff (slot : Nat) : Nat := 32 * slot
def descOff (slot : Nat) : Nat := 0x400000 + 16 * slot

/-! ## Layouts (R184, R189) -/

def DpRec.parse (bs : List Byte) : DpRec :=
  ⟨leNat (bs.take 8), leNat ((bs.drop 8).take 8), leNat ((bs.drop 16).take 8), leNat ((bs.drop 24).take 4),
    leNat ((bs.drop 28).take 2), leNat ((bs.drop 30).take 2)⟩

def DpRec.bytes (r : DpRec) : List Byte :=
  leBytes 8 r.value ++ leBytes 8 r.srcTime ++ leBytes 8 r.deadline ++ leBytes 4 r.seq ++ leBytes 2 r.quality ++
    leBytes 2 r.owner

def Desc.parse (bs : List Byte) : Desc :=
  let b0 := leNat (bs.take 1)
  let b1 := leNat ((bs.drop 1).take 1)
  let t := leNat ((bs.drop 8).take 2)
  ⟨b0 % 16, b0 / 16 % 4, b0.testBit 6, b0.testBit 7, b1 % 64, b1.testBit 6, b1.testBit 7,
    leNat ((bs.drop 2).take 2), leNat ((bs.drop 4).take 4), t % 4096, t / 4096, leNat ((bs.drop 12).take 4)⟩

/-- Never written: all 32 bytes zero (R185). -/
def DpRec.neverWritten (r : DpRec) : Bool := r == ⟨0, 0, 0, 0, 0, 0⟩

/-- ORIGIN of a quality word (R197). -/
def qOrigin (q : Nat) : Nat := q / 256 % 4

/-- The slot acts as unused (R187). -/
def Desc.unused (c : Desc) : Bool := c.type == 0 || c.type == 15

/-- The descriptor of a slot, whether it reads with an uncorrectable error, and the state after the read. -/
def State.readDesc (s : State) (d slot source : Nat) : Desc × Bool × State :=
  let r := s.vatRead d (descOff slot) 16 source
  (Desc.parse r.1, r.2)

/-- The record of a slot as stored, whether it reads with an uncorrectable error, and the state after the read. -/
def State.readRec (s : State) (d slot source : Nat) : DpRec × Bool × State :=
  let r := s.vatRead d (recOff slot) 32 source
  (DpRec.parse r.1, r.2)

/-! ## Conversion (R187, R188) -/

/-- A signed saturation to `w` bits, sign-extended to 64, and whether it changed the operand. -/
def satSigned (w op : Nat) : Nat × Bool :=
  let v := toSigned 64 op
  let c := clampInt (-(2 ^ (w - 1) : Nat)) ((2 ^ (w - 1) : Nat) - 1) v
  (ofSigned 64 c, c != v)

/-- An unsigned saturation to `w` bits. -/
def satUnsigned (w op : Nat) : Nat × Bool := (min op (2 ^ w - 1), decide (op > 2 ^ w - 1))

/-- The stored VALUE of a 64-bit operand, and whether the conversion sets OVERFLOW. -/
def convertValue (type op : Nat) : Nat × Bool :=
  let op := op % 2 ^ 64
  match type with
  | 1 => (if op = 0 then 0 else 1, false)
  | 2 => (op % 4, decide (op > 3))
  | 3 => satSigned 8 op
  | 4 => satSigned 16 op
  | 5 => satSigned 32 op
  | 7 => satUnsigned 8 op
  | 8 => satUnsigned 16 op
  | 9 => satUnsigned 32 op
  | 0xB => (op % 2 ^ 32, op / 2 ^ 23 % 256 == 255)
  | 0xC => (op, op / 2 ^ 52 % 2048 == 2047)
  | _ => (op, false)

/-! ## Deadlines and quality -/

/-- The deadline base B (R206). -/
def deadlineBase (c : Desc) (srcValid : Bool) (src arr : Nat) : Nat :=
  if c.base ≠ 0 ∨ srcValid = false then arr else min src arr

/-- DEADLINE of an engine commit (R206). -/
def deadlineOf (c : Desc) (srcValid : Bool) (src arr : Nat) : Nat :=
  if c.maxAge = 0 then 0xFFFFFFFFFFFFFFFF
  else min (deadlineBase c srcValid src arr + 1000 * c.maxAge) 0xFFFFFFFFFFFFFFFE

/-- The next update sequence number (R186). -/
def nextSeq (q : Nat) : Nat := if q ≥ 0xFFFFFFFF then 1 else q + 1

/-- A quality word composed under R205 and the Quality word table; STALE and the reserved bits are 0. -/
def mkQuality (q : QOperand) (overflow questionable mixed unsync fenced : Bool) : Nat :=
  bit (q.valid && !q.sourceInvalid) + 4 * bit (q.origin == 1 || q.origin == 2) + 8 * bit (q.overflow || overflow) +
    16 * bit q.sourceInvalid + 32 * bit (q.questionable || questionable) + 64 * bit q.test + 128 * bit q.blocked +
    256 * (q.origin % 4) + 1024 * bit mixed + 2048 * bit unsync + 4096 * bit fenced

/-- The condition of R210 at the issue of a commit on a die. -/
def State.commitUnsync (s : State) (d : Nat) (srcUnsync : Bool) : Bool :=
  srcUnsync || s.flag d F.ARC_SKEW_OUT_OF_LIMIT || s.flag 0 F.TIM_STATUS_UNSYNC

/-- The EPOCH stamped now (R96). -/
def State.epoch (s : State) : Nat := s.get 0 F.HAR_EPOCH_EPOCH

/-! ## Writer scopes (R35, R125, R190) -/

/-- The UID of an engine and of the cluster it belongs to. -/
def engUid (d e : Nat) : Nat := uid d 0 e
def clUid (d c : Nat) : Nat := uid d 1 c
/-- The cluster UID of an engine UID: 8 engines to a cluster. -/
def clusterOfUid (u : Nat) : Nat := u / 0x2000 * 0x2000 + 0x100 + u % 0x100 / 8

/-- Whether an engine is the writer of a descriptor (R190). -/
def writerMatches (c : Desc) (issuer : Nat) : Bool := c.writer == issuer || c.writer == clusterOfUid issuer

/-- Whether an engine's scope is fenced. -/
def State.scopeFenced (s : State) (issuer : Nat) : Bool :=
  s.fenced.contains issuer || s.fenced.contains (clusterOfUid issuer)

/-! ## Skiver entries (R230) -/

def State.skvEntry (s : State) (d slot : Nat) : Skv := tblGet s.skv Skv.reset (d * 0x20000 + slot)

/-- An entry written, with the count of armed entries in DPT_SKV_ARMED. -/
def State.setSkv (s : State) (d slot : Nat) (e : Skv) : State :=
  let old := bit (s.skvEntry d slot).armed
  let n := s.get d F.DPT_SKV_ARMED_ARMED
  let s := { s with skv := tblSet s.skv Skv.reset (d * 0x20000 + slot) e }
  s.put d F.DPT_SKV_ARMED_ARMED (n + bit e.armed - old)

/-- The deadline tick (R230). -/
def skvTick (deadline now : Nat) : Nat := ceilDiv (max deadline now) 4096 % 2 ^ 31

/-- The entry that a record and descriptor give at time `now`. -/
def State.skvOf (s : State) (d : Nat) (c : Desc) (r : DpRec) : Skv :=
  ⟨c.notifyEn && c.maxAge != 0 && qOrigin r.quality != 2 && s.flag d (F.DPT_NCH_CFG_EN c.nch), c.nch,
    skvTick r.deadline (s.now d)⟩

/-! ## Record updates -/

/-- A MIRROR message placed in the outbound queue of 4,096, or dropped and counted (R845). -/
def State.queueMirror (s : State) (m : MirrorMsg) : State :=
  if s.mirrorQ.length < 4096 then { s with mirrorQ := s.mirrorQ ++ [m] }
  else (s.count 0 F.REI_MIRROR_DROP_COUNT 1).putFlag 0 F.REI_EVENT_MIRROR_DROP true

/-- The MIRROR messages of an update: one per outbound range that holds the DPI (R845), and none while unenumerated (R839). -/
def State.mirrorSend (s : State) (dpi : Nat) (c : Desc) (r : DpRec) : State :=
  if s.get 0 F.REI_STATUS_ADDR = 31 then s else s.cfg.rein.mirrors.foldl (fun a m =>
    if m.inbound = false ∧ m.firstDpi ≤ dpi ∧ dpi < m.firstDpi + m.count then
      a.queueMirror ⟨s.get 0 F.ARC_CONFIG_PKG_ADDR, m.peer, m.peerFirst + (dpi - m.firstDpi), c.type, r.bytes⟩
    else a) s

/-- A RECORD_UPDATE with its Skiver entry and mirror messages, readable at once (R205, R230, R894). -/
def State.updateRec (s : State) (d slot : Nat) (c : Desc) (r : DpRec) : State :=
  let s := s.vatStore d (recOff slot) r.bytes
  (s.setSkv d slot (s.skvOf d c r)).mirrorSend (dpiOf d slot) c r

/-- The previous record read for an update: SEQ, QUESTIONABLE and the counts of R205 when it is unreadable. `ok` is
false then. -/
def State.prevRec (s : State) (d slot : Nat) : DpRec × Bool × State :=
  let p := s.readRec d slot 1
  if p.2.1 then
    (p.1, false, (p.2.2.count d F.DPT_SEQ_RESTART_COUNT 1).putFlag d F.DPT_EVENT_SEQ_RESTART true)
  else (p.1, true, p.2.2)

/-- A refusal counted, logged and signalled at the home die (R204). -/
def State.refuseCommit (s : State) (d reason dpi issuer : Nat) (subst : Bool) : State :=
  let s := (s.count d (F.DPT_REFUSE_COUNT reason) 1).putFlag d F.DPT_EVENT_REFUSE true
  if s.flag d F.DPT_REFUSE_LOG_VALID then s
  else
    let s := ((s.put d F.DPT_REFUSE_LOG_DPI dpi).put d F.DPT_REFUSE_LOG_REASON reason).putFlag d
      F.DPT_REFUSE_LOG_SUBST subst
    (s.put d F.DPT_REFUSE_LOG_ISSUER issuer).putFlag d F.DPT_REFUSE_LOG_VALID true

/-- WRITER_FENCED that an update keeps: the record is marked and its writer's scope is still fenced (R229). -/
def State.keepsFence (s : State) (c : Desc) (r : DpRec) : Bool := r.quality.testBit 12 && s.fenced.contains c.writer

/-- The checks of R203 in order on an engine commit: the reason of the first that fails. -/
def commitReason (ok : Bool) (descUe : Bool) (c : Desc) (issuer : Nat) (fencedOut : Bool) (prev : DpRec)
    (prevOk : Bool) : Option Nat :=
  if !ok then some 1
  else if descUe then some 6
  else if c.unused then some 2
  else if !writerMatches c issuer then some 3
  else if fencedOut then some 4
  else if prevOk && qOrigin prev.quality == 2 then some 7
  else none

/-- The largest bound in force since `t` (R62): the log is newest first. -/
def boundSince (t : Nat) : List (Nat × Nat) → Nat
  | [] => 0
  | e :: r => if e.2 ≤ t then e.1 else max e.1 (boundSince t r)

/-- The latency of a headline commit compared with the bound in force (R63). -/
def State.measureLatency (s : State) (d : Nat) (c : Desc) (endInstant : Option Nat) : State :=
  match endInstant with
  | none => s
  | some t =>
    if c.headline ∧ s.flag d F.ARC_LAT_CTRL_MEAS_EN then
      let lat := s.now d - t
      let s := s.put d F.ARC_LAT_MAX_MAX_NS (min 0xFFFF (max lat (s.get d F.ARC_LAT_MAX_MAX_NS)))
      if lat > boundSince t s.boundLog then
        (s.count d F.ARC_LAT_OVER_COUNT 1).putFlag d F.ARC_STATUS_OVER true
      else s
    else s

/-- The record that an accepted engine commit writes (R205 to R208, R210, R229). -/
def State.commitRec (s : State) (c : Desc) (k : Commit) (prev : DpRec) (prevOk : Bool) : DpRec :=
  let v := convertValue c.type k.operand
  let q := { k.q with origin := if k.q.origin = 2 then 1 else k.q.origin }
  ⟨v.1, if k.srcValid then k.srcTime else k.arrival, deadlineOf c k.srcValid k.srcTime k.arrival,
    if prevOk then nextSeq prev.seq else 1,
    mkQuality q v.2 (!prevOk) (k.epoch != s.epoch) k.unsync (prevOk && s.keepsFence c prev),
    c.tid + 4096 * s.epoch⟩

/-- A source time ahead of the arrival time counted on a SOURCE-based datapoint (R207). -/
def State.futureSrc (s : State) (d : Nat) (c : Desc) (srcValid : Bool) (src arr : Nat) : State :=
  if c.base = 0 ∧ srcValid ∧ src > arr then
    (s.count d F.DPT_FUTURE_SRC_COUNT 1).putFlag d F.DPT_EVENT_FUTURE_SRC true
  else s

/-- An accepted commit applied (R205 to R208, R63). -/
def State.applyCommit (s : State) (d slot : Nat) (c : Desc) (k : Commit) : State :=
  let p := s.prevRec d slot
  let s := p.2.2.futureSrc d c k.srcValid k.srcTime k.arrival
  let s := s.updateRec d slot c (s.commitRec c k p.1 p.2.1)
  (s.count d F.DPT_COMMITS_COUNT 1).measureLatency d c k.endInstant

/-- A commit arriving at its home die, checked in the order of R203 and applied or refused: the reason, 0 for none. -/
def State.handleCommit (s : State) (k : Commit) : Nat × State :=
  let d := s.homeDie k.dpi
  let slot := dpSlot k.dpi
  if !s.dpiOk k.dpi then (1, s.refuseCommit d 1 k.dpi k.issuer false)
  else
    let c := s.readDesc d slot 1
    let prev := c.2.2.vatRead d (recOff slot) 32 1
    match commitReason true c.2.1 c.1 k.issuer (s.scopeFenced k.issuer && !k.released) (DpRec.parse prev.1)
        (!prev.2.1) with
    | some r => (r, (if r = 7 then prev.2.2 else c.2.2).refuseCommit d r k.dpi k.issuer false)
    | none => (0, c.2.2.applyCommit d slot c.1 k)

/-! ## Substitution (R203, R209) -/

/-- The checks of R203 on a substitution commit. -/
def substReason (descUe : Bool) (c : Desc) (tid : Nat) : Option Nat :=
  if descUe then some 6
  else if c.unused then some 2
  else if !(c.substEn && (tid == 0 || tid == c.tid)) then some 3
  else none

def substQ (e : ScatterElem) (release : Bool) : QOperand :=
  ⟨!release, e.overflow, false, e.questionable || release, e.test, e.blocked, if release then 0 else 2, e.srcUnsync⟩

/-- The record that a FORCE stores. -/
def State.forceRec (s : State) (d : Nat) (c : Desc) (e : ScatterElem) (prev : DpRec) (prevOk : Bool) : DpRec :=
  let v := convertValue c.type e.operand
  ⟨v.1, if e.srcValid then e.srcTime else s.now d, 0xFFFFFFFFFFFFFFFF, if prevOk then nextSeq prev.seq else 1,
    mkQuality (substQ e false) v.2 (!prevOk) false (s.commitUnsync d e.srcUnsync) (prevOk && s.keepsFence c prev),
    c.tid + 4096 * s.epoch⟩

/-- The record that a RELEASE stores. -/
def State.releaseRec (s : State) (d : Nat) (c : Desc) (e : ScatterElem) (prev : DpRec) (prevOk : Bool) : DpRec :=
  ⟨if prevOk then prev.value else 0, if prevOk then prev.srcTime else s.now d, 0,
    if prevOk then nextSeq prev.seq else 1,
    mkQuality (substQ e true) false true false (s.commitUnsync d e.srcUnsync) (prevOk && s.keepsFence c prev),
    c.tid + 4096 * s.epoch⟩

/-- A substitution commit by a tenant on die `d`: the reason, 0 for none. -/
def State.substitute (s : State) (d tid : Nat) (e : ScatterElem) (release : Bool) : Nat × State :=
  let h := s.homeDie e.dpi
  let slot := dpSlot e.dpi
  if !s.dpiOk e.dpi then (1, s.refuseCommit h 1 e.dpi tid true)
  else
    let c := s.readDesc h slot 1
    match substReason c.2.1 c.1 tid with
    | some r => (r, c.2.2.refuseCommit h r e.dpi tid true)
    | none =>
      let p := c.2.2.prevRec h slot
      let s := if release then p.2.2 else p.2.2.futureSrc h c.1 e.srcValid e.srcTime (p.2.2.now d)
      let r := if release then s.releaseRec d c.1 e p.1 p.2.1 else s.forceRec d c.1 e p.1 p.2.1
      (0, (s.updateRec h slot c.1 r).count h F.DPT_COMMITS_COUNT 1)

/-! ## Fence marking (R227, R228) -/

/-- One record marked: a never-written one is left, an unreadable one keeps its error. -/
def State.fenceRec (s : State) (d slot : Nat) (c : Desc) : State :=
  let p := s.readRec d slot 9
  if p.2.1 ∨ p.1.neverWritten then p.2.2
  else
    let q := p.1.quality ||| 4096
    (p.2.2.updateRec d slot c { p.1 with quality := q }).count d F.DPT_FENCE_CNT_COUNT 1

/-- The slots of die `d` in the range entries whose template names the writer. -/
def State.writerSlots (s : State) (d u : Nat) : List Nat :=
  ((s.cfg.datapoints.ranges.filter (fun r => (Desc.parse r.template).writer == u)).flatMap (fun r =>
    ((List.range r.count).map (· + r.firstDpi)).filter (fun x => s.dpiOk x && s.homeDie x == d))).map dpSlot

/-- Marking on one die of every record whose descriptor names writer `u`. -/
def State.markWriter (s : State) (u d : Nat) : State :=
  let s := ((s.writerSlots d u).eraseDups).foldl (fun a slot =>
    let c := a.readDesc d slot 9
    if c.2.1 = false ∧ c.1.unused = false ∧ c.1.writer = u then c.2.2.fenceRec d slot c.1 else c.2.2) s
  let s := s.put d F.DPT_FENCE_LAST_UID u
  (s.putFlag d F.DPT_FENCE_BUSY true).putFlag d F.DPT_STATUS_FENCE_BUSY true

/-- A scope of writer units fenced: no commit that they release from now on is accepted, and every home die marks
their records (R35, R227). -/
def State.fenceUnits (s : State) (us : List Nat) : State :=
  let new := us.filter (fun u => !s.fenced.contains u)
  let s := { s with fenced := s.fenced ++ new }
  new.foldl (fun a u => a.eachDie (fun d b => b.markWriter u d)) s

/-- The scope has been reloaded (R35, R229). -/
def State.unfenceUnits (s : State) (us : List Nat) : State :=
  { s with fenced := s.fenced.filter (fun u => !us.contains u) }

end Sys2Proof.Machine
end

