-- ==== Sys2Proof/Machine/Crc.lean ====
section
/-! DEFINITION. Cyclic redundancy checks: one bit-serial register, MSB-first or LSB-first, as the CRC presets of the
Awl chapter and the FC-1 trailer (R706) use it. -/

namespace Sys2Proof.Machine

/-- One data bit into a CRC register of `w` bits, MSB-first. -/
def crcBitMsb (w poly : Nat) (reg : Nat) (b : Bool) : Nat :=
  let top := reg.testBit (w - 1) ^^ b
  let sh := (reg * 2) % 2 ^ w
  if top then sh ^^^ poly else sh

/-- One data bit into a CRC register, LSB-first, with the reversed polynomial. -/
def crcBitLsb (rpoly : Nat) (reg : Nat) (b : Bool) : Nat :=
  let low := reg.testBit 0 ^^ b
  let sh := reg / 2
  if low then sh ^^^ rpoly else sh

/-- The bits of a byte, most significant first. -/
def bitsMsb (b : Byte) : List Bool := [7, 6, 5, 4, 3, 2, 1, 0].map (fun i => b.toNat.testBit i)

/-- The bits of a byte, least significant first. -/
def bitsLsb (b : Byte) : List Bool := [0, 1, 2, 3, 4, 5, 6, 7].map (fun i => b.toNat.testBit i)

/-- A CRC register updated by bytes, MSB-first. -/
def crcMsb (w poly reg : Nat) (bs : List Byte) : Nat :=
  bs.foldl (fun a b => (bitsMsb b).foldl (crcBitMsb w poly) a) reg

/-- A CRC register updated by bytes, LSB-first. -/
def crcLsb (rpoly reg : Nat) (bs : List Byte) : Nat :=
  bs.foldl (fun a b => (bitsLsb b).foldl (crcBitLsb rpoly) a) reg

/-- CRC-16-CCITT with initial value 0xFFFF and no final inversion (R706). -/
def crcCcitt (bs : List Byte) : Nat := crcMsb 16 0x1021 0xFFFF bs

end Sys2Proof.Machine
end

