-- ==== Sys2Proof/Machine/RecOps.lean ====
section
/-! DEFINITION. The shared operations of the event recorder (chapter 15): sequencing, storing and losing records,
pending losses, buffer blocks and the indexes in the Vat. Every record that the part writes goes through
`submitRec` or `sysRec`. -/

namespace Sys2Proof.Machine

def State.recDie (s : State) (d : Nat) : RecDie := tblGet s.recD RecDie.reset d
def State.setRecDie (s : State) (d : Nat) (r : RecDie) : State := { s with recD := tblSet s.recD RecDie.reset d r }

def RBlock.empty : RBlock := ⟨[], 0, 0, false⟩
def Loss.none : Loss := ⟨0, 0, 0, 0, 0⟩

def State.rblock (s : State) (d b : Nat) : RBlock := tblGet (s.recDie d).blocks RBlock.empty b
def State.loss (s : State) (d c : Nat) : Loss := tblGet (s.recDie d).losses Loss.none c

/-- A pending loss written back, with its PENDING bit in ERC_STATUS. -/
def State.setLoss (s : State) (d c : Nat) (l : Loss) : State :=
  let s := s.setRecDie d { s.recDie d with losses := tblSet (s.recDie d).losses Loss.none c l }
  if l.count = 0 then s.clrBit d F.ERC_STATUS_PENDING c else s.setBit d F.ERC_STATUS_PENDING c

/-- The record's length in bytes, header included (R678). -/
def Rec.len (r : Rec) : Nat := 16 + r.body.length

/-- The record's bytes (R678). -/
def Rec.bytes (r : Rec) : List Byte :=
  leBytes 8 r.seq ++ leBytes 2 r.len ++ leBytes 1 r.cls ++ leBytes 1 r.flags ++ leBytes 2 r.source ++
    leBytes 2 r.tenant ++ r.body

/-- The partition that the die's records flush to: the one in use or a removed one still being drained (R901). -/
def RecDie.flushPart (r : RecDie) : Option RecPart := r.part <|> r.oldPart

/-- A closed block that is not free (R684). -/
def RecDie.holds (r : RecDie) (b : RBlock) : Bool := b.state == 2 && r.flushPart.isSome && !b.noArchive

/-- The current block's number. -/
def State.curBlock (s : State) (d : Nat) : Nat := s.get d F.ERC_OCC_BLOCK

/-- The occupancy O in bytes (R684). -/
def State.occupancy (s : State) (d : Nat) : Nat :=
  let r := s.recDie d
  ((r.blocks.filter (fun e => r.holds e.2)).length) * 4096 +
    (if (s.rblock d (s.curBlock d)).state = 1 then (s.rblock d (s.curBlock d)).used else 0)

/-- The Class limits table in bytes; `sys` for the recorder's own records (R685). -/
def recLimit (sys : Bool) (c : Nat) : Nat :=
  if sys then 4096 * 1024
  else (match c with
    | 0 => 4080 | 1 => 3568 | 2 => 3328 | 3 => 3072 | 4 => 2816 | 5 => 2560 | 6 => 2304 | _ => 2048) * 1024

/-- Block `b` written back with its entry of the recorder index (at Vat offset 0xF8_0000 + 16b). -/
def State.setRblock (s : State) (d b : Nat) (k : RBlock) : State :=
  let s := s.setRecDie d { s.recDie d with blocks := tblSet (s.recDie d).blocks RBlock.empty b k }
  s.vatStore d (0xF80000 + 16 * b)
    (leBytes 8 ((k.recs.head?.map (·.seq)).getD 0) ++ leBytes 2 k.recs.length ++ leBytes 1 k.state ++ leBytes 5 0)

/-- ERC_OCC.O_KIB brought up to date: whole KiB, rounded up. -/
def State.syncOcc (s : State) (d : Nat) : State := s.put d F.ERC_OCC_O_KIB (ceilDiv (s.occupancy d) 1024)

/-- The current block closed with a filler (R683). -/
def State.closeCur (s : State) (d : Nat) : State :=
  let b := s.curBlock d
  let k := s.rblock d b
  if k.state = 1 then
    (s.setRblock d b { k with used := 4096, state := 2, noArchive := (s.recDie d).flushPart.isNone }).put d
      F.ERC_OCC_BLOCK ((b + 1) % 1024)
  else s

/-- Whether a held snapshot `k` holds a record of the block. -/
def State.snapHolds (s : State) (d k : Nat) (b : RBlock) : Bool :=
  s.flag d (F.ERC_SNAP_HELD k) && b.recs.any (fun r =>
    decide (s.get d (F.ERC_SNAP_FIRST_SEQ k) ≤ r.seq) && decide (r.seq ≤ s.get d (F.ERC_SNAP_LAST_SEQ k)))

/-- A block that only snapshots hold is needed: those snapshots end (R691). -/
def State.endSnaps (s : State) (d : Nat) (b : RBlock) : State :=
  [0, 1, 2, 3].foldl (fun a k =>
    if a.snapHolds d k b then
      ((a.putFlag d (F.ERC_SNAP_HELD k) false).putFlag d (F.ERC_SNAP_ENDED k) true).putFlag d
        F.ERC_EVENT_SNAP_ENDED true
    else a) s

/-- The occupancy after storing `n` more bytes, closing the current block first when they do not fit (R685). -/
def State.occAfter (s : State) (d n : Nat) : Nat :=
  let k := s.rblock d (s.curBlock d)
  if k.state = 1 ∧ k.used + n > 4096 then
    s.occupancy d - k.used + (if (s.recDie d).flushPart.isSome then 4096 else 0) + n
  else s.occupancy d + n

/-- A record stored in ring order (R683). -/
def State.storeRec (s : State) (d : Nat) (r : Rec) : State :=
  let k := s.rblock d (s.curBlock d)
  let s := if k.state = 1 ∧ k.used + r.len > 4096 then s.closeCur d else s
  let b := s.curBlock d
  let k := s.rblock d b
  let s := if k.state = 1 then s.setRblock d b { k with recs := k.recs ++ [r], used := k.used + r.len }
    else (s.endSnaps d k).setRblock d b ⟨[r], r.len, 1, false⟩
  s.syncOcc d

/-- A record that is not stored becomes a lost record of its class (R686, R687). -/
def State.loseRec (s : State) (d : Nat) (sys : Bool) (c seq cause : Nat) : State :=
  let l := s.loss d c
  let s := (s.count d (F.ERC_LOST_COUNT c) 1).putFlag d F.ERC_EVENT_LOSS true
  let s := s.setLoss d c
    (if l.count = 0 then ⟨1, seq, seq, s.now d, cause⟩ else { l with count := l.count + 1, last := seq })
  if c = 0 ∧ sys = false ∧ s.flag d F.ERC_STATUS_C0_OVF = false then
    ((s.putFlag d F.ERC_STATUS_C0_OVF true).putFlag d F.ERC_EVENT_C0_OVF true).putFlag d F.ERC_STATUS_ALARM true
  else s

/-- The count part SEQ[60:0] of a sequence number (R674). -/
def seqCount (q : Nat) : Nat := q % 2 ^ 61

/-- Whether the bound of R677 keeps the die from assigning its next count. -/
def State.heldBack (s : State) (d : Nat) : Bool :=
  (s.recDie d).part.isSome &&
    decide (seqCount (s.get d F.ERC_NEXT_SEQ_SEQ) > seqCount (s.get d F.ERC_FLUSHED_SEQ) + 2 ^ 38)

/-- A submission refused without a SEQ (R677, R896). -/
def State.refuseRec (s : State) (d : Nat) : State :=
  let s := (s.count d F.ERC_REFUSED_COUNT 1).putFlag d F.ERC_EVENT_REFUSED true
  if s.flag d F.ERC_STATUS_RUN && s.heldBack d then s.putFlag d F.ERC_STATUS_HELD_BACK true else s

/-- Whether the die's recorder sequences at all: after R705 and before END (R896, R674), within the bound of R677. -/
def State.sequences (s : State) (d : Nat) : Bool :=
  s.flag d F.ERC_STATUS_RUN && !s.flag d F.ERC_STATUS_END && !s.heldBack d

/-- Zeros that pad `n` bytes to a multiple of 16 (R678). -/
def padTo16 (n : Nat) : List Byte := List.replicate ((16 - n % 16) % 16) 0

/-- The record of a submission with its SEQ: UNSYNC and EPOCH as at sequencing, and the FC-1 trailer in MODE 1
(R678, R706). -/
def State.mkRec (s : State) (d c fmt source tid : Nat) (body : List Byte) : Rec :=
  let padded := body ++ padTo16 body.length
  let fl := fmt % 16 + 16 * s.get d F.ERC_STATUS_FC1 + 32 * s.get 0 F.TIM_STATUS_UNSYNC
  let tn := tid % 4096 + 4096 * s.get 0 F.HAR_EPOCH_EPOCH
  let seq := s.get d F.ERC_NEXT_SEQ_SEQ
  if s.flag d F.ERC_STATUS_FC1 then
    let r : Rec := ⟨seq, c, fl, source, tn, padded ++ List.replicate 16 0⟩
    { r with body := padded ++ List.replicate 14 0 ++ leBytes 2 (crcCcitt (r.bytes.take (r.len - 2))) }
  else ⟨seq, c, fl, source, tn, padded⟩

/-- ERC_NEXT_SEQ after a count is assigned; at count 2^61 − 1 the stream ends (R674). -/
def State.advanceSeq (s : State) (d : Nat) : State :=
  let q := s.get d F.ERC_NEXT_SEQ_SEQ
  if seqCount q = 2 ^ 61 - 1 then
    (s.putFlag d F.ERC_STATUS_END true).putFlag d F.ERC_STATUS_RUN false
  else s.put d F.ERC_NEXT_SEQ_SEQ (q + 1)

/-- Assigns the next SEQ and stores the record or loses it; answers whether it was stored (R675, R685, R686). -/
def State.sequence (s : State) (d : Nat) (sys : Bool) (c fmt source tid : Nat) (body : List Byte) : Bool × State :=
  let r := s.mkRec d c fmt source tid body
  let s := s.advanceSeq d
  if s.occAfter d r.len ≤ recLimit sys c then (true, s.storeRec d r)
  else (false, s.loseRec d sys c r.seq 1)

/-- A submitted record: assigned the next SEQ and stored or lost, or refused (R675, R677, R896). -/
def State.submitRec (s : State) (d c fmt source tid : Nat) (body : List Byte) : State :=
  if s.sequences d then (s.sequence d false c fmt source tid body).2 else s.refuseRec d

/-- A record of the part itself (FMT PART) from block type `ty`; one that is refused is not written. -/
def State.partRec (s : State) (d c ty inst : Nat) (body : List Byte) : State :=
  s.submitRec d c 0 (uid d ty inst) 0 body

/-- One of the recorder's own records (MARK, LOSS, CLEAR, GASP), which use the system limit; nothing when the stream
does not sequence. Answers whether it was stored. -/
def State.sysRec (s : State) (d c fmt : Nat) (body : List Byte) : Bool × State :=
  if s.sequences d then s.sequence d true c fmt (uid d 0x0A 0) 0 body else (false, s)

/-- The LOSS payload (R686). -/
def lossBody (c : Nat) (l : Loss) : List Byte :=
  leBytes 1 c ++ leBytes 1 l.cause ++ leBytes 2 0 ++ leBytes 4 (min l.count 0xFFFFFFFF) ++ leBytes 8 l.first ++
    leBytes 8 l.last ++ leBytes 8 l.time

/-- The pending loss of one class written as a LOSS record; one that does not fit extends the pending loss. -/
def State.writeLoss (s : State) (d c : Nat) : State :=
  if (s.loss d c).count = 0 then s
  else
    let l := s.loss d c
    let r := s.sysRec d c 5 (lossBody c l)
    if r.1 then r.2.setLoss d c Loss.none else r.2

/-- The pending losses written in ascending class; class 0 is left out while C0_OVF is 1 (R686, R687). -/
def State.writeLosses (s : State) (d : Nat) : State :=
  (List.range 8).foldl (fun a c => if c = 0 ∧ a.flag d F.ERC_STATUS_C0_OVF then a else a.writeLoss d c) s

/-- The Time mark payload (R681). -/
def State.markBody (s : State) (d cause prev : Nat) : List Byte :=
  leBytes 1 cause ++ leBytes 1 (s.get 0 F.TIM_STATUS_STATE) ++
    leBytes 1 (s.get 0 F.TIM_STATUS_UNSYNC + 2 * s.get 0 F.TIM_STATUS_RELOCK) ++ leBytes 5 0 ++
    leBytes 8 (s.now d) ++ leBytes 8 (s.mono d) ++ leBytes 8 prev

/-- A MARK record of class 0 (R681). -/
def State.markRec (s : State) (d cause prev : Nat) : State := (s.sysRec d 0 4 (s.markBody d cause prev)).2

end Sys2Proof.Machine
end

