-- ==== Sys2Proof/Machine/AwlBase.lean ====
section
/-! DEFINITION. Reading and writing the engines, clusters and scratchpads, the power domains that hold them, and the
events of an engine (chapter 05). -/

namespace Sys2Proof.Machine

/-! ## Power domains (R753) -/

/-- STATE of domain `n` of die `d`. -/
def State.domState (s : State) (d n : Nat) : Nat := s.get d (F.PWR_DOM_STATE n)
def State.domOn (s : State) (d n : Nat) : Bool := s.domState d n == 2
/-- Fenced, off, retained or powering up: requests are refused until the domain is ON (R766, R770). -/
def State.domDown (s : State) (d n : Nat) : Bool := !s.domOn d n

/-- A refusal at the fence of a domain, counted on the target die (R766). -/
def State.fenceRefused (s : State) (d n : Nat) : State :=
  (s.count d (F.PWR_DOM_REFUSED n) 1).putFlag d F.PWR_EVENT_FENCE_REFUSE true

/-! ## Engines -/

def State.eng (s : State) (d e : Nat) : Eng := tblGet s.engs Eng.power (d * 64 + e)
def State.setEng (s : State) (d e : Nat) (g : Eng) : State :=
  { s with engs := tblSet s.engs Eng.power (d * 64 + e) g }
def State.modEng (s : State) (d e : Nat) (f : Eng → Eng) : State := s.setEng d e (f (s.eng d e))

def State.cl (s : State) (d c : Nat) : Cl := tblGet s.cls Cl.reset (d * 8 + c)
def State.setCl (s : State) (d c : Nat) (k : Cl) : State := { s with cls := tblSet s.cls Cl.reset (d * 8 + c) k }

/-- Whether the engine executes instructions (Engine states table), and is not waiting in a WAIT for the commit queue. -/
def Eng.runs (g : Eng) : Bool := (g.st == .run || g.st == .trap) && !g.cqWait

/-- STATE of AWL_ENG_STATUS. -/
def EngState.code : EngState → Nat
  | .off => 0 | .reset => 1 | .run => 2 | .wait => 3 | .trap => 4

/-- A pulse event latched in EVPEND (R262). -/
def State.raise (s : State) (d e n : Nat) : State :=
  s.modEng d e (fun g => { g with evPend := g.evPend ||| 2 ^ n })

/-- Whether bank `b` of a cluster holds a pack. -/
def Cl.holds (k : Cl) (b : Nat) : Bool := if b = 0 then k.pack0 else k.pack1
def Cl.setHolds (k : Cl) (b : Nat) (v : Bool) : Cl := if b = 0 then { k with pack0 := v } else { k with pack1 := v }

/-! ## Scratchpads (R46, R47, R251) -/

def spadKey (d c w : Nat) : Nat := (d * 8 + c) * 81920 + w
/-- Scratchpad word index of private word `w` of engine `i` of a cluster, and of shared word `w`. -/
def privWord (i w : Nat) : Nat := i * 0x2000 + w
def sharedWord (w : Nat) : Nat := 0x10000 + w

def State.spadGet (s : State) (d c w : Nat) : W16 := tblGet s.spad 0 (spadKey d c w)

/-- A scratchpad word written; its check bits are new. -/
def State.spadSet (s : State) (d c w : Nat) (v : W16) : State :=
  { s with spad := tblSet s.spad 0 (spadKey d c w) v, spadErr := tblSet s.spadErr 0 (spadKey d c w) 0 }

/-- A checked scratchpad load (R254): a correctable word is corrected and written back, an uncorrectable one stays. -/
def State.spadLoad (s : State) (d c w : Nat) : Option W16 × State :=
  let e := tblGet s.spadErr 0 (spadKey d c w)
  if e = 0 then (some (s.spadGet d c w), s)
  else if e = 1 then
    (some (s.spadGet d c w), { s with spadErr := tblSet s.spadErr 0 (spadKey d c w) 0 })
  else (none, s)

/-- Private word `w` of engine `e`. -/
def State.privGet (s : State) (d e w : Nat) : W16 := s.spadGet d (e / 8) (privWord (e % 8) w)

/-! ## Instruction banks -/

def imemKey (d c b a : Nat) : Nat := ((d * 8 + c) * 2 + b) * 16384 + a % 16384

/-- A bank written with a pack's code words, the rest zero. -/
def State.loadBank (s : State) (d c b : Nat) (code : List Nat) : State :=
  let base := ((d * 8 + c) * 2 + b) * 16384
  let drop := fun (k : Nat) => decide (base ≤ k) && decide (k < base + 16384)
  let words := (((List.range code.length).zip code).filter (fun e => e.2 != 0 && decide (e.1 < 16384))).map (fun e => (base + e.1, e.2 % 65536))
  { s with imem := (s.imem.filter (fun e => decide (e.1 < base))) ++ words ++
             (s.imem.filter (fun e => decide (base + 16384 ≤ e.1))),
           imemErr := tblDrop drop s.imemErr }

/-- The instruction word at an engine's program counter. -/
def State.fetch (s : State) (d e : Nat) : W16 :=
  BitVec.ofNat 16 (tblGet s.imem 0 (imemKey d (e / 8) (s.eng d e).bank (s.eng d e).pc))

/-! ## Packs and placement -/

/-- The placement entry of a cluster in a configuration; PACK_ID 0 leaves it without a pack (R356). -/
def placeOf (c : HarnessCfg) (d k : Nat) : Option PlaceEntry :=
  c.placement.find? (fun p => p.die == d && p.cluster == k && p.packId != 0)

/-- The pack section of a placement entry. -/
def packOf (c : HarnessCfg) (p : PlaceEntry) : Option PackSec :=
  c.packs.find? (fun k => k.packId == p.packId && k.version == p.version && k.dieMask.testBit p.die)

/-- Whether a fast entry stands before another: by KEY[63:16], then by ELEM (R372). -/
def fastBefore (a b : StitchEntry) : Bool :=
  decide (a.key / 65536 < b.key / 65536) || (a.key / 65536 == b.key / 65536 && decide (a.elem < b.elem))

def fastInsert (e : StitchEntry) : List StitchEntry → List StitchEntry
  | [] => [e]
  | x :: r => if fastBefore e x then e :: x :: r else x :: fastInsert e r

/-- SKIP entries between the entries of one KEY[63:16] (R372); their other fields are log entry 125's. -/
def fastFill : List StitchEntry → List StitchEntry
  | [] => []
  | a :: r =>
    let gap := match r.head? with
      | some b => if a.key / 65536 = b.key / 65536 then b.elem - a.elem - 1 else 0
      | none => 0
    a :: ((List.range gap).map (fun i => { (default : StitchEntry) with elem := a.elem + 1 + i, mult := 1 }) ++ fastFill r)

/-- The fast entries of a cluster (R360, R372). -/
def fastEntries (c : HarnessCfg) (d k : Nat) : List StitchEntry :=
  (fastFill ((c.stitch.filter (fun e => e.die == d && e.cluster == k && e.fast && !e.outbound)).foldl
    (fun a e => fastInsert e a) [])).take 1023

/-- The four words of a fast entry (R372). -/
def fastWords (e : StitchEntry) : List Nat :=
  [e.dpi % 65536, e.dpi / 65536 % 16 + 16 * (e.enc % 32) + 512 * (e.bitPos % 8) + 4096 * (e.qsrc % 4) + 16384 * (e.tsrc % 4),
    e.elem % 65536, e.mult % 65536]

/-- The fast stitch array of an engine, from private word 0x1000 (R360). -/
def fastArray (p : PlaceEntry) (i : Nat) (es : List StitchEntry) : List Nat :=
  [bit (p.hlEngines.testBit i), es.length, 0, 0] ++ es.flatMap fastWords

/-- Consecutive scratchpad words written. -/
def State.spadWords (s : State) (d c w : Nat) : List Nat → State
  | [] => s
  | x :: xs => (s.spadSet d c w (BitVec.ofNat 16 x)).spadWords d c (w + 1) xs

/-- A range of scratchpad words set to zero. -/
def State.spadZero (s : State) (d c lo n : Nat) : State :=
  let p := fun k => decide (spadKey d c lo ≤ k) && decide (k < spadKey d c lo + n)
  { s with spad := tblDrop p s.spad, spadErr := tblDrop p s.spadErr }

/-- An engine's private scratchpad initialised from its pack's image, zero where the pack declares none, with the fast
stitch array (R291, R360). -/
def State.initPriv (s : State) (c : HarnessCfg) (d e : Nat) : State :=
  let s := s.spadZero d (e / 8) (privWord (e % 8) 0) 0x2000
  match placeOf c d (e / 8) with
  | none => s
  | some p =>
    let s := match packOf c p with
      | some k => s.spadWords d (e / 8) (privWord (e % 8) 0) (k.priv.take 4095)
      | none => s
    s.spadWords d (e / 8) (privWord (e % 8) 0x1000) (fastArray p (e % 8) (fastEntries c d (e / 8)))

/-- The cluster-shared scratchpad initialised from the pack's shared image. -/
def State.initShared (s : State) (c : HarnessCfg) (d k : Nat) : State :=
  let s := s.spadZero d k (sharedWord 0) 0x4000
  match (placeOf c d k).bind (packOf c) with
  | some p => s.spadWords d k (sharedWord 0) (p.shared.take 16384)
  | none => s

/-- The cluster's pack written into a bank; whether the configuration gives it one. -/
def State.writePack (s : State) (c : HarnessCfg) (d k b : Nat) : State :=
  let code := match (placeOf c d k).bind (packOf c) with
    | some p => p.code
    | none => []
  let s := s.loadBank d k b code
  s.setCl d k ((s.cl d k).setHolds b ((placeOf c d k).bind (packOf c)).isSome)

/-! ## Flags word and events -/

def Flags.word (f : Flags) : Nat := bit f.z + 2 * bit f.n + 4 * bit f.c + 8 * bit f.v + 16 * bit f.t
def Flags.ofWord (x : Nat) : Flags := ⟨x.testBit 0, x.testBit 1, x.testBit 2, x.testBit 3, x.testBit 4⟩

/-- FLAGS (R256): flags, stack depths and bank. -/
def Eng.flagsWord (g : Eng) : Nat := g.fl.word + 32 * g.ds.length + 1024 * g.rs.length + 32768 * g.bank

/-- The slots waiting in queue `q` of a cluster. -/
def State.queued (s : State) (d c q : Nat) : List Nat := tblGet s.clq [] ((d * 8 + c) * 4 + q)

/-- EVPEND of an engine with its level events (R262). -/
def State.pendEvents (s : State) (d e : Nat) : Nat :=
  let g := s.eng d e
  let lvl := fun q => if !(s.queued d (e / 8) q).isEmpty && !(g.held && g.rx.isSome) then 2 ^ q else 0
  (lvl 0 + lvl 1 + lvl 2 + lvl 3 + (if g.mbxIn.isEmpty then 0 else 16)) ||| (g.evPend / 32 * 32)

/-- The EPOCH of the configuration that a unit executes (R279). -/
def State.epochOf (s : State) (u : Nat) : Nat :=
  if u ∈ s.har.unswitched then (s.epoch + 15) % 16 else s.epoch

end Sys2Proof.Machine
end

