-- ==== Sys2Proof/Machine/RcvOps.lean ====
section
/-! DEFINITION. Fault classes, recovery and power records, and the accounts of the ladder (chapters 17 and 18): what every unit
that detects a fault or is reset shares. -/

namespace Sys2Proof.Machine

/-- AON_MS: milliseconds since power-on reset on the always-on oscillator (R817). -/
def State.aonMs (s : State) : Nat := s.rcv.aon / 1000000000

/-- A domain's STATE, with the registers that show it (R754, R794). -/
def State.setDom (s : State) (d n st : Nat) : State :=
  let s := s.put d (F.PWR_DOM_STATE n) st
  let s := if st = 2 then s.setBit d F.PWR_DOM_ON_ON n else s.clrBit d F.PWR_DOM_ON_ON n
  if n < 8 then (if st = 0 ∨ st = 3 then s.setBit d F.AWL_STATUS_CL_OFF n else s.clrBit d F.AWL_STATUS_CL_OFF n)
  else if n < 16 then s.putFlag d (F.ETH_PORT_STATUS_FENCED (n - 8)) (st == 3)
  else s

/-! ## Records -/

/-- A power record (R792). -/
def State.powRec (s : State) (d cls kind detail die old count : Nat) : State :=
  s.partRec d cls 0x0E 0 (leBytes 1 kind ++ leBytes 1 detail ++ leBytes 1 die ++ leBytes 1 old ++ leBytes 4 count ++
    leBytes 8 (s.now d) ++ List.replicate 16 0)

/-- A recovery record (R821). -/
def State.rcvRec (s : State) (d cls kind detail trig : Nat) (absorbed : Bool) (u count : Nat) : State :=
  s.partRec d cls 0x0D 0 (leBytes 1 kind ++ leBytes 1 detail ++ leBytes 1 trig ++ leBytes 1 (bit absorbed) ++ leBytes 2 u ++
    leBytes 2 0 ++ leBytes 8 (s.now d) ++ leBytes 4 count ++ List.replicate 12 0)

/-- The FAULT record of an occurrence, at most one per die and class in 1 s of the always-on oscillator (R796). -/
def State.faultRec (s : State) (d c u : Nat) : State :=
  let e := tblGet s.rcv.recs (0, 0) (d * 16 + c)
  let due := decide (e.1 ≤ s.aonMs)
  let next := if due then (s.aonMs + 1000, 0) else (e.1, e.2 + 1)
  let t := { s with rcv := { s.rcv with recs := tblSet s.rcv.recs (0, 0) (d * 16 + c) next } }
  if due then t.rcvRec d 2 0x50 c 2 false u e.2 else t

/-- A COND bit of the recovery guarantee broken: 0 UE, 1 IMAGE, 2 BROWNOUT (R808). -/
def State.breakCond (s : State) (b : Nat) : State :=
  if s.getBit 0 F.RCV_STATUS_COND b then s
  else (s.setBit 0 F.RCV_STATUS_COND b).rcvRec 0 1 0x56 b 2 false 0xFFFF 0

/-- An occurrence of a fault class on a die, with the faulting unit (R796). -/
def State.latchFault (s : State) (d c u : Nat) : State :=
  let r := s.rcv
  let r := if s.get d F.RCV_FAULT_LATCHED = 0 then { r with first := tblSet r.first 0 d s.aonMs } else r
  let r := { r with lastUid := tblSet r.lastUid 0xFFFF d u, lastClass := tblSet r.lastClass 0 d c }
  let s := ({ s with rcv := r }.setBit d F.RCV_FAULT_LATCHED c).putFlag d F.RCV_EVENT_FAULT true
  let s := s.faultRec d c u
  if c = 0 then s.breakCond 0 else s

/-- A Condition class becomes active or inactive on a die (R795, R796). -/
def State.condFault (s : State) (d c u : Nat) (on : Bool) : State :=
  if on = s.getBit d F.RCV_FAULT_ACTIVE c then s
  else if on then (s.setBit d F.RCV_FAULT_ACTIVE c).latchFault d c u
  else s.clrBit d F.RCV_FAULT_ACTIVE c

/-! ## The ladder -/

/-- An action of the ladder taken: the capture in RCV_LOG, LAST_RUNG, and the record of the rung (R821, R823). -/
def State.rungTaken (s : State) (d rung trig cls u : Nat) (absorbed : Bool) : State :=
  let s := s.put 0 F.RCV_STATUS_LAST_RUNG rung
  let s := if s.flag d F.RCV_LOG_VALID then s.putFlag d F.RCV_LOG_MORE true
    else
      let s := ((s.put d F.RCV_LOG_RUNG rung).putFlag d F.RCV_LOG_ABSORBED absorbed).put d F.RCV_LOG_TRIGGER trig
      let s := ((s.putFlag d F.RCV_LOG_VALID true).put d F.RCV_LOG_CLASS (if trig = 2 then cls else 0)).put d F.RCV_LOG_UID u
      s.put d F.RCV_LOG_AON_MS s.aonMs
  s.rcvRec d (if rung = 2 then 2 else 1) (0x4F + rung) 0 trig absorbed u 0

/-- A rung 2 action completed on a die. -/
def State.rung2Done (s : State) (d : Nat) : State := s.putFlag d F.RCV_EVENT_RUNG2 true

/-- The reset of a unit completed: the request of RCV_UNIT_RST that named it, or a smaller scope within it, ends too (R38,
R799). -/
def State.unitResetDone (s : State) (d u : Nat) : State :=
  let r := s.get d F.RCV_UNIT_RST_UID
  let s := s.rung2Done d
  if s.flag d F.RCV_UNIT_RST_GO ∧ (r = u ∨ clusterOfUid r = u) then
    (s.put d F.RCV_UNIT_RST_RESULT 1).putFlag d F.RCV_UNIT_RST_GO false
  else s

/-- Whether ALARM_N is low (R814). -/
def State.alarmLow (s : State) : Bool :=
  s.dieList.any (fun d => s.get d F.RCV_FAULT_LATCHED &&& s.get 0 F.RCV_ALARM_EN != 0) ||
  s.dieList.any (fun d => s.flag d F.ERC_STATUS_ALARM) ||
  (s.flag 0 F.RCV_STATUS_SAFE && s.flag 0 F.RCV_ALARM_SAFE_ALARM) || s.rcv.rung4

end Sys2Proof.Machine
end

