-- ==== Sys2Proof/Machine/LceOps.lean ====
section
/-! DEFINITION. The shared operations of the lace engines (chapter 13): the step, FIFOs, pins, cues, loading and
safe levels. -/

namespace Sys2Proof.Machine

def State.lce (s : State) (d e : Nat) : LaceEng := tblGet s.lace LaceEng.reset (d * 16 + e)
def State.setLce (s : State) (d e : Nat) (x : LaceEng) : State :=
  { s with lace := tblSet s.lace LaceEng.reset (d * 16 + e) x }

def lceState (s : State) (d e : Nat) : Nat := s.get d (F.LCE_ENG_STATUS_STATE e)

/-- STATE of an engine written, with its bits of LCE_STATUS: 0 OFF, 1 EMPTY, 2 STOPPED, 3 RUN, 4 STALLED,
5 WAIT_GROUP, 6 SAFE. -/
def State.setLceState (s : State) (d e st : Nat) : State :=
  let s := s.put d (F.LCE_ENG_STATUS_STATE e) st
  let s := if st = 3 ∨ st = 4 then s.setBit d F.LCE_STATUS_RUN e else s.clrBit d F.LCE_STATUS_RUN e
  if st = 4 then s.setBit d F.LCE_STATUS_STALLED e
  else (((s.clrBit d F.LCE_STATUS_STALLED e).putFlag d (F.LCE_ENG_STATUS_STALL_DRAW e) false).putFlag d
    (F.LCE_ENG_STATUS_STALL_DEPOSIT e) false)

/-! ## Bindings and FIFOs (R593, R604 to R606) -/

/-- The cluster and event engine that a lace engine is bound to. -/
def State.lceBind (s : State) (d e : Nat) : Option (Nat × Nat) :=
  ((s.cfgOf (uid d 5 e)).lace.binds.find? (fun b => b.1 == d && b.2.1 == e)).map (fun b => (b.2.2.1, b.2.2.2))

/-- The LACE event raised on the bound Awl engine. -/
def State.lceEvent (s : State) (d e : Nat) : State :=
  match s.lceBind d e with
  | some (c, g) => if g < 8 then s.raise d (8 * c + g) 11 else s
  | none => s

/-- Whether the engine is the IRIG decoder of a capture input (R604). -/
def State.isIrig (s : State) (d e : Nat) : Bool :=
  s.cfg.time.caps.any (fun c => c.die == d && c.mode == 3 && c.lace == e)

def inThr (s : State) (d e : Nat) : Nat := min 7 (s.get d (F.LCE_FIFO_STAT_IN_THR e))
def outThr (s : State) (d e : Nat) : Nat := max 1 (min 8 (s.get d (F.LCE_FIFO_STAT_OUT_THR e)))

/-- Both FIFOs written back with their counts. -/
def State.setFifos (s : State) (d e : Nat) (i o : List Nat) : State :=
  let s := s.setLce d e { s.lce d e with inF := i, outF := o }
  (s.put d (F.LCE_FIFO_STAT_IN_COUNT e) i.length).put d (F.LCE_FIFO_STAT_OUT_COUNT e) o.length

/-- A word written to LCE_IN_FIFO (R604, R605). -/
def State.lcePush (s : State) (d e w : Nat) : State :=
  let x := s.lce d e
  if x.inF.length < 8 then s.setFifos d e (x.inF ++ [w % 65536]) x.outF
  else (s.putFlag d (F.LCE_FIFO_STAT_IN_OVF e) true).setBit d F.LCE_EVENT_IN_OVF e

/-- A read of LCE_OUT_FIFO (R605): the register's value and the state after. -/
def State.lcePop (s : State) (d e : Nat) : Nat × State :=
  let x := s.lce d e
  if s.isIrig d e then (0, s)
  else match x.outF with
    | [] => (0, s.putFlag d (F.LCE_FIFO_STAT_OUT_EMPTY_READ e) true)
    | w :: r => (w + 65536, s.setFifos d e x.inF r)

/-! ## Pins (R592, R595) -/

/-- The pin that output `o` of an engine maps to. -/
def State.outPin (s : State) (d e o : Nat) : Option Nat :=
  let m := s.get d (F.LCE_OUTMAP_MAP e) / 16 ^ o % 16
  if m ≥ 8 then some (8 * (e / 4) + m % 8) else none

/-- A pin driven to a level by an engine's output; it leaves its safe level. -/
def State.drivePin (s : State) (d p : Nat) (v : Bool) : State :=
  let s := s.putFlag d (F.LCE_PIN_CFG_AT_SAFE p) false
  if v then s.setBit d F.LCE_PIN_OUT_DRIVE p else s.clrBit d F.LCE_PIN_OUT_DRIVE p

/-- A pin put at its safe level: 0 low, 1 high or released, 2 high-impedance, 3 the level present. -/
def State.safePin (s : State) (d p : Nat) : State :=
  if s.get d (F.LCE_PIN_CFG_FUNC p) < 2 then s
  else
    let s := s.putFlag d (F.LCE_PIN_CFG_AT_SAFE p) true
    match s.get d (F.LCE_PIN_CFG_SAFE p) with
    | 1 => s.setBit d F.LCE_PIN_OUT_DRIVE p
    | 3 => s
    | _ => s.clrBit d F.LCE_PIN_OUT_DRIVE p

/-- The output pins of an engine. -/
def State.lcePins (s : State) (d e : Nat) : List Nat := (List.range 8).filterMap (fun o => s.outPin d e o)

/-- The levels at the pins as the part shows them: 0 for UNUSED pins and the pins of a held bank (R872). -/
def State.pinLevels (s : State) (d levels : Nat) : Nat :=
  (List.range 32).foldl (fun a p => if s.get d (F.LCE_PIN_CFG_FUNC p) = 0 ∨ s.bankHeld d (p / 8) then a else a + (levels / 2 ^ p % 2) * 2 ^ p) 0

/-! ## The step (R598, R599) -/

/-- A source of an input slot sampled at a tick (R596). -/
def State.lceInput (s : State) (d e pins caps code : Nat) : Bool :=
  let x := s.lce d e
  if code < 8 then pins.testBit (8 * (e / 4) + code)
  else if code < 16 then (s.get d F.LCE_FLAGS_FLAG).testBit (8 * (e / 4) + (code - 8))
  else match code with
    | 0x10 => (s.get d (F.LCE_SR_FDR e)).testBit 0
    | 0x11 => !x.inF.isEmpty
    | 0x12 => decide (x.outF.length < 8)
    | 0x14 | 0x15 | 0x16 | 0x17 => caps.testBit (code - 0x14)
    | 0x19 => true
    | _ => false

/-- The value of input slot `i`. -/
def State.lceSlot (s : State) (d e pins caps i : Nat) : Bool :=
  s.lceInput d e pins caps (s.get d (F.LCE_INMAP_SLOTS e) / 256 ^ i % 64)

/-- What an engine chose at a tick: the entry's index and the value of input A. -/
def State.lceChoose (s : State) (d e pins caps : Nat) : Nat × Bool :=
  let st := s.get d (F.LCE_ENG_STATUS_CUR e)
  if lceState s d e = 4 then (s.get d (F.LCE_ENG_STATUS_ENTRY e), (s.lce d e).heldA)
  else
    let a := s.lceSlot d e pins caps (s.get d (F.LCE_SEL_SEL_A e st))
    let b := s.lceSlot d e pins caps (s.get d (F.LCE_SEL_SEL_B e st))
    (st * 4 + 2 * bit b + bit a, a)

/-- The outputs that an entry changes, driven on their pins. -/
def State.lceOutputs (s : State) (d e x : Nat) : State :=
  (List.range 8).foldl (fun a o =>
    if x.testBit (14 + o) then
      match a.outPin d e o with
      | some p => a.drivePin d p (x.testBit (6 + o))
      | none => a
    else a) s

/-- The next state of an entry (R598). -/
def lceNext (x st first last : Nat) : Nat :=
  if x.testBit 5 then (if st = last then first else (st + 1) % 32) else x % 32

/-- A stall begins or goes on (R607). -/
def State.lceStall (s : State) (d e idx : Nat) (a draw : Bool) : State :=
  let begins := lceState s d e != 4
  let s := s.setLceState d e 4
  let s := (s.putFlag d (F.LCE_ENG_STATUS_STALL_DRAW e) draw).putFlag d (F.LCE_ENG_STATUS_STALL_DEPOSIT e) (!draw)
  let s := (s.put d (F.LCE_ENG_STATUS_ENTRY e) idx).setLce d e { s.lce d e with heldA := a }
  if begins then (s.count d (F.LCE_STALLS_COUNT e) 1).setBit d F.LCE_EVENT_STALL e else s

/-- INR after a tally. -/
def lceTally (inr code : Nat) (a : Bool) : Nat :=
  match code with
  | 0 => inr
  | 1 => inr * 2 % 65536
  | 2 => (inr * 2 + 1) % 65536
  | _ => (inr * 2 + bit a) % 65536

/-- The intake register, the feed register and the FIFOs after an applied entry, with their threshold events. The word
that an IRIG decoder deposits is taken by the time unit at once (R604). -/
def State.lceShift (s : State) (d e x : Nat) (a : Bool) : State :=
  let g := s.lce d e
  let inr := lceTally (s.get d (F.LCE_SR_INR e)) (x / 2 ^ 24 % 4) a
  let fdr := s.get d (F.LCE_SR_FDR e)
  let fdr := if x.testBit 26 then fdr / 2 else fdr
  let draw := x.testBit 22
  let dep := x.testBit 23
  let outF := if dep && !s.isIrig d e then g.outF ++ [inr] else g.outF
  let s := s.put d (F.LCE_SR_INR e) (if dep then 0 else inr)
  let s := s.put d (F.LCE_SR_FDR e) (if draw then g.inF.headD 0 else fdr)
  let s := s.setFifos d e (if draw then g.inF.drop 1 else g.inF) outF
  let s := if draw && g.inF.length == inThr s d e + 1 then s.lceEvent d e else s
  if dep && outF.length == outThr s d e && outF.length == g.outF.length + 1 then s.lceEvent d e else s

/-- The entry `idx` applied, or the stall that it meets; flags are written apart (R600). -/
def State.lceApply (s : State) (d e idx : Nat) (a : Bool) : State :=
  let x := s.get d (F.LCE_TABLE_ENTRY e idx)
  let g := s.lce d e
  if x.testBit 22 ∧ g.inF = [] then s.lceStall d e idx a true
  else if x.testBit 23 ∧ g.outF.length ≥ 8 then s.lceStall d e idx a false
  else
    let s := (s.setLceState d e 3).lceShift d e x a
    let s := s.lceOutputs d e x
    let st := s.get d (F.LCE_ENG_STATUS_CUR e)
    let l := s.get d (F.LCE_LOOP_SEL e)
    let first := s.get d (F.LCE_LOOPDEF_FIRST e l)
    let last := s.get d (F.LCE_LOOPDEF_LAST e l)
    let s := s.put d (F.LCE_ENG_STATUS_CUR e) (lceNext x st first last)
    let s := s.put d (F.LCE_ENG_STATUS_ENTRY e) idx
    s.setLce d e { s.lce d e with atEnd := st == last, loaded := false }

/-- Whether the entry is applied at this tick, judged before it. -/
def State.lceApplies (s : State) (d e idx : Nat) : Bool :=
  let x := s.get d (F.LCE_TABLE_ENTRY e idx)
  !((x.testBit 22 && (s.lce d e).inF.isEmpty) || (x.testBit 23 && decide ((s.lce d e).outF.length ≥ 8)))

/-- The flag that an entry writes (R598). -/
def State.lceFlag (s : State) (d e idx : Nat) : State :=
  let x := s.get d (F.LCE_TABLE_ENTRY e idx)
  let i := 8 * (e / 4) + x / 2 ^ 27 % 8
  if x.testBit 31 then (if x.testBit 30 then s.setBit d F.LCE_FLAGS_FLAG i else s.clrBit d F.LCE_FLAGS_FLAG i)
  else s

/-- The step ticks of several engines of a die at one LACECLK edge: all sample first, then each acts; the flag writes of
the lowest-numbered engine prevail (R600). -/
def State.lceTicks (s : State) (d : Nat) (es : List Nat) (pins caps : Nat) : State :=
  let lv := s.pinLevels d pins
  let s := s.put d F.LCE_PIN_IN_LEVEL lv
  let caps := if s.bankHeld d 4 then 0 else caps
  let run := es.filter (fun e => lceState s d e == 3 || lceState s d e == 4)
  let ch := run.map (fun e => (e, s.lceChoose d e lv caps))
  let fl := (ch.filter (fun c => s.lceApplies d c.1 c.2.1)).reverse
  let s := ch.foldl (fun a c =>
    let b := a.lceApply d c.1 c.2.1 c.2.2
    b.setLce d c.1 { b.lce d c.1 with steps := (b.lce d c.1).steps + 1 }) s
  fl.foldl (fun a c => a.lceFlag d c.1 c.2.1) s

/-! ## Starting, stopping and loading (R602, R608, R609) -/

/-- The divider in 64ths of a LACECLK period; an integer part of 0 acts as 1.0. -/
def lceDiv (s : State) (d e : Nat) : Nat :=
  let v := s.get d (F.LCE_DIV_DIV e)
  if v < 64 then 64 else v

/-- The LACECLK period in which the next step falls (R602). -/
def State.lceNextTick (s : State) (d e : Nat) : Nat :=
  (s.lce d e).base + (s.lce d e).steps * lceDiv s d e / 64

/-- Step 0 falls at this edge. -/
def State.lcePhase (s : State) (d e : Nat) : State :=
  let t := s.lceNextTick d e
  s.setLce d e { s.lce d e with base := t, steps := 0 }

def State.lceStart (s : State) (d e : Nat) : State := ((s.setLceState d e 3).lcePhase d e)

/-- INIT, INR and FDR 0, the program's LOOP_SEL, and both FIFOs empty. -/
def State.lceInit (s : State) (d e : Nat) : State :=
  let s := s.put d (F.LCE_ENG_STATUS_CUR e) (s.get d (F.LCE_ENG_CFG_INIT e))
  let s := (s.put d (F.LCE_SR_INR e) 0).put d (F.LCE_SR_FDR e) 0
  (s.put d (F.LCE_LOOP_SEL e) (s.lce d e).loopSel).setFifos d e [] []

/-- A cue's action on one engine (R608): 1 START, 2 REPHASE, 3 START_REPHASE, 4 STOP, 5 RESET. -/
def State.cueOne (s : State) (d act e : Nat) : State :=
  let st := lceState s d e
  let run := st == 3 || st == 4
  if st = 0 ∨ st = 1 ∨ st = 5 ∨ st = 6 then s
  else match act with
    | 1 => if st = 2 then s.lceStart d e else s
    | 2 => if run then s.lcePhase d e else s
    | 3 => if st = 2 then s.lceStart d e else s.lcePhase d e
    | 4 => s.setLceState d e 2
    | 5 => (s.setLceState d e 2).lceInit d e
    | _ => s

/-- A cue's action at its edge on every engine of a mask. -/
def State.cueAct (s : State) (d act mask : Nat) : State :=
  (List.range 16).foldl (fun a e => if mask.testBit e then a.cueOne d act e else a) s

/-- A write of LCE_CUE (R608): refused while a delayed cue is pending, else acting at once or at its edge. -/
def State.cue (s : State) (d act mask delay : Nat) : State :=
  if act = 0 ∨ 5 < act then s
  else if s.flag d F.LCE_CUE_STAT_PENDING then s.putFlag d F.LCE_CUE_STAT_REFUSED true
  else if delay = 0 then s.cueAct d act mask
  else
    { s.putFlag d F.LCE_CUE_STAT_PENDING true with cues := tblSet s.cues none d (some (act, mask)) }

/-- A write of LCE_LOOPDEF (R599): one that would make FIRST greater than LAST has no effect. -/
def State.loopDef (s : State) (d e j first last : Nat) : State :=
  if first % 32 > last % 32 then s
  else (s.put d (F.LCE_LOOPDEF_FIRST e j) first).put d (F.LCE_LOOPDEF_LAST e j) last

/-- A write of LCE_DIV (R603): the next step falls ⌊D⌋ periods after the last one. -/
def State.divWrite (s : State) (d e v : Nat) : State :=
  let x := s.lce d e
  let last := x.base + (x.steps - 1) * lceDiv s d e / 64
  let s := s.put d (F.LCE_DIV_DIV e) v
  if x.steps = 0 then s else s.setLce d e { x with base := last, steps := 1 }

/-- A list written to consecutive registers. -/
def State.putAll (s : State) (d : Nat) (f : Nat → Field) (i : Nat) : List Nat → State
  | [] => s
  | x :: xs => (s.put d (f i) x).putAll d f (i + 1) xs

/-- SEL bytes written to LCE_SEL. -/
def State.putSels (s : State) (d e i : Nat) : List Nat → State
  | [] => s
  | x :: xs =>
    ((s.put d (F.LCE_SEL_SEL_A e i) (x % 8)).put d (F.LCE_SEL_SEL_B e i) (x / 8 % 8)).putSels d e (i + 1) xs

/-- The loops of a program written to LCE_LOOPDEF. -/
def State.putLoops (s : State) (d e j : Nat) : List (Nat × Nat) → State
  | [] => s
  | x :: xs =>
    ((s.put d (F.LCE_LOOPDEF_FIRST e j) x.1).put d (F.LCE_LOOPDEF_LAST e j) x.2).putLoops d e (j + 1) xs

/-- LCE_LOOP, LCE_LOOPDEF and LCE_DIV of an engine returned to an image (R613). -/
def State.lceTunables (s : State) (p : LaceProg) : State :=
  let d := p.die
  let e := p.engine
  ((s.put d (F.LCE_LOOP_SEL e) p.loopSel).putLoops d e 0 p.loops).put d (F.LCE_DIV_DIV e) p.div

/-- An engine loaded from a configuration: program, binding and initial state; EMPTY without a program, OFF while its
domain is not on. -/
def State.lceLoad (s : State) (c : HarnessCfg) (d e : Nat) : State :=
  let b := c.lace.binds.find? (fun b => b.1 == d && b.2.1 == e)
  let s := s.putFlag d (F.LCE_ENG_CFG_BOUND e) b.isSome
  let s := match b with
    | some x => (s.put d (F.LCE_ENG_CFG_CLUSTER e) x.2.2.1).put d (F.LCE_ENG_CFG_EVENT_ENG e) (x.2.2.2 % 8)
    | none => s
  match c.lace.progs.find? (fun p => p.die == d && p.engine == e) with
  | none => s.setLceState d e (if s.domOn d (20 + e / 4) then 1 else 0)
  | some p =>
    let s := ((s.put d (F.LCE_ENG_CFG_INIT e) p.init).putFlag d (F.LCE_ENG_CFG_AUTOSTART e) p.autostart).put d
      (F.LCE_ENG_CFG_GROUP e) p.group
    let s := s.put d (F.LCE_ENG_CFG_PROG_ID e) p.progId
    let s := (s.put d (F.LCE_INMAP_SLOTS e) (leNat (p.inmap.map (fun x => BitVec.ofNat 8 x)))).put d (F.LCE_OUTMAP_MAP e) p.outmap
    let s := (s.putSels d e 0 p.sel).putAll d (fun i => F.LCE_TABLE_ENTRY e i) 0 p.table
    let s := (s.put d (F.LCE_FIFO_STAT_IN_THR e) p.inThr).put d (F.LCE_FIFO_STAT_OUT_THR e) p.outThr
    let s := s.lceTunables p
    let s := s.setLce d e { LaceEng.reset with loopSel := p.loopSel, loaded := true }
    let s := s.lceInit d e
    s.setLceState d e (if s.domOn d (20 + e / 4) then 2 else 0)

/-- R609 on a die: loaded AUTOSTART engines of no group start; those of a group wait until every member is loaded, and
then start together. -/
def State.autostart (s : State) (d : Nat) : State :=
  (List.range 16).foldl (fun a e =>
    let g := s.get d (F.LCE_ENG_CFG_GROUP e)
    let st := lceState s d e
    if s.flag d (F.LCE_ENG_CFG_AUTOSTART e) ∧ (st = 5 ∨ (st = 2 ∧ (s.lce d e).loaded)) then
      let ready := (List.range 16).all (fun k =>
        !(s.flag d (F.LCE_ENG_CFG_AUTOSTART k) && s.get d (F.LCE_ENG_CFG_GROUP k) == g) || (lceState s d k != 0 && lceState s d k != 1 &&
          !s.har.unswitched.contains (uid d 5 k)))
      let a := a.setLce d e { a.lce d e with loaded := false }
      if g = 0 ∨ ready then a.lceStart d e else a.setLceState d e 5
    else a) s

/-- A pin given its function, safe level and driver from a configuration (R592, R595); a new output pin takes its safe level until its
engine's first step (R613). -/
def State.lcePinOne (s : State) (c : HarnessCfg) (d p : Nat) : State :=
  let fn := ((c.lace.pins.find? (fun x => x.1 == d && x.2.1 == p)).map (·.2.2)).getD 0
  let sf := ((c.lace.safes.find? (fun x => x.1 == d && x.2.1 == p)).map (·.2.2)).getD 2
  let was := s.flag d (F.LCE_PIN_CFG_DRIVEN p)
  let s := ((s.put d (F.LCE_PIN_CFG_FUNC p) fn).put d (F.LCE_PIN_CFG_SAFE p) sf).putFlag d (F.LCE_PIN_CFG_DRIVEN p) false
  let s := (c.lace.progs.filter (fun g => g.die == d && g.engine / 4 == p / 8)).foldl (fun a g =>
    (List.range 8).foldl (fun a o =>
      if g.outmap / 16 ^ o % 16 = 8 + p % 8 then
        ((a.putFlag d (F.LCE_PIN_CFG_DRIVEN p) true).put d (F.LCE_PIN_CFG_DRIVER p) g.engine).put d (F.LCE_PIN_CFG_OUTPUT p) o
      else a) a) s
  if !was && s.flag d (F.LCE_PIN_CFG_DRIVEN p) then s.safePin d p else s

/-- The pins of a die that meet a test. -/
def State.lcePinSome (s : State) (c : HarnessCfg) (d : Nat) (p : Nat → Bool) : State :=
  (List.range 32).foldl (fun a i => if p i then a.lcePinOne c d i else a) s

def State.lcePinCfg (s : State) (c : HarnessCfg) (d : Nat) : State := s.lcePinSome c d (fun _ => true)

/-- The safe state of a die's lace (R614): engines SAFE, FIFOs empty, pins at their safe levels. -/
def State.lceSafe (s : State) (d : Nat) : State :=
  let s := (List.range 16).foldl (fun a e =>
    if lceState a d e = 0 ∨ lceState a d e = 1 then a else (a.setLceState d e 6).setFifos d e [] []) s
  (List.range 32).foldl (fun a p => a.safePin d p) s

/-- The end of the safe state: engines stopped at INIT. -/
def State.lceUnsafe (s : State) (d : Nat) : State :=
  (List.range 16).foldl (fun a e =>
    if lceState a d e = 6 then (a.setLceState d e 2).put d (F.LCE_ENG_STATUS_CUR e) (a.get d (F.LCE_ENG_CFG_INIT e)) else a) s

end Sys2Proof.Machine
end

