-- ==== Sys2Proof/Machine/SwcOps.lean ====
section
/-! DEFINITION. The shared operations of the switch core (chapter 11): cells and their owners, descriptors, reading and
writing frames, admission, drops, virtual output queues, head slots and the releases of charges. -/

namespace Sys2Proof.Machine

/-! ## Cells (R137, R507, R510, R511) -/

def cellOff (c : Nat) : Nat := 0xA00000 + 128 * c
def cellKey (d c : Nat) : Nat := d * 65536 + c
def ownerKey (d u : Nat) : Nat := d * 65536 + u

/-- The reception reserve. -/
def rxReserve : Nat := 1280

/-- The tenant pool P of a die. -/
def State.pool (s : State) (d : Nat) : Nat := s.get d F.VAT_PART_CELLS - rxReserve

def State.cell (s : State) (d c : Nat) : Cell := tblGet s.cells Cell.free (cellKey d c)
def State.ownerCount (s : State) (d u : Nat) : Nat := tblGet s.owners 0 (ownerKey d u)
def State.setOwnerCount (s : State) (d u n : Nat) : State := { s with owners := tblSet s.owners 0 (ownerKey d u) n }

/-- A cell given an owner; its counts follow. -/
def State.ownCell (s : State) (d u c : Nat) : State :=
  let old := s.cell d c
  let s := if old.used then s.setOwnerCount d old.owner (s.ownerCount d old.owner - 1) else s
  let s := { s with cells := tblSet s.cells Cell.free (cellKey d c) ⟨true, u, old.tid⟩ }
  s.setOwnerCount d u (s.ownerCount d u + 1)

/-- A cell returned to the free list. -/
def State.freeCell (s : State) (d c : Nat) : State :=
  let old := s.cell d c
  let s := if old.used then s.setOwnerCount d old.owner (s.ownerCount d old.owner - 1) else s
  { s with cells := tblSet s.cells Cell.free (cellKey d c) Cell.free }

/-- The number of cells of a die in use. -/
def State.usedCells (s : State) (d : Nat) : Nat := (s.cells.filter (fun e => e.1 / 65536 == d)).length

/-- The pack-state size PS of a die in units of 256 KiB (R136), and the cells that it leaves. -/
def psOf (c : HarnessCfg) (d : Nat) : Nat := ((c.regions.packState.find? (fun e => e.1 == d)).map (·.2)).getD 0

def poolCells (c : HarnessCfg) (d : Nat) : Nat := 40960 - 2048 * psOf c d

/-- Cells below this one may be handed out: from PREPARE to the instant not those that a new PS adds to pack state (R898). -/
def State.cellLimit (s : State) (d : Nat) : Nat :=
  let st := s.get 0 F.HAR_STATUS_STATE
  let n := s.get d F.VAT_PART_CELLS
  match s.har.staged with
  | some i => if 5 ≤ st ∧ st ≤ 8 then min n (poolCells i.cfg d) else n
  | none => n

/-- The `n` lowest free cells of a die; fewer when the die holds fewer. -/
def State.freeCells (s : State) (d n : Nat) : List Nat :=
  ((List.range (min (s.cellLimit d) (s.usedCells d + n))).filter (fun c => !(s.cell d c).used)).take n

/-! ## Tenant and output counts -/

def tenKey (d t : Nat) : Nat := d * 4096 + t
def State.heldBy (s : State) (d t : Nat) : Nat := tblGet s.tenCells 0 (tenKey d t)
/-- The sum of H over all tenants of a die. -/
def State.heldAll (s : State) (d : Nat) : Nat :=
  ((s.tenCells.filter (fun e => e.1 / 4096 == d)).map (·.2)).foldl (· + ·) 0

/-- SWC_POOL.FREE brought up to date. -/
def State.syncPool (s : State) (d : Nat) : State := s.put d F.SWC_POOL_FREE (s.pool d - s.heldAll d)

def State.chargeTenant (s : State) (d t n : Nat) : State :=
  ({ s with tenCells := tblSet s.tenCells 0 (tenKey d t) (s.heldBy d t + n) }).syncPool d
def State.unchargeTenant (s : State) (d t n : Nat) : State :=
  ({ s with tenCells := tblSet s.tenCells 0 (tenKey d t) (s.heldBy d t - n) }).syncPool d

/-- A tenant's entry of kind 0x03 on a die: (RESERVE, QUOTA), 0 without one (R512). -/
def State.tenLimits (s : State) (d t : Nat) : Nat × Nat :=
  match s.cfg.switch.tenants.find? (fun e => e.1 == d && e.2.1 == t) with
  | some e => (e.2.2.1, e.2.2.2)
  | none => (0, 0)

/-- QUOTA of an output; P without an entry. -/
def State.outQuota (s : State) (d o : Nat) : Nat :=
  match s.cfg.switch.outQuotas.find? (fun e => e.1 == d && e.2.1 == o) with
  | some e => e.2.2
  | none => s.pool d

/-- H(o) of an output. -/
def State.outHeld (s : State) (d o : Nat) : Nat := s.get d (F.SWC_OUT_HELD o)

/-- Cells promised to the reservations of other tenants (R522). -/
def State.promised (s : State) (d t : Nat) : Nat :=
  ((s.cfg.switch.tenants.filter (fun e => e.1 == d && e.2.1 != t)).map (fun e => e.2.2.1 - s.heldBy d e.2.1)).foldl (· + ·) 0

/-! ## Descriptors (R507, R508) -/

def frameKey (d n : Nat) : Nat := d * 16384 + n
/-- The die that holds a frame's cells and descriptor. -/
def frameDie (f : Nat) : Nat := f / 16384
def State.frame (s : State) (f : Nat) : Frame := tblGet s.frames default f
def State.setFrame (s : State) (f : Nat) (x : Frame) : State := { s with frames := tblSet s.frames default f x }


/-- A frame's cells charged to a tenant. -/
def State.setCharged (s : State) (f t : Nat) : State :=
  let x := s.frame f
  let d := frameDie f
  let s := s.setFrame f { x with charged := some t }
  x.cells.foldl (fun a c => { a with
    cells := tblSet a.cells Cell.free (cellKey d c) { a.cell d c with tid := some t } }) s

def State.usedDesc (s : State) (d : Nat) : Nat := (s.frames.filter (fun e => e.1 / 16384 == d)).length

/-- The lowest free descriptor of a die. -/
def State.freeDesc (s : State) (d : Nat) : Option Nat :=
  (((List.range (min 16384 (s.usedDesc d + 1))).filter (fun n => !(s.frame (frameKey d n)).live)).head?).map (frameKey d)

def State.syncDesc (s : State) (d : Nat) : State := s.put d F.SWC_DESC_FREE (16384 - s.usedDesc d)

/-- Cells of a frame of `len` bytes (R508). -/
def cellsOf (len : Nat) : Nat := ceilDiv len 128

/-! ## Frame bytes -/

/-- The Vat offset of frame byte `i`. -/
def Frame.off (x : Frame) (i : Nat) : Nat := cellOff (x.cells.getD (i / 128) 0) + i % 128

/-- `n` frame bytes from byte `i`, read from the cells by a reader with a SOURCE code; whether a word was
uncorrectable. -/
def State.frameRead (s : State) (d : Nat) (x : Frame) (i n source : Nat) : Nat → List Byte × Bool × State
  | 0 => ([], false, s)
  | fuel + 1 =>
    if n = 0 then ([], false, s)
    else
      let k := min n (128 - i % 128)
      let r := s.vatRead d (x.off i) k source
      let q := r.2.2.frameRead d x (i + k) (n - k) source fuel
      (r.1 ++ q.1, r.2.1 || q.2.1, q.2.2)

/-- Frame bytes written to the cells; answers whether a merge met an uncorrectable word. -/
def State.frameWrite (s : State) (d : Nat) (x : Frame) (i source : Nat) (bs : List Byte) : Nat → Bool × State
  | 0 => (false, s)
  | fuel + 1 =>
    match bs with
    | [] => (false, s)
    | b :: rest =>
      let k := min (b :: rest).length (128 - i % 128)
      let r := s.vatWrite d (x.off i) source ((b :: rest).take k) 4
      let q := r.2.frameWrite d x (i + k) source ((b :: rest).drop k) fuel
      (r.1 || q.1, q.2)

/-- Whether the switch core's region registers allow it the cells of a frame (R152, R156). -/
def State.cellsAllowed (s : State) (d : Nat) (x : Frame) (write : Bool) : Bool × State :=
  match x.cells.findSome? (fun c => s.firstRefused d 42 d (cellOff c) 128 write) with
  | none => (true, s)
  | some (l, p) => (false, s.vatViolation d 42 d l write p)

/-! ## Drops and releases (R523, R899) -/

/-- An event of the engine that sent a frame (R262). -/
def State.txDone (s : State) (x : Frame) : State :=
  match x.sender with
  | some k => s.raise (k / 64) (k % 64) 9
  | none => s

/-- The charges of a frame at its outputs ended. -/
def State.unchargeOuts (s : State) (x : Frame) : State :=
  x.outs.foldl (fun a o => a.put o.1 (F.SWC_OUT_HELD o.2.1) (a.outHeld o.1 o.2.1 - o.2.2)) s

def State.ethPort (s : State) (d p : Nat) : EthPort := tblGet s.ethPorts EthPort.reset (d * 8 + p)
def State.modPort (s : State) (d p : Nat) (g : EthPort → EthPort) : State :=
  { s with ethPorts := tblSet s.ethPorts EthPort.reset (d * 8 + p) (g (s.ethPort d p)) }

/-- A frame still under cut-through reception whose forwarded copy is gone. -/
def State.forgetCut (s : State) (f : Nat) : State :=
  s.eachDie (fun d a => (List.range 8).foldl (fun a p =>
    if (a.ethPort d p).rxCut = some (some f) then a.modPort d p (fun g => { g with rxCut := some none }) else a) a)

/-- A frame's cells freed, its tenant charge and its descriptor returned. -/
def State.freeFrame (s : State) (f : Nat) : State :=
  let x := s.frame f
  let s := if x.cutThrough then s.forgetCut f else s
  let d := frameDie f
  let s := x.cells.foldl (fun a c => a.freeCell d c) s
  let s := match x.charged with
    | some t => s.unchargeTenant d t x.cells.length
    | none => s.put d F.SWC_POOL_RX_HELD (s.get d F.SWC_POOL_RX_HELD - x.cells.length)
  ((s.unchargeOuts x).setFrame f default).syncDesc d

/-- One of a frame's destinations is done with it: at the last one its cells are freed. -/
def State.doneWith (s : State) (f : Nat) : State :=
  let x := s.frame f
  if x.dests ≤ 1 then s.freeFrame f else s.setFrame f { x with dests := x.dests - 1 }

/-- The charge of a frame at one output ended (R899). -/
def State.leaveOutput (s : State) (f d o : Nat) : State :=
  let x := s.frame f
  let mine := x.outs.filter (fun e => e.1 == d && e.2.1 == o)
  let s := mine.foldl (fun a e => a.put e.1 (F.SWC_OUT_HELD e.2.1) (a.outHeld e.1 e.2.1 - e.2.2)) s
  s.setFrame f { x with outs := x.outs.filter (fun e => !(e.1 == d && e.2.1 == o)) }

/-- A drop counted by the die that detects it (R523). -/
def State.countDrop (s : State) (d reason tid : Nat) : State :=
  let s := (s.count d (F.SWC_DROP_COUNT reason) 1).putFlag d F.SWC_EVENT_DROP true
  { s with tenDrops := tblSet s.tenDrops 0 (tenKey d tid) (satAdd 32 (tblGet s.tenDrops 0 (tenKey d tid)) 1) }

/-- A frame dropped by die `d` with a reason; a transmit frame's engine receives TXDONE. A capture that still holds it
keeps its cells (R527). -/
def State.dropFrame (s : State) (d f reason : Nat) : State :=
  let x := s.frame f
  ((s.countDrop d reason x.tid).txDone x).doneWith f

/-! ## Outputs (R516) -/

/-- The domain that holds an output; the time-triggered group stands in two. -/
def outDomains (o : Nat) : List Nat :=
  if o < 8 then [8 + o] else if o < 16 then [16 + (o - 8) / 2] else if o = 16 then [40, 41]
  else if o < 49 then [(o - 17) / 4] else if o < 113 then [42] else [44]

/-- Whether the output's domain is fenced or off. -/
def State.outDown (s : State) (d o : Nat) : Bool := (outDomains o).all (fun n => s.domDown d n)

/-- The output of a PORT code; 0x40 is a record submission (R680). -/
def portOutput (port : Nat) : Option Nat :=
  if port < 8 then some port
  else if 0x10 ≤ port ∧ port < 0x18 then some (8 + (port - 0x10))
  else if port = 0x20 ∨ port = 0x21 then some 16
  else if port = 0x40 then some 113
  else none

/-- The input of a frame's source on its own die. -/
def portInput (port : Nat) : Nat :=
  if port < 8 then port
  else if 0x10 ≤ port ∧ port < 0x18 then 8 + (port - 0x10)
  else if port = 0x20 then 16 else if port = 0x21 then 17 else 26

/-- The input on which a frame of die `fd` reaches the scheduler of die `d`. -/
def State.inputOf (s : State) (fd d own : Nat) : Nat := if fd = d then own else 27 + arrivalLink s.dieCount fd d

/-- UID of the owner of a frame that waits for an output (R510). -/
def outOwner (d o : Nat) : Nat :=
  if o < 8 then uid d 2 o else if o < 16 then uid d 3 (o - 8) else if o = 16 then uid d 4 0
  else if o < 49 then uid d 1 ((o - 17) / 4) else if o < 113 then uid d 0x0B 0 else uid d 0x0A 0

def State.ownFrame (s : State) (f u : Nat) : State :=
  (s.frame f).cells.foldl (fun a c => a.ownCell (frameDie f) u c) s

def State.voqOf (s : State) (d : Nat) : List VEntry := tblGet s.voq [] d
def State.setVoq (s : State) (d : Nat) (q : List VEntry) : State := { s with voq := tblSet s.voq [] d q }

def State.outQueue (s : State) (d o : Nat) : List Nat := tblGet s.outQ [] (d * 128 + o)
def State.setOutQueue (s : State) (d o : Nat) (q : List Nat) : State :=
  { s with outQ := tblSet s.outQ [] (d * 128 + o) q }

/-! ## Admission (R522) -/

/-- The tenant checks of R522 for `n` cells: the reason of the first that fails. `desc` says whether a free descriptor
is needed and present. -/
def State.tenantCheck (s : State) (d t n : Nat) (desc : Bool) : Option Nat :=
  if !desc then some 3
  else if s.heldBy d t + n > (s.tenLimits d t).2 then some 4
  else if n + s.promised d t > s.pool d - s.heldAll d then some 5
  else none

/-- The output checks of R522. -/
def State.outputCheck (s : State) (d o n : Nat) : Option Nat :=
  if s.outHeld d o + n > s.outQuota d o then some 6
  else if s.outDown d o then some 7
  else none

/-- A frame charged to an output and entered in the virtual output queue of its input and class. -/
def State.enterVoq (s : State) (f d o own n : Nat) (hi : Bool) : State :=
  let x := s.frame f
  let s := s.put d (F.SWC_OUT_HELD o) (s.outHeld d o + n)
  let s := s.setFrame f { x with outs := x.outs ++ [(d, o, n)] }
  let s := if o = 113 then s else s.ownFrame f (outOwner d o)
  s.setVoq d (s.voqOf d ++ [⟨s.inputOf (frameDie f) d own, o, hi, f⟩])

/-- A frame whose tenant is charged, checked at its output and entered, or dropped with its charge released. -/
def State.toOutput (s : State) (f d o own n : Nat) (hi : Bool) : State :=
  match s.outputCheck d o n with
  | some r => s.dropFrame d f r
  | none => s.enterVoq f d o own n hi

/-- A received frame admitted under R522: its cells leave the reception reserve and are charged to its tenant. -/
def State.takeIn (s : State) (f t d o own n : Nat) (hi : Bool) : State :=
  let fd := frameDie f
  match s.tenantCheck fd t n true with
  | some r => s.dropFrame fd f r
  | none =>
    let x := s.frame f
    let s := s.put fd F.SWC_POOL_RX_HELD (s.get fd F.SWC_POOL_RX_HELD - x.cells.length)
    let s := (s.setCharged f t).chargeTenant fd t n
    s.toOutput f d o own n hi

/-! ## Head slots (R250, R362) -/

def slotKey (d c i : Nat) : Nat := (d * 8 + c) * 16 + i
def State.slot (s : State) (d c i : Nat) : HeadSlot := tblGet s.slots HeadSlot.free (slotKey d c i)
def State.setSlot (s : State) (d c i : Nat) (h : HeadSlot) : State :=
  { s with slots := tblSet s.slots HeadSlot.free (slotKey d c i) h }
def State.setQueued (s : State) (d c q : Nat) (l : List Nat) : State :=
  { s with clq := tblSet s.clq [] ((d * 8 + c) * 4 + q) l }

/-- The free head slots of a cluster. -/
def State.freeSlots (s : State) (d c : Nat) : List Nat := (List.range 16).filter (fun i => !(s.slot d c i).used)

/-- Whether a cluster counts head slots as free at all (R517). -/
def State.slotsOpen (s : State) (d c : Nat) : Bool :=
  !s.flag d (F.AWL_CL_STATUS_BUSY c) && s.domOn d c

/-- The pack's headline queue of a cluster; 0xFF when none. -/
def State.hlQueue (s : State) (d c : Nat) : Nat :=
  match (placeOf (s.cfgOf (clUid d c)) d c).bind (packOf (s.cfgOf (clUid d c))) with
  | some k => k.hlQueue
  | none => 0xFF

def State.hlSlots (s : State) (d c : Nat) : Nat :=
  match placeOf (s.cfgOf (clUid d c)) d c with
  | some p => p.hlSlots
  | none => 0

/-- Head slots held by headline frames of a cluster. -/
def State.hlHeld (s : State) (d c : Nat) : Nat :=
  ((List.range 16).filter (fun i => (s.slot d c i).used && (s.slot d c i).queue == s.hlQueue d c)).length

/-- Whether a cluster queue may take a frame (R250, R362): the headline queue uses any free slot, another one only
while more slots are free than the reservation still unheld. -/
def State.slotFor (s : State) (d c q : Nat) : Bool :=
  let n := (s.freeSlots d c).length
  s.slotsOpen d c && (if q = s.hlQueue d c then decide (0 < n) else decide (s.hlSlots d c - s.hlHeld d c < n))

/-- A frame placed in queue `q` of a cluster: bytes 0 to 255 and the metadata are copied to a free head slot (R250).
A cell that reads with an uncorrectable error or that the region registers refuse drops the frame (R526, R156). -/
def State.fillSlot (s : State) (f d c q : Nat) : State :=
  match (s.freeSlots d c).head? with
  | none => s
  | some i =>
    let x := s.frame f
    let ok := s.cellsAllowed (frameDie f) x false
    if !ok.1 then (ok.2.leaveOutput f d (17 + 4 * c + q)).dropFrame d f 8
    else
      let r := ok.2.frameRead (frameDie f) x 0 (min x.len 256) 2 4
      if r.2.1 then (r.2.2.leaveOutput f d (17 + 4 * c + q)).dropFrame d f 9
      else
        let s := r.2.2.setFrame f { x with queue := q }
        let s := s.setSlot d c i ⟨true, f, q, r.1, none⟩
        s.setQueued d c q (s.queued d c q ++ [i])

/-- A head slot's frame leaves the cluster: its charge at the queue ends, the slot is free and the frame released. -/
def State.freeSlot (s : State) (d c i : Nat) : State :=
  let h := s.slot d c i
  let s := s.setQueued d c h.queue ((s.queued d c h.queue).filter (· != i))
  let s := (s.leaveOutput h.frame d (17 + 4 * c + h.queue)).setSlot d c i HeadSlot.free
  s.doneWith h.frame

/-! ## Clearing a scope -/

/-- A frame released without being sent (R543): counted FENCED, with TXDONE for a transmit frame. -/
def State.releaseFenced (s : State) (d f : Nat) : State :=
  if (s.frame f).live then s.dropFrame d f 7 else s

/-- Every frame in the virtual output queues and output queue of an output released (R543, output domain fenced). -/
def State.clearOutput (s : State) (d o : Nat) : State :=
  let mine := (s.voqOf d).filter (·.output == o)
  let s := s.setVoq d ((s.voqOf d).filter (·.output != o))
  let q := s.outQueue d o
  let s := s.setOutQueue d o []
  (mine.map (·.frame) ++ q).foldl (fun a f => (a.leaveOutput f d o).releaseFenced d f) s

end Sys2Proof.Machine
end

