-- ==== Sys2Proof/Machine/RegAcc.lean ====
section
/-! DEFINITION. Accesses to the control space by offset (R10 to R18): finding a register, its fields by access code,
clearing reads, the latching of 64-bit pairs, and the fields that show what other parts of the state hold. -/

namespace Sys2Proof.Machine

/-- The registers of the block that an offset lies in (Control space blocks). -/
def blockRegs (off : Nat) : List RegDesc :=
  match off / 0x40000 with
  | 0 => descETH | 1 => descSER | 2 => descTTE | 3 => descSWC | 4 => descTIM | 5 => descLCE | 6 => descPCI
  | 7 => descDMA | 8 => descMBX | 9 => descERC | 10 => descPKT | 11 => descDPT | 12 => descVAT | 13 => descAWL
  | 14 => descHAR | 15 | 16 | 17 | 18 => descTEN | 19 => descPWR | 20 => descRCV | 21 => descPOM | 22 => descWLT
  | 23 => descREI | 24 => descCAL | 25 => descELX | 26 => descARC
  | _ => []

/-- Whether an offset within an array of registers is that of one of them. -/
def inDims (o : Nat) : List (Nat × Nat) → Bool
  | [] => o == 0
  | (n, st) :: r => decide (o / st < n) && inDims (o % st) r

/-- A register found at an offset: its descriptor, its own offset and whether the offset is that of its high word. -/
structure RegHit where
  desc : RegDesc
  reg : Reg
  high : Bool
deriving Repr

def RegDesc.hit (r : RegDesc) (off : Nat) : Option RegHit :=
  if r.base ≤ off ∧ inDims (off - r.base) r.dims then some ⟨r, ⟨off, r.rst⟩, false⟩
  else if r.wide ∧ r.base + 4 ≤ off ∧ inDims (off - 4 - r.base) r.dims then some ⟨r, ⟨off - 4, r.rst⟩, true⟩
  else none

/-- The register at an offset of die `d`; a package-wide one exists on die 0 only (R20). -/
def findReg (d off : Nat) : Option RegHit :=
  ((blockRegs off).findSome? (·.hit off)).filter (fun h => !h.desc.pkg || d == 0)

/-! ## Field masks -/

def AccField.mask (f : AccField) : Word64 := maskBits f.hi f.lo

/-- The bits of a register whose fields carry one of some access codes. -/
def accMask (fs : List AccField) (p : Access → Bool) : Word64 :=
  (fs.filter (fun f => p f.acc)).foldl (fun a f => a ||| f.mask) 0

/-- The bits that a read delivers: every field but the write-only ones; reserved fields read 0 (R10, R17). -/
def readMask (r : RegDesc) : Word64 := accMask r.flds (· != .wo)
def rcMask (r : RegDesc) : Word64 := accMask r.flds (· == .rc)

/-- The bits of the low or high word of a pair. -/
def halfMask (high : Bool) : Word64 := if high then 0xFFFFFFFF00000000#64 else 0xFFFFFFFF#64

/-- What a write leaves in a register: RW and WO fields take the written bits, W1C fields lose and W1S fields gain the
bits written 1, and every other field stays (R10). -/
def writeVal (r : RegDesc) (half old v : Word64) : Word64 :=
  let rw := accMask r.flds (fun a => a == .rw || a == .wo) &&& half
  let w1c := accMask r.flds (· == .w1c) &&& half
  let w1s := accMask r.flds (· == .w1s) &&& half
  (((old &&& ~~~ rw) ||| (v &&& rw)) &&& ~~~ (v &&& w1c)) ||| (v &&& w1s)

/-! ## Fields that show other state -/

/-- The fields of AWL_, MBX_, SWC_ and TIM_ registers that show what engines, tenants and the time base hold, brought up
to date before a read of their register. -/
def State.syncView (s : State) (d off : Nat) : State :=
  if off = R.TIM_NOW_FRAC.off then s.put d F.TIM_NOW_FRAC_FRAC (s.nowFrac d)
  else if 0x340200 ≤ off ∧ off < 0x340400 ∧ off % 8 = 0 then
    let e := (off - 0x340200) / 8
    let g := s.eng d e
    let s := (s.put d (F.AWL_ENG_STATUS_STATE e) g.st.code).put d (F.AWL_ENG_STATUS_BANK e) g.bank
    (s.put d (F.AWL_ENG_STATUS_PC e) g.pc).put d (F.AWL_ENG_STATUS_LAST_CAUSE e) g.lastCause
  else if 0x340100 ≤ off ∧ off < 0x340180 ∧ off % 16 = 0 then
    let c := (off - 0x340100) / 16
    s.put d (F.AWL_CL_STATUS_ON_BANK1 c)
      ((List.range 8).foldl (fun a i => a + (s.eng d (8 * c + i)).bank % 2 * 2 ^ i) 0)
  else if off / 0x40000 = 8 then
    (List.range 64).foldl (fun a e =>
      if off = (R.MBX_ENG e).off then
        (a.put d (F.MBX_ENG_IN_COUNT e) ((a.eng d e).mbxIn.length + (a.eng d e).mbxHeld.length)).put d (F.MBX_ENG_OUT_COUNT e) (a.eng d e).mbxOut.length
      else a) s
  else if off = R.SWC_TEN_CELLS.off then
    let t := s.get d F.SWC_TEN_SEL_TID
    (s.put d F.SWC_TEN_CELLS_HELD (s.heldBy d t)).put d F.SWC_TEN_CELLS_QUOTA (s.tenLimits d t).2
  else if off = R.SWC_TEN_RES.off then s.put d F.SWC_TEN_RES_RESERVE (s.tenLimits d (s.get d F.SWC_TEN_SEL_TID)).1
  else if off = R.SWC_TEN_DROP.off then
    s.put d F.SWC_TEN_DROP_COUNT (tblGet s.tenDrops 0 (tenKey d (s.get d F.SWC_TEN_SEL_TID)))
  else if off = R.SWC_CQ.off then s.put d F.SWC_CQ_USED (tblGet s.commitQ [] d).length
  else s

/-- What a clearing read of a register that shows other state also clears there. -/
def State.clearView (s : State) (d off : Nat) : State :=
  if off = R.SWC_TEN_DROP.off then
    { s with tenDrops := tblSet s.tenDrops 0 (tenKey d (s.get d F.SWC_TEN_SEL_TID)) 0 }
  else if off = R.ELX_TEMP_MAX.off then { s with rcv := { s.rcv with temps := s.rcv.temps.filter (· != d) } }
  else s

/-! ## Fences (R766) -/

/-- The domain whose unit holds a register (R753, log entry 132): the registers of an Ethernet port and of the recorder, the
command registers of the other units, and the MSI-X tables. -/
def regDomain (off : Nat) : Option Nat :=
  if off < 0x2000 ∨ (0x10000 ≤ off ∧ off < 0x12000) then some (8 + off % 0x2000 / 0x400)
  else if 0x40000 ≤ off ∧ off < 0x42000 then (if off % 0x400 = 4 ∨ off % 0x400 = 0x14 then some (16 + off % 0x2000 / 0x800) else none)
  else if off = 0x80028 then some 40
  else if off = 0x8002C then some 41
  else if 0x140100 ≤ off ∧ off < 0x140500 then
    let f := (off - 0x140100) % 0x40
    if 8 ≤ f ∧ f < 0x18 then some (20 + (off - 0x140100) / 0x100) else none
  else if 0x142000 ≤ off ∧ off < 0x142100 then some (20 + (off - 0x142000) / 0x40)
  else if 0x340100 ≤ off ∧ off < 0x340180 then (if off % 16 = 4 then some ((off - 0x340100) / 16) else none)
  else if 0x340200 ≤ off ∧ off < 0x340400 then (if off % 8 = 4 then some ((off - 0x340200) / 64) else none)
  else if off / 0x40000 = 9 then some 44
  else if 0x1C0100 ≤ off ∧ off < 0x1C0300 then (if off % 16 = 12 then some 42 else none)
  else if 0x190000 ≤ off ∧ off < 0x198100 then some 42
  else none

/-- The domain that refuses an access, while it is not on. -/
def State.regFenced (s : State) (d off : Nat) : Option Nat :=
  match regDomain off with
  | some n => if s.domDown d n then some n else none
  | none => none

/-! ## Reads and writes -/

/-- The key of the latched high word of a pair. -/
def latchKey (d : Nat) (r : Reg) : Nat := regKey d ⟨r.off + 4, 0⟩

/-- Pairs whose low-word read latches the high word: those with RC fields (R16) and those of TIM_ (R572, R590). -/
def latches (h : RegHit) : Bool := h.desc.wide && (rcMask h.desc != 0 || h.reg.off / 0x40000 == 4)

/-- The registers that a low-word read latches besides its high word: TIM_NOW_FRAC for TIM_NOW (R590), and the status of
a capture for its time stamp (R572). -/
def alsoLatched (off : Nat) : Option Reg :=
  if off = R.TIM_NOW.off then some R.TIM_NOW_FRAC
  else ([0, 1, 2, 3].find? (fun n => off == (R.TIM_CAP_TIME n).off)).map R.TIM_CAP_STAT

/-- Bits set to 0 by the RC fields of a register. -/
def State.clearRc (s : State) (d : Nat) (h : RegHit) (half : Word64) : State :=
  (s.wr d h.reg (s.rd d h.reg &&& ~~~ (rcMask h.desc &&& half))).clearView d h.reg.off

/-- A 32-bit value latched under a key. -/
def State.setLatch (s : State) (k : Nat) (v : Option Nat) : State :=
  { s with latch := (s.latch.filter (fun e => e.1 != k)) ++ (v.toList.map (fun x => (k, BitVec.ofNat 32 x))) }
def State.latched (s : State) (k : Nat) : Option Nat := (s.latch.find? (fun e => e.1 == k)).map (·.2.toNat)

/-- A 32-bit read at an offset (R10 to R18): its value and the state after. `clears` is false for a reader whose reads
of RC fields do not clear them. -/
def State.rawRead (s : State) (d off : Nat) (clears : Bool) : Nat × State :=
  match findReg d off with
  | none => (0, s)
  | some h =>
    let s := s.syncView d h.reg.off
    let v := s.rd d h.reg &&& readMask h.desc
    let key := regKey d ⟨off, 0⟩
    if h.high then
      match s.latched key with
      | some x => (x, s.setLatch key none)
      | none => (bits v 63 32, s)
    else if h.desc.wide ∧ latches h then
      let s := s.setLatch (latchKey d h.reg) (some (bits v 63 32))
      let s := match alsoLatched h.reg.off with
        | some r =>
          let t := s.syncView d r.off
          t.setLatch (regKey d ⟨r.off, 0⟩) (some (bits (t.rd d r) 31 0))
        | none => s
      (bits v 31 0, if clears then s.clearRc d h (BitVec.allOnes 64) else s)
    else
      match s.latched key with
      | some x => (x, s.setLatch key none)
      | none => (bits v 31 0, if clears then s.clearRc d h (halfMask false) else s)

/-- An aligned 64-bit read of a pair: one capture of both words, cleared at once (R14, R16). -/
def State.rawRead64 (s : State) (d off : Nat) (clears : Bool) : Nat × State :=
  match findReg d off with
  | none => (0, s)
  | some h =>
    let s := s.syncView d h.reg.off
    ((s.rd d h.reg &&& readMask h.desc).toNat, if clears then s.clearRc d h (BitVec.allOnes 64) else s)

/-- A 32-bit write at an offset: every field by its access code (R10); an offset that no chapter defines takes no effect
(R18). -/
def State.rawWrite (s : State) (d off v : Nat) : State :=
  match findReg d off with
  | none => s
  | some h =>
    let x := if h.high then BitVec.ofNat 64 (v % 2 ^ 32 * 2 ^ 32) else BitVec.ofNat 64 (v % 2 ^ 32)
    s.wr d h.reg (writeVal h.desc (halfMask h.high) (s.rd d h.reg) x)

end Sys2Proof.Machine
end

