-- ==== Sys2Proof/Machine/EthOps.lean ====
section
/-! DEFINITION. The shared operations of the Ethernet ports (chapter 08): port records, link states, gates, credit-based
and tenant shapers, pauses, and frames leaving the egress queues. Times within a port are in units of 0.1 ns, in which
every byte time is a whole number. -/

namespace Sys2Proof.Machine

def State.ethPair (s : State) (d k : Nat) : EthPair := tblGet s.ethPairs EthPair.reset (d * 4 + k)
def State.modPair (s : State) (d k : Nat) (g : EthPair → EthPair) : State :=
  { s with ethPairs := tblSet s.ethPairs EthPair.reset (d * 4 + k) (g (s.ethPair d k)) }

def ethUid (d p : Nat) : Nat := uid d 2 p

def State.linkUp (s : State) (d p : Nat) : Bool := s.flag d (F.ETH_PORT_STATUS_LINK p)
/-- RED of a port: 0 none, 1 PRP, 2 HSR. -/
def State.red (s : State) (d p : Nat) : Nat := s.get d (F.ETH_PORT_CFG_RED p)
def State.maxLen (s : State) (d p : Nat) : Nat := s.get d (F.ETH_PORT_CFG_MAX_LEN p)
def State.portMac (s : State) (d p : Nat) : Nat := s.get d (F.ETH_MAC_ADDR_ADDR p)
/-- The other port of a pair. -/
def mate (p : Nat) : Nat := if p % 2 = 0 then p + 1 else p - 1

/-! ## Times -/

/-- The time base and TIM_MONO in 0.1 ns. -/
def State.nowT (s : State) (d : Nat) : Nat := s.now d * 10 + s.nowFrac d * 10 / 65536
def State.monoT (s : State) (d : Nat) : Nat := s.mono d * 10 + tblGet s.monoFrac 0 d / 2 ^ 32 * 10 / 65536

/-- A byte time at the rate of a SPEED code, in 0.1 ns. -/
def byteTime (speed : Nat) : Nat :=
  match speed with | 0 => 8000 | 1 => 800 | 2 => 80 | 3 => 32 | _ => 8
/-- The rate of a SPEED code in kb/s. -/
def speedKbps (speed : Nat) : Nat :=
  match speed with | 0 => 10000 | 1 => 100000 | 2 => 1000000 | 3 => 2500000 | _ => 10000000

def State.byteT (s : State) (d p : Nat) : Nat := byteTime (s.get d (F.ETH_PORT_STATUS_SPEED p))

/-- LEN of a frame on port `p` after R417: a PRP trailer follows padding to 60 bytes (R416), an HSR tag adds 6. -/
def State.txLen (s : State) (d p : Nat) (x : Frame) : Nat :=
  if x.redSeq.isSome then (if s.red d p = 1 then max x.len 60 else x.len) + 6 else x.len

/-- The wire time of `len` bytes (Transmitting). -/
def State.wireT (s : State) (d p len : Nat) : Nat := (max len 60 + 12) * s.byteT d p

/-- TXPIPE (R427). -/
def State.txPipe (s : State) (d p : Nat) : Nat := 8 * s.byteT d p

/-! ## Port records (R440) -/

def State.portRec (s : State) (d p kind detail field avail stamp sa level : Nat) : State :=
  let g := s.ethPort d p
  let recent := match g.lastRec.getD (kind - 1) none with
    | some t => decide (s.mono d < t + 1000000000)
    | none => false
  if recent then s.modPort d p (fun g => { g with suppressed := g.suppressed.modify (kind - 1) (· + 1) })
  else
    let body := leBytes 1 kind ++ leBytes 1 detail ++ leBytes 2 (ethUid d p) ++ leBytes 2 field ++ leBytes 2 avail ++
      leBytes 8 stamp ++ leBytes 4 (min (g.suppressed.getD (kind - 1) 0) 0xFFFFFFFF) ++ leBytes 6 sa ++ leBytes 1 level ++
      leBytes 5 0
    (s.partRec d 3 2 p body).modPort d p (fun g => { g with
      lastRec := g.lastRec.set (kind - 1) (some (s.mono d)), suppressed := g.suppressed.set (kind - 1) 0 })

/-! ## Gates (R432, R434) -/

/-- The gate block of a port in the configuration that the port executes. -/
def State.gateBlk (s : State) (d p : Nat) : Option GateBlk :=
  (s.cfgOf (ethUid d p)).gates.find? (fun b => b.die == d && b.port == p)

/-- The gate list of a port as segments (entry, GATES, length in ns) that fill the cycle exactly: the last entry holds
until the cycle ends, and the list is cut off there. -/
def gateSegs : Nat → Nat → List (Nat × Nat) → List (Nat × Nat × Nat)
  | _, _, [] => []
  | 0, _, _ => []
  | left, i, [(g, _)] => [(i, g, left)]
  | left, i, (g, t) :: r => (i, g, min t left) :: gateSegs (left - t) (i + 1) r

/-- The gate list in force; none when every gate is open at all times (R427, R435). -/
def State.gateList (s : State) (d p : Nat) : Option (GateBlk × List (Nat × Nat × Nat)) :=
  match s.gateBlk d p with
  | none => none
  | some b =>
    if s.flag d (F.ETH_GATE_STATUS_LIST p) ∧ b.entries ≠ [] then some (b, gateSegs b.cycle 0 b.entries) else none

/-- The segments from the one in force at a phase of the cycle on, once around; the first is what remains of it. -/
def segsFrom : List (Nat × Nat × Nat) → Nat → List (Nat × Nat × Nat)
  | [], _ => []
  | (i, g, t) :: r, ph => if ph < t then (i, g, t - ph) :: r ++ [(i, g, ph)] else segsFrom r (ph - t) ++ [(i, g, t)]

/-- The phase of the cycle at a time base reading. -/
def gatePhase (b : GateBlk) (now : Nat) : Nat := (((now : Int) - b.base) % (max b.cycle 1 : Nat)).toNat

/-- The time in 0.1 ns for which the gate of queue `q` stays open from now on, 0 when it is closed; none when it never
closes. -/
def State.gateOpenFor (s : State) (d p q : Nat) : Option Nat :=
  match s.gateList d p with
  | none => none
  | some (b, segs) =>
    let around := segsFrom segs (gatePhase b (s.now d))
    if around.all (fun e => e.2.1.testBit q) then none
    else some (((around.takeWhile (fun e => e.2.1.testBit q)).map (·.2.2)).foldl (· + ·) 0 * 10 -
      (s.nowT d - s.now d * 10))

/-- The longest run of open time among segments. -/
def longestRun (q : Nat) : List (Nat × Nat × Nat) → Nat → Nat → Nat
  | [], cur, best => max cur best
  | (_, g, t) :: r, cur, best =>
    if g.testBit q then longestRun q r (cur + t) best else longestRun q r 0 (max cur best)

/-- The longest continuous open time of a queue's gate in 0.1 ns, around the whole cycle; none when it never closes. -/
def State.longestOpen (s : State) (d p q : Nat) : Option Nat :=
  match s.gateList d p with
  | none => none
  | some (_, segs) =>
    if segs.all (fun e => e.2.1.testBit q) then none else some (longestRun q (segs ++ segs) 0 0 * 10)

/-- Whether queue `q`'s gate stays open for a time. -/
def State.gateFits (s : State) (d p q t : Nat) : Bool :=
  match s.gateOpenFor d p q with
  | none => true
  | some o => decide (0 < o) && decide (t ≤ o)

/-- ETH_GATE_STATUS brought to the entry that the cycle phase gives (R432). -/
def State.syncGate (s : State) (d p : Nat) : State :=
  match s.gateList d p with
  | none => s
  | some (b, segs) =>
    match segsFrom segs (gatePhase b (s.now d)) with
    | [] => s
    | e :: _ => (s.put d (F.ETH_GATE_STATUS_STATE p) e.2.1).put d (F.ETH_GATE_STATUS_ENTRY p) e.1

/-! ## Egress queues -/

/-- The frames waiting in egress queue `q` of a port, oldest first. -/
def State.egress (s : State) (d p q : Nat) : List Nat := (s.outQueue d p).filter (fun f => (s.frame f).queue == q)

def State.pausedQ (s : State) (d p q : Nat) : Bool :=
  s.flag d (F.ETH_PORT_STATUS_PAUSED p) || s.getBit d (F.ETH_PORT_STATUS_PFC_PAUSED p) q

/-! ## Credit-based shapers (R430) -/

def State.idleKbps (s : State) (d p q : Nat) : Nat := s.get d (F.ETH_CBS_IDLE_KBPS p q)

/-- The credit of queue `q` after `dt` × 0.1 ns in the present conditions. -/
def State.creditAfter (s : State) (d p q dt : Nat) : Int :=
  let g := s.ethPort d p
  let c := g.credits.getD q 0
  let idle := s.idleKbps d p q
  let sending := match g.tx with | some (_, k) => k == q | none => false
  let gateOpen := !s.flag d (F.ETH_GATE_STATUS_LIST p) || s.getBit d (F.ETH_GATE_STATUS_STATE p) q
  if sending then c - ((speedKbps (s.get d (F.ETH_PORT_STATUS_SPEED p)) : Int) - idle) * dt
  else if s.egress d p q ≠ [] ∧ gateOpen ∧ ¬ s.pausedQ d p q then c + (idle : Int) * dt
  else c

/-- The credits of a port brought up to date; every operation that changes the conditions of R430 does so first. -/
def State.syncCredits (s : State) (d p : Nat) : State :=
  let g := s.ethPort d p
  let dt := s.monoT d - g.creditAt
  let cs := (List.range 8).map (fun q => if s.idleKbps d p q = 0 then 0 else s.creditAfter d p q dt)
  let s := s.modPort d p (fun g => { g with credits := cs, creditAt := s.monoT d })
  (List.range 8).foldl (fun a q => a.putFlag d (F.ETH_CBS_CREDIT_NEG p q) (decide (cs.getD q 0 < 0))) s

/-- A queue that has become empty with a positive credit has its credit set to 0. -/
def State.emptyCredit (s : State) (d p q : Nat) : State :=
  if s.egress d p q = [] ∧ 0 < (s.ethPort d p).credits.getD q 0 then
    s.modPort d p (fun g => { g with credits := g.credits.set q 0 })
  else s

/-! ## Tenant shapers (R537, R538) -/

def State.shaper (s : State) (d k : Nat) : Shaper := tblGet s.shapers ⟨0, 0⟩ (d * 256 + k)
def State.setShaper (s : State) (d k : Nat) (x : Shaper) : State :=
  { s with shapers := tblSet s.shapers ⟨0, 0⟩ (d * 256 + k) x }

/-- One byte in the units of a shaper's level. -/
def tshByte : Int := 256 * 2048000000

/-- RATE_KBPS in force. -/
def State.tshRate (s : State) (d k : Nat) : Nat := min (s.get d (F.SWC_TSH_RATE_RATE_KBPS k)) 10000000

def State.monoQ16 (s : State) (d : Nat) : Nat := s.mono d * 65536 + tblGet s.monoFrac 0 d / 2 ^ 32

/-- A shaper's level now: it rises at its rate until it reaches BURST. -/
def State.tshLevel (s : State) (d k : Nat) : Int :=
  let x := s.shaper d k
  min (x.level + ((s.monoQ16 d - x.at_ : Nat) : Int) * (s.tshRate d k : Nat)) (tshByte * (s.get d (F.SWC_TSH_BURST_BURST k) : Nat))

def State.syncShaper (s : State) (d k : Nat) : State := s.setShaper d k ⟨s.tshLevel d k, s.monoQ16 d⟩

/-- The shaper of a tenant on a port. -/
def State.shaperOf (s : State) (d p t : Nat) : Option Nat :=
  (List.range 256).find? (fun k => s.flag d (F.SWC_TSH_CFG_EN k) && s.get d (F.SWC_TSH_CFG_PORT k) == p &&
    s.get d (F.SWC_TSH_CFG_TID k) == t)

/-- Whether the shaper of a tenant admits a frame. -/
def State.tshAdmits (s : State) (d p t : Nat) : Bool :=
  match s.shaperOf d p t with
  | none => true
  | some k => decide (0 < s.tshRate d k) && decide (0 ≤ s.tshLevel d k)

/-- A frame of `len` bytes after R417 starts: the level falls, not below the floor. -/
def State.tshDebit (s : State) (d p t len : Nat) : State :=
  match s.shaperOf d p t with
  | none => s
  | some k =>
    let l := s.tshLevel d k - tshByte * ((max len 60 + 4 : Nat) : Int)
    s.setShaper d k ⟨max l (-(tshByte * ((s.maxLen d p + 4 : Nat) : Int))), s.monoQ16 d⟩

/-- A write of SWC_TSH_RATE: the level is kept, and the new rate holds from now on (R538). -/
def State.tshWrite (s : State) (d k rate : Nat) : State :=
  let s := (s.syncShaper d k).put d (F.SWC_TSH_RATE_RATE_KBPS k) rate
  s.putFlag d (F.SWC_TSH_CFG_FROZEN k) (s.flag d (F.SWC_TSH_CFG_EN k) && s.get d (F.SWC_TSH_RATE_RATE_KBPS k) == 0)

/-! ## Copies leaving a port -/

/-- Whether a port still holds a copy of a frame, queued or in transmission. -/
def State.holdsCopy (s : State) (d p f : Nat) : Bool :=
  (s.outQueue d p).contains f || (match (s.ethPort d p).tx with | some (g, _) => g == f | none => false)

/-- A port is done with its copy of a frame: at the last copy the charge of its output ends and its engine receives
TXDONE (R899, R402). -/
def State.copyGone (s : State) (d p f : Nat) : State :=
  let last := !(s.red d p != 0 && s.holdsCopy d (mate p) f)
  let s := if last then ((s.leaveOutput f d p).leaveOutput f d (mate p)).txDone (s.frame f) else s
  s.doneWith f

/-- A queued frame dropped or released at an egress queue, with the port's own counter. -/
def State.egressDrop (s : State) (d p f : Nat) (c : Field) : State :=
  let s := s.syncCredits d p
  let q := (s.frame f).queue
  let s := s.setOutQueue d p ((s.outQueue d p).filter (· != f))
  let s := s.modPort d p (fun g => { g with headOk := g.headOk.filter (· != f) })
  (((s.emptyCredit d p q).count d c 1).copyGone d p f)

/-! ## Links (R401, R402) -/

/-- A cut-through frame that a port carries is ended with an inverted FCS (R408, R526). -/
def State.stomp (s : State) (d p f : Nat) : State :=
  ((s.count d (F.ETH_TX_STOMP_COUNT p) 1).putFlag d (F.ETH_PORT_EVENT_TX_STOMP p) true).setFrame f
    { s.frame f with bad := true }

/-- The ports that carry a frame. -/
def State.carriers (s : State) (f : Nat) : List (Nat × Nat) :=
  (s.dieList.flatMap (fun d => (List.range 8).map (fun p => (d, p)))).filter (fun e =>
    match (s.ethPort e.1 e.2).tx with | some (g, _) => g == f | none => false)

/-- Whether a frame is still under cut-through reception. -/
def State.receiving (s : State) (f : Nat) : Bool :=
  s.dieList.any (fun d => (List.range 8).any (fun p => (s.ethPort d p).rxCut == some (some f)))

/-- A reception of `len` bytes that failed: a forwarded copy is ended with an inverted FCS on every port that carries it,
and its bytes are charged to the tenant shaper. -/
def State.endReception (s : State) (d p len : Nat) : State :=
  match (s.ethPort d p).rxCut with
  | some (some f) =>
    let s := (s.carriers f).foldl (fun a e => (a.tshDebit e.1 e.2 (a.frame f).tid len).stomp e.1 e.2 f) s
    s.modPort d p (fun g => { g with rxCut := none })
  | some none => s.modPort d p (fun g => { g with rxCut := none })
  | none => s

/-- Every pause of a port ended. -/
def State.clearPauses (s : State) (d p : Nat) : State :=
  let s := (s.putFlag d (F.ETH_PORT_STATUS_PAUSED p) false).put d (F.ETH_PORT_STATUS_PFC_PAUSED p) 0
  s.modPort d p (fun g => { g with pauseEnd := List.replicate 9 none, pauseSince := List.replicate 9 none })

/-- The frames of a port released as its link goes down: the one in transmission is lost, the queued ones released, each
counted in ETH_DROP_LINK. -/
def State.flushPort (s : State) (d p : Nat) : State :=
  let s := match (s.ethPort d p).tx with
    | some (f, _) =>
      let s := s.modPort d p (fun g => { g with tx := none })
      (s.count d (F.ETH_DROP_LINK_COUNT p) 1).copyGone d p f
    | none => s
  (s.outQueue d p).foldl (fun a f => a.egressDrop d p f (F.ETH_DROP_LINK_COUNT p)) s

/-- A link goes down with a cause code (R402). A link that is down already stays so. -/
def State.linkDown (s : State) (d p cause : Nat) : State :=
  if s.linkUp d p then
    let s := s.syncCredits d p
    let s := ((s.putFlag d (F.ETH_PORT_STATUS_LINK p) false).putFlag d (F.ETH_PORT_STATUS_AN_DONE p) false).clrBit d
      F.ETH_STATUS_LINK p
    let s := (s.endReception d p 64).flushPort d p
    let s := s.putFlag d (F.ETH_PORT_EVENT_LINK_DOWN p) true
    s.portRec d p 3 cause 0 0 (s.now d) 0 0
  else s

/-- A frame arrives at an egress queue of a port; while the link is down it is released at once (R402). -/
def State.arriveEgress (s : State) (d p f : Nat) : State :=
  let s := s.syncCredits d p
  let s := s.setOutQueue d p (s.outQueue d p ++ [f])
  let s := s.modPort d p (fun g => { g with headOk := g.headOk.filter (· != f) })
  if s.linkUp d p then s else s.egressDrop d p f (F.ETH_DROP_LINK_COUNT p)

/-- A frame moved by the scheduler to an Ethernet output: on a redundant pair it takes one sequence number and goes to both
ports whose link is up (R417); with both links down it is released once. -/
def State.toEthernet (s : State) (d p f : Nat) : State :=
  let x := s.frame f
  if s.red d p = 0 ∨ x.single then s.arriveEgress d p f
  else
    let k := p / 2
    let n := (s.ethPair d k).seq
    let s := s.modPair d k (fun g => { g with seq := (g.seq + 1) % 65536 })
    let up := [2 * k, 2 * k + 1].filter (fun i => s.linkUp d i)
    match up with
    | [] => (s.setFrame f { x with redSeq := some n }).arriveEgress d p f
    | [i] => (s.setFrame f { x with redSeq := some n }).arriveEgress d i f
    | _ => ((s.setFrame f { x with redSeq := some n, dests := x.dests + 1 }).arriveEgress d (2 * k) f).arriveEgress d
        (2 * k + 1) f

end Sys2Proof.Machine
end

