-- ==== Sys2Proof/Machine/EthParse.lean ====
section
/-! DEFINITION. The parser of the Ethernet ports (chapter 08, R409 to R414): header levels, the class code, the checks
of length fields, and the checksums of R381. Header layouts are those of the standards that the levels name. -/

namespace Sys2Proof.Machine

/-! ## Bytes of a frame -/

/-- Frame byte `i`; 0 beyond the frame. -/
def fb (bs : List Byte) (i : Nat) : Nat := (bs.getD i 0).toNat
/-- Two bytes in network order. -/
def fb16 (bs : List Byte) (i : Nat) : Nat := 256 * fb bs i + fb bs (i + 1)

/-- A header level (Parser levels). -/
inductive LevelKind where
  | eth | tag | llc | ip4 | ip6 | ext | udp | tcp | appid | ptp
deriving DecidableEq, Repr

/-- What the parser derives from a frame. -/
structure Parsed where
  /-- Levels with their byte offsets, in order. -/
  levels : List (LevelKind × Nat)
  trunc : Bool
  l2 : Nat
  l4 : Nat
  app : Nat
  /-- Tag control information of the innermost tag. -/
  tci : Option Nat
  /-- Offset of the IP header, and the IP payload length less the parsed extension headers. -/
  ip : Option Nat
  ipPay : Nat
  /-- The datagram is a fragment. -/
  frag : Bool
deriving DecidableEq, Repr

/-- L2 of a type field. -/
def l2Code (t : Nat) : Nat :=
  if t < 0x600 then 0xA
  else match t with
    | 0x88B8 => 1 | 0x88BA => 2 | 0x88B9 => 3 | 0x88F7 => 4 | 0x0806 => 5 | 0x0800 => 6 | 0x86DD => 7 | 0x88CC => 8
    | 0x88FB => 9 | _ => 0

/-- L4 of an IP protocol that is not a level. -/
def l4Code (proto : Nat) : Nat := if proto = 1 ∨ proto = 58 then 3 else if proto = 2 then 4 else 5

/-- A header recognised at an offset: recorded as a level, or the walk is truncated (R410). -/
def Parsed.level (p : Parsed) (k : LevelKind) (off len : Nat) : Option Parsed :=
  if p.levels.length ≥ 8 ∨ off + len > 256 then none else some { p with levels := p.levels ++ [(k, off)] }

def Parsed.cut (p : Parsed) : Parsed := { p with trunc := true }

/-- What the walk looks at next: a type field, or an IP protocol with the offset of its header. -/
inductive WalkAt where
  | type (off : Nat)
  | proto (n off : Nat)
  | ptp (off : Nat)

/-- The walk over the header levels (R409, R410). -/
def walk (bs : List Byte) : Nat → WalkAt → Parsed → Parsed
  | 0, _, p => p.cut
  | fuel + 1, .type off, p =>
    let t := fb16 bs off
    if t = 0x8100 ∨ t = 0x88A8 then
      match p.level .tag off 4 with
      | none => p.cut
      | some q => walk bs fuel (.type (off + 4)) { q with tci := some (fb16 bs (off + 2)) }
    else
      let p := { p with l2 := l2Code t }
      let h := off + 2
      if t < 0x600 then (p.level .llc h 3).getD p.cut
      else if t = 0x0800 then
        let len := fb bs h % 16 * 4
        match p.level .ip4 h len with
        | none => p.cut
        | some q =>
          let fo := fb16 bs (h + 6) % 0x2000
          let q := { q with ip := some h, ipPay := fb16 bs (h + 2) - len, frag := fo != 0 || (fb16 bs (h + 6)).testBit 13 }
          if fo ≠ 0 then { q with l4 := 6 } else walk bs fuel (.proto (fb bs (h + 9)) (h + len)) q
      else if t = 0x86DD then
        match p.level .ip6 h 40 with
        | none => p.cut
        | some q => walk bs fuel (.proto (fb bs (h + 6)) (h + 40)) { q with ip := some h, ipPay := fb16 bs (h + 4) }
      else if t = 0x88B8 ∨ t = 0x88B9 ∨ t = 0x88BA then
        ((p.level .appid h 8).map (fun q => { q with app := 2 })).getD p.cut
      else if t = 0x88F7 then ((p.level .ptp h 34).map (fun q => { q with app := 1 })).getD p.cut
      else p
  | fuel + 1, .proto n off, p =>
    let v6 := (p.levels.any (fun l => l.1 == .ip6))
    if n = 17 then
      match p.level .udp off 8 with
      | none => p.cut
      | some q =>
        let q := { q with l4 := 1 }
        if fb16 bs (off + 2) = 319 ∨ fb16 bs (off + 2) = 320 then walk bs fuel (.ptp (off + 8)) q else q
    else if n = 6 then
      ((p.level .tcp off (fb bs (off + 12) / 16 * 4)).map (fun q => { q with l4 := 2 })).getD p.cut
    else if v6 ∧ (n = 0 ∨ n = 43 ∨ n = 44 ∨ n = 60) then
      let len := if n = 44 then 8 else (fb bs (off + 1) + 1) * 8
      match p.level .ext off len with
      | none => p.cut
      | some q =>
        let q := { q with ipPay := q.ipPay - len }
        if n = 44 then
          let fo := fb16 bs (off + 2) / 8
          let q := { q with frag := fo != 0 || (fb16 bs (off + 2)).testBit 0 }
          if fo ≠ 0 then { q with l4 := 6 } else walk bs fuel (.proto (fb bs off) (off + len)) q
        else walk bs fuel (.proto (fb bs off) (off + len)) q
    else { p with l4 := l4Code n }
  | _ + 1, .ptp off, p => ((p.level .ptp off 34).map (fun q => { q with app := 1 })).getD p.cut

/-- The parser on a frame after step 6. -/
def parseFrame (bs : List Byte) : Parsed :=
  walk bs 10 (.type 12) ⟨[(.eth, 0)], false, 0, 0, 0, none, none, 0, false⟩

/-- DEST: 0 the port's MAC, 1 multicast, 2 broadcast, 3 another unicast address. -/
def destCode (mac : Nat) (bs : List Byte) : Nat :=
  let da := leNat (bs.take 6)
  if da = 0xFFFFFFFFFFFF then 2 else if da.testBit 0 then 1 else if da = mac then 0 else 3

/-- CLASS (R413). -/
def Parsed.cls (p : Parsed) (dest : Nat) : Nat := p.l2 + 16 * p.l4 + 256 * dest + 4096 * p.app

/-- HOFF: the offsets of levels 1 to 8, 0xFFFF beyond. -/
def Parsed.hoff (p : Parsed) : List Nat :=
  (List.range 8).map (fun i => ((p.levels[i]?).map (·.2)).getD 0xFFFF)

/-! ## Contradictory length fields (R414) -/

/-- A failed check: CHECK, LEVEL, FIELD and AVAIL. -/
structure LenFail where
  check : Nat
  level : Nat
  field : Nat
  avail : Nat
deriving DecidableEq, Repr

/-- Whether a declared length contradicts AVAIL; a frame of LEN 60 may be padded. -/
def lenBad (len declared avail : Nat) : Bool := decide (declared > avail) || (decide (declared < avail) && len != 60)

/-- The check of one parsed level. -/
def levelCheck (bs : List Byte) (p : Parsed) (n : Nat) (l : LevelKind × Nat) : Option LenFail :=
  let len := bs.length
  let off := l.2
  let avail := len - off
  let mk := fun (c f a : Nat) (bad : Bool) => if bad then some (LenFail.mk c n f a) else none
  match l.1 with
  | .llc =>
    let f := fb16 bs (off - 2)
    mk 1 f avail ((decide (0x5DD ≤ f) && decide (f ≤ 0x5FF)) || lenBad len f avail)
  | .ip4 =>
    let t := fb16 bs (off + 2)
    let ihl := fb bs off % 16
    mk 2 t avail (decide (ihl < 5) || decide (t < ihl * 4) || lenBad len t avail)
  | .ip6 =>
    let f := fb16 bs (off + 4)
    mk 3 f avail (f == 0 || lenBad len (40 + f) avail)
  | .udp =>
    let u := fb16 bs (off + 4)
    mk 4 u avail (!p.frag && (decide (u < 8) || u != p.ipPay))
  | .tcp =>
    let o := fb bs (off + 12) / 16
    mk 5 o avail (decide (o < 5) || decide (o * 4 > p.ipPay))
  | .appid =>
    let f := fb16 bs (off + 2)
    mk 6 f avail (decide (f < 8) || lenBad len f avail)
  | .ptp =>
    let f := fb16 bs (off + 2)
    let udp := p.levels.find? (fun x => x.1 == .udp)
    let beyond := match udp with
      | some u => decide (f > fb16 bs (u.2 + 4) - 8)
      | none => false
    mk 7 f avail (decide (f < 34) || decide (f > avail) || beyond)
  | _ => none

/-- The first failing check of the parsed levels in level order. -/
def lengthCheck (bs : List Byte) (p : Parsed) : Option LenFail :=
  ((List.range p.levels.length).zip p.levels).findSome? (fun e => levelCheck bs p (e.1 + 1) e.2)

/-! ## Checksums (R381) -/

/-- The ones' complement sum of 16-bit words in network order. -/
def onesSum : List Byte → Nat → Nat
  | b0 :: b1 :: r, a =>
    let x := a + 256 * b0.toNat + b1.toNat
    onesSum r (x % 65536 + x / 65536)
  | [b0], a =>
    let x := a + 256 * b0.toNat
    x % 65536 + x / 65536
  | [], a => a

/-- Whether a received datagram has a good IPv4 header checksum, and its unfragmented TCP or UDP segment a good one. -/
def checksumsOk (bs : List Byte) (p : Parsed) : Bool :=
  match p.ip with
  | none => true
  | some h =>
    let v6 := p.levels.any (fun l => l.1 == .ip6)
    let hdr := v6 || onesSum ((bs.drop h).take (fb bs h % 16 * 4)) 0 == 0xFFFF
    let seg := match p.levels.find? (fun l => l.1 == .udp || l.1 == .tcp) with
      | none => true
      | some l =>
        if p.frag then true
        else if l.1 = .udp ∧ v6 = false ∧ fb16 bs (l.2 + 6) = 0 then true
        else
          let addrs := if v6 then (bs.drop (h + 8)).take 32 else (bs.drop (h + 12)).take 8
          let proto := if l.1 = .udp then 17 else 6
          onesSum ((bs.drop l.2).take p.ipPay) (onesSum addrs (proto + p.ipPay)) == 0xFFFF
    hdr && seg

/-- The L4 destination and source ports, when a UDP or TCP header was parsed (R513). -/
def Parsed.l4Ports (p : Parsed) (bs : List Byte) : Option (Nat × Nat) :=
  (p.levels.find? (fun l => l.1 == .udp || l.1 == .tcp)).map (fun l => (fb16 bs (l.2 + 2), fb16 bs l.2))

/-- The APPID, when its header was parsed. -/
def Parsed.appId (p : Parsed) (bs : List Byte) : Option Nat :=
  (p.levels.find? (fun l => l.1 == .appid)).map (fun l => fb16 bs l.2)

end Sys2Proof.Machine
end

