-- ==== Sys2Proof/Machine/RxOps.lean ====
section
/-! DEFINITION. What every receiver does at step 10 (chapter 11): the choice of a binding, the frame placed in cells, its
route, admission and capture. -/

namespace Sys2Proof.Machine

/-! ## Bindings (R513) -/

/-- Whether a binding matches a frame of a die and PORT code; `key` gives the keys that are present. -/
def bindMatches (b : Binding) (d port cls : Nat) (key : Nat → Option Nat) : Bool :=
  b.die == d && b.port == port && (cls &&& b.cmask) == (b.cval &&& b.cmask) &&
    (b.sel == 0 || (match key b.sel with
      | some k => (k &&& b.kmask) == (b.kval &&& b.kmask)
      | none => false))

/-- The best of the matching bindings: the highest PRIO, at equal PRIO the lowest section index. -/
def bestBinding : List (Nat × Binding) → Option (Nat × Binding)
  | [] => none
  | e :: r =>
    match bestBinding r with
    | none => some e
    | some m => if m.2.prio > e.2.prio then some m else some e

def pickBinding (bs : List Binding) (d port cls : Nat) (key : Nat → Option Nat) : Option (Nat × Binding) :=
  bestBinding (((List.range bs.length).zip bs).filter (fun e => bindMatches e.2 d port cls key))

/-- The keys of a parsed Ethernet frame. -/
def ethKey (bs : List Byte) (p : Parsed) (sel : Nat) : Option Nat :=
  match sel with
  | 1 => p.tci.map (· % 4096)
  | 2 => p.appId bs
  | 3 => (p.l4Ports bs).map (·.1)
  | 4 => (p.l4Ports bs).map (·.2)
  | 5 => some (leNat (bs.take 2))
  | _ => none

/-- The keys of a serial or time-triggered frame: its first two bytes alone. -/
def rawKey (bs : List Byte) (sel : Nat) : Option Nat := if sel = 5 then some (leNat (bs.take 2)) else none

/-! ## Cells of a received frame (R508, R511) -/

/-- Frame bytes filled to whole words with bytes that the spec leaves open. -/
def State.padWords (s : State) (bs : List Byte) : List Byte × State :=
  if bs.length % 8 = 0 then (bs, s)
  else
    let r := s.freeVal (2 ^ 64)
    (bs ++ leBytes (8 - bs.length % 8) r.1, r.2)

/-- A received frame of `n` cells placed in cells of the reception reserve: its descriptor; none when no descriptor is
free. The flag says that a cell write was refused (R156). -/
def State.rxStore (s : State) (d owner n : Nat) (x : Frame) (bs : List Byte) : Option (Nat × Bool × State) :=
  match s.freeDesc d with
  | none => none
  | some f =>
    let cs := s.freeCells d n
    let s := cs.foldl (fun a c => a.ownCell d owner c) s
    let x := { x with
      live := true, cells := cs, charged := none, dests := 1, outs := [] }
    let s := (s.setFrame f x).put d F.SWC_POOL_RX_HELD (s.get d F.SWC_POOL_RX_HELD + cs.length)
    let ok := s.cellsAllowed d x true
    if !ok.1 then some (f, true, ok.2.syncDesc d)
    else
      let w := ok.2.padWords bs
      some (f, false, (w.2.frameWrite d x 0 2 w.1 (n + 1)).2.syncDesc d)

/-! ## Routes (R514) -/

/-- Queue and class of a binding: the output on its die, the class, and the egress queue. -/
def bindOutput (b : Binding) (trunc : Bool) : Option Nat :=
  match b.dest with
  | 0 => some (17 + 4 * b.target + (if trunc then b.slowq else b.queue))
  | 1 => portOutput b.target
  | 2 => some (49 + b.target)
  | _ => none

def bindDie (b : Binding) (d : Nat) : Nat := if b.dest = 1 then b.destDie else d

/-- Class H (R514). -/
def bindClassH (b : Binding) (trunc : Bool) : Bool :=
  (b.dest == 0 && b.headline && !trunc) || (b.dest == 1 && b.cut)

/-- The recorder gained as a second destination (R527). -/
def State.captureTo (s : State) (d f own : Nat) : State :=
  let x := s.frame f
  if !x.live then s
  else match s.outputCheck d 113 x.cells.length with
    | some _ => s.count d (F.SWC_DROP_COUNT 10) 1
    | none => (s.setFrame f { x with dests := x.dests + 1 }).enterVoq f d 113 own x.cells.length false

/-- A frame that passed the earlier steps, bound and admitted or dropped (R513, R522, R384, R381). `own` is its input,
`owner` the unit that received it, `csum` whether its checksums are good. -/
def State.bindRx (s : State) (d own owner : Nat) (cfg : HarnessCfg) (x : Frame) (bs : List Byte) (trunc csum : Bool)
    (key : Nat → Option Nat) : State :=
  match pickBinding cfg.switch.bindings d x.port x.cls key with
  | none => s.countDrop d 1 0
  | some (i, b) =>
    match bindOutput b trunc with
    | none => s.countDrop d 2 b.tid
    | some o =>
      let transport := b.dest == 0 && (match placeOf cfg d b.target with | some p => p.transport | none => false)
      if transport ∧ ¬ csum then (s.count d F.PKT_CSUM_ERR_COUNT 1).putFlag d F.PKT_EVENT_CSUM_ERR true
      else
        let hi := bindClassH b trunc
        match s.rxStore d owner (cellsOf bs.length) { x with
            tid := b.tid, binding := i, capClass := b.capClass, hi := hi, queue := if b.dest = 1 then b.queue else 0 } bs with
        | none => s.countDrop d 3 b.tid
        | some (f, refused, s) =>
          if refused then s.dropFrame d f 8
          else
            let s := s.takeIn f b.tid (bindDie b d) o own (cellsOf bs.length) hi
            let s := if b.dest = 2 ∧ (s.frame f).live then s.count d F.PKT_PASS_FRAMES_COUNT 1 else s
            if b.capture then s.captureTo d f own else s

end Sys2Proof.Machine
end

