-- ==== Sys2Proof/Machine/SerOps.lean ====
section
/-! DEFINITION. The shared operations of the serial fieldbus ports (chapter 09): configuration, frame content, error counters,
the transmit FIFO with its inversion episodes, and serial port records. -/

namespace Sys2Proof.Machine

def State.ser (s : State) (d p : Nat) : SerPort := tblGet s.serPorts SerPort.reset (d * 8 + p)
def State.modSer (s : State) (d p : Nat) (g : SerPort → SerPort) : State :=
  { s with serPorts := tblSet s.serPorts SerPort.reset (d * 8 + p) (g (s.ser d p)) }

def serUid (d p : Nat) : Nat := uid d 3 p

/-- The PORTS entry of a serial port in the configuration that it executes. -/
def State.serCfg (s : State) (d p : Nat) : SerEntry :=
  ((s.cfgOf (serUid d p)).serial.find? (fun e => e.die == d && e.port == p)).getD default
def State.ttcanCfg (s : State) (d p : Nat) : Option TtcanEntry :=
  (s.cfgOf (serUid d p)).ttcan.find? (fun e => e.die == d && e.port == p)

def State.serMode (s : State) (d p : Nat) : Nat := s.get d (F.SER_PORT_CFG_MODE p)
def State.serState (s : State) (d p : Nat) : Nat := s.get d (F.SER_PORT_STATUS_STATE p)
def State.isCan (s : State) (d p : Nat) : Bool := s.serMode d p == 1 || s.serMode d p == 2
def State.isActive (s : State) (d p : Nat) : Bool :=
  s.serState d p == 3 && !s.flag d (F.SER_PORT_CTRL_ADMIN_DOWN p)

/-- STATE with its bit in SER_STATUS.ACTIVE. -/
def State.serTo (s : State) (d p st : Nat) : State :=
  let s := s.put d (F.SER_PORT_STATUS_STATE p) st
  if st = 3 then s.setBit d F.SER_STATUS_ACTIVE p else s.clrBit d F.SER_STATUS_ACTIVE p

/-! ## Records (R476) -/

def State.serRec (s : State) (d p kind detail value : Nat) : State :=
  let i := kind - 0x11
  let g := s.ser d p
  let recent := match g.lastRec.getD i none with
    | some t => decide (s.mono d < t + 1000000000)
    | none => false
  if recent then s.modSer d p (fun g => { g with suppressed := g.suppressed.modify i (· + 1) })
  else
    let body := leBytes 1 kind ++ leBytes 1 detail ++ leBytes 2 (serUid d p) ++ leBytes 4 value ++ leBytes 8 (s.now d) ++
      leBytes 4 (min (g.suppressed.getD i 0) 0xFFFFFFFF) ++ leBytes 12 0
    (s.partRec d 3 3 p body).modSer d p (fun g => { g with
      lastRec := g.lastRec.set i (some (s.mono d)), suppressed := g.suppressed.set i 0 })

/-! ## Frame content (R451) -/

/-- Data bytes that a DLC gives (ISO 11898-1). -/
def dlcBytes (fdf rtr : Bool) (dlc : Nat) : Nat :=
  if rtr then 0
  else if dlc ≤ 8 then dlc
  else if !fdf then 8
  else match dlc with | 9 => 12 | 10 => 16 | 11 => 20 | 12 => 24 | 13 => 32 | 14 => 48 | _ => 64

/-- The content of a CAN frame. -/
def canBytes (ident : Nat) (ide rtr fdf : Bool) (dlc : Nat) (brs esi : Bool) (data : List Byte) : List Byte :=
  leBytes 4 ((if ide then ident % 2 ^ 29 else ident % 2 ^ 11) + 2 ^ 29 * bit ide + 2 ^ 30 * bit rtr + 2 ^ 31 * bit fdf) ++
    leBytes 1 dlc ++ leBytes 1 (bit brs + 2 * bit esi) ++ leBytes 2 0 ++ data

/-- The fields of a CAN frame's content. -/
structure CanHead where
  ident : Nat
  ide : Bool
  rtr : Bool
  fdf : Bool
  dlc : Nat
  brs : Bool
  esi : Bool
deriving DecidableEq, Repr

def canHead (bs : List Byte) : CanHead :=
  let w := leNat (bs.take 4)
  let b := fun (i : Nat) => (bs.getD i 0).toNat
  ⟨w % 2 ^ 29, w.testBit 29, w.testBit 30, w.testBit 31, b 4 % 16, (b 5).testBit 0, (b 5).testBit 1⟩

/-- The FT1.2 checks (R455, IEC 60870-5-1): CLASS.DETAIL of a good frame. -/
def ft12Kind (bs : List Byte) : Option Nat :=
  let b := fun (i : Nat) => (bs.getD i 0).toNat
  let n := bs.length
  let sum := fun (l : List Byte) => (l.map (·.toNat)).foldl (· + ·) 0 % 256
  if b 0 = 0xE5 ∧ n = 1 then some 3
  else if b 0 = 0x10 ∧ 4 ≤ n ∧ b (n - 1) = 0x16 ∧ sum ((bs.drop 1).take (n - 3)) = b (n - 2) then some 1
  else if b 0 = 0x68 ∧ b 1 = b 2 ∧ b 3 = 0x68 ∧ n = b 1 + 6 ∧ b (n - 1) = 0x16 ∧ sum ((bs.drop 4).take (b 1)) = b (n - 2)
    then some 2
  else none

/-- Data bytes of an MVB slave frame by F_code (IEC 61375-3-1); none for a reserved one. -/
def mvbSlaveLen (fcode : Nat) : Option Nat :=
  match fcode with
  | 0 | 8 | 9 | 13 | 14 | 15 => some 2
  | 1 => some 4
  | 2 => some 8
  | 3 => some 16
  | 4 | 12 => some 32
  | _ => none

/-- Whether a transmit frame's content breaks the Serial frame content table for a mode (R463). -/
def serTxBad (mode format : Nat) (bs : List Byte) : Bool :=
  let n := bs.length
  if n = 0 then true
  else if mode = 1 ∨ mode = 2 then
    let h := canHead bs
    n != 8 + dlcBytes h.fdf h.rtr h.dlc || (h.fdf && mode == 1) || (h.brs && !h.fdf) || (h.rtr && h.fdf) ||
      (!h.ide && decide (2 ^ 11 ≤ h.ident)) || leNat ((bs.drop 4).take 4) != h.dlc + 256 * (bit h.brs + 2 * bit h.esi)
  else if mode = 3 then format % 4 == 2 && n % 2 == 1
  else if mode = 6 then (ft12Kind bs).isNone
  else if mode = 4 then
    let k := (bs.getD 0 0).toNat
    !(k == 0 && n == 4 || k == 1 && [4, 6, 10, 18, 34].contains n)
  else false

/-- The arbitration key (R465). -/
def arbKey (bs : List Byte) : Nat :=
  let h := canHead bs
  if h.ide then h.ident / 2 ^ 18 * 2 ^ 21 + 2 ^ 20 + 2 ^ 19 + h.ident % 2 ^ 18 * 2 + bit h.rtr
  else h.ident % 2 ^ 11 * 2 ^ 21 + 2 ^ 20 * bit h.rtr

/-- The stored first bytes of a queued frame. -/
def State.headBytes (s : State) (f n : Nat) : List Byte :=
  let x := s.frame f
  (List.range (min n x.len)).map (fun i => s.byte (frameDie f) (x.off i))

/-! ## Error counters (R460) -/

def State.canState (s : State) (d p : Nat) : State :=
  if s.get d (F.SER_CAN_ERR_ERR_STATE p) = 2 then s
  else s.put d (F.SER_CAN_ERR_ERR_STATE p)
    (bit (decide (127 < s.get d (F.SER_CAN_ERR_TEC p)) || decide (127 < s.get d (F.SER_CAN_ERR_REC p))))

def State.addTec (s : State) (d p n : Nat) : State := (s.count d (F.SER_CAN_ERR_TEC p) n).canState d p
def State.addRec (s : State) (d p n : Nat) : State := (s.count d (F.SER_CAN_ERR_REC p) n).canState d p
def State.subTec (s : State) (d p : Nat) : State :=
  (s.put d (F.SER_CAN_ERR_TEC p) (s.get d (F.SER_CAN_ERR_TEC p) - 1)).canState d p

/-- REC after a frame received without error: above 127 it takes a value of 119 to 127 (ISO 11898-1). -/
def State.subRec (s : State) (d p : Nat) : State :=
  let r := s.get d (F.SER_CAN_ERR_REC p)
  if 127 < r then
    let v := s.freeVal 9
    (v.2.put d (F.SER_CAN_ERR_REC p) (119 + v.1)).canState d p
  else (s.put d (F.SER_CAN_ERR_REC p) (r - 1)).canState d p

/-! ## The FIFO and inversion episodes (R462 to R467) -/

/-- Whether a frame behind the head has a key below the head's key. -/
def State.inverted (s : State) (d p : Nat) : Bool :=
  match (s.ser d p).fifo with
  | [] => false
  | h :: r => s.isCan d p && r.any (fun f => decide (arbKey (s.headBytes f 8) < arbKey (s.headBytes h 8)))

/-- The longest episode with one of `us` µs taken into account. -/
def State.invMax (s : State) (d p us : Nat) : State :=
  s.put d (F.SER_INV_TIME_MAX_US p) (min (max us (s.get d (F.SER_INV_TIME_MAX_US p))) 0xFFFFFFFF)

/-- Length of the episode in progress in µs. -/
def State.invLength (s : State) (d p : Nat) : Nat :=
  match (s.ser d p).invSince with
  | some t => (s.mono d - t) / 1000
  | none => 0

/-- The FIFO's views and the start or end of an inversion episode, after every change of the FIFO. -/
def State.syncFifo (s : State) (d p : Nat) : State :=
  let g := s.ser d p
  let s := (s.put d (F.SER_TX_CTRL_FIFO_COUNT p) g.fifo.length).put d (F.SER_TX_CTRL_EXCL_FULL p)
    (g.excl.foldl (fun a e => a ||| 2 ^ e.1) 0)
  match s.inverted d p, g.invSince with
  | true, none =>
    (s.count d (F.SER_INV_CNT_COUNT p) 1).modSer d p (fun g => { g with invSince := some (s.mono d), invLong := false })
  | false, some _ => (s.invMax d p (s.invLength d p)).modSer d p (fun g => { g with invSince := none, invLong := false })
  | _, _ => s

/-- A queued frame released without being sent: counted in one of the port's counters, TXDONE given. -/
def State.serDrop (s : State) (d p f : Nat) (c : Field) : State :=
  let s := s.modSer d p (fun g => { g with fifo := g.fifo.filter (· != f), excl := g.excl.filter (fun e => e.2 != f) })
  let s := (s.count d c 1).putFlag d (F.SER_PORT_EVENT_TX_DROP p) true
  (((s.leaveOutput f d (8 + p)).txDone (s.frame f)).doneWith f).syncFifo d p

/-- A write of ABORT_HEAD (R467). -/
def State.abortHead (s : State) (d p : Nat) : State :=
  match (s.ser d p).fifo with
  | [] => s
  | f :: _ =>
    if s.flag d (F.SER_TX_CTRL_ABORT_HEAD p) then s
    else if (s.ser d p).tx = some (f, false) then s.putFlag d (F.SER_TX_CTRL_ABORT_HEAD p) true
    else s.serDrop d p f (F.SER_TX_ABORT_COUNT p)

/-- Every queued frame of a port released (R477, R478). -/
def State.serFlush (s : State) (d p : Nat) : State :=
  let g := s.ser d p
  let s := (s.modSer d p (fun g => { g with tx := none })).putFlag d (F.SER_PORT_STATUS_BUSY p) false
  let s := s.putFlag d (F.SER_TX_CTRL_ABORT_HEAD p) false
  (s.outQueue d (8 + p) ++ g.fifo ++ g.excl.map (·.2)).foldl (fun a f =>
    (a.setOutQueue d (8 + p) ((a.outQueue d (8 + p)).filter (· != f))).serDrop d p f (F.SER_TX_DROP_FLUSH_COUNT p)) s

/-- The frame at the head of the switch core's queue of an accepted SEND enters the FIFO or an exclusive buffer (R462, R463,
R475). -/
def State.fifoEnter (s : State) (d p : Nat) : State :=
  match s.outQueue d (8 + p) with
  | [] => s
  | f :: rest =>
    let s := s.setOutQueue d (8 + p) rest
    let x := s.frame f
    if x.queue = 0 then
      if 32 ≤ (s.ser d p).fifo.length then s.serDrop d p f (F.SER_TX_DROP_FULL_COUNT p)
      else if serTxBad (s.serMode d p) (s.serCfg d p).format (s.headBytes f x.len) then
        s.serDrop d p f (F.SER_TX_BAD_COUNT p)
      else (s.modSer d p (fun g => { g with fifo := g.fifo ++ [f] })).syncFifo d p
    else if 0x10 ≤ x.queue ∧ x.queue < 0x20 then
      let n := x.queue - 0x10
      let s := match (s.ser d p).excl.find? (fun e => e.1 == n) with
        | some e =>
          let s := s.modSer d p (fun g => { g with
            excl := g.excl.filter (fun y => y.1 != n), tx := if g.tx = some (e.2, true) then some (f, true) else g.tx })
          ((s.leaveOutput e.2 d (8 + p)).txDone (s.frame e.2)).doneWith e.2
        | none => s
      (s.modSer d p (fun g => { g with excl := g.excl ++ [(n, f)] })).syncFifo d p
    else s.serDrop d p f (F.SER_TX_BAD_COUNT p)

/-- The bit time of a port that is not in a CAN mode, in 0.1 ns (R450). -/
def State.serBitT (s : State) (d p : Nat) : Nat :=
  let n := (s.serCfg d p).nom
  (n / 2 ^ 28 + 1) * (n % 2 ^ 28) * 25 / 256

end Sys2Proof.Machine
end

