-- ==== Sys2Proof/Machine/AwlOps.lean ====
section
/-! DEFINITION. The shared operations of the Awl engines (chapters 05 and 06): traps and resets, the frame window, the
store buffer, special registers, window accesses and the way an instruction executes. -/

namespace Sys2Proof.Machine

/-! ## The multiplier's results in flight (R347) -/

/-- One instruction (or trap entry, or WAIT) has passed: results that reach their third instruction become visible. -/
def Eng.mulTick (g : Eng) : Eng :=
  let q := g.accQ.map (fun e => (e.1 - 1, e.2))
  { g with accVis := ((q.filter (·.1 == 0)).getLast?.map (·.2)).getD g.accVis, accQ := q.filter (·.1 != 0) }

/-- A multiplier operation issued: the accumulator it leaves, visible to the third instruction after it (R348). -/
def Eng.mulIssue (g : Eng) (v : Nat) : Eng :=
  { g with acc := v % 2 ^ 40, accQ := g.accQ ++ [(3, v % 2 ^ 40)] }

/-! ## The switch map's rights of a cluster -/

/-- The tenant charged at ALLOC on a cluster (R524). -/
def State.allocTenant (s : State) (d c : Nat) : Nat :=
  ((s.cfg.switch.allocs.find? (fun a => a.1 == d && a.2.1 == c)).map (·.2.2)).getD 0

/-- Whether a tenant is a tenant of a cluster's bindings (R512). -/
def State.clusterTenant (s : State) (d c t : Nat) : Bool :=
  s.cfg.switch.bindings.any (fun b => b.die == d && b.dest == 0 && b.target == c && b.tid == t) ||
    s.cfg.switch.allocs.any (fun a => a.1 == d && a.2.1 == c && a.2.2 == t)

/-- An egress grant of a tenant (R512, R525): for an Ethernet port or a record submission the queue's bit, else any. -/
def State.egressGrant (s : State) (t die port queue : Nat) : Bool :=
  (portOutput port).isSome && s.cfg.switch.grants.any (fun g => g.1 == die && g.2.1 == port && g.2.2.2 == t &&
    (if port < 8 ∨ port = 0x40 then decide (queue < 8) && g.2.2.1.testBit queue else g.2.2.1 != 0))

/-! ## Frames of an engine -/

/-- A transmit frame handed to the switch core (R525): recharged when its tenant differs, then checked at its output. -/
def State.sendFrame (s : State) (d own f : Nat) : State :=
  let x := s.frame f
  let n := x.cells.length
  match portOutput x.port with
  | none => s
  | some o =>
    if x.charged = some x.tid then s.toOutput f x.die o own n false
    else
      let s1 := match x.charged with
        | some t => s.unchargeTenant d t n
        | none => s
      match s1.tenantCheck d x.tid n true with
      | some r =>
        let s2 := match x.charged with
          | some t => s1.chargeTenant d t n
          | none => s1
        s2.dropFrame d f r
      | none => ((s1.setCharged f x.tid).chargeTenant d x.tid n).toOutput f x.die o own n false

/-- ALLOC (R524): descriptor, cells and tenant charge of a transmit frame of `len` bytes whose bytes all read 0 (R269).
None when a check fails. -/
def State.allocTx (s : State) (d owner t len : Nat) : Option (Nat × State) :=
  let n := cellsOf len
  match s.freeDesc d with
  | none => none
  | some f =>
    match s.tenantCheck d t n true with
    | some _ => none
    | none =>
      let cs := s.freeCells d n
      let s := cs.foldl (fun a c => a.ownCell d owner c) s
      let s := s.setFrame f { (default : Frame) with
        live := true, len := len, kind := 4, tid := t, cells := cs, charged := some t, dests := 1, written := len,
        hoff := List.replicate 8 0 }
      let s := cs.foldl (fun a c => a.vatStore d (cellOff c) (List.replicate 128 0)) s
      some (f, ((s.setCharged f t).chargeTenant d t n).syncDesc d)

/-- The receive frame of an engine released. -/
def State.releaseRx (s : State) (d e : Nat) : State :=
  match (s.eng d e).rx with
  | some i => (s.freeSlot d (e / 8) i).modEng d e (fun g => { g with rx := none, held := false })
  | none => s

/-- A transmit frame discarded: its buffered stores are dropped and its cells freed (R344). -/
def State.discardTx (s : State) (d e : Nat) : State :=
  match (s.eng d e).tx with
  | some f =>
    let s := s.modEng d e (fun g => { g with tx := none, sb := g.sb.filter (fun i => match i with
      | .store x => x.target != .frame f
      | _ => true) })
    s.freeFrame f
  | none => s

/-! ## Commit groups -/

/-- Whether the engine's released group fits into its die's commit queue (R532). -/
def State.groupFits (s : State) (d e : Nat) : Bool :=
  decide ((tblGet s.commitQ [] d).length + (s.eng d e).group.length ≤ 4096)

/-- The group released to the welt (R199, R201): each commit carries the mark of its release, unless its issuer's scope
is fenced. -/
def State.pushGroup (s : State) (d e : Nat) : State :=
  let g := s.eng d e
  let ok := !s.scopeFenced (engUid d e)
  let q := g.group.map (fun k => { k with released := ok })
  let s : State := { s with commitQ := tblSet s.commitQ [] d (tblGet s.commitQ [] d ++ q) }
  s.setEng d e { g with group := [], outstanding := g.outstanding + q.length }

/-! ## Mailboxes (R644 to R646) -/

/-- A page register flag of the mailbox slot bound to an engine, and a page event with it. -/
def State.mbxPage (s : State) (d e : Nat) (stat : Nat → Field) (ev : Field) : State :=
  if s.flag d (F.MBX_ENG_BOUND e) then
    let t := s.get d (F.MBX_ENG_TID e)
    (s.pputFlag 0 t (stat (s.get d (F.MBX_ENG_SLOT e))) true).pageEvent t ev
  else s

/-- The engine pops the oldest inbound word; popping the last one is reported (R646). -/
def State.mbxPop (s : State) (d e : Nat) : Option (W16 × State) :=
  match (s.eng d e).mbxIn with
  | [] => none
  | w :: r =>
    let s := s.modEng d e (fun g => { g with mbxIn := r })
    if r = [] then
      let s := s.mbxPage d e F.MBX_PG_STAT_EMPTY F.PCI_PG_EVENT_MBX_EMPTY
      some (w, if s.get 0 F.POM_MBX_DIE = d ∧ s.get 0 F.POM_MBX_ENGINE = e then s.putFlag 0 F.POM_MBX_EMPTY true else s)
    else some (w, s)

/-- A word delivered to the outbound queue; ARRIVED when the queue was empty (R646). -/
def State.mbxDeliver (s : State) (d e : Nat) (w : W16) : State :=
  let was := (s.eng d e).mbxOut
  let s := s.modEng d e (fun g => { g with mbxOut := g.mbxOut ++ [w] })
  if was = [] then s.mbxPage d e F.MBX_PG_STAT_ARRIVED F.PCI_PG_EVENT_MBX_IN else s

/-- Outbound words queued or waiting behind older stores. -/
def Eng.outWords (g : Eng) : Nat :=
  g.mbxOut.length + (g.sb.filter (fun i => match i with | .mbx _ => true | _ => false)).length

/-! ## Draining the store buffer (R340, R343, R344) -/

/-- Bytes written to the shared scratchpad at a byte address (whole words). -/
def State.sharedWrite (s : State) (d c a : Nat) : List Byte → State
  | b0 :: b1 :: rest =>
    (s.spadSet d c (sharedWord (a / 2)) (BitVec.ofNat 16 (b0.toNat + 256 * b1.toNat))).sharedWrite d c (a + 2) rest
  | _ => s

/-! ## Instruction-bank operations (R281, R282) -/

/-- Whether the STAGED configuration, or from the instant on the new CURRENT one, affects a cluster. -/
def State.affects (s : State) (d c : Nat) : Bool :=
  (if s.get 0 F.HAR_STATUS_STATE = 9 then s.har.current else s.har.staged).any (fun i => (clUid d c :: (List.range 8).map (fun k => engUid d (8 * c + k))).any
    (fun u => i.cfg.admission.affected.contains u))

/-- A re-harness is in progress for an affected cluster: PREPARING to SWITCHING. -/
def State.reharnessing (s : State) (d c : Nat) : Bool :=
  decide (5 ≤ s.get 0 F.HAR_STATUS_STATE) && s.affects d c

/-- A requested operation on a bank, 1 TEST, 2 CLEAR, 3 RELOAD: refused with AWL_ARRAY_BUSY (R282) or started. -/
def State.ibankStart (s : State) (d c op sel : Nat) : State :=
  let busy := (List.range 8).any (fun i => (s.eng d (8 * c + i)).bank == sel) || (s.cl d c).ibank.isSome ||
    s.reharnessing d c
  if op = 0 then s
  else if busy then
    (s.put d (F.AWL_CL_STATUS_IBANK_RESULT c) 3).putFlag d F.AWL_EVENT_IBANK_REFUSED true
  else (s.setCl d c { s.cl d c with ibank := some (op, sel) }).putFlag d (F.AWL_CL_STATUS_IBANK_BUSY c) true

/-- A register write by an engine through the control window (R274, R294, R467, R610). -/
def State.ctlWrite (s : State) (d c off v : Nat) : State :=
  let blk := off / 0x40000
  if blk = 1 then (if v.testBit 0 then s.abortHead d (off % 0x2000 / 0x400) else s)
  else if blk = 5 then
    if off = R.LCE_CUE.off then
      let mine := (List.range 16).foldl (fun a e =>
        if (s.lceBind d e).any (fun b => b.1 == c) then a + v % 65536 / 2 ^ e % 2 * 2 ^ e else a) 0
      s.cue d (v / 65536 % 8) mine (v / 0x80000 % 512)
    else if 0x140100 ≤ off ∧ off < 0x140500 then
      let e := (off - 0x140100) / 0x40
      match (off - 0x140100) % 0x40 with
      | 0x08 => s.put d (F.LCE_LOOP_SEL e) v
      | 0x0C => s.divWrite d e v
      | 0x10 => s.lcePush d e v
      | _ => s.rawWrite d off v
    else
      let k := (off - 0x142000) / 4
      s.loopDef d (k / 4) (k % 4) (v % 32) (v / 256 % 32)
  else if blk = 13 then
    let s := if v.testBit 0 then (s.count d F.TEN_DENIED_COUNT 1).putFlag 0 F.TEN_EVENT_DENIED true else s
    s.ibankStart d c (v / 2 % 4) (v / 8 % 2)
  else if blk = 10 then
    (List.range 2).foldl (fun a i =>
      let r := if i = 0 then R.PKT_CL_SLOW c else R.PKT_CL_DROP c
      if off = r.off then
        let b := a.wr d r (BitVec.ofNat 64 (v % 2 ^ 32))
        if i = 1 ∧ a.rd d r ≠ b.rd d r then b.putFlag d F.PKT_EVENT_CL_DROP true else b
      else a) s
  else s.rawWrite d off v

/-- One item of the store buffer made visible; the subcode when it fails. -/
def State.drainItem (s : State) (d e : Nat) (i : SbItem) : Option Nat × State :=
  match i with
  | .send f => (none, s.sendFrame d (18 + e / 8) f)
  | .signal m => (none, (List.range 8).foldl (fun a k => if m.testBit k then a.raise d (e / 8 * 8 + k) 7 else a) s)
  | .mbx w => (none, s.mbxDeliver d e w)
  | .store x => match x.target with
    | .shared => (none, s.sharedWrite d (e / 8) x.addr x.bytes)
    | .frame f =>
      let r := s.frameWrite d (s.frame f) x.addr 3 x.bytes 4
      (if r.1 then some 2 else none, r.2)
    | .vat t =>
      let r := s.vatWrite t x.addr 3 x.bytes 4
      (if r.1 then some 2 else none, r.2)
    | .ctl => (none, s.ctlWrite d (e / 8) x.addr (leNat x.bytes))

def SbItem.isStore : SbItem → Bool
  | .store _ => true
  | _ => false

/-- Items at the head that no store precedes are delivered. -/
def State.flushHead (s : State) (d e : Nat) : Nat → State
  | 0 => s
  | fuel + 1 =>
    match (s.eng d e).sb with
    | i :: r => if i.isStore then s else ((s.modEng d e (fun g => { g with sb := r })).drainItem d e i).2.flushHead d e fuel
    | [] => s

/-- The oldest entry drained. When it fails, it and every younger store are dropped and the failure waits to be taken as
an imprecise trap (R343). Answers whether it failed. -/
def State.drainOne (s : State) (d e : Nat) : Bool × State :=
  match (s.eng d e).sb with
  | [] => (false, s)
  | i :: r =>
    let q := (s.modEng d e (fun g => { g with sb := r })).drainItem d e i
    match q.1 with
    | none => (false, q.2.flushHead d e 16)
    | some sub =>
      let t : PendTrap := match i with
        | .store x => ⟨sub, x.word, x.page⟩
        | _ => ⟨sub, 0, none⟩
      (true, (q.2.modEng d e (fun g => { g with sb := g.sb.filter (fun i => !i.isStore), pend := some t })).flushHead d e 16)

/-- Items drained until `keep` or fewer stand in the buffer, or one fails. -/
def State.drainTo (s : State) (d e keep : Nat) : Nat → Bool × State
  | 0 => (false, s)
  | fuel + 1 =>
    if (s.eng d e).sb.length ≤ keep then (false, s)
    else
      let r := s.drainOne d e
      if r.1 then r else r.2.drainTo d e keep fuel

/-- An item entered at the end of the buffer; a store waits first while 4 stores stand there (R339), and is dropped with
them when the one it waits for fails (R343). -/
def State.enterSb (s : State) (d e : Nat) (i : SbItem) : State :=
  let g := s.eng d e
  let r := if i.isStore ∧ (g.sb.filter SbItem.isStore).length ≥ 4 then s.drainOne d e else (false, s)
  if i.isStore ∧ (r.1 ∨ g.pend.isSome) then r.2
  else (r.2.modEng d e (fun g => { g with sb := g.sb ++ [i] })).flushHead d e 16

/-! ## Resets (R291) -/

/-- The effects of a reset on one engine, its scratchpad included (R291): the group and the store buffer are discarded,
the frames released, the mailbox queues emptied. -/
def State.engineDown (s : State) (d e : Nat) : State :=
  let s := (s.discardTx d e).releaseRx d e
  let g := s.eng d e
  let s := (g.sb.filterMap (fun i => match i with | .send f => some f | _ => none)).foldl (fun a f => a.freeFrame f) s
  (s.setEng d e g.afterReset).initPriv (s.cfgOf (engUid d e)) d e

/-- A reset of one engine taken hold (R291, R35): nothing further while it, or its cluster, is already in reset
(R295), nor while its domain is off. -/
def State.engineReset (s : State) (d e : Nat) : State :=
  let k := s.cl d (e / 8)
  if (s.eng d e).st = .off ∨ k.resetting.testBit (e % 8) then s
  else
    let s := s.engineDown d e
    let s := s.setCl d (e / 8) { s.cl d (e / 8) with resetting := (s.cl d (e / 8)).resetting ||| 2 ^ (e % 8) }
    let s := (s.count d (F.AWL_CL_CNT_ENG_RESETS (e / 8)) 1).putFlag d F.AWL_EVENT_ENG_RESET true
    s.fenceUnits [engUid d e]

/-- A transport cluster's reset aborts its connections: one notice per connection to the clusters it serves (R387).
`conns` are the connections lost, as (application cluster, queue, CLASS). -/
def State.lossNotices (s : State) (d : Nat) (conns : List (Nat × Nat × Nat)) : State :=
  conns.foldl (fun a k =>
    match a.freeDesc d with
    | none => a
    | some f =>
      let a := (a.setFrame f { (default : Frame) with
        live := true, kind := 2, stamp := a.now d, cls := k.2.2, die := d, dests := 1, charged := some 0 }).syncDesc d
      a.setVoq d (a.voqOf d ++ [⟨18 + k.1, 17 + 4 * k.1 + k.2.1, false, f⟩])) s

/-- A cluster reset taken hold (R291): every head slot and queued frame released, engines reset, shared scratchpad and
banks reloaded. -/
def State.clusterReset (s : State) (d c : Nat) : State :=
  let k := s.cl d c
  if k.resetting = 0xFF ∨ (s.domState d c ≠ 1 ∧ s.domState d c ≠ 2) then s
  else
    let es := (List.range 8).map (fun i => 8 * c + i)
    let b := s.get d (F.AWL_CL_STATUS_ACTIVE_BANK c)
    let s := (List.range 16).foldl (fun a i =>
      if (a.slot d c i).used then (a.countDrop d 7 (a.frame (a.slot d c i).frame).tid).freeSlot d c i else a) s
    let s := es.foldl (fun a e => match (a.eng d e).tx with
      | some f => a.countDrop d 7 (a.frame f).tid
      | none => a) s
    let s := es.foldl (fun a e => (a.modEng d e (fun g => { g with rx := none, bank := b })).engineDown d e) s
    let s := s.initShared (s.cfgOf (clUid d c)) d c
    let s := s.writePack (s.cfgOf (clUid d c)) d c b
    let s := match s.har.staged, s.reharnessing d c with
      | some i, true => (s.writePack i.cfg d c (1 - b)).putFlag d (F.AWL_CL_STATUS_SHADOW_VALID c) true
      | _, _ =>
        let s := (s.loadBank d c (1 - b) []).putFlag d (F.AWL_CL_STATUS_SHADOW_VALID c) false
        s.setCl d c ((s.cl d c).setHolds (1 - b) false)
    let s := s.setCl d c { s.cl d c with resetting := 0xFF, disp := 0, ibank := none }
    let s := ((s.putFlag d (F.AWL_CL_STATUS_BUSY c) true).setBit d F.AWL_STATUS_CL_RESET c).clrBit d F.AWL_STATUS_CL_RUN c
    let s := s.putFlag d (F.AWL_CL_STATUS_IBANK_BUSY c) false
    s.fenceUnits (clUid d c :: es.map (engUid d))

/-! ## Traps (R284 to R289) -/

/-- The record of a fatal trap (KIND 0x41). -/
def fatalBody (cause sub imp pc addr now : Nat) : List Byte :=
  [0x41, BitVec.ofNat 8 cause, BitVec.ofNat 8 sub, BitVec.ofNat 8 imp] ++ leBytes 2 pc ++ leBytes 2 addr ++ leBytes 8 now ++
    List.replicate 16 0

/-- A fatal trap: logged, recorded, and the engine reset with its open group discarded (R289). -/
def State.fatalTrap (s : State) (d e cause sub : Nat) (imp : Bool) (pc addr : Nat) : State :=
  let u := engUid d e
  let s := if s.flag d F.AWL_TRAP_LOG_VALID then s.putFlag d F.AWL_TRAP_LOG_MORE true
    else
      let s := ((s.put d F.AWL_TRAP_LOG_UID u).put d F.AWL_TRAP_LOG_CAUSE cause).put d F.AWL_TRAP_LOG_SUB sub
      let s := (s.putFlag d F.AWL_TRAP_LOG_IMPRECISE imp).put d F.AWL_TRAP_LOG_PC pc
      (s.put d F.AWL_TRAP_LOG_ADDR addr).putFlag d F.AWL_TRAP_LOG_VALID true
  let s := s.count d (F.AWL_CL_TRAPS_FATAL (e / 8)) 1
  let s := s.modEng d e (fun g => { g with lastCause := cause })
  let s := s.partRec d 2 0 e (fatalBody cause sub (bit imp) pc addr (s.now d))
  let s := if cause = 0x83 then s else s.rungTaken d 2 2 1 u ((s.cl d (e / 8)).resetting.testBit (e % 8))
  s.engineReset d e

/-- Causes that are fatal of themselves (Trap causes). -/
def fatalCause (c : Nat) : Bool := decide (0x80 ≤ c)

/-- Taking a trap at an engine (R284 to R289): any trap while IN_TRAP is 1 is DOUBLE, a fatal one resets the engine, and
another one writes the trap frame and continues at the trap vector of the selected bank. TRAP_PAGE of a trap whose
access used no VW_PAGE is a free value. -/
def State.takeTrap (s : State) (d e cause sub : Nat) (imp : Bool) (pc addr : Nat) (page : Option Nat) : State :=
  let g := s.eng d e
  if g.inTrap then s.fatalTrap d e 0x81 sub imp pc addr
  else if fatalCause cause then s.fatalTrap d e cause sub imp pc addr
  else
    let p := match page with
      | some x => (x, s)
      | none => s.freeVal 65536
    let s := p.2
    let g := { g.mulTick with
      cause := cause, sub := sub, imprecise := imp, inTrap := true, trapPc := pc, trapAddr := addr, trapPage := p.1,
      trapFlags := g.flagsWord, lastCause := cause, st := .trap, pc := 1, pend := none, cqWait := false }
    let s := (s.setEng d e g).count d (F.AWL_CL_TRAPS_NONFATAL (e / 8)) 1
    s.putFlag d F.AWL_EVENT_TRAP true

/-- The imprecise failure that waits, taken with TRAP_PC at the next instruction not yet executed (R285). -/
def State.takePend (s : State) (d e : Nat) (t : PendTrap) : State :=
  let g := s.eng d e
  (s.setEng d e { g with pend := none }).takeTrap d e 5 t.sub true g.pc t.addr t.page

/-! ## How an instruction executes -/

/-- What an operation's body answers: the state after it and the next program counter, or a precise trap with the state as
it stood before the operation but for what checks counted. -/
inductive AwlOut where
  | next (s : State) (pc : Nat)
  | trap (s : State) (cause sub addr : Nat) (page : Option Nat)

/-- The conditions (R297). -/
def condHolds (c : Fin 8) (f : Flags) : Bool :=
  match c.val with
  | 0 => true | 1 => f.z | 2 => !f.z | 3 => f.n | 4 => !f.n | 5 => f.c | 6 => !f.c | _ => f.t

/-- The program counter after a word that transfers nowhere (R315). -/
def Eng.pcNext (g : Eng) : Nat := (g.pc + 1) % 16384

/-- The fetch of the instruction (R255): a corrected word is counted, an uncorrectable one resets the cluster. -/
def State.fetchErr (s : State) (d e : Nat) : Nat :=
  tblGet s.imemErr 0 (imemKey d (e / 8) (s.eng d e).bank (s.eng d e).pc)

def State.fetchUe (s : State) (d e : Nat) : State :=
  let pc := (s.eng d e).pc
  (((s.putFlag d F.AWL_EVENT_FETCH_UE true).takeTrap d e 0x83 0 false pc 0 none).rungTaken d 2 2 2 (clUid d (e / 8)) false).clusterReset d (e / 8)

def State.fetchCe (s : State) (d e : Nat) : State :=
  (s.count d (F.AWL_CL_CNT_FETCH_CE (e / 8)) 1).putFlag d F.AWL_EVENT_FETCH_CE true

/-- The end of an instruction: the next program counter, and one instruction counted for the multiplier. -/
def State.endInstr (s : State) (d e pc : Nat) : State := s.modEng d e (fun g => { g.mulTick with pc := pc })

/-- What comes before every instruction of an engine (R296 to R299): an engine that does not execute changes nothing; a
waiting failure is taken in place of the instruction (R285); a false condition takes one slot and has no other effect. -/
def awlGuard (d : Die) (e : Engine) (c : Fin 8) (k : State → State) (s : State) : Res :=
  onDie s d (
    let g := s.eng d e
    if g.runs then
      match g.pend with
      | some t => s.takePend d e t
      | none =>
        if s.fetchErr d e = 2 then s.fetchUe d e
        else
          let s := if s.fetchErr d e = 1 then s.fetchCe d e else s
          if condHolds c g.fl then k s else s.endInstr d e g.pcNext
    else s)

/-- An instruction's body with the end of the instruction, or its trap. -/
def State.runBody (s : State) (d e : Nat) (body : State → AwlOut) : State :=
  match body s with
  | .next t pc => t.endInstr d e pc
  | .trap t cause sub addr page => t.takeTrap d e cause sub false (s.eng d e).pc addr page

/-- One instruction of an engine. -/
def awlInstr (d : Die) (e : Engine) (c : Fin 8) (body : State → AwlOut) (s : State) : Res :=
  awlGuard d e c (fun s => s.runBody d e body) s

/-! ## Stack operations (R304) -/

/-- The stack checks: the cause of the first that fails. -/
def Eng.stackCheck (g : Eng) (pops pushes rpops rpushes : Nat) : Option Nat :=
  if g.ds.length < pops then some 2
  else if g.ds.length - pops + pushes > 16 then some 1
  else if g.rs.length < rpops then some 4
  else if g.rs.length - rpops + rpushes > 16 then some 3
  else none

/-- A body behind the stack checks. -/
def checked (d e : Nat) (pops pushes rpops rpushes : Nat) (k : Eng → State → AwlOut) (s : State) : AwlOut :=
  match (s.eng d e).stackCheck pops pushes rpops rpushes with
  | some cause => .trap s cause 0 0 none
  | none => k (s.eng d e) s

/-- An operation on the operand stack and the flags alone: it pops `pops` entries (top first) and pushes the results
(top first). -/
def aluBody (d e : Nat) (pops pushes : Nat) (f : List W16 → Flags → List W16 × Flags) (s : State) : AwlOut :=
  checked d e pops pushes 0 0 (fun g s =>
    let r := f (g.ds.take pops) g.fl
    .next (s.setEng d e { g with ds := r.1 ++ g.ds.drop pops, fl := r.2 }) g.pcNext) s

/-! ## Flags (R301, R302) -/

/-- Z and N of a result of `w` bits. -/
def Flags.zn (f : Flags) (w r : Nat) : Flags := { f with z := r % 2 ^ w == 0, n := (r % 2 ^ w).testBit (w - 1) }

/-- Kind add: `a + b + cin` on `w` bits. -/
def addFlags (w a b cin : Nat) (f : Flags) : Nat × Flags :=
  let r := (a + b + cin) % 2 ^ w
  (r, { f.zn w r with
    c := decide (a + b + cin ≥ 2 ^ w)
    v := a.testBit (w - 1) == b.testBit (w - 1) && a.testBit (w - 1) != r.testBit (w - 1) })

/-- Kind sub: `a + NOT b + cin` on `w` bits; C 1 means no borrow. -/
def subFlags (w a b cin : Nat) (f : Flags) : Nat × Flags := addFlags w a (2 ^ w - 1 - b) cin f

/-- Kind logic. -/
def logicFlags (r : W16) (f : Flags) : Flags := { f.zn 16 r.toNat with v := false }

/-- Kind test (R302). -/
def testFlags (b : Bool) (f : Flags) : Flags := { f with t := b, z := !b }

/-- A pair's 32-bit value, lo below hi (R6). -/
def pair32 (lo hi : W16) : Nat := lo.toNat + 65536 * hi.toNat
def loOf (x : Nat) : W16 := BitVec.ofNat 16 x
def hiOf (x : Nat) : W16 := BitVec.ofNat 16 (x / 65536)

/-- One-bit steps of a shift or rotate (R309): 0 left, 1 logical right, 2 arithmetic right, 3 rotate left. -/
def shiftOne (kind : Nat) (x : W16) : W16 × Bool :=
  match kind with
  | 0 => (x <<< 1, x.msb)
  | 1 => (x >>> 1, x.getLsbD 0)
  | 2 => (x.sshiftRight 1, x.getLsbD 0)
  | _ => ((x <<< 1) ||| (if x.msb then 1 else 0), x.msb)

/-- `n` successive steps; C receives the last bit moved out, unchanged for a count of 0. -/
def shiftSteps (kind : Nat) : Nat → W16 × Bool → W16 × Bool
  | 0, p => p
  | n + 1, p => shiftSteps kind n (shiftOne kind p.1)

/-- A shift with its flags. -/
def shiftFlags (kind n : Nat) (x : W16) (f : Flags) : W16 × Flags :=
  let r := shiftSteps kind n (x, f.c)
  (r.1, { f.zn 16 r.1.toNat with c := r.2, v := false })

/-! ## CRC steps (R331, R332) -/

/-- Width, polynomial and whether the preset is MSB-first. -/
def crcPreset (p : Nat) : Nat × Nat × Bool :=
  match p with
  | 0 => (16, 0x1021, true) | 1 => (16, 0x1021, false) | 2 => (16, 0x8005, false) | 3 => (16, 0x3D65, false)
  | 4 => (32, 0x04C11DB7, false) | 5 => (8, 0x07, true) | 6 => (11, 0x385, true) | _ => (24, 0x5D6DCB, true)

/-- Bits 0 to `w` - 1 of a polynomial reversed. -/
def reflectBits (w x : Nat) : Nat := (List.range w).foldl (fun a i => a + (x / 2 ^ i % 2) * 2 ^ (w - 1 - i)) 0

/-- One bit of data. -/
def crcBit (w poly : Nat) (msb : Bool) (c : Nat) (b : Bool) : Nat :=
  if msb then
    let f := c.testBit (w - 1) != b
    let x := c * 2 % 2 ^ w
    if f then x ^^^ poly else x
  else
    let f := c.testBit 0 != b
    let x := c / 2
    if f then x ^^^ reflectBits w poly else x

/-- One data byte. -/
def crcStep (w poly : Nat) (msb : Bool) (c : Nat) (x : Nat) : Nat :=
  (List.range 8).foldl (fun a i => crcBit w poly msb a (x.testBit (if msb then 7 - i else i))) c

/-- A CRC step of a preset on one or two data bytes. -/
def crcWord (p : Nat) (two lowFirst : Bool) (c data : Nat) : Nat :=
  let k := crcPreset p
  let lo := data % 256
  let hi := data / 256 % 256
  let bytes := if two then (if lowFirst then [lo, hi] else [hi, lo]) else [lo]
  bytes.foldl (fun a x => crcStep k.1 k.2.1 k.2.2 a x) (c % 2 ^ k.1)

end Sys2Proof.Machine
end

