-- ==== Sys2Proof/Machine/Irq.lean ====
section
/-! DEFINITION. Interrupt sources and their MSI-X messages (R629 to R631): owner sources by control block, page sources, and the
MSI-X table with its pending bits. A message itself goes out on the port and is not held. -/

namespace Sys2Proof.Machine

/-- Whether an event register has an enabled bit at 1. -/
def State.irqOf (s : State) (d : Nat) (ev en : Reg) : Bool := s.rd d ev &&& s.rd d en != 0

/-- The ports of a die with an asserted port interrupt, as the summary registers show them. -/
def State.ethPend (s : State) (d : Nat) : Nat :=
  (List.range 8).foldl (fun a p => a + bit (s.irqOf d (R.ETH_PORT_EVENT p) (R.ETH_PORT_IRQ_EN p)) * 2 ^ p) 0
def State.serPend (s : State) (d : Nat) : Nat :=
  (List.range 8).foldl (fun a p => a + bit (s.irqOf d (R.SER_PORT_EVENT p) (R.SER_PORT_IRQ_EN p)) * 2 ^ p) 0

/-- Whether the owner interrupt of control block row `i` (R359) is asserted on a die. -/
def State.ownIrq (s : State) (d i : Nat) : Bool :=
  match i with
  | 0 => s.ethPend d != 0
  | 1 => s.serPend d != 0
  | 2 => s.irqOf d R.TTE_EVENT R.TTE_IRQ_EN
  | 3 => s.irqOf d R.SWC_EVENT R.SWC_IRQ_EN
  | 4 => s.irqOf d R.TIM_EVENT R.TIM_IRQ_EN
  | 5 => s.irqOf d R.LCE_EVENT R.LCE_IRQ_EN
  | 6 => s.irqOf d R.PCI_EVENT R.PCI_IRQ_EN
  | 7 => s.irqOf d R.DMA_EVENT R.DMA_IRQ_EN
  | 8 => s.irqOf d R.MBX_EVENT R.MBX_IRQ_EN
  | 9 => s.irqOf d R.ERC_EVENT R.ERC_IRQ_EN
  | 10 => s.irqOf d R.PKT_EVENT R.PKT_IRQ_EN
  | 11 => s.irqOf d R.DPT_EVENT R.DPT_IRQ_EN
  | 12 => s.irqOf d R.VAT_EVENT R.VAT_IRQ_EN
  | 13 => s.irqOf d R.AWL_EVENT R.AWL_IRQ_EN
  | 14 => s.irqOf d R.HAR_EVENT R.HAR_IRQ_EN
  | 15 => s.irqOf d R.TEN_EVENT R.TEN_IRQ_EN
  | 16 => s.irqOf d R.PWR_EVENT R.PWR_IRQ_EN
  | 17 => s.irqOf d R.RCV_EVENT R.RCV_IRQ_EN
  | 19 => s.irqOf d R.WLT_EVENT R.WLT_IRQ_EN
  | 20 => s.irqOf d R.REI_EVENT R.REI_IRQ_EN
  | 22 => s.irqOf d R.ELX_EVENT R.ELX_IRQ_EN
  | 23 => s.irqOf d R.ARC_STATUS R.ARC_IRQ_EN
  | _ => false

/-- A source as one number: owner source d × 32 + row; the NORMAL and ERROR source of a page of a port. -/
def ownSource (d i : Nat) : Nat := d * 32 + i
def pageSource (p t : Nat) (error : Bool) : Nat := 2 ^ 16 + (p * 4096 + t) * 2 + bit error

/-- The page sources of a port's page that are asserted. -/
def State.pageIrqs (s : State) (p t : Nat) : List Nat :=
  let x := s.pget p t ⟨R.PCI_PG_EVENT, 11, 0⟩ &&& s.pget p t F.PCI_PG_IRQ_EN_EN
  (if x % 256 = 0 then [] else [pageSource p t false]) ++ (if x / 256 = 0 then [] else [pageSource p t true])

/-- Every asserted source. -/
def State.irqs (s : State) : List Nat :=
  (s.dieList.flatMap (fun d => ((List.range 24).filter (fun i => s.ownIrq d i)).map (fun i => ownSource d i))) ++
    ((s.pages.filter (fun e => e.1 % 4096 == 4)).map (·.1 / 4096)).flatMap (fun k => s.pageIrqs (k / 4096) (k % 4096))

/-! ## MSI-X (R629, R631) -/

/-- A word of a port's MSI-X table: message address low and high, message data, vector control; vectors start masked. -/
def State.msixWord (s : State) (p w : Nat) : Nat := tblGet s.host.msix (if w % 4 = 3 then 1 else 0) (p * 8192 + w)
def State.setMsixWord (s : State) (p w v : Nat) : State :=
  { s with host := { s.host with msix := tblSet s.host.msix (if w % 4 = 3 then 1 else 0) (p * 8192 + w) (v % 2 ^ 32) } }

/-- A vector's message sent, or its pending bit set while it is masked. -/
def State.sendVector (s : State) (p v : Nat) : State :=
  if s.msixWord p (4 * v + 3) % 2 = 1 then
    { s with host := { s.host with
        msixPend := if s.host.msixPend.contains (p * 2048 + v) then s.host.msixPend else s.host.msixPend ++ [p * 2048 + v] } }
  else s

/-- A write to a word of the table; unmasking a pending vector sends it. -/
def State.msixWrite (s : State) (p w v : Nat) : State :=
  let s := s.setMsixWord p w v
  if w % 4 = 3 ∧ v % 2 = 0 then
    { s with host := { s.host with msixPend := s.host.msixPend.filter (· != p * 2048 + w / 4) } }
  else s

/-- The vector to which a port maps a source; none when it does not signal it (R630). -/
def State.vectorOf (s : State) (p src : Nat) : Option Nat :=
  if src < 2 ^ 16 then
    if s.flag p F.PCI_PORT_CFG_OWNER ∧ s.flag p (F.PCI_OWN_VEC_EN src) then some (s.get p (F.PCI_OWN_VEC_VEC src)) else none
  else
    let k := (src - 2 ^ 16) / 2
    let t := k % 4096
    if k / 4096 ≠ p then none
    else if src % 2 = 1 then (if s.flag p (F.PCI_PG_VEC_ERROR_EN t) then some (s.get p (F.PCI_PG_VEC_ERROR t)) else none)
    else if s.flag p (F.PCI_PG_VEC_NORMAL_EN t) then some (s.get p (F.PCI_PG_VEC_NORMAL t)) else none

/-- MSIX_SEND: the sources that went from deasserted to asserted send their vectors on every HOST port that maps them. -/
def State.msixScan (s : State) : State :=
  let now := s.irqs
  let new := now.filter (fun i => !s.host.asserted.contains i)
  let s := new.foldl (fun a i => a.hostPorts.foldl (fun b p =>
    match b.vectorOf p i with
    | some v => b.sendVector p v
    | none => b) a) s
  { s with host := { s.host with asserted := now } }

/-- After a write to a source's event register: a source that it leaves asserted sends again. -/
def State.msixAgain (s : State) (src : Nat) : State :=
  ({ s with host := { s.host with asserted := s.host.asserted.filter (· != src) } }).msixScan

end Sys2Proof.Machine
end

