-- ==== Sys2Proof/Machine/TteOps.lean ====
section
/-! DEFINITION. The shared operations of the time-triggered group (chapter 10): the system matrix, the cluster clock, states,
buffers, records and the fault-tolerant midpoint. -/

namespace Sys2Proof.Machine

def State.ttg (s : State) (d : Nat) : TtGroup := tblGet s.ttGroups TtGroup.reset d
def State.modTt (s : State) (d : Nat) (g : TtGroup → TtGroup) : State :=
  { s with ttGroups := tblSet s.ttGroups TtGroup.reset d (g (s.ttg d)) }

def ttUid (d : Nat) : Nat := uid d 4 0

/-! ## The matrix (R484) -/

/-- The group block in force on a die; none makes the group DISABLED. -/
def State.ttBlk (s : State) (d : Nat) : Option TtGroupBlk := (s.cfgOf (ttUid d)).tt.groups.find? (fun e => e.die == d)
def State.ttCfg (s : State) (d : Nat) : TtGroupBlk := (s.ttBlk d).getD default
def State.ttWindows (s : State) (d : Nat) : List TtWindow := (s.cfgOf (ttUid d)).tt.windows.filter (fun e => e.die == d)
def State.ttAssigns (s : State) (d : Nat) : List TtAssign := (s.cfgOf (ttUid d)).tt.assigns.filter (fun e => e.die == d)
def State.ttWindow (s : State) (d w : Nat) : Option TtWindow := (s.ttWindows d).find? (fun e => e.index == w)

/-- The cell of a window in the cycles of one count. -/
def State.ttCell (s : State) (d w count : Nat) : Option TtAssign :=
  (s.ttAssigns d).find? (fun a => a.window == w && count % max a.rep 1 == a.baseCycle)

/-- The OWNER of a cell on a channel. -/
def cellOwner (a : TtAssign) (ch : Nat) : Nat := if ch = 0 then a.ownerA else a.ownerB

/-- Whether the node sends in a cell on a channel. -/
def ownOn (a : TtAssign) (ch : Nat) : Bool := cellOwner a ch == 4 && a.ch.testBit ch
def ownCellOf (a : TtAssign) : Bool := a.ownerA == 4 || a.ownerB == 4

/-- The wire time of a frame in ns. -/
def wireNs (g : TtGroupBlk) (words : Nat) : Nat :=
  (g.tssBits + 1 + 10 * (8 + 2 * words) + 2) * (match g.rate with | 0 => 400 | 1 => 200 | _ => 100)

/-! ## Cluster time (R486, R487) -/

/-- The cluster clock at a reading of the package time base. -/
def State.ttClockAt (s : State) (d : Nat) (t : Int) : Int :=
  if (s.ttCfg d).lead then t
  else
    let g := s.ttg d
    t + g.ofs + (t - g.since) * g.ratePpb / 1000000000

def State.ttClock (s : State) (d : Nat) : Int := s.ttClockAt d (s.now d)

/-- The number of the basic cycle that contains a cluster time. -/
def ttCycleAt (g : TtGroupBlk) (clk : Int) : Int := (clk - g.base) / ((max g.cycle 1 : Nat) : Int)
/-- The cycle count of a basic cycle. -/
def ttCountOf (g : TtGroupBlk) (n : Int) : Nat := (n % ((max g.cycles 1 : Nat) : Int)).toNat
def State.ttCount' (s : State) (d : Nat) : Nat := ttCountOf (s.ttCfg d) (ttCycleAt (s.ttCfg d) (s.ttClock d))

/-- The opening of a window in basic cycle `n`, at START_NS − TOL_NS, and its closing, at START_NS + LEN_NS + TOL_NS. -/
def openAt (g : TtGroupBlk) (w : TtWindow) (n : Int) : Int := g.base + n * g.cycle + w.start - g.tol
def closeAt (g : TtGroupBlk) (w : TtWindow) (n : Int) : Int := g.base + n * g.cycle + w.start + w.len + g.tol

/-- The window open at a cluster time, with its basic cycle. -/
def State.ttOpenAt (s : State) (d : Nat) (clk : Int) : Option (Int × TtWindow) :=
  let g := s.ttCfg d
  let n := ttCycleAt g clk
  [n - 1, n, n + 1].findSome? (fun k =>
    ((s.ttWindows d).find? (fun w => decide (openAt g w k ≤ clk) && decide (clk ≤ closeAt g w k))).map (fun w => (k, w)))

def State.ttOpen (s : State) (d : Nat) : Option (Int × TtWindow) := s.ttOpenAt d (s.ttClock d)

/-! ## States (R489) -/

def State.ttState (s : State) (d : Nat) : Nat := s.get d F.TTE_STATUS_STATE
def State.ttSynced (s : State) (d : Nat) : Bool := s.ttState d == 5 || s.ttState d == 6
def State.ttMode (s : State) (d : Nat) : Nat := (s.ttCfg d).mode
def State.chOn (s : State) (d ch : Nat) : Bool := s.domOn d (40 + ch)

/-- The payload of a Bridle record, written. -/
def State.ttRecBody (s : State) (d kind detail ch b sup : Nat) : State :=
  let win := match s.ttOpen d with | some (_, w) => w.index | none => 0xFF
  s.partRec d 3 4 0 (leBytes 1 kind ++ leBytes 1 detail ++ leBytes 2 (ttUid d) ++ leBytes 1 ch ++ leBytes 1 b ++
    leBytes 1 win ++ leBytes 1 (s.ttCount' d) ++ leBytes 8 (s.now d) ++ leBytes 4 (min sup 0xFFFFFFFF) ++ leBytes 12 0)

/-- A Bridle record (R503), at most one per KIND, channel and branch in 1 s. -/
def State.ttRec (s : State) (d kind detail ch b : Nat) : State :=
  let g := s.ttg d
  let old := (g.recs.find? (fun e => e.1 == (kind, ch, b))).map (·.2)
  let rest := g.recs.filter (fun e => e.1 != (kind, ch, b))
  match old with
  | some (t, n) =>
    if s.mono d < t + 1000000000 then s.modTt d (fun g => { g with recs := rest ++ [((kind, ch, b), t, n + 1)] })
    else (s.ttRecBody d kind detail ch b n).modTt d (fun g => { g with recs := rest ++ [((kind, ch, b), s.mono d, 0)] })
  | none => (s.ttRecBody d kind detail ch b 0).modTt d (fun g => { g with recs := rest ++ [((kind, ch, b), s.mono d, 0)] })

/-- A transition to a state: its events, counts and record (R489, R503). -/
def State.ttTo (s : State) (d st : Nat) : State :=
  let s := (s.put d F.TTE_STATUS_STATE st).putFlag d F.TTE_STATUS_SYNCED (st == 5 || st == 6)
  let s := s.putFlag d F.TTE_EVENT_STATE_CHG true
  let s := s.modTt d (fun g => { g with
    goodRun := 0, badRun := 0, unsynced := g.unsynced || !(st == 5 || st == 6),
    relay := if st = 0 ∨ st = 1 ∨ st = 8 ∨ st = 7 ∧ ¬ (s.ttCfg d).haltPolicy then [] else g.relay })
  if st = 6 then
    (((s.putFlag d F.TTE_EVENT_SYNC_LOST true).count d F.TTE_SYNC_LOSS_COUNT 1)).ttRec d 0x23 st 0xFF 0xFF
  else if st = 7 then (s.putFlag d F.TTE_EVENT_HALT true).ttRec d 0x23 st 0xFF 0xFF
  else s

/-- LISTEN entered afresh: the coldstart attempts stand open again. -/
def State.ttListen (s : State) (d : Nat) : State := (s.modTt d (fun g => { g with attempts := 0 })).ttTo d 2

/-! ## Buffers and the arbitrating queue (R490 to R494) -/

/-- TTE_TXBUF and TTE_ARBQ brought up to date. -/
def State.syncTtBuf (s : State) (d : Nat) : State :=
  (s.put d F.TTE_TXBUF_FULL ((s.ttg d).buf.foldl (fun a e => a ||| 2 ^ e.1) 0)).put d F.TTE_ARBQ_COUNT (s.ttg d).arbq.length

/-- A buffered or queued frame released: its engine receives TXDONE. -/
def State.ttRelease (s : State) (d f : Nat) : State := (((s.leaveOutput f d 16).txDone (s.frame f)).doneWith f)

/-- A frame dropped as bad (R490). -/
def State.ttBad (s : State) (d f : Nat) : State :=
  ((s.count d F.TTE_TX_BAD_COUNT 1).putFlag d F.TTE_EVENT_TX_BAD true).ttRelease d f

/-- The latched content of a window given up. -/
def State.unlatch (s : State) (d w : Nat) : State :=
  let l := ((s.ttg d).latched.find? (fun e => e.1 == w)).bind (·.2)
  let s := s.modTt d (fun g => { g with latched := g.latched.filter (fun e => e.1 != w) })
  match l with
  | some f => s.doneWith f
  | none => s

/-- The content of a window buffer latched for its next cell; a latched frame is held until that cell (R491). -/
def State.latchBuf (s : State) (d w : Nat) : State :=
  let s := s.unlatch d w
  let c := ((s.ttg d).buf.find? (fun e => e.1 == w)).map (·.2)
  let s := match c with
    | some f => s.setFrame f { s.frame f with dests := (s.frame f).dests + 1 }
    | none => s
  s.modTt d (fun g => { g with latched := g.latched ++ [(w, c)] })

/-- A window buffer emptied. -/
def State.emptyBuf (s : State) (d w : Nat) : State :=
  match (s.ttg d).buf.find? (fun e => e.1 == w) with
  | none => s
  | some e =>
    ((s.modTt d (fun g => { g with buf := g.buf.filter (fun x => x.1 != w) })).ttRelease d e.2).syncTtBuf d

/-- Every buffer and the queue released (R504), the group's own frames with them. -/
def State.ttReleaseAll (s : State) (d : Nat) : State :=
  let g := s.ttg d
  let q := s.outQueue d 16
  let s := (g.latched.map (·.1)).foldl (fun a w => a.unlatch d w) s
  let s := (s.modTt d (fun g => { g with buf := [], arbq := [], arbSent := [], sending := [] })).setOutQueue d 16 []
  ((g.buf.map (·.2) ++ g.arbq ++ q).foldl (fun a f => a.ttRelease d f) s).syncTtBuf d

/-- ADMIN_DOWN or a matrix that is not applied holds the group in CONFIG (R489, R506). -/
def State.ttHold (s : State) (d : Nat) : State :=
  if s.ttState d = 0 ∨ s.ttState d = 1 then s.ttReleaseAll d else (s.ttReleaseAll d).ttTo d 1

/-- A frame at the head of the switch core's queue checked and placed (R490, R491). -/
def State.ttAccept (s : State) (d f : Nat) : State :=
  let x := s.frame f
  if x.queue < 32 then
    let own := (s.ttAssigns d).filter (fun a => a.window == x.queue && ownCellOf a)
    if own.isEmpty ∨ own.any (fun a => x.len != 2 * a.words) then s.ttBad d f
    else ((s.emptyBuf d x.queue).modTt d (fun g => { g with buf := g.buf ++ [(x.queue, f)] })).syncTtBuf d
  else if 0x40 ≤ x.queue ∧ (s.ttWindows d).any (fun w => w.type == 2 && decide (x.queue - 0x40 < w.arbIds)) then
    if x.len % 2 = 1 ∨ 254 < x.len ∨ 8 ≤ (s.ttg d).arbq.length then s.ttBad d f
    else (s.modTt d (fun g => { g with arbq := g.arbq ++ [f] })).syncTtBuf d
  else s.ttBad d f

/-- A queued frame read for transmission (R526, R156); none when the read failed and the frame was dropped from the buffer or
queue. -/
def State.ttRead (s : State) (d f : Nat) : Bool × State :=
  let x := s.frame f
  let fd := frameDie f
  let drop := fun (s : State) (reason : Nat) =>
    let s := s.modTt d (fun g => { g with buf := g.buf.filter (fun e => e.2 != f), arbq := g.arbq.filter (· != f) })
    ((s.leaveOutput f d 16).dropFrame fd f reason).syncTtBuf d
  let ok := s.cellsAllowed fd x false
  if !ok.1 then (false, drop ok.2 8)
  else
    let r := ok.2.frameRead fd x 0 x.len 2 8
    if r.2.1 then (false, drop r.2.2 9) else (true, r.2.2)

/-- The node's own frame on a channel. -/
def State.ttSends (s : State) (d ch words : Nat) : State :=
  s.modTt d (fun g => { g with
    sending := g.sending.filter (fun e => e.1 != ch) ++ [(ch, s.now d + wireNs (s.ttCfg d) words)] })

def State.nodeSends (s : State) (d ch : Nat) : Bool := (s.ttg d).sending.any (fun e => e.1 == ch && decide (s.now d < e.2))

/-! ## The fault-tolerant midpoint (ISO 17458-2) -/

/-- The midpoint of a list of values: the k lowest and k highest left out, k by the number of values, and the mean of the two
extremes that remain, rounded toward zero. Nothing for an empty list. -/
def ftMidpoint (l : List Int) : Option Int :=
  let q := l.mergeSort (fun a b => decide (a ≤ b))
  let k := if q.length ≤ 2 then 0 else if q.length ≤ 7 then 1 else 2
  match q[k]?, q[q.length - 1 - k]? with
  | some a, some b => some ((a + b).tdiv 2)
  | _, _ => none

/-- The cluster clock's reference moved to the present, its reading kept. -/
def State.ttRebase (s : State) (d : Nat) : State :=
  s.modTt d (fun g => { g with
    ofs := g.ofs + ((s.now d : Int) - g.since) * g.ratePpb / 1000000000, since := s.now d })

/-- Package time of the next matrix-cycle start; 0 while unsynchronised (R488). -/
def State.ttNextMatrix (s : State) (d : Nat) : Nat :=
  if !s.ttSynced d then 0
  else
    let g := s.ttCfg d
    let m : Int := ((max (g.cycles * g.cycle) 1 : Nat) : Int)
    let clk := s.ttClock d
    let wait := m - (clk - g.base) % m
    let rate := if g.lead then 0 else (s.ttg d).ratePpb
    ((s.now d : Int) + wait * 1000000000 / max (1000000000 + rate) 1).toNat

/-- TTE_POS: the cycle count, the window open or last opened, and whether one is open. -/
def State.ttPos (s : State) (d : Nat) : Nat × Nat × Bool :=
  let g := s.ttCfg d
  let clk := s.ttClock d
  match s.ttOpen d with
  | some (_, w) => (s.ttCount' d, w.index, true)
  | none =>
    let n := ttCycleAt g clk
    let past := (s.ttWindows d).filter (fun w => decide (openAt g w n ≤ clk))
    (s.ttCount' d, ((if past.isEmpty then s.ttWindows d else past).map (·.index)).foldl max 0, false)

end Sys2Proof.Machine
end

