-- ==== Sys2Proof/Machine/Views.lean ====
section
/-! DEFINITION. The register fields that show what units hold outside their registers, brought up to date before a read of their
register; those of the engines and of the switch core stand in Machine/RegAcc.lean. -/

namespace Sys2Proof.Machine

/-- The time-triggered group's position and live channels. -/
def State.viewTt (s : State) (d off : Nat) : State :=
  if off = R.TTE_POS.off then
    let p := s.ttPos d
    s.puts d [(F.TTE_POS_CYCLE, p.1), (F.TTE_POS_WINDOW, p.2.1), (F.TTE_POS_IN_WINDOW, bit p.2.2)]
  else if off = R.TTE_NEXT_MATRIX.off ∨ off = R.TTE_NEXT_MATRIX.off + 4 then s.put d F.TTE_NEXT_MATRIX_TIME (s.ttNextMatrix d)
  else if off = R.TTE_STATUS.off then
    (s.putFlag d F.TTE_STATUS_CH_A_UP (s.domOn d 40)).putFlag d F.TTE_STATUS_CH_B_UP (s.domOn d 41)
  else s

/-- The selected calibration item (R878, Calibration items). -/
def State.viewCal (s : State) (d off : Nat) : State :=
  let item := s.get d F.CAL_SEL_ITEM
  let inst := s.get d F.CAL_SEL_INST
  let valid := decide (inst < calInstances item d)
  let val := fun (x : Int) => if valid then ofSigned 32 x else 0
  if off = R.CAL_STATUS.off then
    s.puts d [(F.CAL_STATUS_SEL_VALID, bit valid), (F.CAL_STATUS_USER_OK, bit (valid && decide (item ≤ 9))),
      (F.CAL_STATUS_CLAMPED, bit (valid && s.calClamped d item inst))]
  else if off = R.CAL_FACT.off then s.put d F.CAL_FACT_VALUE (val (tblGet s.calFact 0 (calKey d item inst)))
  else if off = R.CAL_USER.off then s.put d F.CAL_USER_VALUE (val (tblGet s.calUser 0 (calKey d item inst)))
  else if off = R.CAL_EFF.off then s.put d F.CAL_EFF_VALUE (val (s.calEff d item inst))
  else s

/-- The summary of latched classes and the state of ALARM_N (R809). -/
def State.viewRcv (s : State) (off : Nat) : State :=
  if off = R.RCV_FAULT_SUM.off then
    s.puts 0 [(F.RCV_FAULT_SUM_CLASSES, s.dieList.foldl (fun a d => a ||| s.get d F.RCV_FAULT_LATCHED) 0),
      (F.RCV_FAULT_SUM_DIES, s.dieList.foldl (fun a d => a + bit (s.get d F.RCV_FAULT_LATCHED != 0) * 2 ^ d) 0)]
  else if off = R.RCV_STATUS.off then s.putFlag 0 F.RCV_STATUS_ALARM s.alarmLow
  else if off = R.RCV_ALARM.off then s.putFlag 0 F.RCV_ALARM_REC (s.dieList.any (fun d => s.flag d F.ERC_STATUS_ALARM))
  else s

/-- A die's part of a re-harness: its affected units ready, and switched since the last instant. -/
def State.viewHar (s : State) (d off : Nat) : State :=
  if off = R.HAR_DIE_STATE.off then
    let st := s.get 0 F.HAR_STATUS_STATE
    let mine := ((s.har.staged.map (·.cfg.admission.affected)).getD []).filter (fun u => u / 0x2000 == d)
    (s.putFlag d F.HAR_DIE_STATE_READY (decide (5 ≤ st) && decide (st ≤ 8) && mine.all (fun u => s.har.ready.contains u))).putFlag d
      F.HAR_DIE_STATE_SWITCHED (s.get 0 F.HAR_EPOCH_COUNT != 0 && s.har.unswitched.all (fun u => u / 0x2000 != d))
  else s

/-- The fields of the register at an offset that show other state. -/
def State.fullView (s : State) (d off : Nat) : State :=
  match off / 0x40000 with
  | 0 => if off = R.ETH_IRQ_SUM.off then s.put d F.ETH_IRQ_SUM_PEND (s.ethPend d) else s
  | 1 =>
    if off = R.SER_IRQ_SUM.off then s.put d F.SER_IRQ_SUM_PEND (s.serPend d)
    else if off < 0x42000 ∧ off % 0x400 = 0x1C then s.invMax d (off % 0x2000 / 0x400) (s.invLength d (off % 0x2000 / 0x400))
    else s
  | 2 => s.viewTt d off
  | 3 =>
    if 0xC2000 ≤ off ∧ off < 0xC3000 ∧ off % 16 = 8 then
      let k := (off - 0xC2000) / 16
      s.put d (F.SWC_TSH_LEVEL_LEVEL k) (ofSigned 32 (s.tshLevel d k / tshByte))
    else s
  | 14 => s.viewHar d off
  | 20 => s.viewRcv off
  | 22 =>
    if off = R.WLT_STATUS.off then
      s.putFlag d F.WLT_STATUS_TIME_OK (d == 0 || ((s.rein.timeAt.find? (fun e => e.1 == d)).any
        (fun e => decide (s.mono d ≤ e.2 + 64000))))
    else s
  | 23 => if off = R.REI_STATUS.off then s.put 0 F.REI_STATUS_MQ_USED (min 0xFFF s.mirrorQ.length) else s
  | 24 => s.viewCal d off
  | _ => s

end Sys2Proof.Machine
end

