-- ==== Sys2Proof/Machine/AwlMem.lean ====
section
/-! DEFINITION. The word map of an engine (chapters 05 and 06): special registers, frame-window commands, the windows,
the checks made at issue, loads with their forwarding and stores. -/

namespace Sys2Proof.Machine

/-! ## Special registers (R256) -/

/-- The special registers that the table lists, by their low address byte. -/
def specialListed (i : Nat) : Bool :=
  [0, 1, 2, 3, 4, 8, 0x10, 0x11, 0x12, 0x13, 0x14, 0x18, 0x19, 0x1A, 0x1B, 0x20, 0x21, 0x22, 0x28, 0x29, 0x2A, 0x30, 0x31,
    0x38, 0x39, 0x3A, 0x3B, 0x3C].contains i

/-- TRAP_CAUSE. -/
def Eng.trapWord (g : Eng) : Nat := g.cause + 256 * g.sub + 4096 * bit g.imprecise + 8192 * bit g.inTrap

/-- CSTAT. -/
def Eng.cstat (g : Eng) : Nat := g.group.length + 128 * bit (g.outstanding == 0) + 256 * g.firstReason

/-- FW_STATUS. -/
def Eng.fwStatus (g : Eng) : Nat :=
  bit g.rx.isSome + 2 * bit g.tx.isSome + 4 * bit g.held + 8 * bit g.sel + 16 * bit g.nocell + 32 * bit g.sendErr +
    64 * bit g.cmdErr + 256 * (g.rx.getD 0)

/-- The whole microseconds that remain of a TMR interval. -/
def State.tmrLeft (s : State) (d e : Nat) : Nat :=
  match (s.eng d e).tmr with
  | some t => (t - s.mono d) / 1000
  | none => 0

/-- A read of MBX_RX. -/
def State.mbxRx (s : State) (d e : Nat) : Nat × State :=
  match s.mbxPop d e with
  | some (w, t) => (w.toNat, t)
  | none => (0, s.modEng d e (fun g => { g with rxUnder := true }))

/-- A read of NOW0. -/
def State.nowLatch (s : State) (d e : Nat) : Nat × State :=
  (s.now d % 65536, s.modEng d e (fun g => { g with nowLatch := s.now d }))

/-- A read of CREFUSED. -/
def State.readRefused (s : State) (d e : Nat) : Nat × State :=
  ((s.eng d e).refused, s.modEng d e (fun g => { g with refused := 0, firstReason := 0 }))

/-- A read of a special register: its value and the state after. -/
def State.specialRead (s : State) (d e i : Nat) : Nat × State :=
  let g := s.eng d e
  match i with
  | 0x00 => (e + 64 * d, s)
  | 0x01 => (g.flagsWord, s)
  | 0x02 => (g.accVis / 65536 % 65536, s)
  | 0x03 => (g.accVis % 65536, s)
  | 0x04 => (g.accVis / 2 ^ 32 % 256, s)
  | 0x08 => (g.vwPage, s)
  | 0x10 => (g.evMask, s)
  | 0x11 => (s.pendEvents d e, s)
  | 0x12 => (g.evCause, s)
  | 0x13 => (s.tmrLeft d e, s)
  | 0x18 => s.nowLatch d e
  | 0x19 => (g.nowLatch / 65536 % 65536, s)
  | 0x1A => (g.nowLatch / 2 ^ 32 % 65536, s)
  | 0x1B => (g.nowLatch / 2 ^ 48 % 65536, s)
  | 0x20 => (8 * bit g.sel + 16 * g.qsel, s)
  | 0x21 => (g.fwStatus, s)
  | 0x22 => (g.txLen, s)
  | 0x28 => s.mbxRx d e
  | 0x2A => (g.mbxIn.length + 16 * g.mbxOut.length + 256 * bit g.rxUnder, s)
  | 0x30 => (g.cstat, s)
  | 0x31 => s.readRefused d e
  | 0x38 => (g.trapWord, s)
  | 0x39 => (g.trapPc, s)
  | 0x3A => (g.trapAddr, s)
  | 0x3B => (g.trapPage, s)
  | 0x3C => (g.trapFlags, s)
  | _ => (0, s)

/-! ## Frame-window commands (R270, R524, R525) -/

/-- The outcome bits cleared before a command acts. -/
def State.fwClear (s : State) (d e : Nat) : State :=
  s.modEng d e (fun g => { g with nocell := false, sendErr := false, cmdErr := false })
def State.fwError (s : State) (d e : Nat) : State := s.modEng d e (fun g => { g with cmdErr := true })

def State.fwRelease (s : State) (d e : Nat) : State :=
  let s := s.fwClear d e
  if (s.eng d e).rx.isNone then s.fwError d e else s.releaseRx d e

def State.fwHold (s : State) (d e : Nat) : State :=
  let s := s.fwClear d e
  if (s.eng d e).rx.isNone then s.fwError d e else s.modEng d e (fun g => { g with held := true })

/-- REQUEUE: the frame leaves its slot and enters the chosen queue of its cluster with KIND 1. -/
def State.fwRequeue (s : State) (d e : Nat) : State :=
  let s := s.fwClear d e
  let g := s.eng d e
  match g.rx with
  | none => s.fwError d e
  | some i =>
    let c := e / 8
    let h := s.slot d c i
    let s := (s.leaveOutput h.frame d (17 + 4 * c + h.queue)).setSlot d c i HeadSlot.free
    let s := s.modEng d e (fun g => { g with rx := none, held := false })
    let x := { s.frame h.frame with kind := 1 }
    (s.setFrame h.frame x).toOutput h.frame d (17 + 4 * c + g.qsel) (18 + c) x.cells.length false

def State.fwAlloc (s : State) (d e : Nat) : State :=
  let s := s.fwClear d e
  let g := s.eng d e
  if g.tx.isSome ∨ g.txLen = 0 ∨ g.txLen > 9216 then s.fwError d e
  else match s.allocTx d (engUid d e) (s.allocTenant d (e / 8)) g.txLen with
    | some (f, t) => t.modEng d e (fun g => { g with tx := some f })
    | none => s.modEng d e (fun g => { g with nocell := true })

/-- SEND: the frame is unbound and handed over once every older store has drained (R271, R344). -/
def State.fwSend (s : State) (d e : Nat) : State :=
  let s := s.fwClear d e
  match (s.eng d e).tx with
  | none => s.fwError d e
  | some f =>
    let x := s.frame f
    if s.clusterTenant d (e / 8) x.tid && s.egressGrant x.tid x.die x.port x.queue then
      let s := s.setFrame f { x with sender := some (d * 64 + e), origin := engUid d e }
      (s.modEng d e (fun g => { g with tx := none })).enterSb d e (.send f)
    else s.modEng d e (fun g => { g with sendErr := true })

def State.fwDiscard (s : State) (d e : Nat) : State :=
  let s := s.fwClear d e
  if (s.eng d e).tx.isNone then s.fwError d e else s.discardTx d e

/-- A write of FW_CTRL: SEL and QSEL, then the command. -/
def State.fwCtrl (s : State) (d e v : Nat) : State :=
  let s := s.modEng d e (fun g => { g with sel := v.testBit 3, qsel := v / 16 % 4 })
  match v % 8 with
  | 1 => s.fwRelease d e
  | 2 => s.fwHold d e
  | 3 => s.fwRequeue d e
  | 4 => s.fwAlloc d e
  | 5 => s.fwSend d e
  | 6 => s.fwDiscard d e
  | _ => s

/-! ## Writes of special registers -/

def State.tmrWrite (s : State) (d e v : Nat) : State :=
  s.modEng d e (fun g => { g with tmr := if v = 0 then none else some (s.mono d + 1000 * v) })

def State.trapPcWrite (s : State) (d e v : Nat) : State :=
  s.modEng d e (fun g => if g.inTrap then { g with trapPc := v } else g)

/-- Whether a write of MBX_TX finds the outbound queue full, words waiting behind older stores included. -/
def State.mbxTxFull (s : State) (d e : Nat) : Bool := decide (8 ≤ (s.eng d e).outWords)

def State.mbxTx (s : State) (d e v : Nat) : State := s.enterSb d e (.mbx (BitVec.ofNat 16 v))
def State.signalWrite (s : State) (d e v : Nat) : State := s.enterSb d e (.signal (v % 256))

/-- A write of a special register; a read-only one stays (R320). MBX_TX is written only when it is not full. -/
def State.specialWrite (s : State) (d e i v : Nat) : State :=
  match i with
  | 0x08 => s.modEng d e (fun g => { g with vwPage := v % 8192 })
  | 0x10 => s.modEng d e (fun g => { g with evMask := v % 4096 })
  | 0x11 => s.modEng d e (fun g => { g with evPend := g.evPend - (g.evPend &&& (v % 4096 / 32 * 32)) })
  | 0x13 => s.tmrWrite d e v
  | 0x14 => s.signalWrite d e v
  | 0x20 => s.fwCtrl d e v
  | 0x22 => s.modEng d e (fun g => { g with txLen := v })
  | 0x29 => s.mbxTx d e v
  | 0x2A => s.modEng d e (fun g => { g with rxUnder := g.rxUnder && !v.testBit 8 })
  | 0x39 => s.trapPcWrite d e v
  | _ => s

/-! ## The frame window (R267 to R269) -/

/-- The frame that the window shows. -/
def State.shown (s : State) (d e : Nat) : Option Nat :=
  let g := s.eng d e
  if g.sel then g.tx else g.rx.map (fun i => (s.slot d (e / 8) i).frame)

/-- The 64 metadata bytes (Frame metadata table). -/
def Frame.meta (x : Frame) : List Byte :=
  leBytes 2 x.len ++ leBytes 1 x.port ++ leBytes 1 x.kind ++ leBytes 8 x.stamp ++ leBytes 2 x.cls ++ leBytes 1 x.levels ++
    leBytes 1 x.pflags ++ ((List.range 8).flatMap (fun k => leBytes 2 (x.hoff.getD k 0xFFFF))) ++ leBytes 2 x.tid ++
    leBytes 2 x.tci ++ leBytes 1 x.queue ++ leBytes 1 x.die ++ List.replicate 26 0

/-- Metadata bytes of a transmit frame that an engine may write. -/
def metaWritable (i : Nat) : Bool := i == 2 || (decide (4 ≤ i) && decide (i < 12)) || i == 32 || i == 33 || i == 36 || i == 37

/-- A little-endian number with byte `k` replaced. -/
def setByteOf (x k : Nat) (b : Byte) : Nat := x - (x / 256 ^ k % 256) * 256 ^ k + b.toNat * 256 ^ k

/-- A metadata byte of a transmit frame written. -/
def Frame.setMeta (x : Frame) (i : Nat) (b : Byte) : Frame :=
  if i = 2 then { x with port := b.toNat }
  else if 4 ≤ i ∧ i < 12 then { x with stamp := setByteOf x.stamp (i - 4) b }
  else if i = 32 ∨ i = 33 then { x with tid := setByteOf x.tid (i - 32) b }
  else if i = 36 then { x with queue := b.toNat }
  else if i = 37 then { x with die := b.toNat }
  else x

/-- Window byte `b` where it is not served from cells: the head slot, metadata or 0. A byte of the head slot beyond LEN
is a free value. -/
def State.windowByte (s : State) (d e b : Nat) : Byte × State :=
  let g := s.eng d e
  match s.shown d e with
  | none => (0, s)
  | some f =>
    if b < 256 ∧ g.sel = false then
      let bs := (s.slot d (e / 8) (g.rx.getD 0)).bytes
      if h : b < bs.length then (bs[b], s)
      else
        let r := s.freeVal 256
        (BitVec.ofNat 8 r.1, r.2)
    else if 0x3F00 ≤ b ∧ b < 0x3F40 then ((s.frame f).meta.getD (b - 0x3F00) 0, s)
    else (0, s)

/-- Window bytes that cells serve: from 256 for a receive frame, from 0 for a transmit frame, up to LEN. -/
def State.inCells (s : State) (d e b : Nat) : Bool :=
  match s.shown d e with
  | none => false
  | some f => decide (b < (s.frame f).len) && ((s.eng d e).sel || decide (256 ≤ b))

/-- Whether a store may touch window byte `b` (R268). -/
def State.fwWritable (s : State) (d e b : Nat) : Bool :=
  (s.eng d e).sel && (s.shown d e).isSome && (s.inCells d e b ||
    (decide (0x3F00 ≤ b) && decide (b < 0x3F40) && metaWritable (b - 0x3F00)))

/-! ## Places of the word map (R251, R272, R274) -/

/-- Where bytes of an access lie. -/
inductive Place where
  | priv (w : Nat)
  | shared (a : Nat)
  | window (b : Nat)
  | vat (t off : Nat)
  | ctl (off : Nat)
  | special (i : Nat)
  | reserved
deriving DecidableEq, Repr

/-- VW_PAGE fields. -/
def Eng.pageDie (g : Eng) : Nat := g.vwPage / 512 % 8
def Eng.pageCtl (g : Eng) : Bool := g.vwPage.testBit 12
/-- The Vat or control offset of byte `b` of the Vat window; control offsets above the control space are kept apart. -/
def Eng.pageOff (g : Eng) (b : Nat) : Nat := g.vwPage % 512 * 0x8000 + b

/-- The place of a word address. -/
def State.place (s : State) (d e w : Nat) : Place :=
  let g := s.eng d e
  if w < 0x2000 then .priv w
  else if w < 0x6000 then .shared (2 * (w - 0x2000))
  else if w < 0x8000 then .window (2 * (w - 0x6000))
  else if w < 0xC000 then (if g.pageCtl then .ctl (g.pageOff (2 * (w - 0x8000))) else .vat g.pageDie (g.pageOff (2 * (w - 0x8000))))
  else if 0xFF00 ≤ w ∧ specialListed (w - 0xFF00) then .special (w - 0xFF00)
  else .reserved

/-- VW_PAGE as an access to a word address uses it. -/
def State.pageUsed (s : State) (d e w : Nat) : Option Nat :=
  if 0x8000 ≤ w ∧ w < 0xC000 then some (s.eng d e).vwPage else none

/-! ## Control registers that a granted cluster reaches (R274, R359) -/

/-- Whether the port code's frames go to a cluster (log entry 31). -/
def State.boundPort (s : State) (d c port : Nat) : Bool :=
  s.cfg.switch.bindings.any (fun b => b.die == d && b.port == port && b.dest == 0 && b.target == c)

/-- Whether a register is one of some. -/
def isReg (off : Nat) (rs : List Reg) : Bool := rs.any (fun r => r.off == off)

/-- The registers that a granted cluster may read. -/
def State.ctlReads (s : State) (d c off : Nat) : Bool :=
  match off / 0x40000 with
  | 0 =>
    let p := off / 0x400
    decide (p < 8) && s.boundPort d c p && (isReg off [R.ETH_PORT_STATUS p, R.ETH_AN_STATUS p] ||
      (decide (0x80 ≤ off % 0x400) && decide (off % 0x400 < 0xE4)))
  | 1 =>
    let p := (off - 0x40000) / 0x400
    decide (p < 8) && s.boundPort d c (0x10 + p) && (isReg off [R.SER_PORT_STATUS p, R.SER_CAN_ERR p, R.SER_TT_STATUS p] ||
      (decide (0x40 ≤ off % 0x400) && decide (off % 0x400 < 0x6C)))
  | 2 => isReg off [R.TTE_STATUS, R.TTE_POS, R.TTE_SYNC, R.TTE_RATE, R.TTE_TXBUF, R.TTE_ARBQ, R.TTE_NEXT_MATRIX] ||
      (decide (0x80080 ≤ off) && decide (off < 0x800B8))
  | 4 => isReg off [R.TIM_STATUS, R.TIM_NOW, R.TIM_NOW_FRAC, R.TIM_MONO, R.TIM_UTC] ||
      off == R.TIM_NOW.off + 4 || off == R.TIM_MONO.off + 4
  | 5 =>
    if off = R.LCE_CUE_STAT.off then true
    else if 0x140100 ≤ off ∧ off < 0x140500 then
      let e := (off - 0x140100) / 0x40
      (s.lceBind d e).any (fun b => b.1 == c) && isReg off [R.LCE_ENG_STATUS e, R.LCE_LOOP e, R.LCE_DIV e, R.LCE_IN_FIFO e,
        R.LCE_OUT_FIFO e, R.LCE_FIFO_STAT e, R.LCE_STALLS e]
    else decide (0x142000 ≤ off) && decide (off < 0x142100) &&
      (s.lceBind d ((off - 0x142000) / 16)).any (fun b => b.1 == c)
  | 10 => isReg off [R.PKT_CL_SLOW c, R.PKT_CL_DROP c]
  | 13 => isReg off [R.AWL_CL_CTRL c]
  | _ => false

/-- The registers that a granted cluster may write. -/
def State.ctlWrites (s : State) (d c off : Nat) : Bool :=
  match off / 0x40000 with
  | 1 =>
    let p := (off - 0x40000) / 0x400
    decide (p < 8) && s.boundPort d c (0x10 + p) && isReg off [R.SER_TX_CTRL p]
  | 5 => isReg off [R.LCE_CUE] || (s.ctlReads d c off && !isReg off [R.LCE_CUE_STAT])
  | 10 | 13 => s.ctlReads d c off
  | _ => false

/-- Whether the control window lets a cluster's access through: page bit 8, the die, the granted block and the register. -/
def State.ctlAllowed (s : State) (d e off : Nat) (write : Bool) : Bool :=
  let g := s.eng d e
  let c := e / 8
  let granted := match placeOf (s.cfgOf (clUid d c)) d c with
    | some p => p.ctlMask.testBit (off / 0x40000) && (off / 0x40000 != 13 || p.ibankGrant)
    | none => false
  !g.vwPage.testBit 8 && g.pageDie == d && granted && (if write then s.ctlWrites d c off else s.ctlReads d c off)

/-! ## Checks at issue (R317) -/

/-- What a check at issue found: nothing, or a cause with its subcode, word address and VW_PAGE. -/
abbrev Refused := Option (Nat × Nat × Nat × Option Nat)

/-- The checks of R273 on `n` bytes of a Vat; a refused region access is counted. -/
def State.vatCheck (s : State) (d e t off n w : Nat) (write : Bool) : Refused × State :=
  let page := some (s.eng d e).vwPage
  if s.dieCount ≤ t then (some (5, 7, w, page), s)
  else
    match s.firstRefused d (e / 8) t off n write with
    | none => (none, s)
    | some (l, p) => (some (5, bit p, w, page), s.vatViolation d (e / 8) t l write p)

/-- The checks of R274 on an access of the control window, `pair` for an LD2 or ST2 at an even word address, and the fence of the
register's domain (R766, R776). -/
def State.ctlCheck (s : State) (d e off w : Nat) (pair write : Bool) : Refused × State :=
  let page := some (s.eng d e).vwPage
  if !pair then (some (5, 6, w, page), s)
  else if s.ctlAllowed d e off write then
    match s.regFenced d off with
    | some n => (some (5, 3, w, page), s.fenceRefused d n)
    | none => (none, s)
  else (some (5, 5, w, page), (s.count d F.TEN_DENIED_COUNT 1).putFlag 0 F.TEN_EVENT_DENIED true)

/-- The checks of one word that follow the word map's: frame window, Vat and control window. -/
def State.wordCheck (s : State) (d e w : Nat) (pair write : Bool) : Refused × State :=
  match s.place d e w with
  | .window b =>
    (if write && !(s.fwWritable d e b && s.fwWritable d e (b + 1)) then some (8, 0, w, none) else none, s)
  | .vat t off => s.vatCheck d e t off 2 w write
  | .ctl off => s.ctlCheck d e off w pair write
  | _ => (none, s)

/-- Whether two words are one access of 4 bytes of one Vat. -/
def State.vatPair (s : State) (d e w : Nat) : Bool := decide (0x8000 ≤ w) && decide (w < 0xBFFF) && !(s.eng d e).pageCtl

/-- Every check made at issue for one word, or for two. -/
def State.issueCheck (s : State) (d e w : Nat) (two write : Bool) : Refused × State :=
  let w2 := (w + 1) % 65536
  if s.place d e w = .reserved then (some (7, 0, w, none), s)
  else if two ∧ s.place d e w2 = .reserved then (some (7, 0, w2, none), s)
  else if two ∧ s.vatPair d e w then
    match s.place d e w with
    | .vat t off => s.vatCheck d e t off 4 w write
    | _ => (none, s)
  else
    let pair := two && w % 2 == 0
    let r := s.wordCheck d e w pair write
    match r.1 with
    | some _ => r
    | none => if two ∧ !(pair ∧ w2 < 0xC000 ∧ 0x8000 ≤ w) then r.2.wordCheck d e w2 pair write else r

/-! ## Loads (R341, R342) -/

/-- The buffered stores that overlap `n` bytes of a target from an address: their positions in the buffer. -/
def overlapping (sb : List SbItem) (t : SbTarget) (addr n : Nat) : List Nat :=
  ((List.range sb.length).zip sb).filterMap (fun p => match p.2 with
    | .store x => if x.target = t ∧ x.addr < addr + n ∧ addr < x.addr + x.bytes.length then some p.1 else none
    | _ => none)

/-- What the buffer does to a load of `n` bytes: the bytes of the youngest overlapping entry when it covers the load, or
the state with every overlapping entry drained. -/
def State.forward (s : State) (d e : Nat) (t : SbTarget) (addr n : Nat) : Option (List Byte) × State :=
  let sb := (s.eng d e).sb
  match (overlapping sb t addr n).getLast? with
  | none => (none, s)
  | some k =>
    match sb[k]? with
    | some (.store x) =>
      if x.addr ≤ addr ∧ addr + n ≤ x.addr + x.bytes.length then (some ((x.bytes.drop (addr - x.addr)).take n), s)
      else
        (none, (s.drainTo d e (sb.length - (k + 1)) 16).2)
    | _ => (none, s)

/-- What a read of bytes answers: the bytes, or an uncorrectable word. -/
inductive Loaded where
  | ok (bs : List Byte) (s : State)
  | ue (s : State)

def wordBytes (x : W16) : List Byte := leBytes 2 x.toNat

/-- `n` words of a scratchpad from a word index. -/
def State.spadRead (s : State) (d c w : Nat) : Nat → Loaded
  | 0 => .ok [] s
  | n + 1 =>
    match s.spadLoad d c w with
    | (none, t) => .ue t
    | (some x, t) => match t.spadRead d c (w + 1) n with
      | .ok bs u => .ok (wordBytes x ++ bs) u
      | r => r

/-- Bytes that the store buffer may hold, read from memory otherwise. -/
def State.buffered (s : State) (d e : Nat) (t : SbTarget) (addr n : Nat) (read : State → Loaded) : Loaded :=
  match s.forward d e t addr n with
  | (some bs, s) => .ok bs s
  | (none, s) => read s

/-- A read's answer as a load's. -/
def loadedOf (r : List Byte × Bool × State) : Loaded := if r.2.1 then .ue r.2.2 else .ok r.1 r.2.2

/-- Window bytes one by one, where none of them is served from cells. -/
def State.windowBytes (s : State) (d e b : Nat) : Nat → List Byte × State
  | 0 => ([], s)
  | n + 1 =>
    let r := s.windowByte d e b
    let q := r.2.windowBytes d e (b + 1) n
    (r.1 :: q.1, q.2)

/-- `n` bytes of the frame window from byte `b`: those before the bytes that cells serve, those, and those after. -/
def State.windowLoad (s : State) (d e b n : Nat) : Loaded :=
  let inner := (List.range n).filter (fun i => s.inCells d e (b + i))
  match inner.head?, s.shown d e with
  | some k, some f =>
    let pre := s.windowBytes d e b k
    let m := inner.length
    let mid := if (s.eng d e).sel then
        pre.2.buffered d e (.frame f) (b + k) m (fun s => loadedOf (s.frameRead (frameDie f) (s.frame f) (b + k) m 3 4))
      else loadedOf (pre.2.frameRead (frameDie f) (pre.2.frame f) (b + k) m 3 4)
    match mid with
    | .ok bs t =>
      let post := t.windowBytes d e (b + k + m) (n - k - m)
      .ok (pre.1 ++ bs ++ post.1) post.2
    | r => r
  | _, _ =>
    let r := s.windowBytes d e b n
    .ok r.1 r.2

/-- `n` bytes of a Vat through the window (R272): reads of records carry the engine lead. -/
def State.vatLoad (s : State) (d e t off n : Nat) : Loaded :=
  s.buffered d e (.vat t) off n (fun s => loadedOf (s.portRead t off n 3 (s.leadOf 0)))

/-- The 32 bits of a control register read by an engine; reads of RC fields do not clear them. -/
def State.ctlLoad (s : State) (d off : Nat) : Nat × State :=
  if 0x140100 ≤ off ∧ off < 0x140500 ∧ (off - 0x140100) % 0x40 = 0x14 then s.lcePop d ((off - 0x140100) / 0x40)
  else (s.fullView d off).rawRead d off false

/-- The bytes of one word, checks passed. -/
def State.wordLoad (s : State) (d e w : Nat) : Loaded :=
  match s.place d e w with
  | .priv x => s.spadRead d (e / 8) (privWord (e % 8) x) 1
  | .shared a => s.buffered d e .shared a 2 (fun s => s.spadRead d (e / 8) (sharedWord (a / 2)) 1)
  | .window b => s.windowLoad d e b 2
  | .vat t off => s.vatLoad d e t off 2
  | .special i =>
    let r := s.specialRead d e i
    .ok (leBytes 2 r.1) r.2
  | _ => .ok [0, 0] s

/-- The four bytes of two words, checks passed. -/
def State.pairLoad (s : State) (d e w : Nat) : Loaded :=
  match s.place d e w, s.place d e ((w + 1) % 65536) with
  | .shared a, .shared _ => s.buffered d e .shared a 4 (fun s => s.spadRead d (e / 8) (sharedWord (a / 2)) 2)
  | .window b, .window _ => s.windowLoad d e b 4
  | .vat t off, .vat _ _ => s.vatLoad d e t off 4
  | .ctl off, _ => s.buffered d e .ctl off 4 (fun s =>
      let r := s.ctlLoad d off
      .ok (leBytes 4 r.1) r.2)
  | _, _ =>
    match s.wordLoad d e w with
    | .ok lo t => match t.wordLoad d e ((w + 1) % 65536) with
      | .ok hi u => .ok (lo ++ hi) u
      | r => r
    | r => r

/-! ## Stores (R338, R343) -/

/-- Bytes entered in the store buffer. -/
def State.bufferStore (s : State) (d e : Nat) (t : SbTarget) (addr : Nat) (bs : List Byte) (w : Nat) : State :=
  s.enterSb d e (.store ⟨t, addr, bs, w, s.pageUsed d e w⟩)

/-- A metadata or cell store through the frame window. -/
def State.windowStore (s : State) (d e b : Nat) (bs : List Byte) (w : Nat) : State :=
  match (s.eng d e).tx with
  | none => s
  | some f =>
    if b < 0x3F00 then s.bufferStore d e (.frame f) b bs w
    else
      s.setFrame f ((((List.range bs.length).zip bs).foldl (fun x p => x.setMeta (b - 0x3F00 + p.1) p.2)
        (s.frame f)))

/-- A store of one word, or of two that lie in one area, checks passed. -/
def State.areaStore (s : State) (d e w : Nat) (bs : List Byte) : State :=
  match s.place d e w with
  | .priv x =>
    let s := s.spadSet d (e / 8) (privWord (e % 8) x) (BitVec.ofNat 16 (leNat (bs.take 2)))
    if bs.length > 2 then s.spadSet d (e / 8) (privWord (e % 8) (x + 1)) (BitVec.ofNat 16 (leNat (bs.drop 2))) else s
  | .shared a => s.bufferStore d e .shared a bs w
  | .window b => s.windowStore d e b bs w
  | .vat t off => s.bufferStore d e (.vat t) off bs w
  | .ctl off => s.bufferStore d e .ctl off bs w
  | .special i => s.specialWrite d e i (leNat (bs.take 2))
  | .reserved => s

/-- Whether two words lie in one area that takes them as one store. -/
def State.oneArea (s : State) (d e w : Nat) : Bool :=
  match s.place d e w, s.place d e ((w + 1) % 65536) with
  | .priv _, .priv _ | .shared _, .shared _ | .window _, .window _ | .vat _ _, .vat _ _ | .ctl _, .ctl _ => true
  | _, _ => false

/-- A store of one or two words, checks passed. -/
def State.storeWords (s : State) (d e w : Nat) (bs : List Byte) : State :=
  if bs.length ≤ 2 ∨ s.oneArea d e w then s.areaStore d e w bs
  else (s.areaStore d e w (bs.take 2)).areaStore d e ((w + 1) % 65536) (bs.drop 2)

/-- Whether a store to a word, or two, finds the outbound mailbox queue full (R256). -/
def State.mbxRefused (s : State) (d e w : Nat) (two : Bool) : Option Nat :=
  if s.mbxTxFull d e then
    if s.place d e w = .special 0x29 then some w
    else if two ∧ s.place d e ((w + 1) % 65536) = .special 0x29 then some ((w + 1) % 65536)
    else none
  else none

/-! ## The operations' bodies -/

/-- A load's answer as a body's: the pushed words or the trap. -/
def Loaded.out (r : Loaded) (w : Nat) (page : Option Nat) (k : List Byte → State → AwlOut) : AwlOut :=
  match r with
  | .ok bs t => k bs t
  | .ue t => .trap t 5 2 w page

/-- The words of bytes, low word first. -/
def bytesWords : List Byte → List W16
  | b0 :: b1 :: r => BitVec.ofNat 16 (b0.toNat + 256 * b1.toNat) :: bytesWords r
  | [b0] => [BitVec.ofNat 16 b0.toNat]
  | [] => []

/-- The operand stack after popping `n` and pushing words, the last word on top. -/
def State.pushed (s : State) (d e pops : Nat) (ws : List W16) : State :=
  s.modEng d e (fun g => { g with ds := ws.reverse ++ g.ds.drop pops })

/-- `ld` and `ld2`. -/
def loadBody (d e off : Nat) (two : Bool) (s : State) : AwlOut :=
  checked d e 1 (if two then 2 else 1) 0 0 (fun g s =>
    let w := ((g.ds.headD 0).toNat + off) % 65536
    match s.issueCheck d e w two false with
    | (some (c, sub, a, p), t) => .trap t c sub a p
    | (none, t) =>
      (if two then t.pairLoad d e w else t.wordLoad d e w).out w (s.pageUsed d e w)
        (fun bs u => .next (u.pushed d e 1 (bytesWords bs)) g.pcNext)) s

/-- `st` and `st2`. -/
def storeBody (d e off : Nat) (two : Bool) (s : State) : AwlOut :=
  checked d e (if two then 3 else 2) 0 0 0 (fun g s =>
    let w := ((g.ds.headD 0).toNat + off) % 65536
    match s.issueCheck d e w two true with
    | (some (c, sub, a, p), t) => .trap t c sub a p
    | (none, t) =>
      match t.mbxRefused d e w two with
      | some a => .trap t 5 4 a none
      | none =>
        let x := (g.ds.getD 1 0).toNat
        let bs := if two then leBytes 2 (g.ds.getD 2 0).toNat ++ leBytes 2 x else leBytes 2 x
        .next ((t.storeWords d e w bs).pushed d e (if two then 3 else 2) []) g.pcNext) s

/-- `lds` and `sts`. -/
def ldsBody (d e i : Nat) (s : State) : AwlOut :=
  checked d e 0 1 0 0 (fun g s =>
    if specialListed i then
      let r := s.specialRead d e i
      .next (r.2.pushed d e 0 [BitVec.ofNat 16 r.1]) g.pcNext
    else .trap s 7 0 (0xFF00 + i) none) s

def stsBody (d e i : Nat) (s : State) : AwlOut :=
  checked d e 1 0 0 0 (fun g s =>
    if !specialListed i then .trap s 7 0 (0xFF00 + i) none
    else if i = 0x29 ∧ s.mbxTxFull d e then .trap s 5 4 0xFF29 none
    else .next ((s.specialWrite d e i (g.ds.headD 0).toNat).pushed d e 1 []) g.pcNext) s

/-! ## Rotated accesses (R157, R158, R321 to R325) -/

/-- Bytes of a format. -/
def fmtBytes (fmt : Nat) : Nat := if fmt % 4 = 0 then 1 else if fmt % 4 = 1 then 2 else 4
/-- The bytes in little-endian order of the value. -/
def fmtOrder (fmt : Nat) (bs : List Byte) : List Byte := if fmt.testBit 2 ∧ fmt % 4 ≠ 0 then bs.reverse else bs

/-- The effective byte address and the field bytes within the window. -/
def effByte (fmt size : Nat) (b : W16) : Nat × Nat :=
  let a := (b.toNat + fmt / 8 % 8) % size
  (a, min (fmtBytes fmt) (size - a))

/-- A frame-window load, rotated. -/
def fldBody (d e fmt : Nat) (s : State) : AwlOut :=
  let n := fmtBytes fmt
  checked d e 1 (if n = 4 then 2 else 1) 0 0 (fun g s =>
    let a := effByte fmt 16384 (g.ds.headD 0)
    (s.windowLoad d e a.1 a.2).out (0x6000 + a.1 / 2) none (fun bs u =>
      .next (u.pushed d e 1 (bytesWords (fmtOrder fmt (bs ++ List.replicate (n - a.2) 0)))) g.pcNext)) s

/-- The bytes that a rotated store writes, in address order: the popped word's low byte, the word or the pair. -/
def fstBytes (fmt : Nat) (g : Eng) : List Byte :=
  let n := fmtBytes fmt
  let v := if n = 4 then (g.ds.getD 2 0).toNat + 65536 * (g.ds.getD 1 0).toNat else (g.ds.getD 1 0).toNat
  fmtOrder fmt (leBytes n v)

/-- A frame-window store, rotated. -/
def fstBody (d e fmt : Nat) (s : State) : AwlOut :=
  let n := fmtBytes fmt
  let pops := if n = 4 then 3 else 2
  checked d e pops 0 0 0 (fun g s =>
    let a := effByte fmt 16384 (g.ds.headD 0)
    if (List.range a.2).all (fun i => s.fwWritable d e (a.1 + i)) then
      .next ((s.windowStore d e a.1 ((fstBytes fmt g).take a.2) (0x6000 + a.1 / 2)).pushed d e pops []) g.pcNext
    else .trap s 8 0 (0x6000 + a.1 / 2) none) s

/-- The checks of a rotated Vat-window access. -/
def State.rotCheck (s : State) (d e a n : Nat) (write : Bool) : Refused × State :=
  let g := s.eng d e
  if g.pageCtl then (some (5, 6, 0x8000 + a / 2, some g.vwPage), s)
  else s.vatCheck d e g.pageDie (g.pageOff a) n (0x8000 + a / 2) write

/-- A Vat-window load, rotated. -/
def vldBody (d e fmt : Nat) (s : State) : AwlOut :=
  let n := fmtBytes fmt
  checked d e 1 (if n = 4 then 2 else 1) 0 0 (fun g s =>
    let a := effByte fmt 32768 (g.ds.headD 0)
    match s.rotCheck d e a.1 a.2 false with
    | (some (c, sub, w, p), t) => .trap t c sub w p
    | (none, t) =>
      (t.vatLoad d e g.pageDie (g.pageOff a.1) a.2).out (0x8000 + a.1 / 2) (some g.vwPage) (fun bs u =>
        .next (u.pushed d e 1 (bytesWords (fmtOrder fmt (bs ++ List.replicate (n - a.2) 0)))) g.pcNext)) s

/-- A Vat-window store, rotated. -/
def vstBody (d e fmt : Nat) (s : State) : AwlOut :=
  let n := fmtBytes fmt
  let pops := if n = 4 then 3 else 2
  checked d e pops 0 0 0 (fun g s =>
    let a := effByte fmt 32768 (g.ds.headD 0)
    match s.rotCheck d e a.1 a.2 true with
    | (some (c, sub, w, p), t) => .trap t c sub w p
    | (none, t) =>
      let s := t.bufferStore d e (.vat g.pageDie) (g.pageOff a.1) ((fstBytes fmt g).take a.2) (0x8000 + a.1 / 2)
      .next (s.pushed d e pops []) g.pcNext) s

/-- `rdrec`: one line read of a record-sized block into the private words from 16n (R326, R327). -/
def rdrecBody (d e n : Nat) (s : State) : AwlOut :=
  checked d e 1 0 0 0 (fun g s =>
    let w := (g.ds.headD 0).toNat / 16 * 16
    if (g.ds.headD 0).toNat < 0x8000 ∨ 0xC000 ≤ (g.ds.headD 0).toNat then .trap s 7 0 (g.ds.headD 0).toNat none
    else
      let b := 2 * (w - 0x8000)
      if g.pageCtl then .trap s 5 6 w (some g.vwPage)
      else match s.vatCheck d e g.pageDie (g.pageOff b) 32 w false with
        | (some (c, sub, a, p), t) => .trap t c sub a p
        | (none, t) =>
          (t.vatLoad d e g.pageDie (g.pageOff b) 32).out w (some g.vwPage) (fun bs u =>
            .next ((u.spadWords d (e / 8) (privWord (e % 8) (16 * n)) ((bytesWords bs).map (·.toNat))).pushed d e 1 [])
              g.pcNext)) s

end Sys2Proof.Machine
end

