-- ==== Sys2Proof/Machine/HarBase.lean ====
section
/-! DEFINITION. Harness records, late units and the end of switching (chapter 02, R111, R117, R124). -/

namespace Sys2Proof.Machine

/-- A harness record (R124). -/
def State.harRecord (s : State) (kind code old new instant image affected count first ns : Nat) : State :=
  s.partRec 0 1 0x0D 0 (leBytes 1 kind ++ leBytes 1 code ++ leBytes 1 old ++ leBytes 1 new ++ leBytes 8 instant ++
    leBytes 4 image ++ leBytes 2 affected ++ leBytes 2 count ++ leBytes 2 first ++ leBytes 2 0 ++ leBytes 8 ns)

/-- A late unit: counted, reported, and fenced until it runs the new configuration (R117). -/
def State.lateUnit (s : State) (u : Nat) : State :=
  if s.har.late.contains u then s
  else
    let s := { s with har := { s.har with late := s.har.late ++ [u] } }
    let s := s.count (u / 0x2000) F.HAR_DIE_STATE_LATE 1
    ((s.putFlag 0 F.HAR_STATUS_LATE true).putFlag 0 F.HAR_EVENT_LATE_UNIT true).fenceUnits [u]

/-- Every affected unit has switched: the retiring image is discarded, the state returns to RUN and the commit record is
written (R111, R124). -/
def State.switchingEnd (s : State) : State :=
  let now := s.now 0
  let e := s.epoch
  let late := s.har.late
  let s := { s with har := { s.har with retiring := none, late := [] } }
  let s := (s.putFlag 0 F.HAR_EVENT_SWITCHED true).put 0 F.HAR_STATUS_STATE 2
  s.harRecord 1 0 ((e + 15) % 16) e (s.rd 0 R.HAR_COMMIT_TIME).toNat (s.get 0 F.HAR_IMAGE_ID_ID)
    (s.get 0 F.HAR_READY_AFFECTED) late.length (late.headD 0xFFFF) (now - s.har.instant)

/-- A unit runs the new configuration. -/
def State.unitDone (s : State) (u : Nat) : State :=
  if s.har.unswitched.contains u then
    let left := s.har.unswitched.filter (· != u)
    let s := { s with har := { s.har with unswitched := left } }
    let s := if s.har.late.contains u then s.unfenceUnits [u] else s
    if left = [] ∧ s.get 0 F.HAR_STATUS_STATE = 9 then s.switchingEnd else s
  else s

/-- Whether a unit still executes the old configuration after the instant. -/
def State.onOld (s : State) (u : Nat) : Bool := s.har.unswitched.contains u

end Sys2Proof.Machine
end

