-- ==== Sys2Proof/Machine/AwlRun.lean ====
section
/-! DEFINITION. Issuing commits, WAIT, waking and switching of the Awl engines (R263 to R266, R278 to R280, R333 to
R337). -/

namespace Sys2Proof.Machine

/-! ## Commits -/

/-- The quality operand of a QOP word. -/
def qopOf (q : Nat) : QOperand :=
  ⟨q.testBit 0, q.testBit 3, q.testBit 4, q.testBit 5, q.testBit 6, q.testBit 7, q / 256 % 4, q.testBit 11⟩

/-- The commit of a block's words (R333, R334): the arrival time is the STAMP of the bound receive frame, or now. -/
def State.blockCommit (s : State) (d e : Nat) (ws : List Nat) : Commit :=
  let w := fun k => ws.getD k 0
  let fr := (s.eng d e).rx.map (fun i => s.frame (s.slot d (e / 8) i).frame)
  { dpi := w 0 + 65536 * (w 1 % 16),
    operand := w 2 + 2 ^ 16 * w 3 + 2 ^ 32 * w 4 + 2 ^ 48 * w 5,
    srcTime := w 6 + 2 ^ 16 * w 7 + 2 ^ 32 * w 8 + 2 ^ 48 * w 9,
    srcValid := (w 10).testBit 15,
    arrival := (fr.map (·.stamp)).getD (s.now d),
    q := qopOf (w 10), issuer := engUid d e, epoch := s.epochOf (engUid d e),
    unsync := s.commitUnsync d ((w 10).testBit 11),
    endInstant := fr.map (·.endInstant), released := false }

/-- A refusal reported to its engine: CREFUSED and FIRST_REASON (R204, R256). -/
def State.engRefused (s : State) (d e reason : Nat) : State :=
  s.modEng d e (fun g => { g with
    refused := satAdd 8 g.refused 1, firstReason := if g.firstReason = 0 then reason else g.firstReason })

/-- `commit #n`. -/
def commitBody (d e n : Nat) (s : State) : AwlOut :=
  let g := s.eng d e
  if g.group.length ≥ 64 then .trap s 0x80 0 0 none
  else match s.spadRead d (e / 8) (privWord (e % 8) (16 * n)) 11 with
    | .ue t => .trap t 5 2 (16 * n) none
    | .ok bs t =>
      let k := t.blockCommit d e ((bytesWords bs).map (·.toNat))
      if t.dpiOk k.dpi then .next (t.modEng d e (fun g => { g with group := g.group ++ [k] })) g.pcNext
      else .next ((t.refuseCommit d 1 k.dpi k.issuer false).engRefused d e 1) g.pcNext

/-! ## Dispatcher and waking (R262 to R265) -/

/-- Whether an engine that executes or sleeps in a WAIT takes frames of queue `q`. -/
def State.takesFrames (s : State) (d e q : Nat) : Bool :=
  let g := s.eng d e
  g.st == .wait && g.evMask.testBit q && !(g.held && g.rx.isSome)

/-- The engine (0 to 7) to which the dispatcher binds the next frame of queue `q`, `me` being a candidate itself. -/
def State.dispatch (s : State) (d c me q : Nat) : Option Nat :=
  ((List.range 8).map (fun i => ((s.cl d c).disp + i) % 8)).find? (fun i => i == me || s.takesFrames d (8 * c + i) q)

/-- The enabled pending events of an engine in WAIT; a frame event only when the dispatcher chooses the engine. -/
def State.wakeEvents (s : State) (d e : Nat) : Nat :=
  let p := s.pendEvents d e &&& (s.eng d e).evMask
  (List.range 4).foldl (fun a q =>
    if p.testBit q ∧ s.dispatch d (e / 8) (e % 8) q ≠ some (e % 8) then a - 2 ^ q else a) p

/-- The oldest frame of queue `q` bound to an engine; its cells pass to it (R510) and its charge at the queue
ends (R899). -/
def State.bindFrame (s : State) (d e q : Nat) : State :=
  let c := e / 8
  match s.queued d c q with
  | [] => s
  | i :: r =>
    let h := s.slot d c i
    let s := (s.setQueued d c q r).setSlot d c i { h with bound := some (e % 8) }
    let s := s.leaveOutput h.frame d (17 + 4 * c + q)
    let s := (s.ownFrame h.frame (engUid d e)).setCl d c { s.cl d c with disp := (e % 8 + 1) % 8 }
    (s.modEng d e (fun g => { g with rx := some i, held := false })).count d (F.PKT_CL_FRAMES_COUNT c) 1

/-- The lowest of the first 16 set bits. -/
def lowestBit (p : Nat) : Option Nat := (List.range 16).find? (fun n => p.testBit n)

/-- An engine in WAIT resumes on its lowest enabled pending event, or sleeps. -/
def State.resumeOrSleep (s : State) (d e : Nat) : State :=
  match lowestBit (s.wakeEvents d e) with
  | none => s.modEng d e (fun g => { g with st := .wait })
  | some n =>
    let s := if n ≤ 3 then s.bindFrame d e n else s
    s.modEng d e (fun g => { g with
      st := .run, pc := g.pcNext, evCause := n, limitHit := false,
      evPend := if 5 ≤ n then g.evPend - (g.evPend &&& 2 ^ n) else g.evPend })

/-! ## Switching (R278 to R280) -/

/-- Whether the configuration in force gives the cluster a pack. -/
def State.hasPack (s : State) (d c : Nat) : Bool := ((placeOf s.cfg d c).bind (packOf s.cfg)).isSome

/-- A configuration block copied to its pack-state slice. -/
def State.copyBlock (s : State) (c : HarnessCfg) (p : PlaceEntry) : State :=
  s.writeBytes p.die (0xF00000 - 0x40000 * psOf c p.die + p.psOff) p.cfg

/-- The registers that report a cluster's placement. -/
def State.applyPlace (s : State) (c : HarnessCfg) (d k : Nat) : State :=
  let p := placeOf c d k
  let s := (s.puts d [(F.PKT_CL_ID_PACK_ID k, (p.map (·.packId)).getD 0), (F.PKT_CL_ID_VERSION k, (p.map (·.version)).getD 0)])
  let s := if p.isSome then s.setBit d F.PKT_STATUS_CL_PACK k else s.clrBit d F.PKT_STATUS_CL_PACK k
  if p.any (·.transport) then s.setBit d F.PKT_STATUS_CL_TRANSPORT k else s.clrBit d F.PKT_STATUS_CL_TRANSPORT k

/-- When all 8 engines select the new bank, with the cluster's placement and configuration block of the new image, the cluster's bank switch is complete (R280). -/
def State.clusterSwitched (s : State) (d c : Nat) : State :=
  if (List.range 8).all (fun i => !s.onOld (engUid d (8 * c + i))) ∧ s.onOld (clUid d c) then
    let s := s.put d (F.AWL_CL_STATUS_ACTIVE_BANK c) (s.eng d (8 * c)).bank
    let s := (s.putFlag d (F.AWL_CL_STATUS_SHADOW_VALID c) false).applyPlace s.cfg d c
    let s := match placeOf s.cfg d c with
      | some p => s.copyBlock s.cfg p
      | none => s
    let s := if s.hasPack d c then s.setBit d F.AWL_STATUS_CL_RUN c else s.clrBit d F.AWL_STATUS_CL_RUN c
    s.unitDone (clUid d c)
  else s

/-- An engine moves to the other bank and starts at word 0, or enters RESET when its cluster has no pack (R278, R349). -/
def State.engineSwitch (s : State) (d e : Nat) : State :=
  let s := s.discardTx d e
  let run := s.hasPack d (e / 8)
  let s := s.modEng d e (fun g => { g with
    bank := 1 - g.bank, ds := [], rs := [], fl := default, evMask := 0, evCause := 0xFF, vwPage := 0, tmr := none,
    evPend := 0, accVis := 0, acc := 0, accQ := [], limitHit := false, pc := 0, st := if run then .run else .reset })
  (s.unitDone (engUid d e)).clusterSwitched d (e / 8)

/-! ## WAIT -/

/-- WAIT after the group's release: the receive frame, then a switch, an event, or sleep. -/
def State.waitRest (s : State) (d e : Nat) : State :=
  let s := if (s.eng d e).held then s else s.releaseRx d e
  let s := s.modEng d e (fun g => { g with limitHit := false, cqWait := false })
  if s.onOld (engUid d e) then s.engineSwitch d e else s.resumeOrSleep d e

/-- WAIT (R263, R285, R287, R532). -/
def State.waitOp (s : State) (d e : Nat) : State :=
  let s := s.modEng d e (fun g => { g with inTrap := false, st := .run })
  let s := (s.drainTo d e 0 32).2
  match (s.eng d e).pend with
  | some t => s.takePend d e t
  | none =>
    let s := s.modEng d e Eng.mulTick
    if s.groupFits d e then (s.pushGroup d e).waitRest d e
    else
      let s := s.modEng d e (fun g => { g with cqWait := true })
      ((s.count d F.SWC_CQ_WAITS 1).putFlag d F.SWC_STATUS_CQ_STALL true).putFlag d F.SWC_EVENT_CQ_FULL true

/-- An engine asleep in WAIT wakes on an enabled event, or switches after an instant. -/
def State.wake (s : State) (d e : Nat) : State :=
  if (s.eng d e).st = .wait then
    (if s.onOld (engUid d e) then s.engineSwitch d e else s.resumeOrSleep d e)
  else s

end Sys2Proof.Machine
end

