-- ==== Sys2Proof/Machine/DpSkv.lean ====
section
/-! DEFINITION. The Skiver (chapter 04): notice rings, passes, re-arming after a step and RESYNC notices. -/

namespace Sys2Proof.Machine

/-! ## Rings (R233, R237, R238) -/

def State.nchWr (s : State) (d n : Nat) : Nat := s.get d (F.DPT_NCH_IDX_WR n)
def State.nchRd (s : State) (d n : Nat) : Nat := s.get d (F.DPT_NCH_IDX_RD n)
/-- Notices in the ring of a channel. -/
def State.nchFill (s : State) (d n : Nat) : Nat := (s.nchWr d n + 512 - s.nchRd d n) % 512
def State.nchFull (s : State) (d n : Nat) : Bool := s.nchFill d n == 256

/-- The Vat offset of entry `i` of the ring of channel `n`. -/
def ringOff (n i : Nat) : Nat := 0xF40000 + n * 0x1000 + 16 * (i % 256)

/-- The 16 bytes of a notice: its first word with KIND and PHASE, the mask, and the time of the pass. -/
def noticeBytes (base kind phase mask time : Nat) : List Byte :=
  leBytes 4 (base % 2 ^ 20 + kind * 2 ^ 20 + phase * 2 ^ 31) ++ leBytes 8 mask ++ leBytes 4 (time / 4096)

/-- A notice written into a ring that has room; the first one in an empty ring raises the tenant's notice interrupt. -/
def State.writeNotice (s : State) (d n base kind mask time : Nat) : State :=
  let wr := s.nchWr d n
  let was := s.nchFill d n
  let s := s.vatStore d (ringOff n wr) (noticeBytes base kind (1 - wr / 256 % 2) mask time)
  let s := s.put d (F.DPT_NCH_IDX_WR n) ((wr + 1) % 512)
  if was = 0 then s.pageEvent (s.get d (F.DPT_NCH_CFG_TID n)) F.PCI_PG_EVENT_NOTICE else s

/-- LATE set, with its event. -/
def State.skvLate (s : State) (d : Nat) : State :=
  (s.putFlag d F.DPT_SKV_STATUS_LATE true).putFlag d F.DPT_EVENT_SKV_LATE true

/-- A full ring found (R236, R895). -/
def State.ringFull (s : State) (d n : Nat) : State :=
  ((s.putFlag d (F.DPT_NCH_IDX_FULL n) true).skvLate d).putFlag d F.DPT_EVENT_NCH_FULL true

/-! ## Re-arming after a step (R240) -/

/-- One slot re-armed when it meets the conditions. -/
def State.rearmSlot (s : State) (d slot : Nat) : State :=
  if (s.skvEntry d slot).armed then s
  else
    let c := s.readDesc d slot 7
    if c.2.1 then c.2.2
    else
      let r := c.2.2.readRec d slot 7
      if r.2.1 then r.2.2
      else
        let e := r.2.2.skvOf d c.1 r.1
        if e.armed ∧ r.1.deadline > r.2.2.now d then r.2.2.setSkv d slot e else r.2.2

/-- The slots of a die with a stored byte in their record. -/
def State.writtenSlots (s : State) (d : Nat) : List Nat :=
  ((s.mem.filter (fun e => decide (vatKey d 0 ≤ e.1) && decide (e.1 < vatKey d 0 + 0x400000))).map
    (fun e => e.1 % 0x400000 / 32)).eraseDups

/-- The enabled channels of a die. -/
def State.channels (s : State) (d : Nat) : List Nat := (List.range 64).filter (fun n => s.flag d (F.DPT_NCH_CFG_EN n))

/-- The re-arming of a pass that follows an accepted step, with a RESYNC notice waiting for every enabled channel. -/
def State.rearmDie (s : State) (d : Nat) : State :=
  if s.rearm.contains d then
    let s := (s.writtenSlots d).foldl (fun a x => a.rearmSlot d x) s
    let new := ((s.channels d).map (fun n => d * 64 + n)).filter (fun k => !s.resync.contains k)
    let s := { s with rearm := s.rearm.filter (· != d), resync := s.resync ++ new }
    s.putFlag d F.DPT_EVENT_STEP true
  else s

/-! ## RESYNC notices (R239, R240, R895) -/

/-- The RESYNC notice that waits for a channel, written when its ring has room. -/
def State.writeResync (s : State) (d n time : Nat) : State :=
  if s.resync.contains (d * 64 + n) then
    if s.nchFull d n then s.ringFull d n
    else
      let s := { s with resync := s.resync.filter (· != d * 64 + n) }
      s.writeNotice d n 0 1 (2 ^ 64 - 1) time
  else s

def State.resyncs (s : State) (d time : Nat) : State :=
  let s := (List.range 64).foldl (fun a n => a.writeResync d n time) s
  if s.resync.any (fun k => k / 64 == d) || s.rearm.contains d then s else s.putFlag d F.DPT_STATUS_RESYNC_PENDING false

/-! ## Went-stale notices (R231 to R233, R236) -/

/-- Whether an armed entry is due at a reading of the time base (R232). -/
def skvDue (now tick : Nat) : Bool := decide ((now / 4096 + 2 ^ 31 - tick % 2 ^ 31) % 2 ^ 31 < 2 ^ 30)

/-- The due entries of a die at a pass that starts at `p`, in ascending slot order, as (slot, channel). -/
def State.dueEntries (s : State) (d p : Nat) : List (Nat × Nat) :=
  s.skv.filterMap (fun e =>
    let slot := e.1 % 0x20000
    if e.1 / 0x20000 = d ∧ e.2.armed ∧ skvDue (p + 16 * (slot / 64)) e.2.tick then some (slot, e.2.nch) else none)

/-- The (group, channel) pairs of due entries in the order of their notices. -/
def noticeKeys (due : List (Nat × Nat)) : List (Nat × Nat) :=
  (due.map (fun e => e.1 / 64)).eraseDups.flatMap (fun g =>
    ((List.range 64).filter (fun n => due.any (fun e => e.1 / 64 == g && e.2 == n))).map (fun n => (g, n)))

/-- The notice of one group and channel: written with its entries disarmed, or left armed when the ring is full or the
limit of the pass is reached. -/
def State.groupNotice (s : State) (d p : Nat) (due : List (Nat × Nat)) (written : Nat) (key : Nat × Nat) : Nat × State :=
  if written ≥ 3072 then (written, s.skvLate d)
  else if s.nchFull d key.2 then (written, s.ringFull d key.2)
  else
    let slots := (due.filter (fun e => e.1 / 64 == key.1 && e.2 == key.2)).map (·.1)
    let mask := slots.foldl (fun a x => a ||| 2 ^ (x % 64)) 0
    let s := slots.foldl (fun a x => a.setSkv d x { a.skvEntry d x with armed := false }) s
    (written + 1, s.writeNotice d key.2 (dpiOf d (64 * key.1)) 0 mask p)

/-- The notices of a pass. -/
def State.notices (s : State) (d p : Nat) (due : List (Nat × Nat)) : State :=
  ((noticeKeys due).foldl (fun a k => a.2.groupNotice d p due a.1 k) (0, s)).2

/-- The first pass after RETAIN reports LATE when an entry fell due during it (R241). -/
def State.backFromRetain (s : State) (d : Nat) (due : List (Nat × Nat)) : State :=
  match s.skvBack.find? (fun e => e.1 == d) with
  | none => s
  | some e =>
    let s := { s with skvBack := s.skvBack.filter (fun x => x.1 != d) }
    if due.any (fun x => skvDue e.2 (s.skvEntry d x.1).tick) then s.skvLate d else s

/-- Whether the Skiver of a die runs passes. -/
def State.skvRuns (s : State) (d : Nat) : Bool :=
  s.flag d F.DPT_CTRL_SKV_EN && s.get 0 F.PWR_STATUS_STATE != 2

/-- One pass (R231 to R241). Its start is the last multiple of 65,536 ns of the die's time base. -/
def State.skiverPass (s : State) (d : Nat) : State :=
  if s.skvRuns d then
    let p := s.now d / 65536 * 65536
    let s := (s.putFlag d F.DPT_STATUS_SKV_RUN true).rearmDie d
    let s := s.resyncs d p
    let due := s.dueEntries d p
    let s := (s.backFromRetain d due).notices d p due
    s.count d F.DPT_SKV_STATUS_PASSES 1
  else s.putFlag d F.DPT_STATUS_SKV_RUN false

/-- A write of RD (R238, R247): a value that would leave more than 256 notices changes nothing. -/
def State.noticeAdvance (s : State) (d n rd : Nat) : State :=
  if (s.nchWr d n + 512 - rd % 512) % 512 > 256 then s else s.put d (F.DPT_NCH_IDX_RD n) (rd % 512)

end Sys2Proof.Machine
end

