-- ==== Sys2Proof/Machine/Datapoints.lean ====
section
/-! DEFINITION. The commands of the datapoint logic (chapter 04). -/

namespace Sys2Proof.Machine

/-- The engine of a UID: its die and number. -/
def engOfUid (u : Nat) : Nat × Nat := (u / 0x2000, u % 0x100)

/-- The status of a commit returned to its engine (R204, R256): DONE goes to 1 when the last one returns. -/
def State.commitStatus (s : State) (issuer reason : Nat) : State :=
  let d := (engOfUid issuer).1
  let e := (engOfUid issuer).2
  let g := s.eng d e
  if g.outstanding = 0 then s
  else
    let s := s.setEng d e { g with outstanding := g.outstanding - 1 }
    let s := if reason = 0 then s else s.engRefused d e reason
    if g.outstanding = 1 then s.raise d e 8 else s

/-- The oldest commit of a die's commit queue leaves it, is checked at its home die and applied or refused. -/
def execCommitApply (d : Die) (s : State) : Res :=
  onDie s d (match tblGet s.commitQ [] d.val with
    | [] => s
    | k :: rest =>
      let s : State := { s with commitQ := tblSet s.commitQ [] d.val rest }
      let r := s.handleCommit k
      r.2.commitStatus k.issuer r.1)

/-- A substitution FORCE by tenant `tid` on die `d`; the reason, 0 for none, is answered (R209). -/
def execForce (d : Die) (tid : Nat) (elem : ScatterElem) (s : State) : Res :=
  let r := s.substitute d tid elem false
  onDie s d { r.2 with resp := ⟨[r.1], r.1 == 0⟩ }

def execRelease (d : Die) (tid : Nat) (elem : ScatterElem) (s : State) : Res :=
  let r := s.substitute d tid elem true
  onDie s d { r.2 with resp := ⟨[r.1], r.1 == 0⟩ }

/-- Fence marking completes (R228); while none is in progress nothing happens. -/
def execFenceMarkDone (d : Die) (s : State) : Res :=
  onDie s d (if s.flag d F.DPT_FENCE_BUSY then
      ((s.putFlag d F.DPT_FENCE_BUSY false).putFlag d F.DPT_STATUS_FENCE_BUSY false).putFlag d F.DPT_EVENT_FENCE_DONE true
    else s)

def execSkiverPass (d : Die) (s : State) : Res := onDie s d (s.skiverPass d)
def execNoticeRdAdvance (d : Die) (n : Fin 64) (rd : Nat) (s : State) : Res := onDie s d (s.noticeAdvance d n rd)

/-- A write of DPT_LEAD_HOST or DPT_LEAD_ENG (R213); it applies from the next request on. -/
def execLeadWrite (host : Bool) (ns : Nat) (s : State) : Res :=
  onPkg s (s.put 0 (if host then F.DPT_LEAD_HOST_LEAD_NS else F.DPT_LEAD_ENG_LEAD_NS) ns)

end Sys2Proof.Machine
end

