-- ==== Sys2Proof/Machine/AwlCluster.lean ====
section
/-! DEFINITION. WAIT and waking, the register accesses of an engine that have their own row, traps and limits, resets of
engines and clusters, and the instruction-bank operations (chapter 05). -/

namespace Sys2Proof.Machine

/-- `wait` (R263). -/
def execAwlWait (d : Die) (e : Engine) (c : Fin 8) (s : State) : Res := awlGuard d e c (fun s => s.waitOp d e) s

/-- A sleeping engine wakes on an enabled event (R263, R264). -/
def execEngineWake (d : Die) (e : Engine) (s : State) : Res := onDie s d (s.wake d e)

/-- An access of a special register by the program of an engine that executes. -/
def engAccess (d : Die) (e : Engine) (k : State → State) (s : State) : Res :=
  onDie s d (if (s.eng d e).runs then k s else s)

/-- A read of a special register: the value goes to the reader. -/
def answer (r : Nat × State) : State := { r.2 with resp := ⟨[r.1], true⟩ }

def execFwRelease (d : Die) (e : Engine) (s : State) : Res := engAccess d e (fun s => s.fwRelease d e) s
def execFwHold (d : Die) (e : Engine) (s : State) : Res := engAccess d e (fun s => s.fwHold d e) s
/-- REQUEUE with QSEL written in the same access. -/
def execFwRequeue (d : Die) (e : Engine) (q : Fin 4) (s : State) : Res :=
  engAccess d e (fun s => (s.modEng d e (fun g => { g with qsel := q.val })).fwRequeue d e) s
def execFwAlloc (d : Die) (e : Engine) (s : State) : Res := engAccess d e (fun s => s.fwAlloc d e) s
def execFwSend (d : Die) (e : Engine) (s : State) : Res := engAccess d e (fun s => s.fwSend d e) s
def execFwDiscard (d : Die) (e : Engine) (s : State) : Res := engAccess d e (fun s => s.fwDiscard d e) s
def execSignal (d : Die) (e : Engine) (mask : Nat) (s : State) : Res := engAccess d e (fun s => s.signalWrite d e mask) s
def execTmrWrite (d : Die) (e : Engine) (us : Word16) (s : State) : Res := engAccess d e (fun s => s.tmrWrite d e us.toNat) s

/-- The TMR interval ends; a timer that is not armed changes nothing. -/
def execTimerExpire (d : Die) (e : Engine) (s : State) : Res :=
  onDie s d (if (s.eng d e).tmr.isSome then (s.modEng d e (fun g => { g with tmr := none })).raise d e 6 else s)

def execMbxRx (d : Die) (e : Engine) (s : State) : Res := engAccess d e (fun s => answer (s.mbxRx d e)) s

/-- A write of MBX_TX; a full queue takes BUS_ERROR with subcode MBX_FULL. -/
def execMbxTx (d : Die) (e : Engine) (w : Word16) (s : State) : Res :=
  engAccess d e (fun s => if s.mbxTxFull d e then s.takeTrap d e 5 4 false (s.eng d e).pc 0xFF29 none
    else s.mbxTx d e w.toNat) s

def execCrefused (d : Die) (e : Engine) (s : State) : Res := engAccess d e (fun s => answer (s.readRefused d e)) s
def execNowLatch (d : Die) (e : Engine) (s : State) : Res := engAccess d e (fun s => answer (s.nowLatch d e)) s
def execTrapPcWrite (d : Die) (e : Engine) (pc : Word16) (s : State) : Res :=
  engAccess d e (fun s => s.trapPcWrite d e pc.toNat) s

/-- The oldest entry of the store buffer drains (R340, R343). -/
def execStoreDrain (d : Die) (e : Engine) (s : State) : Res := onDie s d (s.drainOne d e).2

/-- A waiting failure taken at an instruction boundary, as a non-fatal trap or, while IN_TRAP is 1, as the fatal DOUBLE. -/
def State.takeWaiting (s : State) (d e : Nat) (inTrap : Bool) : State :=
  match (s.eng d e).pend with
  | some t => if (s.eng d e).inTrap = inTrap ∧ (s.eng d e).runs then s.takePend d e t else s
  | none => s

def execTrapEntry (d : Die) (e : Engine) (s : State) : Res := onDie s d (s.takeWaiting d e false)
def execFatalTrap (d : Die) (e : Engine) (s : State) : Res := onDie s d (s.takeWaiting d e true)

/-- The run limit reached, for the first or for the second time since WAIT (R266). -/
def execRunLimit (d : Die) (e : Engine) (s : State) : Res :=
  engAccess d e (fun s =>
    let g := s.eng d e
    let s := (s.modEng d e (fun g => { g with limitHit := true })).putFlag d F.AWL_EVENT_RUN_LIMIT true
    s.takeTrap d e (if g.limitHit then 0x82 else 0x09) 0 false g.pc 0 none) s

/-- An uncorrectable instruction fetch (R255). -/
def execFetchUe (d : Die) (e : Engine) (s : State) : Res := engAccess d e (fun s => s.fetchUe d e) s

/-- An engine reset requested by the owner; one within a reset of its cluster is absorbed (R38, R802). -/
def execEngineReset (d : Die) (e : Engine) (s : State) : Res :=
  onDie s d ((s.rungTaken d 2 0 0 (engUid d e) ((s.cl d (e / 8)).resetting.testBit (e % 8))).engineReset d e)

/-- A cluster reset; `conns` are the connections that a transport cluster loses (R387). -/
def execClusterReset (d : Die) (k : Unit8) (conns : List (Nat × Nat × Nat)) (s : State) : Res :=
  let transport := ((placeOf (s.cfgOf (clUid d k)) d k).map (·.transport)).getD false
  let t := (s.rungTaken d 2 0 0 (clUid d k) false).clusterReset d k
  onDie s d (if transport then t.lossNotices d conns else t)

/-- A cluster's power-up ends: the fence is removed and its wake request served (R770, R771). -/
def State.clusterUp (s : State) (d c : Nat) : State :=
  let s := (s.setDom d c 2).putFlag d (F.PWR_DOM_WAKE_PEND c) false
  (List.range 8).foldl (fun a i => a.putFlag d (F.MBX_ENG_WAKE_PENDING (8 * c + i)) false) s

/-- The reset of an engine has completed (R290, R292, R116): it starts at word 0 of a bank that holds a pack, in the new
configuration and counted late when it had not switched at the instant. -/
def State.engineResetDone (s : State) (d e : Nat) : State :=
  let c := e / 8
  let k := s.cl d c
  if k.resetting.testBit (e % 8) then
    let left := k.resetting - 2 ^ (e % 8)
    let s := (s.setCl d c { k with resetting := left }).unfenceUnits [engUid d e]
    let s := if s.onOld (engUid d e) then ((s.lateUnit (engUid d e)).initPriv s.cfg d e).engineSwitch d e
      else s.modEng d e (fun g => { g with pc := 0, st := if k.holds g.bank then .run else .reset })
    let s := s.modEng d e (fun g => { g with mbxIn := (g.mbxIn ++ g.mbxHeld).take 8, mbxHeld := [] })
    let s := if (s.eng d e).bellHeld then (s.raise d e 10).modEng d e (fun g => { g with bellHeld := false }) else s
    if left = 0 ∧ s.flag d (F.AWL_CL_STATUS_BUSY c) then
      let s := (s.putFlag d (F.AWL_CL_STATUS_BUSY c) false).clrBit d F.AWL_STATUS_CL_RESET c
      let s := if (s.cl d c).holds (s.eng d (8 * c)).bank then s.setBit d F.AWL_STATUS_CL_RUN c else s
      let s := (s.putFlag d F.AWL_EVENT_CL_RESET_DONE true).unfenceUnits [clUid d c]
      let s := if s.domState d c = 1 then s.clusterUp d c else s
      s.unitResetDone d (clUid d c)
    else if s.flag d (F.AWL_CL_STATUS_BUSY c) then s else s.unitResetDone d (engUid d e)
  else s

def execEngineResetDone (d : Die) (e : Engine) (s : State) : Res := onDie s d (s.engineResetDone d e)

def execIbankTest (d : Die) (k : Unit8) (b : Fin 2) (s : State) : Res := onDie s d (s.ibankStart d k 1 b)
def execIbankClear (d : Die) (k : Unit8) (b : Fin 2) (s : State) : Res := onDie s d (s.ibankStart d k 2 b)
def execIbankReload (d : Die) (k : Unit8) (b : Fin 2) (s : State) : Res := onDie s d (s.ibankStart d k 3 b)

/-- The operation in progress on a cluster's bank ends (R281 to R283); `fault` is what TEST found. -/
def State.ibankDone (s : State) (d c : Nat) (fault : Bool) : State :=
  match (s.cl d c).ibank with
  | none => s
  | some (op, b) =>
    let s := s.setCl d c { s.cl d c with ibank := none }
    let s := if op = 3 then s.writePack s.cfg d c b
      else (s.loadBank d c b []).setCl d c ((s.cl d c).setHolds b false)
    let s := (s.putFlag d (F.AWL_CL_STATUS_IBANK_BUSY c) false).putFlag d F.AWL_EVENT_IBANK_DONE true
    s.put d (F.AWL_CL_STATUS_IBANK_RESULT c) (if op = 1 ∧ fault then 2 else 1)

def execIbankDone (d : Die) (k : Unit8) (fault : Bool) (s : State) : Res := onDie s d (s.ibankDone d k fault)

end Sys2Proof.Machine
end

