-- ==== Sys2Proof/Machine/TimeOps.lean ====
section
/-! DEFINITION. The shared operations of the time unit (chapter 12): the servo's states and loop, source selection,
steps, the PLL's relock, pulse outputs, CLKOUT and the tick of the time base. -/

namespace Sys2Proof.Machine

/-! ## The servo -/

def timeBase (s : State) : TimeBase := s.cfg.time.base

/-- JUMP_NS: 0 acts as 1, values above 1,000,000,000 act as that. -/
def jumpNs (s : State) : Nat := max 1 (min 1000000000 (s.get 0 F.TIM_JUMP_JUMP_NS))

/-- LOCK_NS; 0 selects 100. -/
def lockNs (s : State) : Nat := if (timeBase s).lockNs = 0 then 100 else (timeBase s).lockNs

/-- MAX_SLEW_PPB in 1/256 ppb; 0 selects 200,000 ppb. -/
def maxSlewQ8 (s : State) : Int := (if (timeBase s).maxSlew = 0 then 200000 else (timeBase s).maxSlew : Nat) * 256

/-- RATE in 1/256 ppb. -/
def State.rateQ8 (s : State) : Int := toSigned 32 (s.get 0 F.TIM_RATE_RATE_Q8)

/-- The clockClass advertised (R565): CLASS_LOCKED in LOCKED, CLASS_FREE in FREE_RUN, CLASS_HOLD otherwise. -/
def clockClass (s : State) : Nat :=
  match s.har.current with
  | none => s.get 0 F.TIM_STATUS_CLOCK_CLASS
  | some _ =>
    if s.get 0 F.TIM_STATUS_STATE = 2 then (timeBase s).classLocked
    else if s.get 0 F.TIM_STATUS_STATE = 0 then (timeBase s).classFree else (timeBase s).classHold

/-- The source code of SRC0 to SRC3 (R585): [7:5] kind, [4:2] die, [1:0] capture input. -/
def srcCode (s : State) (i : Nat) : Nat := (timeBase s).src.getD i 0
def srcKind (s : State) (i : Nat) : Nat := srcCode s i / 32

/-- The status bits that follow the servo state: UNSYNC (R559), JUMP_REFUSED and the clockClass. -/
def State.syncTime (s : State) : State :=
  let idx := s.get 0 F.TIM_STATUS_SRC_IDX
  let un := s.get 0 F.TIM_STATUS_STATE != 2 || s.flag 0 F.TIM_STATUS_RELOCK ||
    (decide (idx < 4) && srcKind s idx == 2 && s.servo.upUnsync)
  let s := s.putFlag 0 F.TIM_STATUS_UNSYNC un
  let s := s.putFlag 0 F.TIM_STATUS_JUMP_REFUSED (s.get 0 F.TIM_STATUS_STATE == 4)
  s.put 0 F.TIM_STATUS_CLOCK_CLASS (clockClass s)

/-- The part of a rate history that lies in the last `n` ns: (sum of rate × duration, total duration). -/
def rateSum : List (Nat × Int) → Nat → Int × Nat
  | [], _ => (0, 0)
  | (t, r) :: rest, n =>
    let u := min t n
    let q := rateSum rest (n - u)
    (r * u + q.1, u + q.2)

/-- While LOCKED, the time since RATE last changed joins the history of R558. -/
def State.logRate (s : State) : State :=
  if s.get 0 F.TIM_STATUS_STATE = 2 then
    { s with servo := { s.servo with
        rateLog := (s.mono 0 - s.servo.rateSince, s.rateQ8) :: s.servo.rateLog, rateSince := s.mono 0 } }
  else s

/-- The holdover rate (R558): the mean of RATE over the last 64 s in LOCKED, or the last RATE. -/
def State.holdover (s : State) : Int :=
  let q := rateSum s.servo.rateLog 64000000000
  if q.2 = 0 then s.rateQ8 else Config.roundQ8 q.1 q.2

/-- RATE set; a value at the limits sets CLAMP. -/
def State.setRate (s : State) (r : Int) : State :=
  let s := s.logRate
  let s := s.put 0 F.TIM_RATE_RATE_Q8 (ofSigned 32 r)
  if r = maxSlewQ8 s ∨ r = -maxSlewQ8 s then s.putFlag 0 F.TIM_EVENT_CLAMP true else s

/-- The servo moved to a state (R557): each move sets STATE_CHG, and RATE follows the Servo states table. -/
def State.servoTo (s : State) (st : Nat) : State :=
  if s.get 0 F.TIM_STATUS_STATE = st then s.syncTime
  else
    let s := s.logRate
    let hold := s.holdover
    let s := (s.put 0 F.TIM_STATUS_STATE st).putFlag 0 F.TIM_EVENT_STATE_CHG true
    let s := { s with servo := { s.servo with runIn := 0, runOut := 0 } }
    let s :=
      if st = 0 then s.put 0 F.TIM_RATE_RATE_Q8 0
      else if st = 1 then { s with servo := { s.servo with integ := s.rateQ8 } }
      else if st = 2 then
        { s.putFlag 0 F.TIM_STATUS_EVER_LOCKED true with servo := { s.servo with rateSince := s.mono 0 } }
      else { s.put 0 F.TIM_RATE_RATE_Q8 (ofSigned 32 hold) with servo := { s.servo with holdRate := hold } }
    s.syncTime

/-- BW of SERVO_BW in hundredths of a hertz. -/
def bwCentiHz (code : Nat) : Nat := match code with
  | 0 => 100
  | 1 => 10
  | 2 => 3
  | _ => 1

/-- 2π in units of 10^-18 (log entry 16). -/
def twoPi : Int := 6283185307179586477

/-- The nominal interval of a source in ns (R553): a PTP source's Sync interval, 1 ms for REIN, 1 s for the others. -/
def nominalNs (s : State) (i : Nat) : Nat :=
  match srcKind s i with
  | 1 =>
    let l := ((s.cfg.time.ptp.head?).map (·.logSync)).getD 0
    if l < 0 then 1000000000 / 2 ^ (-l).toNat else 1000000000 * 2 ^ l.toNat
  | 2 => 1000000
  | _ => 1000000000

/-- The proportional-integral loop (R891) on an accepted measurement `ofs` of source `i`. bw = n / m hertz. -/
def State.servoLoop (s : State) (i : Nat) (ofs : Int) : State :=
  let tau : Nat := match s.servo.lastAcc with
    | some t => s.mono 0 - t
    | none => nominalNs s i
  let bw := bwCentiHz (timeBase s).servoBw
  let own : Bool := decide (bw * 20 * tau ≤ 100 * 1000000000)
  let n : Int := if own then bw else 1000000000
  let m : Nat := if own then 100 else 20 * tau
  let ki := Config.roundQ8 (twoPi * twoPi * n * n * ofs * tau * 256) (10 ^ 36 * m * m * 1000000000)
  let kp := Config.roundQ8 (1414 * twoPi * n * ofs * 256) (1000 * 10 ^ 18 * m)
  let lim := maxSlewQ8 s
  let integ := clampInt (-lim) lim (s.servo.integ + ki)
  let s := { s with servo := { s.servo with integ := integ, lastAcc := some (s.mono 0) } }
  s.setRate (clampInt (-lim) lim (integ + kp))

/-- The runs of the Servo transitions table: 16 within LOCK_NS lead from ACQUIRE to LOCKED, 4 beyond 4 × LOCK_NS from
LOCKED to ACQUIRE. -/
def State.servoRuns (s : State) (ofs : Int) : State :=
  let st := s.get 0 F.TIM_STATUS_STATE
  if st = 1 then
    if ofs.natAbs ≤ lockNs s then
      if s.servo.runIn + 1 ≥ 16 then s.servoTo 2
      else { s with servo := { s.servo with runIn := s.servo.runIn + 1 } }
    else { s with servo := { s.servo with runIn := 0 } }
  else if st = 2 then
    if ofs.natAbs > 4 * lockNs s then
      if s.servo.runOut + 1 ≥ 4 then s.servoTo 1
      else { s with servo := { s.servo with runOut := s.servo.runOut + 1 } }
    else { s with servo := { s.servo with runOut := 0 } }
  else s

/-- A step accepted: it takes effect at the first multiple of 65,536 ns at least 20 µs ahead (R562). -/
def State.schedStep (s : State) (delta : Int) (auto : Bool) : State :=
  let at_ := ceilDiv (s.now 0 + 20000) 65536 * 65536
  { s.putFlag 0 F.TIM_STATUS_STEP_PENDING true with
      servo := { s.servo with stepDelta := delta, stepAt := at_, autoStep := auto } }

/-- A jump (R555): refused, or stepped by the part itself before any lock (R560). -/
def State.servoJump (s : State) (ofs : Int) : State :=
  if s.get 0 F.TIM_STATUS_STATE = 0 ∧ s.flag 0 F.TIM_STATUS_EVER_LOCKED = false ∧ (timeBase s).autoFirst = true then
    s.schedStep ofs true
  else ((s.count 0 F.TIM_REFUSED_COUNT 1).putFlag 0 F.TIM_EVENT_JUMP true).servoTo 4

/-- A measurement of source `i` (R555, R556, R892); only the selected source's counts, none during a relock (R582),
and one that arrives while a step is pending is only recorded. -/
def State.measure (s : State) (i : Nat) (ofs : Int) : State :=
  if s.get 0 F.TIM_STATUS_SRC_IDX ≠ i ∨ s.flag 0 F.TIM_STATUS_RELOCK then s
  else
    let s := s.put 0 F.TIM_OFFSET_OFS (ofSigned 64 ofs)
    if s.flag 0 F.TIM_STATUS_STEP_PENDING then s
    else if ofs.natAbs > jumpNs s then s.servoJump ofs
    else
      let st := s.get 0 F.TIM_STATUS_STATE
      let s := if st = 0 ∨ st = 3 ∨ st = 4 then s.servoTo 1 else s
      ((s.servoLoop i ofs).servoRuns ofs).syncTime

/-- The highest-priority valid source, 7 for none (R554). -/
def bestSource (s : State) : Nat :=
  ((firstIdx (fun i => srcKind s i != 0 && s.servo.valid.contains i) [0, 1, 2, 3])).getD 7

/-- The servo re-selects (R554, R557): a change sets SRC_CHG; with no source left it holds over, and with no source
listed at all it runs free. -/
def State.reselect (s : State) : State :=
  let b := bestSource s
  let s := if s.get 0 F.TIM_STATUS_SRC_IDX = b then s else
    { (s.put 0 F.TIM_STATUS_SRC_IDX b).putFlag 0 F.TIM_EVENT_SRC_CHG true with
        servo := { s.servo with lastAcc := none } }
  let s := if b < 4 ∧ srcKind s b = 1 then s else s.put 0 F.TIM_GM_ID_ID 0
  let st := s.get 0 F.TIM_STATUS_STATE
  if [0, 1, 2, 3].all (fun i => srcKind s i == 0) then s.servoTo 0
  else if b = 7 ∧ (st = 1 ∨ st = 2 ∨ st = 4) then s.servoTo 3
  else s.syncTime

def State.setSource (s : State) (i : Nat) (ok : Bool) : State :=
  let v := s.servo.valid.filter (fun j => j != i)
  { s with servo := { s.servo with valid := if ok then i :: v else v } }.reselect

/-! ## Pulse outputs and CLKOUT -/

def State.pulse (s : State) (d n : Nat) : Pulse := tblGet s.pulses Pulse.reset (d * 4 + n)
def State.setPulse (s : State) (d n : Nat) (p : Pulse) : State :=
  { s with pulses := tblSet s.pulses Pulse.reset (d * 4 + n) p }

/-- The held parameters applied (R578); values outside their ranges act as the nearer limit. -/
def State.applyPulse (s : State) (d n : Nat) : State :=
  let per := max 100 (min 4294967296000000000 (s.get d (F.TIM_PULSE_PERIOD_PERIOD_NS n)))
  let wid := max 10 (min (per - 10) (s.get d (F.TIM_PULSE_WIDTH_WIDTH_NS n)))
  let s := s.setPulse d n { s.pulse d n with
    start := s.get d (F.TIM_PULSE_START_START n), period := per, width := wid, fired := false }
  (s.putFlag d (F.TIM_PULSE_CFG_ARM n) false).putFlag d (F.TIM_PULSE_CFG_PENDING n)
    (s.get d (F.TIM_PULSE_CFG_MODE n) == 1)

/-- A pulse started: the output at its active level until WIDTH later on TIM_MONO (R577, R578). -/
def State.startPulse (s : State) (d n : Nat) : State :=
  let p := s.pulse d n
  let s := s.setPulse d n { p with endMono := some (s.mono d + p.width), fired := true }
  (s.put d (F.TIM_PULSE_CFG_LEVEL n) (s.get d (F.TIM_PULSE_CFG_POLARITY n))).putFlag d (F.TIM_PULSE_CFG_PENDING n) false

/-- After a step or a relock the output stays inactive for min(WIDTH, PERIOD − WIDTH) before its next edge (R577). -/
def State.quietPulses (s : State) : State :=
  s.eachDie (fun d a => [0, 1, 2, 3].foldl (fun b n =>
    let p := b.pulse d n
    b.setPulse d n { p with quietMono := (p.endMono.getD (b.mono d)) + min p.width (p.period - p.width) }) a)

/-- Period and high time of a CLKOUT frequency code in ns (R580); 0 for a low output. -/
def clkPeriod (code : Nat) : Nat := match code with
  | 1 => 1000000000
  | 2 => 100
  | 3 => 50
  | 4 => 40
  | 5 => 20
  | 6 => 8
  | _ => 0
def clkHigh (code : Nat) : Nat := if code = 1 then 1000000 else clkPeriod code / 2

/-- The first rising edge of the new grid at which CLKOUT restarts (R583). -/
def clkRestart (now old new : Nat) : Nat :=
  let po := clkPeriod old
  let pn := clkPeriod new
  if pn = 0 then now
  else
    let low := if po = 0 then now - pn else now / po * po + clkHigh old
    let half := (if po = 0 then pn else min po pn) / 2
    ceilDiv (max now (low + half)) pn * pn

/-- CLKOUT gated until it restarts on a grid (R583). -/
def State.gateClk (s : State) (new : Nat) : State :=
  { s.putFlag 0 F.TIM_CLKOUT_GATED true with
      clkout := ⟨new, clkRestart (s.now 0) s.clkout.freq new⟩ }

/-! ## The tick -/

/-- The advance of the time base in one 2.5 ns tick, in units of 2^-48 ns: 2.5 ns × (1 + RATE) (R546). -/
def tickStep (rateQ8 : Int) : Nat := ((5 * 2 ^ 47 : Int) * (256000000000 + rateQ8) / 256000000000).toNat

/-- One register of nanoseconds and its 48 fraction bits advanced by `n` units of 2^-48 ns. -/
def advance (ns frac n : Nat) : Nat × Nat := (ns + (frac + n) / 2 ^ 48, (frac + n) % 2 ^ 48)

/-- One 2.5 ns tick of the time-base island on every die, each replica with its steering (R546, R548, R832); a gated CLKOUT
restarts at its edge. -/
def State.clockTick (s : State) : State :=
  let s := s.eachDie (fun d a =>
    let n := tickStep (a.rateQ8 + tblGet a.rein.steer 0 d)
    let t := advance (a.now d) (tblGet a.frac 0 d) n
    let m := advance (a.mono d) (tblGet a.monoFrac 0 d) n
    let a := (a.put d F.TIM_NOW_NS t.1).put d F.TIM_MONO_NS m.1
    { a with frac := tblSet a.frac 0 d t.2, monoFrac := tblSet a.monoFrac 0 d m.2 })
  if s.flag 0 F.TIM_CLKOUT_GATED = true ∧ s.flag 0 F.TIM_STATUS_RELOCK = false ∧ s.clkout.restartAt ≤ s.now 0 then
    s.putFlag 0 F.TIM_CLKOUT_GATED false
  else s

/-- 2.5 ns on the always-on oscillator, within its ±20 %, in ps (R778; log entry 121). -/
def aonStep : Nat := 2000 + Config.aonDev % 1001

/-- What an empty queue does: one tick of every clock that has power. -/
def State.tick (s : State) : State :=
  if s.pwr.mode = .off then s
  else
    let s := { s with rcv := { s.rcv with aon := s.rcv.aon + aonStep } }
    if s.powered then s.clockTick else s

end Sys2Proof.Machine
end

