-- ==== Sys2Proof/Machine/Time.lean ====
section
/-! DEFINITION. The time unit's commands (chapter 12) that act on the time unit alone: measurements, sources, owner
steps, capture inputs, pulse outputs and CLKOUT. -/

namespace Sys2Proof.Machine

def execServoMeasurement (src : Fin 4) (ofs : Int) (s : State) : Res := onPkg s (s.measure src ofs)

def execSourceSelect (src : Fin 4) (valid : Bool) (s : State) : Res := onPkg s (s.setSource src valid)

def execSourceLossTimeout (src : Fin 4) (s : State) : Res := onPkg s (s.setSource src false)

/-- A command that is not accepted sets CMD_IGNORED and changes nothing else (R561). -/
def State.timIgnore (s : State) : State := s.putFlag 0 F.TIM_EVENT_CMD_IGNORED true

/-- ACCEPT, only in REFUSED and with no step pending: steps by TIM_OFFSET as it stands (R561). -/
def execAccept (s : State) : Res :=
  onPkg s (if s.get 0 F.TIM_STATUS_STATE = 4 ∧ s.flag 0 F.TIM_STATUS_STEP_PENDING = false then
    s.schedStep (toSigned 64 (s.get 0 F.TIM_OFFSET_OFS)) false
  else s.timIgnore)

/-- STEP, in every state with no step pending: steps by TIM_STEP (R561). -/
def execStep (s : State) : Res :=
  onPkg s (if s.flag 0 F.TIM_STATUS_STEP_PENDING = false then
    s.schedStep (toSigned 64 (s.get 0 F.TIM_STEP_DELTA)) false
  else s.timIgnore)

/-! ## Capture inputs -/

/-- Whether an edge is one that CAP_CFG.EDGE selects: 0 rising, 1 falling, 2 both. -/
def edgeSelected (edge : Nat) (rising : Bool) : Bool := edge == 2 || (edge == 0 && rising) || (edge == 1 && !rising)

/-- An edge in EDGE mode (R571, R572): corrected by EFF_CAP (R550); MISSED counts a stamp that replaces an unread
one. -/
def State.capture (s : State) (d n : Nat) (rising : Bool) : State :=
  let s := s.putFlag d (F.TIM_CAP_CFG_LEVEL n) rising
  if s.get d (F.TIM_CAP_CFG_MODE n) = 1 ∧ edgeSelected (s.get d (F.TIM_CAP_CFG_EDGE n)) rising then
    let q := s.stampQ16 d (s.calEff d 5 n)
    let s := if s.flag d (F.TIM_CAP_STAT_VALID n) then s.count d (F.TIM_CAP_STAT_MISSED n) 1 else s
    let s := (s.put d (F.TIM_CAP_TIME_NS n) (q / 65536)).put d (F.TIM_CAP_STAT_FRAC n) (q % 65536)
    let s := (s.putFlag d (F.TIM_CAP_STAT_VALID n) true).putFlag d (F.TIM_CAP_STAT_RISING n) rising
    s.setBit d F.TIM_EVENT_CAP n
  else s

/-- In mode 0 the input is ignored. -/
def execCaptureEdge (d : Die) (n : Fin 4) (rising : Bool) (s : State) : Res :=
  onDie s d (if s.get d (F.TIM_CAP_CFG_MODE n) = 0 ∨ s.bankHeld d 4 then s else s.capture d n rising)

/-- The index of the source that names a kind and an input. -/
def srcIndex (s : State) (kind d n : Nat) : Option Nat :=
  firstIdx (fun i => srcCode s i == kind * 32 + d * 4 + n) [0, 1, 2, 3]

/-- A measurement taken by the input's source, when one is configured. -/
def State.measureFrom (s : State) (kind d n : Nat) (ofs : Int) : State :=
  match srcIndex s kind d n with
  | some i => s.measure i ofs
  | none => s

/-- The whole second nearest to a stamp; a stamp midway between two takes either (a free value). -/
def State.nearestSecond (s : State) (ns : Nat) : Nat × State :=
  let r := ns % 1000000000
  let lo := ns - r
  if r = 500000000 then
    let f := s.freeVal 2
    (lo + f.1 * 1000000000, f.2)
  else if r < 500000000 then (lo, s) else (lo + 1000000000, s)

/-- A PPS edge marks the whole second nearest to its stamp (R573). -/
def execPpsEdge (d : Die) (n : Fin 4) (s : State) : Res :=
  onDie s d (if s.get d (F.TIM_CAP_CFG_MODE n) = 2 ∧ s.bankHeld d 4 = false then
    let ns := s.stampQ16 d (s.calEff d 5 n) / 65536
    let t := s.nearestSecond ns
    t.2.measureFrom 3 d n ((t.1 : Int) - ns)
  else s)

/-- An announced leap second changes TIM_UTC.UTC_OFS at the leap and ends its announcement (R575). -/
def State.leap (s : State) (n : Int) : State :=
  if n = 0 then s
  else
    let s := s.put 0 F.TIM_UTC_UTC_OFS (ofSigned 16 (toSigned 16 (s.get 0 F.TIM_UTC_UTC_OFS) + n))
    (s.putFlag 0 F.TIM_UTC_LEAP61 false).putFlag 0 F.TIM_UTC_LEAP59 false

/-- A decoded IRIG frame paired with the stamp of its on-time mark (R574, R575); an invalid frame does nothing. -/
def execIrigFrame (d : Die) (n : Fin 4) (frame : IrigFrame) (s : State) : Res :=
  onDie s d (if s.get d (F.TIM_CAP_CFG_MODE n) = 3 ∧ frame.valid = true ∧ s.bankHeld d 4 = false then
    let ns := s.stampQ16 d (s.calEff d 5 n) / 65536
    let t := s.leap frame.leap
    let tai := frame.seconds - frame.localOffset + toSigned 16 (t.get 0 F.TIM_UTC_UTC_OFS)
    t.measureFrom 4 d n (tai * 1000000000 - ns)
  else s)

/-! ## Pulse outputs and CLKOUT -/

/-- A pulse starts at a grid time (R577): not with UNSYNC_HOLD while UNSYNC is 1 (R579), not during a relock (R582),
not within the quiet time, and a ONCE pulse once only. -/
def State.pulseDue (s : State) (d n : Nat) : Bool :=
  let p := s.pulse d n
  let mode := s.get d (F.TIM_PULSE_CFG_MODE n)
  p.endMono.isNone && (mode == 2 || (mode == 1 && !p.fired)) &&
    !(s.flag d (F.TIM_PULSE_CFG_UNSYNC_HOLD n) && s.flag 0 F.TIM_STATUS_UNSYNC) &&
    !s.flag 0 F.TIM_STATUS_RELOCK && decide (p.quietMono ≤ s.mono d)

def execPulseStart (d : Die) (n : Fin 4) (s : State) : Res :=
  onDie s d (if s.pulseDue d n then s.startPulse d n else s)

/-- A pulse ends WIDTH after it started (R578): the output goes inactive, a ONCE pulse is complete, and held
parameters that ARM awaits apply. -/
def State.endPulse (s : State) (d n : Nat) : State :=
  let p := s.pulse d n
  if p.endMono.isSome then
    let s := s.setPulse d n { p with endMono := none }
    let s := s.put d (F.TIM_PULSE_CFG_LEVEL n) (1 - s.get d (F.TIM_PULSE_CFG_POLARITY n))
    let s := if s.get d (F.TIM_PULSE_CFG_MODE n) = 1 then s.setBit d F.TIM_EVENT_PULSE n else s
    if s.flag d (F.TIM_PULSE_CFG_ARM n) then s.applyPulse d n else s
  else s

def execPulseEnd (d : Die) (n : Fin 4) (s : State) : Res := onDie s d (s.endPulse d n)

/-- ARM: the held parameters take effect at the next inactive level (R578); ARM reads 1 until then. -/
def execPulseArm (d : Die) (n : Fin 4) (s : State) : Res :=
  onDie s d (if (s.pulse d n).endMono.isSome then s.putFlag d (F.TIM_PULSE_CFG_ARM n) true else s.applyPulse d n)

/-- A write of TIM_CLKOUT.FREQ; a change gates the output until the new grid (R583). -/
def State.clkoutFreq (s : State) (freq : Nat) : State :=
  let s := s.put 0 F.TIM_CLKOUT_FREQ freq
  let f := s.get 0 F.TIM_CLKOUT_FREQ
  if s.clkout.freq = f then s else s.gateClk f

def execClkoutFreqWrite (freq : Nat) (s : State) : Res := onPkg s (s.clkoutFreq freq)

/-! ## PTP -/

/-- A best master clock decision within R565: a static slave is SLAVE, a port of ROLE 2 never enters SLAVE, and
SLAVE_ONLY keeps a port out of MASTER. -/
def bmcaState (s : State) (b : PtpBlk) (old decision : Nat) : Nat :=
  if b.role = 3 then 9
  else if decision = 9 ∧ b.role = 2 then old
  else if decision = 6 ∧ (timeBase s).slaveOnly then old
  else decision

/-- The best master clock algorithm run on every PTP port (R565); its decisions are free values. -/
def State.runBmca (s : State) : State :=
  let t := s.cfg.time.ptp.foldl (fun a b =>
    a.put 0 (F.TIM_PTP_PORT_STATE b.index)
      (bmcaState a b (a.get 0 (F.TIM_PTP_PORT_STATE b.index)) (Config.bmca b.index a.fresh % 10))) s
  { t with fresh := s.fresh + 1 }

def execAnnounceReceiptTimeout (k : Fin 16) (s : State) : Res :=
  onPkg s ((s.count 0 (F.TIM_PTP_CNT_TIMEOUTS k) 1).runBmca)

end Sys2Proof.Machine
end

