-- ==== Sys2Proof/Machine/EthRx.lean ====
section
/-! DEFINITION. Receiving a frame at an Ethernet port (chapter 08, R405 to R424, R436; chapter 11, R528, R529): the receive
steps, duplicate discard, ring forwarding, PTP messages, pause frames and cut-through. -/

namespace Sys2Proof.Machine

/-! ## Pause and PFC (R436) -/

/-- Pause `i` (queue 0 to 7, or 8 for the whole port) in force for a time from now, or ended by a time of 0. -/
def State.setPause (s : State) (d p i quanta : Nat) : State :=
  let s := s.syncCredits d p
  let t := s.monoT d
  let on := quanta != 0
  let s := if i = 8 then s.putFlag d (F.ETH_PORT_STATUS_PAUSED p) on
    else if on then s.setBit d (F.ETH_PORT_STATUS_PFC_PAUSED p) i else s.clrBit d (F.ETH_PORT_STATUS_PFC_PAUSED p) i
  let stop := t + quanta * 64 * s.byteT d p
  s.modPort d p (fun g => { g with
    pauseEnd := g.pauseEnd.set i (if on then some stop else none),
    pauseSince := g.pauseSince.set i (if on then some ((g.pauseSince.getD i none).getD t) else none) })

/-- A MAC control frame consumed at step 5 and, if the port obeys it, applied (R436, R439). -/
def State.macControl (s : State) (d p : Nat) (bs : List Byte) : State :=
  let s := s.count d (F.ETH_RX_CTL_COUNT p) 1
  if s.flag d (F.ETH_PORT_STATUS_PAUSE_BROKEN p) then s
  else if fb16 bs 14 = 0x0001 ∧ s.flag d (F.ETH_PORT_CFG_PAUSE_EN p) then s.setPause d p 8 (fb16 bs 16)
  else if fb16 bs 14 = 0x0101 ∧ s.flag d (F.ETH_PORT_CFG_PFC_EN p) then
    (List.range 8).foldl (fun a q => if (fb16 bs 16).testBit q then a.setPause d p q (fb16 bs (18 + 2 * q)) else a) s
  else s

/-! ## Duplicate discard (R418, R419) -/

/-- ETH_RED_STATUS.USED brought up to date. -/
def State.syncKeys (s : State) (d k : Nat) : State :=
  s.put d (F.ETH_RED_STATUS_USED k) (s.ethPair d k).keys.length

/-- A key inserted; a full table evicts its oldest key. -/
def State.insertKey (s : State) (d k : Nat) (key : Nat × Nat) : State :=
  let s := if (s.ethPair d k).keys.length ≥ 4096 then
      let s := s.modPair d k (fun g => { g with keys := g.keys.drop 1 })
      ((s.count d (F.ETH_RED_STATUS_EVICT k) 1).putFlag d (F.ETH_PORT_EVENT_RED_EVICT (2 * k)) true).putFlag d
        (F.ETH_PORT_EVENT_RED_EVICT (2 * k + 1)) true
    else s
  (s.modPair d k (fun g => { g with keys := g.keys ++ [key] })).syncKeys d k

/-- Step 9 on a frame with a recognised trailer or tag: whether it passes. -/
def State.dupDiscard (s : State) (d p sa : Nat) (r : RedTag) : Bool × State :=
  let k := p / 2
  if s.red d p = 2 ∧ sa = s.portMac d p then (false, s.count d (F.ETH_RED_OWN_COUNT p) 1)
  else
    let dup := (s.ethPair d k).keys.contains (sa, r.seq)
    let s := if dup then s.count d (F.ETH_RED_DUP_COUNT p) 1 else s.insertKey d k (sa, r.seq)
    let s := if s.red d p = 1 ∧ r.lan ≠ (if p % 2 = 0 then 0xA else 0xB) then s.count d (F.ETH_RED_WRONG_LAN_COUNT p) 1
      else s
    (!dup, s)

/-- A copy of a ring frame admitted to the other ring port (R422): charged to TID 0 and to that port's output. -/
def State.hsrForward (s : State) (d p : Nat) (x : Frame) (bs : List Byte) (prio : Nat) (r : RedTag) : State :=
  let o := mate p
  match s.rxStore d (ethUid d p) (cellsOf bs.length) { x with
      tid := 0, queue := prio, redSeq := some r.seq, single := true, binding := 0 } bs with
  | none => s.countDrop d 3 0
  | some (f, refused, s) => if refused then s.dropFrame d f 8 else s.takeIn f 0 d o p (cellsOf bs.length) false

/-! ## PTP messages (R566) -/

/-- The least length of a PTP message type; none for an unsupported one (R566, R569). -/
def ptpMinLen (profile type : Nat) : Option Nat :=
  match type with
  | 0 | 1 | 8 => some 44
  | 2 | 3 | 9 | 0xA => some 54
  | 0xB => some 64
  | 0xC => if profile = 5 then some 44 else none
  | _ => none

/-- TRANSPORT of a PTP frame: 0 layer 2, 1 UDP over IPv4, 2 UDP over IPv6. -/
def Parsed.ptpTransport (p : Parsed) : Nat :=
  if p.l4 = 1 then (if p.levels.any (fun l => l.1 == .ip6) then 2 else 1) else 0

/-- TIM_UTC taken from an Announce of the selected master while currentUtcOffsetValid is TRUE, and from the TIME section
otherwise (R570). -/
def State.ptpUtc (s : State) (offset flags : Nat) : State :=
  if flags.testBit 2 then
    ((((s.put 0 F.TIM_UTC_UTC_OFS offset).putFlag 0 F.TIM_UTC_LEAP61 (flags.testBit 0)).putFlag 0 F.TIM_UTC_LEAP59
      (flags.testBit 1)).putFlag 0 F.TIM_UTC_FROM_SRC true)
  else (s.put 0 F.TIM_UTC_UTC_OFS (ofSigned 16 (timeBase s).utcOfs)).putFlag 0 F.TIM_UTC_FROM_SRC false

/-- A PTP frame taken by the time unit: an unusable one is consumed and counted, an Announce runs the best master clock
algorithm. -/
def State.ptpRx (s : State) (b : PtpBlk) (bs : List Byte) (off : Nat) : State :=
  let type := fb bs off % 16
  let bad := fb bs (off + 4) != (timeBase s).domain || (match ptpMinLen (timeBase s).profile type with
    | none => true
    | some n => decide (fb16 bs (off + 2) < n))
  if bad then s.count 0 (F.TIM_PTP_CNT_RX_DROP b.index) 1
  else if type = 0xB then
    let s := s.runBmca
    if s.get 0 (F.TIM_PTP_PORT_STATE b.index) = 9 then s.ptpUtc (fb16 bs (off + 44)) (fb bs (off + 7)) else s
  else s

/-- The PTP port block that takes a parsed frame (R566). -/
def State.ptpBlock (s : State) (d p : Nat) (ps : Parsed) : Option (PtpBlk × Nat) :=
  if ps.trunc then none
  else match ps.levels.find? (fun l => l.1 == .ptp) with
    | none => none
    | some l => (s.cfg.time.ptp.find? (fun b => b.die == d && b.port == p && b.transport == ps.ptpTransport)).map (·, l.2)

/-! ## The receive steps (R405) -/

/-- What the port reports of a contradictory frame (R415). -/
def State.dropLen (s : State) (d p : Nat) (e : LenFail) (stamp sa : Nat) : State :=
  let s := (s.count d (F.ETH_DROP_LEN_COUNT p) 1).putFlag d (F.ETH_PORT_EVENT_DROP_LEN p) true
  let s := if s.flag d (F.ETH_LEN_LOG_VALID p) then s
    else ((((s.put d (F.ETH_LEN_LOG_CHECK p) e.check).put d (F.ETH_LEN_LOG_LEVEL p) e.level).put d (F.ETH_LEN_LOG_FIELD p)
      e.field).put d (F.ETH_LEN_LOG_AVAIL p) e.avail).putFlag d (F.ETH_LEN_LOG_VALID p) true
  s.portRec d p 1 e.check e.field e.avail stamp sa e.level

/-- The metadata of a received Ethernet frame (R28, R407, R412, R413). -/
def rxMeta (d p : Nat) (bs : List Byte) (ps : Parsed) (mac stamp endT : Nat) (red : Bool) : Frame :=
  { (default : Frame) with
    len := bs.length, port := p, kind := 0, stamp := stamp, cls := ps.cls (destCode mac bs), levels := ps.levels.length,
    pflags := bit ps.trunc + 2 * bit ps.tci.isSome + 4 * bit red, hoff := ps.hoff, tci := ps.tci.getD 0, die := d,
    endInstant := endT, written := bs.length }

/-- The length check of step 8, CHECK 8 first (R414, R415). -/
def step8 (bs : List Byte) (ps : Parsed) (mode : Nat) (red : Option RedTag) : Option LenFail :=
  match red with
  | some r => if mode = 2 ∧ r.size ≠ r.lsdu then some ⟨8, 0, r.size, r.lsdu⟩ else lengthCheck bs ps
  | none => lengthCheck bs ps

/-- Steps 9 and 10 of a frame that has passed step 8 without cut-through. -/
def State.rxDeliver (s : State) (d p : Nat) (bs : List Byte) (ps : Parsed) (x : Frame) (red : Option RedTag) : State :=
  let mode := s.red d p
  let sa := leNat ((bs.drop 6).take 6)
  let dest := destCode (s.portMac d p) bs
  let r9 := match red with
    | some r => s.dupDiscard d p sa r
    | none => (true, s)
  let s := r9.2
  if !r9.1 then s
  else
    let s := match red with
      | some r => if mode = 2 ∧ dest ≠ 0 then s.hsrForward d p x bs ((ps.tci.getD 0) / 8192) r else s
      | none => s
    if mode = 2 ∧ dest = 3 then s
    else match s.ptpBlock d p ps with
      | some (b, off) => s.ptpRx b bs off
      | none => s.bindRx d p (ethUid d p) (s.cfgOf (ethUid d p)) x bs ps.trunc (checksumsOk bs ps) (ethKey bs ps)

/-- The last bit of a cut-through frame that passed the steps: its remaining bytes are written and its charge reduced to
its cells (R529). -/
def State.cutDone (s : State) (d p f : Nat) (bs : List Byte) (x : Frame) : State :=
  let s := s.modPort d p (fun g => { g with rxCut := none })
  let y := s.frame f
  let n := cellsOf bs.length
  let w := s.padWords bs
  let s := (w.2.frameWrite d y 0 2 w.1 (n + 1)).2
  let extra := y.cells.drop n
  let s := extra.foldl (fun a c => a.freeCell d c) s
  let s := s.unchargeTenant d y.tid extra.length
  let s := y.outs.foldl (fun a e => a.put e.1 (F.SWC_OUT_HELD e.2.1) (a.outHeld e.1 e.2.1 - (e.2.2 - n))) s
  let s := s.setFrame f { y with
    cells := y.cells.take n, outs := y.outs.map (fun e => (e.1, e.2.1, n)), len := bs.length, written := bs.length,
    pflags := x.pflags, cls := x.cls, levels := x.levels, hoff := x.hoff, endInstant := x.endInstant }
  (s.carriers f).foldl (fun a e => a.tshDebit e.1 e.2 y.tid bs.length) s

/-- The six bytes of a PRP trailer, in network order. -/
def prpTrailer (r : RedTag) : List Byte :=
  (leBytes 2 r.seq).reverse ++ (leBytes 2 (r.lan % 16 * 4096 + r.size % 4096)).reverse ++ [0x88, 0xFB]

/-- The receive steps in order on a frame (R405). `red` is its redundancy trailer or tag, which `bs` does not
hold; a PRP trailer whose LSDUsize does not match stays with the frame (R416). -/
def State.receive (s : State) (d p : Nat) (bs : List Byte) (symErr fcsOk : Bool) (red : Option RedTag) : State :=
  let mode := s.red d p
  let red := if mode = 0 then none else red
  let whole := match red with
    | some r => if mode = 1 ∧ r.size ≠ r.lsdu then bs ++ prpTrailer r else bs
    | none => bs
  let red := if whole.length = bs.length then red else none
  let bs := whole
  let len := bs.length + (if red.isSome then 6 else 0)
  let fail := fun (s : State) => s.endReception d p (min len (s.maxLen d p))
  let endT := s.now d
  let stamp := (s.nowT d - (len + 4) * s.byteT d p) / 10
  if symErr then fail (s.count d (F.ETH_RX_SYMBOL_COUNT p) 1)
  else if !fcsOk then fail (s.count d (F.ETH_RX_FCS_COUNT p) 1)
  else if len < 60 then fail (s.count d (F.ETH_RX_RUNT_COUNT p) 1)
  else if len > s.maxLen d p then fail (s.count d (F.ETH_RX_OVERSIZE_COUNT p) 1)
  else
    let s := (s.count d (F.ETH_RX_FRAMES_COUNT p) 1).count d (F.ETH_RX_BYTES_COUNT p) (len + 4)
    if fb16 bs 12 = 0x8808 then fail (s.macControl d p bs)
    else
      let ps := parseFrame bs
      let s := if ps.trunc then
          (s.count d (F.ETH_PARSE_TRUNC_COUNT p) 1).putFlag d (F.ETH_PORT_EVENT_PARSE_TRUNC p) true
        else s
      match step8 bs ps mode red with
      | some e => fail (s.dropLen d p e stamp (leNat ((bs.drop 6).take 6)))
      | none =>
        let x := rxMeta d p bs ps (s.portMac d p) stamp endT red.isSome
        match (s.ethPort d p).rxCut with
        | some (some f) => s.cutDone d p f bs x
        | some none => s.modPort d p (fun g => { g with rxCut := none })
        | none => s.rxDeliver d p bs ps x red

/-- Whether a port receives frames at all: its link is up, its domain is on and a SWITCH_MAP is applied. -/
def State.ethRuns (s : State) (d p : Nat) : Bool :=
  s.linkUp d p && s.domOn d (8 + p) && s.flag d F.SWC_STATUS_RUN

/-! ## Cut-through (R528, R529) -/

/-- Whether an egress port may take a cut-through frame of a tenant in a queue now. -/
def State.cutFits (s : State) (d p ed ep q tid : Nat) : Bool :=
  s.linkUp ed ep && s.domOn ed (8 + ep) &&
    s.get d (F.ETH_PORT_STATUS_SPEED p) == s.get ed (F.ETH_PORT_STATUS_SPEED ep) &&
    s.red d p == 0 && s.red ed ep == 0 && (s.ethPort ed ep).tx.isNone && (s.egress ed ep q).isEmpty &&
    !s.pausedQ ed ep q && s.gateFits ed ep q (s.wireT ed ep (s.maxLen d p)) &&
    (s.idleKbps ed ep q == 0 || decide (0 ≤ s.creditAfter ed ep q (s.monoT ed - (s.ethPort ed ep).creditAt))) &&
    s.tshAdmits ed ep tid

/-- Cut-through forwarding started with a frame's first 64 bytes in cells. A frame that does not meet the conditions is
left to its last bit. -/
def State.cutStart (s : State) (d p : Nat) (bs : List Byte) : State :=
  let ps := parseFrame bs
  let cfg := s.cfgOf (ethUid d p)
  let x := rxMeta d p bs ps (s.portMac d p) ((s.nowT d - bs.length * s.byteT d p) / 10) 0 false
  if (s.ptpBlock d p ps).isSome ∨ fb16 bs 12 = 0x8808 ∨ (s.ethPort d p).rxCut.isSome then s
  else match pickBinding cfg.switch.bindings d p x.cls (ethKey bs ps) with
    | none => s
    | some (i, b) =>
      if b.dest ≠ 1 ∨ ¬ b.cut ∨ 8 ≤ b.target ∨ ¬ s.cutFits d p b.destDie b.target b.queue b.tid then s
      else
        let n := cellsOf (s.maxLen d p)
        let x := { x with
          tid := b.tid, binding := i, capClass := b.capClass, hi := true, queue := b.queue, cutThrough := true, written := 64 }
        match s.rxStore d (ethUid d p) n x bs with
        | none => (s.countDrop d 3 b.tid).modPort d p (fun g => { g with rxCut := some none })
        | some (f, refused, s) =>
          let s := s.modPort d p (fun g => { g with rxCut := some (some f) })
          if refused then s.dropFrame d f 8
          else
            let s := s.takeIn f b.tid b.destDie b.target p n true
            if (s.frame f).live then
              let s := s.setVoq b.destDie ((s.voqOf b.destDie).filter (·.frame != f))
              let s := (s.syncCredits b.destDie b.target).count d F.SWC_CT_FRAMES_COUNT 1
              let s := s.modPort b.destDie b.target (fun g => { g with tx := some (f, b.queue) })
              if b.capture then s.captureTo d f p else s
            else s

end Sys2Proof.Machine
end

