-- ==== Sys2Proof/Machine/Ethernet.lean ====
section
/-! DEFINITION. The commands of the Ethernet ports (chapter 08). -/

namespace Sys2Proof.Machine

/-- A frame's last bit at a port that receives (R405). -/
def execFrameReceive (d : Die) (p : Unit8) (bytes : List Byte) (symErr fcsOk : Bool) (red : Option RedTag) (s : State) :
    Res :=
  onDie s d (if s.ethRuns d p then s.receive d p bytes symErr fcsOk red else s)

/-- A frame's first 64 bytes are in cells (R528). -/
def execCutThroughStart (d : Die) (p : Unit8) (first : List Byte) (s : State) : Res :=
  onDie s d (if s.ethRuns d p ∧ 64 ≤ first.length then s.cutStart d p first else s)

/-! ## Pauses (R436, R439) -/

/-- The pause time of a queue (0 to 7) or of the port (8) elapses. -/
def execPauseExpire (d : Die) (p : Unit8) (q : Fin 9) (s : State) : Res :=
  onDie s d (if ((s.ethPort d p).pauseEnd.getD q.val none).isSome then s.setPause d p q 0 else s)

/-- A pause in force for PAUSE_WD_MS is broken. -/
def execPauseWatchdog (d : Die) (p : Unit8) (q : Fin 9) (s : State) : Res :=
  onDie s d (if ((s.ethPort d p).pauseSince.getD q.val none).isSome then
      let s := (s.syncCredits d p).clearPauses d p
      let s := (s.putFlag d (F.ETH_PORT_STATUS_PAUSE_BROKEN p) true).putFlag d (F.ETH_PORT_EVENT_PAUSE_BREAK p) true
      (s.count d (F.ETH_PAUSE_BREAK_COUNT p) 1).portRec d p 2 (if q.val = 8 then 0xFF else q.val) 0 0 (s.now d) 0 0
    else s)

/-- The hold-off ends. -/
def execPauseHoldoffEnd (d : Die) (p : Unit8) (s : State) : Res :=
  onDie s d (s.putFlag d (F.ETH_PORT_STATUS_PAUSE_BROKEN p) false)

/-! ## Redundant pairs -/

/-- A key leaves its table AGE_MS after its insertion (R419). -/
def execDupKeyExpire (d : Die) (k : Fin 4) (sa seq : Nat) (s : State) : Res :=
  onDie s d ((s.modPair d k (fun g => { g with keys := g.keys.erase (sa, seq) })).syncKeys d k)

/-- A supervision frame is sent on every port of a redundant pair whose link is up (R423); its length is not stated. -/
def execSupervisionSend (d : Die) (k : Fin 4) (s : State) : Res :=
  onDie s d (if s.red d (2 * k.val) = 0 then s
    else
      let r := s.freeVal 9217
      [2 * k.val, 2 * k.val + 1].foldl (fun a p =>
        if a.linkUp d p then (a.count d (F.ETH_TX_FRAMES_COUNT p) 1).count d (F.ETH_TX_BYTES_COUNT p) (max r.1 60 + 4)
        else a) r.2)

/-! ## Links (R394, R395, R401, R402) -/

/-- The modes in which auto-negotiation runs on a port. -/
def State.negotiates (s : State) (d p : Nat) : Bool :=
  let m := s.get d (F.ETH_PORT_CFG_MODE p)
  m == 1 || (m == 5 && s.flag d (F.ETH_PORT_CFG_CL37_AN p)) || (m == 4 && s.flag d (F.ETH_PORT_CFG_SGMII_AN p))

/-- Whether a port's mode allows a rate (Port modes table). -/
def State.rateOk (s : State) (d p speed : Nat) : Bool :=
  match s.get d (F.ETH_PORT_CFG_MODE p) with
  | 1 => decide (speed < 3) && s.getBit d (F.ETH_PORT_CFG_ADV p) speed
  | 2 => speed == 0
  | 3 => speed == 1
  | 4 => if s.flag d (F.ETH_PORT_CFG_SGMII_AN p) then decide (speed < 3) else speed == 2
  | 5 => speed == 2
  | 6 => speed == 3
  | 7 => speed == 4
  | _ => false

/-- The partner's abilities in ETH_AN_STATUS. -/
def State.putPartner (s : State) (d p : Nat) (r : LinkResult) : State :=
  (((s.put d (F.ETH_AN_STATUS_LP_ABIL p) r.abil).putFlag d (F.ETH_AN_STATUS_LP_PAUSE p) r.pause).putFlag d
    (F.ETH_AN_STATUS_LP_ASM_DIR p) r.asmDir).putFlag d (F.ETH_AN_STATUS_LP_AN p) r.lpAn

/-- Mode, negotiation and PCS lock succeed: the link comes up unless it is held down. -/
def execLinkUp (d : Die) (p : Unit8) (r : LinkResult) (s : State) : Res :=
  onDie s d (if s.rateOk d p r.speed ∧ ¬ s.linkUp d p ∧ ¬ s.flag d (F.ETH_PORT_CTRL_ADMIN_DOWN p) ∧
      ¬ s.flag d (F.ETH_PORT_STATUS_SAFE p) ∧ s.domOn d (8 + p) ∧ s.islandGated d (if p.val < 6 then 0 else 1) = false then
    let s := s.syncCredits d p
    let s := ((s.putFlag d (F.ETH_PORT_STATUS_LINK p) true).put d (F.ETH_PORT_STATUS_SPEED p) r.speed).setBit d
      F.ETH_STATUS_LINK p
    let s := ((s.putFlag d (F.ETH_PORT_STATUS_AN_DONE p) (s.negotiates d p)).putFlag d (F.ETH_PORT_STATUS_MDIX p)
      r.mdix).putFlag d (F.ETH_PORT_STATUS_MASTER p) r.master
    let s := (s.put d (F.ETH_PORT_STATUS_AN_FAIL p) 0).putFlag d (F.ETH_PORT_CTRL_RESTART_AN p) false
    (s.putPartner d p r).putFlag d (F.ETH_PORT_EVENT_LINK_UP p) true
  else s)

/-- Signal or lock is lost (cause 1). -/
def execLinkDown (d : Die) (p : Unit8) (s : State) : Res := onDie s d (s.linkDown d p 1)

/-- A write of 1 to RESTART_AN; without auto-negotiation it has no effect. -/
def execRestartAn (d : Die) (p : Unit8) (s : State) : Res :=
  onDie s d (if s.negotiates d p then (s.linkDown d p 6).putFlag d (F.ETH_PORT_CTRL_RESTART_AN p) true else s)

/-- A write of ADMIN_DOWN. -/
def execAdminDown (d : Die) (p : Unit8) (v : Bool) (s : State) : Res :=
  onDie s d (let s := s.putFlag d (F.ETH_PORT_CTRL_ADMIN_DOWN p) v
    if v then s.linkDown d p 2 else s)

/-- Auto-negotiation ends without a link: AN_FAIL 1 half duplex only, 2 parallel detection, 3 master-slave fault. The last
is of 1000BASE-T, the others of COPPER_AN. -/
def execAutoNegotiationFail (d : Die) (p : Unit8) (why : Fin 3) (s : State) : Res :=
  onDie s d (if s.get d (F.ETH_PORT_CFG_MODE p) = 1 ∧ ¬ s.linkUp d p then
    let was := s.get d (F.ETH_PORT_STATUS_AN_FAIL p)
    let s := (s.put d (F.ETH_PORT_STATUS_AN_FAIL p) (why.val + 1)).putFlag d (F.ETH_PORT_CTRL_RESTART_AN p) false
    if was = 0 then s.putFlag d (F.ETH_PORT_EVENT_AN_FAIL p) true else s
  else s)

/-! ## Transmitting (R425 to R434) -/

/-- The checks of a frame at its queue head: link, length, far launch time, gate fit (R402, R426, R429, R434). -/
def State.headCheck (s : State) (d p f : Nat) : State :=
  let x := s.frame f
  let len := s.txLen d p x
  if (s.ethPort d p).headOk.contains f then s
  else if !s.linkUp d p then s.egressDrop d p f (F.ETH_DROP_LINK_COUNT p)
  else if len > s.maxLen d p then s.egressDrop d p f (F.ETH_TX_DROP_LEN_COUNT p)
  else if x.kind = 4 ∧ x.stamp ≠ 0 ∧ s.now d + 1000000000 < x.stamp then
    (s.egressDrop d p f (F.ETH_LAUNCH_DROP_COUNT p)).putFlag d (F.ETH_PORT_EVENT_LAUNCH_FAR p) true
  else
    let tooLong := match s.longestOpen d p x.queue with
      | some t => decide (t < s.wireT d p len)
      | none => false
    if tooLong then (s.egressDrop d p f (F.ETH_GATE_DROP_COUNT p)).putFlag d (F.ETH_PORT_EVENT_GATE_DROP p) true
    else s.modPort d p (fun g => { g with headOk := g.headOk ++ [f] })

/-- A queue's head frame checked, and after a drop the next one. -/
def State.headArrive (s : State) (d p q : Nat) : Nat → State
  | 0 => s
  | fuel + 1 =>
    match s.egress d p q with
    | [] => s
    | f :: _ =>
      let t := s.headCheck d p f
      if (t.ethPort d p).headOk.contains f then t else t.headArrive d p q fuel

/-- Every queue's head frame checked. -/
def State.heads (s : State) (d p : Nat) : State :=
  (List.range 8).foldl (fun a q => a.headArrive d p q ((a.outQueue d p).length + 1)) s

/-- What R427 finds at one queue's head. -/
inductive Pick where
  | skip
  | late (f : Nat)
  | start (f : Nat)
deriving DecidableEq, Repr

/-- The latest start of a timed frame in 0.1 ns (R428). -/
def State.latest (s : State) (d p : Nat) (x : Frame) : Nat :=
  (x.stamp + 8 * s.get d (F.ETH_PORT_CTRL_WINDOW_8NS p)) * 10 - s.txPipe d p

/-- The conditions of R427 on the head of queue `q`. -/
def State.pickQ (s : State) (d p q : Nat) : Pick :=
  match s.egress d p q with
  | [] => .skip
  | f :: _ =>
    let x := s.frame f
    let timed := x.kind == 4 && x.stamp != 0
    if s.pausedQ d p q then .skip
    else if timed ∧ s.nowT d < x.stamp * 10 - s.txPipe d p then .skip
    else if timed ∧ s.nowT d > s.latest d p x ∧ ¬ s.flag d (F.ETH_PORT_CTRL_LATE_POLICY p) then .late f
    else if ¬ s.gateFits d p q (s.wireT d p (s.txLen d p x)) then .skip
    else if s.idleKbps d p q ≠ 0 ∧ (s.ethPort d p).credits.getD q 0 < 0 then .skip
    else if ¬ s.tshAdmits d p x.tid then .skip
    else .start f

/-- The first queue, from 7 down, whose head is late or may start. -/
def State.pick (s : State) (d p : Nat) : Pick :=
  (([7, 6, 5, 4, 3, 2, 1, 0].map (s.pickQ d p)).find? (fun k => k != .skip)).getD .skip

/-- A frame starts on the wire: its first line is read from cells and, when that read fails, the frame is dropped; a later
read that fails ends it with an inverted FCS (R526, R156). -/
def State.startFrame (s : State) (d p f : Nat) : State :=
  let x := s.frame f
  let q := x.queue
  let fd := frameDie f
  let drop := fun (s : State) (reason : Nat) =>
    ((s.countDrop fd reason x.tid).setOutQueue d p ((s.outQueue d p).filter (· != f))).copyGone d p f
  let ok := s.cellsAllowed fd x false
  if !ok.1 then drop ok.2 8
  else
    let r := ok.2.frameRead fd x 0 (min x.len 64) 2 4
    if r.2.1 then drop r.2.2 9
    else
      let r2 := r.2.2.frameRead fd x 64 (x.len - 64) 2 80
      let s := r2.2.2
      let late := x.kind == 4 && x.stamp != 0 && decide (s.nowT d > s.latest d p x)
      let s := if late then s.count d (F.ETH_LAUNCH_LATE_SENT_COUNT p) 1 else s
      let s := s.setOutQueue d p ((s.outQueue d p).filter (· != f))
      let s := s.modPort d p (fun g => { g with tx := some (f, q), headOk := g.headOk.filter (· != f) })
      let s := s.tshDebit d p x.tid (s.txLen d p x)
      if r2.2.1 then s.stomp d p f else s

/-- The selection of R427, restarted after each late frame dropped. -/
def State.select (s : State) (d p : Nat) : Nat → State
  | 0 => s
  | fuel + 1 =>
    let s := s.heads d p
    match s.pick d p with
    | .skip => s
    | .late f =>
      ((s.egressDrop d p f (F.ETH_LAUNCH_DROP_COUNT p)).putFlag d (F.ETH_PORT_EVENT_LAUNCH_LATE p) true).select d p fuel
    | .start f => s.startFrame d p f

def execEgressSelect (d : Die) (p : Unit8) (s : State) : Res :=
  onDie s d (if s.linkUp d p ∧ (s.ethPort d p).tx = none then
      (s.syncCredits d p).select d p ((s.outQueue d p).length + 1)
    else s)

def execQueueHeadArrive (d : Die) (p : Unit8) (q : Unit8) (s : State) : Res := onDie s d (s.headArrive d p q ((s.outQueue d p).length + 1))

/-- A frame's transmission ends (R402, R899). A cut-through frame ends once its last byte was written. -/
def State.txEnd (s : State) (d p : Nat) : State :=
  match (s.ethPort d p).tx with
  | none => s
  | some (f, q) =>
    let x := s.frame f
    if x.cutThrough ∧ ¬ x.bad ∧ s.receiving f then s
    else
      let s := s.syncCredits d p
      let s := (s.count d (F.ETH_TX_FRAMES_COUNT p) 1).count d (F.ETH_TX_BYTES_COUNT p) (max (s.txLen d p x) 60 + 4)
      let s := s.modPort d p (fun g => { g with tx := none })
      (s.emptyCredit d p q).copyGone d p f

def execTxEnd (d : Die) (p : Unit8) (s : State) : Res := onDie s d (s.txEnd d p)

/-- The interval of a gate-list entry ends: the gate states of the entry that the cycle phase gives apply (R432). -/
def execGateEntryChange (d : Die) (p : Unit8) (s : State) : Res := onDie s d ((s.syncCredits d p).syncGate d p)

end Sys2Proof.Machine
end

