-- ==== Sys2Proof/Machine/Lace.lean ====
section
/-! DEFINITION. The commands of the lace engines (chapter 13). -/

namespace Sys2Proof.Machine

/-- The step ticks of the named engines at one LACECLK edge, with the pin levels and capture inputs sampled at it. -/
def execLaceStep (d : Die) (engines : List Nat) (pins caps : Nat) (s : State) : Res :=
  onDie s d (s.lceTicks d ((List.range 16).filter (fun e => engines.contains e)) pins caps)

def execCueStart (d : Die) (mask : Nat) (delay : Fin 512) (s : State) : Res := onDie s d (s.cue d 1 mask delay)
def execCueRephase (d : Die) (mask : Nat) (delay : Fin 512) (s : State) : Res := onDie s d (s.cue d 2 mask delay)
def execCueStartRephase (d : Die) (mask : Nat) (delay : Fin 512) (s : State) : Res := onDie s d (s.cue d 3 mask delay)
def execCueStop (d : Die) (mask : Nat) (delay : Fin 512) (s : State) : Res := onDie s d (s.cue d 4 mask delay)
def execCueReset (d : Die) (mask : Nat) (delay : Fin 512) (s : State) : Res := onDie s d (s.cue d 5 mask delay)

/-- The cue edge of the pending cue. -/
def State.cueEdge (s : State) (d : Nat) : State :=
  match tblGet s.cues none d with
  | some (act, mask) =>
    let s : State := { s with cues := tblSet s.cues none d none }
    (s.putFlag d F.LCE_CUE_STAT_PENDING false).cueAct d act mask
  | none => s

def execCueEdge (d : Die) (s : State) : Res := onDie s d (s.cueEdge d)
def execLaceAutostart (d : Die) (s : State) : Res := onDie s d (s.autostart d)
def execLceInFifo (d : Die) (e : Unit16) (word : Nat) (s : State) : Res := onDie s d (s.lcePush d e word)

/-- A read of LCE_OUT_FIFO; the register's value goes to the reader. -/
def execLceOutFifo (d : Die) (e : Unit16) (s : State) : Res :=
  let r := s.lcePop d e
  onDie s d { r.2 with resp := ⟨[r.1], true⟩ }

/-- A write of LCE_LOOP.SEL, or of LCE_LOOPDEF as (loop, FIRST, LAST) (R599). -/
def execLceLoopWrite (d : Die) (e : Unit16) (sel : Option Nat) (loop : Option (Nat × Nat × Nat)) (s : State) : Res :=
  let s1 := match sel with
    | some v => s.put d (F.LCE_LOOP_SEL e) v
    | none => s
  onDie s d (match loop with
    | some (j, first, last) => s1.loopDef d e (j % 4) first last
    | none => s1)

def execLceDivWrite (d : Die) (e : Unit16) (div : Nat) (s : State) : Res := onDie s d (s.divWrite d e div)

/-- A write of LCE_FLAGS; engines' writes at the same edge follow it and override it (R600). -/
def execLceFlagsWrite (d : Die) (flags : Nat) (s : State) : Res := onDie s d (s.put d F.LCE_FLAGS_FLAG flags)

end Sys2Proof.Machine
end

