-- ==== Sys2Proof/Machine/Recorder.lean ====
section
/-! DEFINITION. The event recorder's commands (chapter 15): time marks, snapshots, segments and the archive, the last
gasp, boot continuation and clearing. -/

namespace Sys2Proof.Machine

/-! ## Marks and snapshots -/

/-- The mark tick (R681, R686, R687). -/
def State.markTick (s : State) (d : Nat) : State :=
  let s := if s.flag d F.ERC_STATUS_C0_OVF ∧ s.occupancy d ≤ recLimit false 1 then
    s.putFlag d F.ERC_STATUS_C0_OVF false else s
  (s.writeLosses d).markRec d 0 0

def execMarkTick (d : Die) (s : State) : Res := onDie s d (s.markTick d)

/-- The CAUSE codes of the Time mark payload (R681). -/
def timeMarkCode : TimeMark → Nat
  | .servo => 2
  | .relockStart => 3
  | .relockDone => 4
  | .skew => 5

def execTimeEventMark (d : Die) (cause : TimeMark) (s : State) : Res := onDie s d (s.markRec d (timeMarkCode cause) 0)

/-- The records stored in a die's buffer. -/
def State.bufRecs (s : State) (d : Nat) : List Rec := (s.recDie d).blocks.flatMap (fun e => e.2.recs)

/-- The least of a list of numbers. -/
def minOf : List Nat → Option Nat
  | [] => none
  | a :: as => some (as.foldl min a)

/-- The last SEQ assigned. -/
def State.lastSeq (s : State) (d : Nat) : Nat :=
  if s.flag d F.ERC_STATUS_END then s.get d F.ERC_NEXT_SEQ_SEQ else s.get d F.ERC_NEXT_SEQ_SEQ - 1

/-- FIRST of a snapshot: the oldest stored SEQ; with nothing stored the spec gives no value (a free value). -/
def State.snapFirst (s : State) (d : Nat) : Nat × State :=
  match minOf ((s.bufRecs d).map (·.seq)) with
  | some q => (q, s)
  | none => s.freeVal (2 ^ 64)

/-- The snapshot fence (R690). -/
def State.snapTake (s : State) (d k : Nat) : State :=
  let s := s.writeLosses d
  let f := s.snapFirst d
  let s := f.2
  let s := (s.put d (F.ERC_SNAP_FIRST_SEQ k) f.1).put d (F.ERC_SNAP_LAST_SEQ k) (s.lastSeq d)
  ((s.putFlag d (F.ERC_SNAP_HELD k) true).putFlag d (F.ERC_SNAP_TAKE k) false).putFlag d (F.ERC_SNAP_INCOMPLETE k)
    (s.flag d F.ERC_STATUS_C0_OVF && (s.loss d 0).count != 0)

def execSnapTake (d : Die) (k : Fin 4) (s : State) : Res := onDie s d (s.snapTake d k)

def execSnapRelease (d : Die) (k : Fin 4) (s : State) : Res :=
  onDie s d (s.putFlag d (F.ERC_SNAP_HELD k) false)

/-! ## Segments and the archive -/

/-- The archive blocks of a partition (R693). -/
def partBlocks (p : RecPart) : Nat := p.lbaCount * p.lbaSize / 4096

/-- The archive blocks per chunk of the archive index (R697). -/
def partChunk (p : RecPart) : Nat := ceilDiv (ceilDiv (partBlocks p) 16384) 16 * 16

/-- The bytes of a buffer block as the archive holds them, the filler included (R683). -/
def RBlock.bytes (b : RBlock) : List Byte :=
  let data := b.recs.flatMap Rec.bytes
  let rest := 4096 - data.length
  if rest < 16 then data ++ List.replicate rest 0
  else data ++ leBytes 8 0 ++ leBytes 2 rest ++ List.replicate (rest - 10) 0

/-- Closed blocks waiting to be written, oldest first: in ring order from the block after the current one. -/
def State.unwritten (s : State) (d : Nat) : List Nat :=
  let r := s.recDie d
  let busy := r.writes.flatMap (·.bufBlocks)
  ((List.range 1024).map (fun i => (s.curBlock d + 1 + i) % 1024)).filter
    (fun b => r.holds (s.rblock d b) && !busy.contains b)

/-- The header bytes 0 to 39 of a segment (R693). -/
def State.segHead (s : State) (d : Nat) (g : Seg) : List Byte :=
  leBytes 4 0x53474552 ++ leBytes 2 1 ++ leBytes 1 d ++ leBytes 1 g.nblocks ++ leBytes 8 g.firstSeq ++
    leBytes 8 g.lastSeq ++ leBytes 8 (s.get 0 F.ARC_SERIAL_SERIAL) ++ leBytes 4 g.gen ++ leBytes 4 g.sflags

/-- A segment of the given closed blocks formed and its Write submitted: placed behind the last one or, when it does
not fit, at the partition start with GEN one higher (R693, R694, R696). -/
def State.formSegment (s : State) (d : Nat) (p : RecPart) (bs : List Nat) (sflags : Nat) : State :=
  let pos := s.get d F.ERC_ARC_POS_BLOCK
  let wraps := decide (pos + bs.length + 1 > partBlocks p)
  let r := s.recDie d
  let gen := if wraps then r.gen + 1 else r.gen
  let pos := if wraps then 0 else pos
  let recs := bs.flatMap (fun b => (s.rblock d b).recs)
  let first := (recs.head?.map (·.seq)).getD 0
  let last := (recs.getLast?.map (·.seq)).getD 0
  let fl := sflags + 2 * s.get d F.ERC_STATUS_FC1
  let g : Seg := ⟨pos, bs.length, first, last, gen, fl, s.now d, [], [], recs⟩
  let chain := Config.sha384 (r.chain ++ s.segHead d g ++ bs.flatMap (fun b => (s.rblock d b).bytes))
  let g := { g with chain := chain, sig := Config.devSign (s.segHead d g ++ chain ++ leBytes 8 (s.now d)) }
  let s := s.setRecDie d { r with writes := r.writes ++ [⟨r.nextTag, g, bs, 1⟩], nextTag := r.nextTag + 1,
                                  chain := chain, gen := gen }
  let s := (s.put d F.ERC_ARC_POS_BLOCK (pos + bs.length + 1)).put d F.ERC_ARC_POS_GEN gen
  if wraps then s.putFlag d F.ERC_EVENT_ARC_WRAP true else s

/-- A segment closed: up to 15 closed blocks; with fewer, the current block is closed first (R693). A die without a
partition, or with a foreign one (R698), writes nothing. -/
def State.closeSegment (s : State) (d sflags : Nat) : State :=
  match (s.recDie d).flushPart with
  | none => s
  | some p =>
    let s := if (s.unwritten d).length < 15 then (s.closeCur d).syncOcc d else s
    let bs := (s.unwritten d).take 15
    if bs.isEmpty then s else s.formSegment d p bs sflags

def execSegmentClose (d : Die) (s : State) : Res := onDie s d (s.closeSegment d 0)

/-- ERC_CTRL.FLUSH: the current block and segment close now; the bit reads 1 until written. -/
def execFlush (d : Die) (s : State) : Res :=
  let t := (s.closeCur d).syncOcc d
  let t := t.closeSegment d 0
  onDie s d (t.putFlag d F.ERC_CTRL_FLUSH (!(t.recDie d).writes.isEmpty))

/-- Whether two block ranges of a partition overlap. -/
def overlaps (a n b m : Nat) : Bool := decide (a < b + m) && decide (b < a + n)

/-- Entry k of the archive index (R697), from the segments in retention. -/
def State.setArcIndex (s : State) (d k : Nat) (p : RecPart) : State :=
  let c := partChunk p
  let e := match (s.recDie d).segs.find? (fun g => g.block / c == k) with
    | some g => leBytes 8 g.firstSeq ++ leBytes 4 (g.block % c) ++ leBytes 4 g.gen
    | none => leBytes 16 0
  s.vatStore d (0xFC0000 + 16 * k) e

/-- A segment's Write completed with success: its blocks are flushed, older segments it overwrote leave retention,
and ERC_FLUSHED, ERC_ARC_OLDEST, the index, ARC_FAULT and HELD_BACK follow (R695 to R697, R677, R901). -/
def State.segWritten (s : State) (d : Nat) (w : SegWrite) : State :=
  let g := w.seg
  let r := s.recDie d
  let segs := (r.segs.filter (fun h => !overlaps h.block (h.nblocks + 1) g.block (g.nblocks + 1))) ++ [g]
  let gone := r.segs.filter (fun h => overlaps h.block (h.nblocks + 1) g.block (g.nblocks + 1))
  let s := s.setRecDie d { r with segs := segs, writes := r.writes.filter (fun x => x.tag != w.tag) }
  let s := w.bufBlocks.foldl (fun a b => a.setRblock d b { a.rblock d b with state := 3 }) s
  let s := s.syncOcc d
  let s := if seqCount (s.get d F.ERC_FLUSHED_SEQ) < seqCount g.lastSeq then s.put d F.ERC_FLUSHED_SEQ g.lastSeq else s
  let s := s.put d F.ERC_ARC_OLDEST_SEQ ((segs.head?.map (·.firstSeq)).getD 0)
  let s := match r.flushPart with
    | some p => (g :: gone).foldl (fun (a : State) (h : Seg) => a.setArcIndex d (h.block / partChunk p) p) s
    | none => s
  let s := s.putFlag d F.ERC_STATUS_ARC_FAULT false
  let s := if s.heldBack d then s else s.putFlag d F.ERC_STATUS_HELD_BACK false
  let r := s.recDie d
  let s := if r.part.isNone && r.oldPart.isSome && r.writes.isEmpty && !r.blocks.any (fun e => r.holds e.2) then
    s.setRecDie d { r with oldPart := none } else s
  if (s.recDie d).writes.isEmpty then s.putFlag d F.ERC_CTRL_FLUSH false else s

/-- A Write submitted again under a new tag, so that a late completion of the old one is ignored (R695). -/
def State.resubmit (s : State) (d tag tries : Nat) : State :=
  let r := s.recDie d
  s.setRecDie d { r with
    writes := r.writes.map (fun w => if w.tag = tag then { w with tag := r.nextTag, tries := tries } else w),
    nextTag := r.nextTag + 1 }

/-- A failed Write: retried up to 3 times, then ARC_FAULT (R695). -/
def State.segFailed (s : State) (d : Nat) (w : SegWrite) : State :=
  if w.tries < 4 then s.resubmit d w.tag (w.tries + 1)
  else (s.putFlag d F.ERC_STATUS_ARC_FAULT true).putFlag d F.ERC_EVENT_ARC_FAIL true

def execNvmeWriteDone (d : Die) (tag : Nat) (ok : Bool) (s : State) : Res :=
  onDie s d (match (s.recDie d).writes.find? (fun w => w.tag == tag) with
    | none => s
    | some w => if ok then s.segWritten d w else s.segFailed d w)

def execNvmeWriteTimeout (d : Die) (tag : Nat) (s : State) : Res :=
  onDie s d (match (s.recDie d).writes.find? (fun w => w.tag == tag) with
    | none => s
    | some w => s.segFailed d w)

/-- The controller is reset and every failed Write submitted again (R695). -/
def State.retryArchive (s : State) (d : Nat) : State :=
  if s.flag d F.ERC_STATUS_ARC_FAULT then
    (s.recDie d).writes.foldl (fun a w => if w.tries < 4 then a else a.resubmit d w.tag 4) s
  else s

def execArchiveRetryTimer (d : Die) (s : State) : Res := onDie s d (s.retryArchive d)

def execArcRetry (d : Die) (s : State) : Res := onDie s d (s.retryArchive d)

/-- The partition that a configuration gives die `d` (R712). -/
def recPartOf (c : HarnessCfg) (d : Nat) : Option RecPart := c.recorder.parts.find? (fun p => p.die == d)

/-- A foreign partition adopted: written from its start at GEN 0 (R698). -/
def execArcAdopt (d : Die) (s : State) : Res :=
  let r := s.recDie d
  onDie s d (if r.foreign then
    let p := recPartOf s.cfg d
    let t := s.setRecDie d { r with foreign := false, part := p, segs := [], gen := 0, chain := List.replicate 48 0 }
    ((t.put d F.ERC_ARC_POS_BLOCK 0).put d F.ERC_ARC_POS_GEN 0).putFlag d F.ERC_STATUS_ARCHIVE p.isSome
  else s)

/-- ALARM_CLR is obeyed while C0_OVF is 0 (R687). -/
def execErcAlarmClr (d : Die) (s : State) : Res :=
  onDie s d (if s.flag d F.ERC_STATUS_C0_OVF then s else s.putFlag d F.ERC_STATUS_ALARM false)

/-! ## Last gasp -/

/-- Records sequenced but not flushed, in buffer order (R702). -/
def State.unflushed (s : State) (d : Nat) : List Rec :=
  let r := s.recDie d
  (r.blocks.filter (fun e => r.flushPart.isNone || e.2.state == 1 || e.2.state == 2)).flatMap (fun e => e.2.recs)

/-- The GASP payload (R702): `last` gives the last SEQ of each die at the trigger. -/
def State.gaspBody (s : State) (cause target : Nat) (last : List Nat) : List Byte :=
  leBytes 1 cause ++ leBytes 1 target ++ leBytes 6 0 ++ leBytes 8 (s.now 0) ++
    (List.range 8).flatMap (fun d =>
      leBytes 8 (if d < s.dieCount then (minOf ((s.unflushed d).map (·.seq))).getD 0 else 0) ++
      leBytes 8 (last.getD d 0))

def gaspCode : GaspCause → Nat
  | .pfail => 1
  | .safe => 2
  | .pkgReset => 3

/-- Where the last gasp writes (R702): 1 the archive of die 0, 2 the flash region, 0 nowhere. -/
def State.gaspTargetOf (s : State) : Nat :=
  if (s.recDie 0).flushPart.isSome then 1 else if s.cfg.recorder.lgFlashKib > 0 then 2 else 0

/-- Segments closed one per die in turn until every closed block is submitted (R702). -/
def State.gaspSegments (s : State) : Nat → State
  | 0 => s
  | n + 1 =>
    if s.dieList.any (fun d => (s.recDie d).flushPart.isSome && !(s.unwritten d).isEmpty) then
      (s.eachDie (fun d a => match (a.recDie d).flushPart with
        | none => a
        | some p => let bs := (a.unwritten d).take 15
                    if bs.isEmpty then a else a.formSegment d p bs 1)).gaspSegments n
    else s

/-- The last gasp ended: GASP_BUSY clears and GASP_DONE is set (R702). -/
def State.gaspDone (s : State) : State :=
  s.eachDie (fun d a => (a.putFlag d F.ERC_STATUS_GASP_BUSY false).putFlag d F.ERC_EVENT_GASP_DONE true)

/-- A last gasp starts (R700, R702) with a CAUSE code; a trigger during one joins it. -/
def State.gaspWith (s : State) (code : Nat) : State :=
  if s.flag 0 F.ERC_STATUS_GASP_BUSY then s
  else
    let last := s.dieList.map (fun d => s.lastSeq d)
    let t := s.gaspTargetOf
    let s := { s with recP := { s.recP with gaspCause := code, gaspTrigger := s.now 0, gaspTarget := t } }
    let s := s.eachDie (fun d a => a.putFlag d F.ERC_STATUS_GASP_BUSY true)
    let s := s.eachDie (fun d a => (List.range 8).foldl (fun b c => b.writeLoss d c) a)
    let s := (s.sysRec 0 0 7 (s.gaspBody code t last)).2
    if t = 0 then s.gaspDone
    else if t = 1 then
      let b := s.curBlock 0
      let s := s.eachDie (fun d a => if (a.recDie d).flushPart.isSome then (a.closeCur d).syncOcc d else a)
      let s := match (s.recDie 0).flushPart with
        | some p => if (s.recDie 0).holds (s.rblock 0 b) then s.formSegment 0 p [b] 1 else s
        | none => s
      s.gaspSegments 1024
    else s

def State.startGasp (s : State) (cause : GaspCause) : State := s.gaspWith (gaspCode cause)

def execLastGasp (cause : GaspCause) (s : State) : Res := onPkg s (s.startGasp cause)

/-- The records of the flash gasp in its order: by class, then ascending SEQ (R702). -/
def State.gaspOrder (s : State) : List Rec :=
  (List.range 8).flatMap (fun c => s.dieList.flatMap (fun d => (s.unflushed d).filter (fun r => r.cls == c)))

/-- The records whose bytes fit a region of `n` bytes, in order. -/
def fitRecs : List Rec → Nat → List Rec
  | [], _ => []
  | r :: rs, n => if r.len ≤ n then r :: fitRecs rs (n - r.len) else []

/-- The last gasp ends after `written` records, at its budget or when all is written (R702, R703). -/
def State.gaspEnd (s : State) (written : Nat) : State :=
  if s.flag 0 F.ERC_STATUS_GASP_BUSY then
    let s := if s.recP.gaspTarget = 2 then
      { s with recP := { s.recP with
          gaspFlash := fitRecs (s.gaspOrder.take written) (s.cfg.recorder.lgFlashKib * 1024 - 256) } }
      else s
    s.gaspDone
  else s

/-! ## Boot continuation -/

/-- The die of a SEQ (R674). -/
def seqDie (q : Nat) : Nat := q / 2 ^ 61 % 8

/-- Whether a record is a GASP record (FMT 7). -/
def Rec.isGasp (r : Rec) : Bool := r.flags % 16 == 7

/-- LAST of die `d` in a GASP record (bytes 40 + 16d on). -/
def Rec.gaspLast (r : Rec) (d : Nat) : Nat := leNat ((r.body.drop (24 + 16 * d)).take 8)

/-- Continues die `d`'s stream at count H + 2^40, or at count 1 when nothing was found on any die (R705). -/
def State.continueStream (s : State) (d : Nat) (found : Bool) (h : Nat) (missing : List MissingLoss) : State :=
  let base := d * 2 ^ 61
  if found then
    let s := s.put d F.ERC_NEXT_SEQ_SEQ (base + h + 2 ^ 40)
    let f := s.freeVal 8
    let s := (f.2.sysRec d f.1 5 (lossBody f.1 ⟨0xFFFFFFFF, base + h + 1, base + h + 2 ^ 40 - 1, s.now d, 3⟩)).2
    let s := (missing.filter (fun m => m.die == d)).foldl (fun a m =>
      (a.sysRec d m.cls 5 (lossBody m.cls ⟨m.count, m.first, m.last, a.now d, 2⟩)).2) s
    s.markRec d 6 0
  else (s.put d F.ERC_NEXT_SEQ_SEQ (base + 1)).markRec d 6 0

/-- R705, run once per power-on reset or wake. The GASP record is the newest one found in die 0's archive or among
the imported records; the classes of the records it shows missing come with the command (log entry 14). -/
def State.bootContinue (s : State) (missing : List MissingLoss) : State :=
  let imported := s.recP.gaspFlash
  let gasp := ((imported ++ (s.recDie 0).segs.flatMap (·.recs)).filter Rec.isGasp).getLast?
  let gaspIn := if imported.isEmpty then (if gasp.isSome then 1 else 0) else 2
  let high (d : Nat) : Nat :=
    let a := ((s.recDie d).segs.map (fun g => seqCount g.lastSeq)).foldl max 0
    let b := ((imported.filter (fun r => seqDie r.seq == d)).map (fun r => seqCount r.seq)).foldl max 0
    let c := (gasp.map (fun g => seqCount (g.gaspLast d))).getD 0
    max a (max b c)
  let found := s.dieList.any (fun d => decide (high d > 0))
  let s := imported.foldl (fun a r => a.storeRec (seqDie r.seq) r) s
  let s := { s with recP := { s.recP with gaspFlash := [], continued := true } }
  let s := s.eachDie (fun d a => a.putFlag d F.ERC_STATUS_RUN true)
  let s := s.eachDie (fun d a => a.continueStream d found (high d) missing)
  let s := s.put 0 F.ERC_GASP_FOUND gaspIn
  let s := s.put 0 F.ERC_GASP_CAUSE ((gasp.map (fun g => (g.body.headD 0).toNat)).getD 0)
  (s.putFlag 0 F.ERC_GASP_GAP found).put 0 F.ERC_GASP_IMPORTED imported.length

/-- Partitions whose valid headers carry another SERIAL leave their streams without an archive (R698). -/
def State.foreignParts (s : State) (dies : List Nat) : State :=
  s.eachDie (fun d a => if dies.contains d ∧ (a.recDie d).part.isSome then
      ((a.setRecDie d { a.recDie d with part := none, foreign := true }).putFlag d F.ERC_EVENT_FOREIGN true).putFlag d
        F.ERC_STATUS_ARCHIVE false
    else a)

def execBootContinuation (missing : List MissingLoss) (foreign : List Nat) (s : State) : Res :=
  onPkg s (if s.recP.continued ∨ s.har.current.isNone then s else (s.foreignParts foreign).bootContinue missing)

/-! ## Clearing -/

/-- A read of ERC_CLR_NONCE issues a new random nonce (R708). -/
def execClrNonce (s : State) : Res :=
  let f := s.freeVal (2 ^ 64)
  onPkg s { f.2 with recP := { f.2.recP with nonce := f.1, nonceValid := true }, resp := ⟨[f.1], true⟩ }

def execNonceExpire (s : State) : Res := onPkg s { s with recP := { s.recP with nonceValid := false } }

/-- The 128 bytes of the clear token (R707). -/
def State.clearToken (s : State) : List Byte :=
  (List.range 32).flatMap (fun i => leBytes 4 (s.get 0 (F.ERC_CLR_TOKEN_WORD i)))

/-- Bytes `a` to `a + n − 1` as a little-endian number. -/
def leAt (bs : List Byte) (a n : Nat) : Nat := leNat ((bs.drop a).take n)

/-- The checks of a clear in the order of R709; the RESULT code of the first that fails, 1 when all pass. -/
def State.clearCheck (s : State) (t : List Byte) : Nat :=
  if leAt t 0 4 ≠ 0x524C434B ∨ leAt t 4 2 ≠ 1 ∨ leAt t 7 1 ≠ 0 ∨ leAt t 32 32 ≠ 0 ∨
      (leAt t 6 1 ≠ 0xFF ∧ leAt t 6 1 ≥ s.dieCount) then 2
  else if leAt t 8 8 ≠ s.get 0 F.ARC_SERIAL_SERIAL then 3
  else if s.recP.nonceValid = false ∨ leAt t 16 8 ≠ s.recP.nonce then 4
  else if Config.edVerify ((s.har.current.map (·.key.signerPub)).getD []) (t.take 64) ((t.drop 64).take 64) = false
    then 5
  else if s.flag 0 F.ERC_STATUS_GASP_BUSY then 6
  else 1

/-- The segments of a stream that a clear removes, at most `lim` of them. -/
def State.clearSegs (s : State) (d upto lim : Nat) : List Seg :=
  ((s.recDie d).segs.filter (fun g => decide (seqCount g.lastSeq ≤ upto))).take lim

/-- The segments and, unless the clear was cut short, the buffer blocks of stream `d` up to `upto` removed; answers
the CLEARED_TO and the CHAIN of the CLEAR record (R709, R710). -/
def State.clearStream (s : State) (d upto lim : Nat) (whole : Bool) : Nat × List Byte × State :=
  let gone := s.clearSegs d upto lim
  let r := s.recDie d
  let s := s.setRecDie d { r with segs := r.segs.filter (fun g => !gone.contains g) }
  let s := match r.flushPart with
    | some p => gone.foldl (fun (a : State) (g : Seg) => a.setArcIndex d (g.block / partChunk p) p) s
    | none => s
  let s := s.put d F.ERC_ARC_OLDEST_SEQ (((s.recDie d).segs.head?.map (·.firstSeq)).getD 0)
  let dead := if whole then r.blocks.filter (fun e => !e.2.recs.isEmpty &&
    e.2.recs.all (fun q => decide (seqCount q.seq ≤ upto))) else []
  let s := dead.foldl (fun a e => (a.endSnaps d e.2).setRblock d e.1 RBlock.empty) s
  let top := (gone.map (·.lastSeq) ++ dead.flatMap (fun e => e.2.recs.map (·.seq))).foldl max 0
  (top, (gone.getLast?.map (·.chain)).getD (List.replicate 48 0), s.syncOcc d)

/-- The CLEAR payload (R710). -/
def clearBody (die result upto cleared nonce : Nat) (chain : List Byte) : List Byte :=
  leBytes 1 die ++ leBytes 1 result ++ leBytes 6 0 ++ leBytes 8 upto ++ leBytes 8 cleared ++ leBytes 8 nonce ++
    (chain ++ List.replicate 48 0).take 48

/-- The streams that a token names (R710). -/
def State.clearDies (s : State) (t : List Byte) (result : Nat) : List Nat :=
  if result = 2 then [0] else if leAt t 6 1 = 0xFF then s.dieList else [leAt t 6 1]

/-- One stream of a clear: what passes is removed, and the CLEAR record is written. -/
def State.clearOne (s : State) (t : List Byte) (check : Nat) (cut : Option Nat) (d : Nat) : State :=
  let upto := leAt t 24 8
  let result := if check = 1 ∧ cut.isSome then 7 else check
  let r := if check = 1 then s.clearStream d upto (cut.getD (s.recDie d).segs.length) cut.isNone
    else (0, List.replicate 48 0, s)
  let s := (r.2.2.sysRec d 0 6 (clearBody (leAt t 6 1) result upto r.1 (leAt t 16 8) r.2.1)).2
  s.putFlag d F.ERC_EVENT_CLEARED true

/-- ERC_CLR_CTRL.GO (R709 to R711). `cut` is the number of segments per stream removed when a last gasp or a package
reset stops the clear. -/
def State.clearGo (s : State) (cut : Option Nat) : State :=
  let t := s.clearToken
  let check := s.clearCheck t
  let s := (s.clearDies t check).foldl (fun a d => a.clearOne t check cut d) s
  let s := { s with recP := { s.recP with nonceValid := false } }
  (s.put 0 F.ERC_CLR_CTRL_RESULT (if check = 1 ∧ cut.isSome then 7 else check)).putFlag 0 F.ERC_CLR_CTRL_GO false

def execClearGo (cut : Option Nat) (s : State) : Res := onPkg s (s.clearGo cut)

end Sys2Proof.Machine
end

