-- ==== Sys2Proof/Machine/RelockOps.lean ====
section
/-! DEFINITION. The relock of the time PLL (R581 to R583): its start, which gates the islands that the PLL clocks, and its end. -/

namespace Sys2Proof.Machine

/-- A transmission that a relock abandons on a serial port: a released frame, counted as flushed (R582). -/
def State.serAbandon (s : State) (d p : Nat) : State :=
  match (s.ser d p).tx with
  | none => s
  | some (f, _) =>
    ((s.modSer d p (fun g => { g with tx := none })).putFlag d (F.SER_PORT_STATUS_BUSY p) false).serDrop d p f
      (F.SER_TX_DROP_FLUSH_COUNT p)

/-- The frame that a PLL-clocked island of a die has in progress is abandoned, and its lines go idle (R582). -/
def State.abandonLines (s : State) (d : Nat) : State :=
  let s := (List.range 8).foldl (fun (b : State) p => b.serAbandon d p) s
  s.modTt d (fun g => { g with sending := [], relay := [], arbSent := [] })

/-- A relock starts: the servo holds over, every die marks the start and abandons its frames, and CLKOUT is gated until the
relock ends. One in progress goes on. -/
def State.relockBegin (s : State) : State :=
  if s.flag 0 F.TIM_STATUS_RELOCK then s
  else
    let st := s.get 0 F.TIM_STATUS_STATE
    let s := if st = 1 ∨ st = 2 then s.servoTo 3 else s
    let s := s.putFlag 0 F.TIM_STATUS_RELOCK true
    let s := s.eachDie (fun d a => (a.putFlag d F.TIM_EVENT_RELOCK_START true).abandonLines d)
    (s.gateClk s.clkout.freq).syncTime

/-- Whether the PLL runs from the capture input that FREQ_REF names (R581). -/
def State.refExternal (s : State) : Bool :=
  let r := (timeBase s).freqRef
  r != 0 && !s.servo.refsLost.contains (r - 1)

/-- A relock ends: the islands run again, pulse outputs and CLKOUT restart on their grids (R577, R583). -/
def State.relockEnd (s : State) : State :=
  if s.flag 0 F.TIM_STATUS_RELOCK then
    let s := (s.putFlag 0 F.TIM_STATUS_RELOCK false).putFlag 0 F.TIM_STATUS_REF_EXT s.refExternal
    let s := s.eachDie (fun d a => a.putFlag d F.TIM_EVENT_RELOCK_DONE true)
    ((s.gateClk s.clkout.freq).quietPulses).syncTime
  else s

end Sys2Proof.Machine
end

