-- ==== Sys2Proof/Machine/Serial.lean ====
section
/-! DEFINITION. The commands of the serial fieldbus ports (chapter 09). -/

namespace Sys2Proof.Machine

/-! ## Receiving (R451 to R459) -/

/-- What a good frame delivers: its bytes, CLASS.DETAIL, CLASS.KIND and CLASS.FLAG. -/
structure SerGood where
  bytes : List Byte
  detail : Nat
  kind : Nat
  flag : Bool
deriving Repr

/-- What the checks make of a frame: good, dropped in error, or dropped by the acceptance filters. -/
inductive SerCheck where
  | good (g : SerGood)
  | error
  | filtered
deriving Repr

/-- The lowest matching enabled filter (R453); 0xFF on a port without one. -/
def State.canFilter (s : State) (d p ident : Nat) (ide fdf : Bool) : Option Nat :=
  let fs := (s.cfgOf (serUid d p)).canFilters.filter (fun f => f.die == d && f.port == p && f.en)
  if fs.isEmpty then some 0xFF
  else
    let ms := fs.filter (fun f => f.ide == ide && (ident &&& f.mask) == (f.ident &&& f.mask) && (!f.fdOnly || fdf))
    if ms.isEmpty then none else some ((ms.map (·.index)).foldl min 63)

/-- A UART character as frame bytes. -/
def uartBytes (nine : Bool) (c : BitVec 9) : List Byte := if nine then leBytes 2 c.toNat else leBytes 1 c.toNat

/-- The checks of R455 and R453. -/
def State.serCheck (s : State) (d p : Nat) (rx : SerRx) : SerCheck :=
  let mode := s.serMode d p
  let long := fun (g : SerGood) => if g.bytes.length > s.get d (F.SER_PORT_CFG_MAX_LEN p) then SerCheck.error else .good g
  match rx with
  | .can ident ide rtr fdf dlc brs esi data lec _ =>
    if (mode ≠ 1 ∧ mode ≠ 2) ∨ lec ≠ 0 ∨ (fdf ∧ mode = 1) then .error
    else match s.canFilter d p ident.toNat ide fdf with
      | none => .filtered
      | some i => long ⟨canBytes ident.toNat ide rtr fdf dlc.toNat brs esi (data.take (dlcBytes fdf rtr dlc.toNat)), i,
          (if fdf then 2 else 1), s.serState d p == 2⟩
  | .uart chars bad gap =>
    if mode ≠ 3 ∨ bad then .error
    else long ⟨chars.flatMap (uartBytes ((s.serCfg d p).format % 4 == 2)), 0, 3, gap && (s.serCfg d p).icBits != 0⟩
  | .ft12 chars bad =>
    match mode == 6 && !bad, ft12Kind chars with
    | true, some k => long ⟨chars, k, 7, false⟩
    | _, _ => .error
  | .hdlc bytes fcsOk aborted whole =>
    if mode ≠ 5 ∨ ¬ fcsOk ∨ aborted ∨ ¬ whole ∨ bytes.length < 2 then .error else long ⟨bytes, 0, 6, false⟩
  | .mvb slave data ok =>
    let f := if slave then (s.ser d p).fcode else (data.getD 0 0).toNat / 16
    let n := if slave then mvbSlaveLen f else some 2
    if mode ≠ 4 ∨ ¬ ok ∨ n ≠ some data.length then .error
    else long ⟨leBytes 1 (bit slave) ++ leBytes 1 (p % 2) ++ data, f, if slave then 5 else 4, false⟩

/-- A frame started on a TTCAN port's bus in the present cycle (R475). -/
def State.ttSaw (s : State) (d p ident : Nat) (ide : Bool) : State :=
  if (s.ttcanCfg d p).isSome then s.modSer d p (fun g => { g with ttSeen := g.ttSeen ++ [(ident, ide)] }) else s

/-- The counters of ISO 11898-1 after a received CAN frame; they do not change in LISTEN (R468). -/
def State.canRx (s : State) (d p : Nat) (rx : SerRx) : State :=
  match rx with
  | .can ident ide _ fdf _ _ _ _ lec heavy =>
    let s := s.ttSaw d p ident.toNat ide
    let lec := if lec = 0 ∧ fdf ∧ s.serMode d p = 1 then 2 else lec.val
    if s.serState d p = 2 then s
    else if lec = 0 then s.subRec d p
    else (s.put d (F.SER_CAN_ERR_LEC p) lec).addRec d p (if heavy then 8 else 1)
  | .mvb false data true => s.modSer d p (fun g => { g with fcode := (data.getD 0 0).toNat / 16 })
  | _ => s

/-- The frame's metadata (R451, R452, R454); the frame of a PAIR carries the PORT code of the even port. -/
def serMeta (d port : Nat) (g : SerGood) (stamp endT : Nat) : Frame :=
  { (default : Frame) with
    len := g.bytes.length, port := 0x10 + port, kind := 0, stamp := stamp,
    cls := g.detail % 256 + 256 * g.kind + 2048 * bit g.flag + 0xA000, hoff := List.replicate 8 0xFFFF, die := d,
    endInstant := endT, written := g.bytes.length }

/-- Whether a copy that passed is the second one of a PAIR (R458): the other line's copy ended within 2 bit times. -/
def State.secondCopy (s : State) (d p : Nat) : Bool :=
  match (s.ser d (p / 2 * 2)).pairLast with
  | some (l, t) => l != p % 2 && decide (s.nowT d ≤ t + 2 * s.serBitT d p)
  | none => false

/-- A good frame passed to the switch core. -/
def State.serDeliver (s : State) (d p : Nat) (g : SerGood) (edgePs : Nat) : State :=
  let pair := s.flag d (F.SER_PORT_CFG_PAIR p)
  if pair ∧ s.secondCopy d p then s.modSer d (p / 2 * 2) (fun g => { g with pairLast := none })
  else
    let s := if pair then s.modSer d (p / 2 * 2) (fun g => { g with pairLast := some (p % 2, s.nowT d) }) else s
    let port := if pair then p / 2 * 2 else p
    let stamp := (((edgePs : Int) - s.calEff d 3 p) / 1000).toNat
    (s.count d (F.SER_RX_FRAMES_COUNT p) 1).bindRx d (8 + p) (serUid d p) (s.cfgOf (serUid d p))
      (serMeta d port g stamp (s.now d)) g.bytes false true (rawKey g.bytes)

/-- Whether a port takes frames off its line: ACTIVE, or LISTEN in the CAN modes, its domain on and a SWITCH_MAP applied. -/
def State.serListens (s : State) (d p : Nat) : Bool :=
  (s.serState d p == 3 || s.serState d p == 2) && !s.flag d (F.SER_PORT_CTRL_ADMIN_DOWN p) &&
    s.domOn d (16 + p / 2) && s.flag d F.SWC_STATUS_RUN

/-- A frame ends on a port's line. While the port drives a half-duplex line it receives none (R457). A relock of the time PLL
gates serial bit timing: the frame is abandoned and counts as a receive error (R582). -/
def State.serReceive (s : State) (d p : Nat) (rx : SerRx) (edgePs : Nat) : State :=
  if !s.serListens d p || s.bankHeld d (p / 2) then s
  else if s.flag 0 F.TIM_STATUS_RELOCK then
    (s.count d (F.SER_RX_ERR_COUNT p) 1).putFlag d (F.SER_PORT_EVENT_RX_ERR p) true
  else if !s.isCan d p ∧ (s.serCfg d p).elec = 0 ∧ (s.ser d p).tx.isSome then
    s.putFlag d (F.SER_PORT_EVENT_COLLIDE p) true
  else
    let s1 := s.canRx d p rx
    match s.serCheck d p rx with
    | .filtered => s1.count d (F.SER_RX_FILTERED_COUNT p) 1
    | .error =>
      if s.flag d (F.SER_PORT_CFG_PAIR p) then s1.count d (F.SER_LINE_ERR_COUNT p) 1
      else (s1.count d (F.SER_RX_ERR_COUNT p) 1).putFlag d (F.SER_PORT_EVENT_RX_ERR p) true
    | .good g => s1.serDeliver d p g edgePs

def execSerialFrameReceive (d : Die) (p : Unit8) (rx : SerRx) (edgePs : Nat) (s : State) : Res :=
  onDie s d (s.serReceive d p rx edgePs)

/-- The idle that ends a UART frame (R456): the characters received since the last one are a frame. -/
def execUartFrameEnd (d : Die) (p : Unit8) (chars : List (BitVec 9)) (bad gap : Bool) (edgePs : Nat) (s : State) : Res :=
  onDie s d (if s.serMode d p = 3 then s.serReceive d p (.uart chars bad gap) edgePs else s)

/-! ## Transmitting (R462 to R467) -/

def execSerialFifoEnter (d : Die) (p : Unit8) (s : State) : Res := onDie s d (s.fifoEnter d p)

/-- The longest duration of a CAN frame in 0.1 ns, stuff bits included (ISO 11898-1). -/
def State.canLongest (s : State) (d p : Nat) (bs : List Byte) : Nat :=
  let h := canHead bs
  let e := s.serCfg d p
  let n := 8 * (bs.length - 8)
  let bitN := ((s.ser d p).brp.getD (e.nom % 256) + 1) * (1 + (e.nom / 2 ^ 8 % 2 ^ 8 + 1) + (e.nom / 2 ^ 16 % 2 ^ 7 + 1)) * 25
  let bitD := (e.data % 32 + 1) * (1 + (e.data / 2 ^ 5 % 32 + 1) + (e.data / 2 ^ 10 % 16 + 1)) * 25
  let hdr := if h.ide then 36 else 17
  if h.fdf then
    let crc := if n ≤ 128 then 17 else 21
    let fast := 5 + n + 4 + crc + (crc + 4 + 3) / 4
    (hdr + 10 + (hdr + 5 + n - 1) / 4) * bitN + fast * (if h.brs then bitD else bitN)
  else
    let body := (if h.ide then 54 else 34) + n
    (body + (body - 1) / 4 + 10) * bitN

/-- Whether the FIFO head may start on a TTCAN port: inside an arbitrating window that it ends before (R475). -/
def State.arbFits (s : State) (d p f : Nat) : Bool :=
  match s.ttcanCfg d p with
  | none => true
  | some _ =>
    match (s.ser d p).arbEnd with
    | none => false
    | some t => s.flag d (F.SER_TT_STATUS_SYNC p) &&
        decide (s.nowT d + s.canLongest d p (s.headBytes f (s.frame f).len) < t * 10)

/-- A frame starts on the line: its cells are read, and a read that fails drops it (R526, R156). During a relock of the time
PLL the line stays idle (R582). -/
def State.serStart (s : State) (d p f : Nat) (excl : Bool) : State :=
  if s.flag 0 F.TIM_STATUS_RELOCK then s else
  let x := s.frame f
  let fd := frameDie f
  let drop := fun (s : State) (reason : Nat) =>
    let s := s.modSer d p (fun g => { g with fifo := g.fifo.filter (· != f), excl := g.excl.filter (fun e => e.2 != f) })
    (((s.leaveOutput f d (8 + p)).dropFrame fd f reason).putFlag d (F.SER_PORT_EVENT_TX_DROP p) true).syncFifo d p
  let ok := s.cellsAllowed fd x false
  if !ok.1 then drop ok.2 8
  else
    let r := ok.2.frameRead fd x 0 x.len 2 80
    if r.2.1 then drop r.2.2 9
    else
      let h := canHead r.1
      ((r.2.2.ttSaw d p h.ident h.ide).modSer d p (fun g => { g with tx := some (f, excl) })).putFlag d (F.SER_PORT_STATUS_BUSY p) true

/-- The FIFO head starts at bus or line idle, at or after its launch time; an RS-232 port only while CTS is given. -/
def execSerialTxStart (d : Die) (p : Unit8) (s : State) : Res :=
  onDie s d (match (s.ser d p).fifo with
    | [] => s
    | f :: _ =>
      if s.isActive d p ∧ (s.ser d p).tx = none ∧ (s.frame f).stamp ≤ s.now d ∧ s.arbFits d p f ∧
          ((s.serCfg d p).elec ≠ 2 ∨ s.isCan d p ∨ s.flag d (F.SER_PORT_STATUS_CTS p)) then s.serStart d p f false
      else s)

/-- DETECT entered (R468 to R470). -/
def State.enterDetect (s : State) (d p : Nat) : State :=
  let s := (s.serTo d p 1).putFlag d (F.SER_DETECT_BUSY p) true
  s.putFlag d (F.SER_PORT_CTRL_DETECT_START p) false

/-- A frame's transmission ends (R463, R464, R467); a waiting DETECT_START takes effect then. -/
def State.serTxEnd (s : State) (d p : Nat) (out : SerTxOutcome) : State :=
  match (s.ser d p).tx with
  | none => s
  | some (f, excl) =>
    let s := (s.modSer d p (fun g => { g with tx := none })).putFlag d (F.SER_PORT_STATUS_BUSY p) false
    let abort := s.flag d (F.SER_TX_CTRL_ABORT_HEAD p) && !excl
    let s := if excl then s else s.putFlag d (F.SER_TX_CTRL_ABORT_HEAD p) false
    let s := match out with
      | .sent =>
        let s := s.count d (F.SER_TX_FRAMES_COUNT p) 1
        let s := if s.isCan d p then s.subTec d p else s
        let s := if abort then s.putFlag d (F.SER_PORT_EVENT_ABORT_MISSED p) true else s
        if excl then s
        else
          let s := s.modSer d p (fun g => { g with fifo := g.fifo.filter (· != f) })
          (((s.leaveOutput f d (8 + p)).txDone (s.frame f)).doneWith f).syncFifo d p
      | o =>
        let s := match o with
          | .error lec quiet =>
            let s := s.put d (F.SER_CAN_ERR_LEC p) lec
            if quiet then s else s.addTec d p 8
          | _ => s
        if excl then s
        else if abort ∨ (s.serCfg d p).format.testBit 1 ∧ s.isCan d p then s.serDrop d p f (F.SER_TX_ABORT_COUNT p)
        else s
    if s.flag d (F.SER_PORT_CTRL_DETECT_START p) then s.enterDetect d p else s

def execSerialTxEnd (d : Die) (p : Unit8) (out : SerTxOutcome) (s : State) : Res := onDie s d (s.serTxEnd d p out)

def execAbortHead (d : Die) (p : Unit8) (s : State) : Res := onDie s d (s.abortHead d p)

/-- An inversion episode reaches INV_LIMIT_US. -/
def execInvLong (d : Die) (p : Unit8) (s : State) : Res :=
  onDie s d (if (s.ser d p).invSince.isSome ∧ ¬ (s.ser d p).invLong ∧ (s.serCfg d p).invLimit ≠ 0 then
      (s.modSer d p (fun g => { g with invLong := true })).putFlag d (F.SER_PORT_EVENT_INV_LONG p) true
    else s)

/-! ## Bus-off (R461) -/

/-- A CAN port enters bus-off: TEC above 255. -/
def execBusOff (d : Die) (p : Unit8) (s : State) : Res :=
  onDie s d (if s.isCan d p ∧ s.serState d p = 3 ∧ 256 ≤ s.get d (F.SER_CAN_ERR_TEC p) then
    let s := (s.modSer d p (fun g => { g with
      tx := none, recovering := (s.serCfg d p).format.testBit 0 })).putFlag d (F.SER_PORT_STATUS_BUSY p) false
    let s := (s.serTo d p 4).put d (F.SER_CAN_ERR_ERR_STATE p) 2
    let s := (s.count d (F.SER_BUS_OFF_COUNT p) 1).putFlag d (F.SER_PORT_EVENT_BUS_OFF p) true
    s.serRec d p 0x11 (s.get d (F.SER_CAN_ERR_LEC p)) 0
  else s)

/-- A write of RECOVER starts the recovery sequence. -/
def execRecover (d : Die) (p : Unit8) (s : State) : Res :=
  onDie s d (if s.serState d p = 4 then s.modSer d p (fun g => { g with recovering := true }) else s)

/-- The recovery sequence ends. -/
def execBusOffRecoveryDone (d : Die) (p : Unit8) (s : State) : Res :=
  onDie s d (if s.serState d p = 4 ∧ (s.ser d p).recovering then
    let s := ((s.put d (F.SER_CAN_ERR_TEC p) 0).put d (F.SER_CAN_ERR_REC p) 0).put d (F.SER_CAN_ERR_ERR_STATE p) 0
    (s.modSer d p (fun g => { g with recovering := false })).serTo d p 3
  else s)

/-! ## Detection (R468 to R470) -/

/-- A write of DETECT_START: DETECT is entered from ACTIVE or LISTEN, once a frame in transmission has ended. -/
def execDetectStart (d : Die) (p : Unit8) (s : State) : Res :=
  onDie s d (if s.isCan d p ∧ (s.serState d p = 3 ∨ s.serState d p = 2) then
      (if (s.ser d p).tx.isSome then s.putFlag d (F.SER_PORT_CTRL_DETECT_START p) true else s.enterDetect d p)
    else s)

/-- The Standard rates in b/s. -/
def standardRates : List Nat :=
  [5000, 10000, 20000, 33333, 47619, 50000, 62500, 83333, 95238, 100000, 125000, 250000, 500000, 666667, 800000, 1000000]

/-- The index of the first standard rate within 2 % of a shortest interval of `t` ps. -/
def rateMatch (t : Nat) : Option Nat :=
  firstIdx (fun (r : Nat) => decide (((10 ^ 12 : Int) - t * r).natAbs * 50 ≤ 10 ^ 12)) standardRates

/-- The derived BRP for a rate: the integer nearest to 400 MHz / (rate × quanta), when it is in 1 to 256 and the rate it gives
is within 0.5 %. -/
def derivedBrp (rate quanta : Nat) : Option Nat :=
  let b := (2 * 400000000 + rate * quanta) / (2 * rate * quanta)
  if rate = 0 ∨ b < 1 ∨ 256 < b then none
  else if ((400000000 : Int) - rate * b * quanta).natAbs * 200 > rate * b * quanta then none
  else some b

/-- Detection ends (R469): `shortest` is the shortest interval seen at least 8 times in ps, `frames` whether 4 consecutive
frames then passed within the time. Answers RESULT, the rate, its list index and the derived BRP. -/
def State.detectResult (s : State) (d p : Nat) (shortest : Option Nat) (frames : Bool) : (Nat × Nat × Nat × Option Nat) × State :=
  let e := s.serCfg d p
  let quanta := 1 + (e.nom / 2 ^ 8 % 2 ^ 8 + 1) + (e.nom / 2 ^ 16 % 2 ^ 7 + 1)
  let finish := fun (res rate idx : Nat) (s : State) =>
    match derivedBrp rate quanta with
    | none => ((4, 0, 0, none), s)
    | some b => if frames then ((res, rate, idx, some b), s) else ((3, 0, 0, some b), s)
  match shortest with
  | none => ((3, 0, 0, none), s)
  | some t =>
    match rateMatch t with
    | some i => finish 1 (standardRates.getD i 0) i s
    | none =>
      if !e.measure ∨ t = 0 then ((3, 0, 0, none), s)
      else
        let q := 10 ^ 12 / t
        let v := s.freeVal (q / 1000 + 1)
        finish 2 (q - q / 2000 + v.1) 0 v.2

/-- The end of detection: the port enters LISTEN (R470). -/
def execDetectDone (d : Die) (p : Unit8) (shortest : Option Nat) (frames : Bool) (s : State) : Res :=
  onDie s d (if s.serState d p = 1 then
    let r := s.detectResult d p shortest frames
    let res := r.1.1
    let ok := res = 1 ∨ res = 2
    let s := (r.2.serTo d p 2).putFlag d (F.SER_DETECT_BUSY p) false
    let s := ((s.put d (F.SER_DETECT_RESULT p) res).put d (F.SER_DETECT_INDEX p) r.1.2.2.1).put d (F.SER_DETECT_BRP p)
      (r.1.2.2.2.getD 1 - 1)
    let s := (s.put d (F.SER_DETECT_RATE_RATE p) (if ok then r.1.2.1 else 0)).putFlag d (F.SER_PORT_STATUS_RATE_DETECTED p)
      (decide ok)
    let s := s.modSer d p (fun g => { g with brp := if ok then r.1.2.2.2.map (· - 1) else none })
    (s.putFlag d (F.SER_PORT_EVENT_DETECT_DONE p) true).serRec d p 0x12 res (if ok then r.1.2.1 else 0)
  else s)

/-- A write of GO: LISTEN to ACTIVE. -/
def execGo (d : Die) (p : Unit8) (s : State) : Res := onDie s d (if s.serState d p = 2 then s.serTo d p 3 else s)

/-! ## TTCAN (R471 to R475) -/

/-- A reference message starts a basic cycle with a cycle count. -/
def State.ttCycle (s : State) (d p cycle : Nat) : State :=
  let s := (s.put d (F.SER_TT_STATUS_CYCLE p) cycle).putFlag d (F.SER_TT_STATUS_SYNC p) true
  s.modSer d p (fun g => { g with ttSof := s.now d, ttSeen := [] })

/-- The current master observed: a change is counted, signalled and recorded (R474). -/
def State.ttMasterIs (s : State) (d p prio : Nat) (me : Bool) : State :=
  let s := s.put d (F.SER_TT_STATUS_MASTER_PRIO p) prio
  if (s.ser d p).ttMaster = some prio ∧ s.flag d (F.SER_TT_STATUS_CURRENT p) = me then s
  else
    let s := (s.modSer d p (fun g => { g with ttMaster := some prio })).putFlag d (F.SER_TT_STATUS_CURRENT p) me
    let s := (s.count d (F.SER_TT_MISS_MSTR_CHG p) 1).putFlag d (F.SER_PORT_EVENT_TT_MASTER p) true
    s.serRec d p 0x13 (prio + 128 * bit me) 0

/-- The cycle count of the basic cycle that contains or starts at the time base reading. -/
def State.ttCount (s : State) (d : Nat) (e : TtcanEntry) : Nat :=
  ((((s.now d : Int) - e.base) / (max e.cycle 1 : Nat)) % (max e.matrix 1 : Nat)).toNat

/-- The current master starts a reference message at bus idle (R473). -/
def execTtcanReferenceSend (d : Die) (p : Unit8) (s : State) : Res :=
  onDie s d (match s.ttcanCfg d p with
    | none => s
    | some e =>
      if s.flag d (F.SER_TT_STATUS_CURRENT p) ∧ s.isActive d p ∧ (s.ser d p).tx = none then s.ttCycle d p (s.ttCount d e)
      else s)

/-- A valid reference message received (R474): it times the triggers of every port that is not current, and demotes a current
master of a higher PRIO value. -/
def execTtcanReferenceRx (d : Die) (p : Unit8) (prio : Unit8) (cycle : Fin 64) (s : State) : Res :=
  onDie s d (match s.ttcanCfg d p with
    | none => s
    | some e =>
      if !s.isActive d p ∨ s.flag d (F.SER_TT_STATUS_CURRENT p) ∧ e.prio ≤ prio.val then s
      else (s.ttMasterIs d p prio false).ttCycle d p cycle)

/-- WATCH_NS passes without a reference message: a potential master sends its own, and becomes current when it wins
arbitration and the message succeeds (R474). -/
def execTtcanWatchExpire (d : Die) (p : Unit8) (won : Bool) (s : State) : Res :=
  onDie s d (match s.ttcanCfg d p with
    | none => s
    | some e =>
      if e.role = 1 ∧ ¬ s.flag d (F.SER_TT_STATUS_CURRENT p) ∧ s.isActive d p ∧ won then
        (s.ttMasterIs d p e.prio true).ttCycle d p (s.ttCount d e)
      else s)

/-- Whether a trigger acts in a basic cycle. -/
def trigActs (t : TtcanTrig) (cycle : Nat) : Bool := cycle % max t.rep 1 == t.baseCycle

/-- The instant of the next ARB_END after an offset of the present cycle, looking through one matrix cycle. -/
def nextArbEnd (ts : List TtcanTrig) (e : TtcanEntry) (sof cycle ofs : Nat) : Option Nat :=
  (List.range (e.matrix + 1)).findSome? (fun k =>
    let hits := (ts.filter (fun t => t.type == 3 && trigActs t ((cycle + k) % max e.matrix 1) && (k != 0 || decide (ofs < t.offset)))).map
      (·.offset)
    if hits.isEmpty then none else some (sof + k * e.cycle + hits.foldl min 1000000000))

/-- A missed trigger (R475). -/
def State.ttMiss (s : State) (d p : Nat) : State :=
  (s.count d (F.SER_TT_MISS_MISS p) 1).putFlag d (F.SER_PORT_EVENT_TT_MISS p) true

/-- A trigger acts at its offset; `idle` says whether the bus is idle. -/
def State.ttTrigger (s : State) (d p i : Nat) (idle : Bool) : State :=
  match s.ttcanCfg d p, (s.cfgOf (serUid d p)).ttTrigs.find? (fun t => t.die == d && t.port == p && t.index == i) with
  | some e, some t =>
    let cycle := s.get d (F.SER_TT_STATUS_CYCLE p)
    if !s.flag d (F.SER_TT_STATUS_SYNC p) ∨ !trigActs t cycle ∨ !s.isActive d p then s
    else match t.type with
      | 1 =>
        if !idle ∨ (s.ser d p).tx.isSome then s.ttMiss d p
        else match (s.ser d p).excl.find? (fun x => x.1 == t.buf) with
          | some x => s.serStart d p x.2 true
          | none => s
      | 2 => s.modSer d p (fun g => { g with
          arbEnd := nextArbEnd ((s.cfgOf (serUid d p)).ttTrigs.filter (fun x => x.die == d && x.port == p)) e g.ttSof cycle
            t.offset })
      | 3 => s.modSer d p (fun g => { g with arbEnd := none })
      | 4 => if (s.ser d p).ttSeen.contains (t.expId, t.expIde) then s else s.ttMiss d p
      | _ => s
  | _, _ => s

def execTtcanTrigger (d : Die) (p : Unit8) (i : Fin 64) (idle : Bool) (s : State) : Res := onDie s d (s.ttTrigger d p i idle)

/-- No reference message for 3 basic cycles (R475). -/
def execTtcanSyncLoss (d : Die) (p : Unit8) (s : State) : Res :=
  onDie s d (if (s.ttcanCfg d p).isSome then s.putFlag d (F.SER_TT_STATUS_SYNC p) false else s)

end Sys2Proof.Machine
end

