-- ==== Sys2Proof/Machine/TenOps.lean ====
section
/-! DEFINITION. Tenants (chapter 16): existence, page enablement, read rights, violations and store buckets. -/

namespace Sys2Proof.Machine

/-- A tenant's entry in CURRENT; a tenant exists when it has one with ENABLED = 1 (R717). -/
def State.tenantEntry (s : State) (t : Nat) : Option TenantEntry :=
  (s.cfg.tenants.entries.find? (fun e => e.tid == t)).filter (·.enabled)

def State.tenantExists (s : State) (t : Nat) : Bool := (s.tenantEntry t).isSome

/-- Whether tenant `t`'s page is enabled on the HOST port of die `p` (R726). -/
def State.pageEnabled (s : State) (p t : Nat) : Bool :=
  match s.tenantEntry t with
  | none => false
  | some e => s.getBit 0 (F.TEN_T_CFG_PORTS_TOKEN t) p || (!e.tokenOnly && e.ports.testBit p)

/-- Whether a tenant may read a datapoint (R191). -/
def State.mayRead (s : State) (t dpi : Nat) (c : Desc) : Bool :=
  t == 0 || t == c.tid ||
    (!c.rdPrivate && s.cfg.tenants.reads.any (fun r => r.1 == t && decide (r.2.1 ≤ dpi) && decide (dpi < r.2.1 + r.2.2)))

/-! ## Violations (R742, R743) -/

/-- The tenant's field of TEN_T_VIOL for a KIND. -/
def violField (t kind : Nat) : Field :=
  match kind with
  | 1 => F.TEN_T_VIOL_ACCESS t
  | 2 => F.TEN_T_VIOL_PASID t
  | 3 => F.TEN_T_VIOL_DMA t
  | _ => F.TEN_T_VIOL_MBX t

/-- A violation by tenant `t`, found by die `d` on the HOST port of die `p`. -/
def State.violation (s : State) (d p t kind detail : Nat) : State :=
  let s := (s.count 0 (violField t kind) 1).putFlag 0 F.TEN_EVENT_VIOL true
  if s.flag 0 F.TEN_VIOL_LOG_VALID then s.putFlag 0 F.TEN_VIOL_LOG_MORE true
  else
    let s := ((s.put 0 F.TEN_VIOL_LOG_TID t).put 0 F.TEN_VIOL_LOG_KIND kind).put 0 F.TEN_VIOL_LOG_DIE d
    ((s.put 0 F.TEN_VIOL_LOG_PORT p).put 0 F.TEN_VIOL_LOG_DETAIL detail).putFlag 0 F.TEN_VIOL_LOG_VALID true

/-- A page access refused under R633, R638 or R642. -/
def State.pageAccess (s : State) (p t off : Nat) : State :=
  (s.pputFlag p t F.PCI_PG_EVENT_ACCESS true).violation p p t 1 off

/-- A tenant's sticky bit for an overrun mailbox. -/
def State.overrunBit (s : State) (t : Nat) : State :=
  let w := t / 32
  if s.getBit 0 (F.TEN_MBX_OVERRUN_OVERRUN w) (t % 32) then s
  else (s.setBit 0 (F.TEN_MBX_OVERRUN_OVERRUN w) (t % 32)).putFlag 0 F.TEN_EVENT_MBX_OVERRUN true

/-- An attempt of a master without the right on the owner's registers (R720). -/
def State.denied (s : State) (d : Nat) : State := (s.count d F.TEN_DENIED_COUNT 1).putFlag 0 F.TEN_EVENT_DENIED true

/-! ## Store buckets (R735) -/

/-- The level of a bucket of a rate in 1/256 element per µs, brought to TIM_MONO `now`. -/
def Bucket.levelAt (b : Bucket) (rate now : Nat) : Int := min (64 * 256000) (b.level + ((now : Int) - b.at_) * rate)

/-- STORE of a tenant on a die, and whether it shares the default pool. -/
def State.storeOf (s : State) (d t : Nat) : Nat × Bool :=
  match s.cfg.tenants.stores.find? (fun e => e.1 == d && e.2.1 == t) with
  | some e => (e.2.2, false)
  | none => (16, true)

def State.defStore (s : State) (d : Nat) : Nat :=
  ((s.cfg.tenants.defaults.find? (fun e => e.1 == d)).map (·.2)).getD 64

def State.bucketLevel (s : State) (d t : Nat) : Int :=
  (tblGet s.host.buckets Bucket.full (d * 4096 + t)).levelAt (s.storeOf d t).1 (s.mono d)
def State.poolLevel (s : State) (d : Nat) : Int := (tblGet s.host.pools Bucket.full d).levelAt (s.defStore d) (s.mono d)

/-- Whether an element of a tenant may proceed: its bucket, and the default pool where it applies, hold an element. -/
def State.tokenReady (s : State) (d t : Nat) : Bool :=
  decide (256000 ≤ s.bucketLevel d t) && (!(s.storeOf d t).2 || decide (256000 ≤ s.poolLevel d))

/-- `n` elements taken from a tenant's bucket and from the pool where it applies. -/
def State.takeTokens (s : State) (d t n : Nat) : State :=
  let b : Bucket := ⟨s.bucketLevel d t - n * 256000, s.mono d⟩
  let q : Bucket := ⟨s.poolLevel d - n * 256000, s.mono d⟩
  let pool := (s.storeOf d t).2
  { s with host := { s.host with
      buckets := tblSet s.host.buckets Bucket.full (d * 4096 + t) b,
      pools := if pool then tblSet s.host.pools Bucket.full d q else s.host.pools } }

end Sys2Proof.Machine
end

