-- ==== Sys2Proof/Machine/HostOps.lean ====
section
/-! DEFINITION. The shared operations of the host interface (chapter 14): refused requests, the gate of a tenant page, command
contexts, gather and scatter elements, and the host completion queue. -/

namespace Sys2Proof.Machine

def State.answered (s : State) (data : List Nat) : State := { s with resp := ⟨data, true⟩ }
def State.refusedReq (s : State) : State := { s with resp := ⟨[], false⟩ }

/-! ## Requests of a port -/

def State.isHost (s : State) (p : Nat) : Bool := s.get p F.PCI_PORT_CFG_ROLE == 1

/-- A failed inbound access captured in PCI_ERR_LOG, unless a capture is held there. -/
def State.pciErr (s : State) (p off bar len kind : Nat) (write : Bool) : State :=
  if s.flag p F.PCI_ERR_LOG_VALID then s
  else
    let s := ((s.put p F.PCI_ERR_LOG_OFFSET off).put p F.PCI_ERR_LOG_BAR bar).putFlag p F.PCI_ERR_LOG_WRITE write
    ((s.put p F.PCI_ERR_LOG_KIND kind).put p F.PCI_ERR_LOG_LEN (min len 15)).putFlag p F.PCI_ERR_LOG_VALID true

/-- A refusal with Completer Abort: a read completes so, a write is discarded; both set PCI_EVENT.CA. -/
def State.abortReq (s : State) (p : Nat) : State := (s.putFlag p F.PCI_EVENT_CA true).refusedReq

/-- A request refused for want of the OWNER flag (R624, R720). -/
def State.ownerDenied (s : State) (p off bar len : Nat) (write : Bool) : State :=
  let s := (s.putFlag p F.PCI_EVENT_OWNER_DENIED true).denied p
  let s := if write then s else s.putFlag p F.PCI_EVENT_CA true
  (s.pciErr p off bar len 1 write).refusedReq

/-- A misaligned or wrong-width access (R627): a read answers 0xFFFF_FFFF. -/
def State.alignErr (s : State) (p off bar len : Nat) (write : Bool) : State :=
  ((s.putFlag p F.PCI_EVENT_ALIGN true).pciErr p off bar len 0 write).answered [0xFFFFFFFF]

/-- The PASID check of R727: whether a request to a page is refused. -/
def State.pasidRefused (s : State) (t : Nat) (pasid : Option Nat) : Bool :=
  match s.tenantEntry t with
  | none => false
  | some e => e.pasidReq && (!s.flag 0 (F.TEN_T_PASID_VALID t) || pasid != some (s.get 0 (F.TEN_T_PASID_PASID t)))

/-- An access of an unbound slot or a disabled page (R633, R742): a violation; a write is discarded and sets ACCESS, a read
answers 0. -/
def State.unboundAccess (s : State) (p t off : Nat) (write : Bool) : State :=
  if write then s.pageAccess p t off else (s.violation p p t 1 off).answered [0]

/-- What a page request meets before it acts: the refusal's state, or none when the page takes it (R87, R624, R727, R633). -/
def State.pageGate (s : State) (p t off : Nat) (write : Bool) (pasid : Option Nat) : Option State :=
  if !s.isHost p || s.flag p F.PCI_STATUS_BOOT then some s.refusedReq
  else if t = 0 ∧ ¬ s.flag p F.PCI_PORT_CFG_OWNER then some (s.ownerDenied p (t * 4096 + off) 1 4 write)
  else if s.pasidRefused t pasid then some ((s.violation p p t 2 off).abortReq p)
  else if !s.pageEnabled p t then some (s.unboundAccess p t off write)
  else none

/-- A request of a page, acting when the gate lets it through. -/
def State.onPage (s : State) (p t off : Nat) (write : Bool) (pasid : Option Nat) (k : State) : State :=
  match s.pageGate p t off write pasid with
  | some s' => s'
  | none => k

/-! ## Command contexts (R634, R635) -/

def ctxKey (p t : Nat) : Nat := p * 4096 + t
def State.hasCtx (s : State) (p t : Nat) : Bool := s.host.ctx.any (fun e => e.1 == ctxKey p t)
def State.syncCtx (s : State) (p : Nat) : State :=
  s.put p F.PCI_STATUS_CTX_USED (s.host.ctx.filter (fun e => e.1 / 4096 == p)).length

/-- The time of the last access to a page's command area. -/
def State.touchCtx (s : State) (p t : Nat) : State :=
  { s with host := { s.host with
      ctx := s.host.ctx.map (fun e => if e.1 = ctxKey p t then (e.1, s.mono p) else e) } }

/-- A context taken; none when all 64 of the port are in use. -/
def State.takeCtx (s : State) (p t : Nat) : Option State :=
  if s.hasCtx p t then some (s.touchCtx p t)
  else if 64 ≤ (s.host.ctx.filter (fun e => e.1 / 4096 == p)).length then none
  else
    let s := { s with host := { s.host with ctx := s.host.ctx ++ [(ctxKey p t, s.mono p)] } }
    some ((s.pputFlag p t F.PCI_PG_CMD_STAT_CTX true).syncCtx p)

/-- A context released: its contents are discarded. -/
def State.freeCtx (s : State) (p t : Nat) : State :=
  let s := { s with host := { s.host with
      ctx := s.host.ctx.filter (fun e => e.1 != ctxKey p t),
      cmds := tblSet s.host.cmds default (ctxKey p t) default,
      win := tblDrop (fun k => k / 4096 == ctxKey p t) s.host.win } }
  ((s.pputFlag p t F.PCI_PG_CMD_STAT_CTX false).pputFlag p t F.PCI_PG_CMD_STAT_BUSY false).syncCtx p

/-- A 32-bit word of the command area. -/
def winKey (p t off : Nat) : Nat := ctxKey p t * 4096 + off
def State.winWord (s : State) (p t off : Nat) : Nat := tblGet s.host.win 0 (winKey p t off)
def State.setWin (s : State) (p t off v : Nat) : State :=
  { s with host := { s.host with win := tblSet s.host.win 0 (winKey p t off) (v % 2 ^ 32) } }

/-- Whether an offset lies in the command area: the index list or the record window. -/
def inWindow (off : Nat) : Bool := (decide (0x100 ≤ off) && decide (off < 0x200)) || decide (0x800 ≤ off)

/-- Bytes of the record window from 32-bit words, and back. -/
def State.winBytes (s : State) (p t off : Nat) : Nat → List Byte
  | 0 => []
  | n + 1 => leBytes 4 (s.winWord p t off) ++ s.winBytes p t (off + 4) n
def State.setWinBytes (s : State) (p t off : Nat) (bs : List Byte) : Nat → State
  | 0 => s
  | n + 1 => (s.setWin p t off (leNat (bs.take 4))).setWinBytes p t (off + 4) (bs.drop 4) n

/-- A word written to the command area (R634, R638). -/
def State.winWrite (s : State) (p t off v : Nat) : State :=
  if s.pflag p t F.PCI_PG_CMD_STAT_BUSY then s.pageAccess p t off
  else match s.takeCtx p t with
    | none => s.pputFlag p t F.PCI_PG_EVENT_NOCTX true
    | some s => s.setWin p t off v

/-! ## Gather and scatter elements (R215 to R218, R639 to R641) -/

/-- The null record and the error record. -/
def nullRecord : List Byte := List.replicate 28 0 ++ leBytes 2 0x0002 ++ leBytes 2 0
def errorRecord (owner : Nat) : List Byte := List.replicate 28 0 ++ leBytes 2 0x0032 ++ leBytes 2 owner

/-- One element read with the host lead, for a tenant. -/
def State.gatherElem (s : State) (t idx source : Nat) : List Byte × State :=
  if 2 ^ 20 ≤ idx ∨ !s.dpiOk idx then (nullRecord, s)
  else
    let h := s.homeDie idx
    let c := s.readDesc h (dpSlot idx) source
    if c.2.1 || c.1.unused || !s.mayRead t idx c.1 then (nullRecord, c.2.2)
    else
      let r := c.2.2.portRead h (recOff (dpSlot idx)) 32 source (s.get 0 F.DPT_LEAD_HOST_LEAD_NS)
      if r.2.1 then (errorRecord (c.1.tid + 4096 * s.epoch), r.2.2.putFlag h F.DPT_EVENT_UE_READ true)
      else (r.1, r.2.2)

/-- A scatter element's fields. -/
def scatterOf (bs : List Byte) : ScatterElem :=
  let q := leNat ((bs.drop 4).take 2)
  ⟨leNat (bs.take 4) % 2 ^ 20, leNat ((bs.drop 8).take 8), leNat ((bs.drop 16).take 8), q.testBit 15, q.testBit 3,
    q.testBit 5, q.testBit 6, q.testBit 7, q.testBit 11⟩

/-- One element applied or refused by a tenant on die `d`: its RESULT. -/
def State.scatterElem (s : State) (d t : Nat) (bs : List Byte) : Nat × State :=
  let op := leNat (bs.take 4) / 2 ^ 20 % 16
  if op = 1 then s.substitute d t (scatterOf bs) false
  else if op = 2 then s.substitute d t (scatterOf bs) true
  else (0xF, s)

/-! ## DMA channels: bindings and state -/

def State.dmaCh (s : State) (d ch : Nat) : DmaCh := tblGet s.host.dma DmaCh.reset (d * 32 + ch)
def State.modDma (s : State) (d ch : Nat) (g : DmaCh → DmaCh) : State :=
  { s with host := { s.host with dma := tblSet s.host.dma DmaCh.reset (d * 32 + ch) (g (s.dmaCh d ch)) } }

def State.chTid (s : State) (d ch : Nat) : Nat := s.get d (F.DMA_CH_CFG_TID ch)
def State.chSlot (s : State) (d ch : Nat) : Nat := s.get d (F.DMA_CH_CFG_SLOT ch)
/-- The HOST port that a channel uses (R650). -/
def State.chPort (s : State) (d ch : Nat) : Option Nat :=
  if s.flag d (F.DMA_CH_CFG_PORT_VALID ch) then some (s.get d (F.DMA_CH_CFG_PORT ch)) else none

/-- A register of a channel's slot in its tenant's page. -/
def State.slotGet (s : State) (d ch : Nat) (f : Nat → Field) : Nat := s.pget 0 (s.chTid d ch) (f (s.chSlot d ch))
def State.slotPut (s : State) (d ch : Nat) (f : Nat → Field) (x : Nat) : State :=
  if s.flag d (F.DMA_CH_CFG_BOUND ch) then s.pput 0 (s.chTid d ch) (f (s.chSlot d ch)) x else s

/-- STATE of a channel: 0 OFF, 1 IDLE, 2 RUN, 3 PAUSED, 4 STOPPED. -/
def State.dmaState (s : State) (d ch : Nat) : Nat := s.get d (F.DMA_CH_STATUS_STATE ch)
def State.dmaTo (s : State) (d ch st : Nat) : State :=
  let s := (s.put d (F.DMA_CH_STATUS_STATE ch) st).slotPut d ch F.DMA_PG_STAT_STATE st
  if st = 2 ∨ st = 3 then s.setBit d F.DMA_STATUS_RUN ch else s.clrBit d F.DMA_STATUS_RUN ch

def State.dmaCode (s : State) (d ch code : Nat) : State :=
  (s.put d (F.DMA_CH_STATUS_CODE ch) code).slotPut d ch F.DMA_PG_STAT_CODE code

def State.dmaEnabled (s : State) (d ch : Nat) : Bool := s.slotGet d ch F.DMA_PG_CTRL_ENABLE != 0

/-- A flag of DMA_PG_STAT with its page event. -/
def State.dmaFlag (s : State) (d ch : Nat) (f : Nat → Field) (ev : Field) : State :=
  (s.slotPut d ch f 1).pageEvent (s.chTid d ch) ev

/-- The channel stopped with an error code (R662, R742). -/
def State.dmaStopped (s : State) (d ch code : Nat) : State :=
  let s := ((s.slotPut d ch F.DMA_PG_CTRL_ENABLE 0).dmaTo d ch 4).dmaCode d ch code
  let s := (s.dmaFlag d ch F.DMA_PG_STAT_ERR F.PCI_PG_EVENT_DMA_ERR).setBit d F.DMA_EVENT_ERR ch
  if code = 2 ∨ code = 5 ∨ code = 6 ∨ code = 8 then
    s.violation d ((s.chPort d ch).getD 0) (s.chTid d ch) 3 (ch + 256 * code)
  else s

/-- The ring size of a channel (R651). -/
def State.ringSize (s : State) (d ch : Nat) : Nat := 2 ^ (max 4 (min 12 (s.slotGet d ch F.DMA_PG_CTRL_RING_LOG2)))

/-- A descriptor's status is in the host completion queue: CI passes it, and the channel goes on or stops (R651, R660, R662,
R666). -/
def State.dmaEntered (s : State) (d ch : Nat) (e : HcqEntry) (irq aborted : Bool) : State :=
  let b := fun (i : Nat) => (e.status.getD i 0).toNat
  let code := b 0
  let ci := (b 2 + 256 * b 3 + 1) % s.ringSize d ch
  let s := (s.slotPut d ch F.DMA_PG_CI_CI ci).put d (F.DMA_CH_STATUS_CI ch) ci
  let s := (s.dmaCode d ch code).modDma d ch (fun c => { c with inHcq := c.inHcq + 1 })
  let s := (s.slotPut d ch F.DMA_PG_CTRL_ABORT 0).putFlag d (F.DMA_CH_CTRL_ABORT ch) false
  let s := if irq ∨ code = 1 then s.dmaFlag d ch F.DMA_PG_STAT_DONE F.PCI_PG_EVENT_DMA_DONE else s
  if code ≠ 0 ∧ code ≠ 1 then s.dmaStopped d ch code
  else if aborted then
    let s := (s.slotPut d ch F.DMA_PG_CTRL_ENABLE 0).dmaTo d ch 4
    if code = 1 then s.slotPut d ch F.DMA_PG_STAT_ERR 1 else s
  else s.dmaTo d ch (if s.dmaEnabled d ch then 1 else 0)

/-! ## The host completion queue (R663, R534) -/

def State.hcqOf (s : State) (d : Nat) : Hcq := tblGet s.host.hcq default d
def State.setHcq (s : State) (d : Nat) (q : Hcq) : State :=
  { s with host := { s.host with hcq := tblSet s.host.hcq default d q } }

/-- The Vat offset of a slot. -/
def hcqSlot (i : Nat) : Nat := 0xF30000 + 64 * (i % 1024)

/-- An entry placed in a free slot; a page command or descriptor is complete now. -/
def State.hcqEnter (s : State) (d : Nat) (e : HcqEntry) : State :=
  let q := s.hcqOf d
  let i := q.head + q.entries.length
  let s := s.writeBytes d (hcqSlot i) (e.status.take 16 ++ leBytes 8 e.addr ++ leBytes 1 e.port)
  let s := (s.setHcq d { q with entries := q.entries ++ [e] }).put d F.DMA_HCQ_USED (q.entries.length + 1)
  match e.src with
  | .dma ch irq aborted => s.dmaEntered d ch e irq aborted
  | .page t =>
    let s := { s with host := { s.host with cmds := tblSet s.host.cmds default (ctxKey e.port t) default } }
    (s.pputFlag e.port t F.PCI_PG_CMD_STAT_BUSY false).pputFlag e.port t F.PCI_PG_EVENT_CMD_DONE true

/-- An entry handed to the queue: it waits when the queue is full (R534). -/
def State.hcqPush (s : State) (d : Nat) (e : HcqEntry) : State :=
  let q := s.hcqOf d
  if q.entries.length < 1024 ∧ q.waiting = [] then s.hcqEnter d e
  else
    let s := (s.setHcq d { q with waiting := q.waiting ++ [e] }).count d F.DMA_HCQ_STALLS 1
    (s.putFlag d F.SWC_STATUS_HCQ_STALL true).putFlag d F.SWC_EVENT_HCQ_FULL true

/-- Whether a channel has a status that waits for the queue. -/
def State.dmaWaiting (s : State) (d ch : Nat) : Bool :=
  (s.hcqOf d).waiting.any (fun e => match e.src with | .dma c _ _ => c == ch | .page _ => false)

/-! ## Page commands (R636 to R638) -/

def State.pageCmd (s : State) (p t : Nat) : PageCmd := tblGet s.host.cmds default (ctxKey p t)
def State.setPageCmd (s : State) (p t : Nat) (c : PageCmd) : State :=
  { s with host := { s.host with cmds := tblSet s.host.cmds default (ctxKey p t) c } }

/-- A command's end with a RESULT, through the completion queue of the port's die. -/
def State.pageDone (s : State) (p t result : Nat) : State :=
  (s.pput p t F.PCI_PG_CMD_STAT_RESULT result).hcqPush p ⟨List.replicate 16 0, 0, p, .page t⟩

/-- One element of the page command in progress. -/
def State.pageElem (s : State) (p t : Nat) (c : PageCmd) : State :=
  let s := s.takeTokens p t 1
  let s := if c.op = 1 then
      let r := s.gatherElem t (s.winWord p t (0x100 + 4 * c.next)) 5
      r.2.setWinBytes p t (0x800 + 32 * c.next) r.1 8
    else
      let r := s.scatterElem p t (s.winBytes p t (0x800 + 32 * c.next) 8)
      r.2.setWin p t (0x800 + 32 * c.next + 28) r.1
  (s.setPageCmd p t { c with next := c.next + 1 }).pput p t F.PCI_PG_CMD_STAT_DONE (c.next + 1)

/-- The elements of a command in order, up to the first that finds its store bucket empty (R735). -/
def State.pageRun (s : State) (p t : Nat) : Nat → State
  | 0 => s
  | fuel + 1 =>
    let c := s.pageCmd p t
    if c.count ≤ c.next then s.pageDone p t 1
    else if !s.tokenReady p t then s.count p (F.TEN_D_STORE_WAITS t) 1
    else (s.pageElem p t c).pageRun p t fuel

/-- A write of GATHER or SCATTER to PCI_PG_CMD. -/
def State.pageStart (s : State) (p t op n : Nat) : State :=
  if s.pflag p t F.PCI_PG_CMD_STAT_BUSY then s.pageAccess p t 0x00C
  else
    let s := ((s.pputFlag p t F.PCI_PG_CMD_STAT_BUSY true).pput p t F.PCI_PG_CMD_STAT_RESULT 0).pput p t F.PCI_PG_CMD_STAT_DONE 0
    if !s.hasCtx p t then s.pageDone p t 2
    else
      let s := s.touchCtx p t
      if n = 0 ∨ 64 < n then s.pageDone p t 3
      else (s.setPageCmd p t ⟨op, n, 0⟩).pageRun p t (n + 1)

/-! ## Mailboxes (R633, R644 to R648) -/

/-- The engine bound to a slot of a tenant's page, as (die, engine). -/
def State.mbxBound (s : State) (t i : Nat) : Option (Nat × Nat) :=
  (s.cfg.tenants.mailboxes.find? (fun m => m.2.1 == t && m.2.2.2 == i)).map (fun m => (m.1, m.2.2.1))

/-- The channel bound to a slot of a tenant's page, as (die, channel). -/
def State.dmaBound (s : State) (t j : Nat) : Option (Nat × Nat) :=
  (s.cfg.tenants.dmas.find? (fun m => m.2.1 == t && m.2.2.2.1 == j)).map (fun m => (m.1, m.2.2.1))

/-- MBX_WAKE_REQUEST (R647): a word or doorbell for an engine whose cluster is off or fenced. -/
def State.mbxWake (s : State) (d e : Nat) : State :=
  if (placeOf s.cfg d (e / 8)).isSome ∧ s.domDown d (e / 8) then
    let s := (s.putFlag d (F.MBX_ENG_WAKE_PENDING e) true).putFlag d F.MBX_EVENT_WAKE true
    (s.putFlag d (F.PWR_DOM_WAKE_PEND (e / 8)) true).putFlag d F.PWR_EVENT_WAKE_REQ true
  else s

/-- A doorbell (R648): raised, or held while the cluster is off or fenced (R771). -/
def State.ringBell (s : State) (d e : Nat) : State :=
  if s.domDown d (e / 8) then (s.mbxWake d e).modEng d e (fun g => { g with bellHeld := true }) else s.raise d e 10

/-- Inbound words of an engine, those held for its reset included. -/
def State.inWords (s : State) (d e : Nat) : Nat := (s.eng d e).mbxIn.length + (s.eng d e).mbxHeld.length

/-- A word pushed onto an inbound queue; false when the queue is full. A word for an engine in RESET or without power is held
(R292, R647). -/
def State.mbxPush (s : State) (d e : Nat) (w : W16) : Bool × State :=
  if 8 ≤ s.inWords d e then (false, s)
  else
    let hold := s.domDown d (e / 8) || (s.eng d e).st == .reset || (s.eng d e).st == .off
    let s := s.modEng d e (fun g =>
      if hold then { g with mbxHeld := g.mbxHeld ++ [w] } else { g with mbxIn := g.mbxIn ++ [w] })
    (true, s.mbxWake d e)

/-- A host word to a full inbound queue (R645, R742, R743). -/
def State.mbxOverrun (s : State) (p t i d e : Nat) : State :=
  let s := (s.pputFlag 0 t (F.MBX_PG_STAT_OVERRUN i) true).pageEvent t F.PCI_PG_EVENT_MBX_OVERRUN
  let s := (s.count d (F.MBX_DROP_OVERRUN e) 1).putFlag d F.MBX_EVENT_OVERRUN true
  (s.overrunBit t).violation d p t 4 e

/-- The oldest outbound word popped by a reader (R644, R646). -/
def State.mbxTake (s : State) (d e : Nat) : Option (W16 × State) :=
  match (s.eng d e).mbxOut with
  | [] => none
  | w :: r =>
    let s := s.modEng d e (fun g => { g with mbxOut := r })
    some (w, if r = [] then s.raise d e 5 else s)

/-- Both queues of a mailbox emptied, the words counted (R647, R671). -/
def State.mbxEmpty (s : State) (d e : Nat) : State :=
  let n := s.inWords d e + (s.eng d e).mbxOut.length
  let s := s.modEng d e (fun g => { g with mbxIn := [], mbxHeld := [], mbxOut := [] })
  if n = 0 then s else (s.count d (F.MBX_DROP_FENCE e) n).putFlag d F.MBX_EVENT_FENCE_DROP true

end Sys2Proof.Machine
end

