-- ==== Sys2Proof/Machine/DmaOps.lean ====
section
/-! DEFINITION. The operations of DMA channels (R650 to R669): descriptors, bursts, egress frames and circular rings. -/

namespace Sys2Proof.Machine

def dmaUid (d ch : Nat) : Nat := uid d 6 ch

/-! ## Descriptors (R653 to R655) -/

def DmaDesc.parse (bs : List Byte) : DmaDesc :=
  let b := fun (i : Nat) => (bs.getD i 0).toNat
  let f := b 1
  ⟨b 0 % 4, b 0 / 4 % 4, b 0 / 16 % 4, f.testBit 0, f.testBit 1, f.testBit 2, f.testBit 3, b 2, b 3,
    leNat ((bs.drop 4).take 4), leNat ((bs.drop 8).take 8), leNat ((bs.drop 16).take 8), leNat ((bs.drop 24).take 8)⟩

/-- The combinations, lengths and alignments of the Descriptor types table. -/
def DmaDesc.valid (c : DmaDesc) (bs : List Byte) : Bool :=
  let b := fun (i : Nat) => (bs.getD i 0).toNat
  b 0 < 64 && b 1 < 16 && c.status % 16 == 0 &&
    (match c.type with
      | 0 =>
        (c.srcSp == 0 || c.srcSp == 1) &&
          (if c.dstSp = 2 then c.srcSp == 0 && decide (65 ≤ c.len) && decide (c.len ≤ 9280) && c.dst == 0
            else (c.dstSp == 0 || c.dstSp == 1) && decide (1 ≤ c.len) && decide (c.len ≤ 16777216))
      | 1 =>
        c.srcSp == 3 && c.dstSp == 0 && decide (4096 ≤ c.len) && decide (c.len ≤ 16777216) && isPow2 c.len &&
          c.dst % max c.len 1 == 0 && decide (1 ≤ c.high) && decide (c.low < c.high)
      | 2 => c.srcSp == 0 && c.dstSp == 0 && decide (1 ≤ c.len) && decide (c.len ≤ 65536) && c.src % 4 == 0 && c.dst % 32 == 0
      | _ => c.srcSp == 0 && c.dstSp == 0 && decide (1 ≤ c.len) && decide (c.len ≤ 65536) && c.src % 32 == 0 && c.dst == 0)
where
  isPow2 (n : Nat) : Bool := (List.range 25).any (fun k => n == 2 ^ k)

/-- A package address (R41): die and offset, when it names this package and a die of it. -/
def State.pkgAddr (s : State) (a : Nat) : Option (Nat × Nat) :=
  let pkg := a / 2 ^ 43
  let d := a / 2 ^ 40 % 8
  if (pkg = 31 ∨ pkg = s.get 0 F.ARC_CONFIG_PKG_ADDR) ∧ d < s.dieCount then some (d, a % 2 ^ 40) else none

/-- Whether `n` bytes from a package address fall in a Vat, or as a source of the owner in a recorder buffer (R655, R688). -/
def State.pkgOk (s : State) (a n t : Nat) (src : Bool) : Bool :=
  match s.pkgAddr a with
  | none => false
  | some (_, o) => decide (o + n ≤ 0x1000000) || (src && t == 0 && decide (0x1000000 ≤ o) && decide (o + n ≤ 0x1400000))

/-- The code with which a descriptor ends at once; none when it may run (R654, R655, R658). -/
def State.descCode (s : State) (d ch : Nat) (c : DmaDesc) (bs : List Byte) : Option Nat :=
  if !c.valid bs then some 5
  else if c.type = 1 ∧ ¬ s.cfg.tenants.hostqs.any (fun h => h.1 == d && h.2.1 == s.chTid d ch && h.2.2 == c.src % 64) then some 5
  else if (c.srcSp = 1 ∧ ¬ s.pkgOk c.src c.len (s.chTid d ch) true) ∨ (c.dstSp = 1 ∧ ¬ s.pkgOk c.dst c.len (s.chTid d ch) false)
    then some 6
  else none

/-! ## The recorder buffer as bytes -/

/-- A byte of a die's recorder buffer: the records of its block in order, then 0. -/
def State.recByte (s : State) (d o : Nat) : Byte :=
  ((((s.recDie d).blocks.find? (fun b => b.1 == o / 4096)).map (fun b => b.2.recs.flatMap Rec.bytes)).getD []).getD (o % 4096) 0

/-! ## The end of a descriptor (R661) -/

/-- The status record. -/
def statusRec (c : DmaRun) (code cwr : Nat) : List Byte :=
  let circ := c.desc.type == 1
  leBytes 1 code ++ leBytes 1 c.desc.type ++ leBytes 2 c.index ++ leBytes 4 c.done ++
    leBytes 4 (if circ then 0 else c.desc.len - c.done) ++ leBytes 4 (if circ then cwr else 0)

/-- The descriptor in progress ended with a code: its status goes to the host completion queue of the die. -/
def State.dmaEnd (s : State) (d ch code : Nat) (aborted : Bool) : State :=
  match (s.dmaCh d ch).run with
  | none => s
  | some c =>
    let st := statusRec c code (s.slotGet d ch F.DMA_PG_CWR_WR)
    let s := (s.modDma d ch (fun x => { x with run := none, bucketWait := false })).put d (F.DMA_CH_STATUS_TYPE ch) c.desc.type
    s.hcqPush d ⟨st, c.desc.status, (s.chPort d ch).getD d, .dma ch c.desc.irq aborted⟩

/-- A channel stopped by a reset (R621, R661): the descriptor in progress ends with code RESET. -/
def State.dmaReset (s : State) (d ch : Nat) : State :=
  if (s.dmaCh d ch).run.isSome then s.dmaEnd d ch 0xA false
  else if s.dmaEnabled d ch then s.dmaStopped d ch 0xA
  else s

/-- The code with which the descriptor in progress is to end. -/
def State.dmaSetCode (s : State) (d ch code : Nat) : State :=
  s.modDma d ch (fun c => { c with run := c.run.map (fun r => { r with code := some code }) })

/-- A host request that failed (code HOST). -/
def State.dmaHostErr (s : State) (d ch : Nat) : State :=
  ((s.putFlag ((s.chPort d ch).getD d) F.PCI_EVENT_HOST_ERR true)).dmaSetCode d ch 4

/-! ## Progress (R660) -/

/-- `n` more bytes or elements done; HALF at half of LEN, and code OK at the end. -/
def State.dmaProgress (s : State) (d ch n : Nat) : State :=
  match (s.dmaCh d ch).run with
  | none => s
  | some c =>
    let halfAt := (c.desc.len + 1) / 2
    let done := c.done + n
    let s := s.modDma d ch (fun x => { x with
      run := some { c with done := done, code := if c.desc.len ≤ done then some (c.code.getD 0) else c.code } })
    if c.desc.half ∧ c.done < halfAt ∧ halfAt ≤ done then s.dmaFlag d ch F.DMA_PG_STAT_HALF F.PCI_PG_EVENT_DMA_HALF else s

/-- Tokens for `n` elements: taken, or a wait counted once (R735). -/
def State.dmaTokens (s : State) (d ch n : Nat) : Bool × State :=
  let t := s.chTid d ch
  if n = 0 then (true, s)
  else if s.tokenReady d t then (true, (s.takeTokens d t n).modDma d ch (fun c => { c with bucketWait := false }))
  else if (s.dmaCh d ch).bucketWait then (false, s)
  else (false, (s.count d (F.TEN_D_STORE_WAITS t) 1).modDma d ch (fun c => { c with bucketWait := true }))

/-! ## LINEAR (R655, R657, R668) -/

/-- Whether a transfer must run from its end, so that an overlapping destination reads as if copied from a buffer. -/
def State.dmaDown (s : State) (c : DmaDesc) : Bool :=
  c.srcSp == 1 && c.dstSp == 1 && (match s.pkgAddr c.src, s.pkgAddr c.dst with
    | some a, some b => a.1 == b.1 && decide (a.2 < b.2) && decide (b.2 < a.2 + c.len)
    | _, _ => false)

/-- Whether a bank that `n` bytes of a die's Vat touch is fenced or off. -/
def State.banksDown (s : State) (d o n : Nat) : Bool := (linesOf o n).any (fun l => s.domDown d (24 + l % 16))

/-- The refusal of an access to banks that are fenced or off, at the first of them (R766). -/
def State.banksRefused (s : State) (d o n : Nat) : State :=
  match (linesOf o n).find? (fun l => s.domDown d (24 + l % 16)) with
  | some l => s.fenceRefused d (24 + l % 16)
  | none => s

/-- The bytes of a burst's source, or the code on which the burst fails. -/
def State.dmaRead (s : State) (d ch : Nat) (c : DmaDesc) (pos n : Nat) (host : Option (List Byte)) : Except Nat (List Byte) × State :=
  if c.srcSp = 0 then
    match host with
    | some bs => if n ≤ bs.length then (.ok (bs.take n), s) else (.error 4, s)
    | none => (.error 4, s)
  else match s.pkgAddr (c.src + pos) with
    | none => (.error 6, s)
    | some (t, o) =>
      if 0x1000000 ≤ o then (.ok ((List.range n).map (fun i => s.recByte t (o - 0x1000000 + i))), s)
      else if s.banksDown t o n then (.error 7, s.banksRefused t o n)
      else
        let ok := s.vatAllowed d (8 + ch) t o n false
        if !ok.1 then (.error 2, ok.2)
        else
          let r := ok.2.portRead t o n 4 (s.leadOf (8 + ch))
          if r.2.1 then (.error 3, r.2.2) else (.ok r.1, r.2.2)

/-- A burst's bytes written to its destination, or the code on which it fails; bytes to the host are the command's answer. -/
def State.dmaWrite (s : State) (d ch : Nat) (c : DmaDesc) (pos : Nat) (bs : List Byte) : Option Nat × State :=
  if c.dstSp = 0 then (none, s.answered (bs.map BitVec.toNat))
  else if c.dstSp = 2 then
    (none, s.modDma d ch (fun x => { x with run := x.run.map (fun r => { r with buf := r.buf ++ bs }) }))
  else match s.pkgAddr (c.dst + pos) with
    | none => (some 6, s)
    | some (t, o) =>
      if s.banksDown t o bs.length then (some 7, s.banksRefused t o bs.length)
      else
        let ok := s.vatAllowed d (8 + ch) t o bs.length true
        if !ok.1 then (some 2, ok.2)
        else
          let r := ok.2.vatWrite t o 4 bs (bs.length + 1)
          (if r.1 then some 3 else none, r.2)

/-- An egress frame built on the channel's die and handed to the switch core, or the code on which it fails (R657). -/
def State.dmaEgress (s : State) (d ch : Nat) (buf : List Byte) : Option Nat × State :=
  let t := s.chTid d ch
  let m := (List.range 64).foldl (fun (x : Frame) i => x.setMeta i (buf.getD i 0)) default
  let bs := buf.drop 64
  if !s.egressGrant t m.die m.port m.queue then (some 8, s)
  else match s.allocTx d (dmaUid d ch) t bs.length with
    | none => (some 9, s)
    | some (f, s) =>
      let x := s.frame f
      let s := s.setFrame f { x with
        port := m.port, stamp := m.stamp, queue := m.queue, die := m.die, tid := t, origin := dmaUid d ch }
      let w := s.padWords bs
      let s := (w.2.frameWrite d (w.2.frame f) 0 4 w.1 (bs.length + 1)).2
      (none, s.sendFrame d 26 f)

/-- Lines of a Vat that a burst of `n` bytes passes through the store bucket. -/
def burstLines (c : DmaDesc) (pos n : Nat) : Nat :=
  (if c.srcSp = 1 then (linesOf (c.src + pos) n).length else 0) +
    (if c.dstSp = 1 then (linesOf (c.dst + pos) n).length else if c.dstSp = 2 then (n + 63) / 64 else 0)

/-- One burst of up to 256 bytes. -/
def State.linearBurst (s : State) (d ch : Nat) (c : DmaRun) (host : Option (List Byte)) : State :=
  let n := min 256 (c.desc.len - c.done)
  let pos := if s.dmaDown c.desc then c.desc.len - c.done - n else c.done
  let k := s.dmaTokens d ch (burstLines c.desc pos n)
  if !k.1 then k.2
  else
    let r := k.2.dmaRead d ch c.desc pos n host
    match r.1 with
    | .error 4 => r.2.dmaHostErr d ch
    | .error code => r.2.dmaSetCode d ch code
    | .ok bs =>
      if c.desc.dstSp = 2 ∧ c.done = 0 ∧ leNat (bs.take 2) + 64 ≠ c.desc.len then r.2.dmaSetCode d ch 5
      else
        let w := r.2.dmaWrite d ch c.desc pos bs
        match w.1 with
        | some code => w.2.dmaSetCode d ch code
        | none =>
          if c.desc.dstSp = 2 ∧ c.desc.len ≤ c.done + n then
            let e := w.2.dmaEgress d ch (c.buf ++ bs)
            match e.1 with
            | some code => e.2.dmaSetCode d ch code
            | none => e.2.dmaProgress d ch n
          else w.2.dmaProgress d ch n

/-! ## GATHER and SCATTER (R656, R669) -/

def State.gatherBurst (s : State) (d ch : Nat) (host : Option (List Byte)) : State :=
  match host with
  | none => s.dmaHostErr d ch
  | some bs =>
    if bs.length < 4 then s.dmaHostErr d ch
    else
      let k := s.dmaTokens d ch 1
      if !k.1 then k.2
      else
        let r := k.2.gatherElem (s.chTid d ch) (leNat (bs.take 4)) 4
        (r.2.answered (r.1.map BitVec.toNat)).dmaProgress d ch 1

def State.scatterBurst (s : State) (d ch : Nat) (host : Option (List Byte)) : State :=
  match host with
  | none => s.dmaHostErr d ch
  | some bs =>
    if bs.length < 32 then s.dmaHostErr d ch
    else
      let k := s.dmaTokens d ch 1
      if !k.1 then k.2
      else
        let r := k.2.scatterElem d (s.chTid d ch) bs
        (r.2.answered [r.1]).dmaProgress d ch 1

/-! ## CIRCULAR (R658, R659) -/

/-- The fill of a ring. -/
def State.ringFill (s : State) (d ch len : Nat) : Nat :=
  (s.slotGet d ch F.DMA_PG_CWR_WR + len - s.slotGet d ch F.DMA_PG_CRD_RD % max len 1) % max len 1

/-- A frame's record in a ring: metadata, bytes, and zeros to a multiple of 64. -/
def ringRecord (x : Frame) (bs : List Byte) : List Byte :=
  let n := 64 + bs.length
  x.meta ++ bs ++ List.replicate ((64 - n % 64) % 64) 0

/-- One frame of the host receive queue written to the ring. -/
def State.circular (s : State) (d ch : Nat) (c : DmaRun) : State :=
  let o := 49 + c.desc.src % 64
  match s.outQueue d o with
  | [] => s
  | f :: rest =>
    let x := s.frame f
    let len := c.desc.len
    let size := (64 + x.len + 63) / 64 * 64
    let fill := s.ringFill d ch len
    if s.dmaState d ch ≠ 2 ∨ len - 64 < fill + size then s
    else
      let k := s.dmaTokens d ch ((x.len + 63) / 64)
      if !k.1 then k.2
      else
        let r := k.2.frameRead (frameDie f) x 0 x.len 4 80
        let s := r.2.2.setOutQueue d o rest
        if r.2.1 then (s.leaveOutput f d o).dropFrame (frameDie f) f 9
        else
          let cwr := s.slotGet d ch F.DMA_PG_CWR_WR
          let s := s.answered ((ringRecord x r.1).map BitVec.toNat)
          let s := (s.slotPut d ch F.DMA_PG_CWR_WR ((cwr + size) % max len 1)).modDma d ch (fun y => { y with
            run := some { c with done := c.done + 1 } })
          let s := (s.leaveOutput f d o).doneWith f
          let s := if c.desc.half ∧ fill < len / 2 ∧ len / 2 ≤ fill + size then
              s.dmaFlag d ch F.DMA_PG_STAT_HALF F.PCI_PG_EVENT_DMA_HALF else s
          if c.desc.high * len ≤ (fill + size) * 256 then
            let s := s.dmaTo d ch 3
            if c.desc.full then s.dmaFlag d ch F.DMA_PG_STAT_FULL F.PCI_PG_EVENT_DMA_FULL else s
          else s

end Sys2Proof.Machine
end

