-- ==== Sys2Proof/Machine/HostIface.lean ====
section
/-! DEFINITION. The commands of the host interface (chapter 14): ports, tenant pages, mailboxes, DMA channels and the host
completion queue. -/

namespace Sys2Proof.Machine

/-! ## Ports -/

/-- A link trained and in L0. -/
def execPcieLinkUp (p : Die) (gen width : Fin 8) (s : State) : Res :=
  onDie s p (if s.get p F.PCI_PORT_CFG_ROLE = 0 ∨ s.islandGated p 3 then s
    else
      let s := (s.putFlag p F.PCI_STATUS_LINK_UP true).put p F.PCI_STATUS_GEN gen
      (s.put p F.PCI_STATUS_WIDTH width).putFlag p F.PCI_EVENT_LINK_UP true)

/-- The page registers of scope Per port of a port: those below the mailbox slots. -/
def State.clearPages (s : State) (p : Nat) : State :=
  { s with pages := tblDrop (fun k => k / 4096 / 4096 == p && decide (k % 4096 < 0x100)) s.pages }

/-- The channels that use a HOST port. -/
def State.portChannels (s : State) (p : Nat) : List (Nat × Nat) :=
  s.dieList.flatMap (fun d => ((List.range 32).filter (fun ch => s.chPort d ch == some p)).map (fun ch => (d, ch)))

/-- A port's contexts freed. -/
def State.freeContexts (s : State) (p : Nat) : State :=
  ((s.host.ctx.filter (fun e => e.1 / 4096 == p)).map (·.1 % 4096)).foldl (fun a t => a.freeCtx p t) s

/-- What a reset of a port does (R621). -/
def State.portReset (s : State) (p : Nat) (down : Bool) : State :=
  let s := (s.portChannels p).foldl (fun a e => a.dmaReset e.1 e.2) s
  let s := (s.freeContexts p).clearPages p
  let s := { s with
    host := { s.host with
      msix := tblDrop (fun k => k / 8192 == p) s.host.msix, msixPend := s.host.msixPend.filter (fun k => k / 2048 != p) },
    regs := tblDrop (fun k => k / 0x800000 == p && decide (0x188000 ≤ k % 0x800000) && decide (k % 0x800000 < 0x18C000)) s.regs }
  let s := s.putFlag p F.PCI_EVENT_PORT_RESET true
  if down then (s.putFlag p F.PCI_STATUS_LINK_UP false).putFlag p F.PCI_EVENT_LINK_DOWN true else s

/-- FLR, hot reset, link down or PERST_N. -/
def execPortReset (p : Die) (kind : Fin 4) (s : State) : Res :=
  onDie s p (if s.isHost p then s.portReset p (kind.val == 2)
    else if kind = 2 then (s.putFlag p F.PCI_STATUS_LINK_UP false).putFlag p F.PCI_EVENT_LINK_DOWN true
    else s)

/-- An access of BAR4 that passed the port's own checks, at a die and an offset within the window (R626). -/
def State.bar4 (s : State) (p d o off len : Nat) (write : Option (List Byte)) : State :=
  let w := write.isSome
  if s.dieCount ≤ d ∨ 0x1400000 < o + len ∨ (o < 0x1000000 ∧ 0x1000000 < o + len) ∨ (0x1000000 ≤ o ∧ w) then
    (s.pciErr p off 2 len 4 w).abortReq p
  else if 0x1000000 ≤ o then s.answered ((List.range len).map (fun i => (s.recByte d (o - 0x1000000 + i)).toNat))
  else if s.banksDown d o len then ((s.banksRefused d o len).pciErr p off 2 len 5 w).abortReq p
  else match s.firstRefused p 40 d o len w with
    | some (l, prot) => ((s.vatViolation p 40 d l w prot).pciErr p off 2 len (if prot then 3 else 2) w).abortReq p
    | none =>
      match write with
      | some bs =>
        let r := s.vatWrite d o 5 bs (len + 1)
        if r.1 then r.2.abortReq p else r.2.answered []
      | none =>
        let r := s.portRead d o len 5 (s.leadOf 40)
        { r.2.2 with resp := ⟨r.1.map BitVec.toNat, !r.2.1⟩ }

/-- A request on BAR4. -/
def execBar4Access (p : Die) (off len : Nat) (write : Option (List Byte)) (s : State) : Res :=
  let len := (write.map List.length).getD len
  onDie s p (if !s.isHost p || s.flag p F.PCI_STATUS_BOOT then s.refusedReq
    else if !s.flag p F.PCI_PORT_CFG_OWNER then s.ownerDenied p off 2 len write.isSome
    else s.bar4 p (off / 0x2000000) (off % 0x2000000) off len write)

/-! ## Page commands -/

def execPageGather (p : Die) (t : Fin 4096) (n : Fin 128) (pasid : Option Nat) (s : State) : Res :=
  onDie s p (s.onPage p t 0x00C true pasid (s.pageStart p t 1 n))

def execPageScatter (p : Die) (t : Fin 4096) (n : Fin 128) (pasid : Option Nat) (s : State) : Res :=
  onDie s p (s.onPage p t 0x00C true pasid (s.pageStart p t 2 n))

/-- OP RELEASE (R635, R638): the command ends with RESULT OK, or NOCTX on a page without a context. -/
def State.pageRelease (s : State) (p t : Nat) : State :=
  if s.pflag p t F.PCI_PG_CMD_STAT_BUSY then s.pageAccess p t 0x00C
  else if s.hasCtx p t then (s.freeCtx p t).pageDone p t 1
  else s.pageDone p t 2

def execPageRelease (p : Die) (t : Fin 4096) (pasid : Option Nat) (s : State) : Res :=
  onDie s p (s.onPage p t 0x00C true pasid (s.pageRelease p t))

/-- A word written to the index list or the record window. -/
def execContextAllocate (p : Die) (t : Fin 4096) (off : Nat) (v : BitVec 32) (pasid : Option Nat) (s : State) : Res :=
  let off := off % 4096
  onDie s p (s.onPage p t off true pasid
    (if !inWindow off then s
      else if off % 4 ≠ 0 then s.alignErr p (t * 4096 + off) 1 4 true
      else s.winWrite p t off v.toNat))

def execContextIdleExpire (p : Die) (t : Fin 4096) (s : State) : Res :=
  onDie s p (if s.hasCtx p t ∧ ¬ s.pflag p t F.PCI_PG_CMD_STAT_BUSY then s.freeCtx p t else s)

/-- A bucket that holds an element again (R735). -/
def execStoreBucketWaitEnd (d : Die) (w : BucketWaiter) (s : State) : Res :=
  onDie s d (match w with
    | .page t =>
      if s.pflag d t F.PCI_PG_CMD_STAT_BUSY ∧ (s.pageCmd d t).count ≠ 0 ∧ s.tokenReady d t then
        s.pageRun d t ((s.pageCmd d t).count + 1)
      else s
    | .dma ch => if s.tokenReady d (s.chTid d ch) then s.modDma d ch (fun c => { c with bucketWait := false }) else s)

/-! ## Notice window (R642) -/

/-- Whether the notice window of a page shows the channel it selects. -/
def State.nchAllowed (s : State) (p t : Nat) : Bool :=
  let d := s.pget p t F.PCI_PG_NCH_SEL_DIE
  let n := s.pget p t F.PCI_PG_NCH_SEL_CH
  decide (d < s.dieCount) && (t == 0 || s.get d (F.DPT_NCH_CFG_TID n) == t)

def execNoticeWindowRd (p : Die) (t : Fin 4096) (rd : Fin 512) (pasid : Option Nat) (s : State) : Res :=
  onDie s p (s.onPage p t 0x024 true pasid
    (if s.nchAllowed p t then s.noticeAdvance (s.pget p t F.PCI_PG_NCH_SEL_DIE) (s.pget p t F.PCI_PG_NCH_SEL_CH) rd
      else s.pageAccess p t 0x024))

/-! ## Mailboxes -/

def execMbxPgTx (p : Die) (t : Fin 4096) (i : Unit16) (w : BitVec 16) (pasid : Option Nat) (s : State) : Res :=
  onDie s p (s.onPage p t (0x200 + 16 * i) true pasid
    (match s.mbxBound t i with
      | none => s.pageAccess p t (0x200 + 16 * i)
      | some (d, e) =>
        let r := s.mbxPush d e w
        if r.1 then r.2 else r.2.mbxOverrun p t i d e))

def execMbxPgRx (p : Die) (t : Fin 4096) (i : Unit16) (pasid : Option Nat) (s : State) : Res :=
  onDie s p (s.onPage p t (0x204 + 16 * i) false pasid
    (match s.mbxBound t i with
      | none => s.unboundAccess p t (0x204 + 16 * i) false
      | some (d, e) => match s.mbxTake d e with
        | none => s.answered [0]
        | some (w, s) => s.answered [w.toNat + 0x10000]))

/-- A doorbell follows the words written before it, which are in the queue already (R648). -/
def execMbxPgBell (p : Die) (t : Fin 4096) (i : Unit16) (pasid : Option Nat) (s : State) : Res :=
  onDie s p (s.onPage p t (0x20C + 16 * i) true pasid
    (match s.mbxBound t i with
      | none => s.pageAccess p t (0x20C + 16 * i)
      | some (d, e) => s.ringBell d e))

/-! ## DMA -/

/-- A write of DMA_PG_PI. -/
def execDmaPiWrite (p : Die) (t : Fin 4096) (j : Unit8) (pi : Fin 4096) (pasid : Option Nat) (s : State) : Res :=
  onDie s p (s.onPage p t (0x30C + 32 * j) true pasid
    (if (s.dmaBound t j).isSome then s.pput 0 t (F.DMA_PG_PI_PI j) pi else s.pageAccess p t (0x30C + 32 * j)))

/-- A write of DMA_PG_CTRL but for its ABORT bit: RING_LOG2 changes only while ENABLE is 0 (R651), and ENABLE starts or
restarts the channel (R662). -/
def State.dmaCtrl (s : State) (p t j d ch v : Nat) : State :=
  let on := s.pflag 0 t (F.DMA_PG_CTRL_ENABLE j)
  let s := if on then (if v % 16 = s.pget 0 t (F.DMA_PG_CTRL_RING_LOG2 j) then s else s.pageAccess p t (0x308 + 32 * j))
    else s.pput 0 t (F.DMA_PG_CTRL_RING_LOG2 j) (v % 16)
  let en := v.testBit 8
  let s := s.pputFlag 0 t (F.DMA_PG_CTRL_ENABLE j) en
  if en ∧ ¬ on then s.dmaTo d ch 1
  else if !en ∧ on ∧ (s.dmaCh d ch).run = none ∧ ¬ s.dmaWaiting d ch then s.dmaTo d ch 0
  else s

def execDmaEnable (p : Die) (t : Fin 4096) (j : Unit8) (v : BitVec 32) (pasid : Option Nat) (s : State) : Res :=
  onDie s p (s.onPage p t (0x308 + 32 * j) true pasid
    (match s.dmaBound t j with
      | none => s.pageAccess p t (0x308 + 32 * j)
      | some (d, ch) => s.dmaCtrl p t j d ch v.toNat))

/-- A descriptor read and started; `bytes` are its 32 bytes, none when the host request failed. -/
def execDmaDescriptorStart (d : Die) (ch : Fin 32) (bytes : Option (List Byte)) (s : State) : Res :=
  onDie s d (
    let ci := s.slotGet d ch F.DMA_PG_CI_CI
    let size := s.ringSize d ch
    if s.flag d (F.DMA_CH_CFG_BOUND ch) ∧ s.dmaEnabled d ch ∧ s.dmaState d ch = 1 ∧ (s.chPort d ch).isSome ∧
        ci ≠ s.slotGet d ch F.DMA_PG_PI_PI % size ∧ (s.dmaCh d ch).inHcq < 4 ∧ ¬ s.dmaWaiting d ch then
      let bs := bytes.getD []
      let c := DmaDesc.parse bs
      let s := s.dmaTo d ch 2
      let run := fun (code : Option Nat) (c : DmaDesc) => s.modDma d ch (fun x => { x with run := some ⟨c, ci, 0, [], code⟩ })
      if bytes.isNone ∨ bs.length < 32 then (run none default).dmaHostErr d ch
      else
        let s2 := (run (s.descCode d ch c bs) c).put d (F.DMA_CH_STATUS_TYPE ch) c.type
        if c.type = 1 then s2.slotPut d ch F.DMA_PG_CWR_WR 0 else s2
    else s)

/-- One burst of the descriptor in progress; `host` holds the bytes that a host read of the burst returned, none when it failed.
A read by index or element of a command that needs none ignores it. -/
def execDmaBurst (d : Die) (ch : Fin 32) (host : Option (List Byte)) (s : State) : Res :=
  onDie s d (match (s.dmaCh d ch).run with
    | none => s
    | some c =>
      if c.code.isSome then s
      else match c.desc.type with
        | 0 => s.linearBurst d ch c host
        | 1 => s
        | 2 => s.gatherBurst d ch host
        | _ => s.scatterBurst d ch host)

/-- A descriptor that is done or failed ends. -/
def execDmaDescriptorEnd (d : Die) (ch : Fin 32) (s : State) : Res :=
  onDie s d (match (s.dmaCh d ch).run.bind (·.code) with
    | some code => s.dmaEnd d ch code false
    | none => s)

/-- A write of ABORT between bursts (R666, R667): a burst that completed the descriptor lets it end OK, and the channel stops. -/
def State.dmaAbort (s : State) (d ch : Nat) : State :=
  match (s.dmaCh d ch).run with
  | some c =>
    let s := (s.slotPut d ch F.DMA_PG_CTRL_ABORT 1).putFlag d (F.DMA_CH_CTRL_ABORT ch) true
    s.dmaEnd d ch (c.code.getD 1) true
  | none => s

def execDmaAbort (d : Die) (ch : Fin 32) (s : State) : Res := onDie s d (s.dmaAbort d ch)

/-- A write of DMA_CH_CTRL.RESET. -/
def State.dmaChReset (s : State) (d ch : Nat) : State :=
  let s := s.dmaReset d ch
  let s := (s.slotPut d ch F.DMA_PG_BASE_BASE 0).slotPut d ch F.DMA_PG_CTRL_RING_LOG2 4
  let s := ((s.slotPut d ch F.DMA_PG_PI_PI 0).slotPut d ch F.DMA_PG_CI_CI 0).put d (F.DMA_CH_STATUS_CI ch) 0
  (s.slotPut d ch F.DMA_PG_CTRL_ENABLE 0).putFlag d (F.DMA_CH_CFG_PORT_VALID ch) false

def execDmaChReset (d : Die) (ch : Fin 32) (s : State) : Res := onDie s d (s.dmaChReset d ch)

def execCircularRecord (d : Die) (ch : Fin 32) (s : State) : Res :=
  onDie s d (match (s.dmaCh d ch).run with
    | some c => if c.desc.type = 1 ∧ c.code = none then s.circular d ch c else s
    | none => s)

/-- A write of DMA_PG_CRD: a paused channel goes on once the fill is low enough (R659). -/
def State.crdWrite (s : State) (t j d ch rd : Nat) : State :=
  let s := s.pput 0 t (F.DMA_PG_CRD_RD j) (rd % 2 ^ 24)
  match (s.dmaCh d ch).run with
  | some c =>
    if s.dmaState d ch = 3 ∧ s.ringFill d ch c.desc.len * 256 ≤ c.desc.low * c.desc.len then s.dmaTo d ch 2 else s
  | none => s

def execCircularCrdWrite (p : Die) (t : Fin 4096) (j : Unit8) (rd : Nat) (pasid : Option Nat) (s : State) : Res :=
  onDie s p (s.onPage p t (0x318 + 32 * j) true pasid
    (match s.dmaBound t j with
      | none => s.pageAccess p t (0x318 + 32 * j)
      | some (d, ch) => s.crdWrite t j d ch rd))

/-! ## The host completion queue -/

/-- The HOST port drains the oldest slot: its status record goes to its host address (the answer), its interrupt after it. -/
def execHcqDrain (d : Die) (s : State) : Res :=
  onDie s d (
    let q := s.hcqOf d
    match q.entries with
    | [] => s
    | e :: rest =>
      let s := (s.setHcq d { q with entries := rest, head := (q.head + 1) % 1024 }).put d F.DMA_HCQ_USED rest.length
      let s := match e.src with
        | .dma ch _ _ => s.modDma d ch (fun c => { c with inHcq := c.inHcq - 1 })
        | .page _ => s
      (s.msixScan).answered (e.addr :: e.status.map BitVec.toNat))

/-- A writer that waits on a full queue writes its entry once a slot frees (R534). -/
def execHcqWaitEnd (d : Die) (s : State) : Res :=
  onDie s d (
    let q := s.hcqOf d
    match q.waiting with
    | [] => s
    | e :: rest =>
      if 1024 ≤ q.entries.length then s
      else ((s.setHcq d { q with waiting := rest }).putFlag d F.SWC_STATUS_HCQ_STALL (!rest.isEmpty)).hcqEnter d e)

end Sys2Proof.Machine
end

