-- ==== Sys2Proof/Machine/Tenants.lean ====
section
/-! DEFINITION. The TEN_CTRL commands (chapter 16): BIND, UNBIND, RAISE_SEC and ATTEST. -/

namespace Sys2Proof.Machine

/-- The end of a command with a CODE. -/
def State.tenEnd (s : State) (code : Nat) : State := (s.put 0 F.TEN_RESULT_CODE code).putFlag 0 F.TEN_EVENT_CMD_DONE true

/-- A command, refused while another is in progress (R732). -/
def State.tenCmd (s : State) (k : State) : State := if s.flag 0 F.TEN_STATUS_BUSY then s.tenEnd 7 else k

/-- The bytes written to TEN_TOKEN. -/
def State.token (s : State) (words : Nat) : List Byte :=
  (List.range words).flatMap (fun i => leBytes 4 (s.get 0 (F.TEN_TOKEN_WORD i)))

/-- A tenant's bound PASID brought into its channels (R650, R727). -/
def State.syncPasid (s : State) (t : Nat) : State :=
  s.cfg.tenants.dmas.foldl (fun a m =>
    if m.2.1 = t ∧ m.2.2.2.2 then a.put m.1 (F.DMA_CH_PASID_PASID m.2.2.1) (a.get 0 (F.TEN_T_PASID_PASID t)) else a) s

/-- The static PASID of a tenant bound, when it has one. -/
def State.staticPasid (s : State) (t : Nat) : State :=
  let e := (s.tenantEntry t).getD default
  let s := (s.put 0 (F.TEN_T_PASID_PASID t) (if e.pasidValid then e.pasid else 0)).putFlag 0 (F.TEN_T_PASID_VALID t) e.pasidValid
  (s.putFlag 0 (F.TEN_T_PASID_FROM_TOKEN t) false).syncPasid t

/-- PORTS_TOKEN changed: on a port that loses the page, contexts are freed and channels stop (R730). -/
def State.setPortsToken (s : State) (t mask : Nat) : State :=
  let before := s.hostPorts.filter (fun p => s.pageEnabled p t)
  let s := s.put 0 (F.TEN_T_CFG_PORTS_TOKEN t) mask
  (before.filter (fun p => !s.pageEnabled p t)).foldl (fun a p =>
    let a := if a.hasCtx p t then a.freeCtx p t else a
    (a.cfg.tenants.dmas.filter (fun m => m.2.1 == t && a.chPort m.1 m.2.2.1 == some p)).foldl
      (fun b m => b.dmaReset m.1 m.2.2.1) a) s

/-- The first failing check of R729 on a token. -/
def State.bindCode (s : State) (k : List Byte) : Option Nat :=
  let n := fun (i m : Nat) => leNat ((k.drop i).take m)
  let t := n 6 2
  if n 0 4 ≠ 0x4E4B4942 ∨ n 4 2 ≠ 1 ∨ 4096 ≤ t ∨ 1 < n 9 1 ∨ n 10 2 ≠ 0 ∨ 2 ^ 20 ≤ n 12 4 ∨ n 28 36 ≠ 0 then some 2
  else if n 16 8 ≠ (s.rd 0 R.ARC_SERIAL).toNat then some 3
  else if t = 0 ∨ ¬ s.tenantExists t then some 4
  else if n 24 4 < s.get 0 (F.TEN_T_GEN_FLOOR t) then some 5
  else if !Config.edVerify ((s.har.current.map (·.key.signerPub)).getD []) (k.take 64) (k.drop 64) then some 6
  else none

/-- BIND (R729, R730). -/
def State.bindToken (s : State) : State :=
  let k := s.token 32
  let n := fun (i m : Nat) => leNat ((k.drop i).take m)
  let t := n 6 2 % 4096
  let s := s.put 0 F.TEN_RESULT_TID t
  match s.bindCode k with
  | some c => s.tenEnd c
  | none =>
    let s := s.setPortsToken t (n 8 1 &&& s.hostPorts.foldl (fun a p => a ||| 2 ^ p) 0)
    let s := if n 9 1 = 1 then
        (((s.put 0 (F.TEN_T_PASID_PASID t) (n 12 4)).putFlag 0 (F.TEN_T_PASID_VALID t) true).putFlag 0
          (F.TEN_T_PASID_FROM_TOKEN t) true).syncPasid t
      else s.staticPasid t
    (s.put 0 (F.TEN_T_GEN_FLOOR t) (n 24 4)).tenEnd 1

def execBind (s : State) : Res := onPkg s (s.tenCmd s.bindToken)

/-- UNBIND (R731). -/
def State.unbindTenant (s : State) : State :=
  let t := s.get 0 F.TEN_SEL_TID
  (((s.put 0 F.TEN_RESULT_TID t).setPortsToken t 0).staticPasid t).tenEnd 1

def execUnbind (s : State) : Res := onPkg s (s.tenCmd s.unbindTenant)

/-- RAISE_SEC (R749). -/
def State.raiseSec (s : State) : State :=
  let v := min 63 ((s.har.current.map (·.hdr.secVer)).getD 0)
  if s.get 0 F.HAR_STATUS_STATE ≠ 2 then s.tenEnd 7
  else if v ≤ s.get 0 F.TEN_STATUS_SEC_MIN then s.tenEnd 8
  else ((s.put 0 F.TEN_STATUS_SEC_MIN v).putFlag 0 F.TEN_EVENT_SEC_RAISED true).tenEnd 1

def execRaiseSec (s : State) : Res := onPkg s (s.tenCmd s.raiseSec)

/-- Bytes 0 to 63 of the attestation report (R750). -/
def State.attestHead (s : State) : List Byte :=
  let h := (s.har.current.map (·.hdr)).getD default
  leBytes 4 0x5454414B ++ leBytes 4 h.imageId ++ leBytes 8 (s.rd 0 R.ARC_SERIAL).toNat ++ leBytes 4 h.secVer ++
    leBytes 4 (s.get 0 F.TEN_STATUS_SEC_MIN) ++ leBytes 4 (s.rd 0 R.HAR_EPOCH).toNat ++ leBytes 4 0 ++ s.token 4 ++
    (Config.sha384 ((s.har.current.map (·.sig)).getD [])).take 16

/-- ATTEST. -/
def State.attestReport (s : State) : State :=
  let bs := s.attestHead ++ Config.devSign s.attestHead
  ((List.range 32).foldl (fun a i => a.put 0 (F.TEN_ATTEST_WORD i) (leNat ((bs.drop (4 * i)).take 4))) s).tenEnd 1

def execAttest (s : State) : Res := onPkg s (s.tenCmd s.attestReport)

end Sys2Proof.Machine
end

