-- ==== Sys2Proof/Machine/Tte.lean ====
section
/-! DEFINITION. The commands of the time-triggered group and Bridle (chapter 10). -/

namespace Sys2Proof.Machine

/-! ## Sending (R490 to R494) -/

/-- A transmit frame reaches the group. -/
def execTtSend (d : Die) (s : State) : Res :=
  onDie s d (match s.outQueue d 16 with
    | [] => s
    | f :: rest => (s.setOutQueue d 16 rest).ttAccept d f)

/-- 2 µs before a window opens its buffer is latched. -/
def execTtBufferLatch (d : Die) (w : Fin 32) (s : State) : Res :=
  onDie s d (if (s.ttAssigns d).any (fun a => a.window == w.val && ownCellOf a) then s.latchBuf d w else s)

/-- What the node sends in an own cell on one channel: a frame, a null frame, or nothing on a busy line. Answers whether a
frame or null frame went out. -/
def State.cellOn (s : State) (d : Nat) (a : TtAssign) (full : Bool) (ch : Nat) (busy : Bool) : Bool × State :=
  if !(ownOn a ch && s.chOn d ch) then (false, s)
  else if s.ttMode d = 1 ∧ busy then
    (false, (s.count d F.TTE_TX_MISS_COUNT 1).putFlag d F.TTE_EVENT_TX_MISS true)
  else (true, (s.count d (if full then F.TTE_TX_FRAMES_COUNT else F.TTE_TX_NULL_COUNT) 1).ttSends d ch a.words)

/-- A cell of a window at START_NS (R492, R493); the lines stay idle during a relock of the time PLL (R582). -/
def State.cellStart (s : State) (d w : Nat) (busyA busyB : Bool) : State :=
  match s.ttCell d w (s.ttCount' d) with
  | none => s
  | some a =>
    if s.flag 0 F.TIM_STATUS_RELOCK || !(ownCellOf a && (s.ttState d == 5 || (s.ttState d == 3 && a.startup))) then s
    else
      let s := if (s.ttg d).latched.any (fun e => e.1 == w) then s else s.latchBuf d w
      let c := ((s.ttg d).latched.find? (fun e => e.1 == w)).bind (·.2)
      let r := match c with
        | some f => s.ttRead d f
        | none => (false, s)
      let p := r.2.cellOn d a r.1 0 busyA
      let q := p.2.cellOn d a r.1 1 busyB
      let s := if a.event && r.1 && (p.1 || q.1) && ((q.2.ttg d).buf.find? (fun e => e.1 == w)).map (·.2) == c then
          q.2.emptyBuf d w
        else q.2
      s.unlatch d w

def execTtCellStart (d : Die) (w : Fin 32) (busyA busyB : Bool) (s : State) : Res :=
  onDie s d (s.cellStart d w busyA busyB)

/-- The live channels that an arbitrating window names. -/
def State.arbChannels (s : State) (d : Nat) (w : TtWindow) : List Nat := [0, 1].filter (fun c => w.ch.testBit c && s.chOn d c)

/-- A queued frame started on a channel of an arbitrating window; it leaves once every named live channel has carried it. -/
def State.arbStart (s : State) (d f ch : Nat) (w : TtWindow) : State :=
  let r := s.ttRead d f
  if !r.1 then r.2
  else
    let s := (r.2.count d F.TTE_TX_FRAMES_COUNT 1).ttSends d ch ((r.2.frame f).len / 2)
    let s := s.modTt d (fun g => { g with arbSent := g.arbSent ++ [(f, ch)] })
    if (s.arbChannels d w).all (fun c => (s.ttg d).arbSent.contains (f, c)) then
      ((s.modTt d (fun g => { g with
        arbq := g.arbq.filter (· != f), arbSent := g.arbSent.filter (fun e => e.1 != f) })).ttRelease d f).syncTtBuf d
    else s

/-- A step of an idle channel's counter in an open arbitrating window (R494). -/
def State.arbAdvance (s : State) (d ch : Nat) : State :=
  match s.ttOpen d with
  | none => s
  | some (n, w) =>
    if s.flag 0 F.TIM_STATUS_RELOCK = true ∨ w.type ≠ 2 ∨ ¬ w.ch.testBit ch ∨ s.ttState d ≠ 5 ∨ ¬ s.chOn d ch ∨ s.nodeSends d ch then s
    else
      let g := s.ttg d
      let k := match g.arbStep.find? (fun e => e.1 == ch) with
        | some (_, m, i, c) => if m = n ∧ i = w.index then c + 1 else 0
        | none => 0
      let s := s.modTt d (fun g => { g with
        arbStep := g.arbStep.filter (fun e => e.1 != ch) ++ [(ch, n, w.index, k)] })
      let blk := s.ttCfg d
      let fits := fun (f : Nat) => decide (s.ttClock d + wireNs blk ((s.frame f).len / 2) < closeAt blk w n - blk.tol)
      if w.arbIds ≤ k then s
      else match g.arbq.find? (fun f => (s.frame f).queue == 0x40 + k && !g.arbSent.contains (f, ch) && fits f) with
        | some f => s.arbStart d f ch w
        | none => s

def execTtArbStep (d : Die) (ch : Fin 2) (w : Fin 32) (s : State) : Res :=
  onDie s d (if ((s.ttOpen d).map (·.2.index)) = some w.val then s.arbAdvance d ch else s)

/-! ## Receiving (R495 to R497, R502) -/

/-- The exclusive cell that a frame claims: the cell of its window when synchronised, otherwise the cell of its frame ID. -/
def State.rxCell (s : State) (d : Nat) (open? : Option (Int × TtWindow)) (rx : TtRx) : Option TtAssign :=
  if s.ttSynced d then
    match open? with
    | some (n, w) => if w.type = 1 then s.ttCell d w.index (ttCountOf (s.ttCfg d) n) else none
    | none => none
  else (s.ttAssigns d).find? (fun a => a.frameId == rx.frameId && rx.cycle % max a.rep 1 == a.baseCycle)

/-- Checks 5 and 6 of R495, for a synchronised group: the frame lies in an open window, and its cycle count and ID are those of
the cell. -/
def State.rxInWindow (s : State) (d : Nat) (open? : Option (Int × TtWindow)) (rx : TtRx) : Bool :=
  match open? with
  | none => false
  | some (n, w) =>
    let g := s.ttCfg d
    decide (s.ttClock d ≤ closeAt g w n) && rx.cycle == ttCountOf g n &&
      (if w.type = 1 then (match s.ttCell d w.index rx.cycle with
          | some a => a.frameId == rx.frameId
          | none => false)
        else decide (w.arbBase ≤ rx.frameId) && decide (rx.frameId < w.arbBase + w.arbIds))

/-- The receive checks of R495 in their order; every one of them has the same effect. -/
def State.rxGood (s : State) (d : Nat) (open? : Option (Int × TtWindow)) (rx : TtRx) : Bool :=
  rx.codeOk && rx.hcrcOk && rx.fcrcOk && 2 * rx.words == rx.payload.length &&
    (!s.ttSynced d || s.rxInWindow d open? rx) &&
    (match s.rxCell d open? rx with
      | some a => a.words == rx.words
      | none => true)

/-- A sync frame's deviation from its expected arrival (R487), once per frame ID and basic cycle. -/
def State.ttMeasure (s : State) (d : Nat) (stamp : Int) (rx : TtRx) : State :=
  match (s.ttAssigns d).find? (fun a => a.frameId == rx.frameId) with
  | none => s
  | some a =>
    match s.ttWindow d a.window with
    | none => s
    | some w =>
      let g := s.ttCfg d
      let c : Int := ((max g.cycle 1 : Nat) : Int)
      let late := s.ttClockAt d stamp - g.base - w.start
      let dev := late - (late + c / 2) / c * c
      if (s.ttg d).devs.any (fun e => e.1 == rx.frameId) then s
      else s.modTt d (fun x => { x with devs := x.devs ++ [(rx.frameId, dev)], syncSeen := x.syncSeen + 1 })

/-- A frame's metadata and content (R496). -/
def ttMeta (d ch window count : Nat) (arb : Bool) (stamp endT len : Nat) : Frame :=
  { (default : Frame) with
    len := len, port := 0x20 + ch, kind := 0, stamp := stamp, cls := window + 32 * count + 2048 * bit arb + 0xC000,
    hoff := List.replicate 8 0xFFFF, die := d, endInstant := endT, written := len }

/-- A good frame delivered to the switch core as the first valid copy of its key (R496). -/
def State.ttDeliver (s : State) (d ch : Nat) (stamp : Int) (n : Int) (w : TtWindow) (rx : TtRx) : State :=
  let wanted := if w.type = 1 then (match s.ttCell d w.index rx.cycle with | some a => a.rx | none => false) else w.rx
  let key := (n, w.index, rx.frameId)
  if !wanted then s
  else if (s.ttg d).keys.contains key then s.count d F.TTE_RX_DUP_COUNT 1
  else
    let bs := rx.header.take 5 ++ rx.payload
    (s.modTt d (fun g => { g with keys := g.keys.filter (fun e => decide (n ≤ e.1 + 1)) ++ [key] })).bindRx d (16 + ch) (ttUid d)
      (s.cfgOf (ttUid d)) (ttMeta d ch w.index rx.cycle (w.type == 2) stamp.toNat (s.now d) bs.length) bs false true (rawKey bs)

/-- Whether the group's receiver takes frames from a branch: branch 0 of a node, and the branch relayed of a star. -/
def State.ttHears (s : State) (d ch b : Nat) : Bool :=
  decide (2 ≤ s.ttState d) && decide (s.ttState d ≤ 6) && s.chOn d ch &&
    ((s.ttMode d == 1 && b == 0) || (s.ttMode d == 2 && (s.ttg d).relay.contains (ch, b)))

/-- A frame ends on a branch. One that a relock of the time PLL abandons counts as a receive error (R582). -/
def State.ttReceive (s : State) (d ch b : Nat) (rx : TtRx) : State :=
  if !s.ttHears d ch b || s.bankHeld d 4 then s
  else if s.flag 0 F.TIM_STATUS_RELOCK then (s.count d (F.TTE_RX_ERR_COUNT ch) 1).putFlag d F.TTE_EVENT_RX_ERR true
  else
    let stamp : Int := ((rx.edgePs : Int) - s.calEff d 4 (4 * ch + b)) / 1000
    let open? := s.ttOpenAt d (s.ttClockAt d stamp)
    if !s.rxGood d open? rx then (s.count d (F.TTE_RX_ERR_COUNT ch) 1).putFlag d F.TTE_EVENT_RX_ERR true
    else
      let s := if rx.sync then s.ttMeasure d stamp rx else s
      if rx.null then s.count d (F.TTE_RX_NULL_COUNT ch) 1
      else
        let s := s.count d (F.TTE_RX_FRAMES_COUNT ch) 1
        match s.ttSynced d, open? with
        | true, some (n, w) => s.ttDeliver d ch stamp n w rx
        | _, _ => s

def execTtFrameReceive (d : Die) (ch : Fin 2) (b : Fin 4) (rx : TtRx) (s : State) : Res := onDie s d (s.ttReceive d ch b rx)

/-! ## Clock correction (R487) -/

/-- The offset correction at the end of a basic cycle. -/
def State.ttOffset (s : State) (d : Nat) : State :=
  match ftMidpoint ((s.ttg d).devs.map (·.2)) with
  | none => s
  | some m =>
    let g := s.ttCfg d
    let s := s.put d F.TTE_SYNC_OFFSET_NS ((clampInt (-32768) 32767 (-m)) % 65536).toNat
    if m.natAbs > g.maxOffset then s.modTt d (fun x => { x with offLimit := true })
    else if g.lead then s
    else s.modTt d (fun x => { x with ofs := x.ofs - m })

/-- The rate correction at the end of a double cycle, from the change of each frame's deviation over one basic cycle. -/
def State.ttRate (s : State) (d : Nat) : State :=
  let x := s.ttg d
  let g := s.ttCfg d
  let diffs := x.devs.filterMap (fun e => (x.prevDevs.find? (fun p => p.1 == e.1)).map (fun p => e.2 - p.2))
  match ftMidpoint diffs with
  | none => s
  | some m =>
    let total := (if g.lead then 0 else x.ratePpb) - (m * 1000000000).tdiv ((max g.cycle 1 : Nat) : Int)
    let s := s.put d F.TTE_RATE_RATE_PPB ((clampInt (-2147483648) 2147483647 total) % 4294967296).toNat
    if total.natAbs > g.maxRate then s.modTt d (fun x => { x with offLimit := true })
    else if g.lead then s
    else s.modTt d (fun x => { x with ratePpb := total })

/-- The end of a basic cycle; every second one ends a double cycle, which is good or bad. -/
def State.ttCorrect (s : State) (d : Nat) : State :=
  let s := s.ttRebase d
  if (s.ttg d).half then
    let s := (s.ttRate d).ttOffset d
    let x := s.ttg d
    let bad := decide (x.syncSeen < (s.ttCfg d).minSync) || x.offLimit
    (s.put d F.TTE_SYNC_SYNC_SEEN (min x.syncSeen 255)).modTt d (fun x => { x with
      prevDevs := [], devs := [], syncSeen := 0, half := false, offLimit := false,
      goodRun := if bad then 0 else x.goodRun + 1, badRun := if bad then x.badRun + 1 else 0 })
  else (s.ttOffset d).modTt d (fun x => { x with
    prevDevs := x.devs, devs := [], half := true })

def execTtClockCorrection (d : Die) (s : State) : Res :=
  onDie s d (if 3 ≤ s.ttState d ∧ s.ttState d ≤ 6 then s.ttCorrect d else s)

/-! ## States (R489) -/

/-- The transition that an event causes in the present state. -/
def State.ttEvent (s : State) (d : Nat) (ev : TtEvent) : State :=
  let g := s.ttCfg d
  let x := s.ttg d
  match s.ttState d, ev with
  | 1, .configured =>
    if s.ttMode d ≠ 0 ∧ ¬ s.flag d F.TTE_CTRL_ADMIN_DOWN ∧ s.har.current.isSome then s.ttListen d else s
  | 2, .startupSeen => s.ttTo d 4
  | 3, .otherNode => s.ttTo d 5
  | 3, .alone => if g.alone then s.ttTo d 5 else s
  | 3, .collision => (s.modTt d (fun x => { x with attempts := x.attempts + 1 })).ttTo d 2
  | 4, .doubleCycle => if 2 ≤ x.goodRun then s.ttTo d 5 else if 4 ≤ x.badRun then s.ttTo d 2 else s
  | 5, .doubleCycle => if 1 ≤ x.badRun then s.ttTo d 6 else s
  | 6, .doubleCycle =>
    if g.toActive ≤ x.goodRun then s.ttTo d 5 else if g.maxPassive ≤ x.badRun then s.ttTo d 7 else s
  | 7, .autoRestart => if g.autoRestart then s.ttListen d else s
  | _, _ => s

def execTtStateChange (d : Die) (ev : TtEvent) (s : State) : Res := onDie s d (s.ttEvent d ev)

/-- Both channels silent for LISTEN_US. -/
def execTtListenTimeout (d : Die) (s : State) : Res :=
  onDie s d (if s.ttState d = 2 ∧ (s.ttCfg d).coldstart ∧ (s.ttg d).attempts < (s.ttCfg d).attempts then s.ttTo d 3 else s)

/-- A write of TTE_CTRL.RESTART. -/
def execTtRestart (d : Die) (s : State) : Res := onDie s d (if s.ttState d = 7 then s.ttListen d else s)

/-! ## Bridle (R498 to R501) -/

/-- Whether a star has a branch of a channel. -/
def State.hasBranch (s : State) (d ch b : Nat) : Bool :=
  s.ttMode d == 2 && (s.ttCfg d).branches.testBit (4 * ch + b) && s.chOn d ch

/-- Whether a branch owns the exclusive cell that is open, or contends in the arbitrating window that is open. -/
def State.mayRelay (s : State) (d ch b : Nat) : Bool :=
  match s.ttOpen d with
  | none => false
  | some (n, w) =>
    if w.type = 1 then (match s.ttCell d w.index (ttCountOf (s.ttCfg d) n) with
      | some a => cellOwner a ch == b
      | none => false)
    else w.ch.testBit ch

def State.inArb (s : State) (d ch : Nat) : Bool :=
  match s.ttOpen d with
  | some (_, w) => w.type == 2 && w.ch.testBit ch
  | none => false

/-- Whether the star relays in its present state at any time. -/
def State.relaysFreely (s : State) (d : Nat) : Bool :=
  let st := s.ttState d
  st == 2 || st == 3 || st == 4 || (st == 7 && (s.ttCfg d).haltPolicy)

def State.relayed (s : State) (d ch : Nat) : Option Nat := ((s.ttg d).relay.find? (fun e => e.1 == ch)).map (·.2)

/-- A branch becomes active (R498, R499). -/
def State.branchUp (s : State) (d ch b : Nat) : State :=
  let s := s.modTt d (fun g => { g with active := g.active.filter (· != (ch, b)) ++ [(ch, b)] })
  match s.relayed d ch with
  | some _ =>
    if s.ttSynced d ∧ s.inArb d ch then
      (s.count d (F.TTE_BR_COLL_COUNT ch) 1).putFlag d F.TTE_EVENT_COLL true
    else s
  | none =>
    if !s.flag d (F.TTE_BR_CUT ch b) && !s.nodeSends d ch && (s.relaysFreely d || (s.ttSynced d && s.mayRelay d ch b)) then
      s.modTt d (fun g => { g with relay := g.relay ++ [(ch, b)] })
    else s

def execBranchActivity (d : Die) (ch : Fin 2) (b : Fin 4) (active : Bool) (s : State) : Res :=
  onDie s d (if !s.hasBranch d ch b then s
    else if active && !s.bankHeld d 4 then s.branchUp d ch b
    else s.modTt d (fun g => { g with
      active := g.active.filter (· != (ch.val, b.val)), relay := g.relay.filter (· != (ch.val, b.val)) }))

/-- A branch cut off, with the DETAIL of its record; relaying stops. -/
def State.cutBranch (s : State) (d ch b detail : Nat) : State :=
  let s := (s.putFlag d (F.TTE_BR_CUT ch b) true).putFlag d F.TTE_EVENT_CUT true
  (s.modTt d (fun g => { g with relay := g.relay.filter (· != (ch, b)) })).ttRec d 0x21 detail ch b

/-- Whether a branch commits a violation of a kind (R499). -/
def State.violates (s : State) (d ch b kind : Nat) : Bool :=
  let rel := (s.ttg d).relay.contains (ch, b)
  (s.ttg d).active.contains (ch, b) &&
    (match kind with
      | 1 => s.ttSynced d && !rel && !s.mayRelay d ch b
      | 2 => s.ttSynced d && rel
      | _ => !s.ttSynced d || s.inArb d ch)

/-- A violation (R500). -/
def execBridleViolation (d : Die) (ch : Fin 2) (b : Fin 4) (kind : Fin 3) (s : State) : Res :=
  onDie s d (let k := kind.val + 1
    if !(s.hasBranch d ch b && s.violates d ch b k) then s
    else
      let s := ((s.count d (F.TTE_BR_VIOL ch b) 1).put d (F.TTE_BR_CLEAN ch b) 0).put d (F.TTE_BR_LAST_KIND ch b) k
      (s.modTt d (fun g => { g with violated := g.violated ++ [(ch.val, b.val)] })).cutBranch d ch b k)

/-- A branch readmitted. -/
def State.readmitBranch (s : State) (d ch b detail : Nat) : State :=
  let s := (s.putFlag d (F.TTE_BR_CUT ch b) false).putFlag d (F.TTE_BR_ADMIN ch b) false
  (s.putFlag d F.TTE_EVENT_READMIT true).ttRec d 0x22 detail ch b

/-- A branch at a basic cycle start: a clean cycle counted, a readmission made (R501). -/
def State.cycleStart (s : State) (d ch b : Nat) : State :=
  let asked := s.getBit d (F.TTE_BR_CTRL_READMIT ch) b
  let s := s.clrBit d (F.TTE_BR_CTRL_READMIT ch) b
  if !s.flag d (F.TTE_BR_CUT ch b) then s
  else
    let g := s.ttg d
    let s := if s.ttSynced d ∧ ¬ g.unsynced ∧ ¬ g.violated.contains (ch, b) then s.count d (F.TTE_BR_CLEAN ch b) 1 else s
    let n := (s.ttCfg d).readmit
    if asked then s.readmitBranch d ch b 2
    else if n ≠ 0 ∧ n ≤ s.get d (F.TTE_BR_CLEAN ch b) ∧ ¬ s.flag d (F.TTE_BR_ADMIN ch b) then s.readmitBranch d ch b 1
    else s

/-- A basic cycle starts. -/
def execBridleReadmit (d : Die) (s : State) : Res :=
  onDie s d (if s.ttMode d ≠ 2 then s
    else
      let s := (List.range 8).foldl (fun a i => a.cycleStart d (i / 4) (i % 4)) s
      s.modTt d (fun g => { g with violated := [], unsynced := !s.ttSynced d }))

/-- A write of TTE_BR_CTRL.CUT. -/
def execTtCut (d : Die) (ch : Fin 2) (b : Fin 4) (s : State) : Res :=
  onDie s d (if s.ttMode d = 2 then (s.putFlag d (F.TTE_BR_ADMIN ch b) true).cutBranch d ch b 4 else s)

/-- A write of TTE_BR_CTRL.READMIT: it takes effect at the next basic cycle start. -/
def execTtReadmit (d : Die) (ch : Fin 2) (b : Fin 4) (s : State) : Res :=
  onDie s d (if s.ttMode d = 2 then s.setBit d (F.TTE_BR_CTRL_READMIT ch) b else s)

end Sys2Proof.Machine
end

