-- ==== Sys2Proof/Machine/Load.lean ====
section
/-! DEFINITION. What a configuration's sections set (R90): the registers and tables of each section, and the load of each kind of
unit from the configuration it is to run (R770, R108). -/

namespace Sys2Proof.Machine

/-- Registers of die `d` from `lo` to below `hi` back at their Reset values. -/
def State.dropRegs (s : State) (d lo hi : Nat) : State :=
  { s with regs := tblDrop (fun k => k / 0x800000 == d && decide (lo ≤ k % 0x800000) && decide (k % 0x800000 < hi)) s.regs }

/-- A value of a section for which 0 selects another. -/
def orSel (x z : Nat) : Nat := if x = 0 then z else x

/-! ## TIME (R585, R587) -/

def capOf (c : HarnessCfg) (d n : Nat) : CapBlk := (c.time.caps.find? (fun b => b.die == d && b.input == n)).getD default
def pulseOf (c : HarnessCfg) (d n : Nat) : Option PulseBlk := c.time.pulses.find? (fun b => b.die == d && b.output == n)
def ptpOf (c : HarnessCfg) (k : Nat) : Option PtpBlk := c.time.ptp.find? (fun b => b.index == k)

/-- A pulse output's registers; a changed block takes effect at the next inactive level (R578). -/
def State.loadPulse (s : State) (c : HarnessCfg) (changed : Bool) (d n : Nat) : State :=
  let s := match pulseOf c d n with
    | some b => s.puts d [(F.TIM_PULSE_CFG_MODE n, b.mode), (F.TIM_PULSE_CFG_POLARITY n, b.pflags), (F.TIM_PULSE_CFG_UNSYNC_HOLD n, b.pflags / 2),
        (F.TIM_PULSE_START_START n, b.start), (F.TIM_PULSE_PERIOD_PERIOD_NS n, b.periodNs), (F.TIM_PULSE_WIDTH_WIDTH_NS n, b.widthNs)]
    | none => s.puts d [(F.TIM_PULSE_CFG_MODE n, 0), (F.TIM_PULSE_CFG_POLARITY n, 1), (F.TIM_PULSE_CFG_UNSYNC_HOLD n, 0),
        (F.TIM_PULSE_START_START n, 0), (F.TIM_PULSE_PERIOD_PERIOD_NS n, 0), (F.TIM_PULSE_WIDTH_WIDTH_NS n, 0)]
  if !changed then s
  else if (s.pulse d n).endMono.isSome then s.putFlag d (F.TIM_PULSE_CFG_ARM n) true
  else s.applyPulse d n

/-- The TIME section; `old` is the configuration that it replaces, none at a boot. -/
def State.applyTime (s : State) (c : HarnessCfg) (old : Option HarnessCfg) : State :=
  let t := c.time.base
  let s := (s.put 0 F.TIM_JUMP_JUMP_NS (orSel t.jumpNs 1000)).clkoutFreq t.clkout
  let s := if s.flag 0 F.TIM_UTC_FROM_SRC then s else s.put 0 F.TIM_UTC_UTC_OFS (ofSigned 16 t.utcOfs)
  let s := s.eachDie (fun d a => [0, 1, 2, 3].foldl (fun b n =>
    let k := capOf c d n
    (b.puts d [(F.TIM_CAP_CFG_MODE n, k.mode), (F.TIM_CAP_CFG_EDGE n, k.edge)]).loadPulse c
      (match old with | some o => pulseOf o d n != pulseOf c d n | none => true) d n) a)
  let s := (List.range 16).foldl (fun a k =>
    match old with
    | some o => if ptpOf o k = ptpOf c k then a
      else a.puts 0 [(F.TIM_PTP_PORT_STATE k, bit (ptpOf c k).isSome), (F.TIM_PTP_PORT_ONE_STEP k, bit ((ptpOf c k).any (·.oneStep)))]
    | none => a.puts 0 [(F.TIM_PTP_PORT_STATE k, bit (ptpOf c k).isSome), (F.TIM_PTP_PORT_ONE_STEP k, bit ((ptpOf c k).any (·.oneStep)))]) s
  let s := s.reselect
  if (match old with | some o => o.time.base.freqRef | none => 0) = t.freqRef then s else s.relockBegin

/-! ## REGIONS (R136, R155) -/

/-- The region registers of a die: the entries of a master and target die in section order. -/
def State.applyRegions (s : State) (c : HarnessCfg) (d : Nat) : State :=
  let s := s.dropRegs d 0x308000 0x312C00
  let s := (c.regions.entries.filter (fun e => e.die == d)).foldl (fun (a : State × List (Nat × Nat)) e =>
    let k := (a.2.filter (fun x => x == (e.master, e.target))).length
    (a.1.puts d [(F.VAT_RGN_EN e.master e.target k, 1), (F.VAT_RGN_RD e.master e.target k, bit e.rd), (F.VAT_RGN_WR e.master e.target k, bit e.wr),
      (F.VAT_RGN_BASE e.master e.target k, e.base), (F.VAT_RGN_LIMIT e.master e.target k, e.limit)], a.2 ++ [(e.master, e.target)])) (s, [])
  let q := psOf c d
  (s.1.puts d [(F.VAT_PART_PS_Q, q), (F.VAT_PART_CELLS, poolCells c d)]).syncPool d

/-! ## TENANTS (R722, R751) -/

/-- One tenant's registers. The token state of a tenant that stays is kept, within the HOST ports; that of a removed tenant is
cleared; FLOOR rises to TOK_GEN_MIN (R751). -/
def State.applyTenant (s : State) (e : TenantEntry) (kept : Bool) : State :=
  let t := e.tid
  let hosts := (s.hostPorts.map (2 ^ ·)).foldl (· + ·) 0
  let tok := if kept then s.get 0 (F.TEN_T_CFG_PORTS_TOKEN t) &&& hosts else 0
  let s := s.puts 0 [(F.TEN_T_CFG_ENABLED t, bit e.enabled), (F.TEN_T_CFG_TOKEN_ONLY t, bit e.tokenOnly), (F.TEN_T_CFG_PASID_REQ t, bit e.pasidReq),
    (F.TEN_T_CFG_PORTS_STATIC t, e.ports), (F.TEN_T_CFG_PORTS_TOKEN t, tok),
    (F.TEN_T_GEN_FLOOR t, max e.tokGenMin (s.get 0 (F.TEN_T_GEN_FLOOR t)))]
  if kept ∧ s.flag 0 (F.TEN_T_PASID_FROM_TOKEN t) then s else s.staticPasid t

/-- The binding of a channel. -/
def dmaBind (c : HarnessCfg) (d ch : Nat) : Option (Nat × Nat × Bool) :=
  (c.tenants.dmas.find? (fun m => m.1 == d && m.2.2.1 == ch)).map (fun m => (m.2.1, m.2.2.2.1, m.2.2.2.2))

/-- A channel bound as a configuration gives. -/
def State.bindDma (s : State) (c : HarnessCfg) (d ch : Nat) : State :=
  match dmaBind c d ch with
  | none => s.puts d [(F.DMA_CH_CFG_TID ch, 0), (F.DMA_CH_CFG_BOUND ch, 0), (F.DMA_CH_CFG_PASID_EN ch, 0), (F.DMA_CH_CFG_SLOT ch, 0),
      (F.DMA_CH_PASID_PASID ch, 0)]
  | some m => s.puts d [(F.DMA_CH_CFG_TID ch, m.1), (F.DMA_CH_CFG_BOUND ch, 1), (F.DMA_CH_CFG_PASID_EN ch, bit m.2.2),
      (F.DMA_CH_CFG_SLOT ch, m.2.1), (F.DMA_CH_PASID_PASID ch, if m.2.2 then s.get 0 (F.TEN_T_PASID_PASID m.1) else 0)]

/-- A channel stops where its binding changes, and runs under the new one (R671). -/
def State.rebindDma (s : State) (c : HarnessCfg) (old : Option HarnessCfg) (d ch : Nat) : State :=
  let s := match old with
    | some o => if dmaBind o d ch != dmaBind c d ch then s.dmaReset d ch else s
    | none => s
  s.bindDma c d ch

/-- The mailbox of an engine bound as a configuration gives, and emptied where its binding changes (R671). -/
def State.bindMbx (s : State) (c : HarnessCfg) (old : Option HarnessCfg) (d e : Nat) : State :=
  let b (c : HarnessCfg) : Option (Nat × Nat) := (c.tenants.mailboxes.find? (fun m => m.1 == d && m.2.2.1 == e)).map (fun m => (m.2.1, m.2.2.2))
  let s := match old with
    | some o => if b o != b c then s.mbxEmpty d e else s
    | none => s
  s.puts d [(F.MBX_ENG_BOUND e, bit (b c).isSome), (F.MBX_ENG_TID e, ((b c).map (·.1)).getD 0), (F.MBX_ENG_SLOT e, ((b c).map (·.2)).getD 0)]

/-- Store shares, mailbox bindings and channel bindings. At an instant a channel with a descriptor in progress that is an affected unit
keeps its binding until it switches (R108). -/
def State.applyBindings (s : State) (c : HarnessCfg) (old : Option HarnessCfg) : State :=
  let s := ((old.map (·.tenants.stores)).getD []).foldl (fun a e => a.put e.1 (F.TEN_D_STORE_STORE e.2.1) 0) s
  let s := c.tenants.stores.foldl (fun a e => a.put e.1 (F.TEN_D_STORE_STORE e.2.1) e.2.2) s
  s.eachDie (fun d a =>
    let a := (List.range 64).foldl (fun (b : State) e => b.bindMbx c old d e) a
    (List.range 32).foldl (fun (b : State) ch =>
      if b.har.unswitched.contains (uid d 6 ch) ∧ (b.dmaCh d ch).run.isSome then b else b.rebindDma c old d ch) a)

/-- The TENANTS section, with the owner key of the image (R746); `old` as for TIME. -/
def State.applyTenants (s : State) (i : Image) (old : Option HarnessCfg) : State :=
  let es := i.cfg.tenants.entries
  let gone := ((old.map (·.tenants.entries)).getD []).filter (fun o => !es.any (fun e => e.tid == o.tid && e.enabled))
  let s := gone.foldl (fun a o => a.applyTenant { (default : TenantEntry) with tid := o.tid } false) s
  let s := es.foldl (fun a e => a.applyTenant e (match old with
    | some o => o.tenants.entries.any (fun x => x.tid == e.tid && x.enabled) && e.enabled
    | none => true)) s
  let s := s.applyBindings i.cfg old
  let s := s.puts 0 [(F.TEN_STATUS_APPLIED, 1), (F.TEN_STATUS_COUNT, es.length), (F.TEN_STATUS_OWNER_KEY, 1)]
  (List.range 8).foldl (fun a k => a.put 0 (F.TEN_OWNER_PUB_WORD k) (leNat ((i.key.signerPub.drop (4 * k)).take 4))) s

/-! ## DATAPOINTS (R194, R196) -/

/-- The descriptor table and the notice channels of a die. -/
def State.applyDatapoints (s : State) (c : HarnessCfg) (d : Nat) : State :=
  let s := { s with
    mem := tblDrop (fun k => k / 0x1000000 == d && decide (0x400000 ≤ k % 0x1000000) && decide (k % 0x1000000 < 0x600000)) s.mem,
    errs := tblDrop (fun k => k / 0x200000 == d && decide (0x80000 ≤ k % 0x200000) && decide (k % 0x200000 < 0xC0000)) s.errs }
  let s := c.datapoints.ranges.foldl (fun a r => (List.range r.count).foldl (fun b i =>
    if b.dpiOk (r.firstDpi + i) ∧ b.homeDie (r.firstDpi + i) = d then b.writeBytes d (descOff (dpSlot (r.firstDpi + i))) (r.template.take 16)
    else b) a) s
  (List.range 64).foldl (fun a n =>
    let t := (c.datapoints.channels.find? (fun x => x.1 == d && x.2.1 == n)).map (·.2.2)
    a.puts d [(F.DPT_NCH_CFG_EN n, bit t.isSome), (F.DPT_NCH_CFG_TID n, t.getD 0)]) s

/-! ## RECORDER (R712, R714, R901) -/

/-- The recorder of a die: MODE, its partition, and whether the ARCHIVE port of a removed one stays (R901). -/
def State.applyRecorder (s : State) (c : HarnessCfg) (d : Nat) : State :=
  let s := s.putFlag d F.ERC_STATUS_FC1 (c.recorder.mode == 1)
  let g := s.recDie d
  let new := recPartOf c d
  let keeps := g.part.any (fun p => c.pcie.any (fun e => e.die == p.arcDie && e.role == 2))
  let s := if new = g.part then s
    else
      let s := if g.part.isSome then s.closeSegment d 0 else s
      let free := new.isNone && !keeps
      s.setRecDie d { s.recDie d with
        part := new, oldPart := if new.isNone ∧ keeps then g.part else none, foreign := false,
        blocks := (s.recDie d).blocks.map (fun e => (e.1, if e.2.state = 2 ∧ free then { e.2 with noArchive := true } else e.2)) }
  (s.putFlag d F.ERC_STATUS_ARCHIVE (s.recDie d).flushPart.isSome).syncOcc d

/-! ## PLACEMENT and PACK (R276, R357) -/

def State.applyPlacement (s : State) (c : HarnessCfg) (d : Nat) : State :=
  let s := (List.range 8).foldl (fun a k => a.applyPlace c d k) s
  s.putFlag d F.PKT_STATUS_ASSIST_RUN ((List.range 8).any (fun k => (placeOf c d k).any (·.transport)))

def State.copyBlocks (s : State) (c : HarnessCfg) (d : Nat) : State :=
  (c.placement.filter (fun p => p.die == d && p.packId != 0)).foldl (fun a p => a.copyBlock c p) s

/-! ## SWITCH_MAP and shapers (R512, R535, R539) -/

def State.applySwitch (s : State) (d : Nat) : State :=
  let s := (List.range 114).foldl (fun a o => a.put d (F.SWC_OUT_QUOTA o) (a.outQuota d o)) s
  (s.putFlag d F.SWC_STATUS_RUN true).syncPool d

/-- The shapers of a die, numbered in section order; a kept shaper (the same port and tenant) keeps its level, clamped to its new
BURST, and a new one starts at BURST. -/
def State.applyShapers (s : State) (c : HarnessCfg) (old : Option HarnessCfg) (d : Nat) : State :=
  let bs := (c.shapers.filter (fun b => b.die == d))
  let olds := ((old.map (·.shapers)).getD []).filter (fun b => b.die == d)
  let levels := bs.map (fun b => (firstIdx (fun (o : ShaperBlk) => o.port == b.port && o.tid == b.tid) olds).map (s.tshLevel d))
  let s := s.dropRegs d 0xC2000 0xC3000
  ((List.range 256).zip (bs.zip levels)).foldl (fun a e =>
    let k := e.1
    let b := e.2.1
    let a := a.puts d [(F.SWC_TSH_CFG_EN k, 1), (F.SWC_TSH_CFG_PORT k, b.port), (F.SWC_TSH_CFG_TID k, b.tid), (F.SWC_TSH_RATE_RATE_KBPS k, b.rate),
      (F.SWC_TSH_BURST_BURST k, b.burst), (F.SWC_TSH_CFG_FROZEN k, bit (b.rate == 0))]
    let full : Int := tshByte * b.burst
    let floor : Int := -(tshByte * ((a.maxLen d b.port + 4 : Nat) : Int))
    a.setShaper d k ⟨(match e.2.2 with | some l => max floor (min l full) | none => full), a.monoQ16 d⟩) s

/-! ## CALIBRATION (R126 to R129) -/

def calItems : List Nat := [1, 2, 3, 4, 5, 6, 7, 8, 9, 0x20, 0x21, 0x22, 0x23]

def calKnown (dies : Nat) (e : CalEntry) : Bool :=
  decide (e.item ≤ 9) && decide (e.die < dies) && decide (e.inst < calInstances e.item e.die)

/-- The count of clamped items of each die brought up to date; a rise sets NEW. -/
def State.syncClamps (s : State) (d : Nat) : State :=
  let n := (calItems.map (fun k => ((List.range (calInstances k d)).filter (fun i => s.calClamped d k i)).length)).foldl (· + ·) 0
  let was := s.get d F.CAL_CLAMPS_COUNT
  let s := s.put d F.CAL_CLAMPS_COUNT n
  if n > was then s.putFlag d F.CAL_CLAMPS_NEW true else s

/-- The user values of the image, which replace those in force; an entry that names nothing is counted as ignored (R128). -/
def State.applyCalibration (s : State) (c : HarnessCfg) : State :=
  let n := (c.calibration.filter (fun e => !calKnown s.dieCount e)).length
  let s := { s with calUser := [] }
  let s := (c.calibration.filter (calKnown s.dieCount)).foldl (fun a e =>
    { a with calUser := tblSet a.calUser 0 (calKey e.die e.item e.inst) e.value }) s
  (s.count 0 F.HAR_ERROR_IGNORED n).eachDie (fun d a => a.syncClamps d)

/-! ## PORTS, GATES and TT_MATRIX: units -/

def ethEntry (c : HarnessCfg) (d p : Nat) : EthEntry := (c.eth.find? (fun e => e.die == d && e.port == p)).getD default
def gateEntry (c : HarnessCfg) (d p : Nat) : Option GateBlk := c.gates.find? (fun e => e.die == d && e.port == p)
def serEntry (c : HarnessCfg) (d p : Nat) : SerEntry := (c.serial.find? (fun e => e.die == d && e.port == p)).getD default
def ttEntry (c : HarnessCfg) (d : Nat) : TtGroupBlk := (c.tt.groups.find? (fun e => e.die == d)).getD default

/-- The fields of ETH_PORT_CTRL that PORTS sets (R404). -/
def State.loadEthCtrl (s : State) (c : HarnessCfg) (d p : Nat) : State :=
  let e := ethEntry c d p
  s.puts d [(F.ETH_PORT_CTRL_LATE_POLICY p, bit e.latePolicy), (F.ETH_PORT_CTRL_PAUSE_WD_MS p, orSel e.pauseWd 50), (F.ETH_PORT_CTRL_WINDOW_8NS p, e.window8)]

/-- An Ethernet port's registers from its PORTS entry, and its pair's redundancy times from the even port's. -/
def State.loadEthPort (s : State) (c : HarnessCfg) (d p : Nat) : State :=
  let e := ethEntry c d p
  let s := s.puts d [(F.ETH_PORT_CFG_MODE p, e.mode), (F.ETH_PORT_CFG_ADV p, e.adv), (F.ETH_PORT_CFG_MS_FORCE p, bit e.msForce),
    (F.ETH_PORT_CFG_MS_MASTER p, bit e.msMaster), (F.ETH_PORT_CFG_RED p, e.red), (F.ETH_PORT_CFG_PAUSE_EN p, bit e.pauseEn),
    (F.ETH_PORT_CFG_PFC_EN p, bit e.pfcEn), (F.ETH_PORT_CFG_CL37_AN p, bit e.cl37), (F.ETH_PORT_CFG_SGMII_AN p, bit e.sgmiiAn),
    (F.ETH_PORT_CFG_MAX_LEN p, e.maxLen), (F.ETH_MAC_ADDR_ADDR p, e.mac)]
  let s := if p % 2 = 0 then
      s.puts d [(F.ETH_RED_RED (p / 2), e.red), (F.ETH_RED_AGE_MS (p / 2), orSel e.age 400), (F.ETH_RED_SUP_MS (p / 2), orSel e.sup 2000)]
    else s
  let s := if e.mode = 0 then s.clrBit d F.ETH_STATUS_ENABLED p else s.setBit d F.ETH_STATUS_ENABLED p
  s.loadEthCtrl c d p

/-- A port's gate list and credit-based shapers (R431, R433); without a block every gate is open. -/
def State.loadGates (s : State) (c : HarnessCfg) (d p : Nat) : State :=
  match gateEntry c d p with
  | none =>
    let s := s.puts d [(F.ETH_GATE_BASE_BASE_TIME p, 0), (F.ETH_GATE_CYCLE_CYCLE_NS p, 0), (F.ETH_GATE_STATUS_STATE p, 0xFF),
      (F.ETH_GATE_STATUS_ENTRY p, 0), (F.ETH_GATE_STATUS_LIST p, 0)]
    (List.range 8).foldl (fun a q => a.put d (F.ETH_CBS_IDLE_KBPS p q) 0) s
  | some b =>
    let s := s.puts d [(F.ETH_GATE_BASE_BASE_TIME p, b.base), (F.ETH_GATE_CYCLE_CYCLE_NS p, b.cycle), (F.ETH_GATE_STATUS_LIST p, bit !b.entries.isEmpty),
      (F.ETH_GATE_STATUS_STATE p, 0xFF)]
    let s := (List.range 8).foldl (fun a q => a.put d (F.ETH_CBS_IDLE_KBPS p q) (b.idle.getD q 0)) s
    let s := s.dropRegs d (0x10000 + 1024 * p) (0x10000 + 1024 * p + 1024)
    let s := ((List.range 256).zip b.entries).foldl (fun a e => a.puts d [(F.ETH_GCL_GATES p e.1, e.2.1), (F.ETH_GCL_INTERVAL_NS p e.1, e.2.2)]) s
    s.syncGate d p

/-- A serial port's registers but SER_PORT_CTRL. -/
def State.loadSerRegs (s : State) (c : HarnessCfg) (d p : Nat) : State :=
  let e := serEntry c d p
  let s := s.puts d [(F.SER_PORT_CFG_MODE p, e.mode), (F.SER_PORT_CFG_ELEC p, e.elec), (F.SER_PORT_CFG_PAIR p, bit e.pair),
    (F.SER_PORT_CFG_TTCAN p, bit (c.ttcan.any (fun x => x.die == d && x.port == p))),
    (F.SER_PORT_CFG_FILTERS p, bit (c.canFilters.any (fun x => x.die == d && x.port == p && x.en))), (F.SER_PORT_CFG_MAX_LEN p, e.maxLen)]
  if e.mode = 0 then s.clrBit d F.SER_STATUS_ENABLED p else s.setBit d F.SER_STATUS_ENABLED p

/-- SER_PORT_CTRL back at its Reset value (R480). -/
def State.serCtrlReset (s : State) (d p : Nat) : State :=
  { s with regs := tblSet s.regs (R.SER_PORT_CTRL p).rst (regKey d (R.SER_PORT_CTRL p)) (R.SER_PORT_CTRL p).rst }

def State.loadSerPort (s : State) (c : HarnessCfg) (d p : Nat) : State := (s.loadSerRegs c d p).serCtrlReset d p

/-- A serial port started in the state that MODE, DETECT and LISTEN give (Serial port states); with ADMIN_DOWN it stays off. -/
def State.startSer (s : State) (c : HarnessCfg) (d p : Nat) : State :=
  let e := serEntry c d p
  let s := { s with serPorts := tblSet s.serPorts SerPort.reset (d * 8 + p) SerPort.reset }
  if e.mode = 0 ∨ s.flag d (F.SER_PORT_CTRL_ADMIN_DOWN p) then s.serTo d p 0
  else if s.flag 0 F.RCV_STATUS_SAFE then s.serTo d p 5
  else if e.detect ∧ (e.mode = 1 ∨ e.mode = 2) then s.enterDetect d p
  else if e.listen then s.serTo d p 2
  else s.serTo d p 3

/-- The registers of a die's time-triggered group. -/
def State.loadTt (s : State) (c : HarnessCfg) (d : Nat) : State :=
  let b := ttEntry c d
  s.puts d [(F.TTE_CFG_MODE, b.mode), (F.TTE_CFG_RATE, b.rate), (F.TTE_CFG_CYCLES, b.cycles), (F.TTE_CFG_WINDOWS, b.windows),
    (F.TTE_CFG_BRANCHES, b.branches), (F.TTE_CFG_LEAD, bit b.lead), (F.TTE_CFG_COLDSTART, bit b.coldstart), (F.TTE_CFG_SYNC, bit b.sync),
    (F.TTE_CFG_HALT_POLICY, bit b.haltPolicy), (F.TTE_CFG_AUTO_RESTART, bit b.autoRestart)]

/-- The PCIe port's registers (R617). -/
def State.loadPcie (s : State) (c : HarnessCfg) (d : Nat) : State :=
  let e := (c.pcie.find? (fun e => e.die == d)).getD default
  s.puts d [(F.PCI_PORT_CFG_ROLE, e.role), (F.PCI_PORT_CFG_OWNER, bit e.owner), (F.PCI_PORT_CFG_MAX_GEN, e.maxGen), (F.PCI_PORT_CFG_WIDTH, e.width),
    (F.PCI_PORT_CFG_SUBSYS_ID, e.subsys)]

/-- Pad settings and field-bank levels of a die (R869). -/
def State.loadPads (s : State) (c : HarnessCfg) (d : Nat) : State :=
  let s := (List.range 113).foldl (fun a i => match c.pads.find? (fun e => e.die == d && e.index == i) with
    | some e => a.puts d [(F.ELX_PAD_SLEW i, e.slew), (F.ELX_PAD_FILTER i, e.filter), (F.ELX_PAD_PULL i, e.pull)]
    | none => a.puts d [(F.ELX_PAD_SLEW i, if i < 103 then 2 else 0), (F.ELX_PAD_FILTER i, 0), (F.ELX_PAD_PULL i, 0)]) s
  (List.range 5).foldl (fun a b =>
    a.put d (F.ELX_BANK_LEVEL b) (((c.vioBanks.find? (fun e => e.1 == d && e.2.1 == b)).map (·.2.2)).getD 0)) s

end Sys2Proof.Machine
end

