-- ==== Sys2Proof/Machine/Elec.lean ====
section
/-! DEFINITION. Calibration, VIO_F banks and pads (chapter 20). -/

namespace Sys2Proof.Machine

/-- A user value of the selected item takes effect (R878); an item or instance that takes none ignores it (R876). -/
def State.calWrite (s : State) (d : Nat) (v : Int) : State :=
  let item := s.get d F.CAL_SEL_ITEM
  let inst := s.get d F.CAL_SEL_INST
  if item = 0 ∨ 9 < item ∨ calInstances item d ≤ inst then s
  else
    let t : State := { s with calUser := tblSet s.calUser 0 (calKey d item inst) v }
    t.syncClamps d

def execCalUserWrite (d : Die) (v : BitVec 32) (s : State) : Res := onDie s d (s.calWrite d v.toInt)

/-- The measured voltage of a bank; PRESENT above half of 1.8 V. -/
def State.bankMv (s : State) (d b mv : Nat) : State :=
  (s.put d (F.ELX_BANK_MV b) mv).putFlag d (F.ELX_BANK_PRESENT b) (decide (900 < mv))

/-- The inputs of bank 4 idle at 0: a capture input that was high shows a falling edge (R872). -/
def State.idleCaps (s : State) (d : Nat) : State :=
  [0, 1, 2, 3].foldl (fun (a : State) n =>
    if a.flag d (F.TIM_CAP_CFG_LEVEL n) then
      (if a.get d (F.TIM_CAP_CFG_MODE n) = 0 then a.putFlag d (F.TIM_CAP_CFG_LEVEL n) false else a.capture d n false)
    else a) s

/-- A hold of a bank begins (R872): its lace pins, capture inputs and time-triggered branches show idle inputs. -/
def State.bankHold (s : State) (d b mv : Nat) : State :=
  let s := s.bankMv d b mv
  if s.get d (F.ELX_BANK_LEVEL b) = 0 ∨ s.bankHeld d b then s
  else
    let s := ((s.putFlag d (F.ELX_BANK_HELD b) true).setBit d F.ELX_STATUS_BANK_HELD b).setBit d F.ELX_EVENT_BANK b
    let s := if b < 4 then s.put d F.LCE_PIN_IN_LEVEL (s.pinLevels d (s.get d F.LCE_PIN_IN_LEVEL)) else s.idleCaps d
    if b < 4 then s else s.modTt d (fun g => { g with active := [], relay := [] })

def execBankHold (d : Die) (b : Fin 5) (mv : Fin 4096) (s : State) : Res := onDie s d (s.bankHold d b mv)

def execBankHoldRelease (d : Die) (b : Fin 5) (mv : Fin 4096) (s : State) : Res :=
  onDie s d (((s.bankMv d b mv).putFlag d (F.ELX_BANK_HELD b) false).clrBit d F.ELX_STATUS_BANK_HELD b)

/-- A write of ELX_PAD (R873, R888); a pad that is not present ignores it. -/
def State.padWrite (s : State) (d i v : Nat) : State :=
  if s.flag d (F.ELX_PAD_PRESENT i) then
    s.puts d [(F.ELX_PAD_SLEW i, v), (F.ELX_PAD_FILTER i, v / 4), (F.ELX_PAD_PULL i, v / 32)]
  else s

def execElxPadWrite (d : Die) (i : Fin 128) (v : BitVec 32) (s : State) : Res := onDie s d (s.padWrite d i v.toNat)

end Sys2Proof.Machine
end

