-- ==== Sys2Proof/Machine/HarVerify.lean ====
section
/-! DEFINITION. Verification of a harness image (R71 to R85, R92, R93, R355, R736, R744, R745). A failed check answers its code, the
directory index of the failing section (0x1FF for none) and the die (R84; log entry 126). -/

namespace Sys2Proof.Machine

/-- A failed check: code, section, die. -/
abbrev VFail := Nat × Nat × Nat

/-- A check without a section. -/
def vfail (code : Nat) (bad : Bool) : Option VFail := if bad then some (code, 0x1FF, 0) else none

/-- The first failed check. -/
def firstFail (l : List (Option VFail)) : Option VFail := l.findSome? id

/-- The lowest die of a mask. -/
def maskDie (m : Nat) : Nat := ((List.range 8).find? (fun d => m.testBit d)).getD 0

/-- The entries of the directory with their indices. -/
def dirIx (i : Image) : List (Nat × DirEntry) := (List.range i.dir.length).zip i.dir

/-! ## Bytes of the header and the directory (R72, R73) -/

def hdrBytes (h : ImgHeader) : List Byte :=
  leBytes 4 h.magic ++ leBytes 2 h.format ++ leBytes 2 h.hdrLen ++ leBytes 4 h.length ++ leBytes 4 h.imageId ++ leBytes 4 h.secVer ++
    leBytes 1 h.dies ++ leBytes 1 h.flags ++ leBytes 2 h.sections ++ leBytes 4 h.dirOff ++ leBytes 4 h.keyOff ++ leBytes 4 h.sigOff ++
    leBytes 4 h.flash ++ leBytes 8 h.serial ++ h.rsv.take 16

def dirBytes (e : DirEntry) : List Byte :=
  leBytes 2 e.type ++ leBytes 1 e.dieMask ++ leBytes 1 (bit e.encrypted + 2 * bit e.required + 4 * e.flagsRsv) ++ leBytes 4 e.offset ++
    leBytes 4 e.len ++ leBytes 4 e.rsv ++ e.hash.take 48

/-! ## The steps (Verification order and failure codes) -/

/-- Step 1: the format. `pommel` images are delivered in order, `slotB` ones need a 4-byte address (R71, R72, R73, R76, R86). -/
def verifyFormat (i : Image) (slotB : Bool) : Option VFail :=
  let h := i.hdr
  let offOk (o : Nat) : Bool := o % 64 == 0 && decide (o < h.length)
  firstFail ([vfail 1 (h.magic != 0x4E52484B || h.format != 1 || h.hdrLen != 64),
    vfail 1 (decide (h.length > 0x1000000) || h.length != i.delivered || h.sections != i.dir.length || i.dir.isEmpty || decide (256 < i.dir.length)),
    vfail 1 (!offOk h.dirOff || !offOk h.keyOff || !offOk h.sigOff), vfail 1 (slotB && !h.flash.testBit 15)] ++
    (dirIx i).map (fun e => if !offOk e.2.offset || e.2.dieMask == 0 || (e.2.encrypted && e.2.type != 2) || e.2.len == 0 || decide (e.2.len > 0x100000)
      then some (1, e.1, maskDie e.2.dieMask) else none))

/-- Step 5: the signer key (R744, R745). -/
def keyAccepted (k : KeyBlock) (rootHash : List Byte) (serial secVer : Nat) : Bool :=
  let signers := k.rootPub :: k.chain.map (·.pub)
  let n := k.chain.length
  Config.sha384 k.rootPub == rootHash && k.magic == 0x4B594B42 && decide (1 ≤ n) && decide (n ≤ 3) &&
    (signers.zip k.chain).all (fun e => Config.edVerify e.1 (e.2.bytes.take 64) e.2.sig) &&
    ((List.range n).zip k.chain).all (fun e => e.2.role == (if e.1 + 1 = n then 2 else 1)) &&
    k.chain.all (fun e => (e.serial == 0 || e.serial == serial) && decide (e.minSec ≤ secVer))

/-- The fused root key hash (TEN_ROOT_HASH). -/
def State.rootHash (s : State) : List Byte := (List.range 12).flatMap (fun k => leBytes 4 (s.get 0 (F.TEN_ROOT_HASH_WORD k)))

/-- Section types of the Section types table, and those that it marks as required. -/
def knownType (t : Nat) : Bool := decide (1 ≤ t) && decide (t ≤ 17)
def requiredTypes : List Nat := [1, 2, 3, 4, 6, 7, 8, 10, 11, 13, 16]

/-- Step 7: hashes, unknown required sections, missing sections (R78, R79). -/
def verifySections (i : Image) : Option VFail :=
  firstFail ((dirIx i).map (fun e =>
      if Config.sha384 e.2.stored != e.2.hash then some (7, e.1, maskDie e.2.dieMask)
      else if !knownType e.2.type && e.2.required then some (8, e.1, maskDie e.2.dieMask)
      else none) ++
    requiredTypes.map (fun t => vfail 9 (!i.dir.any (fun e => e.type == t))) ++
    i.cfg.placement.map (fun p =>
      if p.packId != 0 && !i.cfg.packs.any (fun k => k.dieMask.testBit p.die && k.packId == p.packId && k.version == p.version)
      then some (9, 0x1FF, p.die % 8) else none))

/-- Step 9 on one PACK section, the `k`-th of the image (R355, R354). -/
def State.packOk (s : State) (i : Image) (k : Nat) (p : PackSec) : Bool :=
  let slot := leNat ((p.head.drop 64).take 1)
  let w (o : Nat) : Nat := leNat ((p.head.drop o).take 2)
  p.magic == 0x4B434150 && decide (16 ≤ p.codeWords) && decide (p.codeWords ≤ 16384) && p.privInit % 2 == 0 && decide (p.privInit ≤ 8190) &&
    p.sharedInit % 2 == 0 && decide (p.sharedInit ≤ 32768) && decide (w 32 ≤ 0xFFF) && decide (w 34 ≤ 16384) &&
    decide (leNat ((p.head.drop 36).take 1) ≤ 32) && decide (slot < 4) && nbit (s.get 0 F.PKT_KEYS_SLOT_VALID) slot && !nbit (s.get 0 F.PKT_KEYS_REVOKED) slot &&
    Config.edVerify (Config.packKey slot) (p.head.take 128) p.sig && Config.sha384 p.body == p.bodyHash &&
    decide (s.get 0 F.PKT_KEYS_MIN_SEC ≤ p.packSec) &&
    !(i.cfg.packs.take k).any (fun q => q.packId == p.packId && q.version == p.version && q.dieMask &&& p.dieMask != 0)

/-- The directory index of the `k`-th PACK section. -/
def packIndex (i : Image) (k : Nat) : Nat := (((dirIx i).filter (fun e => e.2.type == 2)).map (·.1)).getD k 0x1FF

/-- Step 10: the share of a die in the harness store (R80). -/
def shareOf (i : Image) (d : Nat) : Nat :=
  64 + 64 * i.dir.length + (64 + 128 * i.key.chain.length) + 64 + ((i.dir.filter (fun e => e.dieMask.testBit d)).map (·.len)).foldl (· + ·) 0

/-! ## Load-time admission (R93) -/

/-- The engine shares of a cluster and the store term 3 × Σ STORE, recomputed from TENANTS, in 1/1,024 and in 1/256 slot. -/
def engShare (c : HarnessCfg) (d k : Nat) : Nat :=
  ((c.tenants.engShares.filter (fun e => e.1 == d && e.2.2.1 == k)).map (·.2.2.2)).foldl (· + ·) 0
def storeTerm (c : HarnessCfg) : Nat :=
  3 * ((c.tenants.stores.map (·.2.2)).foldl (· + ·) 0 + (c.tenants.defaults.map (·.2)).foldl (· + ·) 0)

/-- Whether the Shares row refuses a die. -/
def sharesBad (c : HarnessCfg) (d : Nat) : Bool :=
  (List.range 8).any (fun k =>
    let t := engShare c d k
    decide (t > 1024) || ((c.admission.engineShares.find? (fun e => e.1 == d && e.2.1 == k)).map (·.2.2)).getD 0 != t) ||
  (List.range 16).any (fun b =>
    let t := ((c.admission.storeShares.find? (fun e => e.1 == d && e.2.1 == b)).map (·.2.2)).getD 0
    decide (t > 56 * 256) || decide (t < storeTerm c))

/-- Whether the Region registers row refuses a die. -/
def regionsBad (c : HarnessCfg) (d : Nat) : Bool :=
  let es := c.regions.entries.filter (fun e => e.die == d)
  es.any (fun e => decide (16 < (es.filter (fun x => x.master == e.master && x.target == e.target)).length) ||
    es.any (fun x => x.master == e.master && x.target == e.target && decide (x.base ≤ e.limit) && decide (e.base ≤ x.limit) &&
      (x.rd != e.rd || x.wr != e.wr)))

/-- Whether a check of the Load-time admission checks table refuses die `d` of a package of `n` dies. -/
def admissionBad (c : HarnessCfg) (n d : Nat) : Bool :=
  sharesBad c d || c.switch.bindings.any (fun b => b.die == d && b.dest == 0 && decide (b.target > 7)) ||
    c.lace.binds.any (fun b => b.1 == d && decide (b.2.2.1 > 7)) ||
    c.datapoints.ranges.any (fun r => (r.die == d || decide (n ≤ r.die)) && decide (n * 0x20000 < r.firstDpi + r.count)) ||
    regionsBad c d || c.placement.any (fun p => p.die == d && decide (p.psQ * 65536 < p.cfg.length)) ||
    !c.tenants.entries.any (fun e => e.tid == 0) || decide (4096 < c.tenants.entries.length)

/-- An entry of PORTS, SWITCH_MAP or PLACEMENT that names a die beyond the die count. -/
def dieBeyond (c : HarnessCfg) (n : Nat) : Bool :=
  c.switch.bindings.any (fun b => decide (n ≤ b.die)) || c.placement.any (fun p => decide (n ≤ p.die)) ||
    c.eth.any (fun e => decide (n ≤ e.die)) || c.serial.any (fun e => decide (n ≤ e.die)) || c.pcie.any (fun e => decide (n ≤ e.die)) ||
    c.lace.binds.any (fun b => decide (n ≤ b.1))

/-! ## The whole verification -/

/-- Steps 1 to 11 in order: the first failed check. -/
def State.verify (s : State) (i : Image) (slotB : Bool) : Option VFail :=
  let h := i.hdr
  let n := s.dieCount
  let serial := (s.rd 0 R.ARC_SERIAL).toNat
  firstFail ([verifyFormat i slotB, vfail 2 (h.dies != n), vfail 3 (h.serial != 0 && h.serial != serial),
    vfail 4 (decide (h.secVer < s.get 0 F.TEN_STATUS_SEC_MIN)), vfail 5 (!keyAccepted i.key s.rootHash serial h.secVer),
    vfail 6 (!Config.edVerify i.key.signerPub (hdrBytes h ++ i.dir.flatMap dirBytes) i.sig), verifySections i] ++
    (dirIx i).map (fun e => if e.2.encrypted && !Config.gcmTagValid e.2.stored then some (0x0A, e.1, maskDie e.2.dieMask) else none) ++
    ((List.range i.cfg.packs.length).zip i.cfg.packs).map (fun e => if s.packOk i e.1 e.2 then none else some (0x0B, packIndex i e.1, maskDie e.2.dieMask)) ++
    s.dieList.map (fun d => if shareOf i d > 0x200000 then some (0x0C, 0x1FF, d) else none) ++
    [vfail 0x0D (dieBeyond i.cfg n)] ++
    s.dieList.map (fun d => if admissionBad i.cfg n d then some (0x0D, 0x1FF, d) else none))

/-- The sections that step 7 ignores and counts (R78). -/
def ignoredSections (i : Image) : Nat := (i.dir.filter (fun e => !knownType e.type && !e.required)).length

/-! ## The harness store (R81, R85) -/

/-- Whether a word of a die's store slot is uncorrectable. -/
def State.storeBad (s : State) (d slot : Nat) : Bool :=
  let lo := wordKey d (0x600000 + 0x200000 * slot)
  s.errs.any (fun e => decide (lo ≤ e.1) && decide (e.1 < lo + 0x40000) && (eccDecode e.2).1 == .uncorrectable)

/-- A slot written with an image: its words have new check bits. -/
def State.storeWrite (s : State) (slot : Nat) : State :=
  s.eachDie (fun d a =>
    let lo := wordKey d (0x600000 + 0x200000 * slot)
    { a with errs := tblDrop (fun k => decide (lo ≤ k) && decide (k < lo + 0x40000)) a.errs })

/-- An image of a slot verified again: an uncorrectable word fails the section hashes of its die (R85). -/
def State.verifyStored (s : State) (i : Image) (slot : Nat) : Option VFail :=
  match s.dieList.find? (fun d => s.storeBad d slot) with
  | some d => firstFail [verifyFormat i false, some (7, 0x1FF, d)]
  | none => s.verify i false

end Sys2Proof.Machine
end

