-- ==== Sys2Proof/Machine/ArcOps.lean ====
section
/-! DEFINITION. The latency bound and the pace monitors (chapter 01, R56 to R65, R70). -/

namespace Sys2Proof.Machine

/-- BOUND_NS for a pace (R58); no pace gives the largest value of the field. -/
def boundOf (p : Nat) : Nat := if p = 0 then 0xFFFF else min 0xFFFF (180 + ceilDiv (820 * 1024) p)

/-- BOUND_NS takes a value for the pace `p` it assumes from now on (R58, R62, R66). -/
def State.setBound (s : State) (b p : Nat) : State :=
  let old := s.get 0 F.ARC_LAT_BOUND_BOUND_NS
  let was := s.flag 0 F.ARC_LAT_BOUND_ABOVE_HEADLINE
  let valid := s.flag 0 F.ARC_LAT_BOUND_VALID
  let above := decide (b > 1000)
  let s := ((s.put 0 F.ARC_LAT_BOUND_BOUND_NS b).putFlag 0 F.ARC_LAT_BOUND_ABOVE_HEADLINE above).putFlag 0 F.ARC_LAT_BOUND_VALID true
  let s := { s with arc := { s.arc with pace := p, hold := none }, boundLog := (b, s.now 0) :: s.boundLog }
  let s := if valid ∧ b > old then s.eachDie (fun d a => a.putFlag d F.ARC_STATUS_BOUND_RISE true) else s
  if above ∧ !was then s.eachDie (fun d a => a.putFlag d F.ARC_STATUS_HEADLINE_LOST true) else s

/-- P: the lowest ARC_PACE.PACE of the package (R58). -/
def State.lowPace (s : State) : Nat := (s.dieList.map (fun d => s.get d F.ARC_PACE_PACE)).foldl min 0xFFFF

/-- BOUND_NS after a window (R59, R60, R65): raised at once for a lower pace; a higher pace starts or continues the hold. -/
def State.boundWindow (s : State) : State :=
  if s.dieList.all (fun d => s.arc.done.contains d) then
    let p := s.lowPace
    if !s.flag 0 F.ARC_LAT_BOUND_VALID ∨ p < s.arc.pace then s.setBound (boundOf p) p
    else if p = s.arc.pace then { s with arc := { s.arc with hold := none } }
    else { s with arc := { s.arc with hold := some (min p (s.arc.hold.getD p)) } }
  else s

/-- The count of point `k` of the PACE curve of monitor `m` (R877). -/
def State.pacePoint (s : State) (d m k : Nat) : Int := s.calEff d 0x20 (8 * m + k)

/-- The segment of the curve that a count falls in, the end segments beyond the ends (R877). -/
def State.paceSeg (s : State) (d m : Nat) (c : Int) : Nat :=
  ((List.range 6).filter (fun k => decide (s.pacePoint d m (k + 1) ≤ c))).length

/-- The pace that a monitor reports for a count, on the line through two points (R877). The rounding to a whole unit is open (log
entry 122), and so is the value where two points of the curve hold one count. -/
def State.paceOf (s : State) (d m : Nat) (c : Int) : Nat × State :=
  let k := s.paceSeg d m c
  let c0 := s.pacePoint d m k
  let den := s.pacePoint d m (k + 1) - c0
  if den ≤ 0 then s.freeVal 65536
  else
    let num := (768 + 128 * (k : Int)) * den + 128 * (c - c0)
    if num % den = 0 then ((clampInt 0 65535 (num / den)).toNat, s)
    else
      let f := s.freeVal 2
      ((clampInt 0 65535 (num / den + f.1)).toNat, f.2)

/-- The paces of a die's monitors for their counts. -/
def State.paces (s : State) (d m : Nat) : List Nat → List Nat × State
  | [] => ([], s)
  | c :: r =>
    let p := s.paceOf d m c
    let q := p.2.paces d (m + 1) r
    (p.1 :: q.1, q.2)

/-- Before VCORE is lowered toward a code, BOUND_NS rises to the bound of the expected pace at that code, the least PACE_V of the
package (R61). -/
def State.preRaise (s : State) (code : Nat) : State :=
  let pe := ((s.dieList.map (fun d => (s.calEff d 0x23 code).toNat)).foldl min 0xFFFF)
  let b := boundOf pe
  if s.get 0 F.ARC_LAT_BOUND_BOUND_NS < b then s.setBound b pe else s

end Sys2Proof.Machine
end

