-- ==== Sys2Proof/Machine/Vat.lean ====
section
/-! DEFINITION. The Vat's commands (chapter 03): bank grants, byte accesses, scrubbing, the burnisher, clears and the
March C- engine. -/

namespace Sys2Proof.Machine

/-! ## Bank arbitration -/

/-- The first port at or after a pointer, modulo 16, that holds a request of a class (R146). -/
def grantPort (rs : List BankReq) (classA : Bool) (ptr : Nat) : Option Nat :=
  ((List.range 16).map (fun i => (ptr + i) % 16)).find? (fun p => rs.any (fun r => r.classA == classA && r.port == p))

/-- The oldest request of a port and class taken from a list. -/
def takeReq (classA : Bool) (p : Nat) : List BankReq → Option (BankReq × List BankReq)
  | [] => none
  | r :: rs =>
    if r.classA = classA ∧ r.port = p then some (r, rs)
    else (takeReq classA p rs).map (fun x => (x.1, r :: x.2))

/-- A corrected word written back: what the read delivers, with fresh check bits (R166). -/
def State.scrubWord (s : State) (d off : Nat) : State :=
  let m := s.wordErr d off
  if (eccDecode m).1 = .corrected then (s.writeBytes d off (s.eccBytes d off 8)).setWordErr d off 0 else s

/-- A SCRUB_WRITE of a line: each correctable word is re-read inside the locked pair and written back (R166). -/
def State.scrubLine (s : State) (d off : Nat) : State :=
  (List.range 8).foldl (fun a i => a.scrubWord d (off + 8 * i)) s

/-- An access performed indivisibly (R138); a read answers its bytes and whether they are good (R163). -/
def State.perform (s : State) (d : Nat) (r : BankReq) : State :=
  match r.kind with
  | .lineRead off n lead =>
    let q := s.portRead d off n r.source lead
    { q.2.2 with resp := ⟨q.1.map BitVec.toNat, !q.2.1⟩ }
  | .wordWrite off bs => { s.vatStore d off bs with resp := ⟨[], true⟩ }
  | .mergeWrite off bs =>
    let q := s.lineWrite d off r.source bs
    { q.2 with resp := ⟨[], !q.1⟩ }
  | .scrubWrite off => s.scrubLine d off

/-- The grant of a bank that finished an access (R146, R149): class A, then class B, then a maintenance request. No
request is granted while the Vat is cleared or retained (R169, R182). -/
def State.grant (s : State) (d b : Nat) : State :=
  let k := s.bank d b
  if s.flag d F.VAT_STATUS_CLEAR_BUSY ∨ s.flag d F.VAT_STATUS_RETAINED then s
  else match grantPort k.reqs true k.ptrA with
    | some p => match takeReq true p k.reqs with
      | some (r, rs) => (s.setBank d b { k with reqs := rs, ptrA := (p + 1) % 16 }).perform d r
      | none => s
    | none => match grantPort k.reqs false k.ptrB with
      | some p => match takeReq false p k.reqs with
        | some (r, rs) => (s.setBank d b { k with reqs := rs, ptrB := (p + 1) % 16 }).perform d r
        | none => s
      | none => match k.maint with
        | off :: rest => (s.setBank d b { k with maint := rest }).scrubLine d off
        | [] => s

def execBankGrant (d : Die) (b : Unit16) (s : State) : Res := onDie s d (s.grant d b)

/-- The part of a transfer in one line, as the access kind it takes (R138, R140). -/
def lineAccess (off lead : Nat) (write : Option (List Byte)) (n : Nat) : BankAccess :=
  match write with
  | none => .lineRead off n lead
  | some bs => if wholeWords off n then .wordWrite off bs else .mergeWrite off bs

/-- A transfer's requests entered at its banks in ascending address order (R140, R145). -/
def State.enqueue (s : State) (d m t off lead : Nat) (write : Option (List Byte)) (n : Nat) : Nat → State
  | 0 => s
  | fuel + 1 =>
    if n = 0 then s
    else
      let c := firstPart off n
      let b := bankOf off
      let k := s.bank t b
      let r : BankReq := ⟨bankPort s.dieCount d m t, m == 42, masterSource m, lineAccess off lead (write.map (·.take c)) c⟩
      (s.setBank t b { k with reqs := k.reqs ++ [r] }).enqueue d m t (off + c) lead (write.map (·.drop c)) (n - c) fuel

/-- A byte-addressed access by master `m` of die `d` (R153, R154): checked whole at the master's die; a refused one
changes nothing, and its master receives an error (R156). -/
def execVatByteAccess (d : Die) (m : Fin 43) (t : Die) (off n : Nat) (write : Option (List Byte)) (s : State) : Res :=
  let n := (write.map List.length).getD n
  if t.val < s.dieCount then
    onDie s d (if off + n > 0x1000000 then { s with resp := ⟨[], false⟩ }
    else
      let r := s.vatAllowed d m t off n write.isSome
      if r.1 then r.2.enqueue d m t off (s.leadOf m) write n (n / 64 + 2)
      else { r.2 with resp := ⟨[], false⟩ })
  else .next { s with resp := ⟨[], false⟩ }

def execClassBStarve (d : Die) (s : State) : Res :=
  onDie s d ((s.count d F.VAT_ARB_STARVE_COUNT 1).putFlag d F.VAT_EVENT_STARVE true)

/-- A maintenance request that waited 1 µs enters class B on port P15 (R149). -/
def execMaintPromote (d : Die) (b : Unit16) (s : State) : Res :=
  let k := s.bank d b
  onDie s d (match k.maint with
    | off :: rest => s.setBank d b { k with maint := rest, reqs := k.reqs ++ [⟨15, false, 0, .scrubWrite off⟩] }
    | [] => s)

def execScrubWrite (d : Die) (b : Unit16) (s : State) : Res :=
  let k := s.bank d b
  onDie s d (match k.maint with
    | off :: rest => (s.setBank d b { k with maint := rest }).scrubLine d off
    | [] => s)

/-! ## The burnisher -/

/-- Whether a March C- run holds a bank. -/
def State.marchHolds (s : State) (d b : Nat) : Bool :=
  s.flag d F.VAT_MARCH_STATUS_BUSY && s.getBit d F.VAT_MARCH_CTRL_BANKS b &&
    !s.getBit d F.VAT_MARCH_STATUS_BANKS_DONE b && !s.getBit d F.VAT_STATUS_BANK_FAIL b

/-- Whether the walker of a bank walks (R165, R167). -/
def State.walks (s : State) (d b : Nat) : Bool :=
  s.flag d F.VAT_BURN_CTRL_EN && !s.flag d F.VAT_STATUS_RETAINED && !s.flag d F.VAT_STATUS_CLEAR_BUSY &&
    !s.marchHolds d b

/-- One line read by the walker of a bank; the index starts again at 0 after 16,383 (R165). -/
def State.walk (s : State) (d b : Nat) : State :=
  let k := s.bank d b
  let off := lineOff b k.walker
  let s := (s.eccWords d off 0 8).2
  let k := s.bank d b
  let next := (k.walker + 1) % 16384
  let s := s.setBank d b { k with walker := next }
  let s := if next = 0 then s.putFlag d F.VAT_EVENT_BURN_PASS true else s
  if b = 0 then
    let s := s.put d F.VAT_BURN_PASS_POS next
    if next = 0 then s.count d F.VAT_BURN_PASS_PASSES 1 else s
  else s

def State.burnRead (s : State) (d b : Nat) : State :=
  let s := s.putFlag d F.VAT_STATUS_BURN_RUN ((List.range 16).any (fun i => s.walks d i))
  if s.walks d b then s.walk d b else s

def execBurnisherRead (d : Die) (b : Unit16) (s : State) : Res := onDie s d (s.burnRead d b)

/-! ## Clears -/

/-- A clear completed: access is granted from here on; its duration is not modelled (a free value). -/
def State.clearDone (s : State) (d : Nat) : State :=
  let f := s.freeVal 65536
  let s := f.2.putFlag d F.VAT_STATUS_CLEAR_BUSY false
  let s := (s.putFlag d F.VAT_CLEAR_DONE true).put d F.VAT_CLEAR_TIME_US f.1
  s.putFlag d F.VAT_EVENT_CLEAR_DONE true

/-- Every byte of die `d`'s Vat zero, with zero check bits (R168); the harness store is held apart. -/
def State.zeroVat (s : State) (d : Nat) : State :=
  { s with mem := tblDrop (fun k => k / 0x1000000 == d) s.mem, errs := tblDrop (fun k => k / 0x200000 == d) s.errs }

/-- Every byte of bank `b` of die `d` zero (R173). -/
def State.zeroBank (s : State) (d b : Nat) : State :=
  { s with mem := tblDrop (fun k => k / 0x1000000 == d && bankOf k == b) s.mem,
           errs := tblDrop (fun k => k / 0x200000 == d && bankOf (k % 0x200000 * 8) == b) s.errs }

/-- A clear of every area begun with a cause code (R169). -/
def State.beginClear (s : State) (d cause : Nat) : State :=
  let s := (s.zeroVat d).putFlag d F.VAT_STATUS_CLEAR_BUSY true
  (s.put d F.VAT_CLEAR_CAUSE cause).putFlag d F.VAT_CLEAR_DONE false

/-! ## The March C- engine -/

/-- The first failure of a run captured in VAT_MARCH_FAIL (R177). -/
def State.marchFail (s : State) (d b : Nat) (f : MarchFault) : State :=
  let s := s.putFlag d F.VAT_EVENT_MARCH_FAIL true
  if s.flag d F.VAT_MARCH_FAIL_VALID then s
  else
    let s := ((s.put d F.VAT_MARCH_FAIL_BANK b).put d F.VAT_MARCH_FAIL_LINE f.line).put d F.VAT_MARCH_FAIL_WORD f.word
    let s := (s.put d F.VAT_MARCH_FAIL_ELEMENT f.element).putFlag d F.VAT_MARCH_FAIL_BACKGROUND f.solidZero
    (s.putFlag d F.VAT_MARCH_FAIL_SPARE f.spare).putFlag d F.VAT_MARCH_FAIL_VALID true

/-- The run stops on a bank: BANK_FAIL, and in a preserving run a faulty line stays redirected (R177). -/
def State.bankFail (s : State) (d b : Nat) (held : Bool) : State :=
  let s := s.setBit d F.VAT_STATUS_BANK_FAIL b
  if held then s.setBit d F.VAT_MARCH_REPAIR_WORKING_HELD b else s

/-- A fault found in a bank (R176, R177): the first faulty line is mapped to the repair spare, a second one stops the
run on the bank; a faulty spare stops it when the bank needs that spare (the working spare in a preserving run, the
repair spare once a line is mapped). -/
def State.marchFault (s : State) (d b : Nat) (f : MarchFault) : State :=
  let s := s.marchFail d b f
  let k := s.bank d b
  let preserving := !s.flag d F.VAT_MARCH_CTRL_MODE
  if f.spare then
    if (f.line = 0 ∧ preserving) ∨ (f.line = 1 ∧ k.repair.isSome) then s.bankFail d b false else s
  else match k.repair with
    | none => (s.setBank d b { k with repair := some f.line, repairedNow := true }).setBit d F.VAT_MARCH_REPAIR_REPAIRED b
    | some _ => s.bankFail d b preserving

/-- A run begun on the banks of VAT_MARCH_CTRL; both spares of each bank are tested first (R172). -/
def State.marchBegin (s : State) (d : Nat) (spares : List (Nat × MarchFault)) : State :=
  let s := (s.putFlag d F.VAT_MARCH_STATUS_BUSY true).putFlag d F.VAT_STATUS_MARCH_BUSY true
  let s := (s.put d F.VAT_MARCH_STATUS_BANKS_DONE 0).putFlag d F.VAT_MARCH_STATUS_STARTUP false
  let s := s.putFlag d F.VAT_MARCH_FAIL_VALID false
  let s := (List.range 16).foldl (fun a b => a.setBank d b { a.bank d b with marchLine := 0, repairedNow := false }) s
  spares.foldl (fun a e => if a.getBit d F.VAT_MARCH_CTRL_BANKS (e.1 % 16) then a.marchFault d (e.1 % 16) e.2 else a) s

/-- VAT_MARCH_CTRL.START with the MODE and BANKS written (R179): refused while BUSY, outside WAIT_IMAGE and RUN, and
for a destructive run outside WAIT_IMAGE, whose acceptance empties the harness store; a refused request changes nothing but RESULT. -/
def State.marchRequest (s : State) (d : Nat) (destructive : Bool) (banks : Nat) (spares : List (Nat × MarchFault)) : State :=
  let st := s.get 0 F.HAR_STATUS_STATE
  if !s.flag d F.VAT_MARCH_STATUS_BUSY && (st == 1 || (st == 2 && !destructive)) then
    let s := (s.putFlag d F.VAT_MARCH_CTRL_MODE destructive).put d F.VAT_MARCH_CTRL_BANKS banks
    (if destructive then { s with har := { s.har with current := none, staged := none } } else s).marchBegin d spares
  else s.put d F.VAT_MARCH_STATUS_RESULT 5

def execMarchStart (d : Die) (destructive : Bool) (banks : Nat) (spares : List (Nat × MarchFault)) (s : State) : Res :=
  onDie s d (s.marchRequest d destructive banks spares)

/-- A run ends with a RESULT (R173, R177, R180). -/
def State.marchEnd (s : State) (d result : Nat) : State :=
  let s := (s.putFlag d F.VAT_MARCH_STATUS_BUSY false).putFlag d F.VAT_STATUS_MARCH_BUSY false
  (s.put d F.VAT_MARCH_STATUS_RESULT result).putFlag d F.VAT_EVENT_MARCH_DONE true

/-- The run stopped after the copy-back in progress; repairs stay (R180). -/
def State.marchAbort (s : State) (d : Nat) : State :=
  if s.flag d F.VAT_MARCH_STATUS_BUSY then s.marchEnd d 4 else s

def execMarchAbort (d : Die) (s : State) : Res := onDie s d (s.marchAbort d)

/-- One line of a preserving run tested and copied back (R174, R176). -/
def execMarchLineDone (d : Die) (b : Unit16) (fault : Option MarchFault) (s : State) : Res :=
  onDie s d (if s.marchHolds d b ∧ s.flag d F.VAT_MARCH_CTRL_MODE = false then
    let k := s.bank d b
    let s := match fault with
      | some f => s.marchFault d b { f with line := if f.spare then f.line else k.marchLine }
      | none => s
    let k := s.bank d b
    if k.marchLine = 16383 then s.setBit d F.VAT_MARCH_STATUS_BANKS_DONE b
    else s.setBank d b { k with marchLine := k.marchLine + 1 }
  else s)

/-- The banks of a run. -/
def State.marchBanks (s : State) (d : Nat) : List Nat :=
  (List.range 16).filter (fun b => s.getBit d F.VAT_MARCH_CTRL_BANKS b)

/-- The RESULT of a run that completed: 1 PASS, 2 PASS_REPAIRED, 3 FAIL. `failed` are the banks it stopped on. -/
def State.marchResult (s : State) (d : Nat) (failed : List Nat) : Nat :=
  if !failed.isEmpty then 3 else if (s.marchBanks d).any (fun b => (s.bank d b).repairedNow) then 2 else 1

/-- A run ends on its banks: a destructive run leaves every word zero (R173), and a bank on which the run passed is no
longer failed. `failed` are the banks on which it stopped in this run. -/
def State.marchFinish (s : State) (d : Nat) (failed : List Nat) : State :=
  let destructive := s.flag d F.VAT_MARCH_CTRL_MODE
  let s := (s.marchBanks d).foldl (fun a b =>
    if failed.contains b then a
    else
      let a := if destructive then a.zeroBank d b else a
      (a.clrBit d F.VAT_STATUS_BANK_FAIL b).setBit d F.VAT_MARCH_STATUS_BANKS_DONE b) s
  s.marchEnd d (s.marchResult d failed)

/-- The faults that a destructive run found come with its end; a preserving run's came line by line. -/
def execMarchDone (d : Die) (faults : List (Nat × MarchFault)) (s : State) : Res :=
  onDie s d (if s.flag d F.VAT_MARCH_STATUS_BUSY then
    let s := faults.foldl (fun a e => if a.marchHolds d (e.1 % 16) then a.marchFault d (e.1 % 16) e.2 else a) s
    s.marchFinish d ((s.marchBanks d).filter (fun b => s.getBit d F.VAT_STATUS_BANK_FAIL b &&
      !s.getBit d F.VAT_MARCH_STATUS_BANKS_DONE b))
  else s)

/-- The start-up run on one die (R178): a destructive run over every bank, spare lines included. -/
def State.startupDie (s : State) (d : Nat) (faults : List (Nat × MarchFault)) : State :=
  let s := (s.putFlag d F.VAT_MARCH_CTRL_MODE true).put d F.VAT_MARCH_CTRL_BANKS 0xFFFF
  let s := s.marchBegin d faults
  let s := s.marchFinish d ((List.range 16).filter (fun b => s.getBit d F.VAT_STATUS_BANK_FAIL b))
  let s := (s.putFlag d F.VAT_MARCH_CTRL_MODE false).putFlag d F.VAT_MARCH_STATUS_STARTUP true
  ((s.zeroVat d).put d F.VAT_CLEAR_CAUSE 2).clearDone d

/-- The start-up run on every die, with the faults it finds as (die, (bank, fault)). -/
def execStartupRun (faults : List (Nat × Nat × MarchFault)) (s : State) : Res :=
  onPkg s (if s.pwr.startup then
      let t : State := { s with pwr := { s.pwr with startup := false } }
      t.eachDie (fun d a => a.startupDie d ((faults.filter (fun e => e.1 == d)).map (·.2)))
    else s)

end Sys2Proof.Machine
end

