-- ==== Sys2Proof/Machine/PwrOps.lean ====
section
/-! DEFINITION. Power domains and package power states (chapter 17): fencing, draining and powering up a domain, the VCORE
sequencer, and the entry and exit orders of RETAIN and OFF-WAKE. -/

namespace Sys2Proof.Machine

/-- The power sequencer's state changed. -/
def State.modPwr (s : State) (f : Pwr → Pwr) : State := { s with pwr := f s.pwr }

/-! ## Domains (R753, R755, R758) -/

/-- Domains 24 to 39, 43, 44, 48 and 49, on whenever the die holds state (R755). -/
def baseDoms : List Nat := (List.range 16).map (· + 24) ++ [43, 44, 48, 49]

def State.domPlan (s : State) (d n : Nat) : Nat := s.get d (F.PWR_DOM_PLAN n)

/-- Whether RETAIN turns a domain off (Domain states per package state). -/
def State.retainOff (s : State) (d n : Nat) : Bool :=
  decide (n < 24) || n == 40 || n == 41 || (n == 42 && s.domPlan d 42 != 3)

/-- Units of a domain as UIDs. -/
def State.domUids (s : State) (d n : Nat) : List Nat :=
  if n < 8 then clUid d n :: (List.range 8).map (fun i => engUid d (8 * n + i))
  else if n < 16 then [ethUid d (n - 8)]
  else if n < 20 then [serUid d (2 * (n - 16)), serUid d (2 * (n - 16) + 1)]
  else if n < 24 then (List.range 4).map (fun i => uid d 5 (4 * (n - 20) + i))
  else if n = 40 ∨ n = 41 then (if s.domDown d 40 && s.domDown d 41 then [ttUid d] else [])
  else if n = 42 then uid d 0x0B 0 :: (List.range 32).map (fun ch => uid d 6 ch)
  else if 45 ≤ n ∧ n ≤ 47 then [uid d 0x0C (n - 45)]
  else []

/-- Whether the sequencer is to turn a domain off: in the package state that it enters or holds, or by plan OFF. -/
def State.wantsOff (s : State) (d n : Nat) : Bool :=
  match s.pwr.phase with
  | .offDrain => n != 49
  | .drain | .lower => s.retainOff d n
  | _ => if s.get 0 F.PWR_STATUS_STATE = 2 then s.retainOff d n else s.domPlan d n == 0 && !baseDoms.contains n

/-! ## Powering a domain down (R765 to R769) -/

/-- A lace group stopped: engines out, FIFOs emptied, its output pins at their safe levels (R614). -/
def State.laceGroupOff (s : State) (d q : Nat) : State :=
  let s := (List.range 4).foldl (fun a i =>
    let e := 4 * q + i
    (a.setLceState d e 0).setLce d e LaceEng.reset) s
  (List.range 8).foldl (fun a i => a.safePin d (8 * q + i)) s

/-- A time-triggered channel silent; with both, the buffers are released and the group is OFF (R504). -/
def State.ttChannelOff (s : State) (d ch : Nat) : State :=
  let s := s.modTt d (fun g => { g with
    sending := g.sending.filter (fun e => e.1 != ch), active := g.active.filter (fun e => e.1 != ch),
    relay := g.relay.filter (fun e => e.1 != ch) })
  if s.domDown d 40 ∧ s.domDown d 41 ∧ s.ttState d ≠ 0 then (s.ttReleaseAll d).ttTo d 0 else s

/-- What the units of a domain do at its fence; the drains that end at once are carried out here (R766, R767). -/
def State.fenceEffects (s : State) (d n : Nat) : State :=
  if n < 8 then (List.range 8).foldl (fun a i => a.mbxEmpty d (8 * n + i)) s
  else if n < 16 then (s.linkDown d (n - 8) 5).flushPort d (n - 8)
  else if n < 20 then [2 * (n - 16), 2 * (n - 16) + 1].foldl (fun a p =>
    if a.serState d p = 0 then a.serFlush d p else (a.serFlush d p).serTo d p 6) s
  else if n < 24 then s.laceGroupOff d (n - 20)
  else if n = 40 ∨ n = 41 then s.ttChannelOff d (n - 40)
  else if n = 42 then (List.range 32).foldl (fun a ch => a.dmaReset d ch) s
  else s

/-- A domain fenced: requests are refused from here on, and frames bound to its outputs are dropped (R766, R543). -/
def State.fenceDom (s : State) (d n : Nat) : State :=
  if s.domState d n = 2 then
    let s := (s.setDom d n 3).fenceEffects d n
    (List.range 114).foldl (fun a o => if (outDomains o).contains n ∧ a.outDown d o then a.clearOutput d o else a) s
  else s

/-- Whether a fenced domain has drained (R767). -/
def State.drained (s : State) (d n : Nat) : Bool :=
  if n < 8 then (List.range 8).all (fun i =>
    let g := s.eng d (8 * n + i)
    (g.st == .wait || g.st == .reset || g.st == .off) && g.sb.isEmpty && g.group.isEmpty)
  else if n = 42 then (List.range 32).all (fun ch => (s.dmaCh d ch).run.isNone)
  else true

/-- Affected units of a re-harness that lose their shadow are not ready (R764, R118). -/
def State.unready (s : State) (us : List Nat) : State :=
  let st := s.get 0 F.HAR_STATUS_STATE
  if st = 5 ∨ st = 6 ∨ st = 7 then
    let left := s.har.ready.filter (fun u => !us.contains u)
    let s := { s with har := { s.har with ready := left } }
    s.put 0 F.HAR_READY_READY left.length
  else s

/-- The engines, scratchpads and banks of a cluster lose what they hold; open groups are discarded (R293, R200). -/
def State.clusterOff (s : State) (d c : Nat) : State :=
  let s := (List.range 16).foldl (fun a i =>
    if (a.slot d c i).used then (a.countDrop d 7 (a.frame (a.slot d c i).frame).tid).freeSlot d c i else a) s
  let s := (List.range 8).foldl (fun a i =>
    let e := 8 * c + i
    let a := (a.modEng d e (fun g => { g with rx := none })).discardTx d e
    let g := a.eng d e
    let a := (g.sb.filterMap (fun i => match i with | .send f => some f | _ => none)).foldl (fun b f => b.freeFrame f) a
    a.setEng d e { Eng.power with mbxIn := g.mbxIn, mbxHeld := g.mbxHeld, mbxOut := g.mbxOut, bellHeld := g.bellHeld }) s
  let s := ((s.loadBank d c 0 []).loadBank d c 1 []).spadZero d c 0 81920
  let s := s.setCl d c Cl.reset
  let s := (s.put d (F.AWL_CL_STATUS_ACTIVE_BANK c) 0).putFlag d (F.AWL_CL_STATUS_SHADOW_VALID c) false
  let s := ((s.putFlag d (F.AWL_CL_STATUS_BUSY c) false).putFlag d (F.AWL_CL_STATUS_IBANK_BUSY c) false).clrBit d F.AWL_STATUS_CL_RUN c
  s.clrBit d F.AWL_STATUS_CL_RESET c

/-- The domain's power ramps up, at most four of a die at once (R770). -/
def State.powerUp (s : State) (d n : Nat) : State :=
  if s.domState d n = 0 then (s.setDom d n 1).modPwr (fun p => { p with rampQ := p.rampQ ++ [(d, n)] }) else s

/-- A domain's drain has ended: its writers are marked, its crossings reset and its power removed (R765, R767, R769). A DEMAND
cluster with a wake request is powered up again at once (R772). -/
def State.domOff (s : State) (d n : Nat) : State :=
  let s := s.fenceUnits (s.domUids d n)
  let s := s.unready (s.domUids d n)
  let s := if n < 8 then s.clusterOff d n
    else if n < 20 ∧ 16 ≤ n then [2 * (n - 16), 2 * (n - 16) + 1].foldl (fun a p => a.serTo d p 0) s
    else if n = 42 then (s.portReset d true).put d F.PCI_STATUS_GEN 0
    else s
  let s := (s.setDom d n 0).modPwr (fun p => { p with crossings := p.crossings ++ [(d, n)], rampQ := p.rampQ.filter (· != (d, n)) })
  let demanded := n < 8 && s.domPlan d n == 2 && s.flag d (F.PWR_DOM_WAKE_PEND n) && s.pwr.phase == .idle &&
    decide (s.get 0 F.PWR_STATUS_STATE < 2)
  if demanded then s.powerUp d n else s

/-! ## Powering a domain up (R770) -/

/-- In safe state a unit that is loaded stays silent (R811, R813). -/
def State.holdSafe (s : State) (d n : Nat) : State :=
  if !s.flag 0 F.RCV_STATUS_SAFE then s
  else if 8 ≤ n ∧ n < 16 then s.putFlag d (F.ETH_PORT_STATUS_SAFE (n - 8)) true
  else if 20 ≤ n ∧ n < 24 then (List.range 4).foldl (fun a i =>
    if lceState a d (4 * (n - 20) + i) < 2 then a else a.setLceState d (4 * (n - 20) + i) 6) s
  else if n = 40 ∨ n = 41 then s.ttTo d 8
  else s

/-- Units whose reload ends after the instant start in the new configuration and are late (R116, R117). -/
def State.lateLoads (s : State) (us : List Nat) : State :=
  us.foldl (fun a u => if a.onOld u then (a.lateUnit u).unitDone u else a) s

/-- A domain's ramp has ended: its units are reloaded from CURRENT and the fence is removed; a cluster's fence is removed when its
reset completes. -/
def State.domUp (s : State) (d n : Nat) : State :=
  let s := s.modPwr (fun p => { p with rampQ := p.rampQ.filter (· != (d, n)) })
  if n < 8 then s.clusterReset d n
  else
    let s := (s.setDom d n 2).unfenceUnits (s.domUids d n)
    let s := s.lateLoads (s.domUids d n)
    let c := s.cfg
    let s := if n < 16 then (s.loadEthPort c d (n - 8)).loadGates c d (n - 8)
      else if n < 20 then [2 * (n - 16), 2 * (n - 16) + 1].foldl (fun a p => (a.loadSerPort c d p).startSer c d p) s
      else if n < 24 then ((List.range 4).foldl (fun a i => a.lceLoad c d (4 * (n - 20) + i)) s).autostart d
      else if n = 40 ∨ n = 41 then
        (let s := s.loadTt c d
         if (ttEntry c d).mode = 0 ∨ s.ttState d ≠ 0 then s else s.ttTo d 1)
      else if n = 42 then s.loadPcie c d
      else s
    s.holdSafe d n

/-- The plan codes of a configuration (R756); the domains of R755 are always ON. -/
def planOf (c : HarnessCfg) (d n : Nat) : Nat :=
  if baseDoms.contains n then 1
  else (((c.power.dies.find? (fun b => b.die == d)).map (·.plan)).getD []).getD n 0

/-- The domains of plan ON (or ON_RETAIN), and demanded clusters, powered up. -/
def State.planUp (s : State) : State :=
  s.eachDie (fun d a => (List.range 50).foldl (fun b n =>
    if b.domPlan d n % 2 = 1 ∨ (b.domPlan d n = 2 ∧ b.flag d (F.PWR_DOM_WAKE_PEND n)) then b.powerUp d n else b) a)

/-! ## VCORE (R759 to R761, R893, R900) -/

/-- The code that requests a voltage, rounded up to a step (log entry 123). -/
def vidCode (mv : Nat) : Nat := min 30 (ceilDiv (mv - 600) 10)
def State.actCode (s : State) : Nat := vidCode (max 730 (min 900 (s.get 0 F.PWR_VCORE_ACT_MV)))
def State.trimCode (s : State) : Nat := vidCode (max 600 (min 719 (s.get 0 F.PWR_VCORE_TRIM_MV)))
def State.vid (s : State) : Nat := s.get 0 F.PWR_VCORE_VID

/-- The sequencer steps toward a code; BOUND_NS is raised first when that lowers VCORE (R61). -/
def State.vcoreTo (s : State) (code : Nat) : State :=
  let s := s.modPwr (fun p => { p with target := code })
  if code < s.vid then s.preRaise code else s

/-- One code step toward the target. -/
def State.codeStep (s : State) : State :=
  let v := s.vid
  if v < s.pwr.target then s.put 0 F.PWR_VCORE_VID (v + 1)
  else if s.pwr.target < v then s.put 0 F.PWR_VCORE_VID (v - 1)
  else s

/-! ## Package states (R760 to R764, R786) -/

def State.pstate (s : State) : Nat := s.get 0 F.PWR_STATUS_STATE

/-- A transition toward a state begins. -/
def State.beginMove (s : State) (target : Nat) (phase : PwrPhase) : State :=
  (((s.putFlag 0 F.PWR_STATUS_BUSY true).put 0 F.PWR_STATUS_TARGET target)).modPwr (fun p => { p with phase := phase })

/-- A transition has completed; `rec` writes the STATE record now (R760, R792). -/
def State.endMove (s : State) (new : Nat) (rec : Bool) : State :=
  let old := s.pstate
  let s := ((s.put 0 F.PWR_STATUS_STATE new).putFlag 0 F.PWR_STATUS_BUSY false).put 0 F.PWR_STATUS_TARGET new
  let s := (s.modPwr (fun p => { p with phase := .idle })).eachDie (fun d a => a.putFlag d F.PWR_EVENT_STATE_CHG true)
  if rec then s.powRec 0 1 0x60 new 0 old 0 else s

/-- Whether RETAIN, OFF_WAKE and CYCLE are refused (R762). -/
def State.powerRefused (s : State) : Bool :=
  let h := s.get 0 F.HAR_STATUS_STATE
  (decide (5 ≤ h) && decide (h ≤ 9)) || s.dieList.any (fun d => s.flag d F.ERC_STATUS_GASP_BUSY)

/-- RETAIN entered: the recorders close their segments and stop, and every domain that RETAIN turns off is fenced (R763). -/
def State.retainEntry (s : State) : State :=
  let old := s.pstate
  let s := s.beginMove 2 .drain
  let s := s.eachDie (fun d a => a.closeSegment d 0)
  let s := s.powRec 0 1 0x60 2 0 old 0
  let s := s.eachDie (fun d a => a.putFlag d F.ERC_STATUS_RUN false)
  s.eachDie (fun d a => (List.range 50).foldl (fun b n =>
    if b.retainOff d n then (if b.domState d n = 1 then b.domOff d n else b.fenceDom d n) else b) a)

/-- OFF-WAKE entered: the recorders write out what they hold, the STATE record is written, and every domain but 49 is fenced
(R786). The records left are those that the 100 ms were too short for. A recorder in retention works again for this (log entry 124). -/
def State.offEntry (s : State) (cycle : Bool) : State :=
  let old := s.pstate
  let s := (s.beginMove 4 .offDrain).modPwr (fun p => { p with cycle := cycle })
  let s := if old = 2 then s.eachDie (fun d a => (a.setDom d 44 2).putFlag d F.ERC_STATUS_RUN true) else s
  let s := s.eachDie (fun d a => a.closeSegment d 0)
  let s := s.powRec 0 1 0x60 4 0 old 0
  s.eachDie (fun d a => (List.range 49).foldl (fun b n =>
    if baseDoms.contains n then b else if b.domState d n = 1 then b.domOff d n else b.fenceDom d n) a)

/-- RETAIN left: VCORE is stepped up first (R764). -/
def State.retainExit (s : State) : State := (s.beginMove 0 .raise).vcoreTo s.actCode

/-- A command of PWR_CTRL acted on while no transition is in progress (Power-state transitions). -/
def State.powerAct (s : State) (c : Nat) : State :=
  let st := s.pstate
  if c = 1 then
    (if st = 1 then (s.beginMove 0 .vcore).vcoreTo s.actCode else if st = 2 then s.retainExit else s)
  else if c = 2 then (if st = 0 then (s.beginMove 1 .vcore).vcoreTo s.trimCode else s)
  else if s.powerRefused then s.putFlag 0 F.PWR_EVENT_CMD_REFUSED true
  else if c = 3 then (if st < 2 then s.retainEntry else s)
  else if c = 4 then s.offEntry false
  else if c = 5 then s.offEntry true
  else s

/-- What was held while a transition was in progress is acted on (R762). -/
def State.takeHeld (s : State) : State :=
  let s' := (s.modPwr (fun p => { p with held := none })).putFlag 0 F.PWR_STATUS_HELD false
  if s.pwr.phase ≠ .idle then s
  else match s.pwr.held with
    | some (.cmd c) => s'.powerAct c
    | some .wake => if s'.pstate = 2 then s'.retainExit else s'
    | none => s

def State.hold (s : State) (h : HeldCmd) : State :=
  (s.modPwr (fun p => { p with held := some h })).putFlag 0 F.PWR_STATUS_HELD true

/-- A command of PWR_CTRL: refused, held while a transition or a package reset is in progress, or acted on. -/
def State.powerCmd (s : State) (c : Nat) : State :=
  if 3 ≤ c ∧ s.powerRefused then s.putFlag 0 F.PWR_EVENT_CMD_REFUSED true
  else if s.pwr.phase ≠ .idle ∨ s.rcv.pkg ≠ .idle then s.hold (.cmd c)
  else s.powerAct c

/-- RETAIN entry after the last drain: March C- runs end, the banks and recorders go to retention, VCORE is lowered (R763). -/
def State.retainHold (s : State) : State :=
  let s := s.eachDie (fun d a =>
    let a := (a.marchAbort d).putFlag d F.VAT_STATUS_RETAINED true
    ((List.range 16).map (· + 24) ++ [44]).foldl (fun b n => b.setDom d n 4) a)
  (s.modPwr (fun p => { p with phase := .lower })).vcoreTo 0

/-- RETAIN exit after VCORE is up: banks and recorders at full voltage, walkers at index 0, domains of plan ON powered up, the
recorders resume with a RETAIN_EXIT mark, the Skiver and the buckets start anew (R764, R241, R543, R751). -/
def State.retainDone (s : State) : State :=
  let s := s.eachDie (fun d (a : State) =>
    let a := a.putFlag d F.VAT_STATUS_RETAINED false
    let a := ((List.range 16).map (· + 24) ++ [44]).foldl (fun (b : State) n => b.setDom d n 2) a
    let a := (List.range 16).foldl (fun b k => b.setBank d k { b.bank d k with walker := 0 }) a
    let a := (a.putFlag d F.ERC_STATUS_RUN (a.recP.continued && !a.flag d F.ERC_STATUS_END)).markRec d 8 0
    { a with skvBack := a.skvBack ++ [(d, a.now d)] })
  let s := { s with host := { s.host with buckets := [], pools := [] } }
  let s := s.eachDie (fun d a => (List.range 256).foldl (fun b k =>
    if b.flag d (F.SWC_TSH_CFG_EN k) then b.setShaper d k ⟨tshByte * b.get d (F.SWC_TSH_BURST_BURST k), b.monoQ16 d⟩ else b) a)
  (s.endMove 0 true).planUp

/-- Every rail off but VAON: only the always-on domain, its fields and the copies of domain 48 for the Pommel port stay (R787,
R818). -/
def State.enterOffWake (s : State) : State :=
  let copies := [s.get 0 F.HAR_STATUS_STATE, s.get 0 F.HAR_ERROR_CODE,
    (s.dieList.filter (fun d => s.get d F.VAT_STATUS_BANK_FAIL != 0)).foldl (fun a d => a + 2 ^ d) 0,
    s.get 0 F.HAR_BOOT_A_CODE, s.get 0 F.HAR_BOOT_B_CODE]
  let s := s.modPwr (fun p => { p with
    mode := .offWake, phase := .idle, held := none, en := false, railsWait := false, rampQ := [], crossings := [], low := [] })
  { s with rcv := { s.rcv with copies := copies } }

/-- A transition goes on when its drains have ended. -/
def State.powerAdvance (s : State) : State :=
  match s.pwr.phase with
  | .drain =>
    if s.dieList.all (fun d => (List.range 50).all (fun n => !s.retainOff d n || s.domState d n == 0)) then s.retainHold else s
  | .offDrain =>
    if s.dieList.all (fun d => (List.range 49).all (fun n => baseDoms.contains n || s.domState d n == 0)) then s.enterOffWake else s
  | _ => s

/-- VCORE has reached its target: the transition that waited for it completes. -/
def State.vcoreReached (s : State) : State :=
  match s.pwr.phase with
  | .vcore => (s.endMove (s.get 0 F.PWR_STATUS_TARGET) true).takeHeld
  | .lower => (s.endMove 2 false).takeHeld
  | .raise => s.retainDone.takeHeld
  | _ => s

/-- The next code step, or the end of the stepping (R759, R900). -/
def State.vcoreNext (s : State) : State := if s.vid = s.pwr.target then s.vcoreReached else s.codeStep

/-- Whether VCORE on die 0 reads within ±10 mV of the present request. -/
def State.vcoreOk (s : State) : Bool :=
  let req := 600 + 10 * s.vid
  let mv := s.get 0 F.PWR_RAIL_VCORE_MV
  decide (mv ≤ req + 10) && decide (req ≤ mv + 10)

/-- The targets of CURRENT or of a write of PWR_VCORE take effect (R893, R761). -/
def State.retarget (s : State) : State :=
  match s.pwr.phase with
  | .idle =>
    if s.pstate = 0 then (if s.flag 0 F.PWR_VCORE_ADAPT ∧ s.pwr.target ≤ s.actCode ∧ 13 ≤ s.pwr.target then s else s.vcoreTo s.actCode)
    else if s.pstate = 1 then s.vcoreTo s.trimCode
    else s
  | .vcore => s.vcoreTo (if s.get 0 F.PWR_STATUS_TARGET = 0 then s.actCode else s.trimCode)
  | _ => s

/-- The POWER section (R756, R791, R893): bounds, targets, wake settings and plan codes. -/
def State.applyPower (s : State) (c : HarnessCfg) (boot : Bool) : State :=
  let p := c.power
  let s := s.puts 0 [(F.PWR_VCORE_ACT_MV, orSel p.actMv 750), (F.PWR_VCORE_TRIM_MV, orSel p.trimMv 600), (F.PWR_VCORE_ADAPT, bit p.adapt)]
  let s := s.eachDie (fun d a => a.puts d [(F.PWR_BOUNDS_SENT_US, orSel p.sentUs 10), (F.PWR_BOUNDS_DRAIN_US, orSel p.drainUs 20),
    (F.PWR_BOUNDS_IDLE_MS, orSel p.idleMs 100)])
  let s := s.puts 0 [(F.PWR_WAKE_WAKE_EN, bit p.wakeEn), (F.PWR_WAKE_POM_EN, bit p.pomEn), (F.PWR_WAKE_MBX_EN, bit p.mbxEn),
    (F.PWR_WAKE_WAKE_RETAIN, bit p.wakeRetain), (F.PWR_WAKE_CYCLE_MS, orSel p.cycleMs 100)]
  let s := s.eachDie (fun d a => (List.range 50).foldl (fun b n => b.put d (F.PWR_DOM_PLAN n) (planOf c d n)) a)
  if boot then s else s.retarget

end Sys2Proof.Machine
end

