-- ==== Sys2Proof/Machine/ReinOps.lean ====
section
/-! DEFINITION. The shared operations of the Rein (chapter 19): sending and routing messages, enumeration, management results,
mirroring, time exchange and breaks; and the states of welt links. -/

namespace Sys2Proof.Machine

/-! ## Addresses and messages -/

/-- The latched address, 31 while unenumerated (R838). -/
def State.reinAddr (s : State) : Nat := s.get 0 F.REI_STATUS_ADDR
def State.enumerated (s : State) : Bool := s.reinAddr != 31
def State.reinHead (s : State) : Bool := s.flag 0 F.REI_STATUS_HEAD

/-- Whether a port's link is up. -/
def State.reinUp (s : State) (up : Bool) : Bool := s.flag 0 (if up then F.REI_STATUS_UP_LINK else F.REI_STATUS_DOWN_LINK)

/-- The kinds that a port with MISMATCH still carries (R838). -/
def mismatchCarries (kind : Nat) : Bool := kind == 1 || kind == 9 || kind == 10

def State.setRein (s : State) (r : ReinSt) : State := { s with rein := r }

/-- A message sent: it enters the port's replay buffer of 32 (R836). -/
def State.reinPut (s : State) (up : Bool) (m : ReinMsg) : State :=
  let keep (l : List ReinMsg) : List ReinMsg := (l ++ [m]).drop (l.length + 1 - 32)
  s.setRein (if up then { s.rein with up := keep s.rein.up } else { s.rein with down := keep s.rein.down })

/-- A management transaction of this package ended (R843): 1 OK, 2 NOROUTE, 3 DENIED, 4 TIMEOUT, 5 FAULT. -/
def State.mgmtEnd (s : State) (result : Nat) : State :=
  let s := (s.put 0 F.REI_MGMT_CTRL_RESULT result).putFlag 0 F.REI_MGMT_CTRL_GO false
  let s := (s.putFlag 0 F.REI_MGMT_CTRL_BUSY false).putFlag 0 F.REI_EVENT_MGMT_DONE true
  s.setRein { s.rein with mgmtTo := none }

/-- A mirror message dropped (R841, R845, R853). -/
def State.mirrorLost (s : State) : State := (s.count 0 F.REI_MIRROR_DROP_COUNT 1).putFlag 0 F.REI_EVENT_MIRROR_DROP true

/-- Whether a message for `dst` leaves by the upstream port (R837). -/
def State.reinWay (s : State) (dst : Nat) : Bool := decide (dst < s.reinAddr)

/-- Whether a port carries a message now (R838, R841). -/
def State.reinCarries (s : State) (up : Bool) (kind : Nat) : Bool :=
  s.reinUp up && !(up && s.flag 0 F.REI_STATUS_MISMATCH && !mismatchCarries kind)

/-- A message that a port cannot carry is dropped (R841): a MIRROR is counted, and a MGMT_REQ ends with NOROUTE at its sender. -/
def State.reinLost (s : State) (m : ReinMsg) : State :=
  if m.kind = 6 then s.mirrorLost
  else if m.kind = 4 then
    if m.src = s.reinAddr then s.mgmtEnd 2
    else
      let up := s.reinWay m.src
      if s.reinCarries up 5 then s.reinPut up ⟨5, m.src, s.reinAddr, leBytes 4 2 ++ leBytes 4 0⟩ else s
  else s

/-- A message leaves by a port. -/
def State.reinSend (s : State) (up : Bool) (m : ReinMsg) : State :=
  if s.reinCarries up m.kind then s.reinPut up m else s.reinLost m

/-- A message of an enumerated package to another package (R837, R839). -/
def State.reinRoute (s : State) (m : ReinMsg) : State :=
  if s.enumerated = false ∨ m.dst = s.reinAddr then s else s.reinSend (s.reinWay m.dst) m

/-! ## Enumeration (R838 to R840) -/

/-- ENUM with the next address on the downstream port. -/
def State.sendEnum (s : State) : State :=
  if s.enumerated ∧ s.reinUp false then s.reinPut false ⟨1, 31, s.reinAddr, leBytes 1 (s.reinAddr + 1)⟩ else s

/-- The address in REI_STATUS, and in ARC_CONFIG of every die. -/
def State.setAddr (s : State) (a : Nat) : State :=
  (s.put 0 F.REI_STATUS_ADDR a).eachDie (fun d b => b.put d F.ARC_CONFIG_PKG_ADDR a)

/-- An address latched; ENUM once after it. -/
def State.latchAddr (s : State) (a : Nat) : State :=
  ((s.setAddr a).putFlag 0 F.REI_EVENT_ENUMERATED true).sendEnum

/-- An ENUM received on the upstream port (ENUM handling). -/
def State.enumRx (s : State) (a : Nat) : State :=
  if s.reinHead then s.putFlag 0 F.REI_EVENT_HEAD_CONFLICT true
  else if s.enumerated then (if a = s.reinAddr then s else s.putFlag 0 F.REI_STATUS_MISMATCH true)
  else if a = 31 then s.putFlag 0 F.REI_EVENT_CHAIN_LONG true
  else if 1 ≤ a ∧ a ≤ 30 then s.latchAddr a
  else s

/-- The Rein reset of this package: its address is cleared, and a head latches 0 (R838, R840). -/
def State.reinClear (s : State) : State :=
  let s := (s.setAddr 31).putFlag 0 F.REI_STATUS_MISMATCH false
  if s.reinHead then s.latchAddr 0 else s

/-- A Rein reset passed on downstream, then this package's own (R840; log entry 129). -/
def State.reinResetNow (s : State) : State :=
  let a := s.reinAddr
  (if s.reinUp false then s.reinPut false ⟨9, 31, a, []⟩ else s).reinClear

/-! ## Links (R838, R841, R842) -/

/-- The LINK class of a die: active while one of its welt links is DOWN or, on die 0, a Rein link is broken; `new` when one goes down now. -/
def State.linkFault (s : State) (d u : Nat) (new : Bool := false) : State :=
  let on := [0, 1, 2].any (fun k => s.get d (F.WLT_LINK_STATE k) == 3) || (d == 0 && (s.rein.brokenUp || s.rein.brokenDown))
  if on && new && s.getBit d F.RCV_FAULT_ACTIVE 10 then s.latchFault d 10 u else s.condFault d 10 u on

/-- The REIN sources of the TIME section become valid or lost (Time sources). -/
def State.reinSources (s : State) (ok : Bool) : State :=
  [0, 1, 2, 3].foldl (fun (b : State) i => if srcKind b i = 2 then b.setSource i ok else b) s

/-- A Rein link comes up: ENUM downstream, and the REIN sources upstream. -/
def State.reinLink (s : State) (up : Bool) : State :=
  if s.reinUp up then s
  else if up then
    let s := (s.putFlag 0 F.REI_STATUS_UP_LINK true).setRein { s.rein with brokenUp := false }
    (s.linkFault 0 (uid 0 0x0D 0)).reinSources true
  else
    let s := (s.putFlag 0 F.REI_STATUS_DOWN_LINK true).setRein { s.rein with brokenDown := false }
    (s.linkFault 0 (uid 0 0x0D 0)).sendEnum

/-- A break: what is queued toward the broken side is dropped (R841). -/
def State.reinBroken (s : State) (up : Bool) : State :=
  if s.reinUp up = false then s
  else
    let s := if up then ((s.putFlag 0 F.REI_STATUS_UP_LINK false).putFlag 0 F.REI_EVENT_BREAK_UP true).setRein
        { s.rein with brokenUp := true, up := [], syncAt := none }
      else ((s.putFlag 0 F.REI_STATUS_DOWN_LINK false).putFlag 0 F.REI_EVENT_BREAK_DOWN true).setRein
        { s.rein with brokenDown := true, down := [] }
    let s := s.linkFault 0 (uid 0 0x0D 0) true
    let lost := s.mirrorQ.filter (fun m => m.peer != s.reinAddr && s.reinWay m.peer == up)
    let s := lost.foldl (fun (b : State) _ => b.mirrorLost) { s with mirrorQ := s.mirrorQ.filter (fun m => !(m.peer != s.reinAddr && s.reinWay m.peer == up)) }
    if up then s.reinSources false else s

/-- STATUS on a port: [0] UNSYNC, [1] enumerated. -/
def State.sendStatus (s : State) (up : Bool) : State :=
  if s.reinUp up then
    s.reinPut up ⟨10, 31, s.reinAddr, leBytes 4 (s.get 0 F.TIM_STATUS_UNSYNC + 2 * bit s.enumerated)⟩
  else s

/-- STATUS received; the upstream UNSYNC bit is that of R559. -/
def State.statusRx (s : State) (up : Bool) (x : Nat) : State :=
  if up then ({ s.putFlag 0 F.REI_STATUS_UP_UNSYNC (x.testBit 0) with servo := { s.servo with upUnsync := x.testBit 0 } }).syncTime else s

/-- TIME_SYNC with its departure stamp (R842). -/
def State.sendSync (s : State) : State :=
  if s.reinUp true ∧ [0, 1, 2, 3].any (fun i => srcKind s i == 2) ∧ s.reinCarries true 2 then
    (s.reinPut true ⟨2, 31, s.reinAddr, leBytes 8 (s.now 0)⟩).setRein
      { (s.reinPut true ⟨2, 31, s.reinAddr, leBytes 8 (s.now 0)⟩).rein with syncAt := some (s.now 0) }
  else s

/-- TIME_SYNC received from downstream: answered from the package's own time base. -/
def State.syncRx (s : State) (up : Bool) : State :=
  if up ∨ s.reinUp false = false then s
  else s.reinPut false ⟨3, 31, s.reinAddr, leBytes 8 (s.now 0) ++ leBytes 8 (s.now 0)⟩

/-- The number of whole ns in a number of ps: the ns below or above it where it is no whole number (a free value). -/
def State.wholeNs (s : State) (ps : Int) : Int × State :=
  if ps % 1000 = 0 then (ps / 1000, s)
  else
    let f := s.freeVal 2
    (ps / 1000 + f.1, f.2)

/-- TIME_RESP received from upstream: the link delay and the measurement of the REIN source (R842). -/
def State.respRx (s : State) (up : Bool) (t2 t3 : Nat) : State :=
  match up, s.rein.syncAt with
  | true, some t1 =>
    let t4 := s.now 0
    let delay : Int := (((t4 : Int) - t1) - ((t3 : Int) - t2)) * 500 + s.calEff 0 7 0
    let s := (s.setRein { s.rein with syncAt := none }).put 0 F.REI_LINK_DELAY_DELAY_PS (clampInt 0 (2 ^ 24 - 1) delay).toNat
    let o := s.wholeNs (((t3 : Int) - t4) * 1000 + delay)
    match firstIdx (fun i => srcKind s i == 2) [0, 1, 2, 3] with
    | some i => o.2.measure i o.1
    | none => o.2
  | _, _ => s

/-! ## Management (R843, R844) -/

/-- The package and die that a global address names (R41). -/
def gaddrPkg (g : Nat) : Nat := g / 2 ^ 43 % 32
def gaddrDie (g : Nat) : Nat := g / 2 ^ 40 % 8

/-- GO: one transaction at a time; an unenumerated package takes no part in management (R839, R843). -/
def State.mgmtStart (s : State) : State :=
  if s.flag 0 F.REI_MGMT_CTRL_BUSY then s
  else
    let g := s.get 0 F.REI_MGMT_ADDR_GADDR
    let dst := if gaddrPkg g = 31 then s.reinAddr else gaddrPkg g
    let s := (s.putFlag 0 F.REI_MGMT_CTRL_GO true).putFlag 0 F.REI_MGMT_CTRL_BUSY true
    let s := (s.put 0 F.REI_MGMT_CTRL_RESULT 0).setRein { s.rein with mgmtTo := some dst }
    if s.enumerated = false then s.mgmtEnd 2
    else s.reinRoute ⟨4, dst, s.reinAddr, leBytes 8 g ++ leBytes 4 (s.get 0 F.REI_MGMT_DATA_DATA) ++
      leBytes 4 (s.get 0 F.REI_MGMT_CTRL_WRITE)⟩

/-- A response received: only that of the transaction in progress counts (R844). -/
def State.mgmtAnswer (s : State) (src result data : Nat) : State :=
  if s.flag 0 F.REI_MGMT_CTRL_BUSY ∧ (s.rein.mgmtTo = some src ∨ result = 2) then
    (if result = 1 ∧ s.flag 0 F.REI_MGMT_CTRL_WRITE = false then s.put 0 F.REI_MGMT_DATA_DATA data else s).mgmtEnd result
  else s

/-- The answer of this package to a request of package `src`. -/
def State.mgmtReply (s : State) (src result data : Nat) : State :=
  if src = s.reinAddr then s.mgmtAnswer src result data else s.reinRoute ⟨5, src, s.reinAddr, leBytes 4 result ++ leBytes 4 data⟩

/-- Whether a request is denied: the three conditions of R844. -/
def State.mgmtDenied (s : State) (src g : Nat) : Bool :=
  !(nbit s.cfg.rein.mgmtFrom src && decide (g % 2 ^ 40 / 0x800000 = 0x40000000 / 0x800000) && decide (g % 4 = 0) &&
    decide (gaddrDie g < s.dieCount))

/-! ## Mirroring (R845 to R847) -/

/-- The front of the outbound mirror queue sent. -/
def State.mirrorDrain (s : State) : State :=
  match s.mirrorQ with
  | [] => s
  | m :: r =>
    let s := { s with mirrorQ := r }
    if s.enumerated = false ∨ m.peer = s.reinAddr ∨ s.reinCarries (s.reinWay m.peer) 6 = false then s.mirrorLost
    else (s.reinPut (s.reinWay m.peer) ⟨6, m.peer, m.src, leBytes 4 m.dpi ++ leBytes 4 m.type ++ m.bytes⟩).count 0 F.REI_MIRROR_TX_COUNT 1

/-- The checks of R846 on a mirror update at its home die. -/
def mirrorReason (descUe : Bool) (c : Desc) (type : Nat) (prev : DpRec) (prevOk : Bool) : Option Nat :=
  if descUe then some 6
  else if c.unused then some 2
  else if c.type != type then some 5
  else if prevOk && qOrigin prev.quality == 2 then some 7
  else none

/-- A refused mirror update; the issuer that it logs is a free value. -/
def State.refuseMirror (s : State) (d reason dpi : Nat) : State :=
  let f := s.freeVal 65536
  f.2.refuseCommit d reason dpi f.1 false

/-- The record that an accepted mirror update stores (R847). -/
def State.mirrorRec (s : State) (c : Desc) (r prev : DpRec) (prevOk : Bool) : DpRec :=
  let q := r.quality - (r.quality &&& 2)
  { r with
    seq := if prevOk then nextSeq prev.seq else 1
    quality := if s.flag 0 F.TIM_STATUS_UNSYNC then q ||| 2048 else q
    owner := c.tid + 4096 * s.epoch }

/-- A MIRROR message applied at its destination package (R846, R847). -/
def State.mirrorRx (s : State) (src dpi type : Nat) (bytes : List Byte) : State :=
  if !s.cfg.rein.mirrors.any (fun m => m.inbound && m.peer == src && decide (m.firstDpi ≤ dpi) && decide (dpi < m.firstDpi + m.count)) then
    s.count 0 F.REI_MIRROR_REFUSED_COUNT 1
  else
    let d := s.homeDie dpi
    let slot := dpSlot dpi
    if !s.dpiOk dpi then s.refuseMirror d 1 dpi
    else
      let c := s.readDesc d slot 1
      let prev := c.2.2.readRec d slot 1
      match mirrorReason c.2.1 c.1 type prev.1 (!prev.2.1) with
      | some r => (if r = 7 then prev.2.2 else c.2.2).refuseMirror d r dpi
      | none =>
        let p := c.2.2.prevRec d slot
        p.2.2.updateRec d slot c.1 (p.2.2.mirrorRec c.1 (DpRec.parse bytes) p.1 p.2.1)

/-- What an empty queue does: a tick, and the front of the mirror queue leaves (log entry 2). -/
def State.idle (s : State) : State :=
  let s := s.tick
  if s.powered then s.mirrorDrain else s

/-! ## Welt links (R824, R829 to R831) -/

/-- The peer of link `k` (Welt topology). -/
def State.weltPeer (s : State) (d k : Nat) : Nat :=
  if s.dieCount = 2 then d ^^^ 1 else if s.dieCount = 4 then d ^^^ (k + 1) else d ^^^ 2 ^ k

/-- Whether the variant uses link `k`. -/
def State.weltUsed (s : State) (d k : Nat) : Bool := s.getBit d F.WLT_STATUS_USED k

def State.weltEnd (s : State) (d k : Nat) : WeltEnd := tblGet s.welt WeltEnd.reset (d * 4 + k)
def State.setWelt (s : State) (d k : Nat) (e : WeltEnd) : State := { s with welt := tblSet s.welt WeltEnd.reset (d * 4 + k) e }

/-- The state of one end: 0 OFF, 1 TRAINING, 2 UP, 3 DOWN. -/
def State.weltTo (s : State) (d k st : Nat) : State :=
  let s := s.put d (F.WLT_LINK_STATE k) st
  if st = 2 then s.setBit d F.WLT_STATUS_UP k else s.clrBit d F.WLT_STATUS_UP k

/-- An operation on both ends of a link. -/
def State.bothEnds (s : State) (d k : Nat) (f : State → Nat → State) : State := f (f s d) (s.weltPeer d k)

/-- A link up: its packets start again at sequence number 0. -/
def State.weltIsUp (s : State) (d k : Nat) : State :=
  s.bothEnds d k (fun a x =>
    let e := a.weltEnd x k
    (((a.weltTo x k 2).setWelt x k { e with expect := 0, fails := 0 }).putFlag x F.WLT_EVENT_LINK_UP true).linkFault x (uid x 0x0C k))

/-- A link down at both ends (R830). -/
def State.weltIsDown (s : State) (d k : Nat) : State :=
  s.bothEnds d k (fun a x => ((a.weltTo x k 3).putFlag x F.WLT_EVENT_LINK_DOWN true).linkFault x (uid x 0x0C k) true)

/-- Every used link of the package trains (R831). -/
def State.weltTrain (s : State) : State :=
  s.eachDie (fun d a => [0, 1, 2].foldl (fun (b : State) k =>
    if b.weltUsed d k then
      let b := (b.weltTo d k 1).setWelt d k WeltEnd.reset
      b.linkFault d (uid d 0x0C k)
    else b) a)

end Sys2Proof.Machine
end

