-- ==== Sys2Proof/Machine/HarOps.lean ====
section
/-! DEFINITION. The harness logic (chapter 02): applying an image, the states of a re-harness, its aborts, the commit instant and the
switching of affected units. -/

namespace Sys2Proof.Machine

/-! ## Registers of the harness logic -/

def State.harState (s : State) : Nat := s.get 0 F.HAR_STATUS_STATE
def State.harTo (s : State) (st : Nat) : State := s.put 0 F.HAR_STATUS_STATE st

/-- A refusal, failure or abort recorded (R84). -/
def State.harErr (s : State) (f : VFail) : State :=
  s.puts 0 [(F.HAR_ERROR_CODE, f.1), (F.HAR_ERROR_SECTION, f.2.1), (F.HAR_ERROR_DIE, f.2.2)]

/-- A command refused with a code (R101, R104). -/
def State.harRefuse (s : State) (code : Nat) : State := (s.harErr (code, 0x1FF, 0)).putFlag 0 F.HAR_EVENT_CMD_REFUSED true
def State.harBusy (s : State) : State := s.harRefuse 0x0F

/-- The harness logic's own part changed. -/
def State.modHar (s : State) (f : Har → Har) : State := { s with har := f s.har }

/-- Affected units of the prepared re-harness (R102). -/
def State.affected (s : State) : List Nat := ((s.har.staged.map (·.cfg.admission.affected)).getD []).eraseDups

/-- The affected units that have reported ready, with HAR_READY. -/
def State.setReady (s : State) (us : List Nat) : State :=
  (s.modHar (fun h => { h with ready := us })).put 0 F.HAR_READY_READY us.length

/-- The guard time in ns (HAR_GUARD). -/
def State.guardNs (s : State) : Nat := 1000 * max 10 (min 1000000 (s.get 0 F.HAR_GUARD_GUARD_US))
def State.commitTime (s : State) : Nat := (s.rd 0 R.HAR_COMMIT_TIME).toNat

/-! ## The slots (R81, R85, R111) -/

/-- The STAGED slot emptied. -/
def State.dropStaged (s : State) : State :=
  let s := (s.modHar (fun h => { h with staged := none })).puts 0 [(F.HAR_STATUS_STAGED_VALID, 0), (F.HAR_STAGED_ID_ID, 0)]
  s.eachDie (fun d a => a.putFlag d F.HAR_DIE_STATE_STAGED_OK false)

/-- A verified image in the STAGED slot. -/
def State.stage (s : State) (i : Image) (src : Nat) : State :=
  let s := (s.storeWrite (1 - s.har.slot)).modHar (fun h => { h with staged := some i, stagedSrc := src })
  let s := (s.puts 0 [(F.HAR_STATUS_STAGED_VALID, 1), (F.HAR_STAGED_ID_ID, i.hdr.imageId)]).harTo 4
  s.eachDie (fun d a => a.putFlag d F.HAR_DIE_STATE_STAGED_OK true)

/-! ## Applying an image (R90, R91) -/

/-- The sections of the configuration in the order of R90; the units of a domain take theirs as the domain powers up. -/
def State.applySections (s : State) (i : Image) : State :=
  let c := i.cfg
  let s := (s.applyTime c none).applyPower c true
  let s := s.eachDie (fun d a => a.applyRegions c d)
  let s := s.applyTenants i none
  let s := s.eachDie (fun d a => a.applyDatapoints c d)
  let s := s.eachDie (fun d a => a.applyRecorder c d)
  let s := s.eachDie (fun d a => (a.applyPlacement c d).copyBlocks c d)
  let s := s.eachDie (fun d a => (a.applySwitch d).applyShapers c none d)
  let s := s.applyCalibration c
  s.eachDie (fun d a => ((a.loadPads c d).loadPcie c d).lcePinCfg c d)

/-- An image applied after a re-verification that failed breaks the guarantee unless it is the one before (R808). -/
def State.imageCond (s : State) (i : Image) : State :=
  match s.rcv.before with
  | none => s
  | some b =>
    let s : State := { s with rcv := { s.rcv with before := none } }
    if b.1 = i.hdr.imageId ∧ b.2 = i.sig then s else s.breakCond 1

/-- A verified image applied, from a source with SRC's code. -/
def State.applyImage (s : State) (i : Image) (src : Nat) : State :=
  let s := s.modHar (fun h => { h with current := some i, retiring := none, unswitched := [], late := [], ready := [] })
  let s := (s.count 0 F.HAR_ERROR_IGNORED (ignoredSections i)).applySections i
  let s := (s.puts 0 [(F.HAR_EPOCH_EPOCH, 0), (F.HAR_EPOCH_COUNT, 0), (F.HAR_IMAGE_ID_ID, i.hdr.imageId), (F.HAR_STATUS_SRC, src),
    (F.HAR_STATUS_VALID, 1), (F.HAR_STATUS_LATE, 0), (F.HAR_EVENT_LOADED, 1), (F.PCI_STATUS_BOOT, 0)]).harTo 2
  let s := s.eachDie (fun d a => a.putFlag d F.HAR_DIE_STATE_CURRENT_OK true)
  (s.imageCond i).planUp.retarget

/-! ## Loads (R86 to R89, R113, R124) -/

/-- A load begins; the image that the STAGED slot held is gone. -/
def State.loadStart (s : State) (src : LoadSrc) : State :=
  ((if s.har.staged.isSome then s.dropStaged else s).modHar (fun h => { h with loading := some src })).harTo 3

/-- A load ended with a refusal; `id` is the IMAGE_ID of the record. -/
def State.loadRefused (s : State) (f : VFail) (id : Nat) : State :=
  let s := ((s.harErr f).putFlag 0 F.HAR_EVENT_LOAD_FAIL true).modHar (fun h => { h with loading := none })
  let s := s.harRecord 3 f.1 s.epoch s.epoch 0 id 0 0 0xFFFF 0
  s.harTo (if s.har.current.isSome then 2 else 1)

/-- A load's image has arrived: verified, then applied at once in WAIT_IMAGE or staged. -/
def State.loadArrived (s : State) (i : Image) (src : Nat) : State :=
  match s.verify i false with
  | some f => s.loadRefused f i.hdr.imageId
  | none =>
    let s := s.modHar (fun h => { h with loading := none })
    if s.har.current.isSome then
      ((s.count 0 F.HAR_ERROR_IGNORED (ignoredSections i)).stage i src).putFlag 0 F.HAR_EVENT_LOADED true
    else ((s.storeWrite 0).modHar (fun h => { h with slot := 0 })).applyImage i src

/-! ## Aborts (R105, R113, R114, R122) -/

/-- The re-harness ended before its instant: shadows discarded, the STAGED slot intact. -/
def State.harAborted (s : State) (code count first : Nat) : State :=
  let s := ((s.count 0 F.HAR_ABORTS_COUNT 1).putFlag 0 F.HAR_EVENT_ABORTED true).harErr (code, 0x1FF, 0)
  let s := s.harRecord 2 code s.epoch s.epoch s.commitTime (s.get 0 F.HAR_STAGED_ID_ID) (s.get 0 F.HAR_READY_AFFECTED) count first 0
  let s := s.eachDie (fun d a => (List.range 8).foldl (fun b c => b.putFlag d (F.AWL_CL_STATUS_SHADOW_VALID c) false) a)
  let s := (s.setReady []).put 0 F.HAR_READY_AFFECTED 0
  (s.modHar (fun h => { h with group := false, groupReports := [], groupDecision := none })).harTo 4

/-- A reset or SAFE_N before the instant (R114). -/
def State.resetAbort (s : State) : State := if 5 ≤ s.harState ∧ s.harState ≤ 8 then s.harAborted 0x12 0 0xFFFF else s

/-! ## Preparing (R102, R103, R283, R898) -/

/-- Every affected unit is ready: PREPARED. -/
def State.checkPrepared (s : State) : State :=
  if s.affected.all (fun u => s.har.ready.contains u) ∧ s.harState = 5 then (s.putFlag 0 F.HAR_EVENT_PREPARED true).harTo 6 else s

def State.prepare (s : State) : State :=
  let s := ((s.put 0 F.HAR_READY_AFFECTED s.affected.length).setReady []).harTo 5
  s.checkPrepared

/-- The type, instance and die of a UID. -/
def uidType (u : Nat) : Nat := u / 0x100 % 0x20
def uidInst (u : Nat) : Nat := u % 0x100
def uidDie (u : Nat) : Nat := u / 0x2000

/-- The cells of die `d` that a cluster's new pack-state slice covers are free (R898). -/
def State.sliceFree (s : State) (c : HarnessCfg) (p : PlaceEntry) : Bool :=
  let lo := 0xF00000 - 0x40000 * psOf c p.die + p.psOff
  let hi := lo + 0x10000 * p.psQ
  !s.cells.any (fun e => e.2.used && e.1 / 65536 == p.die &&
    decide (lo < 0xA00000 + 128 * (e.1 % 65536 + 1)) && decide (0xA00000 + 128 * (e.1 % 65536) < hi))

/-- Whether a slice lies in the range that the new PS adds to pack state. -/
def State.sliceAdded (s : State) (c : HarnessCfg) (p : PlaceEntry) : Bool :=
  decide (0xF00000 - 0x40000 * psOf c p.die + p.psOff < 0xA00000 + 128 * s.get p.die F.VAT_PART_CELLS)

/-- The shadow of a cluster: its pack in the bank that it does not execute from, and its configuration block where the slice was no
pack state before. -/
def State.shadowCluster (s : State) (c : HarnessCfg) (d k : Nat) : Option State :=
  if (s.cl d k).ibank.isSome ∨ s.domState d k ≠ 2 then none
  else
    let s' := (s.writePack c d k (1 - s.get d (F.AWL_CL_STATUS_ACTIVE_BANK k))).putFlag d (F.AWL_CL_STATUS_SHADOW_VALID k) true
    match placeOf c d k with
    | none => some s'
    | some p => if s.sliceFree c p then some (if s.sliceAdded c p then s'.copyBlock c p else s') else none

/-- A unit reports ready (R103). -/
def State.shadowReady (s : State) (u : Nat) : State :=
  match s.har.staged with
  | none => s
  | some i =>
    if ¬ (5 ≤ s.harState ∧ s.harState ≤ 7) ∨ s.affected.contains u = false ∨ s.har.ready.contains u then s
    else if uidType u = 1 then
      (match s.shadowCluster i.cfg (uidDie u) (uidInst u) with
       | some t => (t.setReady (t.har.ready ++ [u])).checkPrepared
       | none => s)
    else (s.setReady (s.har.ready ++ [u])).checkPrepared

/-! ## Switching of units (R108, R109, R403, R477, R504, R613, R671) -/

/-- Whether a unit is at its switch boundary. A cluster bank follows its engines. -/
def State.switchReady (s : State) (u : Nat) : Bool :=
  let d := uidDie u
  let k := uidInst u
  match uidType u with
  | 0 => (s.eng d k).st == .wait || ((s.eng d k).st == .reset && !(s.cl d (k / 8)).resetting.testBit (k % 8))
  | 1 => (List.range 8).all (fun i => !s.onOld (engUid d (8 * k + i)))
  | 2 => (s.ethPort d k).tx.isNone && (s.ethPort d k).rxCut.isNone
  | 3 => (s.ser d k).tx.isNone
  | 4 =>
    let g := s.ttCfg d
    !s.ttSynced d || (s.ttClock d - g.base) % ((max (g.cycles * g.cycle) 1 : Nat) : Int) == 0
  | 5 => !(lceState s d k == 3 || lceState s d k == 4) || (s.lce d k).atEnd
  | 6 => (s.dmaCh d k).run.isNone
  | _ => true

/-- An Ethernet port under its new entry: the link goes down where R403 lists the change. -/
def State.switchEth (s : State) (d p : Nat) : State :=
  let e := ethEntry s.cfg d p
  let same := s.get d (F.ETH_PORT_CFG_MODE p) == e.mode && s.get d (F.ETH_PORT_CFG_ADV p) == e.adv && s.flag d (F.ETH_PORT_CFG_MS_FORCE p) == e.msForce &&
    s.flag d (F.ETH_PORT_CFG_MS_MASTER p) == e.msMaster && s.get d (F.ETH_MAC_ADDR_ADDR p) == e.mac && s.get d (F.ETH_PORT_CFG_RED p) == e.red
  let s := if same then s else s.linkDown d p 3
  (s.loadEthPort s.cfg d p).loadGates s.cfg d p

/-- A serial port under its new entry. -/
def State.switchSer (s : State) (old : HarnessCfg) (d p : Nat) : State :=
  let c := s.cfg
  let a := serEntry old d p
  let b := serEntry c d p
  let timing := a.mode == b.mode && a.elec == b.elec && a.pair == b.pair && a.nom == b.nom && a.data == b.data && a.format == b.format
  let tt (x : HarnessCfg) : List TtcanEntry × List TtcanTrig :=
    (x.ttcan.filter (fun e => e.die == d && e.port == p), x.ttTrigs.filter (fun e => e.die == d && e.port == p))
  if !timing then ((s.serFlush d p).loadSerRegs c d p).startSer c d p
  else
    let s := if tt old = tt c then s
      else (s.ser d p).excl.foldl (fun (x : State) e => x.serDrop d p e.2 (F.SER_TX_DROP_FLUSH_COUNT p)) s
    s.loadSerRegs c d p

/-- A group under its new matrix. -/
def State.switchTt (s : State) (old : HarnessCfg) (d : Nat) : State :=
  let c := s.cfg
  let a := ttEntry old d
  let b := ttEntry c d
  let same := a.mode == b.mode && a.rate == b.rate && a.cycles == b.cycles && a.cycle == b.cycle && a.tssBits == b.tssBits && a.lead == b.lead &&
    a.branches == b.branches
  let s := s.putFlag d F.TTE_STATUS_MATRIX_LATE false
  if same then
    let own (x : HarnessCfg) (w : Nat) : List TtAssign := x.tt.assigns.filter (fun e => e.die == d && e.window == w && ownCellOf e)
    let s := (s.ttg d).buf.foldl (fun (x : State) e => if own old e.1 = own c e.1 then x else x.emptyBuf d e.1) s
    s.loadTt c d
  else
    let s := s.ttReleaseAll d
    let s := [0, 1].foldl (fun (x : State) ch => (List.range 4).foldl (fun (y : State) br =>
      (y.putFlag d (F.TTE_BR_CUT ch br) false).putFlag d (F.TTE_BR_ADMIN ch br) false) x) s
    let s := s.loadTt c d
    if b.mode = 0 then s.ttTo d 0
    else if s.ttState d = 8 ∨ s.domDown d 40 && s.domDown d 41 then s
    else s.ttListen d

/-- A lace engine under its new program: its pins keep their levels until a step of it, and it starts under R609. -/
def State.switchLace (s : State) (d e : Nat) : State :=
  let c := s.cfg
  let mine (s : State) (p : Nat) : Bool := s.flag d (F.LCE_PIN_CFG_DRIVEN p) && s.get d (F.LCE_PIN_CFG_DRIVER p) == e
  let old := (List.range 32).filter (mine s)
  let safe := lceState s d e == 6
  let s := s.lceLoad c d e
  let s := s.lcePinSome c d (fun p => old.contains p || (c.lace.progs.any (fun g => g.die == d && g.engine == e &&
    (List.range 8).any (fun o => g.outmap / 16 ^ o % 16 == 8 + p % 8 && p / 8 == e / 4))))
  if safe ∧ 2 ≤ lceState s d e then s.setLceState d e 6 else s

/-- A unit at its boundary switches to the new configuration. -/
def State.switchUnit (s : State) (u : Nat) : State :=
  let d := uidDie u
  let k := uidInst u
  let old := (s.har.retiring.map (·.cfg)).getD default
  match uidType u with
  | 0 => s.engineSwitch d k
  | 1 => s.clusterSwitched d k
  | 2 => (s.switchEth d k).unitDone u
  | 3 => (s.switchSer old d k).unitDone u
  | 4 => (s.switchTt old d).unitDone u
  | 5 => ((s.switchLace d k).unitDone u).autostart d
  | 6 => (s.rebindDma s.cfg (some old) d k).unitDone u
  | _ => s.unitDone u

/-! ## The instant (R95, R107, R111, R112, R155, R239, R587, R671, R714, R746, R898) -/

/-- Notice channels whose EN or TID changes: emptied and disarmed, with a RESYNC notice to come (R239). -/
def State.rechannel (s : State) (old c : HarnessCfg) (d : Nat) : State :=
  (List.range 64).foldl (fun (a : State) n =>
    let t (x : HarnessCfg) : Option Nat := (x.datapoints.channels.find? (fun y => y.1 == d && y.2.1 == n)).map (·.2.2)
    if t old = t c then a
    else
      let a := a.puts d [(F.DPT_NCH_IDX_WR n, 0), (F.DPT_NCH_IDX_RD n, 0), (F.DPT_NCH_IDX_FULL n, 0)]
      let armed := a.skv.filter (fun e => e.1 / 0x20000 == d && e.2.armed && e.2.nch == n)
      let a := armed.foldl (fun (b : State) e => b.setSkv d (e.1 % 0x20000) { e.2 with armed := false }) a
      let key := d * 64 + n
      if (t c).isSome then
        { a.putFlag d F.DPT_STATUS_RESYNC_PENDING true with resync := a.resync.filter (· != key) ++ [key] }
      else { a with resync := a.resync.filter (· != key) }) s

/-- The tenants that the new image no longer has lose their contexts (R671). -/
def State.dropContexts (s : State) (c : HarnessCfg) : State :=
  (s.host.ctx.map (·.1)).foldl (fun (a : State) k =>
    if c.tenants.entries.any (fun e => e.tid == k % 4096 && e.enabled) then a else a.freeCtx (k / 4096) (k % 4096)) s

/-- A PCIe port under its new entry: a change of ROLE, OWNER, MAX_GEN or WIDTH retrains it (R671). -/
def State.switchPcie (s : State) (old c : HarnessCfg) (d : Nat) : State :=
  let e (x : HarnessCfg) : PcieEntry := (x.pcie.find? (fun y => y.die == d)).getD default
  let a := e old
  let b := e c
  let s := if a.role = b.role ∧ a.owner = b.owner ∧ a.maxGen = b.maxGen ∧ a.width = b.width then s else s.portReset d true
  s.loadPcie c d

/-- What a unit that keeps its configuration takes anew from the image: LATE_POLICY and its like, SER_PORT_CTRL, and the tunables of
lace engines (R404, R480, R613). -/
def State.restoreUnits (s : State) (c : HarnessCfg) (d : Nat) : State :=
  let s := (List.range 8).foldl (fun (a : State) p => if a.onOld (ethUid d p) then a else a.loadEthCtrl c d p) s
  let s := (List.range 8).foldl (fun (a : State) p => a.serCtrlReset d p) s
  (c.lace.progs.filter (fun p => p.die == d)).foldl (fun (a : State) p => if a.onOld (uid d 5 p.engine) then a else a.lceTunables p) s

/-- The tables that take their new values for every transaction accepted from the instant on. -/
def State.commitTables (s : State) (i : Image) (old : HarnessCfg) : State :=
  let c := i.cfg
  let s := s.applyTime c (some old)
  let s := s.eachDie (fun d a => a.applyRegions c d)
  let s := (s.dropContexts c).applyTenants i (some old)
  let s := s.eachDie (fun d a => (a.rechannel old c d).applyDatapoints c d)
  let s := s.eachDie (fun d a => a.applyRecorder c d)
  let s := s.eachDie (fun d a => (a.applySwitch d).applyShapers c (some old) d)
  let s := s.applyCalibration c
  let s := s.eachDie (fun d a => ((a.loadPads c d).switchPcie old c d).restoreUnits c d)
  let s := s.eachDie (fun d a => a.lcePinSome c d (fun p =>
    !(a.flag d (F.LCE_PIN_CFG_DRIVEN p) && a.onOld (uid d 5 (a.get d (F.LCE_PIN_CFG_DRIVER p))))))
  (s.applyPower c false).planUp

/-- The COMMIT instant in LOCKED. -/
def State.commitNow (s : State) (i : Image) : State :=
  let old := s.cfg
  let us := s.affected
  let s := (s.put 0 F.HAR_EPOCH_EPOCH ((s.epoch + 1) % 16)).count 0 F.HAR_EPOCH_COUNT 1
  let s := s.modHar (fun h => { h with
    retiring := h.current, current := some i, staged := none, slot := 1 - h.slot, unswitched := us, late := [], instant := s.now 0,
    group := false, groupReports := [], groupDecision := none })
  let s := s.puts 0 [(F.HAR_IMAGE_ID_ID, i.hdr.imageId), (F.HAR_STATUS_SRC, s.har.stagedSrc), (F.HAR_STATUS_STAGED_VALID, 0), (F.HAR_STAGED_ID_ID, 0),
    (F.HAR_STATUS_LATE, 0), (F.HAR_EVENT_COMMITTED, 1)]
  let s := (s.modHar (fun h => { h with ready := [] })).harTo 9
  let s := s.eachDie (fun d a => a.puts d [(F.HAR_DIE_STATE_LATE, 0), (F.HAR_DIE_STATE_STAGED_OK, 0)])
  let s := s.commitTables i old
  let s := s.eachDie (fun d a =>
    if a.onOld (ttUid d) ∧ a.switchReady (ttUid d) = false then (a.putFlag d F.TTE_STATUS_MATRIX_LATE true).lateUnit (ttUid d) else a)
  let s := us.foldl (fun (a : State) u => if a.onOld u ∧ a.switchReady u then a.switchUnit u else a) s
  if us = [] then s.switchingEnd else s

/-- The instant: only in LOCKED, and in a group only with its decision (R122). -/
def State.commitInstant (s : State) : State :=
  match s.har.staged with
  | none => s
  | some i => if s.harState = 8 ∧ (s.har.group = false ∨ s.har.groupDecision = some true) then s.commitNow i else s

/-! ## The guard check and groups (R105, R121 to R123) -/

/-- The abort of a group; a member that was not ready gives its count (R122). -/
def State.groupAbort (s : State) : State :=
  if s.harState = 7 then s.harAborted 0x13 (s.get 0 F.HAR_NOTREADY_COUNT) (s.get 0 F.HAR_NOTREADY_FIRST_UID) else s.harAborted 0x13 0 0xFFFF

/-- A report of the group at its head, the package at address 0. -/
def State.groupReport (s : State) (src : Nat) (ready : Bool) : State :=
  s.modHar (fun h => { h with groupReports := h.groupReports.filter (fun e => e.1 != src) ++ [(src, ready)] })

/-- The decision sent to every member that reported. -/
def State.sendDecision (s : State) (commit : Bool) : State :=
  (s.har.groupReports.filter (fun e => e.1 != 0)).foldl (fun (a : State) e => a.reinRoute ⟨8, e.1, 0, leBytes 4 (bit commit)⟩) s

/-- The head decides once all `members` packages have reported. -/
def State.groupDecide (s : State) (members : Nat) : State :=
  if s.har.groupReports.length < members ∨ s.har.groupDecision.isSome ∨ s.reinAddr ≠ 0 ∨ ¬ s.har.groupReports.any (fun e => e.1 == 0) then s
  else
    let commit := s.har.groupReports.all (·.2)
    let s := s.sendDecision commit
    if commit then s.modHar (fun h => { h with groupDecision := some true }) else s.groupAbort

/-- The guard check in ARMED: LOCKED, or the abort; in a group the result goes to the head, which decides. -/
def State.guardCheck (s : State) (members : Nat) : State :=
  if s.harState ≠ 7 then s
  else
    let left := s.affected.filter (fun u => !s.har.ready.contains u)
    let s := s.puts 0 [(F.HAR_NOTREADY_FIRST_UID, left.headD 0xFFFF), (F.HAR_NOTREADY_COUNT, left.length)]
    let ok := left.isEmpty
    if s.har.group then
      let s := if ok then s.harTo 8 else s
      if s.reinAddr = 0 then (s.groupReport 0 ok).groupDecide members
      else s.reinRoute ⟨7, 0, s.reinAddr, leBytes 4 (bit ok) ++ leBytes 4 (s.guardNs / 1000) ++ leBytes 8 s.commitTime⟩
    else if ok then s.harTo 8
    else s.harAborted 0x10 left.length (left.headD 0xFFFF)

/-- A member's report at the head; other times than the head's count as not ready (R123). -/
def State.reportRx (s : State) (src : Nat) (ready : Bool) (guardUs time members : Nat) : State :=
  if s.reinAddr = 0 ∧ s.har.group ∧ (s.harState = 7 ∨ s.harState = 8) then
    (s.groupReport src (ready && time == s.commitTime && guardUs * 1000 == s.guardNs)).groupDecide members
  else s

/-- The decision at a member. -/
def State.decisionRx (s : State) (commit : Bool) : State :=
  if s.har.group ∧ s.reinAddr ≠ 0 ∧ (s.harState = 7 ∨ s.harState = 8) then
    (if commit ∧ s.harState = 8 then s.modHar (fun h => { h with groupDecision := some true }) else s.groupAbort)
  else s

/-- No decision by the instant, or a report missing at the head in time. -/
def State.groupTimeout (s : State) : State :=
  if s.har.group ∧ s.har.groupDecision = none ∧ (s.harState = 7 ∨ s.harState = 8) then
    (if s.reinAddr = 0 then s.sendDecision false else s).groupAbort
  else s

end Sys2Proof.Machine
end

