-- ==== Sys2Proof/Machine/Harness.lean ====
section
/-! DEFINITION. The commands and events of the harness logic (chapter 02). -/

namespace Sys2Proof.Machine

/-! ## Boot (R86 to R91, R131, R831) -/

/-- What the boot ROM finds in a flash slot: the failed check, none for an image that passes. -/
def State.slotCheck (s : State) (k : Nat) (i : Option Image) : Option VFail :=
  if s.har.flashTimeout.contains k then some (0x0E, 0x1FF, 0)
  else match i with
    | none => some (1, 0x1FF, 0)
    | some i => s.verify { i with delivered := i.hdr.length } (k == 1)

/-- The boot ROM goes on only with a working store and every welt link that it needs (R178, R831). -/
def State.bootReady (s : State) : Bool :=
  s.harState == 0 && !s.pwr.startup && !s.rcv.resetN && !s.islandGated 0 4 && s.rcv.pkg == .idle &&
    s.dieList.all (fun d => !s.flag d F.VAT_STATUS_CLEAR_BUSY && s.get d F.VAT_STATUS_BANK_FAIL == 0 &&
      [0, 1, 2].all (fun k => s.get d (F.WLT_LINK_STATE k) != 3))

/-- The codes of HAR_BOOT and the flash width of the last read. -/
def State.bootCodes (s : State) (a b width : Nat) : State :=
  (s.puts 0 [(F.HAR_BOOT_A_CODE, a), (F.HAR_BOOT_B_CODE, b), (F.HAR_BOOT_WIDTH, width)]).modHar (fun h => { h with flashTimeout := [] })

/-- A boot image applied. -/
def State.bootWith (s : State) (i : Image) (src : Nat) : State :=
  ((s.dropStaged.storeWrite 0).modHar (fun h => { h with slot := 0 })).applyImage i src

/-- The flash width that an image's descriptor asks for. -/
def imgWidth (i : Option Image) : Nat := ((i.map (·.hdr.flash)).getD 0) % 4

/-- The boot flash slots sought in order; without an image the part waits for one. -/
def State.bootSeek (s : State) (a b : Option Image) : State :=
  if s.bootReady = false then s
  else match s.slotCheck 0 a, a with
    | none, some i => (s.bootCodes 0 0 (imgWidth a)).bootWith i 0
    | fa, _ =>
      let fa := fa.getD (1, 0x1FF, 0)
      let s := s.harErr fa
      match s.slotCheck 1 b, b with
      | none, some i => (s.bootCodes fa.1 0 (imgWidth b)).bootWith i 1
      | fb, _ =>
        let fb := fb.getD (1, 0x1FF, 0)
        (((s.harErr fb).bootCodes fa.1 fb.1 (imgWidth b)).putFlag 0 F.PCI_STATUS_BOOT true).harTo 1

def execBootSeek (a b : Option Image) (s : State) : Res := onPkg s (s.bootSeek a b)

/-- A flash read has taken 1 s: its slot fails in this boot (R89). -/
def execFlashReadTimeout (slotB : Bool) (s : State) : Res :=
  onPkg s (if s.harState = 0 then s.modHar (fun h => { h with flashTimeout := h.flashTimeout ++ [if slotB then 1 else 0] }) else s)

/-! ## Commands (R101 to R106, R113) -/

/-- LOAD from HOST (R88, R101). -/
def execHarLoad (s : State) : Res :=
  onPkg s (if s.harState = 1 ∨ s.harState = 2 ∨ s.harState = 4 then s.loadStart .host else s.harBusy)

/-- The fetch from HOST ends with an image, or with an error or a time-out (R89). -/
def State.hostLoaded (s : State) (img : Option Image) : State :=
  if s.harState = 3 ∧ s.har.loading = some .host then
    match img with
    | none => s.loadRefused (0x0E, 0x1FF, 0) 0
    | some i => s.loadArrived { i with delivered := s.get 0 F.HAR_SRC_LEN_LEN } 2
  else s

def execLoadComplete (img : Option Image) (s : State) : Res := onPkg s (s.hostLoaded img)

def execHarPrepare (s : State) : Res := onPkg s (if s.harState = 4 then s.prepare else s.harBusy)

def execShadowReady (u : BitVec 16) (s : State) : Res := onPkg s (s.shadowReady u.toNat)

/-- ARM; the safe state accepts none (R811). -/
def State.arm (s : State) : State :=
  if ¬ (s.harState = 5 ∨ s.harState = 6) ∨ s.flag 0 F.RCV_STATUS_SAFE then s.harBusy
  else if s.commitTime < s.now 0 + s.guardNs + 1000 then s.harRefuse 0x14
  else (s.modHar (fun h => { h with group := s.flag 0 F.HAR_CTRL_REIN_GROUP, groupReports := [], groupDecision := none })).harTo 7

def execHarArm (s : State) : Res := onPkg s s.arm

def execHarAbort (s : State) : Res :=
  onPkg s (if 5 ≤ s.harState ∧ s.harState ≤ 7 then s.harAborted 0x11 0 0xFFFF else s.harBusy)

def execHarDiscard (s : State) : Res := onPkg s (if s.harState = 4 then s.dropStaged.harTo 2 else s.harBusy)

/-! ## The guard check, the instant and switching -/

def execGuardCheck (members : Fin 32) (s : State) : Res := onPkg s (s.guardCheck members)

def execCommitInstant (s : State) : Res := onPkg s s.commitInstant

def execUnitSwitch (u : BitVec 16) (s : State) : Res :=
  onPkg s (if s.harState = 9 ∧ s.onOld u.toNat ∧ s.switchReady u.toNat then s.switchUnit u.toNat else s)

/-- A lace engine that has not passed its loop end 1 ms after the instant: stopped, reloaded, restarted and late (R109). -/
def execLaceSwitchTimeout (d : Die) (e : Unit16) (s : State) : Res :=
  onDie s d (if s.harState = 9 ∧ s.onOld (uid d 5 e) then (s.lateUnit (uid d 5 e)).switchUnit (uid d 5 e) else s)

/-! ## Rein groups (R121 to R123) -/

def execGroupReportRx (src : Fin 31) (ready : Bool) (guardUs time : Nat) (members : Fin 32) (s : State) : Res :=
  onPkg s (s.reportRx src ready guardUs time members)

def execGroupDecisionRx (commit : Bool) (s : State) : Res := onPkg s (s.decisionRx commit)

def execGroupDecisionTimeout (s : State) : Res := onPkg s s.groupTimeout

end Sys2Proof.Machine
end

