-- ==== Sys2Proof/Machine/ResetOps.lean ====
section
/-! DEFINITION. What a package reset, a wake and a power-on reset leave of the state (R19 and the reset rows of each chapter). -/

namespace Sys2Proof.Machine

/-- The resets of the package as a whole. -/
inductive ResetKind where
  | package | wake | power
deriving DecidableEq, Repr

/-! ## Bits of registers that are kept -/

def allBits : Word64 := BitVec.allOnes 64

/-- Fused values, straps and pins, which no reset changes. -/
def fusedMask (off : Nat) : Word64 :=
  if off = 0x680000 ∨ off = 0x680008 ∨ off = 0x28000C ∨ off = 0x180000 ∨ (0x3C0040 ≤ off ∧ off < 0x3C00A0) then allBits
  else if off = 0x680004 then ~~~ maskBits 12 8
  else if off = 0x3C0000 then maskBits 21 15
  else if off = 0x580000 then maskBits 2 0
  else if 0x580010 ≤ off ∧ off < 0x580040 ∧ off % 16 = 0 then maskBits 5 2
  else if off = 0x5C0000 then maskBits 5 5
  else if off = 0x600000 then maskBits 0 0
  else if 0x640100 ≤ off ∧ off < 0x640300 then maskBits 8 8
  else if off = 0x500000 then maskBits 4 4
  else 0

/-- What only power-on reset resets (R19, R813, R791, R823, Vat status fields): ST fields, the registers of domain 49, the safe state and the
failed banks. -/
def standingMask (d off : Nat) : Word64 :=
  let st : Word64 := ((findReg d off).map (fun h => accMask h.desc.flds (· == .st))).getD 0
  st ||| (if off = 0x4C0028 ∨ off = 0x4C002C ∨ off = 0x500010 ∨ off = 0x500018 ∨ off = 0x50001C ∨ off = 0x500024 then allBits
    else if off = 0x500000 then maskBits 5 3
    else if off = 0x300000 then maskBits F.VAT_STATUS_BANK_FAIL.hi F.VAT_STATUS_BANK_FAIL.lo
    else 0)

/-- What package reset keeps besides (R588, R671, R714, R751, R840, R760): the time base, the recorder stream, PCIe links and vector
maps, channels' STOPPED state, token state, the Rein address, and the state and VID code of the power sequencer. -/
def packageMask (off : Nat) : Word64 :=
  if off = 0x100000 ∨ off = 0x100010 ∨ off = 0x100018 ∨ off = 0x100020 ∨ off = 0x100028 ∨ off = 0x10003C ∨ off = 0x100040 then allBits
  else if off = 0x240010 ∨ off = 0x240018 ∨ off = 0x240020 ∨ off = 0x240028 ∨ off = 0x240030 then allBits
  else if off = 0x240000 then ~~~ maskBits 5 5
  else if off = 0x180008 then maskBits 6 0
  else if (0x181000 ≤ off ∧ off < 0x181400) ∨ (0x188000 ≤ off ∧ off < 0x18C000) then allBits
  else if 0x1C0100 ≤ off ∧ off < 0x1C0300 ∧ off % 16 = 8 then allBits
  else if 0x3D0000 ≤ off ∧ off < 0x3E0000 ∧ off % 16 = 0 then
    maskBits (F.TEN_T_CFG_PORTS_TOKEN 0).hi (F.TEN_T_CFG_PORTS_TOKEN 0).lo
  else if 0x3D0000 ≤ off ∧ off < 0x3E0000 ∧ off % 16 = 4 then allBits
  else if 0x3D0000 ≤ off ∧ off < 0x3E0000 ∧ off % 16 = 8 then maskBits (F.TEN_T_GEN_FLOOR 0).hi (F.TEN_T_GEN_FLOOR 0).lo
  else if off = 0x5C0000 then maskBits 8 0
  else if off = 0x680004 then maskBits 12 8
  else if off = 0x4C0000 then allBits
  else if off = 0x4C0010 then maskBits F.PWR_VCORE_VID.hi F.PWR_VCORE_VID.lo
  else if off = 0x4C0030 then maskBits F.PWR_RAIL_VCORE_MV.hi F.PWR_RAIL_VCORE_MV.lo
  else 0

/-- The bits of a register that a reset keeps. A wake keeps the Pommel registers, which lie in the always-on domain. -/
def keepMask (k : ResetKind) (d off : Nat) : Word64 :=
  match k with
  | .power => fusedMask off
  | .wake => fusedMask off ||| standingMask d off ||| (if off / 0x40000 = 21 then allBits else 0)
  | .package => fusedMask off ||| standingMask d off ||| packageMask off

/-- The register file after a reset: kept bits stay, the others take their Reset values (R19). -/
def resetRegs (k : ResetKind) : List (Nat × Word64) → List (Nat × Word64)
  | [] => []
  | e :: r =>
    let d := e.1 / 0x800000
    let off := e.1 % 0x800000
    let m := keepMask k d off
    let rst := ((findReg d off).map (·.desc.rst)).getD 0
    let v := (e.2 &&& m) ||| (rst &&& ~~~ m)
    if v = rst then resetRegs k r else (e.1, v) :: resetRegs k r

/-! ## The rest of the state -/

/-- Bit errors of harness-store words, whose contents a package reset keeps (R81, R169). -/
def storeErr (k : Nat) : Bool := decide (0xC0000 ≤ k % 0x200000) && decide (k % 0x200000 < 0x140000)

/-- Banks after a reset: the repairs stay (R180), walkers start at line 0, nothing waits. -/
def resetBanks (l : List (Nat × Bank)) : List (Nat × Bank) :=
  (l.map (fun e => (e.1, { Bank.reset with repair := e.2.repair }))).filter (fun e => e.2 != Bank.reset)

/-- Recorders after a loss of power: the archive alone stays (R714). -/
def resetRecs (l : List (Nat × RecDie)) : List (Nat × RecDie) :=
  (l.map (fun e => (e.1, { RecDie.reset with segs := e.2.segs, gen := e.2.gen, chain := e.2.chain }))).filter (fun e => e.2 != RecDie.reset)

/-- Outbound PCIe structures: a package reset keeps the MSI-X tables (R671). -/
def resetHost (k : ResetKind) (h : HostIf) : HostIf :=
  if k = .package then { HostIf.reset with msix := h.msix, msixPend := h.msixPend } else HostIf.reset

/-- The state that a reset leaves; the power sequencer and the always-on domain are for its caller. -/
def State.wipe (s : State) (k : ResetKind) : State :=
  let pkg := k == .package
  { s with
    regs := resetRegs k s.regs
    latch := []
    mem := []
    errs := if pkg then s.errs.filter (fun e => storeErr e.1) else []
    pages := []
    har := if pkg then { Har.reset with
      current := s.har.current, staged := s.har.staged, slot := s.har.slot, stagedSrc := s.har.stagedSrc } else Har.reset
    servo := if pkg then s.servo else Servo.reset
    frac := if pkg then s.frac else []
    monoFrac := if pkg then s.monoFrac else []
    pulses := []
    clkout := ClkOut.reset
    recD := if pkg then s.recD else resetRecs s.recD
    recP := if pkg then { s.recP with nonceValid := false } else { RecPkg.reset with gaspFlash := s.recP.gaspFlash }
    calUser := []
    banks := if k == .power then [] else resetBanks s.banks
    skv := []
    resync := []
    rearm := []
    skvBack := []
    fenced := []
    commitQ := []
    boundLog := if pkg then (0xFFFF, s.now 0) :: s.boundLog else [(0xFFFF, 0)]
    mirrorQ := []
    frames := []
    cells := []
    owners := []
    tenCells := []
    tenDrops := []
    voq := []
    grantPtr := []
    acceptPtr := []
    outQ := []
    slots := []
    clq := []
    shapers := []
    suspects := []
    engs := []
    cls := []
    imem := []
    imemErr := []
    spad := []
    spadErr := []
    lace := []
    cues := []
    ethPorts := []
    ethPairs := []
    serPorts := []
    ttGroups := []
    host := resetHost k s.host
    arc := Arc.reset
    welt := []
    rein := if pkg then { s.rein with syncAt := none, mgmtTo := none, timeAt := [] } else ReinSt.reset }

end Sys2Proof.Machine
end

