-- ==== Sys2Proof/Machine/Ladder.lean ====
section
/-! DEFINITION. The recovery ladder (chapter 18): package reset, rung 4 and the wake sequence, resets of regions, clusters and
units, the counts that escalate, and the safe state. -/

namespace Sys2Proof.Machine

def State.modRcv (s : State) (f : Rcv → Rcv) : State := { s with rcv := f s.rcv }

/-- Triggers that the part counts: a fault class, escalation, and the host watchdog (R801). -/
def hwTrigger (t : Nat) : Bool := t == 2 || t == 3 || t == 4

/-- An escalation step: ESCALATED, its record and event (R801). -/
def State.escalated (s : State) (d rung u n : Nat) : State :=
  ((s.latchFault d 15 u).rcvRec d 1 0x54 rung 3 false u n).putFlag d F.RCV_EVENT_ESCALATE true

/-! ## Package reset (R803, R804) -/

/-- What stops at step 3 before the registers are reset: a re-harness is aborted, March C- runs stop, channels stop with RESET, and a
servo that is locked or acquires goes to HOLDOVER (R114, R180, R671, R588). -/
def State.pkgStops (s : State) : State :=
  let s := s.resetAbort
  let s := s.eachDie (fun d a => a.marchAbort d)
  let s := s.eachDie (fun d a => (List.range 32).foldl (fun (b : State) ch => b.dmaReset d ch) a)
  let s := if s.get 0 F.TIM_STATUS_STATE = 1 ∨ s.get 0 F.TIM_STATUS_STATE = 2 then s.servoTo 3 else s
  { s with servo := { s.servo with valid := s.servo.valid.filter (fun i => srcKind s i == 2) } }

/-- VCORE goes to ACT_MV when the package was not in ACTIVE (R760). -/
def State.pkgVcore (s : State) : State :=
  let moving := s.pwr.phase != .idle || s.pstate != 0
  let s := s.modPwr (fun p => { p with phase := .idle, rampQ := [], crossings := [], target := s.vid })
  if !moving then s
  else
    let s := (s.beginMove 0 .vcore).vcoreTo s.actCode
    if s.vid = s.pwr.target then s.endMove 0 true else s

/-- Step 3: every crossing and domain reset; the recorders go on with a RESET mark. -/
def State.pkgHold (s : State) : State :=
  let n := s.mirrorQ.length
  let s := s.pkgStops.wipe .package
  let s := (List.range n).foldl (fun (a : State) _ => a.mirrorLost) s
  let s := s.eachDie (fun d a => a.condFault d 9 (uid d 9 0) false)
  let s := s.weltTrain.pkgVcore
  let s := s.eachDie (fun d a => if a.flag d F.ERC_STATUS_RUN then a.markRec d 7 0 else a)
  s.modRcv (fun r => { r with pkg := .held })

/-- Step 4: the Vat cleared except for the harness store (R169). -/
def State.pkgClear (s : State) : State :=
  let s := s.eachDie (fun d a =>
    let a := a.putFlag d F.VAT_STATUS_CLEAR_BUSY true
    (a.put d F.VAT_CLEAR_CAUSE 3).putFlag d F.VAT_CLEAR_DONE false)
  s.modRcv (fun r => { r with pkg := .clear })

/-- Whether a welt link of the package is DOWN. -/
def State.weltBroken (s : State) : Bool := s.dieList.any (fun d => [0, 1, 2].any (fun k => s.get d (F.WLT_LINK_STATE k) == 3))

/-- The STAGED slot verified again after CURRENT has been applied (R85). -/
def State.restage (s : State) : State :=
  match s.har.staged with
  | none => s.dropStaged
  | some i =>
    if (s.verifyStored i (1 - s.har.slot)).isNone then
      ((s.puts 0 [(F.HAR_STATUS_STAGED_VALID, 1), (F.HAR_STAGED_ID_ID, i.hdr.imageId)]).harTo 4).eachDie
        (fun d a => a.putFlag d F.HAR_DIE_STATE_STAGED_OK true)
    else s.dropStaged

/-- CURRENT verified again and applied; a slot that fails causes a boot (R85). -/
def State.reverify (s : State) : State :=
  match s.har.current with
  | none => s.harTo 0
  | some i =>
    if s.weltBroken then s.harTo 0
    else match s.verifyStored i s.har.slot with
      | some f =>
        let s := ((s.harErr f).putFlag 0 F.HAR_BOOT_STORE_FAIL true).harTo 0
        (s.modRcv (fun r => { r with before := some (i.hdr.imageId, i.sig) })).modHar (fun h => { h with current := none })
      | none => ((s.applyImage i 4).putFlag 0 F.HAR_BOOT_STORE_FAIL false).restage

/-- Step 5, and the end of the package reset. -/
def State.pkgApply (s : State) : State :=
  let s := (s.modRcv (fun r => { r with pkg := .idle })).reverify
  let s := s.put 0 F.RCV_STATUS_LAST_RUNG 3
  (s.eachDie (fun d a => a.putFlag d F.RCV_EVENT_RUNG3 true)).takeHeld

/-- PWR_EN low for a rung 4 (R805). -/
def State.rung4Off (s : State) : State := s.enterOffWake.modRcv (fun r => { r with pkg := .off4 })

/-- A package reset or rung 4 goes on where what it waits for has happened. -/
def State.pkgStep (s : State) : State :=
  match s.rcv.pkg with
  | .gasp => if s.flag 0 F.ERC_STATUS_GASP_BUSY then s else s.pkgHold
  | .held => if s.rcv.resetN then s else s.pkgClear
  | .clear => if s.dieList.any (fun d => s.flag d F.VAT_STATUS_CLEAR_BUSY) then s else s.modRcv (fun r => { r with pkg := .volts })
  | .volts => if s.pwr.phase = .idle then s.pkgApply else s
  | .gasp4 => if s.flag 0 F.ERC_STATUS_GASP_BUSY then s else s.rung4Off
  | .idle | .off4 => s

def State.pkgAdvance (s : State) : State := s.pkgStep.pkgStep

/-! ## Rung 4 and decisions (R801, R805) -/

/-- Rung 4: ALARM_N low, the record, the last gasp, then PWR_EN low. The CAUSE that its GASP record carries is a free value. -/
def State.rung4 (s : State) (trig cls : Nat) : State :=
  if s.rcv.rung4 then s
  else
    let s := s.rungTaken 0 4 trig cls 0xFFFF false
    let s := s.modRcv (fun r => { r with rung4 := true, pkg := .gasp4 })
    let f := s.freeVal 256
    (f.2.gaspWith f.1).pkgAdvance

/-- A package-reset decision starts the reset (R803). -/
def State.pkgBegin (s : State) (trig cls : Nat) : State :=
  let s := (s.rungTaken 0 3 trig cls 0xFFFF false).modRcv (fun r => { r with pkg := .gasp })
  (s.startGasp .pkgReset).pkgAdvance

/-- The package resets of the last PKG_WIN_MIN minutes. -/
def State.recentResets (s : State) : List Nat :=
  let w := 60000 * max 1 (s.get 0 F.RCV_ESC_PKG_WIN_MIN)
  s.rcv.resets.filter (fun t => decide (s.aonMs < t + w))

/-- A decision at rung 3; one that arrives before a reset in progress ends joins it. Those of hardware are counted, and the one that
reaches the limit is a rung 4 in its place. -/
def State.pkgDecide (s : State) (trig cls : Nat) : State :=
  if s.rcv.rung4 ∨ s.rcv.pkg ≠ .idle then s
  else if hwTrigger trig then
    let ts := s.recentResets ++ [s.aonMs]
    let n := ts.length
    let s := (s.modRcv (fun r => { r with resets := ts })).put 0 F.RCV_STATUS_PKG_RESETS (min 15 n)
    let lim := s.get 0 F.RCV_ESC_PKG_LIMIT
    if lim ≠ 0 ∧ lim ≤ n then (s.escalated 0 4 0xFFFF n).rung4 3 cls else s.pkgBegin trig cls
  else s.pkgBegin trig cls

/-! ## Counts (R801, R802) -/

/-- An action of hardware counted: the actions of its kind on its scope in WINDOW_MS, itself included. -/
def State.countAct (s : State) (kind key : Nat) : Nat × State :=
  let w := max 1 (s.get 0 F.RCV_ESC_WINDOW_MS)
  let l := s.rcv.counts.filter (fun c => decide (s.aonMs < c.time + w)) ++ [⟨kind, key, s.aonMs⟩]
  ((l.filter (fun c => c.kind == kind && c.key == key)).length, s.modRcv (fun r => { r with counts := l }))

/-- Whether a count reaches a limit; 0 disables it. -/
def atLimit (lim n : Nat) : Bool := lim != 0 && decide (lim ≤ n)

/-! ## Region reset (R36 to R38, R67 to R69) -/

def regionUid (d q : Nat) : Nat := Config.regionUid (d * 4 + q)
def State.regionBusy (s : State) (d q : Nat) : Bool := s.getBit d F.ARC_REGION_RST_BUSY q

/-- Units of a region that its reset fences besides its clusters. -/
def regionUnits (d q : Nat) : List Nat :=
  [ethUid d (2 * q), ethUid d (2 * q + 1), serUid d (2 * q), serUid d (2 * q + 1)] ++ (List.range 4).map (fun i => uid d 5 (4 * q + i))

/-- The region-reset row of an Ethernet port, for the port alone (R441). -/
def State.portStops (s : State) (d p : Nat) : State := s.linkDown d p 5

/-- A region's units stop: R441, R478, R614, R291, R180. -/
def State.regionStops (s : State) (d q : Nat) : State :=
  let s := [2 * q, 2 * q + 1].foldl (fun (a : State) c => if a.domState d c = 2 then a.clusterReset d c else a) s
  let s := [2 * q, 2 * q + 1].foldl (fun (a : State) p => a.portStops d p) s
  let s := { s with ethPairs := tblSet s.ethPairs EthPair.reset (d * 4 + q) { s.ethPair d q with keys := [] } }
  let s := [2 * q, 2 * q + 1].foldl (fun (a : State) p => a.serFlush d p) s
  let s := s.laceGroupOff d q
  let s := s.fenceUnits (regionUnits d q)
  if (List.range 4).any (fun i => s.marchHolds d (4 * q + i)) then s.marchAbort d else s

/-- A region reset taken; while BUSY a further request has no effect (R69), and within a package reset it is absorbed (R38). -/
def State.regionReset (s : State) (d q trig cls : Nat) : State :=
  if s.regionBusy d q ∨ s.rcv.pkg ≠ .idle then s
  else
    let s := (s.rungTaken d 2 trig cls (regionUid d q) false).regionStops d q
    let s := s.setBit d F.ARC_REGION_RST_BUSY q
    if hwTrigger trig then
      let n := s.countAct 2 (d * 4 + q)
      if atLimit (n.2.get 0 F.RCV_ESC_RG_LIMIT) n.1 then (n.2.escalated d 3 (regionUid d q) n.1).pkgDecide 3 0 else n.2
    else s

/-! ## Reloads (R770, R799) -/

def State.reloadEth (s : State) (d p : Nat) : State :=
  let c := s.cfg
  let s := (s.loadEthPort c d p).loadGates c d p
  if s.flag 0 F.RCV_STATUS_SAFE then s.putFlag d (F.ETH_PORT_STATUS_SAFE p) true else s

def State.reloadSer (s : State) (d p : Nat) : State :=
  let c := s.cfg
  let s := (s.loadSerPort c d p).startSer c d p
  if s.flag 0 F.RCV_STATUS_SAFE ∧ s.serState d p ≠ 0 then s.serTo d p 5 else s

def State.reloadTt (s : State) (d : Nat) : State :=
  let s := s.loadTt s.cfg d
  if (ttEntry s.cfg d).mode = 0 then s else if s.flag 0 F.RCV_STATUS_SAFE then s.ttTo d 8 else s.ttTo d 1

def State.reloadLace (s : State) (d e : Nat) : State :=
  let s := s.lceLoad s.cfg d e
  if s.flag 0 F.RCV_STATUS_SAFE ∧ 2 ≤ lceState s d e then s.setLceState d e 6 else s

/-- The units of a region reloaded whose domains are on. -/
def State.regionReload (s : State) (d q : Nat) : State :=
  let s := [2 * q, 2 * q + 1].foldl (fun (a : State) p => if a.domOn d (8 + p) then a.reloadEth d p else a) s
  let s := [2 * q, 2 * q + 1].foldl (fun (a : State) p => if a.domOn d (16 + q) then a.reloadSer d p else a) s
  if s.domOn d (20 + q) then ((List.range 4).foldl (fun (a : State) i => a.reloadLace d (4 * q + i)) s).autostart d else s

/-! ## Cluster, engine and unit resets with their counts -/

/-- A cluster reset taken by hardware. -/
def State.clusterAct (s : State) (d c trig cls : Nat) : State :=
  let absorbed := s.regionBusy d (c / 2) || s.rcv.pkg != .idle
  let s := s.rungTaken d 2 trig cls (clUid d c) absorbed
  if absorbed then s
  else
    let n := (s.clusterReset d c).countAct 1 (d * 8 + c)
    if atLimit (n.2.get 0 F.RCV_ESC_CL_LIMIT) n.1 then (n.2.escalated d 2 (clUid d c) n.1).regionReset d (c / 2) 3 0 else n.2

/-- An engine reset of hardware counted for its cluster. -/
def State.engineCounted (s : State) (d e : Nat) : State :=
  let c := e / 8
  if s.flag d (F.AWL_CL_STATUS_BUSY c) ∨ s.regionBusy d (c / 2) ∨ s.rcv.pkg ≠ .idle then s
  else
    let n := s.countAct 0 (d * 8 + c)
    if atLimit (n.2.get 0 F.RCV_ESC_ENG_LIMIT) n.1 then (n.2.escalated d 2 (clUid d c) n.1).clusterAct d c 3 0 else n.2

/-- A cluster reset of hardware that its own detection has taken, counted (R255). -/
def State.clusterCounted (s : State) (d c : Nat) : State :=
  if s.regionBusy d (c / 2) ∨ s.rcv.pkg ≠ .idle then s
  else
    let n := s.countAct 1 (d * 8 + c)
    if atLimit (n.2.get 0 F.RCV_ESC_CL_LIMIT) n.1 then (n.2.escalated d 2 (clUid d c) n.1).regionReset d (c / 2) 3 0 else n.2

/-- RELOAD_FAIL of a scope escalates by one step (R800). The count of its ESCALATE record is a free value. -/
def State.reloadEscalate (s : State) (d u : Nat) : State :=
  let k := uidInst u
  let f := (s.latchFault d 4 u).freeVal 0x100000000
  match uidType u with
  | 0 => (f.2.escalated d 2 (clUid d (k / 8)) f.1).clusterAct d (k / 8) 3 0
  | 1 | 2 | 3 => (f.2.escalated d 2 (regionUid d (k / 2 % 4)) f.1).regionReset d (k / 2 % 4) 3 0
  | 5 => (f.2.escalated d 2 (regionUid d (k / 4 % 4)) f.1).regionReset d (k / 4 % 4) 3 0
  | _ => (f.2.escalated d 3 0xFFFF f.1).pkgDecide 3 0

/-- RELOAD_FAIL of a region. -/
def State.regionFail (s : State) (d q : Nat) : State :=
  let s := s.setBit d F.ARC_REGION_RST_FAILED q
  let f := (s.latchFault d 4 (regionUid d q)).freeVal 0x100000000
  (f.2.escalated d 3 0xFFFF f.1).pkgDecide 3 0

/-- The reset and reload of a region end. -/
def State.regionDone (s : State) (d q : Nat) : State :=
  if s.regionBusy d q = false ∨ s.flag d (F.AWL_CL_STATUS_BUSY (2 * q)) ∨ s.flag d (F.AWL_CL_STATUS_BUSY (2 * q + 1)) then s
  else
    let s := (s.regionReload d q).unfenceUnits (regionUnits d q)
    let s := (List.range 4).foldl (fun (a : State) i => a.setBank d (4 * q + i) { a.bank d (4 * q + i) with ptrA := 0, ptrB := 0 }) s
    let s := (s.clrBit d F.ARC_REGION_RST_BUSY q).rung2Done d
    if s.har.current.isSome ∧ s.storeBad d s.har.slot then s.regionFail d q
    else (s.setBit d F.ARC_REGION_RST_DONE q).putFlag d F.ARC_STATUS_REGION_DONE true

/-- The result of a request through RCV_UNIT_RST (R799). -/
def State.unitResult (s : State) (d r : Nat) : State := (s.put d F.RCV_UNIT_RST_RESULT r).putFlag d F.RCV_UNIT_RST_GO false

/-- The units that are reset and reloaded at once: an Ethernet port, a serial port, the time-triggered group, a lace engine or a DMA
channel; none for another type or instance. -/
def State.unitReload (s : State) (d ty k : Nat) : Option State :=
  if ty = 2 ∧ k < 8 then some (let t := s.portStops d k; if t.domOn d (8 + k) then t.reloadEth d k else t)
  else if ty = 3 ∧ k < 8 then some (let t := s.serFlush d k; if t.domOn d (16 + k / 2) then t.reloadSer d k else t)
  else if ty = 4 ∧ k = 0 then some (let t := s.ttReleaseAll d; if t.domOn d 40 ∨ t.domOn d 41 then t.reloadTt d else t)
  else if ty = 5 ∧ k < 16 then
    let t := (s.setLce d k LaceEng.reset).setLceState d k 0
    let t := (List.range 32).foldl (fun (a : State) p =>
      if a.flag d (F.LCE_PIN_CFG_DRIVEN p) ∧ a.get d (F.LCE_PIN_CFG_DRIVER p) = k then a.safePin d p else a) t
    some (if t.domOn d (20 + k / 4) then (t.reloadLace d k).autostart d else t)
  else if ty = 6 ∧ k < 32 then some (s.dmaReset d k)
  else none

/-- A rung 2 request for a unit of a die by its UID: through RCV_UNIT_RST (`reg`) or the Pommel port. Answers the RESULT
of R799: 1 accepted, 2 UNSUPPORTED, 3 BUSY while the unit's domain is not on, 4 RELOAD_FAIL. -/
def State.unitRequest (s : State) (d u trig : Nat) (reg : Bool) : Nat × State :=
  let ty := uidType u
  let k := uidInst u
  let res (t : State) (r : Nat) : State := if reg then t.unitResult d r else t
  if ty = 0 ∧ k < 64 then
    if s.domState d (k / 8) ≠ 2 then (3, res s 3)
    else
      let absorbed := (s.cl d (k / 8)).resetting.testBit (k % 8)
      (1, (s.rungTaken d 2 trig 0 (engUid d k) absorbed).engineReset d k)
  else if ty = 1 ∧ k < 8 then
    if s.domState d k ≠ 2 then (3, res s 3)
    else (1, (s.rungTaken d 2 trig 0 (clUid d k) (s.flag d (F.AWL_CL_STATUS_BUSY k))).clusterReset d k)
  else match s.unitReload d ty k with
    | none => (2, res s 2)
    | some t =>
      let u := uid d ty k
      let t := (t.rungTaken d 2 trig 0 u false).rung2Done d
      if ty ≠ 6 ∧ t.har.current.isSome ∧ t.storeBad d t.har.slot then (4, (res t 4).reloadEscalate d u)
      else (1, res t 1)

/-! ## The wake sequence (R789, R791) -/

/-- PWR_EN goes high, and the part waits for its rails. -/
def State.beginWake (s : State) (source retries : Nat) : State :=
  s.modPwr (fun p => { p with en := true, railsWait := true, retryWait := false, source := source, retries := retries })

/-- OFF-WAKE entered when its drains have ended; a wake held meanwhile is acted on. -/
def State.powerNext (s : State) : State :=
  let held := s.pwr.held
  let t := s.powerAdvance
  if s.powered ∧ t.powered = false then
    (if held = some .wake ∧ t.flag 0 F.PWR_WAKE_WAKE_EN then t.beginWake 1 0 else t)
  else t

/-- The rails read good: every domain powers up to its boot state, and the Vat is cleared or, after a power-on reset, the start-up run
is due. -/
def State.wakeDone (s : State) : State :=
  let cold := s.pwr.cold
  let source := s.pwr.source
  let retries := s.pwr.retries
  let rung := s.get 0 F.RCV_STATUS_LAST_RUNG
  let s := s.wipe (if cold then .power else .wake)
  let s := { s with pwr := { Pwr.reset with startup := cold } }
  let s := s.modRcv (fun r => { r with rung4 := false, pkg := .idle })
  let s := s.puts 0 [(F.RCV_STATUS_LAST_RUNG, rung), (F.PWR_AON_LAST_WAKE, source), (F.PWR_AON_RETRIES, retries)]
  let s := s.weltTrain.reinClear
  if cold then s
  else
    let s := s.count 0 F.PWR_AON_WAKES 1
    let s := s.eachDie (fun d a => a.beginClear d 1)
    (s.eachDie (fun d a => a.putFlag d F.PWR_EVENT_STATE_CHG true)).powRec 0 1 0x60 0 0 4 0

/-! ## Safe state (R810 to R813) -/

/-- Whether a cause of safe state holds. -/
def State.safeCause (s : State) : Bool := s.flag 0 F.RCV_STATUS_SAFE_PIN || s.flag 0 F.RCV_STATUS_SAFE_REQ || !s.rcv.hot.isEmpty

/-- The ports and pins of a die under the safe level. -/
def State.safeDie (s : State) (d : Nat) : State :=
  let s := (List.range 8).foldl (fun (a : State) p => (a.linkDown d p 4).putFlag d (F.ETH_PORT_STATUS_SAFE p) true) s
  let s := (List.range 8).foldl (fun (a : State) p => if a.serState d p = 0 then a else (a.serFlush d p).serTo d p 5) s
  let s := s.lceSafe d
  let s := if s.ttState d = 0 then s else (s.ttReleaseAll d).ttTo d 8
  s.putFlag d F.RCV_EVENT_SAFE_ENTER true

/-- Safe state entered. -/
def State.safeEnter (s : State) (trig : Nat) : State :=
  if s.flag 0 F.RCV_STATUS_SAFE then s
  else
    let s := s.putFlag 0 F.RCV_STATUS_SAFE true
    if s.powered then
      let s := (s.eachDie (fun d a => a.safeDie d)).resetAbort
      (s.rcvRec 0 0 0x55 1 trig false 0xFFFF 0).startGasp .safe
    else s

/-- The ports of a die leave safe state: links retrain, serial ports restart, the group listens, lace engines stay stopped. -/
def State.unsafeDie (s : State) (d : Nat) : State :=
  let s := (List.range 8).foldl (fun (a : State) p => a.putFlag d (F.ETH_PORT_STATUS_SAFE p) false) s
  let s := (List.range 8).foldl (fun (a : State) p => if a.serState d p = 5 then a.startSer a.cfg d p else a) s
  let s := if s.ttState d = 8 then s.ttListen d else s
  (s.lceUnsafe d).putFlag d F.RCV_EVENT_SAFE_EXIT true

/-- SAFE_EXIT: true when safe state ended; ignored while a cause holds. -/
def State.safeExitNow (s : State) (trig : Nat) : Bool × State :=
  if s.safeCause then (false, s)
  else if s.flag 0 F.RCV_STATUS_SAFE = false then (true, s)
  else
    let s := (s.putFlag 0 F.RCV_STATUS_SAFE false).eachDie (fun d a => a.unsafeDie d)
    (true, s.rcvRec 0 0 0x55 2 trig false 0xFFFF 0)

end Sys2Proof.Machine
end

