-- ==== Sys2Proof/Machine/Power.lean ====
section
/-! DEFINITION. The commands and events of power domains, VCORE, sentinels and package power states (chapter 17). -/

namespace Sys2Proof.Machine

/-! ## Commands of PWR_CTRL (R760, R762) -/

def execCmdActive (s : State) : Res := onPkg s (s.powerCmd 1)
def execCmdTrim (s : State) : Res := onPkg s (s.powerCmd 2)
def execCmdRetain (s : State) : Res := onPkg s (s.powerCmd 3).powerNext
def execCmdOffWake (s : State) : Res := onPkg s (s.powerCmd 4).powerNext
def execCmdCycle (s : State) : Res := onPkg s (s.powerCmd 5).powerNext

/-- A wake of a package in RETAIN, held while a transition toward or from it is in progress (R760, R762, R764). -/
def State.leaveRetain (s : State) : State :=
  if s.pwr.phase = .idle then (if s.pstate = 2 then s.retainExit else s)
  else s.hold .wake

def execRetainExit (s : State) : Res := onPkg s s.leaveRetain

/-! ## VCORE (R759, R761, R893, R900) -/

/-- A reading of VCORE on each die. -/
def State.putVcore (s : State) (mvs : List Nat) : State :=
  ((List.range 8).zip mvs).foldl (fun (a : State) e => if e.1 < a.dieCount then a.put e.1 F.PWR_RAIL_VCORE_MV e.2 else a) s

/-- 50 µs have passed since a step: the next one, when die 0 reads within range. -/
def State.settled (s : State) (mvs : List Nat) : State :=
  let s := s.putVcore mvs
  if s.vcoreOk then s.vcoreNext.pkgAdvance else s

def execVcoreCodeStep (mvs : List (Fin 1024)) (s : State) : Res := onPkg s (s.settled (mvs.map (·.val)))

/-- A step that has not settled within 1 ms. -/
def State.slowStep (s : State) (mv : Nat) : State :=
  let s := s.put 0 F.PWR_RAIL_VCORE_MV mv
  if s.vcoreOk then s
  else ((s.putFlag 0 F.PWR_EVENT_VCORE_SLOW true).powRec 0 2 0x63 0 0 0 mv).vcoreNext.pkgAdvance

def execVcoreSlow (mv : Fin 1024) (s : State) : Res := onPkg s (s.slowStep mv)

/-- ADAPT in ACTIVE (R761): one code up below the target, one down after 10 ms above it. -/
def State.adapt (s : State) : State :=
  let p := s.lowPace
  let t := orSel s.cfg.power.paceTarget 1200
  if s.pwr.phase ≠ .idle ∨ s.pstate ≠ 0 ∨ s.flag 0 F.PWR_VCORE_ADAPT = false ∨ s.vid ≠ s.pwr.target then s
  else if p < t then (if s.vid < s.actCode then (s.vcoreTo (s.vid + 1)).codeStep else s)
  else if t + 64 < p then (if 13 < s.vid then (s.vcoreTo (s.vid - 1)).codeStep else s)
  else s

def execAdaptStep (s : State) : Res := onPkg s s.adapt

def execVcoreTargetWrite (v : BitVec 32) (s : State) : Res :=
  onPkg s ((s.puts 0 [(F.PWR_VCORE_ACT_MV, bits v 9 0), (F.PWR_VCORE_TRIM_MV, bits v 19 10), (F.PWR_VCORE_ADAPT, bits v 20 20)]).retarget)

/-! ## Domains (R765 to R772) -/

/-- The sequencer takes a domain that is to be off down. -/
def State.domainFence (s : State) (d n : Nat) : State :=
  if s.wantsOff d n then (if s.domState d n = 1 then (s.domOff d n).powerNext else s.fenceDom d n) else s

def execDomainFence (d : Die) (n : Fin 50) (s : State) : Res := onDie s d (s.domainFence d n)

def execDomainDrainEnd (d : Die) (n : Fin 50) (s : State) : Res :=
  onDie s d (if s.domState d n = 3 ∧ s.drained d n then (s.domOff d n).powerNext else s)

/-- A drain longer than DRAIN_US (R768); `count` requests are withdrawn. -/
def State.drainForce (s : State) (d n count : Nat) : State :=
  if s.domState d n = 3 then
    let s := (s.putFlag d F.PWR_EVENT_DRAIN_FORCED true).powRec d 2 0x61 n d 0 count
    ((s.latchFault d 5 (uid d 0x0E 0)).domOff d n).powerNext
  else s

def execDrainForced (d : Die) (n : Fin 50) (count : Nat) (s : State) : Res := onDie s d (s.drainForce d n count)

/-- A ramp ends: one of the four that ramp at once on its die (R770). -/
def State.rampDone (s : State) (d n : Nat) : State :=
  if ((s.pwr.rampQ.filter (fun e => e.1 == d)).take 4).contains (d, n) then s.domUp d n else s

def execDomainRampDone (d : Die) (n : Fin 50) (s : State) : Res := onDie s d (s.rampDone d n)

/-- A wake request for a cluster (R771). -/
def State.demandWake (s : State) (d c : Nat) : State :=
  let retain := s.pstate == 2 || s.pwr.phase == .drain || s.pwr.phase == .lower
  if (s.domPlan d c ≠ 2 ∧ retain = false) ∨ s.domOn d c then s
  else
    let s := (s.putFlag d (F.PWR_DOM_WAKE_PEND c) true).putFlag d F.PWR_EVENT_WAKE_REQ true
    if retain then (if s.flag 0 F.PWR_WAKE_MBX_EN then s.leaveRetain else s)
    else if s.domPlan d c = 2 then s.powerUp d c
    else s

def execDemandWake (d : Die) (c : Unit8) (s : State) : Res := onDie s d (s.demandWake d c)

/-- Whether a cluster is idle (R772). -/
def State.clusterIdle (s : State) (d c : Nat) : Bool :=
  (List.range 8).all (fun i =>
    let e := 8 * c + i
    let g := s.eng d e
    g.st == .wait && s.wakeEvents d e == 0 && s.inWords d e == 0 && g.mbxOut.isEmpty && !g.bellHeld && g.rx.isNone)

def execDemandIdleExpire (d : Die) (c : Unit8) (s : State) : Res :=
  onDie s d (if s.domPlan d c = 2 ∧ s.domOn d c ∧ s.clusterIdle d c then s.fenceDom d c else s)

/-! ## Sentinels (R773 to R777) -/

/-- The unit that a master index of PWR_SENT_LOG names. -/
def sentUid (d m : Nat) : Nat :=
  if m < 64 then engUid d m else if m < 96 then uid d 6 (m - 64) else if m = 96 then uid d 0x0B 0 else if m = 97 then uid d 8 0
  else if m = 98 then uid d 0x0A 0 else if m < 102 then uid d 0x0D 0 else uid d 0x0C (m - 102)

/-- The oldest entry of an engine's store buffer broken: it and every younger store are dropped, and the failure waits to be taken. One
that its target had accepted takes effect whole or not at all, which of the two a free value (R775, R343). -/
def State.storeBroken (s : State) (d e : Nat) (accepted : Bool) : State :=
  match (s.eng d e).sb with
  | [] => s
  | i :: r =>
    let s := s.modEng d e (fun g => { g with sb := r })
    let f := s.freeVal 2
    let s := if accepted then (if f.1 = 1 then (f.2.drainItem d e i).2 else f.2) else s
    let t : PendTrap := match i with
      | .store x => ⟨3, x.word, x.page⟩
      | _ => ⟨3, 0, none⟩
    (s.modEng d e (fun g => { g with sb := g.sb.filter (fun i => !i.isStore), pend := some t })).flushHead d e 16

/-- The next record of a recorder is lost (R686); the CAUSE of its loss is a free value. -/
def State.recordBroken (s : State) (d c : Nat) : State :=
  if s.sequences d then
    let q := s.get d F.ERC_NEXT_SEQ_SEQ
    let f := (s.advanceSeq d).freeVal 256
    f.2.loseRec d false c q f.1
  else s.refuseRec d

/-- The oldest released commit broken: refused with DOMAIN_FENCED; an accepted one may have been applied. -/
def State.commitBroken (s : State) (d : Nat) (accepted : Bool) : State :=
  match tblGet s.commitQ [] d with
  | [] => s
  | k :: r =>
    let s : State := { s with commitQ := tblSet s.commitQ [] d r }
    let f := s.freeVal 2
    let s := if accepted then (if f.1 = 1 then (f.2.handleCommit k).2 else f.2) else s
    (s.refuseCommit (k.issuer / 0x2000) 4 k.dpi k.issuer false).commitStatus k.issuer 4

/-- The sentinel outcome of a master (R776). The Skiver, the burnisher and a welt link have none of their own. -/
def State.sentOutcome (s : State) (d m : Nat) (write accepted : Bool) (obj : SentObj) : State :=
  if m < 64 then
    (match obj with
     | .load a => if (s.eng d m).runs then s.takeTrap d m 5 3 false (s.eng d m).pc a.toNat none else s
     | .store => s.storeBroken d m accepted
     | _ => s)
  else if m < 96 then s.dmaEnd d (m - 64) 7 false
  else if m = 96 then
    (match obj with
     | .host bar off len => (s.pciErr d off bar len 5 write).abortReq d
     | _ => s)
  else if m = 97 then (match obj with | .frame f => s.dropFrame d f 7 | _ => s)
  else if m = 98 then (match obj with | .record c => s.recordBroken d c | _ => s)
  else if m = 101 then s.commitBroken d accepted
  else s

/-- The capture of a break (R777). -/
def State.sentLog (s : State) (d m td dom off : Nat) (write accepted : Bool) : State :=
  if s.flag d F.PWR_SENT_LOG_VALID then s.putFlag d F.PWR_SENT_LOG_MORE true
  else s.puts d [(F.PWR_SENT_LOG_MASTER, m), (F.PWR_SENT_LOG_DOMAIN, dom), (F.PWR_SENT_LOG_DIE, td), (F.PWR_SENT_LOG_WRITE, bit write),
    (F.PWR_SENT_LOG_ACCEPTED, bit accepted), (F.PWR_SENT_LOG_VALID, 1), (F.PWR_SENT_LOG_OFFSET, off)]

/-- The SENTINEL record, at most one per die in 1 s of TIM_MONO. -/
def State.sentRec (s : State) (d m : Nat) : State :=
  let e := tblGet s.pwr.sent (0, 0) d
  if e.1 ≤ s.mono d then
    (s.powRec d 2 0x62 m d 0 (e.2 + 1)).modPwr (fun p => { p with sent := tblSet p.sent (0, 0) d (s.mono d + 1000000000, 0) })
  else s.modPwr (fun p => { p with sent := tblSet p.sent (0, 0) d (e.1, e.2 + 1) })

/-- A wait of master `m` of die `d` broken; behind a welt link the originating master takes its own outcome. -/
def State.sentinel (s : State) (d m td dom off : Nat) (write accepted : Bool) (origin : Option (Nat × Nat)) (obj : SentObj) : State :=
  let s := (s.count d F.PWR_SENT_CNT_COUNT 1).sentLog d m td dom off write accepted
  let s := ((s.putFlag d F.PWR_EVENT_SENTINEL true).latchFault d 6 (sentUid d m)).sentRec d m
  match origin with
  | some o => if 102 ≤ m ∧ o.1 < s.dieCount then s.sentOutcome o.1 o.2 write accepted obj else s.sentOutcome d m write accepted obj
  | none => s.sentOutcome d m write accepted obj

def execSentinelExpire (d : Die) (m : Fin 105) (td : Die) (dom : Fin 50) (off : BitVec 32) (write accepted : Bool)
    (origin : Option (Die × Fin 102)) (obj : SentObj) (s : State) : Res :=
  onDie s d (s.sentinel d m td dom off.toNat write accepted (origin.map (fun o => (o.1.val, o.2.val))) obj)

/-- A crossing reset acknowledged, or forced idle after 2 µs and counted as a forced drain (R785). -/
def State.crossingAck (s : State) (d n : Nat) (forced : Bool) : State :=
  if s.pwr.crossings.contains (d, n) then
    let s := s.modPwr (fun p => { p with crossings := p.crossings.filter (· != (d, n)) })
    if forced then (s.putFlag d F.PWR_EVENT_DRAIN_FORCED true).latchFault d 5 (uid d 0x0E 0) else s
  else s

def execCrossingResetAck (d : Die) (n : Fin 50) (forced : Bool) (s : State) : Res := onDie s d (s.crossingAck d n forced)

/-! ## OFF-WAKE, rails and VAON (R786 to R791) -/

/-- A wake source: 0 the WAKE ball, 1 POM_CS_N, 2 the CYCLE timer. -/
def State.wakeBy (s : State) (kind : Nat) : State :=
  match s.pwr.mode with
  | .off => s
  | .on =>
    if kind = 0 ∧ ((s.pstate = 2 ∨ s.pwr.phase = .drain ∨ s.pwr.phase = .lower) ∧ s.flag 0 F.PWR_WAKE_WAKE_RETAIN ∨
        s.pwr.phase = .offDrain ∧ s.flag 0 F.PWR_WAKE_WAKE_EN) then s.leaveRetain
    else s
  | .offWake =>
    let due := match kind with
      | 0 => s.flag 0 F.PWR_WAKE_WAKE_EN
      | 1 => s.flag 0 F.PWR_WAKE_POM_EN
      | _ => s.pwr.cycle
    if s.pwr.railsWait ∨ s.pwr.retryWait ∨ s.rcv.pkg = .off4 ∨ due = false then s else s.beginWake (kind + 1) 0

def execWakeSource (kind : Fin 3) (s : State) : Res := .next (s.wakeBy kind)

/-- Every rail monitor reads good: the wake goes on, or a dip of less than 20 ms has ended (R789, R790, R808). -/
def State.railsGood (s : State) : State :=
  if s.pwr.mode = .offWake then (if s.pwr.railsWait then s.wakeDone else s)
  else if s.pwr.mode = .on ∧ s.pwr.low ≠ [] then
    let s := s.eachDie (fun d a => a.condFault d 8 (uid d 0x0E 0) false)
    (s.modPwr (fun p => { p with low := [] })).breakCond 2
  else s

def execRailsGood (s : State) : Res := .next s.railsGood

/-- Rails not good within 500 ms: PWR_EN low, and after three retries RAIL_FAIL. -/
def State.railsLate (s : State) : State :=
  if s.pwr.mode = .offWake ∧ s.pwr.railsWait then
    let last := decide (3 ≤ s.pwr.retries)
    let s := s.modPwr (fun p => { p with en := false, railsWait := false, retryWait := !last })
    if last then (s.puts 0 [(F.PWR_AON_RAIL_FAIL, 1), (F.PWR_AON_RETRIES, 3)]).modRcv (fun r => { r with rung4 := false, pkg := .idle }) else s
  else s

def execRailGoodTimeout (s : State) : Res := .next s.railsLate

def execRailRetry (s : State) : Res :=
  .next (if s.pwr.mode = .offWake ∧ s.pwr.retryWait then s.beginWake 4 (s.pwr.retries + 1) else s)

/-- A rail below its threshold for 1 µs. -/
def State.railLow (s : State) (d rail mv : Nat) : State :=
  let s := s.modPwr (fun p => { p with low := if p.low.contains (d, rail) then p.low else p.low ++ [(d, rail)] })
  let s := (s.setBit d F.PWR_RAIL_UV rail).putFlag d F.PWR_EVENT_UV true
  ((s.powRec d 2 0x63 rail d 0 mv).condFault d 8 (uid d 0x0E 0) true).startGasp .pfail

def execRailUndervoltage (d : Die) (rail : Fin 9) (mv : Nat) (s : State) : Res := onDie s d (s.railLow d rail mv)

/-- A rail not good again within 20 ms: OFF-WAKE without the flush. -/
def execRailUvTimeout (s : State) : Res :=
  onPkg s (if s.pwr.low ≠ [] then
    (s.enterOffWake.putFlag 0 F.PWR_AON_RAIL_FAIL true).modRcv (fun r => { r with pkg := .idle, rung4 := false }) else s)

/-- XIN lost, seen by the always-on domain of a die (R783). -/
def execXinLoss (d : Die) (s : State) : Res :=
  onDie s d ((s.putFlag d F.PWR_EVENT_XIN_LOSS true).condFault d 7 (uid d 0x0E 0) true)

/-- At the first power-on reset the part generates and fuses its device identity key (R748); the public key is a free value. -/
def State.deviceKey (s : State) : State :=
  if s.flag 0 F.TEN_STATUS_DEV_KEY then s
  else
    (List.range 8).foldl (fun (a : State) i =>
      let f := a.freeVal (2 ^ 32)
      f.2.put 0 (F.TEN_DEV_PUB_WORD i) f.1) (s.putFlag 0 F.TEN_STATUS_DEV_KEY true)

/-- VAON rises past its threshold: every register at its Reset value, PWR_EN high, the rails awaited (R791). SAFE_N acts as soon as VAON
is up (R813). -/
def State.powerOn (s : State) : State :=
  let low := s.rcv.resetN
  let s := s.wipe .power
  let s := { s with
    pwr := { Pwr.reset with mode := .offWake, cold := true, railsWait := true },
    rcv := { Rcv.reset with resetN := low } }
  (s.putFlag 0 F.RCV_STATUS_SAFE (s.flag 0 F.RCV_STATUS_SAFE_PIN)).deviceKey

def execPowerOnReset (s : State) : Res := .next s.powerOn

def execVaonLoss (s : State) : Res := .next (s.modPwr (fun p => { p with mode := .off, phase := .idle, held := none, en := false }))

/-! ## Island PLLs (R782) -/

/-- A PCIe link down (R621). -/
def State.pcieDown (s : State) (p : Nat) : State :=
  if s.isHost p then s.portReset p true
  else (s.putFlag p F.PCI_STATUS_LINK_UP false).putFlag p F.PCI_EVENT_LINK_DOWN true

/-- The island's clock is gated: 0 copper PHY, 1 SerDes, 2 Rein SerDes, 3 PCIe, 4 boot flash; its links go down. -/
def State.pllLost (s : State) (d island : Nat) : State :=
  if s.pwr.unlocked.contains (d * 8 + island) then s
  else
    let s := s.modPwr (fun p => { p with unlocked := p.unlocked ++ [d * 8 + island] })
    match island with
    | 0 => (List.range 6).foldl (fun (a : State) p => a.linkDown d p 1) s
    | 1 => [6, 7].foldl (fun (a : State) p => a.linkDown d p 1) s
    | 2 => if d = 0 then (s.reinBroken true).reinBroken false else s
    | 3 => if s.flag d F.PCI_STATUS_LINK_UP then s.pcieDown d else s
    | _ => s

def execIslandPllUnlock (d : Die) (island : Fin 5) (s : State) : Res := onDie s d (s.pllLost d island)

def execIslandPllRelock (d : Die) (island : Fin 5) (s : State) : Res :=
  onDie s d (s.modPwr (fun p => { p with unlocked := p.unlocked.filter (· != d * 8 + island.val) }))

end Sys2Proof.Machine
end

