-- ==== Sys2Proof/Machine/Recovery.lean ====
section
/-! DEFINITION. The commands and events of faults, the recovery ladder, the watchdogs and the safe state (chapter 18), with the ends of a
Vat clear and of a last gasp, which a package reset waits for, and the temperature sensors. -/

namespace Sys2Proof.Machine

/-! ## What a package reset waits for -/

def execVatClearDone (d : Die) (s : State) : Res :=
  onDie s d (if s.flag d F.VAT_STATUS_CLEAR_BUSY then (s.clearDone d).pkgAdvance else s)

/-- The last gasp ends after `written` records (R702, R803). -/
def execLastGaspEnd (written : Nat) (s : State) : Res := onPkg s (s.gaspEnd written).pkgAdvance

/-! ## Fault classes (R795, R796, R800) -/

/-- The classes of kind Condition. -/
def condClass (c : Nat) : Bool := [7, 8, 9, 10, 12, 13, 14].contains c

/-- An occurrence of an Event class, or a change of a Condition class, with the counts of the resets that classes 1 and 2 have caused and
the escalation of class 4 (log entry 131). -/
def State.faultDetect (s : State) (d c u : Nat) (on : Bool) : State :=
  if condClass c then s.condFault d c u on
  else if on = false then s
  else match c with
    | 1 => (s.latchFault d 1 u).engineCounted d (u % 64)
    | 2 => (s.latchFault d 2 u).clusterCounted d (u % 8)
    | 4 => s.reloadEscalate d u
    | _ => s.latchFault d c u

def execFaultDetect (d : Die) (c : Unit16) (u : BitVec 16) (on : Bool) (s : State) : Res := onDie s d (s.faultDetect d c u.toNat on)

/-- A rung 2 reset that overran its bound, or whose reload failed. -/
def State.reloadFailed (s : State) (d : Nat) : ResetScope → State
  | .region q => if s.regionBusy d q then (s.clrBit d F.ARC_REGION_RST_BUSY q).regionFail d q else s
  | .unit u =>
    let v := u.toNat % 0x2000 + d * 0x2000
    let named := s.flag d F.RCV_UNIT_RST_GO && s.get d F.RCV_UNIT_RST_UID % 0x2000 == v % 0x2000
    (if named then s.unitResult d 4 else s).reloadEscalate d v

def execReloadFail (d : Die) (scope : ResetScope) (s : State) : Res := onDie s d (s.reloadFailed d scope)

/-! ## Rung 2 (R67 to R69, R799) -/

def execRegionResetReq (d : Die) (q : Fin 4) (s : State) : Res := onDie s d (s.regionReset d q 0 0)
def execRegionResetDone (d : Die) (q : Fin 4) (s : State) : Res := onDie s d (s.regionDone d q)

/-- RCV_UNIT_RST written with GO; a request while one is in progress on the die changes nothing. -/
def State.unitGo (s : State) (d u trig : Nat) : State :=
  if s.flag d F.RCV_UNIT_RST_GO then s
  else
    let s := s.puts d [(F.RCV_UNIT_RST_UID, u), (F.RCV_UNIT_RST_GO, 1), (F.RCV_UNIT_RST_RESULT, 0)]
    (s.unitRequest d u trig true).2

def execUnitRstGo (d : Die) (u : BitVec 16) (s : State) : Res := onDie s d (s.unitGo d u.toNat 0)

/-! ## Rungs 3 and 4 (R803 to R805) -/

def execPkgReset (s : State) : Res := onPkg s (s.pkgDecide 0 0)

/-- RESET_N low for 1 µs; a shorter pulse only breaks the guarantee (R804, R808). -/
def State.resetLow (s : State) (short : Bool) : State :=
  if short then (if s.powered then s.breakCond 2 else s)
  else
    let s := s.modRcv (fun r => { r with resetN := true })
    if s.powered then s.pkgDecide 5 0 else s

def execResetNAssert (short : Bool) (s : State) : Res := .next (s.resetLow short)

def execResetNRelease (s : State) : Res :=
  let s := s.modRcv (fun r => { r with resetN := false })
  .next (if s.powered then s.pkgAdvance else s)

def execRung4 (s : State) : Res := onPkg s (s.rung4 0 0)

/-- RUNG4_MS has passed: the wake sequence runs, with LAST_WAKE 3. -/
def State.rung4Wake (s : State) : State :=
  if s.rcv.pkg = .off4 then
    let s := s.modRcv (fun r => { r with pkg := .idle })
    (s.count 0 F.RCV_STATUS_RUNG4 1).beginWake 3 0
  else s

def execRung4OffExpire (s : State) : Res := .next s.rung4Wake

/-! ## Watchdogs (R806, R807) -/

def execWdogEn (s : State) : Res := onPkg s (s.putFlag 0 F.RCV_WDOG_EN true)

/-- The host watchdog expires: it runs in ACTIVE and TRIM once enabled. -/
def State.wdogFire (s : State) : State :=
  if s.flag 0 F.RCV_WDOG_EN then
    let s := (s.putFlag 0 F.RCV_WDOG_EXPIRED true).latchFault 0 11 (uid 0 0x0D 0)
    match s.get 0 F.RCV_WDOG_ACT with
    | 0 => s
    | 2 => s.rung4 4 0
    | _ => s.pkgDecide 4 0
  else s

/-- A kick: the key restarts the count, which is the environment's; any other value expires the watchdog. -/
def execWdogKick (key : BitVec 16) (s : State) : Res :=
  onPkg s (if key = 0x4B1C then s.put 0 F.RCV_WDOG_KICK_KEY key.toNat else (s.put 0 F.RCV_WDOG_KICK_KEY key.toNat).wdogFire)

def execWdogExpire (s : State) : Res := onPkg s (if s.pstate < 2 then s.wdogFire else s)

/-- Whether a cluster holds a frame in one of its queues. -/
def State.holdsFrame (s : State) (d c : Nat) : Bool := [0, 1, 2, 3].any (fun q => !(s.queued d c q).isEmpty)

def execQstall (d : Die) (c : Unit8) (s : State) : Res :=
  onDie s d (if s.get d F.RCV_QSTALL_STALL_MS ≠ 0 ∧ s.domOn d c ∧ s.holdsFrame d c then
    (((s.count d F.RCV_QSTALL_COUNT 1).latchFault d 3 (clUid d c)).clusterAct d c 2 3)
  else s)

/-! ## Safe state (R810 to R813) -/

/-- SAFE_N low for 1 µs; without VAON only the pin's level counts. -/
def execSafeNAssert (s : State) : Res :=
  let s := s.putFlag 0 F.RCV_STATUS_SAFE_PIN true
  .next (if s.pwr.mode = .off then s else s.safeEnter 6)

def execSafeNRelease (s : State) : Res := .next (s.putFlag 0 F.RCV_STATUS_SAFE_PIN false)

def State.safeRequest (s : State) (on : Bool) (trig : Nat) : State :=
  let s := s.putFlag 0 F.RCV_STATUS_SAFE_REQ on
  if on then s.safeEnter trig else s

def execSafeSet (s : State) : Res := onPkg s (s.safeRequest true 0)
def execSafeClr (s : State) : Res := onPkg s (s.safeRequest false 0)
def execSafeExit (s : State) : Res := onPkg s (s.safeExitNow 0).2

/-! ## ALARM_CLR and COND_CLR (R809, R814) -/

/-- Every latched bit of an inactive class clears, and the recorders' alarms are cleared where R687 allows. -/
def State.alarmClear (s : State) : State :=
  s.eachDie (fun d a =>
    let a := a.put d F.RCV_FAULT_LATCHED (a.get d F.RCV_FAULT_LATCHED &&& a.get d F.RCV_FAULT_ACTIVE)
    if a.powered ∧ a.flag d F.ERC_STATUS_C0_OVF = false then a.putFlag d F.ERC_STATUS_ALARM false else a)

def execAlarmClr (s : State) : Res := onPkg s s.alarmClear
def execCondClr (s : State) : Res := onPkg s (s.put 0 F.RCV_STATUS_COND 0)

/-! ## Temperature (R795, R880, R887) -/

/-- A sensor's reading in units of 0.125 °C, two's complement. -/
def State.temp (s : State) (d k : Nat) : Int := toSigned 12 (s.get d (F.ELX_TEMP_TEMP k))

/-- Whether a sensor of a die reads above a limit in units of 0.125 °C. -/
def State.hotter (s : State) (d : Nat) (lim : Int) : Bool :=
  (List.range 5).any (fun k => s.flag d (F.ELX_TEMP_VALID k) && decide (lim < s.temp d k))

/-- A conversion of a sensor that measures `mC` m°C before its TEMP_OFS. The rounding to 0.125 °C is a free value. -/
def State.convert (s : State) (d k : Nat) (mC : Int) : State :=
  let t := mC + s.calEff d 9 k
  let f := s.freeVal 2
  let r : Int × State := if t % 125 = 0 then (t / 125, s) else (t / 125 + f.1, f.2)
  let v := clampInt (-2048) 2047 r.1
  let s := (r.2.put d (F.ELX_TEMP_TEMP k) (ofSigned 12 v)).putFlag d (F.ELX_TEMP_VALID k) true
  let s := if s.rcv.temps.contains d = false ∨ toSigned 12 (s.get d F.ELX_TEMP_MAX_MAX) < v then
      ((s.put d F.ELX_TEMP_MAX_MAX (ofSigned 12 v)).put d F.ELX_TEMP_MAX_SENSOR k).modRcv (fun x => { x with
        temps := if x.temps.contains d then x.temps else x.temps ++ [d] })
    else s
  let hot := s.hotter d 1000
  let s := if hot ∧ s.flag d F.ELX_STATUS_TEMP_HIGH = false then s.putFlag d F.ELX_EVENT_TEMP_HIGH true else s
  (s.putFlag d F.ELX_STATUS_TEMP_HIGH hot).condFault d 13 (uid d 0x0D 0) hot

def execTempConversion (d : Die) (k : Fin 5) (mC : Int) (s : State) : Res := onDie s d (s.convert d k mC)

/-- A sensor above 135 °C for 1 ms, or none any longer. -/
def State.tempCrit (s : State) (d : Nat) (on : Bool) : State :=
  if on ≠ s.hotter d 1080 then s
  else
    let s := if on ∧ s.flag d F.ELX_STATUS_TEMP_CRIT = false then s.putFlag d F.ELX_EVENT_TEMP_CRIT true else s
    let s := s.modRcv (fun r => { r with hot := if on then r.hot.filter (· != d) ++ [d] else r.hot.filter (· != d) })
    let s := (s.putFlag d F.ELX_STATUS_TEMP_CRIT on).condFault d 14 (uid d 0x0D 0) on
    if on then s.safeEnter 7 else s

def execTempCrit (d : Die) (on : Bool) (s : State) : Res := onDie s d (s.tempCrit d on)

end Sys2Proof.Machine
end

