-- ==== Sys2Proof/Machine/Relock.lean ====
section
/-! DEFINITION. The commands of the time unit that act on other units: the relock of the time PLL and the step instant
(R562, R563, R581, R582). -/

namespace Sys2Proof.Machine

def execRelock (s : State) : Res := onPkg s s.relockBegin

def execRelockDone (s : State) : Res := onPkg s s.relockEnd

/-- A FREQ input loses its edges or shows them again (R576, R581): the PLL relocks when FREQ_REF names it. -/
def State.freqInput (s : State) (d n : Nat) (lost : Bool) : State :=
  if d ≠ 0 ∨ s.get d (F.TIM_CAP_CFG_MODE n) ≠ 4 ∨ s.servo.refsLost.contains n = lost then s
  else
    let rest := s.servo.refsLost.filter (· != n)
    let t : State := { s with servo := { s.servo with refsLost := if lost then n :: rest else rest } }
    if (timeBase t).freqRef = n + 1 then t.relockBegin else t

def execFreqInputLoss (d : Die) (n : Fin 4) (s : State) : Res := onDie s d (s.freqInput d n true)

def execFreqInputReturn (d : Die) (n : Fin 4) (s : State) : Res := onDie s d (s.freqInput d n false)

/-! ## The step instant (R562, R563) -/

/-- A reading of the old scale on the new one, in 64 bits. -/
def stepped (now : Nat) (delta : Int) : Nat := ofSigned 64 ((now : Int) + delta)

/-- The time-triggered group at a step (R563): with LEAD 0 its offset takes −Δ, so the cluster clock stays continuous; with
LEAD 1 the cluster clock follows the new scale. The deviations of its reference follow the reading. -/
def State.stepTt (s : State) (d : Nat) (delta : Int) : State :=
  let s := s.ttRebase d
  s.modTt d (fun g => { g with
    ofs := if (s.ttCfg d).lead then g.ofs else g.ofs - delta
    since := stepped (s.now d) delta })

/-- A ONCE pulse whose start lies in [S, S + Δ) fires at S (R563). -/
def State.stepPulses (s : State) (d old : Nat) (delta : Int) : State :=
  [0, 1, 2, 3].foldl (fun (b : State) n =>
    let p := b.pulse d n
    if b.get d (F.TIM_PULSE_CFG_MODE n) = 1 ∧ p.fired = false ∧ old ≤ p.start ∧ (p.start : Int) < (old : Int) + delta then
      (b.startPulse d n).setBit d F.TIM_EVENT_PULSE n
    else b) s

/-- One die at the step instant: the new reading, its event, its mark with the old-scale reading, and the Skiver's re-arming
with a RESYNC notice for every enabled channel (R240, R562, R681). -/
def State.stepDie (s : State) (d : Nat) (delta : Int) : State :=
  let old := s.now d
  let s := (s.stepTt d delta).put d F.TIM_NOW_NS (stepped old delta)
  let s := (s.putFlag d F.TIM_EVENT_STEPPED true).markRec d 1 old
  let s := s.stepPulses d old delta
  ({ s with rearm := s.rearm.filter (· != d) ++ [d] } : State).putFlag d F.DPT_STATUS_RESYNC_PENDING true

/-- A forward step past the guard point or the instant runs the guard check and the commit at once, in that order (R119). -/
def State.stepGuard (s : State) (members : Nat) : State :=
  let s := if s.commitTime ≤ s.now 0 + s.guardNs then s.guardCheck members else s
  if s.commitTime ≤ s.now 0 then s.commitInstant else s

/-- The step of Δ on every die together. -/
def State.stepAll (s : State) (members : Nat) : State :=
  if s.flag 0 F.TIM_STATUS_STEP_PENDING then
    let delta := s.servo.stepDelta
    let auto := s.servo.autoStep
    let s := s.putFlag 0 F.TIM_STATUS_STEP_PENDING false
    let s := s.eachDie (fun d a => a.stepDie d delta)
    let s := if auto then s.servoTo 1 else s
    let s := (s.quietPulses.gateClk s.clkout.freq).syncTime
    if 0 < delta then s.stepGuard members else s
  else s

def execStepInstant (members : Fin 32) (s : State) : Res := onPkg s (s.stepAll members)

end Sys2Proof.Machine
end

