-- ==== Sys2Proof/Machine/Switch.lean ====
section
/-! DEFINITION. The commands of the switch core (chapter 11): scheduler rounds, captures, cut-through underruns, the end of a
commit-queue wait, the leaked-buffer detector and tenant shaper rates. -/

namespace Sys2Proof.Machine

/-! ## The scheduler (R516 to R518) -/

/-- Whether output `o` takes a head frame now (R517). -/
def State.outReady (s : State) (d o : Nat) : Bool :=
  if o < 17 then true
  else if o < 49 then s.slotFor d ((o - 17) / 4) ((o - 17) % 4)
  else if o < 113 then decide ((s.outQueue d o).length < 256)
  else true

/-- The head entries of a die's virtual output queues: the first of each input, output and class. -/
def voqHeads : List VEntry → List VEntry
  | [] => []
  | e :: r => e :: (voqHeads r).filter (fun x => !(x.input == e.input && x.output == e.output && x.hi == e.hi))

/-- The element of a list least at or after a pointer, modulo `m`. -/
def atOrAfter (m ptr : Nat) : List Nat → Option Nat
  | [] => none
  | i :: r =>
    match atOrAfter m ptr r with
    | none => some i
    | some j => if (i + m - ptr % m) % m ≤ (j + m - ptr % m) % m then some i else some j

def ptrKey (d : Nat) (hi : Bool) (n : Nat) : Nat := (d * 2 + bit hi) * 128 + n

/-- A matched pair: input, output, class. -/
structure Match where
  input : Nat
  output : Nat
  hi : Bool
deriving DecidableEq, Repr

/-- The grants of one iteration: each unmatched output grants one input in class H, or in class N when no input has an
eligible head for it in class H. -/
def State.grants (s : State) (d : Nat) (heads : List VEntry) (ms : List Match) : List Match :=
  (List.range 114).filterMap (fun o =>
    if ms.any (fun m => m.output == o) then none
    else
      let r := fun (hi : Bool) => (heads.filter (fun e => e.output == o && e.hi == hi &&
        !ms.any (fun m => m.input == e.input))).map (·.input)
      let hi := !(r true).isEmpty
      (atOrAfter 30 (tblGet s.grantPtr 0 (ptrKey d hi o)) (r hi)).map (fun i => ⟨i, o, hi⟩))

/-- The accepts of one iteration. -/
def State.accepts (s : State) (d : Nat) (gs : List Match) : List Match :=
  (List.range 30).filterMap (fun i =>
    let g := fun (hi : Bool) => (gs.filter (fun m => m.input == i && m.hi == hi)).map (·.output)
    let hi := !(g true).isEmpty
    (atOrAfter 114 (tblGet s.acceptPtr 0 (ptrKey d hi i)) (g hi)).map (fun o => ⟨i, o, hi⟩))

/-- The pointers moved past an accepted pair of the first iteration. -/
def State.movePtrs (s : State) (d : Nat) (m : Match) : State :=
  { s with
    grantPtr := tblSet s.grantPtr 0 (ptrKey d m.hi m.output) ((m.input + 1) % 30),
    acceptPtr := tblSet s.acceptPtr 0 (ptrKey d m.hi m.input) ((m.output + 1) % 114) }

/-- The matching of a round: iterations 1 to 3. -/
def State.matching (s : State) (d : Nat) : List Match × State :=
  let heads := (voqHeads (s.voqOf d)).filter (fun e => s.outReady d e.output)
  let m1 := s.accepts d (s.grants d heads [])
  let s := m1.foldl (fun a m => a.movePtrs d m) s
  let m2 := m1 ++ s.accepts d (s.grants d heads m1)
  (m2 ++ s.accepts d (s.grants d heads m2), s)

/-- A head frame reaches its output. -/
def State.toDest (s : State) (d o f : Nat) : State :=
  if o < 8 then s.toEthernet d o f
  else if o < 17 then s.setOutQueue d o (s.outQueue d o ++ [f])
  else if o < 49 then s.fillSlot f d ((o - 17) / 4) ((o - 17) % 4)
  else s.setOutQueue d o (s.outQueue d o ++ [f])

/-- The head frame of a matched queue moved to its output, when the output still takes it. -/
def State.moveHead (s : State) (d : Nat) (m : Match) : State :=
  if !s.outReady d m.output then s
  else match (s.voqOf d).find? (fun e => e.input == m.input && e.output == m.output && e.hi == m.hi) with
    | none => s
    | some e => (s.setVoq d ((s.voqOf d).erase e)).toDest d m.output e.frame

def execSchedulerRound (d : Die) (s : State) : Res :=
  let r := s.matching d
  onDie s d (r.1.foldl (fun a m => a.moveHead d m) r.2)

/-! ## Captures (R527) -/

/-- The payload of a capture record from byte 16 on. -/
def captureBody (x : Frame) (bs : List Byte) : List Byte :=
  leBytes 2 x.len ++ leBytes 1 x.port ++ leBytes 1 x.pflags ++ leBytes 2 x.binding ++ leBytes 2 (x.tid % 4096) ++
    leBytes 8 x.stamp ++ bs

/-- The recorder is done with a frame: its charge at output 113 ends and its hold is released. -/
def State.recorderDone (s : State) (d f : Nat) : State :=
  ((s.setOutQueue d 113 ((s.outQueue d 113).erase f)).leaveOutput f d 113).doneWith f

/-- The capture copy at the head of the recorder's queue is recorded, or skipped when its cells read with an uncorrectable
error. -/
def execCaptureRecord (d : Die) (s : State) : Res :=
  onDie s d (match s.outQueue d 113 with
    | [] => s
    | f :: _ =>
      let x := s.frame f
      if x.kind = 4 then s
      else
        let r := s.frameRead (frameDie f) x 0 (min x.len 256) 6 4
        let s := if r.2.1 then r.2.2.count d (F.SWC_DROP_COUNT 10) 1
          else r.2.2.submitRec d x.capClass 3 (uid d 8 0) x.tid (captureBody x r.1)
        s.recorderDone d f)

/-- The longest body of a submitted frame: LEN 1,008, or 992 in FC-1 mode (R680). -/
def State.subLimit (s : State) (d : Nat) : Nat := if s.flag d F.ERC_STATUS_FC1 then 992 else 1008

/-- A submission of record bytes: refused when too long (R680), else sequenced or refused (R675, R896). -/
def State.submit (s : State) (d c fmt source tid : Nat) (body : List Byte) : State :=
  if body.length > s.subLimit d then s.refuseRec d else s.submitRec d c fmt source tid body

/-- The submission frame at the head of the recorder's queue: QUEUE is its class, FMT PACK for an engine's frame and HOST for
a DMA channel's. Cells that read with an uncorrectable error drop it (R526). -/
def State.submitFrame (s : State) (d f : Nat) : State :=
  let x := s.frame f
  let r := s.frameRead (frameDie f) x 0 x.len 6 80
  let s := if r.2.1 then r.2.2.countDrop d 9 x.tid
    else r.2.2.submit d x.queue (if x.sender.isSome then 1 else 2) x.origin x.tid r.1
  (s.txDone x).recorderDone d f

/-- A record submitted to a die's recorder (R675, R680): as given, or the submission frame at the head of its queue. -/
def execRecordSubmit (d : Die) (sub : Option Submission) (s : State) : Res :=
  onDie s d (match sub with
    | some r => s.submit d r.cls r.fmt r.source r.tid r.body
    | none => match s.outQueue d 113 with
      | [] => s
      | f :: _ => if (s.frame f).kind = 4 then s.submitFrame d f else s)

/-- An egress port reaches a cut-through line that is not yet written (R531). -/
def execCtUnderrun (d : Die) (p : Unit8) (s : State) : Res :=
  onDie s d (match (s.ethPort d p).tx with
    | none => s
    | some (f, _) =>
      let x := s.frame f
      if x.cutThrough ∧ ¬ x.bad ∧ s.receiving f then
        ((s.setFrame f { x with bad := true }).count d F.SWC_CT_UNDERRUN_COUNT 1).putFlag d F.SWC_EVENT_CT_UNDERRUN true
      else s)

/-! ## The commit queue (R532) -/

/-- SWC_STATUS.CQ_STALL: whether an engine of the die waits for room in the commit queue. -/
def State.syncCq (s : State) (d : Nat) : State :=
  s.putFlag d F.SWC_STATUS_CQ_STALL ((List.range 64).any (fun e => (s.eng d e).cqWait))

/-- A waiting engine's group fits and is released; its WAIT continues. -/
def execCommitQueueWaitEnd (d : Die) (e : Engine) (s : State) : Res :=
  onDie s d (if (s.eng d e).cqWait ∧ s.groupFits d e then ((s.pushGroup d e).waitRest d e).syncCq d else s)

/-! ## The leaked-buffer detector (R540 to R542) -/

/-- The cells in use of a die. -/
def State.cellsOn (s : State) (d : Nat) : List (Nat × Cell) :=
  (s.cells.filter (fun e => e.1 / 65536 == d && e.2.used)).map (fun e => (e.1 % 65536, e.2))

/-- The cells reachable from live descriptors. -/
def State.reachable (s : State) (d : Nat) : List Nat :=
  (s.frames.filter (fun e => e.1 / 16384 == d && e.2.live)).flatMap (fun e => e.2.cells)

/-- The leaked cells of a die. -/
def State.leaked (s : State) (d : Nat) : List (Nat × Cell) :=
  let r := s.reachable d
  (s.cellsOn d).filter (fun e => !r.contains e.1)

/-- The cells whose link-table entry names an owner. -/
def State.ownerEntries (s : State) (d u : Nat) : Nat := ((s.cellsOn d).filter (fun e => e.2.owner == u)).length

/-- The owners of a die that its counts or its link table name. -/
def State.ownersOn (s : State) (d : Nat) : List Nat :=
  (((s.owners.filter (fun (e : Nat × Nat) => e.1 / 65536 == d)).map (fun (e : Nat × Nat) => e.1 % 65536)) ++
    (s.cellsOn d).map (fun (e : Nat × Cell) => e.2.owner)).eraseDups

/-- What one audit finds. -/
def State.findings (s : State) (d : Nat) : List Suspect :=
  (s.leaked d).map (fun e => Suspect.cell e.1 e.2.owner) ++
    ((s.ownersOn d).filterMap (fun u =>
      let diff := (s.ownerCount d u : Int) - s.ownerEntries d u
      if diff = 0 then none else some (Suspect.count u diff)))

/-- A confirmed finding captured in SWC_LEAK_LOG, or noted there as a further one. -/
def State.leakLog (s : State) (d owner cells first : Nat) (only : Bool) : State :=
  if s.flag d F.SWC_LEAK_LOG_VALID then s.putFlag d F.SWC_LEAK_LOG_MORE true
  else ((((s.put d F.SWC_LEAK_LOG_OWNER owner).put d F.SWC_LEAK_LOG_CELLS cells).put d F.SWC_LEAK_LOG_FIRST_CELL
    first).putFlag d F.SWC_LEAK_LOG_VALID true).putFlag d F.SWC_LEAK_LOG_COUNT_ONLY only

/-- The leak record (R542). -/
def State.leakRec (s : State) (d kind fixed owner cells first before after tid : Nat) : State :=
  s.partRec d 2 8 0 (leBytes 1 kind ++ leBytes 1 fixed ++ leBytes 2 owner ++ leBytes 2 cells ++ leBytes 2 first ++
    leBytes 2 (min before 0xFFFF) ++ leBytes 2 after ++ leBytes 2 tid ++ leBytes 2 0 ++ leBytes 8 (s.now d) ++ leBytes 8 0)

/-- The confirmed leaked cells of one owner and tenant. -/
def State.leakFinding (s : State) (d owner : Nat) (tid : Option Nat) (cs : List Nat) : State :=
  let fix := s.flag d F.SWC_LEAK_CTRL_RECLAIM
  let before := s.ownerCount d owner
  let s := if fix then
      let s := cs.foldl (fun a c => a.freeCell d c) s
      let s := match tid with
        | some t => s.unchargeTenant d t cs.length
        | none => s.put d F.SWC_POOL_RX_HELD (s.get d F.SWC_POOL_RX_HELD - cs.length)
      (s.setOwnerCount d owner (s.ownerEntries d owner)).count d F.SWC_LEAK_CELLS_COUNT cs.length
    else s
  let s := (s.leakLog d owner cs.length (cs.headD 0) false).putFlag d F.SWC_EVENT_LEAK true
  s.leakRec d 0x31 (bit fix) owner cs.length (cs.headD 0) before (s.ownerCount d owner) (tid.getD 0xFFFF)

/-- A confirmed count difference of an owner. -/
def State.countFinding (s : State) (d owner : Nat) (diff : Int) : State :=
  let fix := s.flag d F.SWC_LEAK_CTRL_RECLAIM
  let before := s.ownerCount d owner
  let s := if fix then s.setOwnerCount d owner (s.ownerEntries d owner) else s
  let s := (s.leakLog d owner diff.natAbs 0xFFFF true).putFlag d F.SWC_EVENT_COUNT_FIX true
  s.leakRec d 0x32 (bit fix) owner diff.natAbs 0xFFFF before (s.ownerCount d owner) 0xFFFF

/-- The confirmed leaked cells grouped by owner and tenant, in order of their lowest cell. -/
def leakGroups : Nat → List (Nat × Cell) → List (Nat × Option Nat × List Nat)
  | 0, _ => []
  | _ + 1, [] => []
  | fuel + 1, (c, k) :: r =>
    let same := r.filter (fun e => e.2.owner == k.owner && e.2.tid == k.tid)
    let rest := r.filter (fun e => !(e.2.owner == k.owner && e.2.tid == k.tid))
    (k.owner, k.tid, c :: same.map (·.1)) :: leakGroups fuel rest

/-- An audit (R540, R541): findings that the audit before also made are confirmed. -/
def State.audit (s : State) (d : Nat) : State :=
  let now := s.findings d
  let was := tblGet s.suspects [] d
  let again := fun (x : Suspect) => was.contains x
  let cells := (s.leaked d).filter (fun e => again (Suspect.cell e.1 e.2.owner))
  let s : State := { s with suspects := tblSet s.suspects [] d now }
  let s := (leakGroups cells.length cells).foldl (fun (a : State) (g : Nat × Option Nat × List Nat) => a.leakFinding d g.1 g.2.1 g.2.2) s
  now.foldl (fun (a : State) (x : Suspect) => match x with
    | .count u diff => if again x then a.countFinding d u diff else a
    | .cell _ _ => a) s

def execLeakAudit (d : Die) (s : State) : Res :=
  onDie s d (if s.flag d F.SWC_LEAK_CTRL_EN then s.audit d else s)

/-- A write of SWC_TSH_RATE (R538). -/
def execTshRateWrite (d : Die) (k : Fin 256) (rate : Word32) (s : State) : Res := onDie s d (s.tshWrite d k rate.toNat)

end Sys2Proof.Machine
end

