-- ==== Sys2Proof/Machine/Access.lean ====
section
/-! DEFINITION. Accesses of the owner and the Pommel port to the control space: what a write of a command field starts, the fence of
the register's domain, and the MSI-X table; and the rows REGISTER_WRITE and READ_CLEAR (R10 to R18, R720, R766). -/

namespace Sys2Proof.Machine

/-! ## Command fields -/

/-- The state that a meaning leaves. -/
def State.did (s : State) (f : State → Res) : State :=
  match f s with
  | .next t => t
  | _ => s

def fin2 (n : Nat) : Fin 2 := ⟨n % 2, Nat.mod_lt _ (by decide)⟩
def fin4 (n : Nat) : Fin 4 := ⟨n % 4, Nat.mod_lt _ (by decide)⟩
def fin8 (n : Nat) : Fin 8 := ⟨n % 8, Nat.mod_lt _ (by decide)⟩
def fin16 (n : Nat) : Fin 16 := ⟨n % 16, Nat.mod_lt _ (by decide)⟩
def fin32 (n : Nat) : Fin 32 := ⟨n % 32, Nat.mod_lt _ (by decide)⟩
def fin64 (n : Nat) : Fin 64 := ⟨n % 64, Nat.mod_lt _ (by decide)⟩

/-- An operation for each of the low `n` bits of a mask that is 1, in ascending order. -/
def State.eachBit (s : State) (n mask : Nat) (f : Nat → State → State) : State :=
  ((List.range n).filter (fun i => mask.testBit i)).foldl (fun a i => f i a) s

/-- ETH_PORT_CTRL (R404): ADMIN_DOWN acts when it changes. -/
def State.ethWrite (s : State) (d off v : Nat) : State :=
  if off < 0x2000 ∧ off % 0x400 = 4 then
    let p := off / 0x400
    let was := s.flag d (F.ETH_PORT_CTRL_ADMIN_DOWN p)
    let s := s.rawWrite d off (v - v % 4 + bit was)
    let s := if v.testBit 0 = was then s else s.did (execAdminDown (fin8 d) (fin8 p) (v.testBit 0))
    if v.testBit 1 then s.did (execRestartAn (fin8 d) (fin8 p)) else s
  else s.rawWrite d off v

/-- ADMIN_DOWN of a serial port: the port falls silent and keeps its queued frames. -/
def State.serAdmin (s : State) (d p : Nat) (down : Bool) : State :=
  let s := s.putFlag d (F.SER_PORT_CTRL_ADMIN_DOWN p) down
  if down then (s.modSer d p (fun g => { g with tx := none })).putFlag d (F.SER_PORT_STATUS_BUSY p) false else s

/-- SER_PORT_CTRL and SER_TX_CTRL. -/
def State.serWrite (s : State) (d off v : Nat) : State :=
  let p := off % 0x2000 / 0x400
  if off < 0x42000 ∧ off % 0x400 = 4 then
    let s := s.serAdmin d p (v.testBit 0)
    let s := if v.testBit 1 then s.did (execRecover (fin8 d) (fin8 p)) else s
    let s := if v.testBit 2 then s.did (execDetectStart (fin8 d) (fin8 p)) else s
    if v.testBit 3 then s.did (execGo (fin8 d) (fin8 p)) else s
  else if off < 0x42000 ∧ off % 0x400 = 0x14 then
    if v.testBit 0 then s.abortHead d p else s
  else s.rawWrite d off v

/-- ADMIN_DOWN of the time-triggered group: CONFIG while it is 1, and LISTEN when it returns to 0 (Group transitions). -/
def State.ttAdmin (s : State) (d : Nat) (down : Bool) : State :=
  let was := s.flag d F.TTE_CTRL_ADMIN_DOWN
  let s := s.putFlag d F.TTE_CTRL_ADMIN_DOWN down
  if down = was then s else if down then s.ttHold d else s.ttEvent d .configured

/-- TTE_CTRL and TTE_BR_CTRL. -/
def State.tteWrite (s : State) (d off v : Nat) : State :=
  if off = R.TTE_CTRL.off then
    let s := s.ttAdmin d (v.testBit 1)
    if v.testBit 0 then s.did (execTtRestart (fin8 d)) else s
  else if off = 0x80028 ∨ off = 0x8002C then
    let ch := (off - 0x80028) / 4
    let s := s.eachBit 4 v (fun b a => a.did (execTtCut (fin8 d) (fin2 ch) (fin4 b)))
    s.eachBit 4 (v / 16) (fun b a => a.did (execTtReadmit (fin8 d) (fin2 ch) (fin4 b)))
  else s.rawWrite d off v

/-- TIM_CTRL, TIM_CLKOUT and TIM_PULSE_CFG. -/
def State.timWrite (s : State) (d off v : Nat) : State :=
  if off = R.TIM_CTRL.off ∧ d = 0 then
    let s := s.rawWrite d off v
    match v % 8 with
    | 1 => s.did execAccept
    | 2 => s.did execStep
    | 3 => s.relockBegin
    | _ => s
  else if off = R.TIM_CLKOUT.off ∧ d = 0 then s.clkoutFreq (v % 8)
  else if 0x100300 ≤ off ∧ off < 0x100380 ∧ off % 32 = 0 then
    let s := s.rawWrite d off (v % 16)
    if v.testBit 4 then s.did (execPulseArm (fin8 d) (fin4 ((off - 0x100300) / 32))) else s
  else s.rawWrite d off v

/-- The lace registers that act when written. -/
def State.lceWrite (s : State) (d off v : Nat) : State :=
  if off = R.LCE_CUE.off then
    s.cue d (v / 65536 % 8) (v % 65536) (v / 0x80000 % 512)
  else if 0x140100 ≤ off ∧ off < 0x140500 ∧ (off - 0x140100) % 0x40 = 0x0C then s.divWrite d ((off - 0x140100) / 0x40) v
  else if 0x140100 ≤ off ∧ off < 0x140500 ∧ (off - 0x140100) % 0x40 = 0x10 then s.lcePush d ((off - 0x140100) / 0x40) (v % 65536)
  else if 0x142000 ≤ off ∧ off < 0x142100 then
    let k := (off - 0x142000) / 4
    s.loopDef d (k / 4) (k % 4) (v % 32) (v / 256 % 32)
  else s.rawWrite d off v

/-- DMA_CH_CTRL. -/
def State.dmaWrite' (s : State) (d off v : Nat) : State :=
  if 0x1C0100 ≤ off ∧ off < 0x1C0300 ∧ off % 16 = 12 then
    let ch := (off - 0x1C0100) / 16
    let s := if v.testBit 0 then s.dmaAbort d ch else s
    if v.testBit 1 then s.dmaChReset d ch else s
  else s.rawWrite d off v

/-- ERC_CTRL, ERC_SNAP and ERC_CLR_CTRL. -/
def State.ercWrite (s : State) (d off v : Nat) (env : WriteEnv) : State :=
  if off = R.ERC_CTRL.off then
    let s := if v.testBit 0 then s.did (execFlush (fin8 d)) else s
    let s := if v.testBit 1 then s.did (execErcAlarmClr (fin8 d)) else s
    let s := if v.testBit 2 then s.retryArchive d else s
    if v.testBit 3 then s.did (execArcAdopt (fin8 d)) else s
  else if off = R.ERC_CLR_CTRL.off ∧ d = 0 then (if v.testBit 0 then s.clearGo env.cut else s)
  else if 0x240200 ≤ off ∧ off < 0x240280 ∧ off % 32 = 0 then
    let k := (off - 0x240200) / 32
    let s := s.rawWrite d off (v / 8 % 2 * 8)
    let s := if v.testBit 0 then s.snapTake d k else s
    if v.testBit 1 then s.did (execSnapRelease (fin8 d) (fin4 k)) else s
  else s.rawWrite d off v

/-- DPT_NCH_IDX(n): FULL is cleared by a 1, and RD keeps its limit (R238, R247). -/
def State.dptWrite (s : State) (d off v : Nat) : State :=
  if 0x2C0100 ≤ off ∧ off < 0x2C0300 ∧ off % 8 = 4 then
    let n := (off - 0x2C0104) / 8
    (if v.testBit 31 then s.putFlag d (F.DPT_NCH_IDX_FULL n) false else s).noticeAdvance d n (v / 65536 % 512)
  else s.rawWrite d off v

/-- VAT_MARCH_CTRL. -/
def State.vatWrite' (s : State) (d off v : Nat) (env : WriteEnv) : State :=
  if off = R.VAT_MARCH_CTRL.off then
    let s := if v.testBit 1 then s.marchAbort d else s
    if v.testBit 0 then s.did (execMarchStart (fin8 d) (v.testBit 2) (v / 65536 % 65536) env.spares) else s.rawWrite d off (v - v % 4)
  else s.rawWrite d off v

/-- AWL_CL_CTRL and AWL_ENG_CTRL. -/
def State.awlWrite (s : State) (d off v : Nat) (env : WriteEnv) : State :=
  if 0x340100 ≤ off ∧ off < 0x340180 ∧ off % 16 = 4 then
    let c := (off - 0x340100) / 16
    let s := if v.testBit 0 then s.did (execClusterReset (fin8 d) (fin8 c) env.conns) else s
    s.ibankStart d c (v / 2 % 4) (v / 8 % 2)
  else if 0x340200 ≤ off ∧ off < 0x340400 ∧ off % 8 = 4 then
    if v.testBit 0 then s.did (execEngineReset (fin8 d) (fin64 ((off - 0x340200) / 8))) else s
  else s.rawWrite d off v

/-- HAR_CTRL; the instant and the guard time do not change while a commit is armed or locked. -/
def State.harWrite (s : State) (d off v : Nat) : State :=
  if d ≠ 0 then s.rawWrite d off v
  else if off = R.HAR_CTRL.off then
    let s := s.rawWrite d off v
    match v % 8 with
    | 1 => s.did execHarLoad
    | 2 => s.did execHarPrepare
    | 3 => s.arm
    | 4 => s.did execHarAbort
    | 5 => s.did execHarDiscard
    | _ => s
  else if (off = R.HAR_COMMIT_TIME.off ∨ off = R.HAR_COMMIT_TIME.off + 4 ∨ off = R.HAR_GUARD.off) ∧ (s.harState = 7 ∨ s.harState = 8) then s
  else s.rawWrite d off v

/-- TEN_CTRL. -/
def State.tenWrite (s : State) (d off v : Nat) : State :=
  if off = R.TEN_CTRL.off ∧ d = 0 then
    let s := s.rawWrite d off v
    match v % 8 with
    | 1 => s.did execBind
    | 2 => s.did execUnbind
    | 3 => s.did execRaiseSec
    | 4 => s.did execAttest
    | _ => s
  else s.rawWrite d off v

/-- PWR_CTRL and PWR_VCORE. -/
def State.pwrWrite (s : State) (d off v : Nat) : State :=
  if off = R.PWR_CTRL.off ∧ d = 0 then
    let s := s.rawWrite d off v
    match v % 8 with
    | 1 => s.did execCmdActive
    | 2 => s.did execCmdTrim
    | 3 => s.did execCmdRetain
    | 4 => s.did execCmdOffWake
    | 5 => s.did execCmdCycle
    | _ => s
  else if off = R.PWR_VCORE.off ∧ d = 0 then s.did (execVcoreTargetWrite (BitVec.ofNat 32 v))
  else s.rawWrite d off v

/-- RCV_CTRL, RCV_WDOG_KICK and RCV_UNIT_RST; `trig` names who writes: 0 the owner, 1 the Pommel port. -/
def State.rcvWrite (s : State) (d off v trig : Nat) : State :=
  if off = R.RCV_CTRL.off ∧ d = 0 then
    let s := s.rawWrite d off v
    match v % 8 with
    | 1 => s.pkgDecide trig 0
    | 2 => s.rung4 trig 0
    | 3 => s.safeRequest true trig
    | 4 => s.safeRequest false trig
    | 5 => (s.safeExitNow trig).2
    | 6 => s.alarmClear
    | 7 => s.did execCondClr
    | _ => s
  else if off = R.RCV_WDOG_KICK.off ∧ d = 0 then s.did (execWdogKick (BitVec.ofNat 16 v))
  else if off = R.RCV_UNIT_RST.off then
    if v.testBit 16 then s.unitGo d (v % 65536) trig
    else if s.flag d F.RCV_UNIT_RST_GO then s else s.rawWrite d off v
  else s.rawWrite d off v

/-- REI_CTRL and REI_MGMT_CTRL; only the head package accepts REIN_RESET (R840). -/
def State.reiWrite (s : State) (d off v : Nat) : State :=
  if off = R.REI_CTRL.off ∧ d = 0 then
    let s := s.rawWrite d off v
    if v % 4 = 1 ∧ s.reinHead then s.reinResetNow else s
  else if off = R.REI_MGMT_CTRL.off ∧ d = 0 then
    if s.flag 0 F.REI_MGMT_CTRL_BUSY then s
    else
      let s := s.rawWrite d off (v / 2 % 2 * 2)
      if v.testBit 0 then s.mgmtStart else s
  else s.rawWrite d off v

/-- ARC_REGION_RST and ARC_SKEW. -/
def State.arcWrite (s : State) (d off v trig : Nat) : State :=
  if off = R.ARC_REGION_RST.off then
    (s.rawWrite d off (v - v % 16)).eachBit 4 v (fun q a => a.regionReset d q trig 0)
  else if off = R.ARC_SKEW.off ∧ v.testBit 16 then (s.rawWrite d off v).condFault d 9 (uid d 9 0) false
  else s.rawWrite d off v

/-- A 32-bit write as it acts on the register at an offset of die `d`. -/
def State.regWrite (s : State) (d off v trig : Nat) (env : WriteEnv) : State :=
  match off / 0x40000 with
  | 0 => s.ethWrite d off v
  | 1 => s.serWrite d off v
  | 2 => s.tteWrite d off v
  | 3 =>
    if 0xC2000 ≤ off ∧ off < 0xC3000 ∧ off % 16 = 4 then s.tshWrite d ((off - 0xC2000) / 16) v else s.rawWrite d off v
  | 4 => s.timWrite d off v
  | 5 => s.lceWrite d off v
  | 7 => s.dmaWrite' d off v
  | 9 => s.ercWrite d off v env
  | 11 => s.dptWrite d off v
  | 12 => s.vatWrite' d off v env
  | 13 => s.awlWrite d off v env
  | 14 => s.harWrite d off v
  | 15 => s.tenWrite d off v
  | 19 => s.pwrWrite d off v
  | 20 => s.rcvWrite d off v trig
  | 23 => s.reiWrite d off v
  | 24 => if off = R.CAL_USER.off then s.calWrite d (BitVec.ofNat 32 v).toInt else s.rawWrite d off v
  | 25 => if 0x640100 ≤ off ∧ off < 0x640300 then s.padWrite d ((off - 0x640100) / 4) v else s.rawWrite d off v
  | 26 => s.arcWrite d off v trig
  | _ => s.rawWrite d off v

/-! ## Interrupts of a written event register (R631) -/

/-- The owner source whose event register lies at an offset. -/
def eventRow (off : Nat) : Option Nat :=
  if off < 0x2000 then (if off % 0x400 = 0xC then some 0 else none)
  else if 0x40000 ≤ off ∧ off < 0x42000 then (if off % 0x400 = 0xC then some 1 else none)
  else
    (([(R.TTE_EVENT, 2), (R.SWC_EVENT, 3), (R.TIM_EVENT, 4), (R.LCE_EVENT, 5), (R.PCI_EVENT, 6), (R.DMA_EVENT, 7), (R.MBX_EVENT, 8),
      (R.ERC_EVENT, 9), (R.PKT_EVENT, 10), (R.DPT_EVENT, 11), (R.VAT_EVENT, 12), (R.AWL_EVENT, 13), (R.HAR_EVENT, 14), (R.TEN_EVENT, 15),
      (R.PWR_EVENT, 16), (R.RCV_EVENT, 17), (R.WLT_EVENT, 19), (R.REI_EVENT, 20), (R.ELX_EVENT, 22), (R.ARC_STATUS, 23)] :
        List (Reg × Nat)).find? (fun e => e.1.off == off)).map (·.2)

/-! ## Accesses of the owner and the Pommel port -/

/-- An offset of the MSI-X table or of the pending-bit array (R629). -/
def inMsix (off : Nat) : Bool := decide (0x190000 ≤ off) && decide (off < 0x198100)

/-- A 32-bit word of the MSI-X table or the pending-bit array of a die's port. -/
def State.msixRead (s : State) (d off : Nat) : Nat :=
  if off < 0x198000 then s.msixWord d ((off - 0x190000) / 4)
  else
    let w := (off - 0x198000) / 4
    (List.range 32).foldl (fun a i => if s.host.msixPend.contains (d * 2048 + 32 * w + i) then a + 2 ^ i else a) 0

/-- A read of the control space of a die: none when the register's domain refuses it at the fence. -/
def State.ctlRead (s : State) (d off : Nat) : Option Nat × State :=
  match s.regFenced d off with
  | some n => (none, s.fenceRefused d n)
  | none =>
    let s := s.msixScan
    if inMsix off then (some (s.msixRead d off), s)
    else if 0x140100 ≤ off ∧ off < 0x140500 ∧ (off - 0x140100) % 0x40 = 0x14 then
      let r := s.lcePop d ((off - 0x140100) / 0x40)
      (some r.1, r.2)
    else if off = R.ERC_CLR_NONCE.off ∧ d = 0 then
      let s := s.did execClrNonce
      let s := s.wr 0 R.ERC_CLR_NONCE (BitVec.ofNat 64 s.recP.nonce)
      (some (s.recP.nonce % 2 ^ 32), s)
    else
      let r := (s.fullView d off).rawRead d off true
      (some r.1, r.2)

/-- An aligned 64-bit read of a pair. -/
def State.ctlRead64 (s : State) (d off : Nat) : Option Nat × State :=
  match s.regFenced d off with
  | some n => (none, s.fenceRefused d n)
  | none =>
    let s := s.msixScan
    if inMsix off then (some (s.msixRead d off + 2 ^ 32 * s.msixRead d (off + 4)), s)
    else if off = R.ERC_CLR_NONCE.off ∧ d = 0 then
      let s := s.did execClrNonce
      (some s.recP.nonce, s.wr 0 R.ERC_CLR_NONCE (BitVec.ofNat 64 s.recP.nonce))
    else
      let r := (s.fullView d off).rawRead64 d off true
      (some r.1, r.2)

/-- A write of the control space of a die; false when the register's domain refuses it at the fence. -/
def State.ctlPut (s : State) (d off v trig : Nat) (env : WriteEnv) : Bool × State :=
  match s.regFenced d off with
  | some n => (false, s.fenceRefused d n)
  | none =>
    let s := s.msixScan
    if inMsix off then (true, if off < 0x198000 then s.msixWrite d ((off - 0x190000) / 4) v else s)
    else
      let s := s.regWrite d off v trig env
      (true, match eventRow off with
        | some i => s.msixAgain (ownSource d i)
        | none => s.msixScan)

/-- Whether an access of `len` bytes keeps R14: an aligned word, or an aligned pair that is declared as 64-bit. -/
def ctlWidthOk (d off len : Nat) : Bool :=
  (len == 4 && off % 4 == 0) ||
    (len == 8 && off % 8 == 0 && (inMsix off || (match findReg d off with | some h => h.desc.wide && !h.high | none => false)))

/-! ## Rows -/

/-- A write to a register without a row of its own. The offset is one of the control space of the die; a write that breaks R14
changes nothing. -/
def execRegisterWrite (d : Die) (off : Nat) (v : BitVec 32) (s : State) : Res :=
  onDie s d (if ctlWidthOk d off 4 then (s.ctlPut d (off % 0x800000) v.toNat 0 ⟨[], [], none⟩).2 else s)

/-- A read of the control space, of 32 bits or of a 64-bit pair; one that breaks R14 returns 0xFFFF_FFFF. -/
def execReadClear (d : Die) (off : Nat) (wide : Bool) (s : State) : Res :=
  let o := off % 0x800000
  onDie s d (
    if !ctlWidthOk d o (if wide then 8 else 4) then { s with resp := ⟨[0xFFFFFFFF], true⟩ }
    else
      let r := if wide then s.ctlRead64 d o else s.ctlRead d o
      { r.2 with resp := match r.1 with | some v => ⟨[v], true⟩ | none => ⟨[], false⟩ })

end Sys2Proof.Machine
end

