-- ==== Sys2Proof/Machine/Arch.lean ====
section
/-! DEFINITION. The meanings of the pace, bound and skew commands (chapter 01). -/

namespace Sys2Proof.Machine

/-- The end of a 1 µs window on a die (R56, R57): the counts of its monitors, regions 0 to 3 and the spine. Of equal monitors the
first is named. -/
def State.paceWindow (s : State) (d : Nat) (counts : List Nat) : State :=
  let r := s.paces d 0 (counts.take 5)
  let low := r.1.foldl min 0xFFFF
  let s := (r.2.put d F.ARC_PACE_PACE low).put d F.ARC_PACE_SLOW_SRC ((firstIdx (fun p => p == low) r.1).getD 0)
  { s with arc := { s.arc with done := if s.arc.done.contains d then s.arc.done else s.arc.done ++ [d] } }.boundWindow

def execPaceWindowEnd (d : Die) (c0 c1 c2 c3 spine : Fin 65536) (s : State) : Res :=
  onDie s d (s.paceWindow d [c0.val, c1.val, c2.val, c3.val, spine.val])

/-- The hold ends (R60): BOUND_NS falls to the bound of the lowest pace of the hold. -/
def State.boundHold (s : State) : State :=
  match s.arc.hold with
  | some p => if s.arc.pace < p then s.setBound (boundOf p) p else s
  | none => s

def execBoundHoldExpire (s : State) : Res := onPkg s s.boundHold

/-- A measured offset of a die's time base (R70): always 0 on die 0; beyond 2 ns it is out of limit. -/
def State.skew (s : State) (d : Nat) (ps : Int) : State :=
  let ps := if d = 0 then 0 else clampInt (-32768) 32767 ps
  let s := s.put d F.ARC_SKEW_SKEW_PS (BitVec.ofInt 16 ps).toNat
  if ps > 2000 ∨ ps < -2000 then
    let s := if s.flag d F.ARC_SKEW_OUT_OF_LIMIT then s else s.putFlag d F.ARC_STATUS_SKEW true
    (s.putFlag d F.ARC_SKEW_OUT_OF_LIMIT true).condFault d 9 (uid d 9 0) true
  else s

def execSkewMeasure (d : Die) (ps : Int) (s : State) : Res := onDie s d (s.skew d ps)

end Sys2Proof.Machine
end

