-- ==== Sys2Proof/Machine/Awl.lean ====
section
/-! DEFINITION. The instructions of the Awl engines (chapter 06) but for `wait`: each takes its die, engine and condition
(R297), and its operands by name. -/

namespace Sys2Proof.Machine

/-- A result and its flags as words of the stack. -/
def wordOf (r : Nat × Flags) : List W16 × Flags := ([BitVec.ofNat 16 r.1], r.2)
def pairOf (r : Nat × Flags) : List W16 × Flags := ([hiOf r.1, loOf r.1], r.2)
def oneOf (r : W16 × Flags) : List W16 × Flags := ([r.1], r.2)

/-- A multiplier operation (R346 to R348): it pops b and a and issues the new accumulator. -/
def mulBody (d e : Nat) (f : Eng → W16 → W16 → Nat) (s : State) : AwlOut :=
  checked d e 2 0 0 0 (fun g s =>
    let v := f g (g.ds.getD 1 0) (g.ds.headD 0)
    .next (s.setEng d e ({ g with ds := g.ds.drop 2 }.mulIssue v)) g.pcNext) s

/-- The target of a relative transfer (R314). -/
def Eng.target (g : Eng) (off : BitVec 11) : Nat := ((g.pc + 1 : Int) + off.toInt).emod 16384 |>.toNat

/-- An encoding that the chapter does not define acts whatever its condition (R299). -/
def alwaysIf (bad : Bool) (c : Fin 8) : Fin 8 := if bad then 0 else c

/-- A rotated access whose format is reserved takes ILLEGAL (R316). -/
def fmtBody (fmt : Nat) (k : State → AwlOut) (s : State) : AwlOut :=
  if fmt % 4 = 3 then .trap s 6 0 0 none else k s

/-- `crc` (R331, R332). -/
def crcBody (d e fmt : Nat) (s : State) : AwlOut :=
  if fmt ≥ 32 then .trap s 6 0 0 none
  else
    let p := fmt % 8
    let two := fmt.testBit 3
    let low := fmt.testBit 4
    if p = 4 ∨ p = 7 then
      aluBody d e 3 2 (fun ds f => match ds with
        | [x, ch, cl] =>
          let r := crcWord p two low (pair32 cl ch) x.toNat
          ([hiOf r, loOf r], f)
        | _ => (ds, f)) s
    else
      aluBody d e 2 1 (fun ds f => match ds with
        | [x, c] => ([loOf (crcWord p two low c.toNat x.toNat)], f)
        | _ => (ds, f)) s

/-- `bfx` (R329): Z and N of the result under the logic kind. -/
def bfxOf (p w : Nat) (x : W16) (f : Flags) : List W16 × Flags :=
  let r := BitVec.ofNat 16 (x.toNat / 2 ^ p % 2 ^ w)
  ([r], logicFlags r f)

/-- `bfi` (R330). -/
def bfiOf (p w : Nat) (x v : W16) (f : Flags) : List W16 × Flags :=
  let k := min (p + w) 16 - p
  let r := BitVec.ofNat 16 (x.toNat - (x.toNat / 2 ^ p % 2 ^ k) * 2 ^ p + (v.toNat % 2 ^ k) * 2 ^ p)
  ([r], { (logicFlags r f) with c := decide (2 ^ k ≤ v.toNat) })

/-- `nop`. -/
def execAwlNop (d : Die) (e : Engine) (c : Fin 8) (s : State) : Res :=
  awlInstr d e c (aluBody d e 0 0 (fun _ f => ([], f))) s

/-- `drop`. -/
def execAwlDrop (d : Die) (e : Engine) (c : Fin 8) (s : State) : Res :=
  awlInstr d e c (aluBody d e 1 0 (fun ds f => match ds with | [_] => ([], f) | _ => (ds, f))) s

/-- `dup`. -/
def execAwlDup (d : Die) (e : Engine) (c : Fin 8) (s : State) : Res :=
  awlInstr d e c (aluBody d e 1 2 (fun ds f => match ds with | [x] => ([x, x], f) | _ => (ds, f))) s

/-- `swap`. -/
def execAwlSwap (d : Die) (e : Engine) (c : Fin 8) (s : State) : Res :=
  awlInstr d e c (aluBody d e 2 2 (fun ds f => match ds with | [b, a] => ([a, b], f) | _ => (ds, f))) s

/-- `over`. -/
def execAwlOver (d : Die) (e : Engine) (c : Fin 8) (s : State) : Res :=
  awlInstr d e c (aluBody d e 2 3 (fun ds f => match ds with | [b, a] => ([a, b, a], f) | _ => (ds, f))) s

/-- `rot`. -/
def execAwlRot (d : Die) (e : Engine) (c : Fin 8) (s : State) : Res :=
  awlInstr d e c (aluBody d e 3 3 (fun ds f => match ds with | [z, y, x] => ([x, z, y], f) | _ => (ds, f))) s

/-- `nip`. -/
def execAwlNip (d : Die) (e : Engine) (c : Fin 8) (s : State) : Res :=
  awlInstr d e c (aluBody d e 2 1 (fun ds f => match ds with | [b, _] => ([b], f) | _ => (ds, f))) s

/-- `tuck`. -/
def execAwlTuck (d : Die) (e : Engine) (c : Fin 8) (s : State) : Res :=
  awlInstr d e c (aluBody d e 2 3 (fun ds f => match ds with | [b, a] => ([b, a, b], f) | _ => (ds, f))) s

/-- `drop2`. -/
def execAwlDrop2 (d : Die) (e : Engine) (c : Fin 8) (s : State) : Res :=
  awlInstr d e c (aluBody d e 2 0 (fun ds f => match ds with | [_, _] => ([], f) | _ => (ds, f))) s

/-- `dup2`. -/
def execAwlDup2 (d : Die) (e : Engine) (c : Fin 8) (s : State) : Res :=
  awlInstr d e c (aluBody d e 2 4 (fun ds f => match ds with | [b, a] => ([b, a, b, a], f) | _ => (ds, f))) s

/-- `over2`. -/
def execAwlOver2 (d : Die) (e : Engine) (c : Fin 8) (s : State) : Res :=
  awlInstr d e c (aluBody d e 4 6 (fun ds f => match ds with | [z, y, b, a] => ([b, a, z, y, b, a], f) | _ => (ds, f))) s

/-- `swap2`. -/
def execAwlSwap2 (d : Die) (e : Engine) (c : Fin 8) (s : State) : Res :=
  awlInstr d e c (aluBody d e 4 4 (fun ds f => match ds with | [z, y, b, a] => ([b, a, z, y], f) | _ => (ds, f))) s

/-- `tor`. -/
def execAwlTor (d : Die) (e : Engine) (c : Fin 8) (s : State) : Res :=
  awlInstr d e c (checked d e 1 0 0 1 (fun g s => .next (s.setEng d e { g with ds := g.ds.drop 1, rs := g.ds.headD 0 :: g.rs }) g.pcNext)) s

/-- `fromr`. -/
def execAwlFromr (d : Die) (e : Engine) (c : Fin 8) (s : State) : Res :=
  awlInstr d e c (checked d e 0 1 1 0 (fun g s => .next (s.setEng d e { g with ds := g.rs.headD 0 :: g.ds, rs := g.rs.drop 1 }) g.pcNext)) s

/-- `rfetch`. -/
def execAwlRfetch (d : Die) (e : Engine) (c : Fin 8) (s : State) : Res :=
  awlInstr d e c (checked d e 0 1 1 1 (fun g s => .next (s.setEng d e { g with ds := g.rs.headD 0 :: g.ds }) g.pcNext)) s

/-- `pick n`. -/
def execAwlPick (d : Die) (e : Engine) (c : Fin 8) (n : Fin 16) (s : State) : Res :=
  awlInstr d e c (checked d e (n.val + 1) (n.val + 2) 0 0 (fun g s => .next (s.setEng d e { g with ds := g.ds.getD n.val 0 :: g.ds }) g.pcNext)) s

/-- `add`. -/
def execAwlAdd (d : Die) (e : Engine) (c : Fin 8) (s : State) : Res :=
  awlInstr d e c (aluBody d e 2 1 (fun ds f => match ds with | [b, a] => wordOf (addFlags 16 a.toNat b.toNat 0 f) | _ => (ds, f))) s

/-- `adc`. -/
def execAwlAdc (d : Die) (e : Engine) (c : Fin 8) (s : State) : Res :=
  awlInstr d e c (aluBody d e 2 1 (fun ds f => match ds with | [b, a] => wordOf (addFlags 16 a.toNat b.toNat (bit f.c) f) | _ => (ds, f))) s

/-- `sub`. -/
def execAwlSub (d : Die) (e : Engine) (c : Fin 8) (s : State) : Res :=
  awlInstr d e c (aluBody d e 2 1 (fun ds f => match ds with | [b, a] => wordOf (subFlags 16 a.toNat b.toNat 1 f) | _ => (ds, f))) s

/-- `sbc`. -/
def execAwlSbc (d : Die) (e : Engine) (c : Fin 8) (s : State) : Res :=
  awlInstr d e c (aluBody d e 2 1 (fun ds f => match ds with | [b, a] => wordOf (subFlags 16 a.toNat b.toNat (bit f.c) f) | _ => (ds, f))) s

/-- `and`. -/
def execAwlAnd (d : Die) (e : Engine) (c : Fin 8) (s : State) : Res :=
  awlInstr d e c (aluBody d e 2 1 (fun ds f => match ds with | [b, a] => ([a &&& b], logicFlags (a &&& b) f) | _ => (ds, f))) s

/-- `or`. -/
def execAwlOr (d : Die) (e : Engine) (c : Fin 8) (s : State) : Res :=
  awlInstr d e c (aluBody d e 2 1 (fun ds f => match ds with | [b, a] => ([a ||| b], logicFlags (a ||| b) f) | _ => (ds, f))) s

/-- `xor`. -/
def execAwlXor (d : Die) (e : Engine) (c : Fin 8) (s : State) : Res :=
  awlInstr d e c (aluBody d e 2 1 (fun ds f => match ds with | [b, a] => ([a ^^^ b], logicFlags (a ^^^ b) f) | _ => (ds, f))) s

/-- `not`. -/
def execAwlNot (d : Die) (e : Engine) (c : Fin 8) (s : State) : Res :=
  awlInstr d e c (aluBody d e 1 1 (fun ds f => match ds with | [x] => ([~~~ x], logicFlags (~~~ x) f) | _ => (ds, f))) s

/-- `neg`. -/
def execAwlNeg (d : Die) (e : Engine) (c : Fin 8) (s : State) : Res :=
  awlInstr d e c (aluBody d e 1 1 (fun ds f => match ds with | [x] => wordOf (subFlags 16 0 x.toNat 1 f) | _ => (ds, f))) s

/-- `inc`. -/
def execAwlInc (d : Die) (e : Engine) (c : Fin 8) (s : State) : Res :=
  awlInstr d e c (aluBody d e 1 1 (fun ds f => match ds with | [x] => wordOf (addFlags 16 x.toNat 1 0 f) | _ => (ds, f))) s

/-- `dec`. -/
def execAwlDec (d : Die) (e : Engine) (c : Fin 8) (s : State) : Res :=
  awlInstr d e c (aluBody d e 1 1 (fun ds f => match ds with | [x] => wordOf (subFlags 16 x.toNat 1 1 f) | _ => (ds, f))) s

/-- `cmp`. -/
def execAwlCmp (d : Die) (e : Engine) (c : Fin 8) (s : State) : Res :=
  awlInstr d e c (aluBody d e 2 0 (fun ds f => match ds with | [b, a] => ([], (subFlags 16 a.toNat b.toNat 1 f).2) | _ => (ds, f))) s

/-- `add2`. -/
def execAwlAdd2 (d : Die) (e : Engine) (c : Fin 8) (s : State) : Res :=
  awlInstr d e c (aluBody d e 4 2 (fun ds f => match ds with | [bh, bl, ah, al] => pairOf (addFlags 32 (pair32 al ah) (pair32 bl bh) 0 f) | _ => (ds, f))) s

/-- `sub2`. -/
def execAwlSub2 (d : Die) (e : Engine) (c : Fin 8) (s : State) : Res :=
  awlInstr d e c (aluBody d e 4 2 (fun ds f => match ds with | [bh, bl, ah, al] => pairOf (subFlags 32 (pair32 al ah) (pair32 bl bh) 1 f) | _ => (ds, f))) s

/-- `cmp2`. -/
def execAwlCmp2 (d : Die) (e : Engine) (c : Fin 8) (s : State) : Res :=
  awlInstr d e c (aluBody d e 4 0 (fun ds f => match ds with | [bh, bl, ah, al] => ([], (subFlags 32 (pair32 al ah) (pair32 bl bh) 1 f).2) | _ => (ds, f))) s

/-- `swab`. -/
def execAwlSwab (d : Die) (e : Engine) (c : Fin 8) (s : State) : Res :=
  awlInstr d e c (aluBody d e 1 1 (fun ds f => match ds with | [x] => ([x.rotateLeft 8], logicFlags (x.rotateLeft 8) f) | _ => (ds, f))) s

/-- `sext8`. -/
def execAwlSext8 (d : Die) (e : Engine) (c : Fin 8) (s : State) : Res :=
  awlInstr d e c (aluBody d e 1 1 (fun ds f => match ds with | [x] => ([(x.truncate 8).signExtend 16], logicFlags ((x.truncate 8).signExtend 16) f) | _ => (ds, f))) s

/-- `zext8`. -/
def execAwlZext8 (d : Die) (e : Engine) (c : Fin 8) (s : State) : Res :=
  awlInstr d e c (aluBody d e 1 1 (fun ds f => match ds with | [x] => ([x &&& 0xFF#16], logicFlags (x &&& 0xFF#16) f) | _ => (ds, f))) s

/-- `shl #n`. -/
def execAwlShl (d : Die) (e : Engine) (c : Fin 8) (k : Fin 16) (s : State) : Res :=
  awlInstr d e c (aluBody d e 1 1 (fun ds f => match ds with | [x] => oneOf (shiftFlags 0 (k.val + 1) x f) | _ => (ds, f))) s

/-- `shr #n`. -/
def execAwlShr (d : Die) (e : Engine) (c : Fin 8) (k : Fin 16) (s : State) : Res :=
  awlInstr d e c (aluBody d e 1 1 (fun ds f => match ds with | [x] => oneOf (shiftFlags 1 (k.val + 1) x f) | _ => (ds, f))) s

/-- `sar #n`. -/
def execAwlSar (d : Die) (e : Engine) (c : Fin 8) (k : Fin 16) (s : State) : Res :=
  awlInstr d e c (aluBody d e 1 1 (fun ds f => match ds with | [x] => oneOf (shiftFlags 2 (k.val + 1) x f) | _ => (ds, f))) s

/-- `rol #n`. -/
def execAwlRol (d : Die) (e : Engine) (c : Fin 8) (k : Fin 16) (s : State) : Res :=
  awlInstr d e c (aluBody d e 1 1 (fun ds f => match ds with | [x] => oneOf (shiftFlags 3 (k.val + 1) x f) | _ => (ds, f))) s

/-- `shlv`. -/
def execAwlShlv (d : Die) (e : Engine) (c : Fin 8) (s : State) : Res :=
  awlInstr d e c (aluBody d e 2 1 (fun ds f => match ds with | [c, x] => oneOf (shiftFlags 0 (c.toNat % 32) x f) | _ => (ds, f))) s

/-- `shrv`. -/
def execAwlShrv (d : Die) (e : Engine) (c : Fin 8) (s : State) : Res :=
  awlInstr d e c (aluBody d e 2 1 (fun ds f => match ds with | [c, x] => oneOf (shiftFlags 1 (c.toNat % 32) x f) | _ => (ds, f))) s

/-- `sarv`. -/
def execAwlSarv (d : Die) (e : Engine) (c : Fin 8) (s : State) : Res :=
  awlInstr d e c (aluBody d e 2 1 (fun ds f => match ds with | [c, x] => oneOf (shiftFlags 2 (c.toNat % 32) x f) | _ => (ds, f))) s

/-- `rolv`. -/
def execAwlRolv (d : Die) (e : Engine) (c : Fin 8) (s : State) : Res :=
  awlInstr d e c (aluBody d e 2 1 (fun ds f => match ds with | [c, x] => oneOf (shiftFlags 3 (c.toNat % 32) x f) | _ => (ds, f))) s

/-- `mul`. -/
def execAwlMul (d : Die) (e : Engine) (c : Fin 8) (s : State) : Res :=
  awlInstr d e c (mulBody d e (fun _ a b => a.toNat * b.toNat)) s

/-- `muls`. -/
def execAwlMuls (d : Die) (e : Engine) (c : Fin 8) (s : State) : Res :=
  awlInstr d e c (mulBody d e (fun _ a b => ofSigned 40 (a.toInt * b.toInt))) s

/-- `macc`. -/
def execAwlMacc (d : Die) (e : Engine) (c : Fin 8) (s : State) : Res :=
  awlInstr d e c (mulBody d e (fun g a b => g.acc + a.toNat * b.toNat)) s

/-- `maccs`. -/
def execAwlMaccs (d : Die) (e : Engine) (c : Fin 8) (s : State) : Res :=
  awlInstr d e c (mulBody d e (fun g a b => g.acc + ofSigned 40 (a.toInt * b.toInt))) s

/-- `mclr`. -/
def execAwlMclr (d : Die) (e : Engine) (c : Fin 8) (s : State) : Res :=
  awlInstr d e c (checked d e 0 0 0 0 (fun g s => .next (s.setEng d e (g.mulIssue 0)) g.pcNext)) s

/-- `lit v`. -/
def execAwlLit (d : Die) (e : Engine) (c : Fin 8) (v : BitVec 11) (s : State) : Res :=
  awlInstr d e c (aluBody d e 0 1 (fun _ f => ([v.signExtend 16], f))) s

/-- `litx n`. -/
def execAwlLitx (d : Die) (e : Engine) (c : Fin 8) (n : Fin 16) (s : State) : Res :=
  awlInstr d e c (aluBody d e 1 1 (fun ds f => match ds with | [x] => ([(x <<< 4) ||| BitVec.ofNat 16 n.val], f) | _ => (ds, f))) s

/-- `btst #b`. -/
def execAwlBtst (d : Die) (e : Engine) (c : Fin 8) (b : Fin 16) (s : State) : Res :=
  awlInstr d e c (aluBody d e 1 1 (fun ds f => match ds with | [x] => ([x], testFlags (x.getLsbD b.val) f) | _ => (ds, f))) s

/-- `teq`. -/
def execAwlTeq (d : Die) (e : Engine) (c : Fin 8) (s : State) : Res :=
  awlInstr d e c (aluBody d e 2 0 (fun ds f => match ds with | [b, a] => ([], testFlags (a == b) f) | _ => (ds, f))) s

/-- `tne`. -/
def execAwlTne (d : Die) (e : Engine) (c : Fin 8) (s : State) : Res :=
  awlInstr d e c (aluBody d e 2 0 (fun ds f => match ds with | [b, a] => ([], testFlags (a != b) f) | _ => (ds, f))) s

/-- `tltu`. -/
def execAwlTltu (d : Die) (e : Engine) (c : Fin 8) (s : State) : Res :=
  awlInstr d e c (aluBody d e 2 0 (fun ds f => match ds with | [b, a] => ([], testFlags (a.ult b) f) | _ => (ds, f))) s

/-- `tlts`. -/
def execAwlTlts (d : Die) (e : Engine) (c : Fin 8) (s : State) : Res :=
  awlInstr d e c (aluBody d e 2 0 (fun ds f => match ds with | [b, a] => ([], testFlags (a.slt b) f) | _ => (ds, f))) s

/-- `tgeu`. -/
def execAwlTgeu (d : Die) (e : Engine) (c : Fin 8) (s : State) : Res :=
  awlInstr d e c (aluBody d e 2 0 (fun ds f => match ds with | [b, a] => ([], testFlags (!a.ult b) f) | _ => (ds, f))) s

/-- `tges`. -/
def execAwlTges (d : Die) (e : Engine) (c : Fin 8) (s : State) : Res :=
  awlInstr d e c (aluBody d e 2 0 (fun ds f => match ds with | [b, a] => ([], testFlags (!a.slt b) f) | _ => (ds, f))) s

/-- `tz`. -/
def execAwlTz (d : Die) (e : Engine) (c : Fin 8) (s : State) : Res :=
  awlInstr d e c (aluBody d e 1 1 (fun ds f => match ds with | [x] => ([x], testFlags (x == 0) f) | _ => (ds, f))) s

/-- `tt`. -/
def execAwlTt (d : Die) (e : Engine) (c : Fin 8) (s : State) : Res :=
  awlInstr d e c (aluBody d e 0 0 (fun _ f => ([], testFlags f.t f))) s

/-- `teq2`. -/
def execAwlTeq2 (d : Die) (e : Engine) (c : Fin 8) (s : State) : Res :=
  awlInstr d e c (aluBody d e 4 0 (fun ds f => match ds with | [bh, bl, ah, al] => ([], testFlags (pair32 al ah == pair32 bl bh) f) | _ => (ds, f))) s

/-- `tltu2`. -/
def execAwlTltu2 (d : Die) (e : Engine) (c : Fin 8) (s : State) : Res :=
  awlInstr d e c (aluBody d e 4 0 (fun ds f => match ds with | [bh, bl, ah, al] => ([], testFlags (decide (pair32 al ah < pair32 bl bh)) f) | _ => (ds, f))) s

/-- `tin`. -/
def execAwlTin (d : Die) (e : Engine) (c : Fin 8) (s : State) : Res :=
  awlInstr d e c (aluBody d e 3 0 (fun ds f => match ds with | [hi, lo, x] => ([], testFlags (decide (lo.toNat ≤ x.toNat) && decide (x.toNat ≤ hi.toNat)) f) | _ => (ds, f))) s

/-- `tset`. -/
def execAwlTset (d : Die) (e : Engine) (c : Fin 8) (s : State) : Res :=
  awlInstr d e c (aluBody d e 0 0 (fun _ f => ([], testFlags true f))) s

/-- `tclr`. -/
def execAwlTclr (d : Die) (e : Engine) (c : Fin 8) (s : State) : Res :=
  awlInstr d e c (aluBody d e 0 0 (fun _ f => ([], testFlags false f))) s

/-- `ret`. -/
def execAwlRet (d : Die) (e : Engine) (c : Fin 8) (s : State) : Res :=
  awlInstr d e c (checked d e 0 0 1 0 (fun g s => .next (s.setEng d e { g with rs := g.rs.drop 1 }) ((g.rs.headD 0).toNat % 16384))) s

/-- `calls`. -/
def execAwlCalls (d : Die) (e : Engine) (c : Fin 8) (s : State) : Res :=
  awlInstr d e c (checked d e 1 0 0 1 (fun g s =>
    .next (s.setEng d e { g with ds := g.ds.drop 1, rs := BitVec.ofNat 16 g.pcNext :: g.rs }) ((g.ds.headD 0).toNat % 16384))) s

/-- `jmps`. -/
def execAwlJmps (d : Die) (e : Engine) (c : Fin 8) (s : State) : Res :=
  awlInstr d e c (checked d e 1 0 0 0 (fun g s => .next (s.setEng d e { g with ds := g.ds.drop 1 }) ((g.ds.headD 0).toNat % 16384))) s

/-- `br.cond offset`. -/
def execAwlBr (d : Die) (e : Engine) (c : Fin 7) (off : BitVec 11) (s : State) : Res :=
  awlInstr d e ⟨c.val, by omega⟩ (checked d e 0 0 0 0 (fun g s => .next s (g.target off))) s

/-- `call offset`. -/
def execAwlCall (d : Die) (e : Engine) (off : BitVec 11) (s : State) : Res :=
  awlInstr d e 0 (checked d e 0 0 0 1 (fun g s => .next (s.setEng d e { g with rs := BitVec.ofNat 16 g.pcNext :: g.rs }) (g.target off))) s

/-- `rett`. -/
def execAwlRett (d : Die) (e : Engine) (c : Fin 8) (s : State) : Res :=
  awlInstr d e c (checked d e 0 0 0 0 (fun g s =>
    if g.inTrap then .next (s.setEng d e { g with fl := Flags.ofWord g.trapFlags, inTrap := false, st := .run }) (g.trapPc % 16384)
    else .trap s 6 0 0 none)) s

/-- `trap`. -/
def execAwlTrap (d : Die) (e : Engine) (c : Fin 8) (s : State) : Res :=
  awlInstr d e c ((fun s => .trap s 0x0A 0 0 none)) s

/-- `sync`. -/
def execAwlSync (d : Die) (e : Engine) (c : Fin 8) (s : State) : Res :=
  awlInstr d e c (checked d e 0 0 0 0 (fun g s => .next (s.drainTo d e 0 32).2 g.pcNext)) s

/-- `mrx`. -/
def execAwlMrx (d : Die) (e : Engine) (c : Fin 8) (s : State) : Res :=
  awlInstr d e c (checked d e 0 1 0 0 (fun g s => match s.mbxPop d e with
    | some (w, t) => .next ((t.pushed d e 0 [w]).modEng d e (fun h => { h with fl := testFlags true h.fl })) g.pcNext
    | none => .next ((s.pushed d e 0 [0]).modEng d e (fun h => { h with fl := testFlags false h.fl })) g.pcNext)) s

/-- `mtx`. -/
def execAwlMtx (d : Die) (e : Engine) (c : Fin 8) (s : State) : Res :=
  awlInstr d e c (checked d e 1 0 0 0 (fun g s =>
    if s.mbxTxFull d e then .trap s 5 4 0xFF29 none
    else .next ((s.mbxTx d e (g.ds.headD 0).toNat).pushed d e 1 []) g.pcNext)) s

/-- `ld #o`. -/
def execAwlLd (d : Die) (e : Engine) (c : Fin 8) (o : Fin 64) (s : State) : Res :=
  awlInstr d e c (loadBody d e o.val false) s

/-- `st #o`. -/
def execAwlSt (d : Die) (e : Engine) (c : Fin 8) (o : Fin 64) (s : State) : Res :=
  awlInstr d e c (storeBody d e o.val false) s

/-- `ld2 #o`. -/
def execAwlLd2 (d : Die) (e : Engine) (c : Fin 8) (o : Fin 64) (s : State) : Res :=
  awlInstr d e c (loadBody d e o.val true) s

/-- `st2 #o`. -/
def execAwlSt2 (d : Die) (e : Engine) (c : Fin 8) (o : Fin 64) (s : State) : Res :=
  awlInstr d e c (storeBody d e o.val true) s

/-- `ldz #n`. -/
def execAwlLdz (d : Die) (e : Engine) (c : Fin 8) (n : Fin 64) (s : State) : Res :=
  awlInstr d e c (checked d e 0 1 0 0 (fun g s =>
    (s.spadRead d (e / 8) (privWord (e % 8) n.val) 1).out n.val none (fun bs t => .next (t.pushed d e 0 (bytesWords bs)) g.pcNext))) s

/-- `stz #n`. -/
def execAwlStz (d : Die) (e : Engine) (c : Fin 8) (n : Fin 64) (s : State) : Res :=
  awlInstr d e c (checked d e 1 0 0 0 (fun g s =>
    .next ((s.spadSet d (e / 8) (privWord (e % 8) n.val) (g.ds.headD 0)).pushed d e 1 []) g.pcNext)) s

/-- `lds #r`. -/
def execAwlLds (d : Die) (e : Engine) (c : Fin 8) (r : Fin 64) (s : State) : Res :=
  awlInstr d e c (ldsBody d e r.val) s

/-- `sts #r`. -/
def execAwlSts (d : Die) (e : Engine) (c : Fin 8) (r : Fin 64) (s : State) : Res :=
  awlInstr d e c (stsBody d e r.val) s

/-- `fld fmt; format width 0b11 is reserved and takes ILLEGAL (R316)`. -/
def execAwlFld (d : Die) (e : Engine) (c : Fin 8) (fmt : Fin 64) (s : State) : Res :=
  awlInstr d e (alwaysIf (fmt.val % 4 == 3) c) (fmtBody fmt.val (fldBody d e fmt.val)) s

/-- `fst fmt; format width 0b11 is reserved and takes ILLEGAL (R316)`. -/
def execAwlFst (d : Die) (e : Engine) (c : Fin 8) (fmt : Fin 64) (s : State) : Res :=
  awlInstr d e (alwaysIf (fmt.val % 4 == 3) c) (fmtBody fmt.val (fstBody d e fmt.val)) s

/-- `vld fmt; format width 0b11 is reserved and takes ILLEGAL (R316)`. -/
def execAwlVld (d : Die) (e : Engine) (c : Fin 8) (fmt : Fin 64) (s : State) : Res :=
  awlInstr d e (alwaysIf (fmt.val % 4 == 3) c) (fmtBody fmt.val (vldBody d e fmt.val)) s

/-- `vst fmt; format width 0b11 is reserved and takes ILLEGAL (R316)`. -/
def execAwlVst (d : Die) (e : Engine) (c : Fin 8) (fmt : Fin 64) (s : State) : Res :=
  awlInstr d e (alwaysIf (fmt.val % 4 == 3) c) (fmtBody fmt.val (vstBody d e fmt.val)) s

/-- `crc fmt; bit 5 is reserved (R316)`. -/
def execAwlCrc (d : Die) (e : Engine) (c : Fin 8) (fmt : Fin 64) (s : State) : Res :=
  awlInstr d e (alwaysIf (decide (32 ≤ fmt.val)) c) (crcBody d e fmt.val) s

/-- `commit #n`. -/
def execAwlCommit (d : Die) (e : Engine) (c : Fin 8) (n : Fin 64) (s : State) : Res :=
  awlInstr d e c (commitBody d e n.val) s

/-- `rdrec #n`. -/
def execAwlRdrec (d : Die) (e : Engine) (c : Fin 8) (n : Fin 64) (s : State) : Res :=
  awlInstr d e c (rdrecBody d e n.val) s

/-- `bfx p, w`. -/
def execAwlBfx (d : Die) (e : Engine) (c : Fin 8) (p : Fin 16) (w : Fin 16) (s : State) : Res :=
  awlInstr d e c (aluBody d e 1 1 (fun ds f => match ds with | [x] => bfxOf p.val (w.val + 1) x f | _ => (ds, f))) s

/-- `bfi p, w`. -/
def execAwlBfi (d : Die) (e : Engine) (c : Fin 8) (p : Fin 16) (w : Fin 16) (s : State) : Res :=
  awlInstr d e c (aluBody d e 2 1 (fun ds f => match ds with | [v, x] => bfiOf p.val (w.val + 1) x v f | _ => (ds, f))) s

/-- A word that the chapter does not define takes ILLEGAL whatever its condition (R299). -/
def execIllegalWord (d : Die) (e : Engine) (s : State) : Res := awlInstr d e 0 (fun s => .trap s 6 0 0 none) s

end Sys2Proof.Machine
end

