-- ==== Sys2Proof/Machine/Bar.lean ====
section
/-! DEFINITION. BAR0 and BAR2 requests of a HOST port (chapter 14): the control space, and the registers of the tenant pages. -/

namespace Sys2Proof.Machine

/-! ## Reads of a tenant page (R633 to R646) -/

/-- The notice at RD of the channel that a page shows; zeros when RD equals WR (R642). -/
def State.noticeWord (s : State) (p t off : Nat) : Nat :=
  let d := s.pget p t F.PCI_PG_NCH_SEL_DIE
  let n := s.pget p t F.PCI_PG_NCH_SEL_CH
  if s.nchWr d n = s.nchRd d n then 0 else leNat (s.readBytes d (ringOff n (s.nchRd d n) + (off - 0x30)) 4)

/-- The notice window: for a channel that the page may not see it reads 0 and sets ACCESS. -/
def State.windowRead (s : State) (p t off : Nat) : Nat × State :=
  if off = 0x020 then
    (s.pget p t F.PCI_PG_NCH_SEL_DIE + 2 ^ 8 * s.pget p t F.PCI_PG_NCH_SEL_CH + 2 ^ 16 * bit (s.nchAllowed p t), s)
  else if !s.nchAllowed p t then (0, s.pageAccess p t off)
  else if off = 0x024 then
    let d := s.pget p t F.PCI_PG_NCH_SEL_DIE
    let n := s.pget p t F.PCI_PG_NCH_SEL_CH
    (s.nchWr d n + 2 ^ 16 * s.nchRd d n + 2 ^ 31 * s.get d (F.DPT_NCH_IDX_FULL n), s)
  else (s.noticeWord p t off, s)

/-- A mailbox slot: STAT shows the words of both queues, and RX takes the oldest outbound word. -/
def State.slotRead (s : State) (p t off : Nat) : Nat × State :=
  let i := (off - 0x200) / 16
  match s.mbxBound t i with
  | none => (0, s.violation p p t 1 off)
  | some (d, e) =>
    match off % 16 with
    | 4 =>
      match s.mbxTake d e with
      | none => (0, s)
      | some (w, s) => (w.toNat + 2 ^ 16, s)
    | 8 =>
      (s.inWords d e + 2 ^ 4 * (s.eng d e).mbxOut.length + 2 ^ 8 + 2 ^ 9 * s.pget 0 t (F.MBX_PG_STAT_OVERRUN i) +
        2 ^ 10 * s.pget 0 t (F.MBX_PG_STAT_EMPTY i) + 2 ^ 11 * s.pget 0 t (F.MBX_PG_STAT_ARRIVED i), s)
    | _ => (0, s)

/-- The register of a page at an offset, its access codes, and whether the offset is that of its high word. -/
def pageHit (off : Nat) : Option RegHit := descPage.findSome? (·.hit off)

/-- A plain page register, of scope Package (port die 0) or Per port. -/
def State.pageReg (s : State) (p t off : Nat) : Nat :=
  match pageHit off with
  | none => 0
  | some h =>
    let v := tblGet s.pages h.reg.rst (pageKey p t h.reg) &&& readMask h.desc
    if h.high then bits v 63 32 else bits v 31 0

/-- A DMA slot. -/
def State.dmaSlotRead (s : State) (p t off : Nat) : Nat × State :=
  let j := (off - 0x300) / 32
  match s.dmaBound t j with
  | none => (0, s.violation p p t 1 off)
  | some _ => (s.pageReg 0 t off + (if off % 32 = 8 then 2 ^ 10 else 0), s)

/-- A 32-bit read of a page that the port lets through. -/
def State.pageRead (s : State) (p t off : Nat) : Nat × State :=
  if off = 0 then (t + 2 ^ 12, s)
  else if off = 0x020 ∨ off = 0x024 ∨ (0x030 ≤ off ∧ off < 0x040) then s.windowRead p t off
  else if inWindow off then (if s.hasCtx p t then (s.winWord p t off, s.touchCtx p t) else (0, s))
  else if 0x200 ≤ off ∧ off < 0x300 then s.slotRead p t off
  else if 0x300 ≤ off ∧ off < 0x400 then s.dmaSlotRead p t off
  else (s.pageReg p t off, s)

/-! ## Writes of a tenant page -/

/-- A plain write by access codes. -/
def State.pageRegWrite (s : State) (p t off v : Nat) : State :=
  match pageHit off with
  | none => s
  | some h =>
    let k := pageKey p t h.reg
    let x := if h.high then BitVec.ofNat 64 (v % 2 ^ 32 * 2 ^ 32) else BitVec.ofNat 64 (v % 2 ^ 32)
    { s with pages := tblSet s.pages h.reg.rst k (writeVal h.desc (halfMask h.high) (tblGet s.pages h.reg.rst k) x) }

/-- PCI_PG_CMD: 1 GATHER, 2 SCATTER, 3 RELEASE. -/
def State.pageCommand (s : State) (p t v : Nat) : State :=
  match v % 4 with
  | 0 => if s.pflag p t F.PCI_PG_CMD_STAT_BUSY then s.pageAccess p t 0x00C else s
  | 3 => s.pageRelease p t
  | op => s.pageStart p t op (v / 256 % 128)

/-- A mailbox slot written: a word, W1C of STAT, or the doorbell. -/
def State.slotWrite (s : State) (p t off v : Nat) : State :=
  let i := (off - 0x200) / 16
  match s.mbxBound t i with
  | none => s.pageAccess p t off
  | some (d, e) =>
    match off % 16 with
    | 0 =>
      let r := s.mbxPush d e (BitVec.ofNat 16 v)
      if r.1 then r.2 else r.2.mbxOverrun p t i d e
    | 0xC => if v.testBit 0 then s.ringBell d e else s
    | _ => s.pageRegWrite 0 t off v

/-- A DMA slot written: BASE keeps its value while ENABLE is 1 (R651). -/
def State.dmaSlotWrite (s : State) (p t off v : Nat) : State :=
  let j := (off - 0x300) / 32
  match s.dmaBound t j with
  | none => s.pageAccess p t off
  | some (d, ch) =>
    match off % 32 with
    | 0 | 4 => if s.pflag 0 t (F.DMA_PG_CTRL_ENABLE j) then s.pageAccess p t off else s.pageRegWrite 0 t off v
    | 8 =>
      let s := s.dmaCtrl p t j d ch v
      if v.testBit 9 then s.dmaAbort d ch else s
    | 0x18 => s.crdWrite t j d ch v
    | _ => s.pageRegWrite 0 t off v

/-- A 32-bit write of a page that the port lets through. -/
def State.pageWrite (s : State) (p t off v : Nat) : State :=
  if off = 0x004 then
    ((s.pageRegWrite p t off v).msixAgain (pageSource p t false)).msixAgain (pageSource p t true)
  else if off = 0x00C then s.pageCommand p t v
  else if off = 0x024 then
    (if s.nchAllowed p t then s.noticeAdvance (s.pget p t F.PCI_PG_NCH_SEL_DIE) (s.pget p t F.PCI_PG_NCH_SEL_CH) (v / 65536 % 512)
      else s.pageAccess p t off)
  else if 0x030 ≤ off ∧ off < 0x040 then (if s.nchAllowed p t then s else s.pageAccess p t off)
  else if inWindow off then s.winWrite p t off v
  else if 0x200 ≤ off ∧ off < 0x300 then s.slotWrite p t off v
  else if 0x300 ≤ off ∧ off < 0x400 then s.dmaSlotWrite p t off v
  else s.pageRegWrite p t off v

/-! ## Requests -/

/-- The width rules of the Tenant page layout. -/
def pageWidthOk (off len : Nat) : Bool :=
  (len == 4 && off % 4 == 0) ||
    (len == 8 && off % 8 == 0 && (inWindow off || (decide (0x030 ≤ off) && decide (off < 0x040)) ||
      (decide (0x300 ≤ off) && decide (off < 0x400) && off % 32 == 0)))

/-- A request on a tenant page. -/
def State.bar2 (s : State) (p : Nat) (r : HostReq) : State :=
  let t := r.off / 4096 % 4096
  let o := r.off % 4096
  s.onPage p t o r.write.isSome r.pasid (
    if !pageWidthOk o r.len then s.alignErr p (r.off % 2 ^ 24) 1 r.len r.write.isSome
    else
      let s := s.msixScan
      match r.write with
      | some v =>
        let s := s.pageWrite p t o (v % 2 ^ 32)
        let s := if r.len = 8 then s.pageWrite p t (o + 4) (v / 2 ^ 32 % 2 ^ 32) else s
        s.msixScan.answered []
      | none =>
        let lo := s.pageRead p t o
        if r.len = 8 then
          let hi := lo.2.pageRead p t (o + 4)
          hi.2.answered [lo.1 + 2 ^ 32 * hi.1]
        else lo.2.answered [lo.1])

/-- A request on BAR0 that passed the port's own checks. -/
def State.bar0 (s : State) (p : Nat) (r : HostReq) (env : WriteEnv) : State :=
  let w := r.write.isSome
  let d := r.off / 0x800000
  let o := r.off % 0x800000
  if s.dieCount ≤ d then (s.pciErr p r.off 0 r.len 4 w).abortReq p
  else if s.flag p F.PCI_STATUS_BOOT ∧ ¬ (d = 0 ∧ o / 0x40000 = 14) then s.refusedReq
  else if !ctlWidthOk d o r.len then s.alignErr p r.off 0 r.len w
  else
    let fenced := fun (t : State) => (t.pciErr p r.off 0 r.len 5 w).abortReq p
    match r.write with
    | some v =>
      let a := s.ctlPut d o (v % 2 ^ 32) 0 env
      if !a.1 then fenced a.2
      else if r.len = 8 then ((a.2.ctlPut d (o + 4) (v / 2 ^ 32 % 2 ^ 32) 0 env).2).answered []
      else a.2.answered []
    | none =>
      let a := if r.len = 8 then s.ctlRead64 d o else s.ctlRead d o
      match a.1 with
      | some v => a.2.answered [v]
      | none => fenced a.2

/-- A request on BAR0 or BAR2 of a HOST port: refused, or an access of the control space or of a tenant page. While the port of die
0 is the boot endpoint, only the HAR_ block of die 0 answers (R87). -/
def execBar0Access (p : Die) (r : HostReq) (env : WriteEnv) (s : State) : Res :=
  onDie s p (
    if r.page then s.bar2 p r
    else if !s.isHost p then s.refusedReq
    else if !s.flag p F.PCI_PORT_CFG_OWNER && !s.flag p F.PCI_STATUS_BOOT then s.ownerDenied p r.off 0 r.len r.write.isSome
    else s.bar0 p r env)

end Sys2Proof.Machine
end

