-- ==== Sys2Proof/Machine/Packs.lean ====
section
/-! DEFINITION. The commands of the protocol packs and the session-assist unit (chapter 07), and the time unit's own PTP
messages (chapter 12, R567). -/

namespace Sys2Proof.Machine

/-- The length of a PDU by its framing rule (Framing rules); none when its start octets do not match. -/
def pduLen (rule : Nat) (bs : List Byte) : Option Nat :=
  let b := fun (i : Nat) => (bs.getD i 0).toNat
  match rule with
  | 0 => some bs.length
  | 1 => if b 0 = 0x68 then some (b 1 + 2) else none
  | 2 => some (256 * b 4 + b 5 + 6)
  | 3 => if b 0 = 0x05 ∧ b 1 = 0x64 ∧ 5 ≤ b 2 then some (10 + (b 2 - 5) + 2 * ceilDiv (b 2 - 5) 16) else none
  | _ => some (((b 20 * 256 + b 21) * 256 + b 22) * 256 + b 23 + 116)

/-- The transport cluster that serves a cluster. -/
def State.transportOf (s : State) (d c : Nat) : Option Nat :=
  (placeOf s.cfg d c).bind (fun p => if p.transportCl < 8 then some p.transportCl else none)

/-- A complete PDU delivered to a queue of an application cluster (R382). -/
def State.pduDeliver (s : State) (d c q : Nat) (p : Pdu) : State :=
  match s.transportOf d c with
  | none => s
  | some t =>
    if pduLen p.rule p.bytes ≠ some p.bytes.length ∨ 9216 < p.bytes.length then s
    else
      let x : Frame := { (default : Frame) with
        len := p.bytes.length, port := p.port, kind := 0, stamp := p.stamp, cls := p.cls, levels := 0,
        hoff := List.replicate 8 0xFFFF, die := d, endInstant := p.endInstant, tid := p.tid, written := p.bytes.length }
      match s.rxStore d (clUid d t) (cellsOf p.bytes.length) x p.bytes with
      | none => s.countDrop d 3 p.tid
      | some (f, refused, s) =>
        if refused then s.dropFrame d f 8
        else s.takeIn f p.tid d (17 + 4 * c + q) (18 + t) (cellsOf p.bytes.length) false

def execPduDeliver (d : Die) (c : Unit8) (q : Fin 4) (pdu : Pdu) (s : State) : Res := onDie s d (s.pduDeliver d c q pdu)

/-- A TCP stream that breaks its framing rule is reset and counted (R383): its connection is no longer held. -/
def execFramingErr (d : Die) (s : State) : Res :=
  onDie s d (if s.flag d F.PKT_STATUS_ASSIST_RUN then
    let s := (s.count d F.PKT_FRAMING_ERR_COUNT 1).putFlag d F.PKT_EVENT_FRAMING_ERR true
    s.put d F.PKT_TCP_STATUS_OPEN (s.get d F.PKT_TCP_STATUS_OPEN - 1)
  else s)

/-- A SYN that finds the connection table or a backlog full (R385). -/
def execTcpSynRefused (d : Die) (s : State) : Res :=
  onDie s d (if s.flag d F.PKT_STATUS_ASSIST_RUN then
    ((s.count d F.PKT_TCP_REFUSED_COUNT 1).putFlag d F.PKT_EVENT_TCP_REFUSED true).putFlag d F.PKT_EVENT_TCP_FULL true
  else s)

/-- A fragmented datagram still incomplete after 1 s (R380). -/
def execReassemblyTimeout (d : Die) (s : State) : Res :=
  onDie s d (if s.flag d F.PKT_STATUS_ASSIST_RUN then
    (s.count d F.PKT_REASM_DROP_COUNT 1).putFlag d F.PKT_EVENT_REASM_DROP true
  else s)

/-- A RESULT message of a pack (R377): result code in word 3, words 4 to 6 not stated. -/
def State.resultMsg (s : State) (pack dpi code token : Nat) : List W16 × State :=
  let r := s.freeVal (2 ^ 48)
  ([BitVec.ofNat 16 (pack % 256 + 7 * 256), BitVec.ofNat 16 dpi, BitVec.ofNat 16 (dpi / 65536), BitVec.ofNat 16 code,
    BitVec.ofNat 16 r.1, BitVec.ofNat 16 (r.1 / 65536), BitVec.ofNat 16 (r.1 / 2 ^ 32), BitVec.ofNat 16 token], r.2)

/-- A command of an engine's pack waits too long for its RESULT: the pack writes RESULT 3 to the host (R378) when its mailbox
holds a whole message. -/
def execCommandTimeout (d : Die) (e : Engine) (dpi : BitVec 20) (token : Word16) (s : State) : Res :=
  onDie s d (
    let id := s.get d (F.PKT_CL_ID_PACK_ID (e.val / 8))
    if id = 0 ∨ (s.eng d e).outWords ≠ 0 then s
    else
      let r := s.resultMsg id dpi.toNat 3 token.toNat
      r.1.foldl (fun a w => a.mbxDeliver d e w) r.2)

/-- Fewer than 8 words queued 1 ms after the first: discarded and counted (R379). -/
def execPartialMessageTimeout (d : Die) (e : Engine) (s : State) : Res :=
  onDie s d (
    let n := (s.eng d e).mbxIn.length
    if n = 0 ∨ 8 ≤ n ∨ s.get d (F.PKT_CL_ID_PACK_ID (e.val / 8)) = 0 then s
    else
      let s := (List.range n).foldl (fun a _ => match a.mbxPop d e with
        | some r => r.2
        | none => a) s
      (s.count d (F.PKT_CL_DROP_UNSUP (e.val / 8)) 1).putFlag d F.PKT_EVENT_CL_DROP true)

/-- A PTP message built by the time unit on the die of its PTP port (R567, R568): charged to TID 0 by the tenant checks and
queued in PTP_QUEUE of that port alone; one that fails a check is not sent. -/
def State.ptpTx (s : State) (b : PtpBlk) (msg : List Byte) : State :=
  match s.allocTx b.die (ethUid b.die b.port) 0 msg.length with
  | none => s
  | some (f, s) =>
    let x := { s.frame f with
      port := b.port, die := b.die, queue := (timeBase s).ptpQueue, single := true }
    let s := s.setFrame f x
    let w := s.padWords msg
    ((w.2.frameWrite b.die x 0 2 w.1 (cellsOf msg.length + 1)).2).arriveEgress b.die b.port f

def execPtpMessageTx (k : Fin 16) (msg : List Byte) (s : State) : Res :=
  onPkg s (match s.cfg.time.ptp.find? (fun b => b.index == k.val && decide (b.die < s.dieCount) && decide (b.port < 8)) with
    | some b => s.ptpTx b msg
    | none => s)

end Sys2Proof.Machine
end

