-- ==== Sys2Proof/Machine/Pommel.lean ====
section
/-! DEFINITION. The commands of the Pommel port (R815 to R820). -/

namespace Sys2Proof.Machine

/-! ## Transactions (R817) -/

/-- The CRC-8 of a request or a response: polynomial 0x07, initial value 0. -/
def pomCrc (bs : List Byte) : Nat := crcMsb 8 0x07 0 bs

/-- The status byte, the response bytes and their CRC-8; POM_STATUS keeps the command and its status. -/
def State.pomReply (s : State) (cmd status : Nat) (bytes : List Byte) : State :=
  let s := s.puts 0 [(F.POM_STATUS_LAST_CMD, cmd), (F.POM_STATUS_LAST_STATUS, status)]
  let bs := leBytes 1 status ++ bytes
  { s with resp := ⟨(bs ++ leBytes 1 (pomCrc bs)).map BitVec.toNat, true⟩ }

/-- What a command answers: its status, its response bytes and the state. -/
abbrev PomAns := Nat × List Byte × State

/-- A transaction: the CRC check, OFF-WAKE, and the command. Without VAON the port is off. -/
def State.pommel (s : State) (cmd : Nat) (req : List Byte) (crc : BitVec 8) (served : Bool) (k : State → PomAns) : State :=
  if s.pwr.mode = .off then s
  else if pomCrc (leBytes 1 cmd ++ req) ≠ crc.toNat then (s.count 0 F.POM_ERR_CRC 1).pomReply cmd 5 []
  else if s.pwr.mode = .offWake ∧ ¬ served then (s.wakeBy 1).pomReply cmd 3 []
  else
    let r := k s
    (if r.1 = 4 then r.2.2.count 0 F.POM_ERR_BAD_CMD 1 else r.2.2).pomReply cmd r.1 r.2.1

/-! ## STATUS and FAULTS -/

/-- Bytes 1, 2, 7, 8 and 9 of the status block, which lie in domain 48 (R818). -/
def State.pomViews (s : State) : List Nat :=
  if s.pwr.mode = .offWake then s.rcv.copies
  else [s.get 0 F.HAR_STATUS_STATE, s.get 0 F.HAR_ERROR_CODE,
    (s.dieList.filter (fun d => s.get d F.VAT_STATUS_BANK_FAIL != 0)).foldl (fun a d => a + 2 ^ d) 0,
    s.get 0 F.HAR_BOOT_A_CODE, s.get 0 F.HAR_BOOT_B_CODE]

/-- The power state of byte 0: 3 in transition, 4 OFF-WAKE. -/
def State.pomPower (s : State) : Nat := if s.pwr.mode = .offWake then 4 else if s.pwr.phase ≠ .idle then 3 else s.pstate

/-- The status block. -/
def State.pomStatus (s : State) : List Byte :=
  let v := fun (i : Nat) => s.pomViews.getD i 0
  let byte := fun (x : Nat) => leBytes 1 x
  byte (s.pomPower + 8 * s.get 0 F.RCV_STATUS_SAFE + 16 * bit s.alarmLow + 32 * s.get 0 F.RCV_STATUS_COND) ++
    byte (v 0) ++ byte (v 1) ++ byte (s.dieCount + 16 * s.get 0 F.RCV_STATUS_LAST_RUNG) ++
    leBytes 2 (s.dieList.foldl (fun a d => a ||| s.get d F.RCV_FAULT_LATCHED) 0) ++
    byte ((s.dieList.filter (fun d => s.get d F.RCV_FAULT_LATCHED != 0)).foldl (fun a d => a + 2 ^ d) 0) ++
    byte (v 2) ++ byte (v 3) ++ byte (v 4) ++
    byte (s.get 0 F.PWR_AON_LAST_WAKE + 8 * s.get 0 F.PWR_AON_RAIL_FAIL + 16 * s.get 0 F.RCV_STATUS_PKG_RESETS) ++
    byte (s.get 0 F.POM_LOAD_ACTIVE) ++ leBytes 4 s.aonMs

def execPommelStatus (crc : BitVec 8) (s : State) : Res := .next (s.pommel 1 [] crc true (fun s => (0, s.pomStatus, s)))

/-- The die fault block. -/
def State.pomFaults (s : State) (d : Nat) : List Byte :=
  leBytes 2 (s.get d F.RCV_FAULT_LATCHED) ++ leBytes 2 (s.get d F.RCV_FAULT_ACTIVE) ++ leBytes 2 (tblGet s.rcv.lastUid 0xFFFF d) ++
    leBytes 1 (tblGet s.rcv.lastClass 0 d) ++ leBytes 1 0 ++ leBytes 4 (tblGet s.rcv.first 0 d) ++ leBytes 4 0

def execPommelFaults (die crc : BitVec 8) (s : State) : Res :=
  .next (s.pommel 2 [die] crc true (fun s => if s.dieCount ≤ die.toNat then (4, [], s) else (0, s.pomFaults die.toNat, s)))

/-! ## READ and WRITE (R820) -/

/-- A register command: REG_EN, then its arguments. -/
def State.pomReg (s : State) (die off : Nat) (k : PomAns) : PomAns :=
  if s.dieCount ≤ die ∨ off % 4 ≠ 0 ∨ 0x800000 ≤ off then (4, [], s)
  else if s.flag 0 F.POM_CTRL_REG_EN = false then (8, [], s)
  else k

def execPommelRead (die : BitVec 8) (off : BitVec 24) (crc : BitVec 8) (s : State) : Res :=
  .next (s.pommel 3 (die :: leBytes 3 off.toNat) crc false (fun s => s.pomReg die.toNat off.toNat (
    let r := s.ctlRead die.toNat off.toNat
    match r.1 with
    | some v => (0, leBytes 4 v, r.2)
    | none => (6, [], r.2))))

def execPommelWrite (die : BitVec 8) (off : BitVec 24) (data : BitVec 32) (crc : BitVec 8) (env : WriteEnv) (s : State) : Res :=
  .next (s.pommel 4 (die :: leBytes 3 off.toNat ++ leBytes 4 data.toNat) crc false (fun s => s.pomReg die.toNat off.toNat (
    let r := s.ctlPut die.toNat off.toNat data.toNat 1 env
    (if r.1 then 0 else 6, [], r.2))))

/-! ## Mailboxes -/

/-- A mailbox command: its arguments, then MBX_EN. `k` answers the status, the bytes before STAT, the queue's count, VALID, and the
state; STAT shows EMPTY of that engine, which the command clears. -/
def State.pomMbx (s : State) (die engine : Nat) (k : Nat × List Byte × Nat × Bool × State) : PomAns :=
  if s.dieCount ≤ die ∨ 64 ≤ engine then (4, [], s)
  else if s.flag 0 F.POM_CTRL_MBX_EN = false then (8, [], s)
  else
    let empty := s.flag 0 F.POM_MBX_EMPTY && s.get 0 F.POM_MBX_ENGINE == engine && s.get 0 F.POM_MBX_DIE == die
    let t := k.2.2.2.2.puts 0 [(F.POM_MBX_ENGINE, engine), (F.POM_MBX_DIE, die), (F.POM_MBX_EMPTY, 0)]
    (k.1, k.2.1 ++ leBytes 1 (k.2.2.1 + 64 * bit empty + 128 * bit k.2.2.2.1), t)

def execPommelMbxPut (die engine : BitVec 8) (w : BitVec 16) (crc : BitVec 8) (s : State) : Res :=
  .next (s.pommel 5 (die :: engine :: leBytes 2 w.toNat) crc false (fun s => s.pomMbx die.toNat engine.toNat (
    let r := s.mbxPush die.toNat engine.toNat w
    (if r.1 then 0 else 1, [], r.2.inWords die.toNat engine.toNat, false, r.2))))

def execPommelMbxGet (die engine crc : BitVec 8) (s : State) : Res :=
  .next (s.pommel 6 [die, engine] crc false (fun s => s.pomMbx die.toNat engine.toNat (
    match s.mbxTake die.toNat engine.toNat with
    | some (w, t) => (0, leBytes 2 w.toNat, (t.eng die.toNat engine.toNat).mbxOut.length, true, t)
    | none => (0, leBytes 2 0, 0, false, s))))

/-! ## Loads (R88, R819) -/

/-- A load command, refused while REG_EN is 0. -/
def State.pomLoad (s : State) (k : PomAns) : PomAns := if s.flag 0 F.POM_CTRL_REG_EN = false then (8, [], s) else k

/-- Whether a Pommel load is in progress. -/
def State.pomLoading (s : State) : Bool := s.harState == 3 && s.har.loading == some .pommel

/-- The load's registers. -/
def State.pomLoadTo (s : State) (next : Nat) (on : Bool) : State :=
  s.puts 0 [(F.POM_LOAD_NEXT, next), (F.POM_LOAD_ACTIVE, bit on), (F.POM_STATUS_LOADING, bit on)]

def execPommelLoadBegin (len : BitVec 32) (crc : BitVec 8) (s : State) : Res :=
  .next (s.pommel 7 (leBytes 4 len.toNat) crc false (fun s => s.pomLoad (
    if s.harState = 1 ∨ s.harState = 2 ∨ s.harState = 4 then
      (0, [], ((s.loadStart .pommel).modRcv (fun r => { r with pomLen := len.toNat })).pomLoadTo 0 true)
    else (8, [], s.harBusy))))

def execPommelLoadData (off : BitVec 32) (data : List Byte) (crc : BitVec 8) (s : State) : Res :=
  .next (s.pommel 8 (leBytes 4 off.toNat ++ data) crc false (fun s => s.pomLoad (
    if !s.pomLoading then (8, [], s)
    else if off.toNat ≠ s.get 0 F.POM_LOAD_NEXT ∨ s.rcv.pomLen ≤ off.toNat then (7, [], s)
    else (0, [], s.pomLoadTo (off.toNat + 256) true))))

/-- LOAD_END: `img` is the image that the delivered bytes hold, none when they hold none, and `inOrder` tells whether its parts came in
image order. The response is the code of the Verification order and failure codes table. -/
def State.pomLoadEnd (s : State) (img : Option Image) (inOrder : Bool) : PomAns :=
  let s := s.pomLoadTo (s.get 0 F.POM_LOAD_NEXT) false
  match img, inOrder with
  | some i, true =>
    let i := { i with delivered := min s.rcv.pomLen (s.get 0 F.POM_LOAD_NEXT) }
    (0, leBytes 1 (((s.verify i false).map (·.1)).getD 0), s.loadArrived i 3)
  | i, _ => (0, leBytes 1 1, s.loadRefused (1, 0x1FF, 0) ((i.map (·.hdr.imageId)).getD 0))

def execPommelLoadEnd (img : Option Image) (inOrder : Bool) (crc : BitVec 8) (s : State) : Res :=
  .next (s.pommel 9 [] crc false (fun s => s.pomLoad (if !s.pomLoading then (8, [], s) else s.pomLoadEnd img inOrder)))

def execPommelLoadTimeout (s : State) : Res :=
  onPkg s (if s.pomLoading then (s.pomLoadTo (s.get 0 F.POM_LOAD_NEXT) false).loadRefused (0x0E, 0x1FF, 0) 0 else s)

/-! ## Recovery commands -/

def execPommelSafe (on crc : BitVec 8) (s : State) : Res :=
  .next (s.pommel 10 [on] crc true (fun s => if 1 < on.toNat then (4, [], s) else (0, [], s.safeRequest (on == 1) 1)))

def execPommelSafeExit (crc : BitVec 8) (s : State) : Res :=
  .next (s.pommel 11 [] crc false (fun s =>
    let r := s.safeExitNow 1
    (if r.1 then 0 else 8, [], r.2)))

/-- RESET: rung 2 of a unit by its UID, a package reset, or rung 4. -/
def State.pomReset (s : State) (rung u : Nat) : PomAns :=
  if rung < 2 ∨ 4 < rung ∨ (rung = 2 ∧ s.dieCount ≤ uidDie u) then (4, [], s)
  else if s.flag 0 F.POM_CTRL_REG_EN = false then (8, [], s)
  else match rung with
    | 2 =>
      let r := s.unitRequest (uidDie u) u 1 false
      (match r.1 with | 2 => 4 | 3 => 2 | _ => 0, [], r.2)
    | 3 => (0, [], s.pkgDecide 1 0)
    | _ => (0, [], s.rung4 1 0)

def execPommelReset (rung : BitVec 8) (u : BitVec 16) (crc : BitVec 8) (s : State) : Res :=
  .next (s.pommel 12 (rung :: (if rung = 2 then leBytes 2 u.toNat else [])) crc false (fun s => s.pomReset rung.toNat u.toNat))

def execPommelAlarmClr (crc : BitVec 8) (s : State) : Res := .next (s.pommel 13 [] crc true (fun s => (0, [], s.alarmClear)))

end Sys2Proof.Machine
end

