-- ==== Sys2Proof/Machine/Welt.lean ====
section
/-! DEFINITION. The welt: packets, retrains, training, credits and time messages (chapter 19). -/

namespace Sys2Proof.Machine

/-- A packet arrives on link `k` of die `d` (R829): acknowledged in order, or dropped and replayed by the sender, which counts it. -/
def State.weltPacket (s : State) (d k seq : Nat) (good : Bool) : State :=
  if s.get d (F.WLT_LINK_STATE k) ≠ 2 then s
  else
    let e := s.weltEnd d k
    if good ∧ seq = e.expect then s.setWelt d k { e with expect := (e.expect + 1) % 128, fails := 0 }
    else
      let p := s.weltPeer d k
      ((s.setWelt d k { e with fails := e.fails + 1 }).count p (F.WLT_REPLAY_COUNT k) 1).putFlag p F.WLT_EVENT_REPLAY true

def execWeltPacketRx (d : Die) (k : Fin 3) (seq : Fin 128) (good : Bool) (s : State) : Res := onDie s d (s.weltPacket d k seq good)

/-- A link down after retrains: a package-reset decision of class LINK (R830). -/
def State.weltLost (s : State) (d k : Nat) : State := (s.weltIsDown d k).pkgDecide 2 10

/-- TIM_MONO of the retrains of an end within the last millisecond. -/
def State.recentRetrains (s : State) (d k : Nat) : List Nat :=
  (s.weltEnd d k).retrains.filter (fun t => decide (s.mono d < t + 1000000))

/-- One end starts a retrain, counted on its die. -/
def State.retrainEnd (s : State) (k d : Nat) : State :=
  let l := s.recentRetrains d k ++ [s.mono d]
  let s := (s.setWelt d k { s.weltEnd d k with fails := 0, retrains := l }).weltTo d k 1
  (s.count d (F.WLT_RETRAIN_COUNT k) 1).putFlag d F.WLT_EVENT_RETRAIN true

/-- After eight replays of one packet without success the link retrains; the third retrain within 1 ms takes it down (R830). -/
def State.weltRetrain (s : State) (d k : Nat) : State :=
  if s.get d (F.WLT_LINK_STATE k) ≠ 2 ∨ (s.weltEnd d k).fails < 9 then s
  else
    let n := (s.recentRetrains d k).length + 1
    let s := s.bothEnds d k (fun a x => a.retrainEnd k x)
    if 3 ≤ n then s.weltLost d k else s

def execWeltRetrain (d : Die) (k : Fin 3) (s : State) : Res := onDie s d (s.weltRetrain d k)

/-- A retrain is in progress: the end trains and has retrained since its training. -/
def State.retraining (s : State) (d k : Nat) : Bool :=
  s.get d (F.WLT_LINK_STATE k) == 1 && !(s.weltEnd d k).retrains.isEmpty

/-- A retrain ends: the sequence numbers of the link go on, so that what was not acknowledged is replayed in order. -/
def State.retrainDone (s : State) (d k : Nat) (ok : Bool) : State :=
  if !s.retraining d k then s
  else if ok then
    s.bothEnds d k (fun a x => ((a.weltTo x k 2).putFlag x F.WLT_EVENT_LINK_UP true).linkFault x (uid x 0x0C k))
  else s.weltLost d k

def execWeltRetrainDone (d : Die) (k : Fin 3) (ok : Bool) (s : State) : Res := onDie s d (s.retrainDone d k ok)

/-- The training of a used link ends at both ends, or it is DOWN with LINK active (R831); a link trains from power-on reset on. -/
def State.weltTrained (s : State) (d k : Nat) (ok : Bool) : State :=
  if s.weltUsed d k = false ∨ 2 ≤ s.get d (F.WLT_LINK_STATE k) ∨ s.retraining d k then s
  else if ok then s.weltIsUp d k
  else s.weltIsDown d k

def execWeltTraining (d : Die) (k : Fin 3) (ok : Bool) (s : State) : Res := onDie s d (s.weltTrained d k ok)

/-- A transaction leaves its wait for a credit after `ns` (R828). -/
def State.creditWait (s : State) (d k ns : Nat) : State :=
  if s.weltUsed d k ∧ 1000 ≤ ns then s.count d (F.WLT_STALL_COUNT k) 1 else s

def execWeltCreditWaitEnd (d : Die) (k : Fin 3) (ns : Nat) (s : State) : Res := onDie s d (s.creditWait d k ns)

/-- The time base of a die below the nanosecond, in units of 2^-48 ns. -/
def State.fineNow (s : State) (d : Nat) : Int := (s.now d : Int) * 2 ^ 48 + tblGet s.frac 0 d

/-- A time message at die `d` (R832): steering by rate alone toward die 0's time, by at most 1,000 ppb. -/
def State.timeMessage (s : State) (d mag : Nat) : State :=
  if d = 0 then s
  else
    let m : Int := min mag 256000
    let x : Int := if s.fineNow d < s.fineNow 0 then m else if s.fineNow 0 < s.fineNow d then -m else 0
    s.setRein { s.rein with timeAt := tblSet s.rein.timeAt 0 d (s.mono d), steer := tblSet s.rein.steer 0 d x }

def execTimeMessage (d : Die) (mag : Nat) (s : State) : Res := onDie s d (s.timeMessage d mag)

end Sys2Proof.Machine
end

