-- ==== Sys2Proof/Machine/Rein.lean ====
section
/-! DEFINITION. The Rein: messages, enumeration, breaks, time, management and mirroring (chapter 19). -/

namespace Sys2Proof.Machine

/-! ## Links -/

/-- A link comes up while the clock of its SerDes island runs (R782, R838). -/
def State.reinComesUp (s : State) (up : Bool) : State := if s.islandGated 0 2 then s else s.reinLink up

def execReinLinkUp (up : Bool) (s : State) : Res := onPkg s (s.reinComesUp up)

def execReinBreak (up : Bool) (s : State) : Res := onPkg s (s.reinBroken up)

/-- STATUS on both links. -/
def execReinStatusSend (s : State) : Res := onPkg s ((s.sendStatus true).sendStatus false)

def execTimeSyncExchange (s : State) : Res := onPkg s s.sendSync

/-- A Rein reset: the owner's command, which only the head accepts, or a REIN_RESET message. -/
def execReinReset (owner : Bool) (s : State) : Res := onPkg s (if owner ∧ ¬ s.reinHead then s else s.reinResetNow)

/-! ## Management -/

def execMgmtGo (s : State) : Res := onPkg s s.mgmtStart

/-- The access of a request as an owner access of the addressed die: RESULT 1, or 5 where it does not complete (R844). -/
def State.mgmtPerform (s : State) (src g data : Nat) (wr : Bool) (env : WriteEnv) : State :=
  let d := gaddrDie g
  let off := g % 0x800000
  if wr then
    let r := s.ctlPut d off data 0 env
    r.2.mgmtReply src (if r.1 then 1 else 5) 0
  else
    let r := s.ctlRead d off
    r.2.mgmtReply src (if r.1.isSome then 1 else 5) (r.1.getD 0)

/-- A management request at its target (R844). -/
def State.mgmtRequest (s : State) (src g data : Nat) (wr : Bool) (env : WriteEnv) : State :=
  if s.enumerated = false then s
  else if s.mgmtDenied src g then (s.count 0 F.REI_MGMT_DENIED_COUNT 1).mgmtReply src 3 0
  else s.mgmtPerform src g data wr env

def execMgmtReq (src : Fin 31) (g : BitVec 64) (data : BitVec 32) (wr : Bool) (env : WriteEnv) (s : State) : Res :=
  onPkg s (s.mgmtRequest src g.toNat data.toNat wr env)

/-- A response at the package that asked. -/
def State.mgmtResponse (s : State) (src result data : Nat) : State :=
  if s.enumerated then s.mgmtAnswer src result data else s

def execMgmtRsp (src : Fin 31) (result : Fin 8) (data : BitVec 32) (s : State) : Res :=
  onPkg s (s.mgmtResponse src result data.toNat)

def execMgmtTimeout (s : State) : Res := onPkg s (if s.flag 0 F.REI_MGMT_CTRL_BUSY then s.mgmtEnd 4 else s)

/-! ## Mirroring -/

def State.mirrorMessage (s : State) (src dpi type : Nat) (bytes : List Byte) : State :=
  if s.enumerated then s.mirrorRx src dpi type bytes else s

def execMirror (src : Fin 31) (dpi type : BitVec 32) (bytes : List Byte) (s : State) : Res :=
  onPkg s (s.mirrorMessage src dpi.toNat type.toNat bytes)

/-! ## Messages received (R836, R837) -/

/-- `n` payload bytes from `at` as a little-endian number. -/
def payNum (m : ReinMsg) (at' n : Nat) : Nat := leNat ((m.payload.drop at').take n)

/-- A message consumed, by its kind. -/
def State.reinConsume (s : State) (up : Bool) (m : ReinMsg) (members : Nat) (env : WriteEnv) : State :=
  match m.kind with
  | 1 => if up then s.enumRx (payNum m 0 1) else s
  | 2 => s.syncRx up
  | 3 => s.respRx up (payNum m 0 8) (payNum m 8 8)
  | 4 => s.mgmtRequest m.src (payNum m 0 8) (payNum m 8 4) ((payNum m 12 4).testBit 0) env
  | 5 => s.mgmtResponse m.src (payNum m 0 4) (payNum m 4 4)
  | 6 => s.mirrorMessage m.src (payNum m 0 4) (payNum m 4 4) ((m.payload.drop 8).take 32)
  | 7 => s.reportRx m.src (decide (payNum m 0 4 = 1)) (payNum m 4 4) (payNum m 8 8) members
  | 8 => s.decisionRx (decide (payNum m 0 4 = 1))
  | 9 => s.reinResetNow
  | 10 => s.statusRx up (payNum m 0 4)
  | _ => s

/-- The kinds that an unenumerated package consumes. -/
def neighbourKind (k : Nat) : Bool := k == 1 || k == 2 || k == 3 || k == 9 || k == 10

/-- A message in sequence with good CRC: consumed, forwarded or discarded by its destination. -/
def State.reinReceive (s : State) (up : Bool) (m : ReinMsg) (members : Nat) (env : WriteEnv) : State :=
  if s.reinCarries up m.kind = false then s
  else if s.enumerated = false then
    (if neighbourKind m.kind then s.reinConsume up m members env else s)
  else if m.dst = s.reinAddr ∨ m.dst = 31 then s.reinConsume up m members env
  else s.reinSend (s.reinWay m.dst) m

/-- A message arrives on a port; one with a bad CRC or out of sequence is dropped and replayed. -/
def State.reinArrive (s : State) (up good : Bool) (m : ReinMsg) (members : Nat) (env : WriteEnv) : State :=
  if s.reinUp up = false ∨ s.islandGated 0 2 then s
  else if good then s.reinReceive up m members env
  else s.count 0 F.REI_REPLAY_COUNT 1

def execReinMessageRx (up good : Bool) (kind : BitVec 8) (dst src : Fin 32) (payload : List Byte) (members : Fin 32) (env : WriteEnv)
    (s : State) : Res :=
  onPkg s (s.reinArrive up good ⟨kind.toNat, dst, src, payload⟩ members env)

end Sys2Proof.Machine
end

