-- ==== Sys2Proof/Machine/Dispatch.lean ====
section
/-! DEFINITION. One arm per command: the call of its meaning. -/

namespace Sys2Proof.Machine

def exec (i : Instr) (s : State) : Host.Outcome State Fault Refusal :=
  match i with
  | .paceWindowEnd d c0 c1 c2 c3 spine => Sys2Proof.Machine.execPaceWindowEnd d c0 c1 c2 c3 spine s
  | .boundHoldExpire => Sys2Proof.Machine.execBoundHoldExpire s
  | .skewMeasure d ps => Sys2Proof.Machine.execSkewMeasure d ps s
  | .regionResetReq d q => Sys2Proof.Machine.execRegionResetReq d q s
  | .regionResetDone d q => Sys2Proof.Machine.execRegionResetDone d q s
  | .bootSeek a b => Sys2Proof.Machine.execBootSeek a b s
  | .flashReadTimeout slotB => Sys2Proof.Machine.execFlashReadTimeout slotB s
  | .harLoad => Sys2Proof.Machine.execHarLoad s
  | .loadComplete img => Sys2Proof.Machine.execLoadComplete img s
  | .harPrepare => Sys2Proof.Machine.execHarPrepare s
  | .shadowReady u => Sys2Proof.Machine.execShadowReady u s
  | .harArm => Sys2Proof.Machine.execHarArm s
  | .harAbort => Sys2Proof.Machine.execHarAbort s
  | .harDiscard => Sys2Proof.Machine.execHarDiscard s
  | .guardCheck members => Sys2Proof.Machine.execGuardCheck members s
  | .commitInstant => Sys2Proof.Machine.execCommitInstant s
  | .unitSwitch u => Sys2Proof.Machine.execUnitSwitch u s
  | .laceSwitchTimeout d e => Sys2Proof.Machine.execLaceSwitchTimeout d e s
  | .groupReportRx src ready guardUs time members => Sys2Proof.Machine.execGroupReportRx src ready guardUs time members s
  | .groupDecisionRx commit => Sys2Proof.Machine.execGroupDecisionRx commit s
  | .groupDecisionTimeout => Sys2Proof.Machine.execGroupDecisionTimeout s
  | .bankGrant d b => Sys2Proof.Machine.execBankGrant d b s
  | .vatByteAccess d m t off n write => Sys2Proof.Machine.execVatByteAccess d m t off n write s
  | .classBStarve d => Sys2Proof.Machine.execClassBStarve d s
  | .maintPromote d b => Sys2Proof.Machine.execMaintPromote d b s
  | .scrubWrite d b => Sys2Proof.Machine.execScrubWrite d b s
  | .burnisherRead d b => Sys2Proof.Machine.execBurnisherRead d b s
  | .vatClearDone d => Sys2Proof.Machine.execVatClearDone d s
  | .marchStart d destructive banks spares => Sys2Proof.Machine.execMarchStart d destructive banks spares s
  | .marchAbort d => Sys2Proof.Machine.execMarchAbort d s
  | .marchLineDone d b fault => Sys2Proof.Machine.execMarchLineDone d b fault s
  | .marchDone d faults => Sys2Proof.Machine.execMarchDone d faults s
  | .startupRun faults => Sys2Proof.Machine.execStartupRun faults s
  | .commitApply d => Sys2Proof.Machine.execCommitApply d s
  | .force d tid elem => Sys2Proof.Machine.execForce d tid elem s
  | .release d tid elem => Sys2Proof.Machine.execRelease d tid elem s
  | .fenceMarkDone d => Sys2Proof.Machine.execFenceMarkDone d s
  | .skiverPass d => Sys2Proof.Machine.execSkiverPass d s
  | .noticeRdAdvance d n rd => Sys2Proof.Machine.execNoticeRdAdvance d n rd s
  | .leadWrite host ns => Sys2Proof.Machine.execLeadWrite host ns s
  | .awlNop d e c => Sys2Proof.Machine.execAwlNop d e c s
  | .awlDrop d e c => Sys2Proof.Machine.execAwlDrop d e c s
  | .awlDup d e c => Sys2Proof.Machine.execAwlDup d e c s
  | .awlSwap d e c => Sys2Proof.Machine.execAwlSwap d e c s
  | .awlOver d e c => Sys2Proof.Machine.execAwlOver d e c s
  | .awlRot d e c => Sys2Proof.Machine.execAwlRot d e c s
  | .awlNip d e c => Sys2Proof.Machine.execAwlNip d e c s
  | .awlTuck d e c => Sys2Proof.Machine.execAwlTuck d e c s
  | .awlDrop2 d e c => Sys2Proof.Machine.execAwlDrop2 d e c s
  | .awlDup2 d e c => Sys2Proof.Machine.execAwlDup2 d e c s
  | .awlOver2 d e c => Sys2Proof.Machine.execAwlOver2 d e c s
  | .awlSwap2 d e c => Sys2Proof.Machine.execAwlSwap2 d e c s
  | .awlTor d e c => Sys2Proof.Machine.execAwlTor d e c s
  | .awlFromr d e c => Sys2Proof.Machine.execAwlFromr d e c s
  | .awlRfetch d e c => Sys2Proof.Machine.execAwlRfetch d e c s
  | .awlPick d e c n => Sys2Proof.Machine.execAwlPick d e c n s
  | .awlAdd d e c => Sys2Proof.Machine.execAwlAdd d e c s
  | .awlAdc d e c => Sys2Proof.Machine.execAwlAdc d e c s
  | .awlSub d e c => Sys2Proof.Machine.execAwlSub d e c s
  | .awlSbc d e c => Sys2Proof.Machine.execAwlSbc d e c s
  | .awlAnd d e c => Sys2Proof.Machine.execAwlAnd d e c s
  | .awlOr d e c => Sys2Proof.Machine.execAwlOr d e c s
  | .awlXor d e c => Sys2Proof.Machine.execAwlXor d e c s
  | .awlNot d e c => Sys2Proof.Machine.execAwlNot d e c s
  | .awlNeg d e c => Sys2Proof.Machine.execAwlNeg d e c s
  | .awlInc d e c => Sys2Proof.Machine.execAwlInc d e c s
  | .awlDec d e c => Sys2Proof.Machine.execAwlDec d e c s
  | .awlCmp d e c => Sys2Proof.Machine.execAwlCmp d e c s
  | .awlAdd2 d e c => Sys2Proof.Machine.execAwlAdd2 d e c s
  | .awlSub2 d e c => Sys2Proof.Machine.execAwlSub2 d e c s
  | .awlCmp2 d e c => Sys2Proof.Machine.execAwlCmp2 d e c s
  | .awlSwab d e c => Sys2Proof.Machine.execAwlSwab d e c s
  | .awlSext8 d e c => Sys2Proof.Machine.execAwlSext8 d e c s
  | .awlZext8 d e c => Sys2Proof.Machine.execAwlZext8 d e c s
  | .awlShl d e c k => Sys2Proof.Machine.execAwlShl d e c k s
  | .awlShr d e c k => Sys2Proof.Machine.execAwlShr d e c k s
  | .awlSar d e c k => Sys2Proof.Machine.execAwlSar d e c k s
  | .awlRol d e c k => Sys2Proof.Machine.execAwlRol d e c k s
  | .awlShlv d e c => Sys2Proof.Machine.execAwlShlv d e c s
  | .awlShrv d e c => Sys2Proof.Machine.execAwlShrv d e c s
  | .awlSarv d e c => Sys2Proof.Machine.execAwlSarv d e c s
  | .awlRolv d e c => Sys2Proof.Machine.execAwlRolv d e c s
  | .awlMul d e c => Sys2Proof.Machine.execAwlMul d e c s
  | .awlMuls d e c => Sys2Proof.Machine.execAwlMuls d e c s
  | .awlMacc d e c => Sys2Proof.Machine.execAwlMacc d e c s
  | .awlMaccs d e c => Sys2Proof.Machine.execAwlMaccs d e c s
  | .awlMclr d e c => Sys2Proof.Machine.execAwlMclr d e c s
  | .awlLit d e c v => Sys2Proof.Machine.execAwlLit d e c v s
  | .awlLitx d e c n => Sys2Proof.Machine.execAwlLitx d e c n s
  | .awlBtst d e c b => Sys2Proof.Machine.execAwlBtst d e c b s
  | .awlTeq d e c => Sys2Proof.Machine.execAwlTeq d e c s
  | .awlTne d e c => Sys2Proof.Machine.execAwlTne d e c s
  | .awlTltu d e c => Sys2Proof.Machine.execAwlTltu d e c s
  | .awlTlts d e c => Sys2Proof.Machine.execAwlTlts d e c s
  | .awlTgeu d e c => Sys2Proof.Machine.execAwlTgeu d e c s
  | .awlTges d e c => Sys2Proof.Machine.execAwlTges d e c s
  | .awlTz d e c => Sys2Proof.Machine.execAwlTz d e c s
  | .awlTt d e c => Sys2Proof.Machine.execAwlTt d e c s
  | .awlTeq2 d e c => Sys2Proof.Machine.execAwlTeq2 d e c s
  | .awlTltu2 d e c => Sys2Proof.Machine.execAwlTltu2 d e c s
  | .awlTin d e c => Sys2Proof.Machine.execAwlTin d e c s
  | .awlTset d e c => Sys2Proof.Machine.execAwlTset d e c s
  | .awlTclr d e c => Sys2Proof.Machine.execAwlTclr d e c s
  | .awlRet d e c => Sys2Proof.Machine.execAwlRet d e c s
  | .awlCalls d e c => Sys2Proof.Machine.execAwlCalls d e c s
  | .awlJmps d e c => Sys2Proof.Machine.execAwlJmps d e c s
  | .awlBr d e c off => Sys2Proof.Machine.execAwlBr d e c off s
  | .awlCall d e off => Sys2Proof.Machine.execAwlCall d e off s
  | .awlWait d e c => Sys2Proof.Machine.execAwlWait d e c s
  | .engineWake d e => Sys2Proof.Machine.execEngineWake d e s
  | .awlRett d e c => Sys2Proof.Machine.execAwlRett d e c s
  | .awlTrap d e c => Sys2Proof.Machine.execAwlTrap d e c s
  | .awlSync d e c => Sys2Proof.Machine.execAwlSync d e c s
  | .awlMrx d e c => Sys2Proof.Machine.execAwlMrx d e c s
  | .awlMtx d e c => Sys2Proof.Machine.execAwlMtx d e c s
  | .awlLd d e c o => Sys2Proof.Machine.execAwlLd d e c o s
  | .awlSt d e c o => Sys2Proof.Machine.execAwlSt d e c o s
  | .awlLd2 d e c o => Sys2Proof.Machine.execAwlLd2 d e c o s
  | .awlSt2 d e c o => Sys2Proof.Machine.execAwlSt2 d e c o s
  | .awlLdz d e c n => Sys2Proof.Machine.execAwlLdz d e c n s
  | .awlStz d e c n => Sys2Proof.Machine.execAwlStz d e c n s
  | .awlLds d e c r => Sys2Proof.Machine.execAwlLds d e c r s
  | .awlSts d e c r => Sys2Proof.Machine.execAwlSts d e c r s
  | .awlFld d e c fmt => Sys2Proof.Machine.execAwlFld d e c fmt s
  | .awlFst d e c fmt => Sys2Proof.Machine.execAwlFst d e c fmt s
  | .awlVld d e c fmt => Sys2Proof.Machine.execAwlVld d e c fmt s
  | .awlVst d e c fmt => Sys2Proof.Machine.execAwlVst d e c fmt s
  | .awlCrc d e c fmt => Sys2Proof.Machine.execAwlCrc d e c fmt s
  | .awlCommit d e c n => Sys2Proof.Machine.execAwlCommit d e c n s
  | .awlRdrec d e c n => Sys2Proof.Machine.execAwlRdrec d e c n s
  | .awlBfx d e c p w => Sys2Proof.Machine.execAwlBfx d e c p w s
  | .awlBfi d e c p w => Sys2Proof.Machine.execAwlBfi d e c p w s
  | .illegalWord d e => Sys2Proof.Machine.execIllegalWord d e s
  | .fwRelease d e => Sys2Proof.Machine.execFwRelease d e s
  | .fwHold d e => Sys2Proof.Machine.execFwHold d e s
  | .fwRequeue d e q => Sys2Proof.Machine.execFwRequeue d e q s
  | .fwAlloc d e => Sys2Proof.Machine.execFwAlloc d e s
  | .fwSend d e => Sys2Proof.Machine.execFwSend d e s
  | .fwDiscard d e => Sys2Proof.Machine.execFwDiscard d e s
  | .signal d e mask => Sys2Proof.Machine.execSignal d e mask s
  | .tmrWrite d e us => Sys2Proof.Machine.execTmrWrite d e us s
  | .timerExpire d e => Sys2Proof.Machine.execTimerExpire d e s
  | .mbxRx d e => Sys2Proof.Machine.execMbxRx d e s
  | .mbxTx d e w => Sys2Proof.Machine.execMbxTx d e w s
  | .crefused d e => Sys2Proof.Machine.execCrefused d e s
  | .nowLatch d e => Sys2Proof.Machine.execNowLatch d e s
  | .trapPcWrite d e pc => Sys2Proof.Machine.execTrapPcWrite d e pc s
  | .storeDrain d e => Sys2Proof.Machine.execStoreDrain d e s
  | .trapEntry d e => Sys2Proof.Machine.execTrapEntry d e s
  | .fatalTrap d e => Sys2Proof.Machine.execFatalTrap d e s
  | .runLimit d e => Sys2Proof.Machine.execRunLimit d e s
  | .fetchUe d e => Sys2Proof.Machine.execFetchUe d e s
  | .engineReset d e => Sys2Proof.Machine.execEngineReset d e s
  | .clusterReset d k conns => Sys2Proof.Machine.execClusterReset d k conns s
  | .engineResetDone d e => Sys2Proof.Machine.execEngineResetDone d e s
  | .ibankTest d k b => Sys2Proof.Machine.execIbankTest d k b s
  | .ibankClear d k b => Sys2Proof.Machine.execIbankClear d k b s
  | .ibankReload d k b => Sys2Proof.Machine.execIbankReload d k b s
  | .ibankDone d k fault => Sys2Proof.Machine.execIbankDone d k fault s
  | .pduDeliver d c q pdu => Sys2Proof.Machine.execPduDeliver d c q pdu s
  | .framingErr d => Sys2Proof.Machine.execFramingErr d s
  | .tcpSynRefused d => Sys2Proof.Machine.execTcpSynRefused d s
  | .commandTimeout d e dpi token => Sys2Proof.Machine.execCommandTimeout d e dpi token s
  | .partialMessageTimeout d e => Sys2Proof.Machine.execPartialMessageTimeout d e s
  | .frameReceive d p bytes symErr fcsOk red => Sys2Proof.Machine.execFrameReceive d p bytes symErr fcsOk red s
  | .pauseExpire d p q => Sys2Proof.Machine.execPauseExpire d p q s
  | .pauseWatchdog d p q => Sys2Proof.Machine.execPauseWatchdog d p q s
  | .pauseHoldoffEnd d p => Sys2Proof.Machine.execPauseHoldoffEnd d p s
  | .dupKeyExpire d k sa seq => Sys2Proof.Machine.execDupKeyExpire d k sa seq s
  | .supervisionSend d k => Sys2Proof.Machine.execSupervisionSend d k s
  | .linkUp d p r => Sys2Proof.Machine.execLinkUp d p r s
  | .linkDown d p => Sys2Proof.Machine.execLinkDown d p s
  | .restartAn d p => Sys2Proof.Machine.execRestartAn d p s
  | .adminDown d p v => Sys2Proof.Machine.execAdminDown d p v s
  | .egressSelect d p => Sys2Proof.Machine.execEgressSelect d p s
  | .queueHeadArrive d p q => Sys2Proof.Machine.execQueueHeadArrive d p q s
  | .txEnd d p => Sys2Proof.Machine.execTxEnd d p s
  | .gateEntryChange d p => Sys2Proof.Machine.execGateEntryChange d p s
  | .cutThroughStart d p first => Sys2Proof.Machine.execCutThroughStart d p first s
  | .serialFrameReceive d p rx edgePs => Sys2Proof.Machine.execSerialFrameReceive d p rx edgePs s
  | .uartFrameEnd d p chars bad gap edgePs => Sys2Proof.Machine.execUartFrameEnd d p chars bad gap edgePs s
  | .serialTxStart d p => Sys2Proof.Machine.execSerialTxStart d p s
  | .serialTxEnd d p out => Sys2Proof.Machine.execSerialTxEnd d p out s
  | .serialFifoEnter d p => Sys2Proof.Machine.execSerialFifoEnter d p s
  | .busOff d p => Sys2Proof.Machine.execBusOff d p s
  | .recover d p => Sys2Proof.Machine.execRecover d p s
  | .busOffRecoveryDone d p => Sys2Proof.Machine.execBusOffRecoveryDone d p s
  | .abortHead d p => Sys2Proof.Machine.execAbortHead d p s
  | .invLong d p => Sys2Proof.Machine.execInvLong d p s
  | .detectStart d p => Sys2Proof.Machine.execDetectStart d p s
  | .detectDone d p shortest frames => Sys2Proof.Machine.execDetectDone d p shortest frames s
  | .go d p => Sys2Proof.Machine.execGo d p s
  | .ttcanReferenceSend d p => Sys2Proof.Machine.execTtcanReferenceSend d p s
  | .ttcanReferenceRx d p prio cycle => Sys2Proof.Machine.execTtcanReferenceRx d p prio cycle s
  | .ttcanWatchExpire d p won => Sys2Proof.Machine.execTtcanWatchExpire d p won s
  | .ttcanTrigger d p k idle => Sys2Proof.Machine.execTtcanTrigger d p k idle s
  | .ttcanSyncLoss d p => Sys2Proof.Machine.execTtcanSyncLoss d p s
  | .ttBufferLatch d w => Sys2Proof.Machine.execTtBufferLatch d w s
  | .ttCellStart d w busyA busyB => Sys2Proof.Machine.execTtCellStart d w busyA busyB s
  | .ttArbStep d ch w => Sys2Proof.Machine.execTtArbStep d ch w s
  | .ttFrameReceive d ch b rx => Sys2Proof.Machine.execTtFrameReceive d ch b rx s
  | .ttClockCorrection d => Sys2Proof.Machine.execTtClockCorrection d s
  | .ttStateChange d ev => Sys2Proof.Machine.execTtStateChange d ev s
  | .ttListenTimeout d => Sys2Proof.Machine.execTtListenTimeout d s
  | .bridleViolation d ch b kind => Sys2Proof.Machine.execBridleViolation d ch b kind s
  | .bridleReadmit d => Sys2Proof.Machine.execBridleReadmit d s
  | .ttCut d ch b => Sys2Proof.Machine.execTtCut d ch b s
  | .ttReadmit d ch b => Sys2Proof.Machine.execTtReadmit d ch b s
  | .ttRestart d => Sys2Proof.Machine.execTtRestart d s
  | .ttSend d => Sys2Proof.Machine.execTtSend d s
  | .schedulerRound d => Sys2Proof.Machine.execSchedulerRound d s
  | .captureRecord d => Sys2Proof.Machine.execCaptureRecord d s
  | .ctUnderrun d p => Sys2Proof.Machine.execCtUnderrun d p s
  | .commitQueueWaitEnd d e => Sys2Proof.Machine.execCommitQueueWaitEnd d e s
  | .hcqWaitEnd d => Sys2Proof.Machine.execHcqWaitEnd d s
  | .leakAudit d => Sys2Proof.Machine.execLeakAudit d s
  | .tshRateWrite d k rate => Sys2Proof.Machine.execTshRateWrite d k rate s
  | .servoMeasurement src ofs => Sys2Proof.Machine.execServoMeasurement src ofs s
  | .sourceSelect src valid => Sys2Proof.Machine.execSourceSelect src valid s
  | .accept => Sys2Proof.Machine.execAccept s
  | .step => Sys2Proof.Machine.execStep s
  | .relock => Sys2Proof.Machine.execRelock s
  | .relockDone => Sys2Proof.Machine.execRelockDone s
  | .stepInstant members => Sys2Proof.Machine.execStepInstant members s
  | .ptpMessageTx k msg => Sys2Proof.Machine.execPtpMessageTx k msg s
  | .captureEdge d n rising => Sys2Proof.Machine.execCaptureEdge d n rising s
  | .ppsEdge d n => Sys2Proof.Machine.execPpsEdge d n s
  | .irigFrame d n frame => Sys2Proof.Machine.execIrigFrame d n frame s
  | .freqInputLoss d n => Sys2Proof.Machine.execFreqInputLoss d n s
  | .sourceLossTimeout src => Sys2Proof.Machine.execSourceLossTimeout src s
  | .pulseStart d n => Sys2Proof.Machine.execPulseStart d n s
  | .pulseEnd d n => Sys2Proof.Machine.execPulseEnd d n s
  | .pulseArm d n => Sys2Proof.Machine.execPulseArm d n s
  | .clkoutFreqWrite freq => Sys2Proof.Machine.execClkoutFreqWrite freq s
  | .laceStep d engines pins caps => Sys2Proof.Machine.execLaceStep d engines pins caps s
  | .cueStart d mask delay => Sys2Proof.Machine.execCueStart d mask delay s
  | .cueRephase d mask delay => Sys2Proof.Machine.execCueRephase d mask delay s
  | .cueStartRephase d mask delay => Sys2Proof.Machine.execCueStartRephase d mask delay s
  | .cueStop d mask delay => Sys2Proof.Machine.execCueStop d mask delay s
  | .cueReset d mask delay => Sys2Proof.Machine.execCueReset d mask delay s
  | .cueEdge d => Sys2Proof.Machine.execCueEdge d s
  | .laceAutostart d => Sys2Proof.Machine.execLaceAutostart d s
  | .lceInFifo d e word => Sys2Proof.Machine.execLceInFifo d e word s
  | .lceOutFifo d e => Sys2Proof.Machine.execLceOutFifo d e s
  | .lceLoopWrite d e sel loop => Sys2Proof.Machine.execLceLoopWrite d e sel loop s
  | .lceDivWrite d e div => Sys2Proof.Machine.execLceDivWrite d e div s
  | .lceFlagsWrite d flags => Sys2Proof.Machine.execLceFlagsWrite d flags s
  | .bar0Access p r env => Sys2Proof.Machine.execBar0Access p r env s
  | .bar4Access p off len write => Sys2Proof.Machine.execBar4Access p off len write s
  | .portReset p kind => Sys2Proof.Machine.execPortReset p kind s
  | .pageGather p t n pasid => Sys2Proof.Machine.execPageGather p t n pasid s
  | .pageScatter p t n pasid => Sys2Proof.Machine.execPageScatter p t n pasid s
  | .pageRelease p t pasid => Sys2Proof.Machine.execPageRelease p t pasid s
  | .contextAllocate p t off v pasid => Sys2Proof.Machine.execContextAllocate p t off v pasid s
  | .contextIdleExpire p t => Sys2Proof.Machine.execContextIdleExpire p t s
  | .noticeWindowRd p t rd pasid => Sys2Proof.Machine.execNoticeWindowRd p t rd pasid s
  | .mbxPgTx p t k w pasid => Sys2Proof.Machine.execMbxPgTx p t k w pasid s
  | .mbxPgRx p t k pasid => Sys2Proof.Machine.execMbxPgRx p t k pasid s
  | .mbxPgBell p t k pasid => Sys2Proof.Machine.execMbxPgBell p t k pasid s
  | .dmaPiWrite p t j pi pasid => Sys2Proof.Machine.execDmaPiWrite p t j pi pasid s
  | .dmaDescriptorStart d ch bytes => Sys2Proof.Machine.execDmaDescriptorStart d ch bytes s
  | .dmaBurst d ch host => Sys2Proof.Machine.execDmaBurst d ch host s
  | .dmaDescriptorEnd d ch => Sys2Proof.Machine.execDmaDescriptorEnd d ch s
  | .dmaAbort d ch => Sys2Proof.Machine.execDmaAbort d ch s
  | .dmaChReset d ch => Sys2Proof.Machine.execDmaChReset d ch s
  | .dmaEnable p t j v pasid => Sys2Proof.Machine.execDmaEnable p t j v pasid s
  | .circularRecord d ch => Sys2Proof.Machine.execCircularRecord d ch s
  | .circularCrdWrite p t j rd pasid => Sys2Proof.Machine.execCircularCrdWrite p t j rd pasid s
  | .hcqDrain d => Sys2Proof.Machine.execHcqDrain d s
  | .storeBucketWaitEnd d w => Sys2Proof.Machine.execStoreBucketWaitEnd d w s
  | .recordSubmit d sub => Sys2Proof.Machine.execRecordSubmit d sub s
  | .markTick d => Sys2Proof.Machine.execMarkTick d s
  | .timeEventMark d cause => Sys2Proof.Machine.execTimeEventMark d cause s
  | .snapTake d k => Sys2Proof.Machine.execSnapTake d k s
  | .snapRelease d k => Sys2Proof.Machine.execSnapRelease d k s
  | .segmentClose d => Sys2Proof.Machine.execSegmentClose d s
  | .flush d => Sys2Proof.Machine.execFlush d s
  | .nvmeWriteDone d tag ok => Sys2Proof.Machine.execNvmeWriteDone d tag ok s
  | .nvmeWriteTimeout d tag => Sys2Proof.Machine.execNvmeWriteTimeout d tag s
  | .archiveRetryTimer d => Sys2Proof.Machine.execArchiveRetryTimer d s
  | .arcRetry d => Sys2Proof.Machine.execArcRetry d s
  | .arcAdopt d => Sys2Proof.Machine.execArcAdopt d s
  | .ercAlarmClr d => Sys2Proof.Machine.execErcAlarmClr d s
  | .lastGasp cause => Sys2Proof.Machine.execLastGasp cause s
  | .lastGaspEnd written => Sys2Proof.Machine.execLastGaspEnd written s
  | .bootContinuation missing foreign => Sys2Proof.Machine.execBootContinuation missing foreign s
  | .clrNonce => Sys2Proof.Machine.execClrNonce s
  | .nonceExpire => Sys2Proof.Machine.execNonceExpire s
  | .clearGo cut => Sys2Proof.Machine.execClearGo cut s
  | .bind => Sys2Proof.Machine.execBind s
  | .unbind => Sys2Proof.Machine.execUnbind s
  | .raiseSec => Sys2Proof.Machine.execRaiseSec s
  | .attest => Sys2Proof.Machine.execAttest s
  | .cmdActive => Sys2Proof.Machine.execCmdActive s
  | .cmdTrim => Sys2Proof.Machine.execCmdTrim s
  | .cmdRetain => Sys2Proof.Machine.execCmdRetain s
  | .cmdOffWake => Sys2Proof.Machine.execCmdOffWake s
  | .cmdCycle => Sys2Proof.Machine.execCmdCycle s
  | .retainExit => Sys2Proof.Machine.execRetainExit s
  | .vcoreCodeStep mvs => Sys2Proof.Machine.execVcoreCodeStep mvs s
  | .vcoreSlow mv => Sys2Proof.Machine.execVcoreSlow mv s
  | .adaptStep => Sys2Proof.Machine.execAdaptStep s
  | .vcoreTargetWrite v => Sys2Proof.Machine.execVcoreTargetWrite v s
  | .domainFence d n => Sys2Proof.Machine.execDomainFence d n s
  | .domainDrainEnd d n => Sys2Proof.Machine.execDomainDrainEnd d n s
  | .drainForced d n count => Sys2Proof.Machine.execDrainForced d n count s
  | .domainRampDone d n => Sys2Proof.Machine.execDomainRampDone d n s
  | .demandWake d c => Sys2Proof.Machine.execDemandWake d c s
  | .demandIdleExpire d c => Sys2Proof.Machine.execDemandIdleExpire d c s
  | .sentinelExpire d m td dom off write accepted origin obj => Sys2Proof.Machine.execSentinelExpire d m td dom off write accepted origin obj s
  | .crossingResetAck d n forced => Sys2Proof.Machine.execCrossingResetAck d n forced s
  | .wakeSource kind => Sys2Proof.Machine.execWakeSource kind s
  | .railsGood => Sys2Proof.Machine.execRailsGood s
  | .railGoodTimeout => Sys2Proof.Machine.execRailGoodTimeout s
  | .railUndervoltage d rail mv => Sys2Proof.Machine.execRailUndervoltage d rail mv s
  | .railUvTimeout => Sys2Proof.Machine.execRailUvTimeout s
  | .xinLoss d => Sys2Proof.Machine.execXinLoss d s
  | .powerOnReset => Sys2Proof.Machine.execPowerOnReset s
  | .vaonLoss => Sys2Proof.Machine.execVaonLoss s
  | .faultDetect d c u on => Sys2Proof.Machine.execFaultDetect d c u on s
  | .reloadFail d scope => Sys2Proof.Machine.execReloadFail d scope s
  | .pkgReset => Sys2Proof.Machine.execPkgReset s
  | .resetNAssert short => Sys2Proof.Machine.execResetNAssert short s
  | .resetNRelease => Sys2Proof.Machine.execResetNRelease s
  | .rung4 => Sys2Proof.Machine.execRung4 s
  | .rung4OffExpire => Sys2Proof.Machine.execRung4OffExpire s
  | .unitRstGo d u => Sys2Proof.Machine.execUnitRstGo d u s
  | .wdogEn => Sys2Proof.Machine.execWdogEn s
  | .wdogKick key => Sys2Proof.Machine.execWdogKick key s
  | .wdogExpire => Sys2Proof.Machine.execWdogExpire s
  | .qstall d c => Sys2Proof.Machine.execQstall d c s
  | .safeNAssert => Sys2Proof.Machine.execSafeNAssert s
  | .safeSet => Sys2Proof.Machine.execSafeSet s
  | .safeClr => Sys2Proof.Machine.execSafeClr s
  | .safeExit => Sys2Proof.Machine.execSafeExit s
  | .alarmClr => Sys2Proof.Machine.execAlarmClr s
  | .condClr => Sys2Proof.Machine.execCondClr s
  | .tempConversion d k mC => Sys2Proof.Machine.execTempConversion d k mC s
  | .tempCrit d on => Sys2Proof.Machine.execTempCrit d on s
  | .pommelStatus crc => Sys2Proof.Machine.execPommelStatus crc s
  | .pommelFaults die crc => Sys2Proof.Machine.execPommelFaults die crc s
  | .pommelRead die off crc => Sys2Proof.Machine.execPommelRead die off crc s
  | .pommelWrite die off data crc env => Sys2Proof.Machine.execPommelWrite die off data crc env s
  | .pommelMbxPut die engine w crc => Sys2Proof.Machine.execPommelMbxPut die engine w crc s
  | .pommelMbxGet die engine crc => Sys2Proof.Machine.execPommelMbxGet die engine crc s
  | .pommelLoadBegin len crc => Sys2Proof.Machine.execPommelLoadBegin len crc s
  | .pommelLoadData off data crc => Sys2Proof.Machine.execPommelLoadData off data crc s
  | .pommelLoadEnd img inOrder crc => Sys2Proof.Machine.execPommelLoadEnd img inOrder crc s
  | .pommelLoadTimeout => Sys2Proof.Machine.execPommelLoadTimeout s
  | .pommelSafe on crc => Sys2Proof.Machine.execPommelSafe on crc s
  | .pommelSafeExit crc => Sys2Proof.Machine.execPommelSafeExit crc s
  | .pommelReset rung u crc => Sys2Proof.Machine.execPommelReset rung u crc s
  | .pommelAlarmClr crc => Sys2Proof.Machine.execPommelAlarmClr crc s
  | .weltPacketRx d k seq good => Sys2Proof.Machine.execWeltPacketRx d k seq good s
  | .weltRetrain d k => Sys2Proof.Machine.execWeltRetrain d k s
  | .weltRetrainDone d k ok => Sys2Proof.Machine.execWeltRetrainDone d k ok s
  | .weltTraining d k ok => Sys2Proof.Machine.execWeltTraining d k ok s
  | .weltCreditWaitEnd d k ns => Sys2Proof.Machine.execWeltCreditWaitEnd d k ns s
  | .timeMessage d mag => Sys2Proof.Machine.execTimeMessage d mag s
  | .reinMessageRx up good kind dst src payload members env => Sys2Proof.Machine.execReinMessageRx up good kind dst src payload members env s
  | .reinReset owner => Sys2Proof.Machine.execReinReset owner s
  | .reinLinkUp up => Sys2Proof.Machine.execReinLinkUp up s
  | .reinBreak up => Sys2Proof.Machine.execReinBreak up s
  | .reinStatusSend => Sys2Proof.Machine.execReinStatusSend s
  | .timeSyncExchange => Sys2Proof.Machine.execTimeSyncExchange s
  | .mgmtGo => Sys2Proof.Machine.execMgmtGo s
  | .mgmtReq src g data wr env => Sys2Proof.Machine.execMgmtReq src g data wr env s
  | .mgmtRsp src result data => Sys2Proof.Machine.execMgmtRsp src result data s
  | .mgmtTimeout => Sys2Proof.Machine.execMgmtTimeout s
  | .mirror src dpi type bytes => Sys2Proof.Machine.execMirror src dpi type bytes s
  | .calUserWrite d v => Sys2Proof.Machine.execCalUserWrite d v s
  | .bankHold d b mv => Sys2Proof.Machine.execBankHold d b mv s
  | .bankHoldRelease d b mv => Sys2Proof.Machine.execBankHoldRelease d b mv s
  | .elxPadWrite d n v => Sys2Proof.Machine.execElxPadWrite d n v s
  | .registerWrite d off v => Sys2Proof.Machine.execRegisterWrite d off v s
  | .readClear d off wide => Sys2Proof.Machine.execReadClear d off wide s
  | .pcieLinkUp p gen width => Sys2Proof.Machine.execPcieLinkUp p gen width s
  | .safeNRelease => Sys2Proof.Machine.execSafeNRelease s
  | .islandPllUnlock d island => Sys2Proof.Machine.execIslandPllUnlock d island s
  | .islandPllRelock d island => Sys2Proof.Machine.execIslandPllRelock d island s
  | .freqInputReturn d n => Sys2Proof.Machine.execFreqInputReturn d n s
  | .announceReceiptTimeout k => Sys2Proof.Machine.execAnnounceReceiptTimeout k s
  | .autoNegotiationFail d p why => Sys2Proof.Machine.execAutoNegotiationFail d p why s
  | .railRetry => Sys2Proof.Machine.execRailRetry s
  | .reassemblyTimeout d => Sys2Proof.Machine.execReassemblyTimeout d s
  | .branchActivity d ch b active => Sys2Proof.Machine.execBranchActivity d ch b active s

end Sys2Proof.Machine
end

