-- ==== Sys2Proof/Safety.lean ====
section
/-! DEFINITION. What the statements speak of: that a command answers a next state, that a die and an engine are ready for it, and
what an update leaves alone. -/

namespace Sys2Proof.Machine

/-- The command answers a next state, and what holds of it. -/
def Answers (i : Instr) (s : State) (q : State → Prop) : Prop := ∃ t, exec i s = .next t ∧ q t

/-- The die is one of the package's, and the package holds power. -/
abbrev Live (s : State) (d : Nat) : Prop := d < s.dieCount ∧ s.powered = true

/-- The engine executes instructions, no failure waits to be taken, and its next word is fetched without error. -/
abbrev Runs (s : State) (d e : Nat) : Prop :=
  Live s d ∧ (s.eng d e).runs = true ∧ (s.eng d e).pend = none ∧ s.fetchErr d e = 0

/-- The same, with a condition that holds and the return stack within its depth (R297, R304). -/
abbrev Ready (s : State) (d e : Nat) (c : Fin 8) : Prop :=
  Runs s d e ∧ condHolds c (s.eng d e).fl = true ∧ (s.eng d e).rs.length ≤ 16

/-- One engine holds `g`; every other engine and the rest of the state are unchanged. -/
def EngineOnly (s t : State) (d e : Nat) (g : Eng) : Prop :=
  t.eng d e = g ∧ (∀ d' e', d' * 64 + e' ≠ d * 64 + e → t.eng d' e' = s.eng d' e') ∧ t = { s with engs := t.engs }

/-- The state changes nothing but register fields: the register table may differ, and nothing else. -/
def RegsOnly (s t : State) : Prop := t = { s with regs := t.regs }

/-- Every register of every die reads as before, but for the named ones. -/
def RegsExcept (s t : State) (l : List (Nat × Reg)) : Prop :=
  ∀ d r, (∀ e ∈ l, regKey d r ≠ regKey e.1 e.2) → t.rd d r = s.rd d r

/-- A counter field rises by `n` and saturates at its maximum (R13). -/
abbrev Counted (s t : State) (d : Nat) (f : Field) (n : Nat) : Prop := t.get d f = min (s.get d f + n) (2 ^ (f.hi + 1 - f.lo) - 1)

/-- A bit field is set, and no register but its own differs. -/
def SetOnly (s t : State) (d : Nat) (f : Field) (x : Nat) : Prop :=
  RegsOnly s t ∧ RegsExcept s t [(d, f.reg)] ∧ t.get d f = x ∧
    ∀ g : Field, g.reg = f.reg → g.hi < 64 → g.lo ≤ g.hi → (g.hi < f.lo ∨ f.hi < g.lo) → t.get d g = s.get d g

/-- Every Vat byte reads as before. -/
def VatSame (s t : State) : Prop := ∀ d off, t.byte d off = s.byte d off

/-- An operand stack whose depth after an operation stays within 16 entries (R304). -/
abbrev Room (rest : List W16) (pushes : Nat) : Prop := rest.length + pushes ≤ 16

/-- A request with this PASID reaches the page: the port is a HOST port that left the boot, page 0 is the owner's, and the page is enabled
(R87, R624, R633, R727). -/
abbrev PageOpen (s : State) (p t : Nat) (pasid : Option Nat) : Prop :=
  s.isHost p = true ∧ s.flag p F.PCI_STATUS_BOOT = false ∧ (t = 0 → s.flag p F.PCI_PORT_CFG_OWNER = true) ∧
    s.pasidRefused t pasid = false ∧ s.pageEnabled p t = true

/-- The host completion queue of a die takes an entry at once (R534). -/
abbrev CqRoom (s : State) (d : Nat) : Prop := (s.hcqOf d).entries.length < 1024 ∧ (s.hcqOf d).waiting = []

end Sys2Proof.Machine
end

