-- ==== Sys2Proof/Certificates/Slice0/Obligations.lean ====
section
/-! DEFINITION. The statements for the provers: what the commands do, by family, and what every step keeps. -/

open Sys2Proof Sys2Proof.Machine

/-- A step takes the command at the front of the queue and executes it on the rest of the queue; with no command waiting the clocks tick
and a mirror message may leave (log entry 5). -/
def Obligations.StepTakesTheFront : Prop :=
  (∀ (s : State) (c : Instr) (r : List Instr), step { s with pending := c :: r } = exec c { s with pending := r }) ∧
    ∀ s : State, s.pending = [] → step s = .next s.idle

/-- No command touches the queue, so a step leaves the commands that waited behind the one it took. -/
def Obligations.StepKeepsTheQueue : Prop :=
  ∀ s t : State, step s = .next t → t.pending = s.pending.tail

/-- The Vat's canonical form, keys rising and no byte of 0 listed, is kept by every step (log entry 5 of the memory's form; R168). -/
def Obligations.VatFormKept : Prop :=
  ∀ s t : State, Memory.wf s.mem = true → step s = .next t → Memory.wf t.mem = true

/-- The Vat after reset has the canonical form, and every byte of it reads 0: every record reads as never written (R168). -/
def Obligations.VatAtReset : Prop :=
  Memory.wf State.reset.mem = true ∧ ∀ d off : Nat, State.reset.byte d off = 0

/-- After reset: no command waits, eight dies numbered in order, power domains ON in the ACTIVE state, no image, an unknown bound, engines
off with the event cause 0xFF, empty stacks, a free-running time base at 0, every lace engine and serial port idle, every vector
masked (R50, R85, R91, R547, R629, R758). -/
def Obligations.ResetState : Prop :=
  let s := State.reset
  s.pending = [] ∧ s.dieCount = 8 ∧ s.powered = true ∧ s.har.current = none ∧ s.get 0 F.HAR_STATUS_STATE = 0 ∧
    s.get 0 F.ARC_LAT_BOUND_BOUND_NS = 0xFFFF ∧ s.flag 0 F.ARC_LAT_BOUND_VALID = false ∧ s.get 0 F.PWR_STATUS_STATE = 0 ∧
    ∀ d : Die, s.get d F.ARC_CONFIG_DIE_ID = d ∧ s.now d = 0 ∧ s.mono d = 0 ∧
      (∀ e : Engine, (s.eng d e).st = .off ∧ (s.eng d e).evCause = 0xFF ∧ (s.eng d e).ds = [] ∧ (s.eng d e).rs = [] ∧
        (s.eng d e).group = []) ∧
      (∀ e : Unit16, lceState s d e = 0 ∧ s.lce d e = LaceEng.reset) ∧ s.ser d 0 = SerPort.reset ∧
      (∀ v : Fin 2048, s.msixWord d (4 * v + 3) = 1) ∧ s.outQueue d 0 = [] ∧ s.hcqOf d = default

/-- The SECDED code: a word with no error reads clean, every single-bit error is corrected, and every double-bit error is detected
(R161, R889). -/
def Obligations.SecdedCode : Prop :=
  (eccDecode 0).1 = .clean ∧ (∀ i : Fin 72, (eccDecode (2 ^ i.val)).1 = .corrected ∧ (eccDecode (2 ^ i.val)).2.2 = 0) ∧
    ∀ i j : Fin 72, i < j → (eccDecode (2 ^ i.val + 2 ^ j.val)).1 = .uncorrectable

/-- A literal (R306). -/
def Obligations.AwlLiteralWord : Prop :=
  ∀ (s : State) (d : Die) (e : Engine) (c : Fin 8) (op : BitVec 11), Ready s d e c ∧ Room (s.eng d e).ds 1 →
    -1024 ≤ (op.signExtend 16).toInt ∧ (op.signExtend 16).toInt ≤ 1023 ∧ (op.signExtend 16).toInt = op.toInt ∧
    Answers (.awlLit d e c op) s (fun t => (t.eng d e).ds = op.signExtend 16 :: (s.eng d e).ds ∧ (t.eng d e).fl = (s.eng d e).fl)

/-- `litx n` (R307). -/
def Obligations.AwlLitxWord : Prop :=
  ∀ (s : State) (d : Die) (e : Engine) (c : Fin 8) (n : Fin 16) (x : W16) (rest : List W16),
    Ready s d e c ∧ (s.eng d e).ds = x :: rest ∧ Room rest 1 → Answers (.awlLitx d e c n) s (fun t =>
      (t.eng d e).ds = BitVec.ofNat 16 (x.toNat * 16 + n) :: rest)

/-- The field extracted by `bfx` and the flags it sets (R329, the logic kind of R301). -/
def Obligations.AwlFieldExtract : Prop :=
  ∀ (s : State) (d : Die) (e : Engine) (c : Fin 8) (p w : Fin 16) (x : W16) (rest : List W16),
    Ready s d e c ∧ (s.eng d e).ds = x :: rest ∧ Room rest 1 → Answers (.awlBfx d e c p w) s (fun t =>
      let r := (x >>> p.val) &&& (BitVec.ofNat 16 (2 ^ (w.val + 1) - 1))
      (t.eng d e).ds = r :: rest ∧
      (t.eng d e).fl = { (s.eng d e).fl with z := r == 0, n := r.msb, v := false })

/-- `mrx` with a word waiting and with none (R313). -/
def Obligations.AwlMailboxRead : Prop :=
  ∀ (s : State) (d : Die) (e : Engine) (c : Fin 8), Ready s d e c ∧ Room (s.eng d e).ds 1 →
    let g := s.eng d e
    (∀ w r, g.mbxIn = w :: r → Answers (.awlMrx d e c) s (fun t => (t.eng d e).ds = w :: g.ds ∧ (t.eng d e).fl.t = true ∧
      (t.eng d e).mbxIn = r)) ∧
    (g.mbxIn = [] → Answers (.awlMrx d e c) s (fun t => (t.eng d e).ds = 0 :: g.ds ∧ (t.eng d e).fl.t = false ∧
      (t.eng d e).rxUnder = g.rxUnder ∧ (t.eng d e).mbxIn = []))

/-- A 65th commit of a group is not issued: `commit` takes COMMIT_OVF, which is fatal and resets the engine (R337, R202, R289). -/
def Obligations.AwlCommitOverflow : Prop :=
  ∀ (s : State) (d : Die) (e : Engine) (c : Fin 8) (n : Fin 64), Ready s d e c ∧ (s.eng d e).ds.length ≤ 16 ∧
    (s.eng d e).inTrap = false ∧ (s.eng d e).group.length = 64 → Answers (.awlCommit d e c n) s (fun t =>
      (t.eng d e).lastCause = 0x80 ∧ (t.eng d e).st = .reset ∧ (t.eng d e).group = [] ∧ t.commitQ = s.commitQ ∧ t.skv = s.skv)

/-- A write to a full input FIFO, a read of an empty output FIFO, and a read of an IRIG decoder's FIFO (R605). -/
def Obligations.LaceFifoLimits : Prop :=
  ∀ (s : State) (d : Die) (e : Unit16), Live s d →
    let x := s.lce d e
    (∀ w : Nat, 8 ≤ x.inF.length → Answers (.lceInFifo d e w) s (fun t => t.lce d e = x ∧
      t.flag d (F.LCE_FIFO_STAT_IN_OVF e) = true ∧ t.getBit d F.LCE_EVENT_IN_OVF e = true ∧ t.resp = s.resp)) ∧
    (x.outF = [] ∧ s.isIrig d e = false → Answers (.lceOutFifo d e) s (fun t => t.resp = ⟨[0], true⟩ ∧
      t.flag d (F.LCE_FIFO_STAT_OUT_EMPTY_READ e) = true)) ∧
    (s.isIrig d e = true → Answers (.lceOutFifo d e) s (fun t => (∃ w, w < 65536 ∧ t.resp = ⟨[w], true⟩) ∧ t.lce d e = x))

/-- STALE as the bank read port sets it in the quality byte of each record of a read (R211). -/
def Obligations.StaleAtRead : Prop :=
  ∀ (s : State) (d slot source lead : Nat), slot < 0x20000 →
    let deadline := leNat ((s.eccBytes d (recOff slot) 32).drop 16 |>.take 8)
    ((s.portRead d (recOff slot) 32 source lead).1.getD 28 0).getLsbD 1 =
      (decide (deadline ≠ 0xFFFFFFFFFFFFFFFF) && decide (deadline ≤ s.now d + lead))

/-- Refused accesses of the Vat: no byte changes, no data returns, the violation is counted, logged unless a capture is held, and signalled
(R153, R154, R156). -/
def Obligations.VatRefusal : Prop :=
  ∀ (s : State) (m : Nat) (d t : Die) (off n : Nat) (write : Bool) (l : Nat) (prot : Bool), s.firstRefused d m t off n write = some (l, prot) →
    let u := (s.vatAllowed d m t off n write).2
    (s.vatAllowed d m t off n write).1 = false ∧ u.mem = s.mem ∧ Counted s u d F.VAT_VIOL_CNT_COUNT 1 ∧
      u.flag d F.VAT_EVENT_VIOL = true ∧
      (s.flag d F.VAT_VIOL_LOG_VALID = true → u.rd d R.VAT_VIOL_LOG = s.rd d R.VAT_VIOL_LOG) ∧
      (s.flag d F.VAT_VIOL_LOG_VALID = false ∧ m < 64 ∧ l < 2 ^ 18 → u.get d F.VAT_VIOL_LOG_MASTER = m ∧ u.get d F.VAT_VIOL_LOG_TARGET = t ∧
        u.get d F.VAT_VIOL_LOG_LINE = l ∧ u.flag d F.VAT_VIOL_LOG_WRITE = write ∧ u.flag d F.VAT_VIOL_LOG_PROTECTED = prot)

/-- The stack operations move the entries that R305's table gives, change no flag and go on at the next word (R305, R306). -/
def Obligations.AwlStackOperations : Prop :=
  ∀ (s : State) (d : Die) (e : Engine) (c : Fin 8) (rest : List W16) (a b x y z : W16), Ready s d e c →
    let g := s.eng d e
    let goes := fun (i : Instr) (ds rs : List W16) =>
      Answers i s (fun t => EngineOnly s t d e { g.mulTick with ds := ds, rs := rs, pc := g.pcNext })
    (g.ds = rest ∧ Room rest 0 → goes (.awlNop d e c) rest g.rs) ∧
    (g.ds = x :: rest ∧ Room rest 0 → goes (.awlDrop d e c) rest g.rs) ∧
    (g.ds = x :: rest ∧ Room rest 2 → goes (.awlDup d e c) (x :: x :: rest) g.rs) ∧
    (g.ds = b :: a :: rest ∧ Room rest 2 → goes (.awlSwap d e c) (a :: b :: rest) g.rs) ∧
    (g.ds = b :: a :: rest ∧ Room rest 3 → goes (.awlOver d e c) (a :: b :: a :: rest) g.rs) ∧
    (g.ds = z :: y :: x :: rest ∧ Room rest 3 → goes (.awlRot d e c) (x :: z :: y :: rest) g.rs) ∧
    (g.ds = b :: a :: rest ∧ Room rest 1 → goes (.awlNip d e c) (b :: rest) g.rs) ∧
    (g.ds = b :: a :: rest ∧ Room rest 3 → goes (.awlTuck d e c) (b :: a :: b :: rest) g.rs) ∧
    (g.ds = y :: x :: rest ∧ Room rest 0 → goes (.awlDrop2 d e c) rest g.rs) ∧
    (g.ds = y :: x :: rest ∧ Room rest 4 → goes (.awlDup2 d e c) (y :: x :: y :: x :: rest) g.rs) ∧
    (g.ds = z :: y :: b :: a :: rest ∧ Room rest 6 → goes (.awlOver2 d e c) (b :: a :: z :: y :: b :: a :: rest) g.rs) ∧
    (g.ds = z :: y :: b :: a :: rest ∧ Room rest 4 → goes (.awlSwap2 d e c) (b :: a :: z :: y :: rest) g.rs) ∧
    (g.ds = x :: rest ∧ Room rest 0 ∧ g.rs.length < 16 → goes (.awlTor d e c) rest (x :: g.rs)) ∧
    (∀ rr, g.ds = rest ∧ Room rest 1 ∧ g.rs = x :: rr → goes (.awlFromr d e c) (x :: rest) rr) ∧
    (∀ rr, g.ds = rest ∧ Room rest 1 ∧ g.rs = x :: rr → goes (.awlRfetch d e c) (x :: rest) g.rs) ∧
    (∀ n : Fin 16, g.ds = rest ∧ Room rest 1 ∧ rest[n.val]? = some x → goes (.awlPick d e c n) (x :: rest) g.rs)

/-- Arithmetic and logic: the result of R308's table and the flags of its kind; adc and sbc take the carry, sub borrows through C
(R301, R308, R310). -/
def Obligations.AwlArithmetic : Prop :=
  ∀ (s : State) (d : Die) (e : Engine) (c : Fin 8) (rest : List W16) (a b ah bh : W16), Ready s d e c → (s.eng d e).ds.length ≤ 16 →
    let g := s.eng d e
    let goes := fun (i : Instr) (ds : List W16) (fl : Flags) =>
      Answers i s (fun t => EngineOnly s t d e { g.mulTick with ds := ds, fl := fl, pc := g.pcNext })
    let added := fun (x y k : Nat) (r : W16) => (⟨r == 0, r.msb, decide (65536 ≤ x + y + k),
      (x.testBit 15 == y.testBit 15 && x.testBit 15 != r.msb), g.fl.t⟩ : Flags)
    let logic := fun (r : W16) => (⟨r == 0, r.msb, g.fl.c, false, g.fl.t⟩ : Flags)
    let n := fun (x : W16) => 65535 - x.toNat
    let k := g.fl.c.toNat
    let wide := fun (x y k r : Nat) => (⟨r == 0, r.testBit 31, decide (2 ^ 32 ≤ x + y + k),
      (x.testBit 31 == y.testBit 31 && x.testBit 31 != r.testBit 31), g.fl.t⟩ : Flags)
    let A := a.toNat + 65536 * ah.toNat
    let B := b.toNat + 65536 * bh.toNat
    let S := (A + B) % 2 ^ 32
    let D := (A + 2 ^ 32 - B) % 2 ^ 32
    (g.ds = b :: a :: rest →
      goes (.awlAdd d e c) ((a + b) :: rest) (added a.toNat b.toNat 0 (a + b)) ∧
      goes (.awlAdc d e c) ((a + b + BitVec.ofNat 16 k) :: rest) (added a.toNat b.toNat k (a + b + BitVec.ofNat 16 k)) ∧
      goes (.awlSub d e c) ((a - b) :: rest) (added a.toNat (n b) 1 (a - b)) ∧
      goes (.awlSbc d e c) ((a - b - BitVec.ofNat 16 (1 - k)) :: rest) (added a.toNat (n b) k (a - b - BitVec.ofNat 16 (1 - k))) ∧
      goes (.awlAnd d e c) ((a &&& b) :: rest) (logic (a &&& b)) ∧
      goes (.awlOr d e c) ((a ||| b) :: rest) (logic (a ||| b)) ∧
      goes (.awlXor d e c) ((a ^^^ b) :: rest) (logic (a ^^^ b)) ∧
      goes (.awlCmp d e c) rest (added a.toNat (n b) 1 (a - b))) ∧
    (g.ds = a :: rest →
      goes (.awlNot d e c) (~~~ a :: rest) (logic (~~~ a)) ∧
      goes (.awlNeg d e c) (- a :: rest) (added 0 (n a) 1 (- a)) ∧
      goes (.awlInc d e c) ((a + 1) :: rest) (added a.toNat 1 0 (a + 1)) ∧
      goes (.awlDec d e c) ((a - 1) :: rest) (added a.toNat (n 1) 1 (a - 1))) ∧
    (g.ds = bh :: b :: ah :: a :: rest →
      goes (.awlAdd2 d e c) (BitVec.ofNat 16 (S / 65536) :: BitVec.ofNat 16 S :: rest) (wide A B 0 S) ∧
      goes (.awlSub2 d e c) (BitVec.ofNat 16 (D / 65536) :: BitVec.ofNat 16 D :: rest) (wide A (2 ^ 32 - 1 - B) 1 D) ∧
      goes (.awlCmp2 d e c) rest (wide A (2 ^ 32 - 1 - B) 1 D))

/-- Literals, byte operations, shifts and bit fields: a shift by a count gives the shifted word, with C the bit that the last step
moved out and unchanged for a count of 0; N and Z follow the result and V is 0 (R306, R307, R309, R329, R330). -/
def Obligations.AwlShiftsAndFields : Prop :=
  ∀ (s : State) (d : Die) (e : Engine) (c : Fin 8) (rest : List W16) (x v : W16), Ready s d e c → (s.eng d e).ds.length ≤ 16 →
    let g := s.eng d e
    let goes := fun (i : Instr) (r : W16) (fl : Flags) =>
      Answers i s (fun t => EngineOnly s t d e { g.mulTick with ds := r :: rest, fl := fl, pc := g.pcNext })
    let flags := fun (r : W16) (cy : Bool) => (⟨r == 0, r.msb, cy, false, g.fl.t⟩ : Flags)
    let shl := fun (n : Nat) => flags (x <<< n) (if n = 0 then g.fl.c else decide (n ≤ 16) && x.getLsbD (16 - n))
    let shr := fun (n : Nat) => flags (x >>> n) (if n = 0 then g.fl.c else x.getLsbD (n - 1))
    let sar := fun (n : Nat) => flags (x.sshiftRight n) (if n = 0 then g.fl.c else (x.sshiftRight (n - 1)).getLsbD 0)
    let rol := fun (n : Nat) => flags (x.rotateLeft n) (if n = 0 then g.fl.c else (x.rotateLeft n).getLsbD 0)
    (∀ l : BitVec 11, g.ds = rest ∧ Room rest 1 → goes (.awlLit d e c l) (l.signExtend 16) g.fl) ∧
    (g.ds = x :: rest →
      (∀ n : Fin 16, goes (.awlLitx d e c n) (x <<< 4 ||| BitVec.ofNat 16 n) g.fl) ∧
      goes (.awlSwab d e c) (x.extractLsb 7 0 ++ x.extractLsb 15 8) (flags (x.extractLsb 7 0 ++ x.extractLsb 15 8) g.fl.c) ∧
      goes (.awlSext8 d e c) ((x.setWidth 8).signExtend 16) (flags ((x.setWidth 8).signExtend 16) g.fl.c) ∧
      goes (.awlZext8 d e c) ((x.setWidth 8).setWidth 16) (flags ((x.setWidth 8).setWidth 16) g.fl.c) ∧
      (∀ k : Fin 16, goes (.awlShl d e c k) (x <<< (k.val + 1)) (shl (k + 1)) ∧
        goes (.awlShr d e c k) (x >>> (k.val + 1)) (shr (k + 1)) ∧
        goes (.awlSar d e c k) (x.sshiftRight (k + 1)) (sar (k + 1)) ∧
        goes (.awlRol d e c k) (x.rotateLeft (k + 1)) (rol (k + 1))) ∧
      (∀ p w : Fin 16, goes (.awlBfx d e c p w) (BitVec.ofNat 16 (x.toNat / 2 ^ p.val % 2 ^ (w.val + 1)))
        (flags (BitVec.ofNat 16 (x.toNat / 2 ^ p.val % 2 ^ (w.val + 1))) g.fl.c))) ∧
    (g.ds = v :: x :: rest →
      goes (.awlShlv d e c) (x <<< (v.toNat % 32)) (shl (v.toNat % 32)) ∧
      goes (.awlShrv d e c) (x >>> (v.toNat % 32)) (shr (v.toNat % 32)) ∧
      goes (.awlSarv d e c) (x.sshiftRight (v.toNat % 32)) (sar (v.toNat % 32)) ∧
      goes (.awlRolv d e c) (x.rotateLeft (v.toNat % 32)) (rol (v.toNat % 32)) ∧
      (∀ p w : Fin 16, ∃ r : W16, (∀ i : Fin 16, r.getLsbD i =
          if p.val ≤ i.val ∧ i.val ≤ p.val + w.val then v.getLsbD (i - p) else x.getLsbD i) ∧
        goes (.awlBfi d e c p w) r (flags r (decide (2 ^ min (w.val + 1) (16 - p.val) ≤ v.toNat)))))

/-- The multiplier: the operands are popped, the accumulator takes the product, the sum or 0 modulo 2^40, and MH, ML and MX show
it from the third instruction after this one (R346 to R348). -/
def Obligations.AwlMultiplier : Prop :=
  ∀ (s : State) (d : Die) (e : Engine) (c : Fin 8) (rest : List W16) (a b : W16), Ready s d e c → (s.eng d e).ds.length ≤ 16 →
    let g := s.eng d e
    let goes := fun (i : Instr) (v : Nat) => Answers i s (fun t => EngineOnly s t d e
      { ({ g with acc := v, accQ := g.accQ ++ [(3, v)] } : Eng).mulTick with ds := rest, pc := g.pcNext } ∧
      (t.eng d e).accQ.getLast? = some (2, v))
    (g.ds = b :: a :: rest →
      goes (.awlMul d e c) (a.toNat * b.toNat) ∧
      goes (.awlMuls d e c) ((a.toInt * b.toInt).emod (2 ^ 40)).toNat ∧
      goes (.awlMacc d e c) ((g.acc + a.toNat * b.toNat) % 2 ^ 40) ∧
      goes (.awlMaccs d e c) ((g.acc + (a.toInt * b.toInt)).emod (2 ^ 40)).toNat) ∧
    (g.ds = rest → goes (.awlMclr d e c) 0)

/-- The test operations set T to the outcome and Z to its inverse, and leave N, C and V (R302, R308). -/
def Obligations.AwlTests : Prop :=
  ∀ (s : State) (d : Die) (e : Engine) (c : Fin 8) (rest : List W16) (x lo hi a b ah bh : W16), Ready s d e c → (s.eng d e).ds.length ≤ 16 →
    let g := s.eng d e
    let goes := fun (i : Instr) (ds : List W16) (r : Bool) => Answers i s (fun t => EngineOnly s t d e
      { g.mulTick with ds := ds, fl := ⟨!r, g.fl.n, g.fl.c, g.fl.v, r⟩, pc := g.pcNext })
    (g.ds = x :: rest → (∀ k : Fin 16, goes (.awlBtst d e c k) g.ds (x.getLsbD k)) ∧ goes (.awlTz d e c) g.ds (x == 0)) ∧
    (g.ds = b :: a :: rest →
      goes (.awlTeq d e c) rest (a == b) ∧ goes (.awlTne d e c) rest (a != b) ∧
      goes (.awlTltu d e c) rest (decide (a.toNat < b.toNat)) ∧ goes (.awlTlts d e c) rest (decide (a.toInt < b.toInt)) ∧
      goes (.awlTgeu d e c) rest (decide (b.toNat ≤ a.toNat)) ∧ goes (.awlTges d e c) rest (decide (b.toInt ≤ a.toInt))) ∧
    (g.ds = bh :: b :: ah :: a :: rest →
      goes (.awlTeq2 d e c) rest (a == b && ah == bh) ∧
      goes (.awlTltu2 d e c) rest (decide (a.toNat + 65536 * ah.toNat < b.toNat + 65536 * bh.toNat))) ∧
    (g.ds = hi :: lo :: x :: rest → goes (.awlTin d e c) rest (decide (lo.toNat ≤ x.toNat ∧ x.toNat ≤ hi.toNat))) ∧
    (g.ds = rest → goes (.awlTt d e c) rest g.fl.t ∧ goes (.awlTset d e c) rest true ∧ goes (.awlTclr d e c) rest false)

/-- Transfers: a branch, call, return or jump goes to the address that R308, R314 and R315 give; `rett` restores FLAGS and clears
IN_TRAP, and with IN_TRAP 0 takes ILLEGAL; `trap` takes SOFTWARE and an undefined word ILLEGAL, each with its trap frame (R284, R286,
R287, R299, R305, R308, R311, R312, R314, R315). -/
def Obligations.AwlTransfersAndTraps : Prop :=
  ∀ (s : State) (d : Die) (e : Engine) (c : Fin 8) (rest rr : List W16) (x : W16) (off : BitVec 11),
    Ready s d e c → (s.eng d e).ds.length ≤ 16 →
    let g := s.eng d e
    let goes := fun (i : Instr) (ds rs : List W16) (pc : Nat) =>
      Answers i s (fun t => EngineOnly s t d e { g.mulTick with ds := ds, rs := rs, pc := pc })
    let target := ((g.pc + 1 : Int) + off.toInt).emod 16384 |>.toNat
    let back := BitVec.ofNat 16 ((g.pc + 1) % 16384)
    let traps := fun (i : Instr) (cause : Nat) => g.inTrap = false → Answers i s (fun t =>
      (t.eng d e).cause = cause ∧ (t.eng d e).sub = 0 ∧ (t.eng d e).imprecise = false ∧ (t.eng d e).inTrap = true ∧
      (t.eng d e).trapPc = g.pc ∧ (t.eng d e).trapFlags = g.flagsWord ∧ (t.eng d e).pc = 1 ∧ (t.eng d e).st = .trap ∧
      (t.eng d e).ds = g.ds ∧ (t.eng d e).rs = g.rs ∧ (t.eng d e).fl = g.fl ∧ (t.eng d e).sb = g.sb ∧ (t.eng d e).group = g.group ∧
      t.mem = s.mem ∧ t.spad = s.spad)
    (g.rs = x :: rr → goes (.awlRet d e c) g.ds rr (x.toNat % 16384)) ∧
    (g.ds = x :: rest ∧ g.rs.length < 16 → goes (.awlCalls d e c) rest (back :: g.rs) (x.toNat % 16384)) ∧
    (g.ds = x :: rest → goes (.awlJmps d e c) rest g.rs (x.toNat % 16384)) ∧
    (∀ b : Fin 7, condHolds ⟨b.val, by omega⟩ g.fl = true → goes (.awlBr d e b off) g.ds g.rs target) ∧
    (g.rs.length < 16 → goes (.awlCall d e off) g.ds (back :: g.rs) target) ∧
    (g.inTrap = true → Answers (.awlRett d e c) s (fun t => EngineOnly s t d e { g.mulTick with
      fl := ⟨g.trapFlags.testBit 0, g.trapFlags.testBit 1, g.trapFlags.testBit 2, g.trapFlags.testBit 3, g.trapFlags.testBit 4⟩,
      inTrap := false, st := .run, pc := g.trapPc % 16384 })) ∧
    traps (.awlRett d e c) 6 ∧ traps (.awlTrap d e c) 10 ∧ traps (.illegalWord d e) 6 ∧
    (g.sb = [] → goes (.awlSync d e c) g.ds g.rs g.pcNext) ∧
    (∀ (a : Fin 32768) (b0 b1 : Byte) (w : Nat) (p : Option Nat), a.val % 2 = 0 →
      g.sb = [.store ⟨.shared, a.val, [b0, b1], w, p⟩] → Answers (.awlSync d e c) s (fun t =>
        (t.eng d e).sb = [] ∧ (t.eng d e).pc = g.pcNext ∧ t.spadGet d (e / 8) (sharedWord (a / 2)) = b1 ++ b0 ∧ t.mem = s.mem))

/-- An instruction whose condition is false takes its slot and changes nothing else; a failed stack check takes DS_UNDER, DS_OVER,
RS_UNDER or RS_OVER in that order as a precise trap (R284, R298, R304). -/
def Obligations.AwlConditionsAndStackChecks : Prop :=
  ∀ (s : State) (d : Die) (e : Engine) (c : Fin 8), Runs s d e →
    let g := s.eng d e
    (condHolds c g.fl = false → ∀ i : Instr,
      (i ∈ [Instr.awlAdd d e c, .awlDup d e c, .awlDrop d e c, .awlMul d e c, .awlTz d e c, .awlRet d e c, .awlCalls d e c, .awlWait d e c,
        .awlRett d e c, .awlTrap d e c, .awlSync d e c, .awlMrx d e c, .awlMtx d e c, .awlLdz d e c 0, .awlStz d e c 0, .awlLd d e c 0,
        .awlSt d e c 0, .awlLd2 d e c 0, .awlSt2 d e c 0, .awlLds d e c 0, .awlSts d e c 0, .awlCommit d e c 0, .awlRdrec d e c 0]) →
      Answers i s (fun t => EngineOnly s t d e { g.mulTick with pc := g.pcNext })) ∧
    (condHolds c g.fl = true ∧ g.inTrap = false →
      let traps := fun (i : Instr) (cause : Nat) => Answers i s (fun t => (t.eng d e).cause = cause ∧ (t.eng d e).trapPc = g.pc ∧
        (t.eng d e).ds = g.ds ∧ (t.eng d e).rs = g.rs ∧ (t.eng d e).fl = g.fl ∧ (t.eng d e).pc = 1 ∧ t.mem = s.mem)
      (g.ds.length < 2 → traps (.awlAdd d e c) 2) ∧ (g.ds = [] → traps (.awlDup d e c) 2) ∧
      (g.ds.length = 16 → traps (.awlDup d e c) 1 ∧ traps (.awlLit d e c 0) 1) ∧
      (g.ds.length ≤ 16 ∧ g.rs = [] → traps (.awlRet d e c) 4) ∧
      (g.ds ≠ [] ∧ g.ds.length ≤ 16 ∧ g.rs.length = 16 → traps (.awlTor d e c) 3 ∧ traps (.awlCalls d e c) 3))

/-- Loads, stores, rotated accesses, mailbox words, CRC steps, commits and record reads of an engine: the word read from or written to
the private or shared words, the special register, the frame window or the Vat, the CRC of R331, the commit of a block, and the operand
stack after it (R251, R256, R267, R313, R316 to R327, R331 to R334, R338). -/
def Obligations.AwlMemoryOperations : Prop :=
  ∀ (s : State) (d : Die) (e : Engine) (c : Fin 8) (rest : List W16) (a x y : W16), Ready s d e c → (s.eng d e).ds.length ≤ 16 →
    s.spadErr = [] ∧ s.errs = [] ∧ (s.eng d e).sb = [] →
    let g := s.eng d e
    let k : Nat := e.val / 8
    let goes := fun (i : Instr) (ds : List W16) => Answers i s (fun t => EngineOnly s t d e { g.mulTick with ds := ds, pc := g.pcNext })
    let stores := fun (i : Instr) (q : State → Prop) => Answers i s (fun t =>
      (t.eng d e).ds = rest ∧ (t.eng d e).pc = g.pcNext ∧ (t.eng d e).fl = g.fl ∧ t.mem = s.mem ∧ q t)
    let priv := fun (t : State) (w : Nat) => t.spadGet d k (privWord (e.val % 8) w)
    let entered := fun (tgt : SbTarget) (addr : Nat) (bs : List Byte) (w : Nat) (p : Option Nat) (t : State) =>
      (t.eng d e).sb = [.store ⟨tgt, addr, bs, w, p⟩] ∧ t.spad = s.spad
    (∀ o : Fin 64, g.ds = a :: rest ∧ a.toNat + o < 0x2000 → goes (.awlLd d e c o) (priv s (a.toNat + o) :: rest)) ∧
    (∀ o : Fin 64, g.ds = a :: rest ∧ 0x2000 ≤ a.toNat + o ∧ a.toNat + o < 0x6000 →
      goes (.awlLd d e c o) (s.spadGet d k (sharedWord (a.toNat + o - 0x2000)) :: rest)) ∧
    (∀ o : Fin 64, g.ds = a :: rest ∧ a.toNat + o + 1 < 0x2000 ∧ Room rest 2 →
      goes (.awlLd2 d e c o) (priv s (a.toNat + o + 1) :: priv s (a.toNat + o) :: rest)) ∧
    (∀ o : Fin 64, g.ds = a :: x :: rest ∧ a.toNat + o < 0x2000 →
      stores (.awlSt d e c o) (fun t => priv t (a.toNat + o) = x ∧ (t.eng d e).sb = [])) ∧
    (∀ o : Fin 64, g.ds = a :: x :: rest ∧ 0x2000 ≤ a.toNat + o ∧ a.toNat + o < 0x6000 ∧ g.pend = none → stores (.awlSt d e c o)
      (entered .shared (2 * (a.toNat + o - 0x2000)) [x.setWidth 8, (x >>> 8).setWidth 8] (a.toNat + o) none)) ∧
    (∀ o : Fin 64, g.ds = a :: y :: x :: rest ∧ a.toNat + o + 1 < 0x2000 →
      stores (.awlSt2 d e c o) (fun t => priv t (a.toNat + o) = x ∧ priv t (a.toNat + o + 1) = y ∧ (t.eng d e).sb = [])) ∧
    (∀ n : Fin 64, g.ds = rest ∧ Room rest 1 → goes (.awlLdz d e c n) (priv s n :: rest)) ∧
    (∀ n : Fin 64, g.ds = x :: rest → stores (.awlStz d e c n) (fun t => priv t n = x ∧ (t.eng d e).sb = [])) ∧
    (g.ds = rest ∧ Room rest 1 → goes (.awlLds d e c 0x08) (BitVec.ofNat 16 g.vwPage :: rest) ∧
      goes (.awlLds d e c 0x10) (BitVec.ofNat 16 g.evMask :: rest) ∧ goes (.awlLds d e c 0x00) (BitVec.ofNat 16 (e + 64 * d) :: rest)) ∧
    (g.ds = x :: rest → stores (.awlSts d e c 0x10) (fun t => (t.eng d e).evMask = x.toNat % 4096) ∧
      stores (.awlSts d e c 0x08) (fun t => (t.eng d e).vwPage = x.toNat % 8192)) ∧
    (∀ (f : Fin 64) (i : Nat) (b0 : Byte), f.val % 4 = 0 ∧ g.ds = a :: rest ∧ g.sel = false ∧ g.rx = some i ∧
      (a.toNat + f / 8) % 16384 < 256 ∧ (s.slot d k i).bytes[(a.toNat + f / 8) % 16384]? = some b0 →
      goes (.awlFld d e c f) (b0.setWidth 16 :: rest)) ∧
    (∀ (f : Fin 64) (n : Nat), f.val % 4 = 0 ∧ g.ds = a :: x :: rest ∧ g.sel = true ∧ g.tx = some n ∧ g.pend = none ∧
      (a.toNat + f / 8) % 16384 < (s.frame n).len ∧ (a.toNat + f / 8) % 16384 < 0x3F00 → stores (.awlFst d e c f)
        (entered (.frame n) ((a.toNat + f / 8) % 16384) [x.setWidth 8] (0x6000 + (a.toNat + f / 8) % 16384 / 2) none)) ∧
    (∀ f : Fin 64, let o := g.pageOff ((a.toNat + f / 8) % 32768)
      f.val % 4 = 0 ∧ g.ds = a :: rest ∧ g.pageCtl = false ∧ g.pageDie < s.dieCount ∧ 0x400000 ≤ o ∧
      s.firstRefused d k g.pageDie o 1 false = none → goes (.awlVld d e c f) ((s.byte g.pageDie o).setWidth 16 :: rest)) ∧
    (∀ f : Fin 64, let b := (a.toNat + f / 8) % 32768
      f.val % 4 = 0 ∧ g.ds = a :: x :: rest ∧ g.pageCtl = false ∧ g.pageDie < s.dieCount ∧
      s.firstRefused d k g.pageDie (g.pageOff b) 1 true = none ∧ g.pend = none → stores (.awlVst d e c f)
        (entered (.vat g.pageDie) (g.pageOff b) [x.setWidth 8] (0x8000 + b / 2) (some g.vwPage))) ∧
    (∀ f : Fin 64, f.val < 32 ∧ f.val % 8 ≠ 4 ∧ f.val % 8 ≠ 7 ∧ g.ds = x :: a :: rest → goes (.awlCrc d e c f)
      (BitVec.ofNat 16 (crcWord (f % 8) (f.val.testBit 3) (f.val.testBit 4) a.toNat x.toNat) :: rest)) ∧
    (∀ n : Fin 64, let dpi := (priv s (16 * n)).toNat + 65536 * ((priv s (16 * n + 1)).toNat % 16)
      g.ds = rest ∧ g.group.length < 64 ∧ s.dpiOk dpi = true → Answers (.awlCommit d e c n) s (fun t =>
        (t.eng d e).group.dropLast = g.group ∧ ((t.eng d e).group.getLast?.map fun m => (m.dpi, m.released, m.issuer, m.operand)) =
          some (dpi, false, engUid d e, (priv s (16 * n + 2)).toNat + 2 ^ 16 * (priv s (16 * n + 3)).toNat +
            2 ^ 32 * (priv s (16 * n + 4)).toNat + 2 ^ 48 * (priv s (16 * n + 5)).toNat) ∧
        (t.eng d e).ds = rest ∧ (t.eng d e).pc = g.pcNext ∧ t.mem = s.mem)) ∧
    (∀ n : Fin 64, let o := g.pageOff (2 * (a.toNat / 16 * 16 - 0x8000))
      g.ds = a :: rest ∧ 0x8000 ≤ a.toNat ∧ a.toNat < 0xC000 ∧ g.pageCtl = false ∧ g.pageDie < s.dieCount ∧ 0x400000 ≤ o ∧
      s.firstRefused d k g.pageDie o 32 false = none → stores (.awlRdrec d e c n) (fun t => ∀ j : Fin 16,
        priv t (16 * n + j) = s.byte g.pageDie (o + 2 * j + 1) ++ s.byte g.pageDie (o + 2 * j))) ∧
    (∀ w r, g.ds = rest ∧ Room rest 1 ∧ g.mbxIn = w :: r → Answers (.awlMrx d e c) s (fun t => (t.eng d e).ds = w :: rest ∧
      (t.eng d e).mbxIn = r ∧ (t.eng d e).fl = ⟨false, g.fl.n, g.fl.c, g.fl.v, true⟩ ∧ (t.eng d e).pc = g.pcNext)) ∧
    (g.ds = rest ∧ Room rest 1 ∧ g.mbxIn = [] → Answers (.awlMrx d e c) s (fun t => EngineOnly s t d e { g.mulTick with
      ds := 0 :: rest, fl := ⟨true, g.fl.n, g.fl.c, g.fl.v, false⟩, pc := g.pcNext })) ∧
    (g.ds = x :: rest ∧ g.mbxOut.length < 8 → Answers (.awlMtx d e c) s (fun t =>
      (t.eng d e).mbxOut = g.mbxOut ++ [x] ∧ (t.eng d e).ds = rest ∧ (t.eng d e).pc = g.pcNext ∧ t.mem = s.mem))

/-- WAIT with no open group and no frame sleeps, or resumes at the next word on its lowest enabled pulse event, whose bit it clears; an
event wakes a sleeping engine the same way; the special registers and the store buffer act as their rows say (R256, R262, R263, R271,
R344 to R346). -/
def Obligations.AwlWaitAndSpecialRegisters : Prop :=
  ∀ (s : State) (d : Die) (e : Engine) (c : Fin 8),
    let g := s.eng d e
    let idle := s.fetchErr d e = 0 ∧ condHolds c g.fl = true ∧ g.sb = [] ∧ g.pend = none ∧ g.group = [] ∧ g.rx = none ∧
      (tblGet s.commitQ [] d).length ≤ 4096 ∧ s.onOld (engUid d e) = false
    (Live s d ∧ g.runs = true ∧ idle ∧ s.pendEvents d e &&& g.evMask = 0 → Answers (.awlWait d e c) s (fun t =>
      t.eng d e = { g.mulTick with st := .wait, inTrap := false, limitHit := false, cqWait := false } ∧ t.mem = s.mem ∧ t.regs = s.regs)) ∧
    (∀ n : Fin 12, 5 ≤ n.val ∧ Live s d ∧ g.runs = true ∧ idle ∧ s.pendEvents d e &&& g.evMask = 2 ^ n.val →
      Answers (.awlWait d e c) s (fun t => t.eng d e = { g.mulTick with
        st := .run, inTrap := false, limitHit := false, cqWait := false, pc := g.pcNext, evCause := n, evPend := g.evPend - (g.evPend &&& 2 ^ n.val) } ∧ t.mem = s.mem)) ∧
    (∀ n : Fin 12, 5 ≤ n.val ∧ Live s d ∧ g.st = .wait ∧ s.onOld (engUid d e) = false ∧ s.pendEvents d e &&& g.evMask = 2 ^ n.val →
      Answers (.engineWake d e) s (fun t => EngineOnly s t d e { g with
        st := .run, limitHit := false, pc := g.pcNext, evCause := n, evPend := g.evPend - (g.evPend &&& 2 ^ n.val) })) ∧
    (Live s d ∧ g.st = .wait ∧ s.onOld (engUid d e) = false ∧ s.pendEvents d e &&& g.evMask = 0 →
      Answers (.engineWake d e) s (fun t => EngineOnly s t d e g)) ∧
    (∀ us : Word16, Live s d ∧ g.runs = true → Answers (.tmrWrite d e us) s (fun t => EngineOnly s t d e
      { g with tmr := if us = 0 then none else some (s.mono d + 1000 * us.toNat) })) ∧
    (∀ x : Nat, Live s d ∧ g.tmr = some x → Answers (.timerExpire d e) s (fun t =>
      EngineOnly s t d e { g with tmr := none, evPend := g.evPend ||| 64 })) ∧
    (Live s d ∧ g.runs = true → Answers (.nowLatch d e) s (fun t => t.eng d e = { g with nowLatch := s.now d } ∧
      t.resp = ⟨[s.now d % 65536], true⟩ ∧ t.mem = s.mem ∧ t.regs = s.regs)) ∧
    (Live s d ∧ g.runs = true → Answers (.crefused d e) s (fun t => t.eng d e = { g with refused := 0, firstReason := 0 } ∧
      t.resp = ⟨[g.refused], true⟩ ∧ t.mem = s.mem ∧ t.regs = s.regs)) ∧
    (∀ pc : Word16, Live s d ∧ g.runs = true → Answers (.trapPcWrite d e pc) s (fun t => EngineOnly s t d e
      (if g.inTrap then { g with trapPc := pc.toNat } else g))) ∧
    (∀ w x r, Live s d ∧ g.runs = true ∧ g.mbxIn = w :: x :: r → Answers (.mbxRx d e) s (fun t =>
      t.eng d e = { g with mbxIn := x :: r } ∧ t.resp = ⟨[w.toNat], true⟩ ∧ t.mem = s.mem ∧ t.regs = s.regs)) ∧
    (Live s d ∧ g.runs = true ∧ g.mbxIn = [] → Answers (.mbxRx d e) s (fun t =>
      t.eng d e = { g with rxUnder := true } ∧ t.resp = ⟨[0], true⟩ ∧ t.mem = s.mem ∧ t.regs = s.regs)) ∧
    (∀ w : Word16, Live s d ∧ g.runs = true ∧ g.sb = [] ∧ 0 < g.mbxOut.length ∧ g.mbxOut.length < 8 → Answers (.mbxTx d e w) s (fun t =>
      EngineOnly s t d e { g with mbxOut := g.mbxOut ++ [w] })) ∧
    (∀ mask : Nat, Live s d ∧ g.runs = true ∧ g.sb = [] → Answers (.signal d e mask) s (fun t => t.mem = s.mem ∧ t.regs = s.regs ∧
      ∀ k : Fin 8, (t.eng d (e.val / 8 * 8 + k)).evPend =
        (s.eng d (e.val / 8 * 8 + k)).evPend ||| (if mask.testBit k then 128 else 0))) ∧
    (∀ (a : Fin 32768) (b0 b1 : Byte) (w : Nat) (p : Option Nat) (rest : List SbItem), a.val % 2 = 0 ∧ Live s d ∧
      g.sb = .store ⟨.shared, a, [b0, b1], w, p⟩ :: rest ∧ rest.all SbItem.isStore = true → Answers (.storeDrain d e) s (fun t =>
        t.eng d e = { g with sb := rest } ∧ t.spadGet d (e / 8) (sharedWord (a / 2)) = b1 ++ b0 ∧ t.mem = s.mem ∧ t.regs = s.regs))

/-- The frame-window commands: each clears the outcome bits and acts on the bound frame, or sets CMD_ERR without one; ALLOC binds a live
transmit frame of FW_TXLEN bytes; REQUEUE gives the frame KIND 1 (R269, R270, R344, R524, R525). -/
def Obligations.AwlFrameCommands : Prop :=
  ∀ (s : State) (d : Die) (e : Engine) (q : Fin 4), Live s d ∧ (s.eng d e).runs = true →
    let g := s.eng d e
    let k : Nat := e.val / 8
    let c := { g with nocell := false, sendErr := false, cmdErr := false }
    let wrong := fun (i : Instr) => Answers i s (fun t => EngineOnly s t d e { c with cmdErr := true })
    (g.rx = none → wrong (.fwRelease d e) ∧ wrong (.fwHold d e) ∧
      Answers (.fwRequeue d e q) s (fun t => EngineOnly s t d e { c with cmdErr := true, qsel := q })) ∧
    (g.tx = none → wrong (.fwSend d e) ∧ wrong (.fwDiscard d e)) ∧
    (g.tx.isSome ∨ g.txLen = 0 ∨ 9216 < g.txLen → wrong (.fwAlloc d e)) ∧
    (∀ i : Nat, g.rx = some i → Answers (.fwHold d e) s (fun t => EngineOnly s t d e { c with held := true })) ∧
    (∀ i : Nat, g.rx = some i → Answers (.fwRelease d e) s (fun t =>
      t.eng d e = { c with rx := none, held := false } ∧ t.slot d k i = HeadSlot.free ∧ t.mem = s.mem)) ∧
    (∀ i : Nat, g.rx = some i ∧ s.outputCheck d (17 + 4 * k + q) ((s.frame (s.slot d k i).frame).cells.length) = none ∧
      (s.frame (s.slot d k i).frame).outs = [] → Answers (.fwRequeue d e q) s (fun t =>
        t.eng d e = { c with rx := none, held := false, qsel := q } ∧ t.slot d k i = HeadSlot.free ∧
        (t.frame (s.slot d k i).frame).kind = 1 ∧ (t.voqOf d).getLast?.map (·.frame) = some (s.slot d k i).frame ∧ t.mem = s.mem)) ∧
    (∀ f : Nat, g.tx = none ∧ 0 < g.txLen ∧ g.txLen ≤ 9216 ∧ s.freeDesc d = some f ∧
      s.tenantCheck d (s.allocTenant d k) (cellsOf g.txLen) true = none → Answers (.fwAlloc d e) s (fun t =>
        t.eng d e = { c with tx := some f } ∧ (t.frame f).live = true ∧ (t.frame f).len = g.txLen ∧ (t.frame f).kind = 4 ∧
        (t.frame f).tid = s.allocTenant d k ∧ (t.frame f).cells = s.freeCells d (cellsOf g.txLen))) ∧
    (g.tx = none ∧ 0 < g.txLen ∧ g.txLen ≤ 9216 ∧ s.freeDesc d = none → Answers (.fwAlloc d e) s (fun t =>
      EngineOnly s t d e { c with nocell := true })) ∧
    (∀ f : Nat, let x := s.frame f
      g.tx = some f ∧ s.clusterTenant d k x.tid = true ∧ s.egressGrant x.tid x.die x.port x.queue = true → Answers (.fwSend d e) s (fun t =>
        (t.eng d e).tx = none ∧ (t.eng d e).sendErr = false ∧
        (g.sb ≠ [] ∧ g.sb.all SbItem.isStore = true → (t.eng d e).sb = g.sb ++ [.send f] ∧ (t.frame f).origin = engUid d e))) ∧
    (∀ f : Nat, let x := s.frame f
      g.tx = some f ∧ s.clusterTenant d k x.tid = false → Answers (.fwSend d e) s (fun t =>
        EngineOnly s t d e { c with sendErr := true })) ∧
    (∀ f : Nat, g.tx = some f → Answers (.fwDiscard d e) s (fun t => (t.eng d e).tx = none ∧ (t.eng d e).cmdErr = false ∧
      t.frame f = default ∧ t.mem = s.mem))

/-- Imprecise failures, run limits, fetch errors, resets and instruction-bank operations (R255, R266, R281 to R285, R289 to R291). -/
def Obligations.AwlTrapsResetsAndBanks : Prop :=
  ∀ (s : State) (d : Die) (e : Engine) (k : Unit8) (b : Fin 2), Live s d →
    let g := s.eng d e
    let ek : Nat := e.val / 8
    let st := s.cl d k
    let ready := fun (t : State) => (t.eng d e).st = .reset ∧ (t.eng d e).ds = [] ∧ (t.eng d e).rs = [] ∧ (t.eng d e).group = [] ∧
      (t.eng d e).sb = [] ∧ (t.eng d e).evMask = 0 ∧ (t.eng d e).evCause = 0xFF ∧ (t.eng d e).mbxIn = [] ∧ (t.eng d e).mbxOut = [] ∧
      (t.eng d e).bank = g.bank ∧ (t.cl d ek).resetting.testBit (e % 8) = true
    let begins := fun (i : Instr) (op : Nat) => Answers i s (fun t => t.cl d k = { st with ibank := some (op, b.val) } ∧
      t.flag d (F.AWL_CL_STATUS_IBANK_BUSY k) = true ∧ t.mem = s.mem ∧ t.imem = s.imem)
    let taken := fun (i : Instr) (p : PendTrap) => Answers i s (fun t => (t.eng d e).cause = 5 ∧ (t.eng d e).sub = p.sub ∧
      (t.eng d e).imprecise = true ∧ (t.eng d e).inTrap = true ∧ (t.eng d e).trapPc = g.pc ∧ (t.eng d e).trapAddr = p.addr ∧
      (∀ x, p.page = some x → (t.eng d e).trapPage = x) ∧ (t.eng d e).pend = none ∧ (t.eng d e).pc = 1 ∧ (t.eng d e).st = .trap ∧
      (t.eng d e).ds = g.ds ∧ (t.eng d e).group = g.group ∧ t.mem = s.mem)
    (∀ p : PendTrap, g.pend = some p ∧ g.runs = true ∧ g.inTrap = false → taken (.trapEntry d e) p) ∧
    (∀ p : PendTrap, g.pend = some p ∧ g.runs = true ∧ g.inTrap = true ∧ (s.cl d ek).resetting.testBit (e % 8) = false →
      Answers (.fatalTrap d e) s (fun t => ready t ∧ (t.eng d e).lastCause = 0x81)) ∧
    (g.runs = true ∧ g.inTrap = false ∧ g.limitHit = false → Answers (.runLimit d e) s (fun t => (t.eng d e).cause = 9 ∧
      (t.eng d e).trapPc = g.pc ∧ (t.eng d e).pc = 1 ∧ (t.eng d e).limitHit = true ∧ (t.eng d e).st = .trap ∧
      t.flag d F.AWL_EVENT_RUN_LIMIT = true ∧ t.mem = s.mem)) ∧
    (g.runs = true ∧ g.inTrap = false ∧ g.limitHit = true ∧ (s.cl d ek).resetting.testBit (e % 8) = false →
      Answers (.runLimit d e) s (fun t => ready t ∧ (t.eng d e).lastCause = 0x82)) ∧
    (g.runs = true ∧ (s.cl d ek).resetting = 0 ∧ (s.domState d ek = 1 ∨ s.domState d ek = 2) → Answers (.fetchUe d e) s (fun t =>
      (t.cl d ek).resetting = 0xFF ∧ (t.eng d e).st = .reset ∧ t.flag d (F.AWL_CL_STATUS_BUSY ek) = true)) ∧
    (g.st ≠ .off ∧ (s.cl d ek).resetting.testBit (e % 8) = false → Answers (.engineReset d e) s (fun t =>
      ready t ∧ (t.eng d e).lastCause = g.lastCause ∧ t.imem = s.imem)) ∧
    (st.resetting ≠ 0xFF ∧ (s.domState d k = 1 ∨ s.domState d k = 2) → Answers (.clusterReset d k []) s (fun t =>
      (t.cl d k).resetting = 0xFF ∧ (t.cl d k).disp = 0 ∧ (t.cl d k).ibank = none ∧ t.flag d (F.AWL_CL_STATUS_BUSY k) = true)) ∧
    (∀ i : Fin 8, let e' : Engine := ⟨8 * k.val + i.val, by omega⟩
      st.resetting.testBit i = true ∧ st.resetting ≠ 2 ^ i.val ∧ s.onOld (engUid d e') = false ∧ (s.eng d e').bellHeld = false →
      Answers (.engineResetDone d e') s (fun t => (t.eng d e').pc = 0 ∧ (t.cl d k).resetting = st.resetting - 2 ^ i.val ∧
        (t.eng d e').st = (if st.holds (s.eng d e').bank then .run else .reset) ∧
        (t.eng d e').mbxIn = ((s.eng d e').mbxIn ++ (s.eng d e').mbxHeld).take 8 ∧ t.mem = s.mem)) ∧
    ((∀ i : Fin 8, (s.eng d (8 * k.val + i)).bank ≠ b) ∧ st.ibank = none ∧ s.reharnessing d k = false →
      begins (.ibankTest d k b) 1 ∧ begins (.ibankClear d k b) 2 ∧ begins (.ibankReload d k b) 3) ∧
    ((∃ i : Fin 8, (s.eng d (8 * k.val + i)).bank = b) → ∀ i ∈ [Instr.ibankTest d k b, .ibankClear d k b, .ibankReload d k b],
      Answers i s (fun t => t.get d (F.AWL_CL_STATUS_IBANK_RESULT k) = 3 ∧ t.flag d F.AWL_EVENT_IBANK_REFUSED = true ∧
        t.imem = s.imem ∧ t.cls = s.cls)) ∧
    (∀ (op : Fin 3) (fault : Bool), st.ibank = some (op.val + 1, b.val) → Answers (.ibankDone d k fault) s (fun t =>
      (t.cl d k).ibank = none ∧ t.flag d (F.AWL_CL_STATUS_IBANK_BUSY k) = false ∧ t.flag d F.AWL_EVENT_IBANK_DONE = true ∧
      t.get d (F.AWL_CL_STATUS_IBANK_RESULT k) = (if op = 0 ∧ fault = true then 2 else 1) ∧
      (op ≠ 2 → (t.cl d k).holds b = false ∧ ∀ a : Fin 16384, tblGet t.imem 0 (imemKey d k b a) = 0)))

/-- Receiving and links: a frame that a receive step refuses counts in that step's counter alone, one that passes counts its bytes; a
link comes up with its rate and goes down when it loses signal; its settings and failures show in the port's registers (R394, R395, R401,
R402, R405, R415, R419, R423). -/
def Obligations.EthernetReceiveAndLinks : Prop :=
  ∀ (s : State) (d : Die) (p : Unit8), Live s d →
    let free := (s.ethPort d p).rxCut = none ∧ (s.ethPort d p).tx = none ∧ s.outQueue d p = []
    let counts := fun (i : Instr) (f : Field) => Answers i s (fun t => SetOnly s t d f (min (s.get d f + 1) (2 ^ (f.hi + 1 - f.lo) - 1)))
    let down := fun (i : Instr) => Answers i s (fun t => t.linkUp d p = false ∧ t.flag d (F.ETH_PORT_EVENT_LINK_DOWN p) = true)
    (∀ bs : List Byte, s.ethRuns d p = true ∧ (s.ethPort d p).rxCut = none →
      (∀ ok, counts (.frameReceive d p bs true ok none) (F.ETH_RX_SYMBOL_COUNT p)) ∧
      counts (.frameReceive d p bs false false none) (F.ETH_RX_FCS_COUNT p) ∧
      (bs.length < 60 → counts (.frameReceive d p bs false true none) (F.ETH_RX_RUNT_COUNT p)) ∧
      (60 ≤ bs.length ∧ s.maxLen d p < bs.length → counts (.frameReceive d p bs false true none) (F.ETH_RX_OVERSIZE_COUNT p)) ∧
      (60 ≤ bs.length ∧ bs.length ≤ s.maxLen d p ∧ fb16 bs 12 ≠ 0x8808 ∧ (parseFrame bs).trunc = false ∧
        lengthCheck bs (parseFrame bs) = none ∧ s.red d p = 0 ∧ s.ptpBlock d p (parseFrame bs) = none →
        Answers (.frameReceive d p bs false true none) s (fun t =>
          t = ((s.count d (F.ETH_RX_FRAMES_COUNT p) 1).count d (F.ETH_RX_BYTES_COUNT p) (bs.length + 4)).bindRx d p (ethUid d p)
            (s.cfgOf (ethUid d p)) (rxMeta d p bs (parseFrame bs) (s.portMac d p) ((s.nowT d - (bs.length + 4) * s.byteT d p) / 10)
              (s.now d) false) bs false (checksumsOk bs (parseFrame bs)) (ethKey bs (parseFrame bs))))) ∧
    (∀ r : LinkResult, s.rateOk d p r.speed = true ∧ s.linkUp d p = false ∧ s.flag d (F.ETH_PORT_CTRL_ADMIN_DOWN p) = false ∧
      s.flag d (F.ETH_PORT_STATUS_SAFE p) = false ∧ s.domOn d (8 + p) = true ∧ s.islandGated d (if p.val < 6 then 0 else 1) = false →
      Answers (.linkUp d p r) s (fun t => t.linkUp d p = true ∧ t.get d (F.ETH_PORT_STATUS_SPEED p) = r.speed % 8 ∧
        t.flag d (F.ETH_PORT_STATUS_MASTER p) = r.master ∧ t.flag d (F.ETH_PORT_STATUS_AN_DONE p) = s.negotiates d p ∧
        t.get d (F.ETH_PORT_STATUS_AN_FAIL p) = 0 ∧ t.flag d (F.ETH_AN_STATUS_LP_PAUSE p) = r.pause ∧
        t.flag d (F.ETH_PORT_EVENT_LINK_UP p) = true ∧ t.mem = s.mem)) ∧
    (free ∧ s.linkUp d p = true → down (.linkDown d p) ∧ down (.adminDown d p true) ∧ (s.negotiates d p = true → down (.restartAn d p))) ∧
    (s.linkUp d p = false → (∀ v : Bool, Answers (.adminDown d p v) s (fun t => SetOnly s t d (F.ETH_PORT_CTRL_ADMIN_DOWN p) (bit v))) ∧
      (s.negotiates d p = true → Answers (.restartAn d p) s (fun t => SetOnly s t d (F.ETH_PORT_CTRL_RESTART_AN p) 1)) ∧
      Answers (.linkDown d p) s (fun t => t = s)) ∧
    (∀ why : Fin 3, s.get d (F.ETH_PORT_CFG_MODE p) = 1 ∧ s.linkUp d p = false → Answers (.autoNegotiationFail d p why) s (fun t =>
      t.get d (F.ETH_PORT_STATUS_AN_FAIL p) = why + 1 ∧ t.flag d (F.ETH_PORT_CTRL_RESTART_AN p) = false ∧ RegsOnly s t ∧
      (s.get d (F.ETH_PORT_STATUS_AN_FAIL p) = 0 → t.flag d (F.ETH_PORT_EVENT_AN_FAIL p) = true))) ∧
    (∀ (k : Fin 4) (sa q : Nat), (s.ethPair d k).keys.length ≤ 4096 → Answers (.dupKeyExpire d k sa q) s (fun t =>
      (t.ethPair d k).keys = (s.ethPair d k).keys.erase (sa, q) ∧ (t.ethPair d k).seq = (s.ethPair d k).seq ∧
      t.get d (F.ETH_RED_STATUS_USED k) = ((s.ethPair d k).keys.erase (sa, q)).length ∧ t.mem = s.mem)) ∧
    (∀ k : Fin 4, s.red d (2 * k) ≠ 0 ∧ s.linkUp d (2 * k) = true ∧ s.linkUp d (2 * k + 1) = true →
      Answers (.supervisionSend d k) s (fun t => Counted s t d (F.ETH_TX_FRAMES_COUNT (2 * k)) 1 ∧
        Counted s t d (F.ETH_TX_FRAMES_COUNT (2 * k + 1)) 1 ∧ t.mem = s.mem)) ∧
    (∀ q : Unit8, ((s.ethPort d p).pauseEnd.getD q none).isSome = true → Answers (.pauseExpire d p ⟨q, by omega⟩) s (fun t =>
      s.getBit d (F.ETH_PORT_STATUS_PFC_PAUSED p) q = true → t.getBit d (F.ETH_PORT_STATUS_PFC_PAUSED p) q = false ∧
      (t.ethPort d p).pauseEnd.getD q none = none ∧ t.mem = s.mem)) ∧
    (((s.ethPort d p).pauseEnd.getD 8 none).isSome = true → Answers (.pauseExpire d p 8) s (fun t =>
      t.flag d (F.ETH_PORT_STATUS_PAUSED p) = false ∧ (t.ethPort d p).pauseEnd.getD 8 none = none ∧ t.mem = s.mem)) ∧
    (∀ q : Fin 9, ((s.ethPort d p).pauseSince.getD q none).isSome = true → Answers (.pauseWatchdog d p q) s (fun t =>
      t.flag d (F.ETH_PORT_STATUS_PAUSE_BROKEN p) = true ∧ t.flag d (F.ETH_PORT_STATUS_PAUSED p) = false ∧
      t.get d (F.ETH_PORT_STATUS_PFC_PAUSED p) = 0 ∧ t.flag d (F.ETH_PORT_EVENT_PAUSE_BREAK p) = true ∧
      (t.ethPort d p).pauseEnd = List.replicate 9 none)) ∧
    Answers (.pauseHoldoffEnd d p) s (fun t => SetOnly s t d (F.ETH_PORT_STATUS_PAUSE_BROKEN p) 0)

/-- Transmitting and the protocol packs: a head frame passes its checks once, the selection starts it and takes it out of its queue, the
end of a transmission counts it; a gate entry shows its GATES; PDUs, framing errors, refused SYNs, time-outs and PTP messages have the
effects of their rules (R377 to R379, R380, R382, R383, R385, R427, R429, R432, R528, R567, R899). -/
def Obligations.EthernetTransmitAndPacks : Prop :=
  ∀ (s : State) (d : Die) (p : Unit8), Live s d →
    (∀ q : Unit8, ∀ f ∈ (s.egress d p q).head?, (s.ethPort d p).headOk.contains f = false ∧ s.linkUp d p = true ∧
      s.txLen d p (s.frame f) ≤ s.maxLen d p ∧ (s.frame f).kind ≠ 4 ∧ s.gateBlk d p = none → Answers (.queueHeadArrive d p q) s (fun t =>
        (t.ethPort d p).headOk = (s.ethPort d p).headOk ++ [f] ∧ t.outQ = s.outQ ∧ t.frames = s.frames ∧ t.regs = s.regs ∧ t.mem = s.mem)) ∧
    (let u := (s.syncCredits d p).heads d p
      ∀ f : Nat, let x := u.frame f
      s.linkUp d p = true ∧ (s.ethPort d p).tx = none ∧ u.pick d p = .start f ∧ (u.cellsAllowed (frameDie f) x false) = (true, u) ∧
        (u.frameRead (frameDie f) x 0 (min x.len 64) 2 4).2 = (false, u) ∧ (u.frameRead (frameDie f) x 64 (x.len - 64) 2 80).2 = (false, u) →
        Answers (.egressSelect d p) s (fun t => (t.ethPort d p).tx = some (f, x.queue) ∧
          t.outQueue d p = (u.outQueue d p).filter (· != f) ∧ t.mem = u.mem)) ∧
    (∀ x ∈ (s.ethPort d p).tx, let f := x.1
      (s.frame f).cutThrough = false ∧ (s.frame f).outs = [] ∧ 1 < (s.frame f).dests →
      Answers (.txEnd d p) s (fun t => (t.ethPort d p).tx = none ∧ Counted s t d (F.ETH_TX_FRAMES_COUNT p) 1 ∧
        Counted s t d (F.ETH_TX_BYTES_COUNT p) (max (s.txLen d p (s.frame f)) 60 + 4) ∧ (t.frame f).dests = (s.frame f).dests - 1)) ∧
    (∀ l ∈ s.gateList d p, ∀ e ∈ (segsFrom l.2 (gatePhase l.1 (s.now d))).head?, Answers (.gateEntryChange d p) s (fun t =>
      t.get d (F.ETH_GATE_STATUS_STATE p) = e.2.1 % 256 ∧ t.get d (F.ETH_GATE_STATUS_ENTRY p) = e.1 % 256 ∧ t.mem = s.mem)) ∧
    (∀ bs : List Byte,
      let ps := parseFrame bs
      let x := rxMeta d p bs ps (s.portMac d p) ((s.nowT d - bs.length * s.byteT d p) / 10) 0 false
      s.ethRuns d p = true ∧ 64 ≤ bs.length ∧ s.ptpBlock d p ps = none ∧ fb16 bs 12 ≠ 0x8808 ∧ (s.ethPort d p).rxCut = none →
      ∀ ib ∈ pickBinding (s.cfgOf (ethUid d p)).switch.bindings d p x.cls (ethKey bs ps),
      let b := ib.2
      let y := { x with
        tid := b.tid, binding := ib.1, capClass := b.capClass, hi := true, queue := b.queue, cutThrough := true, written := 64 }
      b.dest = 1 ∧ b.cut = true ∧ b.target < 8 ∧ b.capture = false ∧ (b.destDie ≠ d ∨ b.target ≠ p.val) ∧
        s.cutFits d p b.destDie b.target b.queue b.tid = true →
      ∀ r ∈ s.rxStore d (ethUid d p) (cellsOf (s.maxLen d p)) y bs,
      let v := (r.2.2.modPort d p (fun g => { g with rxCut := some (some r.1) })).takeIn r.1 b.tid b.destDie b.target p (cellsOf (s.maxLen d p)) true
      r.2.1 = false ∧ (v.frame r.1).live = true →
      Answers (.cutThroughStart d p bs) s (fun t => (t.ethPort b.destDie b.target).tx = some (r.1, b.queue) ∧
        Counted v t b.destDie F.SWC_CT_FRAMES_COUNT 1 ∧ (∀ e ∈ t.voqOf b.destDie, e.frame ≠ r.1))) ∧
    (∀ (c : Unit8) (q : Fin 4) (m : Pdu), let n := cellsOf m.bytes.length
      pduLen m.rule m.bytes = some m.bytes.length ∧ m.bytes.length ≤ 9216 → ∀ k ∈ s.transportOf d c, ∀ r ∈ s.rxStore d (clUid d k) n
        { (default : Frame) with
          len := m.bytes.length, port := m.port, kind := 0, stamp := m.stamp, cls := m.cls, levels := 0, hoff := List.replicate 8 0xFFFF,
          die := d, endInstant := m.endInstant, tid := m.tid, written := m.bytes.length } m.bytes,
      let f := r.1
      let u := r.2.2
      let v := ((u.put (frameDie f) F.SWC_POOL_RX_HELD (u.get (frameDie f) F.SWC_POOL_RX_HELD - (u.frame f).cells.length)).setCharged f
        m.tid).chargeTenant (frameDie f) m.tid n
      r.2.1 = false ∧ u.tenantCheck (frameDie f) m.tid n true = none ∧ v.outputCheck d (17 + 4 * c.val + q.val) n = none →
      Answers (.pduDeliver d c q m) s (fun t => (t.voqOf d).getLast?.map (fun e => (e.frame, e.output)) = some (f, 17 + 4 * c.val + q.val) ∧
        t.mem = u.mem)) ∧
    (s.flag d F.PKT_STATUS_ASSIST_RUN = true →
      Answers (.framingErr d) s (fun t => Counted s t d F.PKT_FRAMING_ERR_COUNT 1 ∧ t.flag d F.PKT_EVENT_FRAMING_ERR = true ∧
        t.get d F.PKT_TCP_STATUS_OPEN = s.get d F.PKT_TCP_STATUS_OPEN - 1 ∧ RegsOnly s t) ∧
      Answers (.tcpSynRefused d) s (fun t => Counted s t d F.PKT_TCP_REFUSED_COUNT 1 ∧ t.flag d F.PKT_EVENT_TCP_REFUSED = true ∧
        t.flag d F.PKT_EVENT_TCP_FULL = true ∧ RegsOnly s t) ∧
      Answers (.reassemblyTimeout d) s (fun t => Counted s t d F.PKT_REASM_DROP_COUNT 1 ∧ t.flag d F.PKT_EVENT_REASM_DROP = true ∧
        RegsOnly s t)) ∧
    (∀ (e : Engine) (dpi : BitVec 20) (token : Word16), s.get d (F.PKT_CL_ID_PACK_ID (e.val / 8)) ≠ 0 ∧ (s.eng d e).outWords = 0 ∧
      s.flag d (F.MBX_ENG_BOUND e) = false → Answers (.commandTimeout d e dpi token) s (fun t => (t.eng d e).mbxOut.length = 8 ∧
        (t.eng d e).mbxOut[0]? = some (BitVec.ofNat 16 (s.get d (F.PKT_CL_ID_PACK_ID (e.val / 8)) % 256 + 7 * 256)) ∧
        (t.eng d e).mbxOut[1]? = some (dpi.setWidth 16) ∧ (t.eng d e).mbxOut[3]? = some 3 ∧ (t.eng d e).mbxOut[7]? = some token ∧
        t.mem = s.mem)) ∧
    (∀ e : Engine, s.get d (F.PKT_CL_ID_PACK_ID (e.val / 8)) ≠ 0 ∧ 0 < (s.eng d e).mbxIn.length ∧ (s.eng d e).mbxIn.length < 8 →
      Answers (.partialMessageTimeout d e) s (fun t => (t.eng d e).mbxIn = [] ∧ t.flag d F.PKT_EVENT_CL_DROP = true ∧
        Counted s t d (F.PKT_CL_DROP_UNSUP (e.val / 8)) 1 ∧ t.mem = s.mem)) ∧
    (∀ (k : Fin 16) (msg : List Byte), msg.length % 8 = 0 →
      ∀ b ∈ s.cfg.time.ptp.find? (fun b => b.index == k.val && decide (b.die < s.dieCount) && decide (b.port < 8)),
      ∀ r ∈ s.allocTx b.die (ethUid b.die b.port) 0 msg.length, s.linkUp b.die b.port = true →
      Answers (.ptpMessageTx k msg) s (fun t => t.outQueue b.die b.port = s.outQueue b.die b.port ++ [r.1] ∧
        (t.frame r.1).queue = (timeBase s).ptpQueue ∧ (t.frame r.1).single = true ∧ (t.frame r.1).len = msg.length))

/-- A received frame meets the best matching binding of the switch map: without one, without an output or without a descriptor it is
dropped and counted by reason; otherwise it is stored, charged to the binding's tenant and queued for its output (R513, R514, R522, R523). -/
def Obligations.SwitchMapBindings : Prop :=
  ∀ (s : State) (d own owner : Nat) (cfg : HarnessCfg) (x : Frame) (bs : List Byte) (trunc : Bool) (key : Nat → Option Nat),
    let l := cfg.switch.bindings
    let t := s.bindRx d own owner cfg x bs trunc true key
    let pick := pickBinding l d x.port x.cls key
    let dropped := fun (r tid : Nat) => Counted s t d (F.SWC_DROP_COUNT r) 1 ∧ t.flag d F.SWC_EVENT_DROP = true ∧
      tblGet t.tenDrops 0 (tenKey d tid) = satAdd 32 (tblGet s.tenDrops 0 (tenKey d tid)) 1 ∧ t.mem = s.mem ∧ t.frames = s.frames
    (pick = none ↔ ∀ b ∈ l, bindMatches b d x.port x.cls key = false) ∧
    (∀ ib ∈ pick, l[ib.1]? = some ib.2 ∧ bindMatches ib.2 d x.port x.cls key = true ∧
      ∀ j : Fin l.length, bindMatches l[j] d x.port x.cls key = true → l[j].prio < ib.2.prio ∨ (l[j].prio = ib.2.prio ∧ ib.1 ≤ j)) ∧
    (pick = none → dropped 1 0) ∧
    (∀ ib ∈ pick, bindOutput ib.2 trunc = none → dropped 2 ib.2.tid) ∧
    (∀ ib ∈ pick, ∀ o ∈ bindOutput ib.2 trunc, s.freeDesc d = none → dropped 3 ib.2.tid) ∧
    (∀ ib ∈ pick, ∀ o ∈ bindOutput ib.2 trunc, ∀ r ∈ s.rxStore d owner (cellsOf bs.length) { x with
        tid := ib.2.tid, binding := ib.1, capClass := ib.2.capClass, hi := bindClassH ib.2 trunc,
        queue := if ib.2.dest = 1 then ib.2.queue else 0 } bs,
      let n := cellsOf bs.length
      let fd := frameDie r.1
      let u := r.2.2
      let v := ((u.put fd F.SWC_POOL_RX_HELD (u.get fd F.SWC_POOL_RX_HELD - (u.frame r.1).cells.length)).setCharged r.1 ib.2.tid).chargeTenant
        fd ib.2.tid n
      r.2.1 = false ∧ ib.2.capture = false ∧ u.tenantCheck fd ib.2.tid n true = none ∧ v.outputCheck (bindDie ib.2 d) o n = none →
      (t.voqOf (bindDie ib.2 d)).getLast?.map (fun e => (e.frame, e.output, e.hi)) = some (r.1, o, bindClassH ib.2 trunc) ∧
      (t.frame r.1).charged = some ib.2.tid ∧ t.heldBy fd ib.2.tid = u.heldBy fd ib.2.tid + n ∧ t.mem = u.mem)

/-- Serial ports: a good frame goes to the switch map with its stamp and counts, a bad one counts as an error; the FIFO takes a frame at
its end, its head starts and leaves when it has been sent or aborted; bus-off, recovery, inversion episodes and detection change the
port's state as their rules say (R454 to R457, R461 to R470). -/
def Obligations.SerialPorts : Prop :=
  ∀ (s : State) (d : Die) (p : Unit8), Live s d →
    let g := s.ser d p
    let is := fun (t : State) (st : Nat) => t.serState d p = st ∧ t.getBit d F.SER_STATUS_ACTIVE p = (st == 3)
    let listens := s.serListens d p = true ∧ s.bankHeld d (p / 2) = false ∧ s.flag 0 F.TIM_STATUS_RELOCK = false ∧
      s.flag d (F.SER_PORT_CFG_PAIR p) = false ∧ g.tx = none
    let given := fun (t : State) (x : SerGood) (edge : Nat) => t = (s.count d (F.SER_RX_FRAMES_COUNT p) 1).bindRx d (8 + p) (serUid d p)
      (s.cfgOf (serUid d p)) (serMeta d p x (((edge : Int) - s.calEff d 3 p) / 1000).toNat (s.now d)) x.bytes false true (rawKey x.bytes)
    let reads := fun (f : Nat) => s.cellsAllowed (frameDie f) (s.frame f) false = (true, s) ∧
      (s.frameRead (frameDie f) (s.frame f) 0 (s.frame f).len 2 80).2 = (false, s)
    (∀ (bs : List Byte) (edge : Nat), listens ∧ s.serMode d p = 5 ∧ 2 ≤ bs.length ∧ bs.length ≤ s.get d (F.SER_PORT_CFG_MAX_LEN p) →
      Answers (.serialFrameReceive d p (.hdlc bs true false true) edge) s (fun t => given t ⟨bs, 0, 6, false⟩ edge)) ∧
    (∀ (bs : List Byte) (abort whole : Bool) (edge : Nat), listens ∧ s.serMode d p = 5 →
      Answers (.serialFrameReceive d p (.hdlc bs false abort whole) edge) s (fun t => Counted s t d (F.SER_RX_ERR_COUNT p) 1 ∧
        t.flag d (F.SER_PORT_EVENT_RX_ERR p) = true ∧ RegsOnly s t)) ∧
    (∀ (cs : List (BitVec 9)) (gap : Bool) (edge : Nat), let bs := cs.flatMap (uartBytes ((s.serCfg d p).format % 4 == 2))
      listens ∧ s.serMode d p = 3 ∧ bs.length ≤ s.get d (F.SER_PORT_CFG_MAX_LEN p) →
      Answers (.uartFrameEnd d p cs false gap edge) s (fun t => given t ⟨bs, 0, 3, gap && (s.serCfg d p).icBits != 0⟩ edge)) ∧
    (∀ f ∈ (s.outQueue d (8 + p)).head?, (s.frame f).queue = 0 ∧ g.fifo.length < 32 ∧
      serTxBad (s.serMode d p) (s.serCfg d p).format (s.headBytes f (s.frame f).len) = false → Answers (.serialFifoEnter d p) s (fun t =>
        (t.ser d p).fifo = g.fifo ++ [f] ∧ t.get d (F.SER_TX_CTRL_FIFO_COUNT p) = g.fifo.length + 1 ∧
        t.outQueue d (8 + p) = (s.outQueue d (8 + p)).tail ∧ t.mem = s.mem)) ∧
    (∀ f ∈ g.fifo.head?, s.isActive d p = true ∧ g.tx = none ∧ (s.frame f).stamp ≤ s.now d ∧ s.arbFits d p f = true ∧
      ((s.serCfg d p).elec ≠ 2 ∨ s.isCan d p = true ∨ s.flag d (F.SER_PORT_STATUS_CTS p) = true) ∧ s.flag 0 F.TIM_STATUS_RELOCK = false ∧
      reads f → Answers (.serialTxStart d p) s (fun t => (t.ser d p).tx = some (f, false) ∧ t.flag d (F.SER_PORT_STATUS_BUSY p) = true ∧
        (t.ser d p).fifo = g.fifo ∧ t.mem = s.mem)) ∧
    (∀ f : Nat, g.tx = some (f, false) ∧ s.flag d (F.SER_TX_CTRL_ABORT_HEAD p) = false ∧ s.flag d (F.SER_PORT_CTRL_DETECT_START p) = false ∧
      s.isCan d p = false ∧ 1 < (s.frame f).dests → Answers (.serialTxEnd d p .sent) s (fun t => (t.ser d p).tx = none ∧
        (t.ser d p).fifo = g.fifo.filter (· != f) ∧ Counted s t d (F.SER_TX_FRAMES_COUNT p) 1 ∧
        t.flag d (F.SER_PORT_STATUS_BUSY p) = false ∧ t.mem = s.mem)) ∧
    (∀ f : Nat, g.tx = some (f, true) ∧ s.flag d (F.SER_PORT_CTRL_DETECT_START p) = false → Answers (.serialTxEnd d p .lost) s (fun t =>
      (t.ser d p).tx = none ∧ (t.ser d p).fifo = g.fifo ∧ (t.ser d p).excl = g.excl ∧ SetOnly { s with serPorts := t.serPorts } t d
        (F.SER_PORT_STATUS_BUSY p) 0)) ∧
    (∀ f ∈ g.fifo.head?, s.flag d (F.SER_TX_CTRL_ABORT_HEAD p) = false →
      (g.tx = some (f, false) → Answers (.abortHead d p) s (fun t => SetOnly s t d (F.SER_TX_CTRL_ABORT_HEAD p) 1)) ∧
      (g.tx = none ∧ 1 < (s.frame f).dests → Answers (.abortHead d p) s (fun t => (t.ser d p).fifo = g.fifo.filter (· != f) ∧
        Counted s t d (F.SER_TX_ABORT_COUNT p) 1 ∧ t.flag d (F.SER_PORT_EVENT_TX_DROP p) = true ∧ t.mem = s.mem))) ∧
    (g.invSince.isSome = true ∧ g.invLong = false ∧ (s.serCfg d p).invLimit ≠ 0 → Answers (.invLong d p) s (fun t =>
      (t.ser d p).invLong = true ∧ t.flag d (F.SER_PORT_EVENT_INV_LONG p) = true ∧ t.mem = s.mem)) ∧
    (s.isCan d p = true ∧ s.serState d p = 3 ∧ 256 ≤ s.get d (F.SER_CAN_ERR_TEC p) → Answers (.busOff d p) s (fun t => is t 4 ∧
      t.get d (F.SER_CAN_ERR_ERR_STATE p) = 2 ∧ Counted s t d (F.SER_BUS_OFF_COUNT p) 1 ∧ t.flag d (F.SER_PORT_EVENT_BUS_OFF p) = true ∧
      (t.ser d p).tx = none)) ∧
    (s.serState d p = 4 → Answers (.recover d p) s (fun t => (t.ser d p).recovering = true ∧ t.regs = s.regs ∧ t.mem = s.mem)) ∧
    (s.serState d p = 4 ∧ g.recovering = true → Answers (.busOffRecoveryDone d p) s (fun t => is t 3 ∧ t.get d (F.SER_CAN_ERR_TEC p) = 0 ∧
      t.get d (F.SER_CAN_ERR_REC p) = 0 ∧ t.get d (F.SER_CAN_ERR_ERR_STATE p) = 0 ∧ (t.ser d p).recovering = false ∧ t.mem = s.mem)) ∧
    (s.isCan d p = true ∧ (s.serState d p = 3 ∨ s.serState d p = 2) →
      (g.tx = none → Answers (.detectStart d p) s (fun t => is t 1 ∧ t.flag d (F.SER_DETECT_BUSY p) = true ∧ RegsOnly s t)) ∧
      (g.tx.isSome = true → Answers (.detectStart d p) s (fun t => SetOnly s t d (F.SER_PORT_CTRL_DETECT_START p) 1))) ∧
    (s.serState d p = 1 → ∀ frames : Bool, Answers (.detectDone d p none frames) s (fun t => is t 2 ∧
      t.get d (F.SER_DETECT_RESULT p) = 3 ∧ t.flag d (F.SER_DETECT_BUSY p) = false ∧ t.get d (F.SER_DETECT_RATE_RATE p) = 0 ∧
      t.flag d (F.SER_PORT_EVENT_DETECT_DONE p) = true)) ∧
    (∀ ps : Nat, s.serState d p = 1 → ∀ i ∈ rateMatch ps,
      ∀ b ∈ derivedBrp (standardRates.getD i 0) (1 + ((s.serCfg d p).nom / 2 ^ 8 % 2 ^ 8 + 1) + ((s.serCfg d p).nom / 2 ^ 16 % 2 ^ 7 + 1)),
      Answers (.detectDone d p (some ps) true) s (fun t => is t 2 ∧ t.get d (F.SER_DETECT_RESULT p) = 1 ∧
        t.get d (F.SER_DETECT_RATE_RATE p) = standardRates.getD i 0 ∧ t.get d (F.SER_DETECT_INDEX p) = i ∧
        t.get d (F.SER_DETECT_BRP p) = b - 1 ∧ (t.ser d p).brp = some (b - 1))) ∧
    (s.serState d p = 2 → Answers (.go d p) s (fun t => is t 3 ∧ RegsOnly s t))

/-- TTCAN: reference messages start a basic cycle with its cycle count, a higher-priority master demotes the current one, a watch that
expires makes a potential master current, triggers act at their offsets (R471 to R475). -/
def Obligations.SerialTtcan : Prop :=
  ∀ (s : State) (d : Die) (p : Unit8), Live s d → ∀ e ∈ s.ttcanCfg d p,
    let g := s.ser d p
    let cycle := fun (t : State) (n : Nat) => t.get d (F.SER_TT_STATUS_CYCLE p) = n ∧ t.flag d (F.SER_TT_STATUS_SYNC p) = true ∧
      (t.ser d p).ttSof = s.now d ∧ (t.ser d p).ttSeen = []
    let trig := fun (i : Fin 64) (ty : Nat) (q : TtcanTrig → Prop) =>
      ∀ x ∈ (s.cfgOf (serUid d p)).ttTrigs.find? (fun t => t.die == d.val && t.port == p.val && t.index == i.val),
        x.type = ty ∧ s.flag d (F.SER_TT_STATUS_SYNC p) = true ∧ trigActs x (s.get d (F.SER_TT_STATUS_CYCLE p)) = true ∧
        s.isActive d p = true → q x
    (s.flag d (F.SER_TT_STATUS_CURRENT p) = true ∧ s.isActive d p = true ∧ g.tx = none → Answers (.ttcanReferenceSend d p) s (fun t =>
      cycle t (s.ttCount d e % 64) ∧ t.mem = s.mem)) ∧
    (∀ (prio : Unit8) (n : Fin 64), s.isActive d p = true ∧ (s.flag d (F.SER_TT_STATUS_CURRENT p) = false ∨ prio.val < e.prio) →
      Answers (.ttcanReferenceRx d p prio n) s (fun t => cycle t n ∧ t.get d (F.SER_TT_STATUS_MASTER_PRIO p) = prio)) ∧
    (e.role = 1 ∧ s.flag d (F.SER_TT_STATUS_CURRENT p) = false ∧ s.isActive d p = true → Answers (.ttcanWatchExpire d p true) s (fun t =>
      cycle t (s.ttCount d e % 64) ∧ t.flag d (F.SER_TT_STATUS_CURRENT p) = true ∧ t.get d (F.SER_TT_STATUS_MASTER_PRIO p) = e.prio % 8)) ∧
    (∀ i : Fin 64, trig i 3 (fun _ => ∀ idle, Answers (.ttcanTrigger d p i idle) s (fun t => (t.ser d p).arbEnd = none ∧
      t.regs = s.regs ∧ t.mem = s.mem))) ∧
    (∀ i : Fin 64, trig i 1 (fun _ => Answers (.ttcanTrigger d p i false) s (fun t => Counted s t d (F.SER_TT_MISS_MISS p) 1 ∧
      t.flag d (F.SER_PORT_EVENT_TT_MISS p) = true ∧ RegsOnly s t))) ∧
    (∀ i : Fin 64, trig i 1 (fun x => ∀ f ∈ g.excl.find? (fun y => y.1 == x.buf), g.tx = none ∧ s.flag 0 F.TIM_STATUS_RELOCK = false ∧
      s.cellsAllowed (frameDie f.2) (s.frame f.2) false = (true, s) ∧
      (s.frameRead (frameDie f.2) (s.frame f.2) 0 (s.frame f.2).len 2 80).2 = (false, s) →
      Answers (.ttcanTrigger d p i true) s (fun t => (t.ser d p).tx = some (f.2, true) ∧ t.flag d (F.SER_PORT_STATUS_BUSY p) = true))) ∧
    (∀ i : Fin 64, trig i 4 (fun x => g.ttSeen.contains (x.expId, x.expIde) = false → ∀ idle, Answers (.ttcanTrigger d p i idle) s (fun t =>
      Counted s t d (F.SER_TT_MISS_MISS p) 1 ∧ t.flag d (F.SER_PORT_EVENT_TT_MISS p) = true ∧ RegsOnly s t))) ∧
    Answers (.ttcanSyncLoss d p) s (fun t => SetOnly s t d (F.SER_TT_STATUS_SYNC p) 0)

/-- The time-triggered group: a frame sent takes its window's buffer, a latched cell sends it or a null frame on the channels the node
owns, an arbitrating window counts its steps, receptions are checked and counted, and the states follow the state table (R489 to R495,
R497). -/
def Obligations.TimeTriggeredGroup : Prop :=
  ∀ (s : State) (d : Die), Live s d →
    let g := s.ttg d
    let goes := fun (i : Instr) (st : Nat) => Answers i s (fun t => t.ttState d = st ∧ t.flag d F.TTE_STATUS_SYNCED = (st == 5 || st == 6) ∧
      t.flag d F.TTE_EVENT_STATE_CHG = true ∧ t.mem = s.mem)
    (∀ f ∈ (s.outQueue d 16).head?, let q := (s.frame f).queue
      let own := (s.ttAssigns d).filter (fun a => a.window == q && ownCellOf a)
      q < 32 ∧ own ≠ [] ∧ (∀ a ∈ own, (s.frame f).len = 2 * a.words) ∧ g.buf.find? (fun e => e.1 == q) = none → Answers (.ttSend d) s (fun t =>
        (t.ttg d).buf = g.buf ++ [(q, f)] ∧ t.outQueue d 16 = (s.outQueue d 16).tail ∧ t.mem = s.mem)) ∧
    (∀ w : Fin 32, (s.ttAssigns d).any (fun a => a.window == w.val && ownCellOf a) = true ∧ g.latched.find? (fun e => e.1 == w.val) = none →
      Answers (.ttBufferLatch d w) s (fun t =>
        (t.ttg d).latched.getLast? = some (w.val, (g.buf.find? (fun e => e.1 == w.val)).map (·.2)) ∧ t.regs = s.regs ∧ t.mem = s.mem)) ∧
    (∀ (w : Fin 32) (busyB : Bool), ∀ a ∈ s.ttCell d w (s.ttCount' d), s.flag 0 F.TIM_STATUS_RELOCK = false ∧ s.ttState d = 5 ∧
      ownOn a 0 = true ∧ ownOn a 1 = false ∧ s.chOn d 0 = true →
      (g.latched.find? (fun e => e.1 == w.val) = some (w.val, none) → Answers (.ttCellStart d w false busyB) s (fun t =>
        Counted s t d F.TTE_TX_NULL_COUNT 1 ∧ (0, s.now d + wireNs (s.ttCfg d) a.words) ∈ (t.ttg d).sending ∧ t.mem = s.mem)) ∧
      (∀ f : Nat, g.latched.find? (fun e => e.1 == w.val) = some (w.val, some f) ∧ s.ttRead d f = (true, s) ∧ a.event = false ∧
        1 < (s.frame f).dests → Answers (.ttCellStart d w false busyB) s (fun t =>
        Counted s t d F.TTE_TX_FRAMES_COUNT 1 ∧ (0, s.now d + wireNs (s.ttCfg d) a.words) ∈ (t.ttg d).sending ∧ t.mem = s.mem))) ∧
    (∀ ch : Fin 2, ∀ o ∈ s.ttOpen d, ∀ w : Fin 32, w.val = o.2.index ∧ s.flag 0 F.TIM_STATUS_RELOCK = false ∧ o.2.type = 2 ∧
      o.2.ch.testBit ch = true ∧ s.ttState d = 5 ∧ s.chOn d ch = true ∧ s.nodeSends d ch = false →
      (g.arbStep.find? (fun e => e.1 == ch.val) = none ∧ g.arbq = [] → Answers (.ttArbStep d ch w) s (fun t =>
        (ch.val, o.1, o.2.index, 0) ∈ (t.ttg d).arbStep ∧ t.regs = s.regs ∧ t.mem = s.mem)) ∧
      (∀ f : Nat, let u := s.modTt d (fun x => { x with
          arbStep := x.arbStep.filter (fun e => e.1 != ch.val) ++ [(ch.val, o.1, o.2.index, 0)] })
        g.arbStep.find? (fun e => e.1 == ch.val) = none ∧ g.arbq = [f] ∧ g.arbSent = [] ∧ (s.frame f).queue = 0x40 ∧ 0 < o.2.arbIds ∧
        decide (s.ttClock d + wireNs (s.ttCfg d) ((s.frame f).len / 2) < closeAt (s.ttCfg d) o.2 o.1 - (s.ttCfg d).tol) = true ∧
        u.ttRead d f = (true, u) ∧ 1 < (s.frame f).dests → Answers (.ttArbStep d ch w) s (fun t =>
          Counted s t d F.TTE_TX_FRAMES_COUNT 1 ∧ (ch.val, s.now d + wireNs (s.ttCfg d) ((s.frame f).len / 2)) ∈ (t.ttg d).sending))) ∧
    (∀ (ch : Fin 2) (b : Fin 4) (rx : TtRx),
      let stamp : Int := ((rx.edgePs : Int) - s.calEff d 4 (4 * ch + b)) / 1000
      let open? := s.ttOpenAt d (s.ttClockAt d stamp)
      s.ttHears d ch b = true ∧ s.bankHeld d 4 = false ∧ s.flag 0 F.TIM_STATUS_RELOCK = false →
      (s.rxGood d open? rx = false → Answers (.ttFrameReceive d ch b rx) s (fun t => Counted s t d (F.TTE_RX_ERR_COUNT ch) 1 ∧
        t.flag d F.TTE_EVENT_RX_ERR = true ∧ RegsOnly s t)) ∧
      (s.rxGood d open? rx = true ∧ rx.sync = false → Answers (.ttFrameReceive d ch b rx) s (fun t =>
        if rx.null then t = s.count d (F.TTE_RX_NULL_COUNT ch) 1
        else if s.ttSynced d then ∀ o ∈ open?, t = (s.count d (F.TTE_RX_FRAMES_COUNT ch) 1).ttDeliver d ch stamp o.1 o.2 rx
        else t = s.count d (F.TTE_RX_FRAMES_COUNT ch) 1))) ∧
    (3 ≤ s.ttState d ∧ s.ttState d ≤ 6 → Answers (.ttClockCorrection d) s (fun t => (t.ttg d).half = !g.half ∧ (t.ttg d).devs = [] ∧
      (t.ttg d).prevDevs = (if g.half then [] else g.devs) ∧ (t.ttg d).since = s.now d ∧
      (g.half = true → t.get d F.TTE_SYNC_SYNC_SEEN = min g.syncSeen 255 ∧ (t.ttg d).syncSeen = 0) ∧ t.mem = s.mem)) ∧
    (s.ttState d = 1 ∧ s.ttMode d ≠ 0 ∧ s.flag d F.TTE_CTRL_ADMIN_DOWN = false ∧ s.har.current.isSome = true → goes (.ttStateChange d .configured) 2) ∧
    (s.ttState d = 2 → goes (.ttStateChange d .startupSeen) 4) ∧
    (s.ttState d = 3 → goes (.ttStateChange d .otherNode) 5 ∧ goes (.ttStateChange d .collision) 2 ∧
      ((s.ttCfg d).alone = true → goes (.ttStateChange d .alone) 5)) ∧
    (s.ttState d = 4 ∧ 2 ≤ g.goodRun → goes (.ttStateChange d .doubleCycle) 5) ∧
    (s.ttState d = 2 ∧ (s.ttCfg d).coldstart = true ∧ g.attempts < (s.ttCfg d).attempts → goes (.ttListenTimeout d) 3) ∧
    (s.ttState d = 7 → goes (.ttRestart d) 2)

/-- Bridle: activity on a branch, violations that cut it off, cutting and readmitting by command (R498 to R503). -/
def Obligations.BridleBranches : Prop :=
  ∀ (s : State) (d : Die) (ch : Fin 2) (b : Fin 4), Live s d ∧ s.ttMode d = 2 →
    let g := s.ttg d
    (s.hasBranch d ch b = true → Answers (.branchActivity d ch b false) s (fun t => (ch.val, b.val) ∉ (t.ttg d).active ∧
      (ch.val, b.val) ∉ (t.ttg d).relay ∧ t.regs = s.regs ∧ t.mem = s.mem)) ∧
    (s.hasBranch d ch b = true ∧ s.bankHeld d 4 = false → Answers (.branchActivity d ch b true) s (fun t =>
      (ch.val, b.val) ∈ (t.ttg d).active ∧
      (s.relayed d ch = none ∧ s.flag d (F.TTE_BR_CUT ch b) = false ∧ s.nodeSends d ch = false ∧ s.relaysFreely d = true →
        (ch.val, b.val) ∈ (t.ttg d).relay) ∧
      (s.flag d (F.TTE_BR_CUT ch b) = true → (t.ttg d).relay = g.relay) ∧ t.mem = s.mem)) ∧
    (∀ k : Fin 3, s.hasBranch d ch b = true ∧ s.violates d ch b (k + 1) = true → Answers (.bridleViolation d ch b k) s (fun t =>
      t.flag d (F.TTE_BR_CUT ch b) = true ∧ Counted s t d (F.TTE_BR_VIOL ch b) 1 ∧ t.get d (F.TTE_BR_CLEAN ch b) = 0 ∧
      t.get d (F.TTE_BR_LAST_KIND ch b) = k + 1 ∧ t.flag d F.TTE_EVENT_CUT = true ∧ (ch.val, b.val) ∉ (t.ttg d).relay)) ∧
    Answers (.ttCut d ch b) s (fun t => t.flag d (F.TTE_BR_CUT ch b) = true ∧ t.flag d (F.TTE_BR_ADMIN ch b) = true ∧
      t.flag d F.TTE_EVENT_CUT = true ∧ (ch.val, b.val) ∉ (t.ttg d).relay) ∧
    Answers (.ttReadmit d ch b) s (fun t => t.getBit d (F.TTE_BR_CTRL_READMIT ch) b = true ∧ RegsOnly s t) ∧
    Answers (.bridleReadmit d) s (fun t => t.getBit d (F.TTE_BR_CTRL_READMIT ch) b = false ∧ (t.ttg d).violated = [] ∧
      (s.getBit d (F.TTE_BR_CTRL_READMIT ch) b = true → t.flag d (F.TTE_BR_CUT ch b) = false))

/-- The switch core and the recorder's submissions: a round matches a ready head frame and moves the pointers past the pair, captures and
submissions leave the recorder's queue with their record sequenced, a group that fits is released with its marks, an audit remembers its
findings and reclaims a confirmed leaked cell, a shaper takes its rate (R516 to R518, R523, R527, R531, R532, R538, R540, R541, R680). -/
def Obligations.SwitchCore : Prop :=
  ∀ (s : State) (d : Die), Live s d →
    (∀ e ∈ (s.voqOf d).head?, s.voqOf d = [e] ∧ e.input < 30 ∧ (8 ≤ e.output ∧ e.output < 17 ∨ 49 ≤ e.output ∧ e.output < 114) ∧
      s.outReady d e.output = true → Answers (.schedulerRound d) s (fun t => t.voqOf d = [] ∧
        t.outQueue d e.output = s.outQueue d e.output ++ [e.frame] ∧ tblGet t.grantPtr 0 (ptrKey d e.hi e.output) = (e.input + 1) % 30 ∧
        tblGet t.acceptPtr 0 (ptrKey d e.hi e.input) = (e.output + 1) % 114 ∧ t.regs = s.regs ∧ t.mem = s.mem)) ∧
    (∀ f ∈ (s.outQueue d 113).head?, let x := s.frame f
      let r := s.frameRead (frameDie f) x 0 (min x.len 256) 6 4
      x.kind ≠ 4 ∧ r.2 = (false, s) → Answers (.captureRecord d) s (fun t =>
        t = (s.submitRec d x.capClass 3 (uid d 8 0) x.tid (captureBody x r.1)).recorderDone d f)) ∧
    (∀ f ∈ (s.outQueue d 113).head?, let x := s.frame f
      let r := s.frameRead (frameDie f) x 0 x.len 6 80
      x.kind = 4 ∧ r.2 = (false, s) ∧ r.1.length ≤ s.subLimit d → Answers (.recordSubmit d none) s (fun t =>
        t = (((s.submitRec d x.queue (if x.sender.isSome then 1 else 2) x.origin x.tid r.1).txDone x).recorderDone d f))) ∧
    (∀ r : Submission, (r.body.length ≤ s.subLimit d → Answers (.recordSubmit d (some r)) s (fun t =>
        t = s.submitRec d r.cls r.fmt r.source r.tid r.body)) ∧
      (s.subLimit d < r.body.length → Answers (.recordSubmit d (some r)) s (fun t => Counted s t d F.ERC_REFUSED_COUNT 1 ∧
        t.flag d F.ERC_EVENT_REFUSED = true ∧ t.mem = s.mem ∧ t.recD = s.recD))) ∧
    (∀ p : Unit8, ∀ x ∈ (s.ethPort d p).tx, (s.frame x.1).cutThrough = true ∧ (s.frame x.1).bad = false ∧ s.receiving x.1 = true →
      Answers (.ctUnderrun d p) s (fun t => (t.frame x.1).bad = true ∧ Counted s t d F.SWC_CT_UNDERRUN_COUNT 1 ∧
        t.flag d F.SWC_EVENT_CT_UNDERRUN = true ∧ t.mem = s.mem)) ∧
    (∀ e : Engine, let g := s.eng d e
      g.cqWait = true ∧ (tblGet s.commitQ [] d).length + g.group.length ≤ 4096 ∧ g.rx = none ∧ s.onOld (engUid d e) = false ∧
        s.pendEvents d e &&& g.evMask = 0 → Answers (.commitQueueWaitEnd d e) s (fun t => (t.eng d e).group = [] ∧
          (t.eng d e).cqWait = false ∧ (t.eng d e).st = .wait ∧ (t.eng d e).outstanding = g.outstanding + g.group.length ∧
          tblGet t.commitQ [] d = tblGet s.commitQ [] d ++ g.group.map (fun k => { k with released := !s.scopeFenced (engUid d e) }) ∧
          t.mem = s.mem)) ∧
    (s.flag d F.SWC_LEAK_CTRL_EN = true ∧ tblGet s.suspects [] d = [] → Answers (.leakAudit d) s (fun t =>
      tblGet t.suspects [] d = s.findings d ∧ t.cells = s.cells ∧ t.regs = s.regs ∧ t.mem = s.mem)) ∧
    (∀ e ∈ (s.leaked d).head?, s.flag d F.SWC_LEAK_CTRL_EN = true ∧ s.leaked d = [e] ∧ s.findings d = [.cell e.1 e.2.owner] ∧
      tblGet s.suspects [] d = [.cell e.1 e.2.owner] →
      (s.flag d F.SWC_LEAK_CTRL_RECLAIM = true → Answers (.leakAudit d) s (fun t => (t.cell d e.1).used = false ∧
        t.flag d F.SWC_EVENT_LEAK = true ∧ t.flag d F.SWC_LEAK_LOG_VALID = true)) ∧
      (s.flag d F.SWC_LEAK_CTRL_RECLAIM = false → Answers (.leakAudit d) s (fun t => t.cells = s.cells ∧
        t.flag d F.SWC_EVENT_LEAK = true ∧ t.flag d F.SWC_LEAK_LOG_VALID = true))) ∧
    (∀ (k : Fin 256) (rate : Word32), Answers (.tshRateWrite d k rate) s (fun t =>
      t.get d (F.SWC_TSH_RATE_RATE_KBPS k) = rate.toNat % 2 ^ 24 ∧
      t.flag d (F.SWC_TSH_CFG_FROZEN k) = (s.flag d (F.SWC_TSH_CFG_EN k) && rate.toNat % 2 ^ 24 == 0) ∧
      t.shaper d k = ⟨s.tshLevel d k, s.monoQ16 d⟩ ∧ t.mem = s.mem))

/-- The servo: a measurement of the selected source is recorded, a jump is refused or stepped, sources come and go by priority, owner steps
are accepted or ignored and take effect on every die at their instant; relocks mark every die (R545, R554 to R557, R560 to R563, R581,
R582, R892). -/
def Obligations.TimeServo : Prop :=
  ∀ (s : State) (src : Fin 4), s.powered = true →
    let st := s.get 0 F.TIM_STATUS_STATE
    let ofs0 := toSigned 64 (s.get 0 F.TIM_OFFSET_OFS)
    let due := ceilDiv (s.now 0 + 20000) 65536 * 65536
    let steps := fun (i : Instr) (delta : Int) => Answers i s (fun t => t.flag 0 F.TIM_STATUS_STEP_PENDING = true ∧
      t.servo = { s.servo with stepDelta := delta, stepAt := due, autoStep := false } ∧ t.now 0 = s.now 0 ∧
      (due : Nat) % 65536 = 0 ∧ s.now 0 + 20000 ≤ due ∧ due < s.now 0 + 20000 + 65536)
    let ignored := fun (i : Instr) => Answers i s (fun t => SetOnly s t 0 F.TIM_EVENT_CMD_IGNORED 1)
    let still := s.flag 0 F.TIM_STATUS_RELOCK = false ∧ ∀ d p, (s.ser d p).tx = none
    (∀ ofs : Int, (s.get 0 F.TIM_STATUS_SRC_IDX ≠ src ∨ s.flag 0 F.TIM_STATUS_RELOCK = true → Answers (.servoMeasurement src ofs) s
        (fun t => t = s)) ∧
      (s.get 0 F.TIM_STATUS_SRC_IDX = src ∧ s.flag 0 F.TIM_STATUS_RELOCK = false →
        (s.flag 0 F.TIM_STATUS_STEP_PENDING = true → Answers (.servoMeasurement src ofs) s (fun t =>
          SetOnly s t 0 F.TIM_OFFSET_OFS (ofSigned 64 ofs))) ∧
        (s.flag 0 F.TIM_STATUS_STEP_PENDING = false ∧ jumpNs s < ofs.natAbs ∧ st ≠ 0 → Answers (.servoMeasurement src ofs) s (fun t =>
          t.get 0 F.TIM_STATUS_STATE = 4 ∧ t.get 0 F.TIM_OFFSET_OFS = ofSigned 64 ofs ∧ Counted s t 0 F.TIM_REFUSED_COUNT 1 ∧
          t.flag 0 F.TIM_EVENT_JUMP = true ∧ t.flag 0 F.TIM_STATUS_UNSYNC = true ∧ t.now 0 = s.now 0)) ∧
        (s.flag 0 F.TIM_STATUS_STEP_PENDING = false ∧ jumpNs s < ofs.natAbs ∧ st = 0 ∧ s.flag 0 F.TIM_STATUS_EVER_LOCKED = false ∧
          (timeBase s).autoFirst = true → Answers (.servoMeasurement src ofs) s (fun t => t.get 0 F.TIM_STATUS_STATE = 0 ∧
          t.flag 0 F.TIM_STATUS_STEP_PENDING = true ∧ t.servo.stepDelta = ofs ∧ t.servo.autoStep = true)) ∧
        (s.flag 0 F.TIM_STATUS_STEP_PENDING = false ∧ ofs.natAbs ≤ jumpNs s ∧ st = 1 ∧ s.servo.runIn + 1 < 16 ∧ ofs.natAbs ≤ lockNs s →
          Answers (.servoMeasurement src ofs) s (fun t => t.get 0 F.TIM_STATUS_STATE = 1 ∧ t.servo.runIn = s.servo.runIn + 1 ∧
            t.get 0 F.TIM_OFFSET_OFS = ofSigned 64 ofs ∧ t.servo.lastAcc = some (s.mono 0) ∧ t.now 0 = s.now 0)) ∧
        (s.flag 0 F.TIM_STATUS_STEP_PENDING = false ∧ ofs.natAbs ≤ jumpNs s ∧ st = 1 ∧ 16 ≤ s.servo.runIn + 1 ∧ ofs.natAbs ≤ lockNs s →
          Answers (.servoMeasurement src ofs) s (fun t => t.get 0 F.TIM_STATUS_STATE = 2 ∧ t.flag 0 F.TIM_STATUS_EVER_LOCKED = true ∧
            t.flag 0 F.TIM_EVENT_STATE_CHG = true)))) ∧
    (srcKind s src ≠ 0 ∧ (∀ i : Fin 4, i < src → srcKind s i = 0 ∨ s.servo.valid.contains i.val = false) →
      Answers (.sourceSelect src true) s (fun t => t.get 0 F.TIM_STATUS_SRC_IDX = src ∧ t.servo.valid.contains src.val = true)) ∧
    (s.servo.valid = [src.val] ∧ srcKind s src ≠ 0 ∧ (st = 1 ∨ st = 2 ∨ st = 4) →
      ∀ i ∈ [Instr.sourceSelect src false, .sourceLossTimeout src], Answers i s (fun t =>
        t.get 0 F.TIM_STATUS_SRC_IDX = 7 ∧ t.get 0 F.TIM_STATUS_STATE = 3 ∧ t.servo.valid = [])) ∧
    (s.flag 0 F.TIM_STATUS_STEP_PENDING = false → steps .step (toSigned 64 (s.get 0 F.TIM_STEP_DELTA)) ∧
      (st = 4 → steps .accept ofs0) ∧ (st ≠ 4 → ignored .accept)) ∧
    (s.flag 0 F.TIM_STATUS_STEP_PENDING = true → ignored .step ∧ ignored .accept ∧
      (∀ m : Fin 32, s.servo.stepDelta ≤ 0 ∧ s.servo.autoStep = false → Answers (.stepInstant m) s (fun t =>
        t.flag 0 F.TIM_STATUS_STEP_PENDING = false ∧ (∀ d : Die, d < s.dieCount → t.now d = ofSigned 64 ((s.now d : Int) + s.servo.stepDelta) ∧
          t.flag d F.TIM_EVENT_STEPPED = true ∧ t.flag d F.DPT_STATUS_RESYNC_PENDING = true)))) ∧
    (still → Answers .relock s (fun t => t.flag 0 F.TIM_STATUS_RELOCK = true ∧ t.flag 0 F.TIM_STATUS_UNSYNC = true ∧
      t.flag 0 F.TIM_CLKOUT_GATED = true ∧ ((st = 1 ∨ st = 2) → t.get 0 F.TIM_STATUS_STATE = 3) ∧
      ∀ d : Die, d < s.dieCount → t.flag d F.TIM_EVENT_RELOCK_START = true)) ∧
    (s.flag 0 F.TIM_STATUS_RELOCK = true → Answers .relock s (fun t => t = s) ∧ Answers .relockDone s (fun t =>
      t.flag 0 F.TIM_STATUS_RELOCK = false ∧ t.flag 0 F.TIM_STATUS_REF_EXT = s.refExternal ∧
      ∀ d : Die, d < s.dieCount → t.flag d F.TIM_EVENT_RELOCK_DONE = true)) ∧
    (∀ n : Fin 4, 0 < s.dieCount ∧ s.get 0 (F.TIM_CAP_CFG_MODE n) = 4 →
      (s.servo.refsLost.contains n.val = false → Answers (.freqInputLoss 0 n) s (fun t => t.servo.refsLost.contains n.val = true ∧
        ((timeBase s).freqRef = n + 1 ∧ still → t.flag 0 F.TIM_STATUS_RELOCK = true))) ∧
      (s.servo.refsLost.contains n.val = true → Answers (.freqInputReturn 0 n) s (fun t => t.servo.refsLost.contains n.val = false ∧
        ((timeBase s).freqRef = n + 1 ∧ still → t.flag 0 F.TIM_STATUS_RELOCK = true))))

/-- Capture inputs, pulse outputs, CLKOUT and PTP time-outs (R550, R565, R571 to R575, R577, R578, R580, R583). -/
def Obligations.TimeInputsAndOutputs : Prop :=
  ∀ (s : State) (d : Die) (n : Fin 4), Live s d →
    let q := s.stampQ16 d (s.calEff d 5 n)
    let ns := q / 65536
    let p := s.pulse d n
    (∀ rising : Bool, s.get d (F.TIM_CAP_CFG_MODE n) = 1 ∧ s.bankHeld d 4 = false ∧ edgeSelected (s.get d (F.TIM_CAP_CFG_EDGE n)) rising = true →
      Answers (.captureEdge d n rising) s (fun t => t.get d (F.TIM_CAP_TIME_NS n) = ns % 2 ^ 64 ∧ t.get d (F.TIM_CAP_STAT_FRAC n) = q % 65536 ∧
        t.flag d (F.TIM_CAP_STAT_VALID n) = true ∧ t.flag d (F.TIM_CAP_STAT_RISING n) = rising ∧
        t.flag d (F.TIM_CAP_CFG_LEVEL n) = rising ∧ t.getBit d F.TIM_EVENT_CAP n = true ∧
        (s.flag d (F.TIM_CAP_STAT_VALID n) = true → Counted s t d (F.TIM_CAP_STAT_MISSED n) 1) ∧ RegsOnly s t)) ∧
    (s.get d (F.TIM_CAP_CFG_MODE n) = 2 ∧ s.bankHeld d 4 = false →
      (ns % 1000000000 < 500000000 → Answers (.ppsEdge d n) s (fun t => t = s.measureFrom 3 d n (-((ns % 1000000000 : Nat) : Int)))) ∧
      (500000000 < ns % 1000000000 → Answers (.ppsEdge d n) s (fun t => t = s.measureFrom 3 d n (1000000000 - ((ns % 1000000000 : Nat) : Int))))) ∧
    (∀ x : IrigFrame, x.valid = true ∧ x.leap = 0 ∧ s.get d (F.TIM_CAP_CFG_MODE n) = 3 ∧ s.bankHeld d 4 = false →
      Answers (.irigFrame d n x) s (fun t => t = s.measureFrom 4 d n
        ((x.seconds - x.localOffset + toSigned 16 (s.get 0 F.TIM_UTC_UTC_OFS)) * 1000000000 - ns))) ∧
    (s.pulseDue d n = true → Answers (.pulseStart d n) s (fun t => (t.pulse d n).endMono = some (s.mono d + p.width) ∧
      (t.pulse d n).fired = true ∧ t.get d (F.TIM_PULSE_CFG_LEVEL n) = s.get d (F.TIM_PULSE_CFG_POLARITY n) ∧
      t.flag d (F.TIM_PULSE_CFG_PENDING n) = false ∧ t.mem = s.mem)) ∧
    (p.endMono.isSome = true ∧ s.flag d (F.TIM_PULSE_CFG_ARM n) = false → Answers (.pulseEnd d n) s (fun t => (t.pulse d n).endMono = none ∧
      t.get d (F.TIM_PULSE_CFG_LEVEL n) = 1 - s.get d (F.TIM_PULSE_CFG_POLARITY n) ∧
      (s.get d (F.TIM_PULSE_CFG_MODE n) = 1 → t.getBit d F.TIM_EVENT_PULSE n = true) ∧ t.mem = s.mem)) ∧
    (p.endMono.isSome = true → Answers (.pulseArm d n) s (fun t => SetOnly s t d (F.TIM_PULSE_CFG_ARM n) 1)) ∧
    (p.endMono = none ∧ 100 ≤ s.get d (F.TIM_PULSE_PERIOD_PERIOD_NS n) ∧ s.get d (F.TIM_PULSE_PERIOD_PERIOD_NS n) ≤ 4294967296000000000 ∧
      10 ≤ s.get d (F.TIM_PULSE_WIDTH_WIDTH_NS n) ∧ s.get d (F.TIM_PULSE_WIDTH_WIDTH_NS n) + 10 ≤ s.get d (F.TIM_PULSE_PERIOD_PERIOD_NS n) →
      Answers (.pulseArm d n) s (fun t => t.pulse d n = { p with
        start := s.get d (F.TIM_PULSE_START_START n), period := s.get d (F.TIM_PULSE_PERIOD_PERIOD_NS n),
        width := s.get d (F.TIM_PULSE_WIDTH_WIDTH_NS n), fired := false } ∧ t.flag d (F.TIM_PULSE_CFG_ARM n) = false ∧ t.mem = s.mem)) ∧
    (∀ freq : Nat, s.clkout.freq = freq % 8 → Answers (.clkoutFreqWrite freq) s (fun t => SetOnly s t 0 F.TIM_CLKOUT_FREQ (freq % 8))) ∧
    (∀ freq : Nat, s.clkout.freq ≠ freq % 8 → Answers (.clkoutFreqWrite freq) s (fun t => t.get 0 F.TIM_CLKOUT_FREQ = freq % 8 ∧
      t.flag 0 F.TIM_CLKOUT_GATED = true ∧ t.clkout = ⟨freq % 8, clkRestart (s.now 0) s.clkout.freq (freq % 8)⟩)) ∧
    clkRestart 1000030 2 4 = 1000080 ∧
    (∀ k : Fin 16, Answers (.announceReceiptTimeout k) s (fun t => Counted s t 0 (F.TIM_PTP_CNT_TIMEOUTS k) 1 ∧
      (∀ b ∈ s.cfg.time.ptp.head?, s.cfg.time.ptp = [b] ∧ b.role = 3 → t.get 0 (F.TIM_PTP_PORT_STATE b.index) = 9) ∧ t.mem = s.mem))

/-- Lace engines: a step applies the chosen entry or stalls, cues act at once or at their edge, FIFOs hold 8 words, loop bounds, divider and
flags take their writes (R596 to R600, R602 to R605, R607 to R609). -/
def Obligations.LaceEngines : Prop :=
  ∀ (s : State) (d : Die) (e : Unit16), Live s d →
    let x := s.lce d e
    let st := lceState s d e
    let is := fun (t : State) (n : Nat) => lceState t d e = n ∧ t.getBit d F.LCE_STATUS_RUN e = (n == 3)
    let waits := fun (i : Nat → Fin 512 → Instr) (act : Nat) => ∀ (mask : Nat) (delay : Fin 512), delay ≠ 0 ∧
      s.flag d F.LCE_CUE_STAT_PENDING = false → Answers (i mask delay) s (fun t => t.flag d F.LCE_CUE_STAT_PENDING = true ∧
        tblGet t.cues none d = some (act, mask) ∧ t.lace = s.lace ∧ t.mem = s.mem)
    let now := fun (i : Nat → Fin 512 → Instr) (q : State → Prop) => s.flag d F.LCE_CUE_STAT_PENDING = false → Answers (i (2 ^ e.val) 0) s q
    (∀ pins caps : Nat, let lv := s.pinLevels d pins
      let c := (s.put d F.LCE_PIN_IN_LEVEL lv).lceChoose d e lv (if s.bankHeld d 4 then 0 else caps)
      let k := s.get d (F.LCE_TABLE_ENTRY e c.1)
      let cur := s.get d (F.LCE_ENG_STATUS_CUR e)
      let l := s.get d (F.LCE_LOOP_SEL e)
      (st = 3 ∨ st = 4) ∧ c.1 < 128 →
      (k.testBit 22 = false ∧ k.testBit 23 = false → Answers (.laceStep d [e.val] pins caps) s (fun t => is t 3 ∧
        t.get d (F.LCE_ENG_STATUS_CUR e) = lceNext k cur (s.get d (F.LCE_LOOPDEF_FIRST e l)) (s.get d (F.LCE_LOOPDEF_LAST e l)) % 32 ∧
        t.get d (F.LCE_ENG_STATUS_ENTRY e) = c.1 ∧
        t.get d (F.LCE_SR_INR e) = lceTally (s.get d (F.LCE_SR_INR e)) (k / 2 ^ 24 % 4) c.2 % 65536 ∧
        t.get d (F.LCE_SR_FDR e) = (if k.testBit 26 then s.get d (F.LCE_SR_FDR e) / 2 else s.get d (F.LCE_SR_FDR e)) ∧
        (t.lce d e).steps = x.steps + 1 ∧ (t.lce d e).inF = x.inF ∧ (t.lce d e).outF = x.outF ∧ t.mem = s.mem)) ∧
      (k.testBit 22 = true ∧ x.inF = [] → Answers (.laceStep d [e.val] pins caps) s (fun t => lceState t d e = 4 ∧
        t.getBit d F.LCE_STATUS_STALLED e = true ∧ t.flag d (F.LCE_ENG_STATUS_STALL_DRAW e) = true ∧
        t.get d (F.LCE_ENG_STATUS_CUR e) = cur ∧ (st = 3 → Counted s t d (F.LCE_STALLS_COUNT e) 1 ∧ t.getBit d F.LCE_EVENT_STALL e = true)))) ∧
    waits (.cueStart d) 1 ∧ waits (.cueRephase d) 2 ∧ waits (.cueStartRephase d) 3 ∧ waits (.cueStop d) 4 ∧ waits (.cueReset d) 5 ∧
    (st = 2 → now (.cueStart d) (fun t => is t 3 ∧ (t.lce d e).steps = 0) ∧ now (.cueStartRephase d) (fun t => is t 3)) ∧
    (st = 3 → now (.cueStop d) (fun t => is t 2) ∧ now (.cueRephase d) (fun t => is t 3 ∧ t.lce d e = { x with
        base := s.lceNextTick d e, steps := 0 }) ∧
      now (.cueReset d) (fun t => is t 2 ∧ t.get d (F.LCE_ENG_STATUS_CUR e) = s.get d (F.LCE_ENG_CFG_INIT e) ∧
        t.get d (F.LCE_SR_INR e) = 0 ∧ t.get d (F.LCE_SR_FDR e) = 0 ∧ (t.lce d e).inF = [] ∧ (t.lce d e).outF = [])) ∧
    (st = 2 ∧ tblGet s.cues none d = some (1, 2 ^ e.val) → Answers (.cueEdge d) s (fun t => is t 3 ∧
      t.flag d F.LCE_CUE_STAT_PENDING = false ∧ tblGet t.cues none d = none)) ∧
    (s.flag d F.LCE_CUE_STAT_PENDING = true → ∀ (mask : Nat) (delay : Fin 512), ∀ i ∈ [Instr.cueStart d mask delay, .cueRephase d mask delay,
      .cueStartRephase d mask delay, .cueStop d mask delay, .cueReset d mask delay], Answers i s (fun t =>
        SetOnly s t d F.LCE_CUE_STAT_REFUSED 1)) ∧
    (st = 2 ∧ x.loaded = true ∧ s.get d (F.LCE_ENG_CFG_GROUP e) = 0 ∧
      (∀ k : Unit16, s.flag d (F.LCE_ENG_CFG_AUTOSTART k) = (k == e)) → Answers (.laceAutostart d) s (fun t => is t 3 ∧
        (t.lce d e).loaded = false)) ∧
    (∀ w : Nat, (x.inF.length < 8 → Answers (.lceInFifo d e w) s (fun t => t.lce d e = { x with inF := x.inF ++ [w % 65536] } ∧
        t.get d (F.LCE_FIFO_STAT_IN_COUNT e) = x.inF.length + 1 ∧ t.mem = s.mem)) ∧
      (8 ≤ x.inF.length → Answers (.lceInFifo d e w) s (fun t => t.lace = s.lace ∧ t.flag d (F.LCE_FIFO_STAT_IN_OVF e) = true ∧
        t.getBit d F.LCE_EVENT_IN_OVF e = true ∧ RegsOnly s t))) ∧
    (∀ w ∈ x.outF.head?, s.isIrig d e = false ∧ x.outF.length ≤ 8 → Answers (.lceOutFifo d e) s (fun t =>
      t.resp = ⟨[w + 65536], true⟩ ∧ t.lce d e = { x with outF := x.outF.tail } ∧
      t.get d (F.LCE_FIFO_STAT_OUT_COUNT e) = x.outF.length - 1 ∧ t.mem = s.mem)) ∧
    (x.outF = [] → Answers (.lceOutFifo d e) s (fun t => t.resp = ⟨[0], true⟩ ∧
      (s.isIrig d e = false → t.flag d (F.LCE_FIFO_STAT_OUT_EMPTY_READ e) = true) ∧ t.lace = s.lace)) ∧
    (∀ v : Fin 4, Answers (.lceLoopWrite d e (some v.val) none) s (fun t => SetOnly s t d (F.LCE_LOOP_SEL e) v)) ∧
    (∀ (j : Fin 4) (a b : Fin 32), a ≤ b → Answers (.lceLoopWrite d e none (some (j.val, a.val, b.val))) s (fun t =>
      t.get d (F.LCE_LOOPDEF_FIRST e j) = a ∧ t.get d (F.LCE_LOOPDEF_LAST e j) = b ∧ RegsOnly s t)) ∧
    (∀ (j : Fin 4) (a b : Fin 32), b < a → Answers (.lceLoopWrite d e none (some (j.val, a.val, b.val))) s (fun t => t = s)) ∧
    (∀ v : Fin 65536, x.steps = 0 → Answers (.lceDivWrite d e v) s (fun t => SetOnly s t d (F.LCE_DIV_DIV e) v)) ∧
    (∀ v : Fin 65536, 0 < x.steps → Answers (.lceDivWrite d e v) s (fun t => t.get d (F.LCE_DIV_DIV e) = v ∧
      (t.lce d e).base = x.base + (x.steps - 1) * lceDiv s d e / 64 ∧ (t.lce d e).steps = 1 ∧
      t.lceNextTick d e = (t.lce d e).base + max v.val 64 / 64)) ∧
    (∀ v : Word32, Answers (.lceFlagsWrite d v.toNat) s (fun t => SetOnly s t d F.LCE_FLAGS_FLAG v.toNat))

/-- Tenant pages and mailboxes: commands of a page take a context, run their elements and end with RESULT through the host completion
queue; the notice window moves RD; mailbox words and doorbells reach the bound engine, and its outbound words come out in order (R633 to
R638, R641, R642, R644 to R648, R735). -/
def Obligations.HostPages : Prop :=
  ∀ (s : State) (p : Die) (t : Fin 4096) (pasid : Option Nat), Live s p → PageOpen s p t pasid →
    let idle := s.pflag p t F.PCI_PG_CMD_STAT_BUSY = false
    let q := s.hcqOf p
    let ends := fun (u : State) (r : Nat) => u.pget p t F.PCI_PG_CMD_STAT_RESULT = r ∧ u.pflag p t F.PCI_PG_CMD_STAT_BUSY = false ∧
      u.pflag p t F.PCI_PG_EVENT_CMD_DONE = true ∧
      (u.hcqOf p).entries = q.entries ++ [⟨List.replicate 16 0, 0, p, .page t⟩]
    let tokens := fun (n : Nat) => (n * 256000 : Int) ≤ s.bucketLevel p t ∧ ((s.storeOf p t).2 = true → (n * 256000 : Int) ≤ s.poolLevel p)
    (idle ∧ CqRoom s p → Answers (.pageRelease p t pasid) s (fun u => ends u (if s.hasCtx p t then 1 else 2) ∧
      u.hasCtx p t = false ∧ ∀ off : Nat, off < 4096 → s.hasCtx p t = true → u.winWord p t off = 0)) ∧
    (∀ n : Fin 128, idle ∧ CqRoom s p ∧ s.hasCtx p t = true →
      (n = 0 ∨ 64 < n.val → Answers (.pageGather p t n pasid) s (fun u => ends u 3) ∧ Answers (.pageScatter p t n pasid) s (fun u =>
        ends u 3)) ∧
      (1 ≤ n.val ∧ n.val ≤ 64 ∧ tokens n → Answers (.pageGather p t n pasid) s (fun u => ends u 1 ∧
          u.pget p t F.PCI_PG_CMD_STAT_DONE = n ∧
          (n = 1 → u.winBytes p t 0x800 8 = (s.gatherElem t (s.winWord p t 0x100) 5).1)) ∧
        Answers (.pageScatter p t n pasid) s (fun u => ends u 1 ∧ u.pget p t F.PCI_PG_CMD_STAT_DONE = n ∧
          (n = 1 → u.winWord p t 0x81C = (s.scatterElem p t (s.winBytes p t 0x800 8)).1 ∧
            u.skv = (s.scatterElem p t (s.winBytes p t 0x800 8)).2.skv))) ∧
      (1 ≤ n.val ∧ n.val ≤ 64 ∧ s.tokenReady p t = false → Answers (.pageGather p t n pasid) s (fun u =>
        u.pflag p t F.PCI_PG_CMD_STAT_BUSY = true ∧ u.pget p t F.PCI_PG_CMD_STAT_DONE = 0 ∧ Counted s u p (F.TEN_D_STORE_WAITS t) 1))) ∧
    (s.pflag p t F.PCI_PG_CMD_STAT_BUSY = true ∧ CqRoom s p ∧ (s.pageCmd p t).count = (s.pageCmd p t).next + 1 ∧ tokens 1 →
      Answers (.storeBucketWaitEnd p (.page t)) s (fun u => ends u 1 ∧ u.pget p t F.PCI_PG_CMD_STAT_DONE = (s.pageCmd p t).count % 128)) ∧
    (∀ (i : Fin 1024) (v : BitVec 32), idle ∧ inWindow (4 * i) = true →
      (s.hasCtx p t = true ∨ (s.host.ctx.filter (fun e => e.1 / 4096 == p.val)).length < 64 →
        Answers (.contextAllocate p t (4 * i) v pasid) s (fun u => u.winWord p t (4 * i) = v.toNat ∧ u.hasCtx p t = true ∧
          (∀ off : Fin 4096, off.val ≠ 4 * i.val → u.winWord p t off = s.winWord p t off) ∧
          (s.hasCtx p t = false → u.get p F.PCI_STATUS_CTX_USED = (s.host.ctx.filter (fun e => e.1 / 4096 == p.val)).length + 1) ∧
          u.mem = s.mem)) ∧
      (s.hasCtx p t = false ∧ 64 ≤ (s.host.ctx.filter (fun e => e.1 / 4096 == p.val)).length →
        Answers (.contextAllocate p t (4 * i) v pasid) s (fun u => u.pflag p t F.PCI_PG_EVENT_NOCTX = true ∧
          u = { s with pages := u.pages }))) ∧
    (idle ∧ s.hasCtx p t = true → Answers (.contextIdleExpire p t) s (fun u => u.hasCtx p t = false ∧
      u.pflag p t F.PCI_PG_CMD_STAT_CTX = false ∧ u.mem = s.mem)) ∧
    (∀ rd : Fin 512, s.nchAllowed p t = true → let d := s.pget p t F.PCI_PG_NCH_SEL_DIE
      let n := s.pget p t F.PCI_PG_NCH_SEL_CH
      (s.nchWr d n + 512 - rd) % 512 ≤ 256 → Answers (.noticeWindowRd p t rd pasid) s (fun u =>
        SetOnly s u d (F.DPT_NCH_IDX_RD n) rd)) ∧
    (∀ (i : Unit16) (w : BitVec 16), ∀ b ∈ s.mbxBound t i, b.2 < 64 → let g := s.eng b.1 b.2;
      (s.domDown b.1 (b.2 / 8) = false ∧ s.inWords b.1 b.2 < 8 →
        Answers (.mbxPgTx p t i w pasid) s (fun u => if g.st = .reset ∨ g.st = .off then
            EngineOnly s u b.1 b.2 { g with mbxHeld := g.mbxHeld ++ [w] }
          else EngineOnly s u b.1 b.2 { g with mbxIn := g.mbxIn ++ [w] })) ∧
      (8 ≤ s.inWords b.1 b.2 → Answers (.mbxPgTx p t i w pasid) s (fun u => u.engs = s.engs ∧
        u.pflag 0 t (F.MBX_PG_STAT_OVERRUN i) = true ∧ Counted s u b.1 (F.MBX_DROP_OVERRUN b.2) 1 ∧
        u.getBit 0 (F.TEN_MBX_OVERRUN_OVERRUN (t / 32)) (t % 32) = true)) ∧
      (∀ x : W16, g.mbxOut.head? = some x → Answers (.mbxPgRx p t i pasid) s (fun u => u.resp = ⟨[x.toNat + 0x10000], true⟩ ∧
        u.eng b.1 b.2 = { g with mbxOut := g.mbxOut.tail, evPend := if g.mbxOut.tail = [] then g.evPend ||| 2 ^ 5 else g.evPend } ∧
        u.regs = s.regs)) ∧
      (g.mbxOut = [] → Answers (.mbxPgRx p t i pasid) s (fun u => u = { s with resp := ⟨[0], true⟩ })) ∧
      (s.domDown b.1 (b.2 / 8) = false → Answers (.mbxPgBell p t i pasid) s (fun u =>
        EngineOnly s u b.1 b.2 { g with evPend := g.evPend ||| 2 ^ 10 })) ∧
      (s.domDown b.1 (b.2 / 8) = true → Answers (.mbxPgBell p t i pasid) s (fun u => (u.eng b.1 b.2).bellHeld = true ∧
        u.mem = s.mem))) ∧
    (∀ i : Unit16, s.mbxBound t i = none → ∀ c ∈ [Instr.mbxPgTx p t i 5 pasid, .mbxPgBell p t i pasid], Answers c s (fun u =>
      u.pflag p t F.PCI_PG_EVENT_ACCESS = true ∧ Counted s u 0 (F.TEN_T_VIOL_ACCESS t) 1 ∧ u.engs = s.engs))

/-- Host requests and the completion queue: BAR0 and BAR4 reads and writes answer with the bytes they name, a port that trains or resets
shows it, and the queue drains oldest first (R14, R87, R534, R621, R624, R626, R627, R663). -/
def Obligations.HostRequests : Prop :=
  ∀ (s : State) (p : Die), Live s p →
    let own := s.isHost p = true ∧ s.flag p F.PCI_STATUS_BOOT = false ∧ s.flag p F.PCI_PORT_CFG_OWNER = true
    (∀ (d : Die) (o len : Nat), own ∧ d < s.dieCount ∧ o + len ≤ 0x1000000 ∧ s.banksDown d o len = false → let off := d * 0x2000000 + o;
      (∀ bs : List Byte, bs.length = len ∧ s.firstRefused p 40 d o len true = none ∧ (s.vatWrite d o 5 bs (len + 1)).1 = false →
        Answers (.bar4Access p off len (some bs)) s (fun t => t.resp = ⟨[], true⟩ ∧
          (∀ i : Nat, i < len → t.byte d (o + i) = bs.getD i 0) ∧
          ∀ (d' : Die) (a : Fin 0x1000000), ¬ (d' = d ∧ o ≤ a.val ∧ a.val < o + len) → t.byte d' a = s.byte d' a)) ∧
      (s.firstRefused p 40 d o len false = none → Answers (.bar4Access p off len none) s (fun t =>
        t.resp = ⟨(s.portRead d o len 5 (s.leadOf 40)).1.map BitVec.toNat, !(s.portRead d o len 5 (s.leadOf 40)).2.1⟩ ∧ t.mem = s.mem)) ∧
      (∀ r : Bool, s.firstRefused p 40 d o len true = some (o / 64, r) → ∀ bs : List Byte, bs.length = len →
        Answers (.bar4Access p off len (some bs)) s (fun t => t.resp = ⟨[], false⟩ ∧ t.flag p F.PCI_EVENT_CA = true ∧
          Counted s t p F.VAT_VIOL_CNT_COUNT 1 ∧ t.mem = s.mem))) ∧
    (∀ (d : Die) (o len : Nat), own ∧ d < s.dieCount ∧ o + len ≤ 0x400000 → Answers
      (.bar4Access p (d * 0x2000000 + 0x1000000 + o) len none) s (fun t =>
        t = { s with resp := ⟨(List.range len).map (fun i => (s.recByte d (o + i)).toNat), true⟩ })) ∧
    (∀ (d : Die) (v : Word32) (env : WriteEnv), own ∧ d < s.dieCount → let off := d * 0x800000 + R.DPT_LEAD_HOST.off;
      (d = 0 → Answers (.bar0Access p ⟨false, off, 4, some v.toNat, none⟩ env) s (fun t => t.resp = ⟨[], true⟩ ∧
        t.get 0 F.DPT_LEAD_HOST_LEAD_NS = v.toNat % 2 ^ 24 ∧ RegsExcept s t [(0, R.DPT_LEAD_HOST)] ∧ t.mem = s.mem)) ∧
      (d = 0 ∧ s.latched (regKey 0 R.DPT_LEAD_HOST) = none → Answers (.bar0Access p ⟨false, off, 4, none, none⟩ env) s (fun t =>
        t.resp = ⟨[s.get 0 F.DPT_LEAD_HOST_LEAD_NS], true⟩ ∧ RegsExcept s t [] ∧ t.mem = s.mem)) ∧
      (Answers (.bar0Access p ⟨false, off + 2, 4, none, none⟩ env) s (fun t => t.resp = ⟨[0xFFFFFFFF], true⟩ ∧
        t.flag p F.PCI_EVENT_ALIGN = true))) ∧
    (s.isHost p = true ∧ s.flag p F.PCI_STATUS_BOOT = false ∧ s.flag p F.PCI_PORT_CFG_OWNER = false → ∀ (off v : Nat) (env : WriteEnv),
      Answers (.bar0Access p ⟨false, off, 4, some v, none⟩ env) s (fun t => t.resp = ⟨[], false⟩ ∧ Counted s t p F.TEN_DENIED_COUNT 1 ∧
        t.flag p F.PCI_EVENT_OWNER_DENIED = true ∧ t.mem = s.mem)) ∧
    (s.get p F.PCI_PORT_CFG_ROLE ≠ 0 ∧ s.islandGated p 3 = false → ∀ g w : Fin 8, Answers (.pcieLinkUp p g w) s (fun t =>
      t.flag p F.PCI_STATUS_LINK_UP = true ∧ t.get p F.PCI_STATUS_GEN = g ∧ t.get p F.PCI_STATUS_WIDTH = w ∧
      t.flag p F.PCI_EVENT_LINK_UP = true ∧ RegsOnly s t ∧ RegsExcept s t [(p, R.PCI_STATUS), (p, R.PCI_EVENT)])) ∧
    (∀ k : Fin 4, s.isHost p = true → Answers (.portReset p k) s (fun t => t.flag p F.PCI_EVENT_PORT_RESET = true ∧
      (∀ u : Fin 4096, t.hasCtx p u = false) ∧ (∀ v : Fin 2048, t.msixWord p (4 * v + 3) = 1) ∧
      (k = 2 → t.flag p F.PCI_STATUS_LINK_UP = false ∧ t.flag p F.PCI_EVENT_LINK_DOWN = true))) ∧
    (let q := s.hcqOf p;
      (∀ e ∈ q.entries.head?, Answers (.hcqDrain p) s (fun t => t.resp = ⟨e.addr :: e.status.map BitVec.toNat, true⟩ ∧
        t.hcqOf p = { q with entries := q.entries.tail, head := (q.head + 1) % 1024 } ∧ t.mem = s.mem)) ∧
      (∀ e ∈ q.waiting.head?, q.entries.length < 1024 → Answers (.hcqWaitEnd p) s (fun t =>
        t.hcqOf p = { q with entries := q.entries ++ [e], waiting := q.waiting.tail } ∧
        t.flag p F.SWC_STATUS_HCQ_STALL = !q.waiting.tail.isEmpty ∧
        ∀ i : Fin 16, t.byte p (hcqSlot (q.head + q.entries.length) + i) = (e.status.take 16 ++ leBytes 8 e.addr).getD i 0)))

/-- DMA channels: a slot's registers take their writes, a descriptor starts, moves its bytes or elements and ends with its status in the
host completion queue, an abort and a reset stop the channel, and a circular ring takes whole frames (R650 to R662, R666, R667). -/
def Obligations.DmaChannels : Prop :=
  ∀ (s : State) (d : Die) (ch : Fin 32), Live s d →
    let c := s.dmaCh d ch
    let tid := s.chTid d ch
    let j := s.chSlot d ch
    let bound := s.flag d (F.DMA_CH_CFG_BOUND ch) = true
    let q := s.hcqOf d
    let status := fun (t : State) (r : DmaRun) (code : Nat) (ab : Bool) => (t.hcqOf d).entries = q.entries ++
      [⟨statusRec r code (s.slotGet d ch F.DMA_PG_CWR_WR), r.desc.status, (s.chPort d ch).getD d, .dma ch r.desc.irq ab⟩] ∧
      (t.dmaCh d ch).run = none ∧ (t.dmaCh d ch).inHcq = c.inHcq + 1 ∧ t.get d (F.DMA_CH_STATUS_CODE ch) = code % 16
    let moved := fun (t : State) (r : DmaRun) (n : Nat) => ∃ b : List Byte, (t.dmaCh d ch).run = some { r with
      done := r.done + n, buf := b, code := if r.desc.len ≤ r.done + n then some 0 else none }
    (∀ (p : Die) (u : Fin 4096) (i : Unit8) (pasid : Option Nat), p < s.dieCount ∧ PageOpen s p u pasid ∧
        s.dmaBound u i = some (d.val, ch.val) →
      (∀ pi : Fin 4096, Answers (.dmaPiWrite p u i pi pasid) s (fun t => t.pget 0 u (F.DMA_PG_PI_PI i) = pi ∧
        t = { s with pages := t.pages })) ∧
      (bound ∧ tid = u.val ∧ j = i.val ∧ s.pflag 0 u (F.DMA_PG_CTRL_ENABLE i) = false → ∀ v : BitVec 32, v.toNat.testBit 8 = true →
        Answers (.dmaEnable p u i v pasid) s (fun t => t.pflag 0 u (F.DMA_PG_CTRL_ENABLE i) = true ∧ t.dmaState d ch = 1 ∧
          t.pget 0 u (F.DMA_PG_CTRL_RING_LOG2 i) = v.toNat % 16 ∧ t.mem = s.mem ∧ t.host = s.host)) ∧
      (bound ∧ tid = u.val ∧ j = i.val ∧ s.pflag 0 u (F.DMA_PG_CTRL_ENABLE i) = true ∧ c.run = none ∧ s.dmaWaiting d ch = false →
        ∀ v : BitVec 32, v.toNat.testBit 8 = false ∧ v.toNat % 16 = s.pget 0 u (F.DMA_PG_CTRL_RING_LOG2 i) →
        Answers (.dmaEnable p u i v pasid) s (fun t => t.pflag 0 u (F.DMA_PG_CTRL_ENABLE i) = false ∧ t.dmaState d ch = 0)) ∧
      (∀ rd : Nat, Answers (.circularCrdWrite p u i rd pasid) s (fun t => t.pget 0 u (F.DMA_PG_CRD_RD i) = rd % 2 ^ 24 ∧
        (c.run = none → t = { s with pages := t.pages })))) ∧
    (∀ bs : List Byte, bound ∧ s.dmaEnabled d ch = true ∧ s.dmaState d ch = 1 ∧ (s.chPort d ch).isSome = true ∧ bs.length = 32 ∧
        s.slotGet d ch F.DMA_PG_CI_CI ≠ s.slotGet d ch F.DMA_PG_PI_PI % s.ringSize d ch ∧ c.inHcq < 4 ∧ s.dmaWaiting d ch = false →
      Answers (.dmaDescriptorStart d ch (some bs)) s (fun t => t.dmaState d ch = 2 ∧ (t.dmaCh d ch).run = some
        ⟨DmaDesc.parse bs, s.slotGet d ch F.DMA_PG_CI_CI, 0, [], s.descCode d ch (DmaDesc.parse bs) bs⟩ ∧
        t.get d (F.DMA_CH_STATUS_TYPE ch) = (DmaDesc.parse bs).type ∧ t.getBit d F.DMA_STATUS_RUN ch = true ∧ t.mem = s.mem) ∧
      Answers (.dmaDescriptorStart d ch none) s (fun t => (t.dmaCh d ch).run.bind (·.code) = some 4)) ∧
    (∀ r ∈ c.run, r.code = none → let n := min 256 (r.desc.len - r.done);
      (∀ bs : List Byte, r.desc.type = 0 ∧ r.desc.srcSp = 0 ∧ r.desc.dstSp = 1 ∧ bs.length = n →
        ∀ a ∈ s.pkgAddr (r.desc.dst + r.done), s.banksDown a.1 a.2 n = false ∧ s.firstRefused d (8 + ch) a.1 a.2 n true = none ∧
          s.tokenReady d tid = true ∧ a.2 + n ≤ 0x1000000 ∧ (s.vatWrite a.1 a.2 4 bs (n + 1)).1 = false →
          Answers (.dmaBurst d ch (some bs)) s (fun t => moved t r n ∧ (∀ i : Nat, i < n → t.byte a.1 (a.2 + i) = bs.getD i 0) ∧
            ∀ (d' : Die) (x : Fin 0x1000000), ¬ (d'.val = a.1 ∧ a.2 ≤ x.val ∧ x.val < a.2 + n) → t.byte d' x = s.byte d' x)) ∧
      (r.desc.type = 0 ∧ r.desc.srcSp = 1 ∧ r.desc.dstSp = 0 → ∀ a ∈ s.pkgAddr (r.desc.src + r.done), s.banksDown a.1 a.2 n = false ∧
          s.firstRefused d (8 + ch) a.1 a.2 n false = none ∧ s.tokenReady d tid = true ∧ a.2 + n ≤ 0x1000000 ∧
          (s.portRead a.1 a.2 n 4 (s.leadOf (8 + ch))).2.1 = false → ∀ h : Option (List Byte), Answers (.dmaBurst d ch h) s (fun t =>
            moved t r n ∧ t.resp = ⟨(s.portRead a.1 a.2 n 4 (s.leadOf (8 + ch))).1.map BitVec.toNat, true⟩ ∧ t.mem = s.mem)) ∧
      (∀ bs : List Byte, 4 ≤ bs.length ∧ r.desc.type = 2 ∧ s.tokenReady d tid = true → Answers (.dmaBurst d ch (some bs)) s (fun t =>
        moved t r 1 ∧ t.resp = ⟨(s.gatherElem tid (leNat (bs.take 4)) 4).1.map BitVec.toNat, true⟩ ∧ t.mem = s.mem)) ∧
      (∀ bs : List Byte, 32 ≤ bs.length ∧ r.desc.type = 3 ∧ s.tokenReady d tid = true → Answers (.dmaBurst d ch (some bs)) s (fun t =>
        moved t r 1 ∧ t.resp = ⟨[(s.scatterElem d tid bs).1], true⟩)) ∧
      (CqRoom s d → Answers (.dmaAbort d ch) s (fun t => status t r 1 true ∧ t.dmaState d ch = 4 ∧
        t.get d (F.DMA_CH_STATUS_CI ch) = (r.index % 65536 + 1) % s.ringSize d ch)) ∧
      (r.desc.type = 1 ∧ s.dmaState d ch = 2 ∧ s.tokenReady d tid = true ∧ bound → ∀ f ∈ (s.outQueue d (49 + r.desc.src % 64)).head?,
        let x := s.frame f
        let size := (64 + x.len + 63) / 64 * 64
        let rd := (s.takeTokens d tid ((x.len + 63) / 64)).frameRead (frameDie f) x 0 x.len 4 80
        s.ringFill d ch r.desc.len + size ≤ r.desc.len - 64 ∧ r.desc.len ≤ 2 ^ 24 ∧ rd.2.1 = false → Answers (.circularRecord d ch) s (fun t =>
          t.resp = ⟨(ringRecord x rd.1).map BitVec.toNat, true⟩ ∧ (t.dmaCh d ch).run = some { r with done := r.done + 1 } ∧
          t.slotGet d ch F.DMA_PG_CWR_WR = (s.slotGet d ch F.DMA_PG_CWR_WR + size) % r.desc.len ∧
          t.outQueue d (49 + r.desc.src % 64) = (s.outQueue d (49 + r.desc.src % 64)).tail))) ∧
    (∀ r ∈ c.run, ∀ code : Fin 16, r.code = some code.val ∧ CqRoom s d → Answers (.dmaDescriptorEnd d ch) s (fun t =>
      status t r code false ∧ t.get d (F.DMA_CH_STATUS_CI ch) = (r.index % 65536 + 1) % s.ringSize d ch ∧
      t.dmaState d ch = if 2 ≤ code.val then 4 else if s.dmaEnabled d ch then 1 else 0)) ∧
    (bound → Answers (.dmaChReset d ch) s (fun t => t.slotGet d ch F.DMA_PG_BASE_BASE = 0 ∧ t.slotGet d ch F.DMA_PG_CTRL_RING_LOG2 = 4 ∧
      t.slotGet d ch F.DMA_PG_PI_PI = 0 ∧ t.slotGet d ch F.DMA_PG_CI_CI = 0 ∧ t.dmaEnabled d ch = false ∧ (t.dmaCh d ch).run = none ∧
      t.chPort d ch = none)) ∧
    (s.tokenReady d tid = true → Answers (.storeBucketWaitEnd d (.dma ch)) s (fun t => t.dmaCh d ch = { c with bucketWait := false } ∧
      t.regs = s.regs ∧ t.mem = s.mem))
end

