-- ==== Sys2Proof/Laws/KeepPending.lean ====
section
/-! SUPPORT. The lemmas by which it is seen that a function leaves the queue of the state alone: conditionals and folds. -/

namespace Sys2Proof.Machine

@[simp] theorem ite_pending {c : Prop} [Decidable c] (a b : State) :
    (if c then a else b).pending = if c then a.pending else b.pending := apply_ite State.pending c a b

@[simp] theorem ite_snd {α β : Type} {c : Prop} [Decidable c] (a b : α × β) :
    (if c then a else b).2 = if c then a.2 else b.2 := apply_ite Prod.snd c a b

@[simp] theorem foldl_pending {α : Type} (f : State → α → State) (l : List α) (s : State) (h : ∀ a x, (f a x).pending = a.pending) :
    (l.foldl f s).pending = s.pending := by
  induction l generalizing s with
  | nil => rfl
  | cons x r ih => simp [ih, h]

@[simp] theorem foldl_snd_pending {α β : Type} (f : β × State → α → β × State) (l : List α) (s : β × State)
    (h : ∀ a x, (f a x).2.pending = a.2.pending) : (l.foldl f s).2.pending = s.2.pending := by
  induction l generalizing s with
  | nil => rfl
  | cons x r ih => simp [ih, h]

@[simp] theorem foldl_fst_pending {α β : Type} (f : State × β → α → State × β) (l : List α) (s : State × β)
    (h : ∀ a x, (f a x).1.pending = a.1.pending) : (l.foldl f s).1.pending = s.1.pending := by
  induction l generalizing s with
  | nil => rfl
  | cons x r ih => simp [ih, h]

/-- The state in what a body answers. -/
def AwlOut.state : AwlOut → State
  | .next s _ => s
  | .trap s _ _ _ _ => s

@[simp] theorem AwlOut.state_next (s : State) (pc : Nat) : (AwlOut.next s pc).state = s := rfl
@[simp] theorem AwlOut.state_trap (s : State) (a b c : Nat) (p : Option Nat) : (AwlOut.trap s a b c p).state = s := rfl

/-- The state in what a load answers. -/
def Loaded.state : Loaded → State
  | .ok _ s => s
  | .ue s => s

@[simp] theorem Loaded.state_ok (bs : List Byte) (s : State) : (Loaded.ok bs s).state = s := rfl
@[simp] theorem Loaded.state_ue (s : State) : (Loaded.ue s).state = s := rfl

@[simp] theorem ite_loadedState {c : Prop} [Decidable c] (a b : Loaded) :
    (if c then a else b).state = if c then a.state else b.state := apply_ite Loaded.state c a b

theorem snd_pending {α : Type} {r : α × State} {a : α} {t : State} {p : List Instr} (h : r = (a, t)) (hr : r.2.pending = p) :
    t.pending = p := by subst h; exact hr

theorem Loaded.ok_pending {r : Loaded} {bs : List Byte} {t : State} {p : List Instr} (h : r = .ok bs t) (hr : r.state.pending = p) :
    t.pending = p := by subst h; exact hr

theorem Loaded.ue_pending {r : Loaded} {t : State} {p : List Instr} (h : r = .ue t) (hr : r.state.pending = p) :
    t.pending = p := by subst h; exact hr

@[simp] theorem ite_outState {c : Prop} [Decidable c] (a b : AwlOut) :
    (if c then a else b).state = if c then a.state else b.state := apply_ite AwlOut.state c a b

theorem ite_pending' {c : Prop} [Decidable c] {p : List Instr} (a b : State) (ha : a.pending = p) (hb : b.pending = p) :
    (if c then a else b).pending = p := by split <;> assumption

theorem ite_snd_pending {α : Type} {c : Prop} [Decidable c] {p : List Instr} (a b : α × State) (ha : a.2.pending = p) (hb : b.2.pending = p) :
    (if c then a else b).2.pending = p := by split <;> assumption

theorem ite_loaded_pending {c : Prop} [Decidable c] {p : List Instr} (a b : Loaded) (ha : a.state.pending = p) (hb : b.state.pending = p) :
    (if c then a else b).state.pending = p := by split <;> assumption

theorem ite_awl_pending {c : Prop} [Decidable c] {p : List Instr} (a b : AwlOut) (ha : a.state.pending = p) (hb : b.state.pending = p) :
    (if c then a else b).state.pending = p := by split <;> assumption

theorem next_pending {p : List Instr} (s : State) (pc : Nat) (h : s.pending = p) : (AwlOut.next s pc).state.pending = p := h
theorem trap_pending {p : List Instr} (s : State) (a b c : Nat) (g : Option Nat) (h : s.pending = p) :
    (AwlOut.trap s a b c g).state.pending = p := h
theorem ok_pending {p : List Instr} (bs : List Byte) (s : State) (h : s.pending = p) : (Loaded.ok bs s).state.pending = p := h
theorem ue_pending {p : List Instr} (s : State) (h : s.pending = p) : (Loaded.ue s).state.pending = p := h

theorem onDie_did_pending (s : State) (d : Nat) (k : State) (hk : k.pending = s.pending) :
    (match onDie s d k with | .next t => t | _ => s).pending = s.pending := by
  unfold onDie
  by_cases h : d < s.dieCount
  · rw [if_pos h]; exact ite_pending' k s hk rfl
  · rw [if_neg h]

theorem onPkg_did_pending (s : State) (k : State) (hk : k.pending = s.pending) :
    (match onPkg s k with | .next t => t | _ => s).pending = s.pending := ite_pending' k s hk rfl

theorem onDie_pending {s k t : State} {d : Nat} (h : onDie s d k = .next t) (hk : k.pending = s.pending) : t.pending = s.pending := by
  unfold onDie at h
  by_cases c : d < s.dieCount
  · rw [if_pos c] at h; cases h; exact ite_pending' k s hk rfl
  · rw [if_neg c] at h; cases h

theorem onPkg_pending {s k t : State} (h : onPkg s k = .next t) (hk : k.pending = s.pending) : t.pending = s.pending := by
  cases h; exact ite_pending' k s hk rfl

theorem nextRes_pending {k t : State} {p : List Instr} (h : (Host.Outcome.next k : Res) = .next t) (hk : k.pending = p) :
    t.pending = p := by cases h; exact hk

end Sys2Proof.Machine
end

