-- ==== Sys2Proof/Laws/Table.lean ====
section
/-! SUPPORT. The laws of sparse tables: a read after a write, and that a write and a selection keep the canonical form. -/

namespace Sys2Proof.Machine

variable {α : Type}

theorem tblGet_filter_same (t : List (Nat × α)) (d : α) (k : Nat) : tblGet (t.filter (fun e => e.1 != k)) d k = d := by
  induction t with
  | nil => rfl
  | cons e r ih =>
    simp only [List.filter_cons]
    split
    · rename_i h
      have h' : ¬ k = e.1 := fun c => by simp [c] at h
      simp only [tblGet, h', ↓reduceIte, ih]
    · exact ih

theorem tblGet_filter_ne (t : List (Nat × α)) (d : α) (k j : Nat) (h : j ≠ k) :
    tblGet (t.filter (fun e => e.1 != k)) d j = tblGet t d j := by
  induction t with
  | nil => rfl
  | cons e r ih =>
    simp only [List.filter_cons]
    split
    · simp only [tblGet, ih]
    · rename_i hk
      have h' : ¬ j = e.1 := fun c => h (by rw [c]; simpa using hk)
      simp only [tblGet, h', ↓reduceIte, ih]

theorem tblGet_tblIns_same (t : List (Nat × α)) (d : α) (k : Nat) (v : α) : tblGet (tblIns t k v) d k = v := by
  induction t with
  | nil => simp [tblIns, tblGet]
  | cons e r ih =>
    simp only [tblIns]
    split
    · simp [tblGet]
    · split
      · simp [tblGet]
      · rename_i h; simp only [tblGet, h, ↓reduceIte, ih]

theorem tblGet_tblIns_ne (t : List (Nat × α)) (d : α) (k j : Nat) (v : α) (h : j ≠ k) :
    tblGet (tblIns t k v) d j = tblGet t d j := by
  induction t with
  | nil => simp [tblIns, tblGet, h]
  | cons e r ih =>
    simp only [tblIns]
    split
    · simp [tblGet, h]
    · split
      · rename_i hk; simp only [tblGet]; rw [← hk]; simp [h]
      · simp only [tblGet, ih]

variable [DecidableEq α]

/-- A read of the key just written, whatever the table's form. -/
@[simp] theorem tblGet_tblSet_same (t : List (Nat × α)) (d : α) (k : Nat) (v : α) : tblGet (tblSet t d k v) d k = v := by
  unfold tblSet
  split
  · rename_i h; rw [tblGet_filter_same, h]
  · exact tblGet_tblIns_same t d k v

/-- A write leaves every other key alone, whatever the table's form and whatever its unlisted keys read as. -/
theorem tblGet_tblSet_ne (t : List (Nat × α)) (d d' : α) (k j : Nat) (v : α) (h : j ≠ k) :
    tblGet (tblSet t d k v) d' j = tblGet t d' j := by
  unfold tblSet
  split
  · exact tblGet_filter_ne t d' k j h
  · exact tblGet_tblIns_ne t d' k j v h

theorem tblWfFrom_le (d : α) (t : List (Nat × α)) (i j : Nat) (h : tblWfFrom d j t = true) (hij : i ≤ j) : tblWfFrom d i t = true := by
  cases t with
  | nil => rfl
  | cons e r =>
    simp only [tblWfFrom, Bool.and_eq_true, decide_eq_true_eq] at h ⊢
    exact ⟨⟨by omega, h.1.2⟩, h.2⟩

theorem tblWf_of_from (d : α) (t : List (Nat × α)) (j : Nat) (h : tblWfFrom d j t = true) : tblWf d t = true := by
  cases t with
  | nil => rfl
  | cons e r =>
    simp only [tblWfFrom, tblWf, Bool.and_eq_true, decide_eq_true_eq] at h ⊢
    exact ⟨h.1.2, h.2⟩

theorem tblWfFrom_filter (d : α) (t : List (Nat × α)) (p : Nat × α → Bool) (j : Nat) (h : tblWfFrom d j t = true) :
    tblWfFrom d j (t.filter p) = true := by
  induction t generalizing j with
  | nil => rfl
  | cons e r ih =>
    simp only [tblWfFrom, Bool.and_eq_true, decide_eq_true_eq] at h
    simp only [List.filter_cons]
    split
    · simp only [tblWfFrom, Bool.and_eq_true, decide_eq_true_eq]; exact ⟨h.1, ih e.1 h.2⟩
    · exact tblWfFrom_le d _ j e.1 (ih e.1 h.2) (by omega)

theorem tblWf_filter (d : α) (t : List (Nat × α)) (p : Nat × α → Bool) (h : tblWf d t = true) : tblWf d (t.filter p) = true := by
  cases t with
  | nil => rfl
  | cons e r =>
    simp only [tblWf, Bool.and_eq_true, decide_eq_true_eq] at h
    simp only [List.filter_cons]
    split
    · simp only [tblWf, Bool.and_eq_true, decide_eq_true_eq]; exact ⟨h.1, tblWfFrom_filter d r _ e.1 h.2⟩
    · exact tblWf_of_from d _ e.1 (tblWfFrom_filter d r _ e.1 h.2)

theorem tblWfFrom_tblIns (d : α) (t : List (Nat × α)) (j k : Nat) (v : α) (hv : v ≠ d) (h : tblWfFrom d j t = true) (hk : j < k) :
    tblWfFrom d j (tblIns t k v) = true := by
  induction t generalizing j with
  | nil => simp_all [tblIns, tblWfFrom]
  | cons e r ih =>
    simp only [tblWfFrom, Bool.and_eq_true, decide_eq_true_eq] at h
    simp only [tblIns]
    split
    · simp_all [tblWfFrom]
    · split
      · simp_all [tblWfFrom]
      · simp only [tblWfFrom, Bool.and_eq_true, decide_eq_true_eq]
        exact ⟨h.1, ih e.1 h.2 (by omega)⟩

/-- A write keeps the canonical form. -/
theorem tblWf_tblSet (d : α) (t : List (Nat × α)) (k : Nat) (v : α) (h : tblWf d t = true) : tblWf d (tblSet t d k v) = true := by
  unfold tblSet
  split
  · exact tblWf_filter d t _ h
  · rename_i hv
    cases t with
    | nil => simp_all [tblIns, tblWf, tblWfFrom]
    | cons e r =>
      simp only [tblWf, Bool.and_eq_true, decide_eq_true_eq] at h
      simp only [tblIns]
      split
      · simp_all [tblWf, tblWfFrom]
      · split
        · simp_all [tblWf]
        · simp only [tblWf, Bool.and_eq_true, decide_eq_true_eq]
          exact ⟨h.1, tblWfFrom_tblIns d r e.1 k v hv h.2 (by omega)⟩

/-- A selection of entries keeps the canonical form. -/
theorem tblWf_tblDrop (d : α) (t : List (Nat × α)) (p : Nat → Bool) (h : tblWf d t = true) : tblWf d (tblDrop p t) = true :=
  tblWf_filter d t _ h

end Sys2Proof.Machine
end

