-- ==== Sys2Proof/Laws/KeepVat.lean ====
section
/-! SUPPORT. The lemmas by which it is seen that a function leaves the Vat alone, or keeps its form: conditionals, folds, answers. -/

namespace Sys2Proof.Machine

@[simp] theorem ite_mem {c : Prop} [Decidable c] (a b : State) : (if c then a else b).mem = if c then a.mem else b.mem :=
  apply_ite State.mem c a b

@[simp] theorem ite_wf {c : Prop} [Decidable c] (a b : List Host.Cell) :
    Memory.wf (if c then a else b) = if c then Memory.wf a else Memory.wf b := apply_ite Memory.wf c a b

theorem ite_wf' {c : Prop} [Decidable c] (a b : State) (ha : Memory.wf a.mem = true) (hb : Memory.wf b.mem = true) :
    Memory.wf (if c then a else b).mem = true := by split <;> assumption

theorem Memory.wf_set (m : List Host.Cell) (k : Nat) (v : Byte) (hw : Memory.wf m = true) : Memory.wf (tblSet m 0 k v) = true := by
  unfold Memory.wf at *; exact tblWf_tblSet _ _ _ _ hw

theorem Memory.wf_drop (m : List Host.Cell) (p : Nat → Bool) (hw : Memory.wf m = true) : Memory.wf (tblDrop p m) = true := by
  unfold Memory.wf at *; exact tblWf_tblDrop _ _ _ hw

theorem ite_mem' {c : Prop} [Decidable c] {p : List Host.Cell} (a b : State) (ha : a.mem = p) (hb : b.mem = p) :
    (if c then a else b).mem = p := by split <;> assumption

theorem keep_wf {a b : List Host.Cell} (h : a = b) (hb : Memory.wf b = true) : Memory.wf a = true := by rw [h]; exact hb

theorem ite_loaded_wf {c : Prop} [Decidable c] (a b : Loaded) (ha : Memory.wf a.state.mem = true) (hb : Memory.wf b.state.mem = true) :
    Memory.wf (if c then a else b).state.mem = true := by split <;> assumption

theorem ite_awl_wf {c : Prop} [Decidable c] (a b : AwlOut) (ha : Memory.wf a.state.mem = true) (hb : Memory.wf b.state.mem = true) :
    Memory.wf (if c then a else b).state.mem = true := by split <;> assumption

theorem next_wf (s : State) (pc : Nat) (h : Memory.wf s.mem = true) : Memory.wf (AwlOut.next s pc).state.mem = true := h
theorem trap_wf (s : State) (a b c : Nat) (p : Option Nat) (h : Memory.wf s.mem = true) : Memory.wf (AwlOut.trap s a b c p).state.mem = true := h
theorem ok_wf (bs : List Byte) (s : State) (h : Memory.wf s.mem = true) : Memory.wf (Loaded.ok bs s).state.mem = true := h
theorem ue_wf (s : State) (h : Memory.wf s.mem = true) : Memory.wf (Loaded.ue s).state.mem = true := h

theorem onDie_did_wf (s : State) (d : Nat) (k : State) (hs : Memory.wf s.mem = true) (hk : Memory.wf k.mem = true) :
    Memory.wf (match onDie s d k with | .next t => t | _ => s).mem = true := by
  unfold onDie
  by_cases h : d < s.dieCount
  · rw [if_pos h]; exact ite_wf' k s hk hs
  · rw [if_neg h]; exact hs

theorem onDie_wf {s k t : State} {d : Nat} (h : onDie s d k = .next t) (hs : Memory.wf s.mem = true) (hk : Memory.wf k.mem = true) :
    Memory.wf t.mem = true := by
  unfold onDie at h
  by_cases c : d < s.dieCount
  · rw [if_pos c] at h; cases h; exact ite_wf' k s hk hs
  · rw [if_neg c] at h; cases h

theorem onPkg_wf {s k t : State} (h : onPkg s k = .next t) (hs : Memory.wf s.mem = true) (hk : Memory.wf k.mem = true) :
    Memory.wf t.mem = true := by cases h; exact ite_wf' k s hk hs

theorem nextRes_wf {k t : State} (h : (Host.Outcome.next k : Res) = .next t) (hk : Memory.wf k.mem = true) :
    Memory.wf t.mem = true := by cases h; exact hk

theorem onPkg_did_wf (s : State) (k : State) (hs : Memory.wf s.mem = true) (hk : Memory.wf k.mem = true) :
    Memory.wf (match onPkg s k with | .next t => t | _ => s).mem = true := ite_wf' k s hk hs

theorem ite_snd_wf {α : Type} {c : Prop} [Decidable c] (a b : α × State) (ha : Memory.wf a.2.mem = true) (hb : Memory.wf b.2.mem = true) :
    Memory.wf (if c then a else b).2.mem = true := by split <;> assumption

@[simp] theorem foldl_mem {α : Type} (f : State → α → State) (l : List α) (s : State) (h : ∀ a x, (f a x).mem = a.mem) :
    (l.foldl f s).mem = s.mem := by
  induction l generalizing s with
  | nil => rfl
  | cons x r ih => simp [ih, h]

@[simp] theorem foldl_wf {α : Type} (f : State → α → State) (l : List α) (s : State)
    (h : ∀ a x, Memory.wf a.mem = true → Memory.wf (f a x).mem = true) (hw : Memory.wf s.mem = true) :
    Memory.wf (l.foldl f s).mem = true := by
  induction l generalizing s with
  | nil => exact hw
  | cons x r ih => exact ih _ (h _ _ hw)

@[simp] theorem foldl_snd_mem {α β : Type} (f : β × State → α → β × State) (l : List α) (s : β × State)
    (h : ∀ a x, (f a x).2.mem = a.2.mem) : (l.foldl f s).2.mem = s.2.mem := by
  induction l generalizing s with
  | nil => rfl
  | cons x r ih => simp [ih, h]

@[simp] theorem foldl_snd_wf {α β : Type} (f : β × State → α → β × State) (l : List α) (s : β × State)
    (h : ∀ a x, Memory.wf a.2.mem = true → Memory.wf (f a x).2.mem = true) (hw : Memory.wf s.2.mem = true) :
    Memory.wf (l.foldl f s).2.mem = true := by
  induction l generalizing s with
  | nil => exact hw
  | cons x r ih => exact ih _ (h _ _ hw)

@[simp] theorem foldl_fst_mem {α β : Type} (f : State × β → α → State × β) (l : List α) (s : State × β)
    (h : ∀ a x, (f a x).1.mem = a.1.mem) : (l.foldl f s).1.mem = s.1.mem := by
  induction l generalizing s with
  | nil => rfl
  | cons x r ih => simp [ih, h]

theorem snd_mem {α : Type} {r : α × State} {a : α} {t : State} {p : List Host.Cell} (h : r = (a, t)) (hr : r.2.mem = p) :
    t.mem = p := by subst h; exact hr
theorem snd_wf {α : Type} {r : α × State} {a : α} {t : State} (h : r = (a, t)) (hr : Memory.wf r.2.mem = true) :
    Memory.wf t.mem = true := by subst h; exact hr
theorem Loaded.ok_mem {r : Loaded} {bs : List Byte} {t : State} {p : List Host.Cell} (h : r = .ok bs t) (hr : r.state.mem = p) :
    t.mem = p := by subst h; exact hr
theorem Loaded.ue_mem {r : Loaded} {t : State} {p : List Host.Cell} (h : r = .ue t) (hr : r.state.mem = p) :
    t.mem = p := by subst h; exact hr
theorem Loaded.ok_wf {r : Loaded} {bs : List Byte} {t : State} (h : r = .ok bs t) (hr : Memory.wf r.state.mem = true) :
    Memory.wf t.mem = true := by subst h; exact hr
theorem Loaded.ue_wf {r : Loaded} {t : State} (h : r = .ue t) (hr : Memory.wf r.state.mem = true) :
    Memory.wf t.mem = true := by subst h; exact hr

end Sys2Proof.Machine
end

