-- ==== Sys2Proof/Laws/KeepVatOps.lean ====
section
/-! SUPPORT. What the functions of Machine/Ops do to the Vat: those that store nothing leave it, the others keep its form. -/

namespace Sys2Proof.Machine

@[simp] theorem State.wr_mem (s : State) (d : Nat) (r : Reg) (v : Word64) : (State.wr s d r v).mem = s.mem := by rfl

@[simp] theorem State.put_mem (s : State) (d : Nat) (f : Field) (x : Nat) : (State.put s d f x).mem = s.mem := by rfl

@[simp] theorem State.putFlag_mem (s : State) (d : Nat) (f : Field) (b : Bool) : (State.putFlag s d f b).mem = s.mem := by rfl

@[simp] theorem State.puts_mem (s : State) (d : Nat) (l : List (Field × Nat)) : (State.puts s d l).mem = s.mem := by
  unfold State.puts
  repeat' first
    | with_reducible rfl
    | intro _
    | with_reducible refine Eq.trans (State.put_mem _ _ _ _) ?_
    | with_reducible refine Eq.trans (foldl_mem _ _ _ ?_) ?_

@[simp] theorem State.count_mem (s : State) (d : Nat) (f : Field) (k : Nat) : (State.count s d f k).mem = s.mem := by rfl

@[simp] theorem State.setBit_mem (s : State) (d : Nat) (f : Field) (i : Nat) : (State.setBit s d f i).mem = s.mem := by rfl

@[simp] theorem State.clrBit_mem (s : State) (d : Nat) (f : Field) (i : Nat) : (State.clrBit s d f i).mem = s.mem := by rfl

@[simp] theorem State.eachDie_mem (s : State) (f : Nat → State → State) (h : ∀ d a, (f d a).mem = a.mem) :
    (s.eachDie f).mem = s.mem := by
  unfold State.eachDie; exact foldl_mem _ _ _ (fun a x => h x a)

@[simp] theorem State.eachDie_wf (s : State) (f : Nat → State → State) (h : ∀ d a, Memory.wf a.mem = true → Memory.wf (f d a).mem = true)
    (hw : Memory.wf s.mem = true) : Memory.wf (s.eachDie f).mem = true := by
  unfold State.eachDie; exact foldl_wf _ _ _ (fun a x => h x a) hw

@[simp] theorem State.freeVal_mem (s : State) (m : Nat) : (State.freeVal s m).2.mem = s.mem := by rfl

@[simp] theorem State.setByte_wf (s : State) (d off : Nat) (v : Byte) (hw : Memory.wf s.mem = true) : Memory.wf (s.setByte d off v).mem = true := by
  unfold State.setByte; exact Memory.wf_set _ _ _ hw

@[simp] theorem State.writeBytes_wf (s : State) (d off : Nat) (x0 : List Byte) (hw : Memory.wf s.mem = true) : Memory.wf (State.writeBytes s d off x0).mem = true := by
  induction x0 generalizing s d off with
  | nil =>
    unfold State.writeBytes
    repeat' first
      | with_reducible assumption
  | cons _ _ ih =>
    unfold State.writeBytes
    repeat' first
      | with_reducible assumption
      | with_reducible refine ih _ _ _ ?_
      | with_reducible refine State.setByte_wf _ _ _ _ ?_

@[simp] theorem State.writeLE_wf (s : State) (d off n x : Nat) (hw : Memory.wf s.mem = true) : Memory.wf (State.writeLE s d off n x).mem = true := by
  unfold State.writeLE
  repeat' first
    | with_reducible assumption
    | with_reducible refine State.writeBytes_wf _ _ _ _ ?_

end Sys2Proof.Machine
end

