-- ==== Sys2Proof/Laws/KeepVatVatOps.lean ====
section
/-! SUPPORT. What the functions of Machine/VatOps do to the Vat: those that store nothing leave it, the others keep its form. -/

namespace Sys2Proof.Machine

@[simp] theorem State.setWordErr_mem (s : State) (d off m : Nat) : (State.setWordErr s d off m).mem = s.mem := by rfl

@[simp] theorem State.setBank_wf (s : State) (d b : Nat) (k : Bank) (hw : Memory.wf s.mem = true) : Memory.wf (State.setBank s d b k).mem = true := by
  unfold State.setBank
  repeat' first
    | with_reducible assumption

@[simp] theorem State.eccCe_wf (s : State) (d off syn : Nat) (hw : Memory.wf s.mem = true) : Memory.wf (State.eccCe s d off syn).mem = true := by
  unfold State.eccCe
  repeat' first
    | with_reducible assumption
    | with_reducible refine keep_wf (State.count_mem _ _ _ _) ?_
    | with_reducible refine keep_wf (State.put_mem _ _ _ _) ?_
    | with_reducible refine keep_wf (State.putFlag_mem _ _ _ _) ?_
    | with_reducible refine State.setBank_wf _ _ _ _ ?_

@[simp] theorem State.eccUe_mem (s : State) (d off syn source : Nat) : (State.eccUe s d off syn source).mem = s.mem := by
  unfold State.eccUe
  repeat' first
    | with_reducible rfl
    | with_reducible refine Eq.trans (State.count_mem _ _ _ _) ?_
    | with_reducible refine Eq.trans (State.put_mem _ _ _ _) ?_
    | with_reducible refine Eq.trans (State.putFlag_mem _ _ _ _) ?_
    | with_reducible refine ite_mem' _ _ ?_ ?_

@[simp] theorem State.eccWord_wf (s : State) (d off source : Nat) (hw : Memory.wf s.mem = true) : Memory.wf (State.eccWord s d off source).2.mem = true := by
  unfold State.eccWord
  repeat' first
    | with_reducible assumption
    | with_reducible refine State.eccCe_wf _ _ _ _ ?_
    | with_reducible refine keep_wf (State.eccUe_mem _ _ _ _ _) ?_
    | with_reducible refine ite_snd_wf _ _ ?_ ?_
    | dsimp only
    | split

@[simp] theorem State.eccWords_wf (s : State) (d w source : Nat) (x0 : Nat) (hw : Memory.wf s.mem = true) : Memory.wf (State.eccWords s d w source x0).2.mem = true := by
  induction x0 generalizing s d w source with
  | zero =>
    unfold State.eccWords
    repeat' first
      | with_reducible assumption
  | succ _ ih =>
    unfold State.eccWords
    repeat' first
      | with_reducible assumption
      | with_reducible refine ih _ _ _ _ ?_
      | with_reducible refine State.eccWord_wf _ _ _ _ ?_

@[simp] theorem State.vatRead_wf (s : State) (d off n source : Nat) (hw : Memory.wf s.mem = true) : Memory.wf (State.vatRead s d off n source).2.2.mem = true := by
  unfold State.vatRead
  repeat' first
    | with_reducible assumption
    | with_reducible refine State.eccWords_wf _ _ _ _ _ ?_

@[simp] theorem State.clearErrs_mem (s : State) (d off n : Nat) : (State.clearErrs s d off n).mem = s.mem := by
  unfold State.clearErrs
  repeat' first
    | with_reducible rfl
    | with_reducible refine ite_mem' _ _ ?_ ?_

@[simp] theorem State.vatStore_wf (s : State) (d off : Nat) (bs : List Byte) (hw : Memory.wf s.mem = true) : Memory.wf (State.vatStore s d off bs).mem = true := by
  unfold State.vatStore
  repeat' first
    | with_reducible assumption
    | with_reducible refine keep_wf (State.clearErrs_mem _ _ _ _) ?_
    | with_reducible refine State.writeBytes_wf _ _ _ _ ?_

@[simp] theorem State.lineWrite_wf (s : State) (d off source : Nat) (bs : List Byte) (hw : Memory.wf s.mem = true) : Memory.wf (State.lineWrite s d off source bs).2.mem = true := by
  unfold State.lineWrite
  repeat' first
    | with_reducible assumption
    | with_reducible refine keep_wf (State.clearErrs_mem _ _ _ _) ?_
    | with_reducible refine State.eccWords_wf _ _ _ _ _ ?_
    | with_reducible refine State.vatStore_wf _ _ _ _ ?_
    | with_reducible refine State.writeBytes_wf _ _ _ _ ?_
    | with_reducible refine ite_snd_wf _ _ ?_ ?_

@[simp] theorem State.vatWrite_wf (s : State) (d off source : Nat) (bs : List Byte) (x0 : Nat) (hw : Memory.wf s.mem = true) : Memory.wf (State.vatWrite s d off source bs x0).2.mem = true := by
  induction x0 generalizing s d off source bs with
  | zero =>
    unfold State.vatWrite
    repeat' first
      | with_reducible assumption
  | succ _ ih =>
    unfold State.vatWrite
    repeat' first
      | with_reducible assumption
      | with_reducible refine ih _ _ _ _ _ ?_
      | with_reducible refine State.lineWrite_wf _ _ _ _ _ ?_
      | dsimp only
      | split

@[simp] theorem State.portRead_wf (s : State) (d off n source lead : Nat) (hw : Memory.wf s.mem = true) : Memory.wf (State.portRead s d off n source lead).2.2.mem = true := by
  unfold State.portRead
  repeat' first
    | with_reducible assumption
    | with_reducible refine State.vatRead_wf _ _ _ _ _ ?_

@[simp] theorem State.vatViolation_mem (s : State) (d m t line : Nat) (write prot : Bool) : (State.vatViolation s d m t line write prot).mem = s.mem := by
  unfold State.vatViolation
  repeat' first
    | with_reducible rfl
    | with_reducible refine Eq.trans (State.count_mem _ _ _ _) ?_
    | with_reducible refine Eq.trans (State.put_mem _ _ _ _) ?_
    | with_reducible refine Eq.trans (State.putFlag_mem _ _ _ _) ?_
    | with_reducible refine ite_mem' _ _ ?_ ?_

@[simp] theorem State.vatAllowed_mem (s : State) (d m t off n : Nat) (write : Bool) : (State.vatAllowed s d m t off n write).2.mem = s.mem := by
  unfold State.vatAllowed
  repeat' first
    | with_reducible rfl
    | with_reducible refine Eq.trans (State.vatViolation_mem _ _ _ _ _ _ _) ?_
    | split

@[simp] theorem State.pput_mem (s : State) (p t : Nat) (f : Field) (x : Nat) : (State.pput s p t f x).mem = s.mem := by rfl

@[simp] theorem State.pputFlag_mem (s : State) (p t : Nat) (f : Field) (b : Bool) : (State.pputFlag s p t f b).mem = s.mem := by rfl

@[simp] theorem State.pageEvent_mem (s : State) (t : Nat) (f : Field) : (State.pageEvent s t f).mem = s.mem := by
  unfold State.pageEvent
  repeat' first
    | with_reducible rfl
    | intro _
    | with_reducible refine Eq.trans (State.pputFlag_mem _ _ _ _ _) ?_
    | with_reducible refine Eq.trans (foldl_mem _ _ _ ?_) ?_

end Sys2Proof.Machine
end

