-- ==== Sys2Proof/Laws/KeepVatDpOps.lean ====
section
/-! SUPPORT. What the functions of Machine/DpOps do to the Vat: those that store nothing leave it, the others keep its form. -/

namespace Sys2Proof.Machine

@[simp] theorem State.readDesc_wf (s : State) (d slot source : Nat) (hw : Memory.wf s.mem = true) : Memory.wf (State.readDesc s d slot source).2.2.mem = true := by
  unfold State.readDesc
  repeat' first
    | with_reducible assumption
    | with_reducible refine State.vatRead_wf _ _ _ _ _ ?_

@[simp] theorem State.readRec_wf (s : State) (d slot source : Nat) (hw : Memory.wf s.mem = true) : Memory.wf (State.readRec s d slot source).2.2.mem = true := by
  unfold State.readRec
  repeat' first
    | with_reducible assumption
    | with_reducible refine State.vatRead_wf _ _ _ _ _ ?_

@[simp] theorem State.setSkv_wf (s : State) (d slot : Nat) (e : Skv) (hw : Memory.wf s.mem = true) : Memory.wf (State.setSkv s d slot e).mem = true := by
  unfold State.setSkv
  repeat' first
    | with_reducible assumption
    | with_reducible refine keep_wf (State.put_mem _ _ _ _) ?_

@[simp] theorem State.queueMirror_mem (s : State) (m : MirrorMsg) : (State.queueMirror s m).mem = s.mem := by
  unfold State.queueMirror
  repeat' first
    | with_reducible rfl
    | with_reducible refine Eq.trans (State.count_mem _ _ _ _) ?_
    | with_reducible refine Eq.trans (State.putFlag_mem _ _ _ _) ?_
    | with_reducible refine ite_mem' _ _ ?_ ?_

@[simp] theorem State.mirrorSend_mem (s : State) (dpi : Nat) (c : Desc) (r : DpRec) : (State.mirrorSend s dpi c r).mem = s.mem := by
  unfold State.mirrorSend
  repeat' first
    | with_reducible rfl
    | intro _
    | with_reducible refine Eq.trans (State.queueMirror_mem _ _) ?_
    | with_reducible refine ite_mem' _ _ ?_ ?_
    | with_reducible refine Eq.trans (foldl_mem _ _ _ ?_) ?_

@[simp] theorem State.updateRec_wf (s : State) (d slot : Nat) (c : Desc) (r : DpRec) (hw : Memory.wf s.mem = true) : Memory.wf (State.updateRec s d slot c r).mem = true := by
  unfold State.updateRec
  repeat' first
    | with_reducible assumption
    | with_reducible refine keep_wf (State.mirrorSend_mem _ _ _ _) ?_
    | with_reducible refine State.setSkv_wf _ _ _ _ ?_
    | with_reducible refine State.vatStore_wf _ _ _ _ ?_

@[simp] theorem State.prevRec_wf (s : State) (d slot : Nat) (hw : Memory.wf s.mem = true) : Memory.wf (State.prevRec s d slot).2.2.mem = true := by
  unfold State.prevRec
  repeat' first
    | with_reducible assumption
    | with_reducible refine keep_wf (State.count_mem _ _ _ _) ?_
    | with_reducible refine keep_wf (State.putFlag_mem _ _ _ _) ?_
    | with_reducible refine State.readRec_wf _ _ _ _ ?_
    | dsimp only
    | split

@[simp] theorem State.refuseCommit_mem (s : State) (d reason dpi issuer : Nat) (subst : Bool) : (State.refuseCommit s d reason dpi issuer subst).mem = s.mem := by
  unfold State.refuseCommit
  repeat' first
    | with_reducible rfl
    | with_reducible refine Eq.trans (State.count_mem _ _ _ _) ?_
    | with_reducible refine Eq.trans (State.put_mem _ _ _ _) ?_
    | with_reducible refine Eq.trans (State.putFlag_mem _ _ _ _) ?_
    | with_reducible refine ite_mem' _ _ ?_ ?_

@[simp] theorem State.measureLatency_mem (s : State) (d : Nat) (c : Desc) (endInstant : Option Nat) : (State.measureLatency s d c endInstant).mem = s.mem := by
  unfold State.measureLatency
  repeat' first
    | with_reducible rfl
    | with_reducible refine Eq.trans (State.count_mem _ _ _ _) ?_
    | with_reducible refine Eq.trans (State.put_mem _ _ _ _) ?_
    | with_reducible refine Eq.trans (State.putFlag_mem _ _ _ _) ?_
    | with_reducible refine ite_mem' _ _ ?_ ?_
    | dsimp only
    | split

@[simp] theorem State.futureSrc_mem (s : State) (d : Nat) (c : Desc) (srcValid : Bool) (src arr : Nat) : (State.futureSrc s d c srcValid src arr).mem = s.mem := by
  unfold State.futureSrc
  repeat' first
    | with_reducible rfl
    | with_reducible refine Eq.trans (State.count_mem _ _ _ _) ?_
    | with_reducible refine Eq.trans (State.putFlag_mem _ _ _ _) ?_
    | with_reducible refine ite_mem' _ _ ?_ ?_

@[simp] theorem State.applyCommit_wf (s : State) (d slot : Nat) (c : Desc) (k : Commit) (hw : Memory.wf s.mem = true) : Memory.wf (State.applyCommit s d slot c k).mem = true := by
  unfold State.applyCommit
  repeat' first
    | with_reducible assumption
    | with_reducible refine keep_wf (State.count_mem _ _ _ _) ?_
    | with_reducible refine keep_wf (State.futureSrc_mem _ _ _ _ _ _) ?_
    | with_reducible refine keep_wf (State.measureLatency_mem _ _ _ _) ?_
    | with_reducible refine State.prevRec_wf _ _ _ ?_
    | with_reducible refine State.updateRec_wf _ _ _ _ _ ?_

@[simp] theorem State.handleCommit_wf (s : State) (k : Commit) (hw : Memory.wf s.mem = true) : Memory.wf (State.handleCommit s k).2.mem = true := by
  unfold State.handleCommit
  repeat' first
    | with_reducible assumption
    | with_reducible refine State.applyCommit_wf _ _ _ _ _ ?_
    | with_reducible refine State.readDesc_wf _ _ _ _ ?_
    | with_reducible refine keep_wf (State.refuseCommit_mem _ _ _ _ _ _) ?_
    | with_reducible refine State.vatRead_wf _ _ _ _ _ ?_
    | with_reducible refine ite_wf' _ _ ?_ ?_
    | with_reducible refine ite_snd_wf _ _ ?_ ?_
    | dsimp only
    | split

@[simp] theorem State.substitute_wf (s : State) (d tid : Nat) (e : ScatterElem) (release : Bool) (hw : Memory.wf s.mem = true) : Memory.wf (State.substitute s d tid e release).2.mem = true := by
  unfold State.substitute
  repeat' first
    | with_reducible assumption
    | with_reducible refine keep_wf (State.count_mem _ _ _ _) ?_
    | with_reducible refine keep_wf (State.futureSrc_mem _ _ _ _ _ _) ?_
    | with_reducible refine State.prevRec_wf _ _ _ ?_
    | with_reducible refine State.readDesc_wf _ _ _ _ ?_
    | with_reducible refine keep_wf (State.refuseCommit_mem _ _ _ _ _ _) ?_
    | with_reducible refine State.updateRec_wf _ _ _ _ _ ?_
    | with_reducible refine ite_wf' _ _ ?_ ?_
    | with_reducible refine ite_snd_wf _ _ ?_ ?_
    | dsimp only
    | split

@[simp] theorem State.fenceRec_wf (s : State) (d slot : Nat) (c : Desc) (hw : Memory.wf s.mem = true) : Memory.wf (State.fenceRec s d slot c).mem = true := by
  unfold State.fenceRec
  repeat' first
    | with_reducible assumption
    | with_reducible refine keep_wf (State.count_mem _ _ _ _) ?_
    | with_reducible refine State.readRec_wf _ _ _ _ ?_
    | with_reducible refine State.updateRec_wf _ _ _ _ _ ?_
    | with_reducible refine ite_wf' _ _ ?_ ?_

@[simp] theorem State.markWriter_wf (s : State) (u d : Nat) (hw : Memory.wf s.mem = true) : Memory.wf (State.markWriter s u d).mem = true := by
  unfold State.markWriter
  repeat' first
    | with_reducible assumption
    | (intro a x hx)
    | with_reducible refine State.fenceRec_wf _ _ _ _ ?_
    | with_reducible refine keep_wf (State.put_mem _ _ _ _) ?_
    | with_reducible refine keep_wf (State.putFlag_mem _ _ _ _) ?_
    | with_reducible refine State.readDesc_wf _ _ _ _ ?_
    | with_reducible refine ite_wf' _ _ ?_ ?_
    | with_reducible refine foldl_wf _ _ _ ?_ ?_

@[simp] theorem State.fenceUnits_wf (s : State) (us : List Nat) (hw : Memory.wf s.mem = true) : Memory.wf (State.fenceUnits s us).mem = true := by
  unfold State.fenceUnits
  repeat' first
    | with_reducible assumption
    | (intro a x hx)
    | with_reducible refine State.eachDie_wf _ _ ?_ ?_
    | with_reducible refine State.markWriter_wf _ _ _ ?_
    | with_reducible refine foldl_wf _ _ _ ?_ ?_

@[simp] theorem State.unfenceUnits_mem (s : State) (us : List Nat) : (State.unfenceUnits s us).mem = s.mem := by rfl

end Sys2Proof.Machine
end

