-- ==== Sys2Proof/Laws/KeepVatRecOps.lean ====
section
/-! SUPPORT. What the functions of Machine/RecOps do to the Vat: those that store nothing leave it, the others keep its form. -/

namespace Sys2Proof.Machine

@[simp] theorem State.setRecDie_wf (s : State) (d : Nat) (r : RecDie) (hw : Memory.wf s.mem = true) : Memory.wf (State.setRecDie s d r).mem = true := by
  unfold State.setRecDie
  repeat' first
    | with_reducible assumption

@[simp] theorem State.setLoss_wf (s : State) (d c : Nat) (l : Loss) (hw : Memory.wf s.mem = true) : Memory.wf (State.setLoss s d c l).mem = true := by
  unfold State.setLoss
  repeat' first
    | with_reducible assumption
    | with_reducible refine keep_wf (State.clrBit_mem _ _ _ _) ?_
    | with_reducible refine keep_wf (State.setBit_mem _ _ _ _) ?_
    | with_reducible refine State.setRecDie_wf _ _ _ ?_
    | with_reducible refine ite_wf' _ _ ?_ ?_

@[simp] theorem State.setRblock_wf (s : State) (d b : Nat) (k : RBlock) (hw : Memory.wf s.mem = true) : Memory.wf (State.setRblock s d b k).mem = true := by
  unfold State.setRblock
  repeat' first
    | with_reducible assumption
    | with_reducible refine State.setRecDie_wf _ _ _ ?_
    | with_reducible refine State.vatStore_wf _ _ _ _ ?_

@[simp] theorem State.syncOcc_wf (s : State) (d : Nat) (hw : Memory.wf s.mem = true) : Memory.wf (State.syncOcc s d).mem = true := by
  unfold State.syncOcc
  repeat' first
    | with_reducible assumption
    | with_reducible refine keep_wf (State.put_mem _ _ _ _) ?_

@[simp] theorem State.closeCur_wf (s : State) (d : Nat) (hw : Memory.wf s.mem = true) : Memory.wf (State.closeCur s d).mem = true := by
  unfold State.closeCur
  repeat' first
    | with_reducible assumption
    | with_reducible refine keep_wf (State.put_mem _ _ _ _) ?_
    | with_reducible refine State.setRblock_wf _ _ _ _ ?_
    | with_reducible refine ite_wf' _ _ ?_ ?_

@[simp] theorem State.endSnaps_mem (s : State) (d : Nat) (b : RBlock) : (State.endSnaps s d b).mem = s.mem := by
  unfold State.endSnaps
  repeat' first
    | with_reducible rfl
    | intro _
    | with_reducible refine Eq.trans (State.putFlag_mem _ _ _ _) ?_
    | with_reducible refine ite_mem' _ _ ?_ ?_
    | with_reducible refine Eq.trans (foldl_mem _ _ _ ?_) ?_

@[simp] theorem State.storeRec_wf (s : State) (d : Nat) (r : Rec) (hw : Memory.wf s.mem = true) : Memory.wf (State.storeRec s d r).mem = true := by
  unfold State.storeRec
  repeat' first
    | with_reducible assumption
    | with_reducible refine State.closeCur_wf _ _ ?_
    | with_reducible refine keep_wf (State.endSnaps_mem _ _ _) ?_
    | with_reducible refine State.setRblock_wf _ _ _ _ ?_
    | with_reducible refine State.syncOcc_wf _ _ ?_
    | with_reducible refine ite_wf' _ _ ?_ ?_

@[simp] theorem State.loseRec_wf (s : State) (d : Nat) (sys : Bool) (c seq cause : Nat) (hw : Memory.wf s.mem = true) : Memory.wf (State.loseRec s d sys c seq cause).mem = true := by
  unfold State.loseRec
  repeat' first
    | with_reducible assumption
    | with_reducible refine keep_wf (State.count_mem _ _ _ _) ?_
    | with_reducible refine keep_wf (State.putFlag_mem _ _ _ _) ?_
    | with_reducible refine State.setLoss_wf _ _ _ _ ?_
    | with_reducible refine ite_wf' _ _ ?_ ?_

@[simp] theorem State.refuseRec_wf (s : State) (d : Nat) (hw : Memory.wf s.mem = true) : Memory.wf (State.refuseRec s d).mem = true := by
  unfold State.refuseRec
  repeat' first
    | with_reducible assumption
    | with_reducible refine keep_wf (State.count_mem _ _ _ _) ?_
    | with_reducible refine keep_wf (State.putFlag_mem _ _ _ _) ?_
    | with_reducible refine ite_wf' _ _ ?_ ?_

@[simp] theorem State.advanceSeq_mem (s : State) (d : Nat) : (State.advanceSeq s d).mem = s.mem := by
  unfold State.advanceSeq
  repeat' first
    | with_reducible rfl
    | with_reducible refine Eq.trans (State.put_mem _ _ _ _) ?_
    | with_reducible refine Eq.trans (State.putFlag_mem _ _ _ _) ?_
    | with_reducible refine ite_mem' _ _ ?_ ?_

@[simp] theorem State.sequence_wf (s : State) (d : Nat) (sys : Bool) (c fmt source tid : Nat) (body : List Byte) (hw : Memory.wf s.mem = true) : Memory.wf (State.sequence s d sys c fmt source tid body).2.mem = true := by
  unfold State.sequence
  repeat' first
    | with_reducible assumption
    | with_reducible refine keep_wf (State.advanceSeq_mem _ _) ?_
    | with_reducible refine State.loseRec_wf _ _ _ _ _ _ ?_
    | with_reducible refine State.storeRec_wf _ _ _ ?_
    | with_reducible refine ite_snd_wf _ _ ?_ ?_

@[simp] theorem State.submitRec_wf (s : State) (d c fmt source tid : Nat) (body : List Byte) (hw : Memory.wf s.mem = true) : Memory.wf (State.submitRec s d c fmt source tid body).mem = true := by
  unfold State.submitRec
  repeat' first
    | with_reducible assumption
    | with_reducible refine State.refuseRec_wf _ _ ?_
    | with_reducible refine State.sequence_wf _ _ _ _ _ _ _ _ ?_
    | with_reducible refine ite_wf' _ _ ?_ ?_

@[simp] theorem State.partRec_wf (s : State) (d c ty inst : Nat) (body : List Byte) (hw : Memory.wf s.mem = true) : Memory.wf (State.partRec s d c ty inst body).mem = true := by
  unfold State.partRec
  repeat' first
    | with_reducible assumption
    | with_reducible refine State.submitRec_wf _ _ _ _ _ _ _ ?_

@[simp] theorem State.sysRec_wf (s : State) (d c fmt : Nat) (body : List Byte) (hw : Memory.wf s.mem = true) : Memory.wf (State.sysRec s d c fmt body).2.mem = true := by
  unfold State.sysRec
  repeat' first
    | with_reducible assumption
    | with_reducible refine State.sequence_wf _ _ _ _ _ _ _ _ ?_
    | with_reducible refine ite_snd_wf _ _ ?_ ?_

@[simp] theorem State.writeLoss_wf (s : State) (d c : Nat) (hw : Memory.wf s.mem = true) : Memory.wf (State.writeLoss s d c).mem = true := by
  unfold State.writeLoss
  repeat' first
    | with_reducible assumption
    | with_reducible refine State.setLoss_wf _ _ _ _ ?_
    | with_reducible refine State.sysRec_wf _ _ _ _ _ ?_
    | with_reducible refine ite_wf' _ _ ?_ ?_

@[simp] theorem State.writeLosses_wf (s : State) (d : Nat) (hw : Memory.wf s.mem = true) : Memory.wf (State.writeLosses s d).mem = true := by
  unfold State.writeLosses
  repeat' first
    | with_reducible assumption
    | (intro a x hx)
    | with_reducible refine State.writeLoss_wf _ _ _ ?_
    | with_reducible refine ite_wf' _ _ ?_ ?_
    | with_reducible refine foldl_wf _ _ _ ?_ ?_

@[simp] theorem State.markRec_wf (s : State) (d cause prev : Nat) (hw : Memory.wf s.mem = true) : Memory.wf (State.markRec s d cause prev).mem = true := by
  unfold State.markRec
  repeat' first
    | with_reducible assumption
    | with_reducible refine State.sysRec_wf _ _ _ _ _ ?_

end Sys2Proof.Machine
end

