-- ==== Sys2Proof/Laws/KeepVatAwlBase.lean ====
section
/-! SUPPORT. What the functions of Machine/AwlBase do to the Vat: those that store nothing leave it, the others keep its form. -/

namespace Sys2Proof.Machine

@[simp] theorem State.fenceRefused_mem (s : State) (d n : Nat) : (State.fenceRefused s d n).mem = s.mem := by rfl

@[simp] theorem State.setEng_mem (s : State) (d e : Nat) (g : Eng) : (State.setEng s d e g).mem = s.mem := by rfl

@[simp] theorem State.modEng_mem (s : State) (d e : Nat) (f : Eng → Eng) : (State.modEng s d e f).mem = s.mem := by rfl

@[simp] theorem State.setCl_wf (s : State) (d c : Nat) (k : Cl) (hw : Memory.wf s.mem = true) : Memory.wf (State.setCl s d c k).mem = true := by
  unfold State.setCl
  repeat' first
    | with_reducible assumption

@[simp] theorem State.raise_mem (s : State) (d e n : Nat) : (State.raise s d e n).mem = s.mem := by rfl

@[simp] theorem State.spadSet_mem (s : State) (d c w : Nat) (v : W16) : (State.spadSet s d c w v).mem = s.mem := by rfl

@[simp] theorem State.spadLoad_mem (s : State) (d c w : Nat) : (State.spadLoad s d c w).2.mem = s.mem := by
  unfold State.spadLoad
  repeat' first
    | with_reducible rfl
    | dsimp only
    | split

@[simp] theorem State.loadBank_wf (s : State) (d c b : Nat) (code : List Nat) (hw : Memory.wf s.mem = true) : Memory.wf (State.loadBank s d c b code).mem = true := by
  unfold State.loadBank
  repeat' first
    | with_reducible assumption

@[simp] theorem State.spadWords_mem (s : State) (d c w : Nat) (x0 : List Nat) : (State.spadWords s d c w x0).mem = s.mem := by
  induction x0 generalizing s d c w with
  | nil =>
    unfold State.spadWords
    repeat' first
      | with_reducible rfl
  | cons _ _ ih =>
    unfold State.spadWords
    repeat' first
      | with_reducible rfl
      | with_reducible refine Eq.trans (ih _ _ _ _) ?_
      | with_reducible refine Eq.trans (State.spadSet_mem _ _ _ _ _) ?_

@[simp] theorem State.spadZero_mem (s : State) (d c lo n : Nat) : (State.spadZero s d c lo n).mem = s.mem := by rfl

@[simp] theorem State.initPriv_mem (s : State) (c : HarnessCfg) (d e : Nat) : (State.initPriv s c d e).mem = s.mem := by
  unfold State.initPriv
  repeat' first
    | with_reducible rfl
    | with_reducible refine Eq.trans (State.spadWords_mem _ _ _ _ _) ?_
    | with_reducible refine Eq.trans (State.spadZero_mem _ _ _ _ _) ?_
    | dsimp only
    | split

@[simp] theorem State.initShared_mem (s : State) (c : HarnessCfg) (d k : Nat) : (State.initShared s c d k).mem = s.mem := by
  unfold State.initShared
  repeat' first
    | with_reducible rfl
    | with_reducible refine Eq.trans (State.spadWords_mem _ _ _ _ _) ?_
    | with_reducible refine Eq.trans (State.spadZero_mem _ _ _ _ _) ?_
    | dsimp only
    | split

@[simp] theorem State.writePack_wf (s : State) (c : HarnessCfg) (d k b : Nat) (hw : Memory.wf s.mem = true) : Memory.wf (State.writePack s c d k b).mem = true := by
  unfold State.writePack
  repeat' first
    | with_reducible assumption
    | with_reducible refine State.loadBank_wf _ _ _ _ _ ?_
    | with_reducible refine State.setCl_wf _ _ _ _ ?_

end Sys2Proof.Machine
end

