-- ==== Sys2Proof/Laws/KeepVatRcvOps.lean ====
section
/-! SUPPORT. What the functions of Machine/RcvOps do to the Vat: those that store nothing leave it, the others keep its form. -/

namespace Sys2Proof.Machine

@[simp] theorem State.setDom_mem (s : State) (d n st : Nat) : (State.setDom s d n st).mem = s.mem := by
  unfold State.setDom
  repeat' first
    | with_reducible rfl
    | with_reducible refine Eq.trans (State.clrBit_mem _ _ _ _) ?_
    | with_reducible refine Eq.trans (State.put_mem _ _ _ _) ?_
    | with_reducible refine Eq.trans (State.putFlag_mem _ _ _ _) ?_
    | with_reducible refine Eq.trans (State.setBit_mem _ _ _ _) ?_
    | with_reducible refine ite_mem' _ _ ?_ ?_

@[simp] theorem State.powRec_wf (s : State) (d cls kind detail die old count : Nat) (hw : Memory.wf s.mem = true) : Memory.wf (State.powRec s d cls kind detail die old count).mem = true := by
  unfold State.powRec
  repeat' first
    | with_reducible assumption
    | with_reducible refine State.partRec_wf _ _ _ _ _ _ ?_

@[simp] theorem State.rcvRec_wf (s : State) (d cls kind detail trig : Nat) (absorbed : Bool) (u count : Nat) (hw : Memory.wf s.mem = true) : Memory.wf (State.rcvRec s d cls kind detail trig absorbed u count).mem = true := by
  unfold State.rcvRec
  repeat' first
    | with_reducible assumption
    | with_reducible refine State.partRec_wf _ _ _ _ _ _ ?_

@[simp] theorem State.faultRec_wf (s : State) (d c u : Nat) (hw : Memory.wf s.mem = true) : Memory.wf (State.faultRec s d c u).mem = true := by
  unfold State.faultRec
  repeat' first
    | with_reducible assumption
    | with_reducible refine State.rcvRec_wf _ _ _ _ _ _ _ _ _ ?_
    | with_reducible refine ite_wf' _ _ ?_ ?_

@[simp] theorem State.breakCond_wf (s : State) (b : Nat) (hw : Memory.wf s.mem = true) : Memory.wf (State.breakCond s b).mem = true := by
  unfold State.breakCond
  repeat' first
    | with_reducible assumption
    | with_reducible refine State.rcvRec_wf _ _ _ _ _ _ _ _ _ ?_
    | with_reducible refine keep_wf (State.setBit_mem _ _ _ _) ?_
    | with_reducible refine ite_wf' _ _ ?_ ?_

@[simp] theorem State.latchFault_wf (s : State) (d c u : Nat) (hw : Memory.wf s.mem = true) : Memory.wf (State.latchFault s d c u).mem = true := by
  unfold State.latchFault
  repeat' first
    | with_reducible assumption
    | with_reducible refine State.breakCond_wf _ _ ?_
    | with_reducible refine State.faultRec_wf _ _ _ _ ?_
    | with_reducible refine keep_wf (State.putFlag_mem _ _ _ _) ?_
    | with_reducible refine keep_wf (State.setBit_mem _ _ _ _) ?_
    | with_reducible refine ite_wf' _ _ ?_ ?_

@[simp] theorem State.condFault_wf (s : State) (d c u : Nat) (on : Bool) (hw : Memory.wf s.mem = true) : Memory.wf (State.condFault s d c u on).mem = true := by
  unfold State.condFault
  repeat' first
    | with_reducible assumption
    | with_reducible refine keep_wf (State.clrBit_mem _ _ _ _) ?_
    | with_reducible refine State.latchFault_wf _ _ _ _ ?_
    | with_reducible refine keep_wf (State.setBit_mem _ _ _ _) ?_
    | with_reducible refine ite_wf' _ _ ?_ ?_

@[simp] theorem State.rungTaken_wf (s : State) (d rung trig cls u : Nat) (absorbed : Bool) (hw : Memory.wf s.mem = true) : Memory.wf (State.rungTaken s d rung trig cls u absorbed).mem = true := by
  unfold State.rungTaken
  repeat' first
    | with_reducible assumption
    | with_reducible refine keep_wf (State.put_mem _ _ _ _) ?_
    | with_reducible refine keep_wf (State.putFlag_mem _ _ _ _) ?_
    | with_reducible refine State.rcvRec_wf _ _ _ _ _ _ _ _ _ ?_
    | with_reducible refine ite_wf' _ _ ?_ ?_

@[simp] theorem State.rung2Done_mem (s : State) (d : Nat) : (State.rung2Done s d).mem = s.mem := by rfl

@[simp] theorem State.unitResetDone_mem (s : State) (d u : Nat) : (State.unitResetDone s d u).mem = s.mem := by
  unfold State.unitResetDone
  repeat' first
    | with_reducible rfl
    | with_reducible refine Eq.trans (State.put_mem _ _ _ _) ?_
    | with_reducible refine Eq.trans (State.putFlag_mem _ _ _ _) ?_
    | with_reducible refine Eq.trans (State.rung2Done_mem _ _) ?_
    | with_reducible refine ite_mem' _ _ ?_ ?_

end Sys2Proof.Machine
end

