-- ==== Sys2Proof/Laws/KeepVatLceOps.lean ====
section
/-! SUPPORT. What the functions of Machine/LceOps do to the Vat: those that store nothing leave it, the others keep its form. -/

namespace Sys2Proof.Machine

@[simp] theorem State.setLce_wf (s : State) (d e : Nat) (x : LaceEng) (hw : Memory.wf s.mem = true) : Memory.wf (State.setLce s d e x).mem = true := by
  unfold State.setLce
  repeat' first
    | with_reducible assumption

@[simp] theorem State.setLceState_mem (s : State) (d e st : Nat) : (State.setLceState s d e st).mem = s.mem := by
  unfold State.setLceState
  repeat' first
    | with_reducible rfl
    | with_reducible refine Eq.trans (State.clrBit_mem _ _ _ _) ?_
    | with_reducible refine Eq.trans (State.put_mem _ _ _ _) ?_
    | with_reducible refine Eq.trans (State.putFlag_mem _ _ _ _) ?_
    | with_reducible refine Eq.trans (State.setBit_mem _ _ _ _) ?_
    | with_reducible refine ite_mem' _ _ ?_ ?_

@[simp] theorem State.lceEvent_mem (s : State) (d e : Nat) : (State.lceEvent s d e).mem = s.mem := by
  unfold State.lceEvent
  repeat' first
    | with_reducible rfl
    | with_reducible refine Eq.trans (State.raise_mem _ _ _ _) ?_
    | with_reducible refine ite_mem' _ _ ?_ ?_
    | split

@[simp] theorem State.setFifos_wf (s : State) (d e : Nat) (i o : List Nat) (hw : Memory.wf s.mem = true) : Memory.wf (State.setFifos s d e i o).mem = true := by
  unfold State.setFifos
  repeat' first
    | with_reducible assumption
    | with_reducible refine keep_wf (State.put_mem _ _ _ _) ?_
    | with_reducible refine State.setLce_wf _ _ _ _ ?_

@[simp] theorem State.lcePush_wf (s : State) (d e w : Nat) (hw : Memory.wf s.mem = true) : Memory.wf (State.lcePush s d e w).mem = true := by
  unfold State.lcePush
  repeat' first
    | with_reducible assumption
    | with_reducible refine keep_wf (State.putFlag_mem _ _ _ _) ?_
    | with_reducible refine keep_wf (State.setBit_mem _ _ _ _) ?_
    | with_reducible refine State.setFifos_wf _ _ _ _ _ ?_
    | with_reducible refine ite_wf' _ _ ?_ ?_

@[simp] theorem State.lcePop_wf (s : State) (d e : Nat) (hw : Memory.wf s.mem = true) : Memory.wf (State.lcePop s d e).2.mem = true := by
  unfold State.lcePop
  repeat' first
    | with_reducible assumption
    | with_reducible refine keep_wf (State.putFlag_mem _ _ _ _) ?_
    | with_reducible refine State.setFifos_wf _ _ _ _ _ ?_
    | with_reducible refine ite_snd_wf _ _ ?_ ?_
    | split

@[simp] theorem State.drivePin_mem (s : State) (d p : Nat) (v : Bool) : (State.drivePin s d p v).mem = s.mem := by
  unfold State.drivePin
  repeat' first
    | with_reducible rfl
    | with_reducible refine Eq.trans (State.clrBit_mem _ _ _ _) ?_
    | with_reducible refine Eq.trans (State.putFlag_mem _ _ _ _) ?_
    | with_reducible refine Eq.trans (State.setBit_mem _ _ _ _) ?_
    | with_reducible refine ite_mem' _ _ ?_ ?_

@[simp] theorem State.safePin_mem (s : State) (d p : Nat) : (State.safePin s d p).mem = s.mem := by
  unfold State.safePin
  repeat' first
    | with_reducible rfl
    | with_reducible refine Eq.trans (State.clrBit_mem _ _ _ _) ?_
    | with_reducible refine Eq.trans (State.putFlag_mem _ _ _ _) ?_
    | with_reducible refine Eq.trans (State.setBit_mem _ _ _ _) ?_
    | with_reducible refine ite_mem' _ _ ?_ ?_
    | dsimp only
    | split

@[simp] theorem State.lceOutputs_mem (s : State) (d e x : Nat) : (State.lceOutputs s d e x).mem = s.mem := by
  unfold State.lceOutputs
  repeat' first
    | with_reducible rfl
    | intro _
    | with_reducible refine Eq.trans (State.drivePin_mem _ _ _ _) ?_
    | with_reducible refine ite_mem' _ _ ?_ ?_
    | with_reducible refine Eq.trans (foldl_mem _ _ _ ?_) ?_
    | split

@[simp] theorem State.lceStall_wf (s : State) (d e idx : Nat) (a draw : Bool) (hw : Memory.wf s.mem = true) : Memory.wf (State.lceStall s d e idx a draw).mem = true := by
  unfold State.lceStall
  repeat' first
    | with_reducible assumption
    | with_reducible refine keep_wf (State.count_mem _ _ _ _) ?_
    | with_reducible refine keep_wf (State.put_mem _ _ _ _) ?_
    | with_reducible refine keep_wf (State.putFlag_mem _ _ _ _) ?_
    | with_reducible refine keep_wf (State.setBit_mem _ _ _ _) ?_
    | with_reducible refine State.setLce_wf _ _ _ _ ?_
    | with_reducible refine keep_wf (State.setLceState_mem _ _ _ _) ?_
    | with_reducible refine ite_wf' _ _ ?_ ?_

@[simp] theorem State.lceShift_wf (s : State) (d e x : Nat) (a : Bool) (hw : Memory.wf s.mem = true) : Memory.wf (State.lceShift s d e x a).mem = true := by
  unfold State.lceShift
  repeat' first
    | with_reducible assumption
    | with_reducible refine keep_wf (State.lceEvent_mem _ _ _) ?_
    | with_reducible refine keep_wf (State.put_mem _ _ _ _) ?_
    | with_reducible refine State.setFifos_wf _ _ _ _ _ ?_
    | with_reducible refine ite_wf' _ _ ?_ ?_

@[simp] theorem State.lceApply_wf (s : State) (d e idx : Nat) (a : Bool) (hw : Memory.wf s.mem = true) : Memory.wf (State.lceApply s d e idx a).mem = true := by
  unfold State.lceApply
  repeat' first
    | with_reducible assumption
    | with_reducible refine keep_wf (State.lceOutputs_mem _ _ _ _) ?_
    | with_reducible refine State.lceShift_wf _ _ _ _ _ ?_
    | with_reducible refine State.lceStall_wf _ _ _ _ _ _ ?_
    | with_reducible refine keep_wf (State.put_mem _ _ _ _) ?_
    | with_reducible refine State.setLce_wf _ _ _ _ ?_
    | with_reducible refine keep_wf (State.setLceState_mem _ _ _ _) ?_
    | with_reducible refine ite_wf' _ _ ?_ ?_

@[simp] theorem State.lceFlag_mem (s : State) (d e idx : Nat) : (State.lceFlag s d e idx).mem = s.mem := by
  unfold State.lceFlag
  repeat' first
    | with_reducible rfl
    | with_reducible refine Eq.trans (State.clrBit_mem _ _ _ _) ?_
    | with_reducible refine Eq.trans (State.setBit_mem _ _ _ _) ?_
    | with_reducible refine ite_mem' _ _ ?_ ?_

@[simp] theorem State.lceTicks_wf (s : State) (d : Nat) (es : List Nat) (pins caps : Nat) (hw : Memory.wf s.mem = true) : Memory.wf (State.lceTicks s d es pins caps).mem = true := by
  unfold State.lceTicks
  repeat' first
    | with_reducible assumption
    | (intro a x hx)
    | with_reducible refine State.lceApply_wf _ _ _ _ _ ?_
    | with_reducible refine keep_wf (State.lceFlag_mem _ _ _ _) ?_
    | with_reducible refine keep_wf (State.put_mem _ _ _ _) ?_
    | with_reducible refine State.setLce_wf _ _ _ _ ?_
    | with_reducible refine foldl_wf _ _ _ ?_ ?_

@[simp] theorem State.lcePhase_wf (s : State) (d e : Nat) (hw : Memory.wf s.mem = true) : Memory.wf (State.lcePhase s d e).mem = true := by
  unfold State.lcePhase
  repeat' first
    | with_reducible assumption
    | with_reducible refine State.setLce_wf _ _ _ _ ?_

@[simp] theorem State.lceStart_wf (s : State) (d e : Nat) (hw : Memory.wf s.mem = true) : Memory.wf (State.lceStart s d e).mem = true := by
  unfold State.lceStart
  repeat' first
    | with_reducible assumption
    | with_reducible refine State.lcePhase_wf _ _ _ ?_
    | with_reducible refine keep_wf (State.setLceState_mem _ _ _ _) ?_

@[simp] theorem State.lceInit_wf (s : State) (d e : Nat) (hw : Memory.wf s.mem = true) : Memory.wf (State.lceInit s d e).mem = true := by
  unfold State.lceInit
  repeat' first
    | with_reducible assumption
    | with_reducible refine keep_wf (State.put_mem _ _ _ _) ?_
    | with_reducible refine State.setFifos_wf _ _ _ _ _ ?_

@[simp] theorem State.cueOne_wf (s : State) (d act e : Nat) (hw : Memory.wf s.mem = true) : Memory.wf (State.cueOne s d act e).mem = true := by
  unfold State.cueOne
  repeat' first
    | with_reducible assumption
    | with_reducible refine State.lceInit_wf _ _ _ ?_
    | with_reducible refine State.lcePhase_wf _ _ _ ?_
    | with_reducible refine State.lceStart_wf _ _ _ ?_
    | with_reducible refine keep_wf (State.setLceState_mem _ _ _ _) ?_
    | with_reducible refine ite_wf' _ _ ?_ ?_
    | split

@[simp] theorem State.cueAct_wf (s : State) (d act mask : Nat) (hw : Memory.wf s.mem = true) : Memory.wf (State.cueAct s d act mask).mem = true := by
  unfold State.cueAct
  repeat' first
    | with_reducible assumption
    | (intro a x hx)
    | with_reducible refine State.cueOne_wf _ _ _ _ ?_
    | with_reducible refine ite_wf' _ _ ?_ ?_
    | with_reducible refine foldl_wf _ _ _ ?_ ?_

@[simp] theorem State.cue_wf (s : State) (d act mask delay : Nat) (hw : Memory.wf s.mem = true) : Memory.wf (State.cue s d act mask delay).mem = true := by
  unfold State.cue
  repeat' first
    | with_reducible assumption
    | with_reducible refine State.cueAct_wf _ _ _ _ ?_
    | with_reducible refine keep_wf (State.putFlag_mem _ _ _ _) ?_
    | with_reducible refine ite_wf' _ _ ?_ ?_

@[simp] theorem State.loopDef_mem (s : State) (d e j first last : Nat) : (State.loopDef s d e j first last).mem = s.mem := by
  unfold State.loopDef
  repeat' first
    | with_reducible rfl
    | with_reducible refine Eq.trans (State.put_mem _ _ _ _) ?_
    | with_reducible refine ite_mem' _ _ ?_ ?_

@[simp] theorem State.divWrite_wf (s : State) (d e v : Nat) (hw : Memory.wf s.mem = true) : Memory.wf (State.divWrite s d e v).mem = true := by
  unfold State.divWrite
  repeat' first
    | with_reducible assumption
    | with_reducible refine keep_wf (State.put_mem _ _ _ _) ?_
    | with_reducible refine State.setLce_wf _ _ _ _ ?_
    | with_reducible refine ite_wf' _ _ ?_ ?_

@[simp] theorem State.putAll_mem (s : State) (d : Nat) (f : Nat → Field) (i : Nat) (x0 : List Nat) : (State.putAll s d f i x0).mem = s.mem := by
  induction x0 generalizing s d f i with
  | nil =>
    unfold State.putAll
    repeat' first
      | with_reducible rfl
  | cons _ _ ih =>
    unfold State.putAll
    repeat' first
      | with_reducible rfl
      | with_reducible refine Eq.trans (ih _ _ _ _) ?_
      | with_reducible refine Eq.trans (State.put_mem _ _ _ _) ?_

@[simp] theorem State.putSels_mem (s : State) (d e i : Nat) (x0 : List Nat) : (State.putSels s d e i x0).mem = s.mem := by
  induction x0 generalizing s d e i with
  | nil =>
    unfold State.putSels
    repeat' first
      | with_reducible rfl
  | cons _ _ ih =>
    unfold State.putSels
    repeat' first
      | with_reducible rfl
      | with_reducible refine Eq.trans (ih _ _ _ _) ?_
      | with_reducible refine Eq.trans (State.put_mem _ _ _ _) ?_

@[simp] theorem State.putLoops_mem (s : State) (d e j : Nat) (x0 : List (Nat × Nat)) : (State.putLoops s d e j x0).mem = s.mem := by
  induction x0 generalizing s d e j with
  | nil =>
    unfold State.putLoops
    repeat' first
      | with_reducible rfl
  | cons _ _ ih =>
    unfold State.putLoops
    repeat' first
      | with_reducible rfl
      | with_reducible refine Eq.trans (ih _ _ _ _) ?_
      | with_reducible refine Eq.trans (State.put_mem _ _ _ _) ?_

@[simp] theorem State.lceTunables_mem (s : State) (p : LaceProg) : (State.lceTunables s p).mem = s.mem := by
  unfold State.lceTunables
  repeat' first
    | with_reducible rfl
    | with_reducible refine Eq.trans (State.put_mem _ _ _ _) ?_
    | with_reducible refine Eq.trans (State.putLoops_mem _ _ _ _ _) ?_

@[simp] theorem State.lceLoad_wf (s : State) (c : HarnessCfg) (d e : Nat) (hw : Memory.wf s.mem = true) : Memory.wf (State.lceLoad s c d e).mem = true := by
  unfold State.lceLoad
  repeat' first
    | with_reducible assumption
    | with_reducible refine State.lceInit_wf _ _ _ ?_
    | with_reducible refine keep_wf (State.lceTunables_mem _ _) ?_
    | with_reducible refine keep_wf (State.put_mem _ _ _ _) ?_
    | with_reducible refine keep_wf (State.putAll_mem _ _ _ _ _) ?_
    | with_reducible refine keep_wf (State.putFlag_mem _ _ _ _) ?_
    | with_reducible refine keep_wf (State.putSels_mem _ _ _ _ _) ?_
    | with_reducible refine State.setLce_wf _ _ _ _ ?_
    | with_reducible refine keep_wf (State.setLceState_mem _ _ _ _) ?_
    | dsimp only
    | split

@[simp] theorem State.autostart_wf (s : State) (d : Nat) (hw : Memory.wf s.mem = true) : Memory.wf (State.autostart s d).mem = true := by
  unfold State.autostart
  repeat' first
    | with_reducible assumption
    | (intro a x hx)
    | with_reducible refine State.lceStart_wf _ _ _ ?_
    | with_reducible refine State.setLce_wf _ _ _ _ ?_
    | with_reducible refine keep_wf (State.setLceState_mem _ _ _ _) ?_
    | with_reducible refine ite_wf' _ _ ?_ ?_
    | with_reducible refine foldl_wf _ _ _ ?_ ?_

@[simp] theorem State.lcePinOne_mem (s : State) (c : HarnessCfg) (d p : Nat) : (State.lcePinOne s c d p).mem = s.mem := by
  unfold State.lcePinOne
  repeat' first
    | with_reducible rfl
    | intro _
    | with_reducible refine Eq.trans (State.put_mem _ _ _ _) ?_
    | with_reducible refine Eq.trans (State.putFlag_mem _ _ _ _) ?_
    | with_reducible refine Eq.trans (State.safePin_mem _ _ _) ?_
    | with_reducible refine ite_mem' _ _ ?_ ?_
    | with_reducible refine Eq.trans (foldl_mem _ _ _ ?_) ?_

@[simp] theorem State.lcePinSome_mem (s : State) (c : HarnessCfg) (d : Nat) (p : Nat → Bool) : (State.lcePinSome s c d p).mem = s.mem := by
  unfold State.lcePinSome
  repeat' first
    | with_reducible rfl
    | intro _
    | with_reducible refine Eq.trans (State.lcePinOne_mem _ _ _ _) ?_
    | with_reducible refine ite_mem' _ _ ?_ ?_
    | with_reducible refine Eq.trans (foldl_mem _ _ _ ?_) ?_

@[simp] theorem State.lcePinCfg_mem (s : State) (c : HarnessCfg) (d : Nat) : (State.lcePinCfg s c d).mem = s.mem := by
  unfold State.lcePinCfg
  repeat' first
    | with_reducible rfl
    | with_reducible refine Eq.trans (State.lcePinSome_mem _ _ _ _) ?_

@[simp] theorem State.lceSafe_wf (s : State) (d : Nat) (hw : Memory.wf s.mem = true) : Memory.wf (State.lceSafe s d).mem = true := by
  unfold State.lceSafe
  repeat' first
    | with_reducible assumption
    | (intro a x hx)
    | with_reducible refine keep_wf (State.safePin_mem _ _ _) ?_
    | with_reducible refine State.setFifos_wf _ _ _ _ _ ?_
    | with_reducible refine keep_wf (State.setLceState_mem _ _ _ _) ?_
    | with_reducible refine ite_wf' _ _ ?_ ?_
    | with_reducible refine foldl_wf _ _ _ ?_ ?_

@[simp] theorem State.lceUnsafe_mem (s : State) (d : Nat) : (State.lceUnsafe s d).mem = s.mem := by
  unfold State.lceUnsafe
  repeat' first
    | with_reducible rfl
    | intro _
    | with_reducible refine Eq.trans (State.put_mem _ _ _ _) ?_
    | with_reducible refine Eq.trans (State.setLceState_mem _ _ _ _) ?_
    | with_reducible refine ite_mem' _ _ ?_ ?_
    | with_reducible refine Eq.trans (foldl_mem _ _ _ ?_) ?_

end Sys2Proof.Machine
end

