-- ==== Sys2Proof/Laws/KeepVatSwcOps.lean ====
section
/-! SUPPORT. What the functions of Machine/SwcOps do to the Vat: those that store nothing leave it, the others keep its form. -/

namespace Sys2Proof.Machine

@[simp] theorem State.setOwnerCount_mem (s : State) (d u n : Nat) : (State.setOwnerCount s d u n).mem = s.mem := by rfl

@[simp] theorem State.ownCell_mem (s : State) (d u c : Nat) : (State.ownCell s d u c).mem = s.mem := by
  unfold State.ownCell
  repeat' first
    | with_reducible rfl
    | with_reducible refine Eq.trans (State.setOwnerCount_mem _ _ _ _) ?_
    | with_reducible refine ite_mem' _ _ ?_ ?_

@[simp] theorem State.freeCell_mem (s : State) (d c : Nat) : (State.freeCell s d c).mem = s.mem := by
  unfold State.freeCell
  repeat' first
    | with_reducible rfl
    | with_reducible refine Eq.trans (State.setOwnerCount_mem _ _ _ _) ?_
    | with_reducible refine ite_mem' _ _ ?_ ?_

@[simp] theorem State.syncPool_mem (s : State) (d : Nat) : (State.syncPool s d).mem = s.mem := by rfl

@[simp] theorem State.chargeTenant_mem (s : State) (d t n : Nat) : (State.chargeTenant s d t n).mem = s.mem := by rfl

@[simp] theorem State.unchargeTenant_mem (s : State) (d t n : Nat) : (State.unchargeTenant s d t n).mem = s.mem := by rfl

@[simp] theorem State.setFrame_mem (s : State) (f : Nat) (x : Frame) : (State.setFrame s f x).mem = s.mem := by rfl

@[simp] theorem State.setCharged_mem (s : State) (f t : Nat) : (State.setCharged s f t).mem = s.mem := by
  unfold State.setCharged
  repeat' first
    | with_reducible rfl
    | intro _
    | with_reducible refine Eq.trans (State.setFrame_mem _ _ _) ?_
    | with_reducible refine Eq.trans (foldl_mem _ _ _ ?_) ?_

@[simp] theorem State.syncDesc_mem (s : State) (d : Nat) : (State.syncDesc s d).mem = s.mem := by rfl

@[simp] theorem State.frameRead_wf (s : State) (d : Nat) (x : Frame) (i n source : Nat) (x0 : Nat) (hw : Memory.wf s.mem = true) : Memory.wf (State.frameRead s d x i n source x0).2.2.mem = true := by
  induction x0 generalizing s d x i n source with
  | zero =>
    unfold State.frameRead
    repeat' first
      | with_reducible assumption
  | succ _ ih =>
    unfold State.frameRead
    repeat' first
      | with_reducible assumption
      | with_reducible refine ih _ _ _ _ _ _ ?_
      | with_reducible refine State.vatRead_wf _ _ _ _ _ ?_
      | dsimp only
      | split

@[simp] theorem State.frameWrite_wf (s : State) (d : Nat) (x : Frame) (i source : Nat) (bs : List Byte) (x0 : Nat) (hw : Memory.wf s.mem = true) : Memory.wf (State.frameWrite s d x i source bs x0).2.mem = true := by
  induction x0 generalizing s d x i source bs with
  | zero =>
    unfold State.frameWrite
    repeat' first
      | with_reducible assumption
  | succ _ ih =>
    unfold State.frameWrite
    repeat' first
      | with_reducible assumption
      | with_reducible refine ih _ _ _ _ _ _ ?_
      | with_reducible refine State.vatWrite_wf _ _ _ _ _ _ ?_
      | dsimp only
      | split

@[simp] theorem State.cellsAllowed_mem (s : State) (d : Nat) (x : Frame) (write : Bool) : (State.cellsAllowed s d x write).2.mem = s.mem := by
  unfold State.cellsAllowed
  repeat' first
    | with_reducible rfl
    | with_reducible refine Eq.trans (State.vatViolation_mem _ _ _ _ _ _ _) ?_
    | split

@[simp] theorem State.txDone_mem (s : State) (x : Frame) : (State.txDone s x).mem = s.mem := by
  unfold State.txDone
  repeat' first
    | with_reducible rfl
    | with_reducible refine Eq.trans (State.raise_mem _ _ _ _) ?_
    | split

@[simp] theorem State.unchargeOuts_mem (s : State) (x : Frame) : (State.unchargeOuts s x).mem = s.mem := by
  unfold State.unchargeOuts
  repeat' first
    | with_reducible rfl
    | intro _
    | with_reducible refine Eq.trans (State.put_mem _ _ _ _) ?_
    | with_reducible refine Eq.trans (foldl_mem _ _ _ ?_) ?_

@[simp] theorem State.modPort_wf (s : State) (d p : Nat) (g : EthPort → EthPort) (hw : Memory.wf s.mem = true) : Memory.wf (State.modPort s d p g).mem = true := by
  unfold State.modPort
  repeat' first
    | with_reducible assumption

@[simp] theorem State.forgetCut_wf (s : State) (f : Nat) (hw : Memory.wf s.mem = true) : Memory.wf (State.forgetCut s f).mem = true := by
  unfold State.forgetCut
  repeat' first
    | with_reducible assumption
    | (intro a x hx)
    | with_reducible refine State.eachDie_wf _ _ ?_ ?_
    | with_reducible refine State.modPort_wf _ _ _ _ ?_
    | with_reducible refine ite_wf' _ _ ?_ ?_
    | with_reducible refine foldl_wf _ _ _ ?_ ?_

@[simp] theorem State.freeFrame_wf (s : State) (f : Nat) (hw : Memory.wf s.mem = true) : Memory.wf (State.freeFrame s f).mem = true := by
  unfold State.freeFrame
  repeat' first
    | with_reducible assumption
    | (intro a x hx)
    | with_reducible refine State.forgetCut_wf _ _ ?_
    | with_reducible refine keep_wf (State.freeCell_mem _ _ _) ?_
    | with_reducible refine keep_wf (State.put_mem _ _ _ _) ?_
    | with_reducible refine keep_wf (State.setFrame_mem _ _ _) ?_
    | with_reducible refine keep_wf (State.syncDesc_mem _ _) ?_
    | with_reducible refine keep_wf (State.unchargeOuts_mem _ _) ?_
    | with_reducible refine keep_wf (State.unchargeTenant_mem _ _ _ _) ?_
    | with_reducible refine ite_wf' _ _ ?_ ?_
    | with_reducible refine foldl_wf _ _ _ ?_ ?_
    | split

@[simp] theorem State.doneWith_wf (s : State) (f : Nat) (hw : Memory.wf s.mem = true) : Memory.wf (State.doneWith s f).mem = true := by
  unfold State.doneWith
  repeat' first
    | with_reducible assumption
    | with_reducible refine State.freeFrame_wf _ _ ?_
    | with_reducible refine keep_wf (State.setFrame_mem _ _ _) ?_
    | with_reducible refine ite_wf' _ _ ?_ ?_

@[simp] theorem State.leaveOutput_mem (s : State) (f d o : Nat) : (State.leaveOutput s f d o).mem = s.mem := by
  unfold State.leaveOutput
  repeat' first
    | with_reducible rfl
    | intro _
    | with_reducible refine Eq.trans (State.put_mem _ _ _ _) ?_
    | with_reducible refine Eq.trans (State.setFrame_mem _ _ _) ?_
    | with_reducible refine Eq.trans (foldl_mem _ _ _ ?_) ?_

@[simp] theorem State.countDrop_mem (s : State) (d reason tid : Nat) : (State.countDrop s d reason tid).mem = s.mem := by rfl

@[simp] theorem State.dropFrame_wf (s : State) (d f reason : Nat) (hw : Memory.wf s.mem = true) : Memory.wf (State.dropFrame s d f reason).mem = true := by
  unfold State.dropFrame
  repeat' first
    | with_reducible assumption
    | with_reducible refine keep_wf (State.countDrop_mem _ _ _ _) ?_
    | with_reducible refine State.doneWith_wf _ _ ?_
    | with_reducible refine keep_wf (State.txDone_mem _ _) ?_

@[simp] theorem State.ownFrame_mem (s : State) (f u : Nat) : (State.ownFrame s f u).mem = s.mem := by
  unfold State.ownFrame
  repeat' first
    | with_reducible rfl
    | intro _
    | with_reducible refine Eq.trans (State.ownCell_mem _ _ _ _) ?_
    | with_reducible refine Eq.trans (foldl_mem _ _ _ ?_) ?_

@[simp] theorem State.setVoq_mem (s : State) (d : Nat) (q : List VEntry) : (State.setVoq s d q).mem = s.mem := by rfl

@[simp] theorem State.setOutQueue_mem (s : State) (d o : Nat) (q : List Nat) : (State.setOutQueue s d o q).mem = s.mem := by rfl

@[simp] theorem State.enterVoq_mem (s : State) (f d o own n : Nat) (hi : Bool) : (State.enterVoq s f d o own n hi).mem = s.mem := by
  unfold State.enterVoq
  repeat' first
    | with_reducible rfl
    | with_reducible refine Eq.trans (State.ownFrame_mem _ _ _) ?_
    | with_reducible refine Eq.trans (State.put_mem _ _ _ _) ?_
    | with_reducible refine Eq.trans (State.setFrame_mem _ _ _) ?_
    | with_reducible refine Eq.trans (State.setVoq_mem _ _ _) ?_
    | with_reducible refine ite_mem' _ _ ?_ ?_

@[simp] theorem State.toOutput_wf (s : State) (f d o own n : Nat) (hi : Bool) (hw : Memory.wf s.mem = true) : Memory.wf (State.toOutput s f d o own n hi).mem = true := by
  unfold State.toOutput
  repeat' first
    | with_reducible assumption
    | with_reducible refine State.dropFrame_wf _ _ _ _ ?_
    | with_reducible refine keep_wf (State.enterVoq_mem _ _ _ _ _ _ _) ?_
    | split

@[simp] theorem State.takeIn_wf (s : State) (f t d o own n : Nat) (hi : Bool) (hw : Memory.wf s.mem = true) : Memory.wf (State.takeIn s f t d o own n hi).mem = true := by
  unfold State.takeIn
  repeat' first
    | with_reducible assumption
    | with_reducible refine keep_wf (State.chargeTenant_mem _ _ _ _) ?_
    | with_reducible refine State.dropFrame_wf _ _ _ _ ?_
    | with_reducible refine keep_wf (State.put_mem _ _ _ _) ?_
    | with_reducible refine keep_wf (State.setCharged_mem _ _ _) ?_
    | with_reducible refine State.toOutput_wf _ _ _ _ _ _ _ ?_
    | dsimp only
    | split

@[simp] theorem State.setSlot_mem (s : State) (d c i : Nat) (h : HeadSlot) : (State.setSlot s d c i h).mem = s.mem := by rfl

@[simp] theorem State.setQueued_mem (s : State) (d c q : Nat) (l : List Nat) : (State.setQueued s d c q l).mem = s.mem := by rfl

@[simp] theorem State.fillSlot_wf (s : State) (f d c q : Nat) (hw : Memory.wf s.mem = true) : Memory.wf (State.fillSlot s f d c q).mem = true := by
  unfold State.fillSlot
  repeat' first
    | with_reducible assumption
    | with_reducible refine keep_wf (State.cellsAllowed_mem _ _ _ _) ?_
    | with_reducible refine State.dropFrame_wf _ _ _ _ ?_
    | with_reducible refine State.frameRead_wf _ _ _ _ _ _ _ ?_
    | with_reducible refine keep_wf (State.leaveOutput_mem _ _ _ _) ?_
    | with_reducible refine keep_wf (State.setFrame_mem _ _ _) ?_
    | with_reducible refine keep_wf (State.setQueued_mem _ _ _ _ _) ?_
    | with_reducible refine keep_wf (State.setSlot_mem _ _ _ _ _) ?_
    | with_reducible refine ite_wf' _ _ ?_ ?_
    | dsimp only
    | split

@[simp] theorem State.freeSlot_wf (s : State) (d c i : Nat) (hw : Memory.wf s.mem = true) : Memory.wf (State.freeSlot s d c i).mem = true := by
  unfold State.freeSlot
  repeat' first
    | with_reducible assumption
    | with_reducible refine State.doneWith_wf _ _ ?_
    | with_reducible refine keep_wf (State.leaveOutput_mem _ _ _ _) ?_
    | with_reducible refine keep_wf (State.setQueued_mem _ _ _ _ _) ?_
    | with_reducible refine keep_wf (State.setSlot_mem _ _ _ _ _) ?_

@[simp] theorem State.releaseFenced_wf (s : State) (d f : Nat) (hw : Memory.wf s.mem = true) : Memory.wf (State.releaseFenced s d f).mem = true := by
  unfold State.releaseFenced
  repeat' first
    | with_reducible assumption
    | with_reducible refine State.dropFrame_wf _ _ _ _ ?_
    | with_reducible refine ite_wf' _ _ ?_ ?_

@[simp] theorem State.clearOutput_wf (s : State) (d o : Nat) (hw : Memory.wf s.mem = true) : Memory.wf (State.clearOutput s d o).mem = true := by
  unfold State.clearOutput
  repeat' first
    | with_reducible assumption
    | (intro a x hx)
    | with_reducible refine keep_wf (State.leaveOutput_mem _ _ _ _) ?_
    | with_reducible refine State.releaseFenced_wf _ _ _ ?_
    | with_reducible refine keep_wf (State.setOutQueue_mem _ _ _ _) ?_
    | with_reducible refine keep_wf (State.setVoq_mem _ _ _) ?_
    | with_reducible refine foldl_wf _ _ _ ?_ ?_

end Sys2Proof.Machine
end

