-- ==== Sys2Proof/Laws/KeepVatRegAcc.lean ====
section
/-! SUPPORT. What the functions of Machine/RegAcc do to the Vat: those that store nothing leave it, the others keep its form. -/

namespace Sys2Proof.Machine

@[simp] theorem State.syncView_wf (s : State) (d off : Nat) (hw : Memory.wf s.mem = true) : Memory.wf (State.syncView s d off).mem = true := by
  unfold State.syncView
  repeat' first
    | with_reducible assumption
    | (intro a x hx)
    | with_reducible refine keep_wf (State.put_mem _ _ _ _) ?_
    | with_reducible refine ite_wf' _ _ ?_ ?_
    | with_reducible refine foldl_wf _ _ _ ?_ ?_

@[simp] theorem State.clearView_mem (s : State) (d off : Nat) : (State.clearView s d off).mem = s.mem := by
  unfold State.clearView
  repeat' first
    | with_reducible rfl
    | with_reducible refine ite_mem' _ _ ?_ ?_

@[simp] theorem State.clearRc_mem (s : State) (d : Nat) (h : RegHit) (half : Word64) : (State.clearRc s d h half).mem = s.mem := by
  unfold State.clearRc
  repeat' first
    | with_reducible rfl
    | with_reducible refine Eq.trans (State.clearView_mem _ _ _) ?_
    | with_reducible refine Eq.trans (State.wr_mem _ _ _ _) ?_

@[simp] theorem State.setLatch_mem (s : State) (k : Nat) (v : Option Nat) : (State.setLatch s k v).mem = s.mem := by rfl

@[simp] theorem State.rawRead_wf (s : State) (d off : Nat) (clears : Bool) (hw : Memory.wf s.mem = true) : Memory.wf (State.rawRead s d off clears).2.mem = true := by
  unfold State.rawRead
  repeat' first
    | with_reducible assumption
    | with_reducible refine keep_wf (State.clearRc_mem _ _ _ _) ?_
    | with_reducible refine keep_wf (State.setLatch_mem _ _ _) ?_
    | with_reducible refine State.syncView_wf _ _ _ ?_
    | with_reducible refine ite_wf' _ _ ?_ ?_
    | with_reducible refine ite_snd_wf _ _ ?_ ?_
    | dsimp only
    | split

@[simp] theorem State.rawRead64_wf (s : State) (d off : Nat) (clears : Bool) (hw : Memory.wf s.mem = true) : Memory.wf (State.rawRead64 s d off clears).2.mem = true := by
  unfold State.rawRead64
  repeat' first
    | with_reducible assumption
    | with_reducible refine keep_wf (State.clearRc_mem _ _ _ _) ?_
    | with_reducible refine State.syncView_wf _ _ _ ?_
    | with_reducible refine ite_wf' _ _ ?_ ?_
    | dsimp only
    | split

@[simp] theorem State.rawWrite_mem (s : State) (d off v : Nat) : (State.rawWrite s d off v).mem = s.mem := by
  unfold State.rawWrite
  repeat' first
    | with_reducible rfl
    | with_reducible refine Eq.trans (State.wr_mem _ _ _ _) ?_
    | dsimp only
    | split

end Sys2Proof.Machine
end

