-- ==== Sys2Proof/Laws/KeepVatEthOps.lean ====
section
/-! SUPPORT. What the functions of Machine/EthOps do to the Vat: those that store nothing leave it, the others keep its form. -/

namespace Sys2Proof.Machine

@[simp] theorem State.modPair_wf (s : State) (d k : Nat) (g : EthPair → EthPair) (hw : Memory.wf s.mem = true) : Memory.wf (State.modPair s d k g).mem = true := by
  unfold State.modPair
  repeat' first
    | with_reducible assumption

@[simp] theorem State.portRec_wf (s : State) (d p kind detail field avail stamp sa level : Nat) (hw : Memory.wf s.mem = true) : Memory.wf (State.portRec s d p kind detail field avail stamp sa level).mem = true := by
  unfold State.portRec
  repeat' first
    | with_reducible assumption
    | with_reducible refine State.modPort_wf _ _ _ _ ?_
    | with_reducible refine State.partRec_wf _ _ _ _ _ _ ?_
    | with_reducible refine ite_wf' _ _ ?_ ?_

@[simp] theorem State.syncGate_mem (s : State) (d p : Nat) : (State.syncGate s d p).mem = s.mem := by
  unfold State.syncGate
  repeat' first
    | with_reducible rfl
    | with_reducible refine Eq.trans (State.put_mem _ _ _ _) ?_
    | split

@[simp] theorem State.syncCredits_wf (s : State) (d p : Nat) (hw : Memory.wf s.mem = true) : Memory.wf (State.syncCredits s d p).mem = true := by
  unfold State.syncCredits
  repeat' first
    | with_reducible assumption
    | (intro a x hx)
    | with_reducible refine State.modPort_wf _ _ _ _ ?_
    | with_reducible refine keep_wf (State.putFlag_mem _ _ _ _) ?_
    | with_reducible refine foldl_wf _ _ _ ?_ ?_

@[simp] theorem State.emptyCredit_wf (s : State) (d p q : Nat) (hw : Memory.wf s.mem = true) : Memory.wf (State.emptyCredit s d p q).mem = true := by
  unfold State.emptyCredit
  repeat' first
    | with_reducible assumption
    | with_reducible refine State.modPort_wf _ _ _ _ ?_
    | with_reducible refine ite_wf' _ _ ?_ ?_

@[simp] theorem State.setShaper_mem (s : State) (d k : Nat) (x : Shaper) : (State.setShaper s d k x).mem = s.mem := by rfl

@[simp] theorem State.syncShaper_mem (s : State) (d k : Nat) : (State.syncShaper s d k).mem = s.mem := by rfl

@[simp] theorem State.tshDebit_mem (s : State) (d p t len : Nat) : (State.tshDebit s d p t len).mem = s.mem := by
  unfold State.tshDebit
  repeat' first
    | with_reducible rfl
    | with_reducible refine Eq.trans (State.setShaper_mem _ _ _ _) ?_
    | dsimp only
    | split

@[simp] theorem State.tshWrite_mem (s : State) (d k rate : Nat) : (State.tshWrite s d k rate).mem = s.mem := by rfl

@[simp] theorem State.copyGone_wf (s : State) (d p f : Nat) (hw : Memory.wf s.mem = true) : Memory.wf (State.copyGone s d p f).mem = true := by
  unfold State.copyGone
  repeat' first
    | with_reducible assumption
    | with_reducible refine State.doneWith_wf _ _ ?_
    | with_reducible refine keep_wf (State.leaveOutput_mem _ _ _ _) ?_
    | with_reducible refine keep_wf (State.txDone_mem _ _) ?_
    | with_reducible refine ite_wf' _ _ ?_ ?_

@[simp] theorem State.egressDrop_wf (s : State) (d p f : Nat) (c : Field) (hw : Memory.wf s.mem = true) : Memory.wf (State.egressDrop s d p f c).mem = true := by
  unfold State.egressDrop
  repeat' first
    | with_reducible assumption
    | with_reducible refine State.copyGone_wf _ _ _ _ ?_
    | with_reducible refine keep_wf (State.count_mem _ _ _ _) ?_
    | with_reducible refine State.emptyCredit_wf _ _ _ _ ?_
    | with_reducible refine State.modPort_wf _ _ _ _ ?_
    | with_reducible refine keep_wf (State.setOutQueue_mem _ _ _ _) ?_
    | with_reducible refine State.syncCredits_wf _ _ _ ?_

@[simp] theorem State.stomp_mem (s : State) (d p f : Nat) : (State.stomp s d p f).mem = s.mem := by rfl

@[simp] theorem State.endReception_wf (s : State) (d p len : Nat) (hw : Memory.wf s.mem = true) : Memory.wf (State.endReception s d p len).mem = true := by
  unfold State.endReception
  repeat' first
    | with_reducible assumption
    | (intro a x hx)
    | with_reducible refine State.modPort_wf _ _ _ _ ?_
    | with_reducible refine keep_wf (State.stomp_mem _ _ _ _) ?_
    | with_reducible refine keep_wf (State.tshDebit_mem _ _ _ _ _) ?_
    | with_reducible refine foldl_wf _ _ _ ?_ ?_
    | dsimp only
    | split

@[simp] theorem State.clearPauses_wf (s : State) (d p : Nat) (hw : Memory.wf s.mem = true) : Memory.wf (State.clearPauses s d p).mem = true := by
  unfold State.clearPauses
  repeat' first
    | with_reducible assumption
    | with_reducible refine State.modPort_wf _ _ _ _ ?_
    | with_reducible refine keep_wf (State.put_mem _ _ _ _) ?_
    | with_reducible refine keep_wf (State.putFlag_mem _ _ _ _) ?_

@[simp] theorem State.flushPort_wf (s : State) (d p : Nat) (hw : Memory.wf s.mem = true) : Memory.wf (State.flushPort s d p).mem = true := by
  unfold State.flushPort
  repeat' first
    | with_reducible assumption
    | (intro a x hx)
    | with_reducible refine State.copyGone_wf _ _ _ _ ?_
    | with_reducible refine keep_wf (State.count_mem _ _ _ _) ?_
    | with_reducible refine State.egressDrop_wf _ _ _ _ _ ?_
    | with_reducible refine State.modPort_wf _ _ _ _ ?_
    | with_reducible refine foldl_wf _ _ _ ?_ ?_
    | dsimp only
    | split

@[simp] theorem State.linkDown_wf (s : State) (d p cause : Nat) (hw : Memory.wf s.mem = true) : Memory.wf (State.linkDown s d p cause).mem = true := by
  unfold State.linkDown
  repeat' first
    | with_reducible assumption
    | with_reducible refine keep_wf (State.clrBit_mem _ _ _ _) ?_
    | with_reducible refine State.endReception_wf _ _ _ _ ?_
    | with_reducible refine State.flushPort_wf _ _ _ ?_
    | with_reducible refine State.portRec_wf _ _ _ _ _ _ _ _ _ _ ?_
    | with_reducible refine keep_wf (State.putFlag_mem _ _ _ _) ?_
    | with_reducible refine State.syncCredits_wf _ _ _ ?_
    | with_reducible refine ite_wf' _ _ ?_ ?_

@[simp] theorem State.arriveEgress_wf (s : State) (d p f : Nat) (hw : Memory.wf s.mem = true) : Memory.wf (State.arriveEgress s d p f).mem = true := by
  unfold State.arriveEgress
  repeat' first
    | with_reducible assumption
    | with_reducible refine State.egressDrop_wf _ _ _ _ _ ?_
    | with_reducible refine State.modPort_wf _ _ _ _ ?_
    | with_reducible refine keep_wf (State.setOutQueue_mem _ _ _ _) ?_
    | with_reducible refine State.syncCredits_wf _ _ _ ?_
    | with_reducible refine ite_wf' _ _ ?_ ?_

@[simp] theorem State.toEthernet_wf (s : State) (d p f : Nat) (hw : Memory.wf s.mem = true) : Memory.wf (State.toEthernet s d p f).mem = true := by
  unfold State.toEthernet
  repeat' first
    | with_reducible assumption
    | with_reducible refine State.arriveEgress_wf _ _ _ _ ?_
    | with_reducible refine State.modPair_wf _ _ _ _ ?_
    | with_reducible refine keep_wf (State.setFrame_mem _ _ _) ?_
    | with_reducible refine ite_wf' _ _ ?_ ?_
    | dsimp only
    | split

end Sys2Proof.Machine
end

