-- ==== Sys2Proof/Laws/KeepVatRxOps.lean ====
section
/-! SUPPORT. What the functions of Machine/RxOps do to the Vat: those that store nothing leave it, the others keep its form. -/

namespace Sys2Proof.Machine

@[simp] theorem State.padWords_mem (s : State) (bs : List Byte) : (State.padWords s bs).2.mem = s.mem := by
  unfold State.padWords
  repeat' first
    | with_reducible rfl
    | with_reducible refine Eq.trans (State.freeVal_mem _ _) ?_
    | dsimp only
    | split

@[simp] theorem State.rxStore_wf (s : State) (d owner n : Nat) (y : Frame) (bs : List Byte) (f : Nat) (b : Bool) (x : State) (h : s.rxStore d owner n y bs = some (f, b, x)) (hw : Memory.wf s.mem = true) : Memory.wf x.mem = true := by
  unfold State.rxStore at h; (try dsimp only at h)
  repeat' split at h
  all_goals try contradiction
  all_goals cases h
  all_goals
    repeat' first
      | with_reducible assumption
      | (intro a x hx)
      | with_reducible refine keep_wf (State.cellsAllowed_mem _ _ _ _) ?_
      | with_reducible refine State.frameWrite_wf _ _ _ _ _ _ _ ?_
      | with_reducible refine keep_wf (State.ownCell_mem _ _ _ _) ?_
      | with_reducible refine keep_wf (State.padWords_mem _ _) ?_
      | with_reducible refine keep_wf (State.put_mem _ _ _ _) ?_
      | with_reducible refine keep_wf (State.setFrame_mem _ _ _) ?_
      | with_reducible refine keep_wf (State.syncDesc_mem _ _) ?_
      | with_reducible refine foldl_wf _ _ _ ?_ ?_

@[simp] theorem State.captureTo_mem (s : State) (d f own : Nat) : (State.captureTo s d f own).mem = s.mem := by
  unfold State.captureTo
  repeat' first
    | with_reducible rfl
    | with_reducible refine Eq.trans (State.count_mem _ _ _ _) ?_
    | with_reducible refine Eq.trans (State.enterVoq_mem _ _ _ _ _ _ _) ?_
    | with_reducible refine Eq.trans (State.setFrame_mem _ _ _) ?_
    | with_reducible refine ite_mem' _ _ ?_ ?_
    | split

@[simp] theorem State.bindRx_wf (s : State) (d own owner : Nat) (cfg : HarnessCfg) (x : Frame) (bs : List Byte) (trunc csum : Bool) (key : Nat → Option Nat) (hw : Memory.wf s.mem = true) : Memory.wf (State.bindRx s d own owner cfg x bs trunc csum key).mem = true := by
  unfold State.bindRx
  repeat' first
    | with_reducible assumption
    | with_reducible refine keep_wf (State.captureTo_mem _ _ _ _) ?_
    | with_reducible refine keep_wf (State.count_mem _ _ _ _) ?_
    | with_reducible refine keep_wf (State.countDrop_mem _ _ _ _) ?_
    | with_reducible refine State.dropFrame_wf _ _ _ _ ?_
    | with_reducible refine keep_wf (State.putFlag_mem _ _ _ _) ?_
    | with_reducible refine State.rxStore_wf _ _ _ _ _ _ _ _ _ (by with_reducible assumption) ?_
    | with_reducible refine State.takeIn_wf _ _ _ _ _ _ _ _ ?_
    | with_reducible refine ite_wf' _ _ ?_ ?_
    | dsimp only
    | split

end Sys2Proof.Machine
end

