-- ==== Sys2Proof/Laws/KeepVatSerOps.lean ====
section
/-! SUPPORT. What the functions of Machine/SerOps do to the Vat: those that store nothing leave it, the others keep its form. -/

namespace Sys2Proof.Machine

@[simp] theorem State.modSer_wf (s : State) (d p : Nat) (g : SerPort → SerPort) (hw : Memory.wf s.mem = true) : Memory.wf (State.modSer s d p g).mem = true := by
  unfold State.modSer
  repeat' first
    | with_reducible assumption

@[simp] theorem State.serTo_mem (s : State) (d p st : Nat) : (State.serTo s d p st).mem = s.mem := by
  unfold State.serTo
  repeat' first
    | with_reducible rfl
    | with_reducible refine Eq.trans (State.clrBit_mem _ _ _ _) ?_
    | with_reducible refine Eq.trans (State.put_mem _ _ _ _) ?_
    | with_reducible refine Eq.trans (State.setBit_mem _ _ _ _) ?_
    | with_reducible refine ite_mem' _ _ ?_ ?_

@[simp] theorem State.serRec_wf (s : State) (d p kind detail value : Nat) (hw : Memory.wf s.mem = true) : Memory.wf (State.serRec s d p kind detail value).mem = true := by
  unfold State.serRec
  repeat' first
    | with_reducible assumption
    | with_reducible refine State.modSer_wf _ _ _ _ ?_
    | with_reducible refine State.partRec_wf _ _ _ _ _ _ ?_
    | with_reducible refine ite_wf' _ _ ?_ ?_

@[simp] theorem State.canState_mem (s : State) (d p : Nat) : (State.canState s d p).mem = s.mem := by
  unfold State.canState
  repeat' first
    | with_reducible rfl
    | with_reducible refine Eq.trans (State.put_mem _ _ _ _) ?_
    | with_reducible refine ite_mem' _ _ ?_ ?_

@[simp] theorem State.addTec_mem (s : State) (d p n : Nat) : (State.addTec s d p n).mem = s.mem := by
  unfold State.addTec
  repeat' first
    | with_reducible rfl
    | with_reducible refine Eq.trans (State.canState_mem _ _ _) ?_
    | with_reducible refine Eq.trans (State.count_mem _ _ _ _) ?_

@[simp] theorem State.addRec_mem (s : State) (d p n : Nat) : (State.addRec s d p n).mem = s.mem := by
  unfold State.addRec
  repeat' first
    | with_reducible rfl
    | with_reducible refine Eq.trans (State.canState_mem _ _ _) ?_
    | with_reducible refine Eq.trans (State.count_mem _ _ _ _) ?_

@[simp] theorem State.subTec_mem (s : State) (d p : Nat) : (State.subTec s d p).mem = s.mem := by
  unfold State.subTec
  repeat' first
    | with_reducible rfl
    | with_reducible refine Eq.trans (State.canState_mem _ _ _) ?_
    | with_reducible refine Eq.trans (State.put_mem _ _ _ _) ?_

@[simp] theorem State.subRec_mem (s : State) (d p : Nat) : (State.subRec s d p).mem = s.mem := by
  unfold State.subRec
  repeat' first
    | with_reducible rfl
    | with_reducible refine Eq.trans (State.canState_mem _ _ _) ?_
    | with_reducible refine Eq.trans (State.freeVal_mem _ _) ?_
    | with_reducible refine Eq.trans (State.put_mem _ _ _ _) ?_
    | with_reducible refine ite_mem' _ _ ?_ ?_

@[simp] theorem State.invMax_mem (s : State) (d p us : Nat) : (State.invMax s d p us).mem = s.mem := by rfl

@[simp] theorem State.syncFifo_wf (s : State) (d p : Nat) (hw : Memory.wf s.mem = true) : Memory.wf (State.syncFifo s d p).mem = true := by
  unfold State.syncFifo
  repeat' first
    | with_reducible assumption
    | with_reducible refine keep_wf (State.count_mem _ _ _ _) ?_
    | with_reducible refine keep_wf (State.invMax_mem _ _ _ _) ?_
    | with_reducible refine State.modSer_wf _ _ _ _ ?_
    | with_reducible refine keep_wf (State.put_mem _ _ _ _) ?_
    | dsimp only
    | split

@[simp] theorem State.serDrop_wf (s : State) (d p f : Nat) (c : Field) (hw : Memory.wf s.mem = true) : Memory.wf (State.serDrop s d p f c).mem = true := by
  unfold State.serDrop
  repeat' first
    | with_reducible assumption
    | with_reducible refine keep_wf (State.count_mem _ _ _ _) ?_
    | with_reducible refine State.doneWith_wf _ _ ?_
    | with_reducible refine keep_wf (State.leaveOutput_mem _ _ _ _) ?_
    | with_reducible refine State.modSer_wf _ _ _ _ ?_
    | with_reducible refine keep_wf (State.putFlag_mem _ _ _ _) ?_
    | with_reducible refine State.syncFifo_wf _ _ _ ?_
    | with_reducible refine keep_wf (State.txDone_mem _ _) ?_

@[simp] theorem State.abortHead_wf (s : State) (d p : Nat) (hw : Memory.wf s.mem = true) : Memory.wf (State.abortHead s d p).mem = true := by
  unfold State.abortHead
  repeat' first
    | with_reducible assumption
    | with_reducible refine keep_wf (State.putFlag_mem _ _ _ _) ?_
    | with_reducible refine State.serDrop_wf _ _ _ _ _ ?_
    | with_reducible refine ite_wf' _ _ ?_ ?_
    | split

@[simp] theorem State.serFlush_wf (s : State) (d p : Nat) (hw : Memory.wf s.mem = true) : Memory.wf (State.serFlush s d p).mem = true := by
  unfold State.serFlush
  repeat' first
    | with_reducible assumption
    | (intro a x hx)
    | with_reducible refine State.modSer_wf _ _ _ _ ?_
    | with_reducible refine keep_wf (State.putFlag_mem _ _ _ _) ?_
    | with_reducible refine State.serDrop_wf _ _ _ _ _ ?_
    | with_reducible refine keep_wf (State.setOutQueue_mem _ _ _ _) ?_
    | with_reducible refine foldl_wf _ _ _ ?_ ?_

@[simp] theorem State.fifoEnter_wf (s : State) (d p : Nat) (hw : Memory.wf s.mem = true) : Memory.wf (State.fifoEnter s d p).mem = true := by
  unfold State.fifoEnter
  repeat' first
    | with_reducible assumption
    | with_reducible refine State.doneWith_wf _ _ ?_
    | with_reducible refine keep_wf (State.leaveOutput_mem _ _ _ _) ?_
    | with_reducible refine State.modSer_wf _ _ _ _ ?_
    | with_reducible refine State.serDrop_wf _ _ _ _ _ ?_
    | with_reducible refine keep_wf (State.setOutQueue_mem _ _ _ _) ?_
    | with_reducible refine State.syncFifo_wf _ _ _ ?_
    | with_reducible refine keep_wf (State.txDone_mem _ _) ?_
    | with_reducible refine ite_wf' _ _ ?_ ?_
    | dsimp only
    | split

end Sys2Proof.Machine
end

