-- ==== Sys2Proof/Laws/KeepVatAwlOps.lean ====
section
/-! SUPPORT. What the functions of Machine/AwlOps do to the Vat: those that store nothing leave it, the others keep its form. -/

namespace Sys2Proof.Machine

@[simp] theorem State.sendFrame_wf (s : State) (d own f : Nat) (hw : Memory.wf s.mem = true) : Memory.wf (State.sendFrame s d own f).mem = true := by
  unfold State.sendFrame
  repeat' first
    | with_reducible assumption
    | with_reducible refine keep_wf (State.chargeTenant_mem _ _ _ _) ?_
    | with_reducible refine State.dropFrame_wf _ _ _ _ ?_
    | with_reducible refine keep_wf (State.setCharged_mem _ _ _) ?_
    | with_reducible refine State.toOutput_wf _ _ _ _ _ _ _ ?_
    | with_reducible refine keep_wf (State.unchargeTenant_mem _ _ _ _) ?_
    | with_reducible refine ite_wf' _ _ ?_ ?_
    | dsimp only
    | split

@[simp] theorem State.allocTx_wf (s : State) (d owner t len f : Nat) (x : State) (h : s.allocTx d owner t len = some (f, x)) (hw : Memory.wf s.mem = true) : Memory.wf x.mem = true := by
  unfold State.allocTx at h; (try dsimp only at h)
  repeat' split at h
  all_goals try contradiction
  all_goals cases h
  all_goals
    repeat' first
      | with_reducible assumption
      | (intro a x hx)
      | with_reducible refine keep_wf (State.chargeTenant_mem _ _ _ _) ?_
      | with_reducible refine keep_wf (State.ownCell_mem _ _ _ _) ?_
      | with_reducible refine keep_wf (State.setCharged_mem _ _ _) ?_
      | with_reducible refine keep_wf (State.setFrame_mem _ _ _) ?_
      | with_reducible refine keep_wf (State.syncDesc_mem _ _) ?_
      | with_reducible refine State.vatStore_wf _ _ _ _ ?_
      | with_reducible refine foldl_wf _ _ _ ?_ ?_

@[simp] theorem State.releaseRx_wf (s : State) (d e : Nat) (hw : Memory.wf s.mem = true) : Memory.wf (State.releaseRx s d e).mem = true := by
  unfold State.releaseRx
  repeat' first
    | with_reducible assumption
    | with_reducible refine State.freeSlot_wf _ _ _ _ ?_
    | with_reducible refine keep_wf (State.modEng_mem _ _ _ _) ?_
    | split

@[simp] theorem State.discardTx_wf (s : State) (d e : Nat) (hw : Memory.wf s.mem = true) : Memory.wf (State.discardTx s d e).mem = true := by
  unfold State.discardTx
  repeat' first
    | with_reducible assumption
    | with_reducible refine State.freeFrame_wf _ _ ?_
    | with_reducible refine keep_wf (State.modEng_mem _ _ _ _) ?_
    | dsimp only
    | split

@[simp] theorem State.pushGroup_mem (s : State) (d e : Nat) : (State.pushGroup s d e).mem = s.mem := by rfl

@[simp] theorem State.mbxPage_mem (s : State) (d e : Nat) (stat : Nat → Field) (ev : Field) : (State.mbxPage s d e stat ev).mem = s.mem := by
  unfold State.mbxPage
  repeat' first
    | with_reducible rfl
    | with_reducible refine Eq.trans (State.pageEvent_mem _ _ _) ?_
    | with_reducible refine Eq.trans (State.pputFlag_mem _ _ _ _ _) ?_
    | with_reducible refine ite_mem' _ _ ?_ ?_

@[simp] theorem State.mbxPop_mem (s : State) (d e : Nat) (w : W16) (x : State) (h : s.mbxPop d e = some (w, x)) : x.mem = s.mem := by
  unfold State.mbxPop at h; (try dsimp only at h)
  repeat' split at h
  all_goals try contradiction
  all_goals cases h
  all_goals first | (simp; done) | ((repeat' split) <;> simp)

@[simp] theorem State.mbxPop_wf (s : State) (d e : Nat) (w : W16) (x : State) (h : s.mbxPop d e = some (w, x)) (hw : Memory.wf s.mem = true) : Memory.wf x.mem = true := by
  rw [State.mbxPop_mem s d e w x h]; exact hw

@[simp] theorem State.mbxDeliver_mem (s : State) (d e : Nat) (w : W16) : (State.mbxDeliver s d e w).mem = s.mem := by
  unfold State.mbxDeliver
  repeat' first
    | with_reducible rfl
    | with_reducible refine Eq.trans (State.mbxPage_mem _ _ _ _ _) ?_
    | with_reducible refine Eq.trans (State.modEng_mem _ _ _ _) ?_
    | with_reducible refine ite_mem' _ _ ?_ ?_

@[simp] theorem State.sharedWrite_mem (s : State) (d c : Nat) (a : Nat) (x0 : List Byte) : (State.sharedWrite s d c a x0).mem = s.mem := by
  match x0 with
  | [] => rfl
  | [_] => rfl
  | b0 :: b1 :: rest => unfold State.sharedWrite; rw [State.sharedWrite_mem, State.spadSet_mem]

@[simp] theorem State.ibankStart_wf (s : State) (d c op sel : Nat) (hw : Memory.wf s.mem = true) : Memory.wf (State.ibankStart s d c op sel).mem = true := by
  unfold State.ibankStart
  repeat' first
    | with_reducible assumption
    | with_reducible refine keep_wf (State.put_mem _ _ _ _) ?_
    | with_reducible refine keep_wf (State.putFlag_mem _ _ _ _) ?_
    | with_reducible refine State.setCl_wf _ _ _ _ ?_
    | with_reducible refine ite_wf' _ _ ?_ ?_

@[simp] theorem State.ctlWrite_wf (s : State) (d c off v : Nat) (hw : Memory.wf s.mem = true) : Memory.wf (State.ctlWrite s d c off v).mem = true := by
  unfold State.ctlWrite
  dsimp only
  repeat' first
    | with_reducible assumption
    | (intro a x hx)
    | with_reducible refine State.abortHead_wf _ _ _ ?_
    | with_reducible refine keep_wf (State.count_mem _ _ _ _) ?_
    | with_reducible refine State.cue_wf _ _ _ _ _ ?_
    | with_reducible refine State.divWrite_wf _ _ _ _ ?_
    | with_reducible refine State.ibankStart_wf _ _ _ _ _ ?_
    | with_reducible refine State.lcePush_wf _ _ _ _ ?_
    | with_reducible refine keep_wf (State.loopDef_mem _ _ _ _ _ _) ?_
    | with_reducible refine keep_wf (State.put_mem _ _ _ _) ?_
    | with_reducible refine keep_wf (State.putFlag_mem _ _ _ _) ?_
    | with_reducible refine keep_wf (State.rawWrite_mem _ _ _ _) ?_
    | with_reducible refine keep_wf (State.wr_mem _ _ _ _) ?_
    | with_reducible refine ite_wf' _ _ ?_ ?_
    | with_reducible refine foldl_wf _ _ _ ?_ ?_
    | split

@[simp] theorem State.drainItem_wf (s : State) (d e : Nat) (i : SbItem) (hw : Memory.wf s.mem = true) : Memory.wf (State.drainItem s d e i).2.mem = true := by
  unfold State.drainItem
  repeat' first
    | with_reducible assumption
    | (intro a x hx)
    | with_reducible refine State.ctlWrite_wf _ _ _ _ _ ?_
    | with_reducible refine State.frameWrite_wf _ _ _ _ _ _ _ ?_
    | with_reducible refine keep_wf (State.mbxDeliver_mem _ _ _ _) ?_
    | with_reducible refine keep_wf (State.raise_mem _ _ _ _) ?_
    | with_reducible refine State.sendFrame_wf _ _ _ _ ?_
    | with_reducible refine keep_wf (State.sharedWrite_mem _ _ _ _ _) ?_
    | with_reducible refine State.vatWrite_wf _ _ _ _ _ _ ?_
    | with_reducible refine ite_wf' _ _ ?_ ?_
    | with_reducible refine foldl_wf _ _ _ ?_ ?_
    | dsimp only
    | split

@[simp] theorem State.flushHead_wf (s : State) (d e : Nat) (x0 : Nat) (hw : Memory.wf s.mem = true) : Memory.wf (State.flushHead s d e x0).mem = true := by
  induction x0 generalizing s d e with
  | zero =>
    unfold State.flushHead
    repeat' first
      | with_reducible assumption
  | succ _ ih =>
    unfold State.flushHead
    repeat' first
      | with_reducible assumption
      | with_reducible refine ih _ _ _ ?_
      | with_reducible refine State.drainItem_wf _ _ _ _ ?_
      | with_reducible refine keep_wf (State.modEng_mem _ _ _ _) ?_
      | with_reducible refine ite_wf' _ _ ?_ ?_
      | split

@[simp] theorem State.drainOne_wf (s : State) (d e : Nat) (hw : Memory.wf s.mem = true) : Memory.wf (State.drainOne s d e).2.mem = true := by
  unfold State.drainOne
  repeat' first
    | with_reducible assumption
    | with_reducible refine State.drainItem_wf _ _ _ _ ?_
    | with_reducible refine State.flushHead_wf _ _ _ _ ?_
    | with_reducible refine keep_wf (State.modEng_mem _ _ _ _) ?_
    | dsimp only
    | split

@[simp] theorem State.drainTo_wf (s : State) (d e keep : Nat) (x0 : Nat) (hw : Memory.wf s.mem = true) : Memory.wf (State.drainTo s d e keep x0).2.mem = true := by
  induction x0 generalizing s d e keep with
  | zero =>
    unfold State.drainTo
    repeat' first
      | with_reducible assumption
  | succ _ ih =>
    unfold State.drainTo
    repeat' first
      | with_reducible assumption
      | with_reducible refine ih _ _ _ _ ?_
      | with_reducible refine State.drainOne_wf _ _ _ ?_
      | with_reducible refine ite_snd_wf _ _ ?_ ?_

@[simp] theorem State.enterSb_wf (s : State) (d e : Nat) (i : SbItem) (hw : Memory.wf s.mem = true) : Memory.wf (State.enterSb s d e i).mem = true := by
  unfold State.enterSb
  repeat' first
    | with_reducible assumption
    | with_reducible refine State.drainOne_wf _ _ _ ?_
    | with_reducible refine State.flushHead_wf _ _ _ _ ?_
    | with_reducible refine keep_wf (State.modEng_mem _ _ _ _) ?_
    | with_reducible refine ite_wf' _ _ ?_ ?_
    | with_reducible refine ite_snd_wf _ _ ?_ ?_

@[simp] theorem State.engineDown_wf (s : State) (d e : Nat) (hw : Memory.wf s.mem = true) : Memory.wf (State.engineDown s d e).mem = true := by
  unfold State.engineDown
  repeat' first
    | with_reducible assumption
    | (intro a x hx)
    | with_reducible refine State.discardTx_wf _ _ _ ?_
    | with_reducible refine State.freeFrame_wf _ _ ?_
    | with_reducible refine keep_wf (State.initPriv_mem _ _ _ _) ?_
    | with_reducible refine State.releaseRx_wf _ _ _ ?_
    | with_reducible refine keep_wf (State.setEng_mem _ _ _ _) ?_
    | with_reducible refine foldl_wf _ _ _ ?_ ?_

@[simp] theorem State.engineReset_wf (s : State) (d e : Nat) (hw : Memory.wf s.mem = true) : Memory.wf (State.engineReset s d e).mem = true := by
  unfold State.engineReset
  repeat' first
    | with_reducible assumption
    | with_reducible refine keep_wf (State.count_mem _ _ _ _) ?_
    | with_reducible refine State.engineDown_wf _ _ _ ?_
    | with_reducible refine State.fenceUnits_wf _ _ ?_
    | with_reducible refine keep_wf (State.putFlag_mem _ _ _ _) ?_
    | with_reducible refine State.setCl_wf _ _ _ _ ?_
    | with_reducible refine ite_wf' _ _ ?_ ?_

@[simp] theorem State.lossNotices_mem (s : State) (d : Nat) (conns : List (Nat × Nat × Nat)) : (State.lossNotices s d conns).mem = s.mem := by
  unfold State.lossNotices
  repeat' first
    | with_reducible rfl
    | intro _
    | with_reducible refine Eq.trans (State.setFrame_mem _ _ _) ?_
    | with_reducible refine Eq.trans (State.setVoq_mem _ _ _) ?_
    | with_reducible refine Eq.trans (State.syncDesc_mem _ _) ?_
    | with_reducible refine Eq.trans (foldl_mem _ _ _ ?_) ?_
    | dsimp only
    | split

@[simp] theorem State.clusterReset_wf (s : State) (d c : Nat) (hw : Memory.wf s.mem = true) : Memory.wf (State.clusterReset s d c).mem = true := by
  unfold State.clusterReset
  repeat' first
    | with_reducible assumption
    | (intro a x hx)
    | with_reducible refine keep_wf (State.clrBit_mem _ _ _ _) ?_
    | with_reducible refine keep_wf (State.countDrop_mem _ _ _ _) ?_
    | with_reducible refine State.engineDown_wf _ _ _ ?_
    | with_reducible refine State.fenceUnits_wf _ _ ?_
    | with_reducible refine State.freeSlot_wf _ _ _ _ ?_
    | with_reducible refine keep_wf (State.initShared_mem _ _ _ _) ?_
    | with_reducible refine State.loadBank_wf _ _ _ _ _ ?_
    | with_reducible refine keep_wf (State.modEng_mem _ _ _ _) ?_
    | with_reducible refine keep_wf (State.putFlag_mem _ _ _ _) ?_
    | with_reducible refine keep_wf (State.setBit_mem _ _ _ _) ?_
    | with_reducible refine State.setCl_wf _ _ _ _ ?_
    | with_reducible refine State.writePack_wf _ _ _ _ _ ?_
    | with_reducible refine ite_wf' _ _ ?_ ?_
    | with_reducible refine foldl_wf _ _ _ ?_ ?_
    | dsimp only
    | split

@[simp] theorem State.fatalTrap_wf (s : State) (d e cause sub : Nat) (imp : Bool) (pc addr : Nat) (hw : Memory.wf s.mem = true) : Memory.wf (State.fatalTrap s d e cause sub imp pc addr).mem = true := by
  unfold State.fatalTrap
  repeat' first
    | with_reducible assumption
    | with_reducible refine keep_wf (State.count_mem _ _ _ _) ?_
    | with_reducible refine State.engineReset_wf _ _ _ ?_
    | with_reducible refine keep_wf (State.modEng_mem _ _ _ _) ?_
    | with_reducible refine State.partRec_wf _ _ _ _ _ _ ?_
    | with_reducible refine keep_wf (State.put_mem _ _ _ _) ?_
    | with_reducible refine keep_wf (State.putFlag_mem _ _ _ _) ?_
    | with_reducible refine State.rungTaken_wf _ _ _ _ _ _ _ ?_
    | with_reducible refine ite_wf' _ _ ?_ ?_

@[simp] theorem State.takeTrap_wf (s : State) (d e cause sub : Nat) (imp : Bool) (pc addr : Nat) (page : Option Nat) (hw : Memory.wf s.mem = true) : Memory.wf (State.takeTrap s d e cause sub imp pc addr page).mem = true := by
  unfold State.takeTrap
  repeat' first
    | with_reducible assumption
    | with_reducible refine keep_wf (State.count_mem _ _ _ _) ?_
    | with_reducible refine State.fatalTrap_wf _ _ _ _ _ _ _ _ ?_
    | with_reducible refine keep_wf (State.freeVal_mem _ _) ?_
    | with_reducible refine keep_wf (State.putFlag_mem _ _ _ _) ?_
    | with_reducible refine keep_wf (State.setEng_mem _ _ _ _) ?_
    | with_reducible refine ite_wf' _ _ ?_ ?_
    | split

@[simp] theorem State.takePend_wf (s : State) (d e : Nat) (t : PendTrap) (hw : Memory.wf s.mem = true) : Memory.wf (State.takePend s d e t).mem = true := by
  unfold State.takePend
  repeat' first
    | with_reducible assumption
    | with_reducible refine keep_wf (State.setEng_mem _ _ _ _) ?_
    | with_reducible refine State.takeTrap_wf _ _ _ _ _ _ _ _ _ ?_

@[simp] theorem State.fetchUe_wf (s : State) (d e : Nat) (hw : Memory.wf s.mem = true) : Memory.wf (State.fetchUe s d e).mem = true := by
  unfold State.fetchUe
  repeat' first
    | with_reducible assumption
    | with_reducible refine State.clusterReset_wf _ _ _ ?_
    | with_reducible refine keep_wf (State.putFlag_mem _ _ _ _) ?_
    | with_reducible refine State.rungTaken_wf _ _ _ _ _ _ _ ?_
    | with_reducible refine State.takeTrap_wf _ _ _ _ _ _ _ _ _ ?_

@[simp] theorem State.fetchCe_mem (s : State) (d e : Nat) : (State.fetchCe s d e).mem = s.mem := by rfl

@[simp] theorem State.endInstr_mem (s : State) (d e pc : Nat) : (State.endInstr s d e pc).mem = s.mem := by rfl

@[simp] theorem State.runBody_wf (s : State) (d e : Nat) (body : State → AwlOut) (h : Memory.wf (body s).state.mem = true) :
    Memory.wf (s.runBody d e body).mem = true := by
  unfold State.runBody; split <;> simp_all

@[simp] theorem checked_mem (d e a b c k : Nat) (f : Eng → State → AwlOut) (s : State) (h : ∀ g, (f g s).state.mem = s.mem) :
    (checked d e a b c k f s).state.mem = s.mem := by
  unfold checked; split <;> simp (maxDischargeDepth := 40) [h]

@[simp] theorem checked_wf (d e a b c k : Nat) (f : Eng → State → AwlOut) (s : State) (hw : Memory.wf s.mem = true)
    (h : ∀ g, Memory.wf (f g s).state.mem = true) : Memory.wf (checked d e a b c k f s).state.mem = true := by
  unfold checked; split
  · exact hw
  · exact h _

@[simp] theorem aluBody_mem (d e : Nat) (pops pushes : Nat) (f : List W16 → Flags → List W16 × Flags) (s : State) : (aluBody d e pops pushes f s).state.mem = s.mem := by simp [aluBody]

end Sys2Proof.Machine
end

