-- ==== Sys2Proof/Laws/KeepVatIrq.lean ====
section
/-! SUPPORT. What the functions of Machine/Irq do to the Vat: those that store nothing leave it, the others keep its form. -/

namespace Sys2Proof.Machine

@[simp] theorem State.setMsixWord_mem (s : State) (p w v : Nat) : (State.setMsixWord s p w v).mem = s.mem := by rfl

@[simp] theorem State.sendVector_mem (s : State) (p v : Nat) : (State.sendVector s p v).mem = s.mem := by
  unfold State.sendVector
  repeat' first
    | with_reducible rfl
    | with_reducible refine ite_mem' _ _ ?_ ?_

@[simp] theorem State.msixWrite_mem (s : State) (p w v : Nat) : (State.msixWrite s p w v).mem = s.mem := by
  unfold State.msixWrite
  repeat' first
    | with_reducible rfl
    | with_reducible refine Eq.trans (State.setMsixWord_mem _ _ _ _) ?_
    | with_reducible refine ite_mem' _ _ ?_ ?_

@[simp] theorem State.msixScan_mem (s : State) : (State.msixScan s).mem = s.mem := by
  unfold State.msixScan
  repeat' first
    | with_reducible rfl
    | intro _
    | with_reducible refine Eq.trans (State.sendVector_mem _ _ _) ?_
    | with_reducible refine Eq.trans (foldl_mem _ _ _ ?_) ?_
    | split

@[simp] theorem State.msixAgain_mem (s : State) (src : Nat) : (State.msixAgain s src).mem = s.mem := by
  unfold State.msixAgain
  repeat' first
    | with_reducible rfl
    | with_reducible refine Eq.trans (State.msixScan_mem _) ?_

end Sys2Proof.Machine
end

