-- ==== Sys2Proof/Laws/KeepVatTteOps.lean ====
section
/-! SUPPORT. What the functions of Machine/TteOps do to the Vat: those that store nothing leave it, the others keep its form. -/

namespace Sys2Proof.Machine

@[simp] theorem State.modTt_wf (s : State) (d : Nat) (g : TtGroup → TtGroup) (hw : Memory.wf s.mem = true) : Memory.wf (State.modTt s d g).mem = true := by
  unfold State.modTt
  repeat' first
    | with_reducible assumption

@[simp] theorem State.ttRecBody_wf (s : State) (d kind detail ch b sup : Nat) (hw : Memory.wf s.mem = true) : Memory.wf (State.ttRecBody s d kind detail ch b sup).mem = true := by
  unfold State.ttRecBody
  repeat' first
    | with_reducible assumption
    | with_reducible refine State.partRec_wf _ _ _ _ _ _ ?_

@[simp] theorem State.ttRec_wf (s : State) (d kind detail ch b : Nat) (hw : Memory.wf s.mem = true) : Memory.wf (State.ttRec s d kind detail ch b).mem = true := by
  unfold State.ttRec
  repeat' first
    | with_reducible assumption
    | with_reducible refine State.modTt_wf _ _ _ ?_
    | with_reducible refine State.ttRecBody_wf _ _ _ _ _ _ _ ?_
    | with_reducible refine ite_wf' _ _ ?_ ?_
    | dsimp only
    | split

@[simp] theorem State.ttTo_wf (s : State) (d st : Nat) (hw : Memory.wf s.mem = true) : Memory.wf (State.ttTo s d st).mem = true := by
  unfold State.ttTo
  repeat' first
    | with_reducible assumption
    | with_reducible refine keep_wf (State.count_mem _ _ _ _) ?_
    | with_reducible refine State.modTt_wf _ _ _ ?_
    | with_reducible refine keep_wf (State.put_mem _ _ _ _) ?_
    | with_reducible refine keep_wf (State.putFlag_mem _ _ _ _) ?_
    | with_reducible refine State.ttRec_wf _ _ _ _ _ _ ?_
    | with_reducible refine ite_wf' _ _ ?_ ?_

@[simp] theorem State.ttListen_wf (s : State) (d : Nat) (hw : Memory.wf s.mem = true) : Memory.wf (State.ttListen s d).mem = true := by
  unfold State.ttListen
  repeat' first
    | with_reducible assumption
    | with_reducible refine State.modTt_wf _ _ _ ?_
    | with_reducible refine State.ttTo_wf _ _ _ ?_

@[simp] theorem State.syncTtBuf_wf (s : State) (d : Nat) (hw : Memory.wf s.mem = true) : Memory.wf (State.syncTtBuf s d).mem = true := by
  unfold State.syncTtBuf
  repeat' first
    | with_reducible assumption
    | with_reducible refine keep_wf (State.put_mem _ _ _ _) ?_

@[simp] theorem State.ttRelease_wf (s : State) (d f : Nat) (hw : Memory.wf s.mem = true) : Memory.wf (State.ttRelease s d f).mem = true := by
  unfold State.ttRelease
  repeat' first
    | with_reducible assumption
    | with_reducible refine State.doneWith_wf _ _ ?_
    | with_reducible refine keep_wf (State.leaveOutput_mem _ _ _ _) ?_
    | with_reducible refine keep_wf (State.txDone_mem _ _) ?_

@[simp] theorem State.ttBad_wf (s : State) (d f : Nat) (hw : Memory.wf s.mem = true) : Memory.wf (State.ttBad s d f).mem = true := by
  unfold State.ttBad
  repeat' first
    | with_reducible assumption
    | with_reducible refine keep_wf (State.count_mem _ _ _ _) ?_
    | with_reducible refine keep_wf (State.putFlag_mem _ _ _ _) ?_
    | with_reducible refine State.ttRelease_wf _ _ _ ?_

@[simp] theorem State.unlatch_wf (s : State) (d w : Nat) (hw : Memory.wf s.mem = true) : Memory.wf (State.unlatch s d w).mem = true := by
  unfold State.unlatch
  repeat' first
    | with_reducible assumption
    | with_reducible refine State.doneWith_wf _ _ ?_
    | with_reducible refine State.modTt_wf _ _ _ ?_
    | dsimp only
    | split

@[simp] theorem State.latchBuf_wf (s : State) (d w : Nat) (hw : Memory.wf s.mem = true) : Memory.wf (State.latchBuf s d w).mem = true := by
  unfold State.latchBuf
  repeat' first
    | with_reducible assumption
    | with_reducible refine State.modTt_wf _ _ _ ?_
    | with_reducible refine keep_wf (State.setFrame_mem _ _ _) ?_
    | with_reducible refine State.unlatch_wf _ _ _ ?_
    | dsimp only
    | split

@[simp] theorem State.emptyBuf_wf (s : State) (d w : Nat) (hw : Memory.wf s.mem = true) : Memory.wf (State.emptyBuf s d w).mem = true := by
  unfold State.emptyBuf
  repeat' first
    | with_reducible assumption
    | with_reducible refine State.modTt_wf _ _ _ ?_
    | with_reducible refine State.syncTtBuf_wf _ _ ?_
    | with_reducible refine State.ttRelease_wf _ _ _ ?_
    | split

@[simp] theorem State.ttReleaseAll_wf (s : State) (d : Nat) (hw : Memory.wf s.mem = true) : Memory.wf (State.ttReleaseAll s d).mem = true := by
  unfold State.ttReleaseAll
  repeat' first
    | with_reducible assumption
    | (intro a x hx)
    | with_reducible refine State.modTt_wf _ _ _ ?_
    | with_reducible refine keep_wf (State.setOutQueue_mem _ _ _ _) ?_
    | with_reducible refine State.syncTtBuf_wf _ _ ?_
    | with_reducible refine State.ttRelease_wf _ _ _ ?_
    | with_reducible refine State.unlatch_wf _ _ _ ?_
    | with_reducible refine foldl_wf _ _ _ ?_ ?_

@[simp] theorem State.ttHold_wf (s : State) (d : Nat) (hw : Memory.wf s.mem = true) : Memory.wf (State.ttHold s d).mem = true := by
  unfold State.ttHold
  repeat' first
    | with_reducible assumption
    | with_reducible refine State.ttReleaseAll_wf _ _ ?_
    | with_reducible refine State.ttTo_wf _ _ _ ?_
    | with_reducible refine ite_wf' _ _ ?_ ?_

@[simp] theorem State.ttAccept_wf (s : State) (d f : Nat) (hw : Memory.wf s.mem = true) : Memory.wf (State.ttAccept s d f).mem = true := by
  unfold State.ttAccept
  repeat' first
    | with_reducible assumption
    | with_reducible refine State.emptyBuf_wf _ _ _ ?_
    | with_reducible refine State.modTt_wf _ _ _ ?_
    | with_reducible refine State.syncTtBuf_wf _ _ ?_
    | with_reducible refine State.ttBad_wf _ _ _ ?_
    | with_reducible refine ite_wf' _ _ ?_ ?_

@[simp] theorem State.ttRead_wf (s : State) (d f : Nat) (hw : Memory.wf s.mem = true) : Memory.wf (State.ttRead s d f).2.mem = true := by
  unfold State.ttRead
  repeat' first
    | with_reducible assumption
    | with_reducible refine keep_wf (State.cellsAllowed_mem _ _ _ _) ?_
    | with_reducible refine State.dropFrame_wf _ _ _ _ ?_
    | with_reducible refine State.frameRead_wf _ _ _ _ _ _ _ ?_
    | with_reducible refine keep_wf (State.leaveOutput_mem _ _ _ _) ?_
    | with_reducible refine State.modTt_wf _ _ _ ?_
    | with_reducible refine State.syncTtBuf_wf _ _ ?_
    | with_reducible refine ite_snd_wf _ _ ?_ ?_

@[simp] theorem State.ttSends_wf (s : State) (d ch words : Nat) (hw : Memory.wf s.mem = true) : Memory.wf (State.ttSends s d ch words).mem = true := by
  unfold State.ttSends
  repeat' first
    | with_reducible assumption
    | with_reducible refine State.modTt_wf _ _ _ ?_

@[simp] theorem State.ttRebase_wf (s : State) (d : Nat) (hw : Memory.wf s.mem = true) : Memory.wf (State.ttRebase s d).mem = true := by
  unfold State.ttRebase
  repeat' first
    | with_reducible assumption
    | with_reducible refine State.modTt_wf _ _ _ ?_

end Sys2Proof.Machine
end

