-- ==== Sys2Proof/Laws/KeepVatViews.lean ====
section
/-! SUPPORT. What the functions of Machine/Views do to the Vat: those that store nothing leave it, the others keep its form. -/

namespace Sys2Proof.Machine

@[simp] theorem State.viewTt_wf (s : State) (d off : Nat) (hw : Memory.wf s.mem = true) : Memory.wf (State.viewTt s d off).mem = true := by
  unfold State.viewTt
  repeat' first
    | with_reducible assumption
    | with_reducible refine keep_wf (State.put_mem _ _ _ _) ?_
    | with_reducible refine keep_wf (State.putFlag_mem _ _ _ _) ?_
    | with_reducible refine keep_wf (State.puts_mem _ _ _) ?_
    | with_reducible refine ite_wf' _ _ ?_ ?_

@[simp] theorem State.viewCal_mem (s : State) (d off : Nat) : (State.viewCal s d off).mem = s.mem := by
  unfold State.viewCal
  repeat' first
    | with_reducible rfl
    | with_reducible refine Eq.trans (State.put_mem _ _ _ _) ?_
    | with_reducible refine Eq.trans (State.puts_mem _ _ _) ?_
    | with_reducible refine ite_mem' _ _ ?_ ?_

@[simp] theorem State.viewRcv_wf (s : State) (off : Nat) (hw : Memory.wf s.mem = true) : Memory.wf (State.viewRcv s off).mem = true := by
  unfold State.viewRcv
  repeat' first
    | with_reducible assumption
    | with_reducible refine keep_wf (State.putFlag_mem _ _ _ _) ?_
    | with_reducible refine keep_wf (State.puts_mem _ _ _) ?_
    | with_reducible refine ite_wf' _ _ ?_ ?_

@[simp] theorem State.viewHar_mem (s : State) (d off : Nat) : (State.viewHar s d off).mem = s.mem := by
  unfold State.viewHar
  repeat' first
    | with_reducible rfl
    | with_reducible refine Eq.trans (State.putFlag_mem _ _ _ _) ?_
    | with_reducible refine ite_mem' _ _ ?_ ?_

@[simp] theorem State.fullView_wf (s : State) (d off : Nat) (hw : Memory.wf s.mem = true) : Memory.wf (State.fullView s d off).mem = true := by
  unfold State.fullView
  repeat' first
    | with_reducible assumption
    | with_reducible refine keep_wf (State.invMax_mem _ _ _ _) ?_
    | with_reducible refine keep_wf (State.put_mem _ _ _ _) ?_
    | with_reducible refine keep_wf (State.putFlag_mem _ _ _ _) ?_
    | with_reducible refine keep_wf (State.viewCal_mem _ _ _) ?_
    | with_reducible refine keep_wf (State.viewHar_mem _ _ _) ?_
    | with_reducible refine State.viewRcv_wf _ _ ?_
    | with_reducible refine State.viewTt_wf _ _ _ ?_
    | with_reducible refine ite_wf' _ _ ?_ ?_
    | dsimp only
    | split

end Sys2Proof.Machine
end

