-- ==== Sys2Proof/Laws/KeepVatAwlMem.lean ====
section
/-! SUPPORT. What the functions of Machine/AwlMem do to the Vat: those that store nothing leave it, the others keep its form. -/

namespace Sys2Proof.Machine

@[simp] theorem State.mbxRx_mem (s : State) (d e : Nat) : (State.mbxRx s d e).2.mem = s.mem := by
  unfold State.mbxRx
  repeat' first
    | with_reducible rfl
    | with_reducible refine Eq.trans (State.mbxPop_mem _ _ _ _ _ (by with_reducible assumption)) ?_
    | with_reducible refine Eq.trans (State.modEng_mem _ _ _ _) ?_
    | split

@[simp] theorem State.nowLatch_mem (s : State) (d e : Nat) : (State.nowLatch s d e).2.mem = s.mem := by
  induction e generalizing s d with
  | zero =>
    unfold State.nowLatch
    repeat' first
      | with_reducible rfl
      | with_reducible refine Eq.trans (State.modEng_mem _ _ _ _) ?_
  | succ _ ih =>
    unfold State.nowLatch
    repeat' first
      | with_reducible rfl
      | with_reducible refine Eq.trans (State.modEng_mem _ _ _ _) ?_

@[simp] theorem State.readRefused_mem (s : State) (d e : Nat) : (State.readRefused s d e).2.mem = s.mem := by rfl

@[simp] theorem State.specialRead_wf (s : State) (d e i : Nat) (hw : Memory.wf s.mem = true) : Memory.wf (State.specialRead s d e i).2.mem = true := by
  unfold State.specialRead
  repeat' first
    | with_reducible assumption
    | with_reducible refine keep_wf (State.mbxRx_mem _ _ _) ?_
    | with_reducible refine keep_wf (State.nowLatch_mem _ _ _) ?_
    | with_reducible refine keep_wf (State.readRefused_mem _ _ _) ?_
    | dsimp only
    | split

@[simp] theorem State.fwClear_mem (s : State) (d e : Nat) : (State.fwClear s d e).mem = s.mem := by rfl

@[simp] theorem State.fwError_mem (s : State) (d e : Nat) : (State.fwError s d e).mem = s.mem := by rfl

@[simp] theorem State.fwRelease_wf (s : State) (d e : Nat) (hw : Memory.wf s.mem = true) : Memory.wf (State.fwRelease s d e).mem = true := by
  unfold State.fwRelease
  repeat' first
    | with_reducible assumption
    | with_reducible refine keep_wf (State.fwClear_mem _ _ _) ?_
    | with_reducible refine keep_wf (State.fwError_mem _ _ _) ?_
    | with_reducible refine State.releaseRx_wf _ _ _ ?_
    | with_reducible refine ite_wf' _ _ ?_ ?_

@[simp] theorem State.fwHold_mem (s : State) (d e : Nat) : (State.fwHold s d e).mem = s.mem := by
  unfold State.fwHold
  repeat' first
    | with_reducible rfl
    | with_reducible refine Eq.trans (State.fwClear_mem _ _ _) ?_
    | with_reducible refine Eq.trans (State.fwError_mem _ _ _) ?_
    | with_reducible refine Eq.trans (State.modEng_mem _ _ _ _) ?_
    | with_reducible refine ite_mem' _ _ ?_ ?_

@[simp] theorem State.fwRequeue_wf (s : State) (d e : Nat) (hw : Memory.wf s.mem = true) : Memory.wf (State.fwRequeue s d e).mem = true := by
  unfold State.fwRequeue
  repeat' first
    | with_reducible assumption
    | with_reducible refine keep_wf (State.fwClear_mem _ _ _) ?_
    | with_reducible refine keep_wf (State.fwError_mem _ _ _) ?_
    | with_reducible refine keep_wf (State.leaveOutput_mem _ _ _ _) ?_
    | with_reducible refine keep_wf (State.modEng_mem _ _ _ _) ?_
    | with_reducible refine keep_wf (State.setFrame_mem _ _ _) ?_
    | with_reducible refine keep_wf (State.setSlot_mem _ _ _ _ _) ?_
    | with_reducible refine State.toOutput_wf _ _ _ _ _ _ _ ?_
    | dsimp only
    | split

@[simp] theorem State.fwAlloc_wf (s : State) (d e : Nat) (hw : Memory.wf s.mem = true) : Memory.wf (State.fwAlloc s d e).mem = true := by
  unfold State.fwAlloc
  repeat' first
    | with_reducible assumption
    | with_reducible refine State.allocTx_wf _ _ _ _ _ _ _ (by with_reducible assumption) ?_
    | with_reducible refine keep_wf (State.fwClear_mem _ _ _) ?_
    | with_reducible refine keep_wf (State.fwError_mem _ _ _) ?_
    | with_reducible refine keep_wf (State.modEng_mem _ _ _ _) ?_
    | with_reducible refine ite_wf' _ _ ?_ ?_
    | split

@[simp] theorem State.fwSend_wf (s : State) (d e : Nat) (hw : Memory.wf s.mem = true) : Memory.wf (State.fwSend s d e).mem = true := by
  unfold State.fwSend
  repeat' first
    | with_reducible assumption
    | with_reducible refine State.enterSb_wf _ _ _ _ ?_
    | with_reducible refine keep_wf (State.fwClear_mem _ _ _) ?_
    | with_reducible refine keep_wf (State.fwError_mem _ _ _) ?_
    | with_reducible refine keep_wf (State.modEng_mem _ _ _ _) ?_
    | with_reducible refine keep_wf (State.setFrame_mem _ _ _) ?_
    | with_reducible refine ite_wf' _ _ ?_ ?_
    | dsimp only
    | split

@[simp] theorem State.fwDiscard_wf (s : State) (d e : Nat) (hw : Memory.wf s.mem = true) : Memory.wf (State.fwDiscard s d e).mem = true := by
  unfold State.fwDiscard
  repeat' first
    | with_reducible assumption
    | with_reducible refine State.discardTx_wf _ _ _ ?_
    | with_reducible refine keep_wf (State.fwClear_mem _ _ _) ?_
    | with_reducible refine keep_wf (State.fwError_mem _ _ _) ?_
    | with_reducible refine ite_wf' _ _ ?_ ?_

@[simp] theorem State.fwCtrl_wf (s : State) (d e v : Nat) (hw : Memory.wf s.mem = true) : Memory.wf (State.fwCtrl s d e v).mem = true := by
  unfold State.fwCtrl
  repeat' first
    | with_reducible assumption
    | with_reducible refine State.fwAlloc_wf _ _ _ ?_
    | with_reducible refine State.fwDiscard_wf _ _ _ ?_
    | with_reducible refine keep_wf (State.fwHold_mem _ _ _) ?_
    | with_reducible refine State.fwRelease_wf _ _ _ ?_
    | with_reducible refine State.fwRequeue_wf _ _ _ ?_
    | with_reducible refine State.fwSend_wf _ _ _ ?_
    | with_reducible refine keep_wf (State.modEng_mem _ _ _ _) ?_
    | dsimp only
    | split

@[simp] theorem State.tmrWrite_mem (s : State) (d e v : Nat) : (State.tmrWrite s d e v).mem = s.mem := by rfl

@[simp] theorem State.trapPcWrite_mem (s : State) (d e v : Nat) : (State.trapPcWrite s d e v).mem = s.mem := by rfl

@[simp] theorem State.mbxTx_wf (s : State) (d e v : Nat) (hw : Memory.wf s.mem = true) : Memory.wf (State.mbxTx s d e v).mem = true := by
  unfold State.mbxTx
  repeat' first
    | with_reducible assumption
    | with_reducible refine State.enterSb_wf _ _ _ _ ?_

@[simp] theorem State.signalWrite_wf (s : State) (d e v : Nat) (hw : Memory.wf s.mem = true) : Memory.wf (State.signalWrite s d e v).mem = true := by
  unfold State.signalWrite
  repeat' first
    | with_reducible assumption
    | with_reducible refine State.enterSb_wf _ _ _ _ ?_

@[simp] theorem State.specialWrite_wf (s : State) (d e i v : Nat) (hw : Memory.wf s.mem = true) : Memory.wf (State.specialWrite s d e i v).mem = true := by
  unfold State.specialWrite
  repeat' first
    | with_reducible assumption
    | with_reducible refine State.fwCtrl_wf _ _ _ _ ?_
    | with_reducible refine State.mbxTx_wf _ _ _ _ ?_
    | with_reducible refine keep_wf (State.modEng_mem _ _ _ _) ?_
    | with_reducible refine State.signalWrite_wf _ _ _ _ ?_
    | with_reducible refine keep_wf (State.tmrWrite_mem _ _ _ _) ?_
    | with_reducible refine keep_wf (State.trapPcWrite_mem _ _ _ _) ?_
    | split

@[simp] theorem State.windowByte_mem (s : State) (d e b : Nat) : (State.windowByte s d e b).2.mem = s.mem := by
  unfold State.windowByte
  repeat' first
    | with_reducible rfl
    | with_reducible refine Eq.trans (State.freeVal_mem _ _) ?_
    | dsimp only
    | split

@[simp] theorem State.vatCheck_mem (s : State) (d e t off n w : Nat) (write : Bool) : (State.vatCheck s d e t off n w write).2.mem = s.mem := by
  unfold State.vatCheck
  repeat' first
    | with_reducible rfl
    | with_reducible refine Eq.trans (State.vatViolation_mem _ _ _ _ _ _ _) ?_
    | dsimp only
    | split

@[simp] theorem State.ctlCheck_mem (s : State) (d e off w : Nat) (pair write : Bool) : (State.ctlCheck s d e off w pair write).2.mem = s.mem := by
  unfold State.ctlCheck
  repeat' first
    | with_reducible rfl
    | with_reducible refine Eq.trans (State.count_mem _ _ _ _) ?_
    | with_reducible refine Eq.trans (State.fenceRefused_mem _ _ _) ?_
    | with_reducible refine Eq.trans (State.putFlag_mem _ _ _ _) ?_
    | dsimp only
    | split

@[simp] theorem State.wordCheck_mem (s : State) (d e w : Nat) (pair write : Bool) : (State.wordCheck s d e w pair write).2.mem = s.mem := by
  unfold State.wordCheck
  repeat' first
    | with_reducible rfl
    | with_reducible refine Eq.trans (State.ctlCheck_mem _ _ _ _ _ _ _) ?_
    | with_reducible refine Eq.trans (State.vatCheck_mem _ _ _ _ _ _ _ _) ?_
    | split

@[simp] theorem State.issueCheck_mem (s : State) (d e w : Nat) (two write : Bool) : (State.issueCheck s d e w two write).2.mem = s.mem := by
  unfold State.issueCheck
  repeat' first
    | with_reducible rfl
    | with_reducible refine Eq.trans (State.vatCheck_mem _ _ _ _ _ _ _ _) ?_
    | with_reducible refine Eq.trans (State.wordCheck_mem _ _ _ _ _ _) ?_
    | dsimp only
    | split

@[simp] theorem State.forward_wf (s : State) (d e : Nat) (t : SbTarget) (addr n : Nat) (hw : Memory.wf s.mem = true) : Memory.wf (State.forward s d e t addr n).2.mem = true := by
  unfold State.forward
  repeat' first
    | with_reducible assumption
    | with_reducible refine State.drainTo_wf _ _ _ _ _ ?_
    | with_reducible refine ite_snd_wf _ _ ?_ ?_
    | dsimp only
    | split

@[simp] theorem State.spadRead_mem (s : State) (d c w : Nat) (n : Nat) : (State.spadRead s d c w n).state.mem = s.mem := by
  induction n generalizing s w with
  | zero => rfl
  | succ n ih =>
    unfold State.spadRead
    split
    · exact snd_mem (by assumption) (by simp)
    · rename_i t h
      have ht : t.mem = s.mem := snd_mem h (by simp)
      split
      · rename_i h2
        exact Loaded.ok_mem h2 (by simp [ih, ht])
      · simp [ih, ht]

@[simp] theorem State.buffered_wf (s : State) (d e : Nat) (t : SbTarget) (a n : Nat) (k : State → Loaded) (hw : Memory.wf s.mem = true)
    (h : ∀ u, Memory.wf u.mem = true → Memory.wf (k u).state.mem = true) : Memory.wf (s.buffered d e t a n k).state.mem = true := by
  unfold State.buffered; split
  · exact snd_wf (by assumption) (State.forward_wf _ _ _ _ _ _ hw)
  · exact h _ (snd_wf (by assumption) (State.forward_wf _ _ _ _ _ _ hw))

@[simp] theorem loadedOf_mem (r : List Byte × Bool × State) : (loadedOf r).state.mem = r.2.2.mem := by
  unfold loadedOf; split <;> rfl

@[simp] theorem State.windowBytes_mem (s : State) (d e b : Nat) (x0 : Nat) : (State.windowBytes s d e b x0).2.mem = s.mem := by
  induction x0 generalizing s d e b with
  | zero =>
    unfold State.windowBytes
    repeat' first
      | with_reducible rfl
  | succ _ ih =>
    unfold State.windowBytes
    repeat' first
      | with_reducible rfl
      | with_reducible refine Eq.trans (ih _ _ _ _) ?_
      | with_reducible refine Eq.trans (State.windowByte_mem _ _ _ _) ?_

@[simp] theorem State.windowLoad_wf (s : State) (d e b n : Nat) (hw : Memory.wf s.mem = true) : Memory.wf (State.windowLoad s d e b n).state.mem = true := by
  unfold State.windowLoad
  repeat' first
    | with_reducible assumption
    | intro _
    | with_reducible refine ok_wf _ _ ?_
    | with_reducible refine ite_loaded_wf _ _ ?_ ?_
    | with_reducible refine State.buffered_wf _ _ _ _ _ _ _ ?_ ?_
    | with_reducible refine State.frameRead_wf _ _ _ _ _ _ _ ?_
    | with_reducible refine keep_wf (loadedOf_mem _) ?_
    | with_reducible refine keep_wf (State.windowBytes_mem _ _ _ _ _) ?_
    | refine Loaded.ok_wf (by with_reducible assumption) ?_
    | dsimp only
    | split

@[simp] theorem State.vatLoad_wf (s : State) (d e t off n : Nat) (hw : Memory.wf s.mem = true) : Memory.wf (State.vatLoad s d e t off n).state.mem = true := by
  unfold State.vatLoad
  repeat' first
    | with_reducible assumption
    | intro _
    | with_reducible refine State.buffered_wf _ _ _ _ _ _ _ ?_ ?_
    | with_reducible refine keep_wf (loadedOf_mem _) ?_
    | with_reducible refine State.portRead_wf _ _ _ _ _ _ ?_

@[simp] theorem State.ctlLoad_wf (s : State) (d off : Nat) (hw : Memory.wf s.mem = true) : Memory.wf (State.ctlLoad s d off).2.mem = true := by
  unfold State.ctlLoad
  repeat' first
    | with_reducible assumption
    | with_reducible refine State.fullView_wf _ _ _ ?_
    | with_reducible refine State.lcePop_wf _ _ _ ?_
    | with_reducible refine State.rawRead_wf _ _ _ _ ?_
    | with_reducible refine ite_snd_wf _ _ ?_ ?_

@[simp] theorem State.wordLoad_wf (s : State) (d e w : Nat) (hw : Memory.wf s.mem = true) : Memory.wf (State.wordLoad s d e w).state.mem = true := by
  unfold State.wordLoad
  repeat' first
    | with_reducible assumption
    | intro _
    | with_reducible refine ok_wf _ _ ?_
    | with_reducible refine State.buffered_wf _ _ _ _ _ _ _ ?_ ?_
    | with_reducible refine keep_wf (State.spadRead_mem _ _ _ _ _) ?_
    | with_reducible refine State.specialRead_wf _ _ _ _ ?_
    | with_reducible refine State.vatLoad_wf _ _ _ _ _ _ ?_
    | with_reducible refine State.windowLoad_wf _ _ _ _ _ ?_
    | dsimp only
    | split

@[simp] theorem State.pairLoad_wf (s : State) (d e w : Nat) (hw : Memory.wf s.mem = true) : Memory.wf (State.pairLoad s d e w).state.mem = true := by
  unfold State.pairLoad
  repeat' first
    | with_reducible assumption
    | intro _
    | with_reducible refine ok_wf _ _ ?_
    | with_reducible refine State.buffered_wf _ _ _ _ _ _ _ ?_ ?_
    | with_reducible refine State.ctlLoad_wf _ _ _ ?_
    | with_reducible refine keep_wf (State.spadRead_mem _ _ _ _ _) ?_
    | with_reducible refine State.vatLoad_wf _ _ _ _ _ _ ?_
    | with_reducible refine State.windowLoad_wf _ _ _ _ _ ?_
    | with_reducible refine State.wordLoad_wf _ _ _ _ ?_
    | refine Loaded.ok_wf (by with_reducible assumption) ?_
    | dsimp only
    | split

@[simp] theorem State.bufferStore_wf (s : State) (d e : Nat) (t : SbTarget) (addr : Nat) (bs : List Byte) (w : Nat) (hw : Memory.wf s.mem = true) : Memory.wf (State.bufferStore s d e t addr bs w).mem = true := by
  unfold State.bufferStore
  repeat' first
    | with_reducible assumption
    | with_reducible refine State.enterSb_wf _ _ _ _ ?_

@[simp] theorem State.windowStore_wf (s : State) (d e b : Nat) (bs : List Byte) (w : Nat) (hw : Memory.wf s.mem = true) : Memory.wf (State.windowStore s d e b bs w).mem = true := by
  unfold State.windowStore
  repeat' first
    | with_reducible assumption
    | with_reducible refine State.bufferStore_wf _ _ _ _ _ _ _ ?_
    | with_reducible refine keep_wf (State.setFrame_mem _ _ _) ?_
    | with_reducible refine ite_wf' _ _ ?_ ?_
    | split

@[simp] theorem State.areaStore_wf (s : State) (d e w : Nat) (bs : List Byte) (hw : Memory.wf s.mem = true) : Memory.wf (State.areaStore s d e w bs).mem = true := by
  unfold State.areaStore
  repeat' first
    | with_reducible assumption
    | with_reducible refine State.bufferStore_wf _ _ _ _ _ _ _ ?_
    | with_reducible refine keep_wf (State.spadSet_mem _ _ _ _ _) ?_
    | with_reducible refine State.specialWrite_wf _ _ _ _ _ ?_
    | with_reducible refine State.windowStore_wf _ _ _ _ _ _ ?_
    | with_reducible refine ite_wf' _ _ ?_ ?_
    | dsimp only
    | split

@[simp] theorem State.storeWords_wf (s : State) (d e w : Nat) (bs : List Byte) (hw : Memory.wf s.mem = true) : Memory.wf (State.storeWords s d e w bs).mem = true := by
  unfold State.storeWords
  repeat' first
    | with_reducible assumption
    | with_reducible refine State.areaStore_wf _ _ _ _ _ ?_
    | with_reducible refine ite_wf' _ _ ?_ ?_

@[simp] theorem Loaded.out_mem (r : Loaded) (w : Nat) (page : Option Nat) (k : List Byte → State → AwlOut) (p : List Host.Cell)
    (h : r.state.mem = p) (hk : ∀ bs t, (k bs t).state.mem = t.mem) : (r.out w page k).state.mem = p := by
  cases r <;> simp_all [Loaded.out]

@[simp] theorem Loaded.out_wf (r : Loaded) (w : Nat) (page : Option Nat) (k : List Byte → State → AwlOut)
    (h : Memory.wf r.state.mem = true) (hk : ∀ bs t, Memory.wf t.mem = true → Memory.wf (k bs t).state.mem = true) :
    Memory.wf (r.out w page k).state.mem = true := by
  cases r
  · exact hk _ _ h
  · exact h

@[simp] theorem State.pushed_mem (s : State) (d e pops : Nat) (ws : List W16) : (State.pushed s d e pops ws).mem = s.mem := by rfl

@[simp] theorem loadBody_wf (d e off : Nat) (two : Bool) (s : State) (hw : Memory.wf s.mem = true) : Memory.wf (loadBody d e off two s).state.mem = true := by
  unfold loadBody
  repeat' first
    | with_reducible assumption
    | (intro a x hx)
    | intro _
    | with_reducible refine next_wf _ _ ?_
    | with_reducible refine trap_wf _ _ _ _ _ ?_
    | with_reducible refine ite_loaded_wf _ _ ?_ ?_
    | with_reducible refine checked_wf _ _ _ _ _ _ _ _ ?_ ?_
    | with_reducible refine keep_wf (State.issueCheck_mem _ _ _ _ _ _) ?_
    | with_reducible refine Loaded.out_wf _ _ _ _ ?_ ?_
    | with_reducible refine State.pairLoad_wf _ _ _ _ ?_
    | with_reducible refine keep_wf (State.pushed_mem _ _ _ _ _) ?_
    | with_reducible refine State.wordLoad_wf _ _ _ _ ?_
    | refine snd_wf (by with_reducible assumption) ?_
    | dsimp only
    | split

@[simp] theorem storeBody_wf (d e off : Nat) (two : Bool) (s : State) (hw : Memory.wf s.mem = true) : Memory.wf (storeBody d e off two s).state.mem = true := by
  unfold storeBody
  repeat' first
    | with_reducible assumption
    | intro _
    | with_reducible refine next_wf _ _ ?_
    | with_reducible refine trap_wf _ _ _ _ _ ?_
    | with_reducible refine checked_wf _ _ _ _ _ _ _ _ ?_ ?_
    | with_reducible refine keep_wf (State.issueCheck_mem _ _ _ _ _ _) ?_
    | with_reducible refine keep_wf (State.pushed_mem _ _ _ _ _) ?_
    | with_reducible refine State.storeWords_wf _ _ _ _ _ ?_
    | refine snd_wf (by with_reducible assumption) ?_
    | dsimp only
    | split

@[simp] theorem ldsBody_wf (d e i : Nat) (s : State) (hw : Memory.wf s.mem = true) : Memory.wf (ldsBody d e i s).state.mem = true := by
  unfold ldsBody
  repeat' first
    | with_reducible assumption
    | intro _
    | with_reducible refine next_wf _ _ ?_
    | with_reducible refine trap_wf _ _ _ _ _ ?_
    | with_reducible refine ite_awl_wf _ _ ?_ ?_
    | with_reducible refine checked_wf _ _ _ _ _ _ _ _ ?_ ?_
    | with_reducible refine keep_wf (State.pushed_mem _ _ _ _ _) ?_
    | with_reducible refine State.specialRead_wf _ _ _ _ ?_

@[simp] theorem stsBody_wf (d e i : Nat) (s : State) (hw : Memory.wf s.mem = true) : Memory.wf (stsBody d e i s).state.mem = true := by
  unfold stsBody
  repeat' first
    | with_reducible assumption
    | intro _
    | with_reducible refine next_wf _ _ ?_
    | with_reducible refine trap_wf _ _ _ _ _ ?_
    | with_reducible refine ite_awl_wf _ _ ?_ ?_
    | with_reducible refine checked_wf _ _ _ _ _ _ _ _ ?_ ?_
    | with_reducible refine keep_wf (State.pushed_mem _ _ _ _ _) ?_
    | with_reducible refine State.specialWrite_wf _ _ _ _ _ ?_

@[simp] theorem fldBody_wf (d e fmt : Nat) (s : State) (hw : Memory.wf s.mem = true) : Memory.wf (fldBody d e fmt s).state.mem = true := by
  unfold fldBody
  repeat' first
    | with_reducible assumption
    | (intro a x hx)
    | intro _
    | with_reducible refine next_wf _ _ ?_
    | with_reducible refine checked_wf _ _ _ _ _ _ _ _ ?_ ?_
    | with_reducible refine Loaded.out_wf _ _ _ _ ?_ ?_
    | with_reducible refine keep_wf (State.pushed_mem _ _ _ _ _) ?_
    | with_reducible refine State.windowLoad_wf _ _ _ _ _ ?_

@[simp] theorem fstBody_wf (d e fmt : Nat) (s : State) (hw : Memory.wf s.mem = true) : Memory.wf (fstBody d e fmt s).state.mem = true := by
  unfold fstBody
  repeat' first
    | with_reducible assumption
    | intro _
    | with_reducible refine next_wf _ _ ?_
    | with_reducible refine trap_wf _ _ _ _ _ ?_
    | with_reducible refine ite_awl_wf _ _ ?_ ?_
    | with_reducible refine checked_wf _ _ _ _ _ _ _ _ ?_ ?_
    | with_reducible refine keep_wf (State.pushed_mem _ _ _ _ _) ?_
    | with_reducible refine State.windowStore_wf _ _ _ _ _ _ ?_

@[simp] theorem State.rotCheck_mem (s : State) (d e a n : Nat) (write : Bool) : (State.rotCheck s d e a n write).2.mem = s.mem := by
  unfold State.rotCheck
  repeat' first
    | with_reducible rfl
    | with_reducible refine Eq.trans (State.vatCheck_mem _ _ _ _ _ _ _ _) ?_
    | dsimp only
    | split

@[simp] theorem vldBody_wf (d e fmt : Nat) (s : State) (hw : Memory.wf s.mem = true) : Memory.wf (vldBody d e fmt s).state.mem = true := by
  unfold vldBody
  repeat' first
    | with_reducible assumption
    | (intro a x hx)
    | intro _
    | with_reducible refine next_wf _ _ ?_
    | with_reducible refine trap_wf _ _ _ _ _ ?_
    | with_reducible refine checked_wf _ _ _ _ _ _ _ _ ?_ ?_
    | with_reducible refine Loaded.out_wf _ _ _ _ ?_ ?_
    | with_reducible refine keep_wf (State.pushed_mem _ _ _ _ _) ?_
    | with_reducible refine keep_wf (State.rotCheck_mem _ _ _ _ _ _) ?_
    | with_reducible refine State.vatLoad_wf _ _ _ _ _ _ ?_
    | refine snd_wf (by with_reducible assumption) ?_
    | dsimp only
    | split

@[simp] theorem vstBody_wf (d e fmt : Nat) (s : State) (hw : Memory.wf s.mem = true) : Memory.wf (vstBody d e fmt s).state.mem = true := by
  unfold vstBody
  repeat' first
    | with_reducible assumption
    | intro _
    | with_reducible refine next_wf _ _ ?_
    | with_reducible refine trap_wf _ _ _ _ _ ?_
    | with_reducible refine State.bufferStore_wf _ _ _ _ _ _ _ ?_
    | with_reducible refine checked_wf _ _ _ _ _ _ _ _ ?_ ?_
    | with_reducible refine keep_wf (State.pushed_mem _ _ _ _ _) ?_
    | with_reducible refine keep_wf (State.rotCheck_mem _ _ _ _ _ _) ?_
    | refine snd_wf (by with_reducible assumption) ?_
    | dsimp only
    | split

@[simp] theorem rdrecBody_wf (d e n : Nat) (s : State) (hw : Memory.wf s.mem = true) : Memory.wf (rdrecBody d e n s).state.mem = true := by
  unfold rdrecBody
  repeat' first
    | with_reducible assumption
    | (intro a x hx)
    | intro _
    | with_reducible refine next_wf _ _ ?_
    | with_reducible refine trap_wf _ _ _ _ _ ?_
    | with_reducible refine ite_awl_wf _ _ ?_ ?_
    | with_reducible refine checked_wf _ _ _ _ _ _ _ _ ?_ ?_
    | with_reducible refine Loaded.out_wf _ _ _ _ ?_ ?_
    | with_reducible refine keep_wf (State.pushed_mem _ _ _ _ _) ?_
    | with_reducible refine keep_wf (State.spadWords_mem _ _ _ _ _) ?_
    | with_reducible refine keep_wf (State.vatCheck_mem _ _ _ _ _ _ _ _) ?_
    | with_reducible refine State.vatLoad_wf _ _ _ _ _ _ ?_
    | refine snd_wf (by with_reducible assumption) ?_
    | split

end Sys2Proof.Machine
end

