-- ==== Sys2Proof/Laws/KeepVatHarBase.lean ====
section
/-! SUPPORT. What the functions of Machine/HarBase do to the Vat: those that store nothing leave it, the others keep its form. -/

namespace Sys2Proof.Machine

@[simp] theorem State.harRecord_wf (s : State) (kind code old new instant image affected count first ns : Nat) (hw : Memory.wf s.mem = true) : Memory.wf (State.harRecord s kind code old new instant image affected count first ns).mem = true := by
  unfold State.harRecord
  repeat' first
    | with_reducible assumption
    | with_reducible refine State.partRec_wf _ _ _ _ _ _ ?_

@[simp] theorem State.lateUnit_wf (s : State) (u : Nat) (hw : Memory.wf s.mem = true) : Memory.wf (State.lateUnit s u).mem = true := by
  unfold State.lateUnit
  repeat' first
    | with_reducible assumption
    | with_reducible refine keep_wf (State.count_mem _ _ _ _) ?_
    | with_reducible refine State.fenceUnits_wf _ _ ?_
    | with_reducible refine keep_wf (State.putFlag_mem _ _ _ _) ?_
    | with_reducible refine ite_wf' _ _ ?_ ?_

@[simp] theorem State.switchingEnd_wf (s : State) (hw : Memory.wf s.mem = true) : Memory.wf (State.switchingEnd s).mem = true := by
  unfold State.switchingEnd
  repeat' first
    | with_reducible assumption
    | with_reducible refine State.harRecord_wf _ _ _ _ _ _ _ _ _ _ _ ?_
    | with_reducible refine keep_wf (State.put_mem _ _ _ _) ?_
    | with_reducible refine keep_wf (State.putFlag_mem _ _ _ _) ?_

@[simp] theorem State.unitDone_wf (s : State) (u : Nat) (hw : Memory.wf s.mem = true) : Memory.wf (State.unitDone s u).mem = true := by
  unfold State.unitDone
  repeat' first
    | with_reducible assumption
    | with_reducible refine State.switchingEnd_wf _ ?_
    | with_reducible refine keep_wf (State.unfenceUnits_mem _ _) ?_
    | with_reducible refine ite_wf' _ _ ?_ ?_

end Sys2Proof.Machine
end

