-- ==== Sys2Proof/Laws/KeepVatAwlRun.lean ====
section
/-! SUPPORT. What the functions of Machine/AwlRun do to the Vat: those that store nothing leave it, the others keep its form. -/

namespace Sys2Proof.Machine

@[simp] theorem State.engRefused_mem (s : State) (d e reason : Nat) : (State.engRefused s d e reason).mem = s.mem := by rfl

@[simp] theorem commitBody_mem (d e n : Nat) (s : State) : (commitBody d e n s).state.mem = s.mem := by
  unfold commitBody
  repeat' first
    | split
    | exact Loaded.ok_mem (by assumption) (by simp)
    | exact Loaded.ue_mem (by assumption) (by simp)
    | (intro _)
    | simp

@[simp] theorem State.bindFrame_wf (s : State) (d e q : Nat) (hw : Memory.wf s.mem = true) : Memory.wf (State.bindFrame s d e q).mem = true := by
  unfold State.bindFrame
  repeat' first
    | with_reducible assumption
    | with_reducible refine keep_wf (State.count_mem _ _ _ _) ?_
    | with_reducible refine keep_wf (State.leaveOutput_mem _ _ _ _) ?_
    | with_reducible refine keep_wf (State.modEng_mem _ _ _ _) ?_
    | with_reducible refine keep_wf (State.ownFrame_mem _ _ _) ?_
    | with_reducible refine State.setCl_wf _ _ _ _ ?_
    | with_reducible refine keep_wf (State.setQueued_mem _ _ _ _ _) ?_
    | with_reducible refine keep_wf (State.setSlot_mem _ _ _ _ _) ?_
    | dsimp only
    | split

@[simp] theorem State.resumeOrSleep_wf (s : State) (d e : Nat) (hw : Memory.wf s.mem = true) : Memory.wf (State.resumeOrSleep s d e).mem = true := by
  unfold State.resumeOrSleep
  repeat' first
    | with_reducible assumption
    | with_reducible refine State.bindFrame_wf _ _ _ _ ?_
    | with_reducible refine keep_wf (State.modEng_mem _ _ _ _) ?_
    | with_reducible refine ite_wf' _ _ ?_ ?_
    | dsimp only
    | split

@[simp] theorem State.copyBlock_wf (s : State) (c : HarnessCfg) (p : PlaceEntry) (hw : Memory.wf s.mem = true) : Memory.wf (State.copyBlock s c p).mem = true := by
  unfold State.copyBlock
  repeat' first
    | with_reducible assumption
    | with_reducible refine State.writeBytes_wf _ _ _ _ ?_

@[simp] theorem State.applyPlace_mem (s : State) (c : HarnessCfg) (d k : Nat) : (State.applyPlace s c d k).mem = s.mem := by
  unfold State.applyPlace
  repeat' first
    | with_reducible rfl
    | with_reducible refine Eq.trans (State.clrBit_mem _ _ _ _) ?_
    | with_reducible refine Eq.trans (State.puts_mem _ _ _) ?_
    | with_reducible refine Eq.trans (State.setBit_mem _ _ _ _) ?_
    | with_reducible refine ite_mem' _ _ ?_ ?_

@[simp] theorem State.clusterSwitched_wf (s : State) (d c : Nat) (hw : Memory.wf s.mem = true) : Memory.wf (State.clusterSwitched s d c).mem = true := by
  unfold State.clusterSwitched
  repeat' first
    | with_reducible assumption
    | with_reducible refine keep_wf (State.applyPlace_mem _ _ _ _) ?_
    | with_reducible refine keep_wf (State.clrBit_mem _ _ _ _) ?_
    | with_reducible refine State.copyBlock_wf _ _ _ ?_
    | with_reducible refine keep_wf (State.put_mem _ _ _ _) ?_
    | with_reducible refine keep_wf (State.putFlag_mem _ _ _ _) ?_
    | with_reducible refine keep_wf (State.setBit_mem _ _ _ _) ?_
    | with_reducible refine State.unitDone_wf _ _ ?_
    | with_reducible refine ite_wf' _ _ ?_ ?_
    | split

@[simp] theorem State.engineSwitch_wf (s : State) (d e : Nat) (hw : Memory.wf s.mem = true) : Memory.wf (State.engineSwitch s d e).mem = true := by
  unfold State.engineSwitch
  repeat' first
    | with_reducible assumption
    | with_reducible refine State.clusterSwitched_wf _ _ _ ?_
    | with_reducible refine State.discardTx_wf _ _ _ ?_
    | with_reducible refine keep_wf (State.modEng_mem _ _ _ _) ?_
    | with_reducible refine State.unitDone_wf _ _ ?_

@[simp] theorem State.waitRest_wf (s : State) (d e : Nat) (hw : Memory.wf s.mem = true) : Memory.wf (State.waitRest s d e).mem = true := by
  unfold State.waitRest
  repeat' first
    | with_reducible assumption
    | with_reducible refine State.engineSwitch_wf _ _ _ ?_
    | with_reducible refine keep_wf (State.modEng_mem _ _ _ _) ?_
    | with_reducible refine State.releaseRx_wf _ _ _ ?_
    | with_reducible refine State.resumeOrSleep_wf _ _ _ ?_
    | with_reducible refine ite_wf' _ _ ?_ ?_

@[simp] theorem State.waitOp_wf (s : State) (d e : Nat) (hw : Memory.wf s.mem = true) : Memory.wf (State.waitOp s d e).mem = true := by
  unfold State.waitOp
  repeat' first
    | with_reducible assumption
    | with_reducible refine keep_wf (State.count_mem _ _ _ _) ?_
    | with_reducible refine State.drainTo_wf _ _ _ _ _ ?_
    | with_reducible refine keep_wf (State.modEng_mem _ _ _ _) ?_
    | with_reducible refine keep_wf (State.pushGroup_mem _ _ _) ?_
    | with_reducible refine keep_wf (State.putFlag_mem _ _ _ _) ?_
    | with_reducible refine State.takePend_wf _ _ _ _ ?_
    | with_reducible refine State.waitRest_wf _ _ _ ?_
    | with_reducible refine ite_wf' _ _ ?_ ?_
    | dsimp only
    | split

@[simp] theorem State.wake_wf (s : State) (d e : Nat) (hw : Memory.wf s.mem = true) : Memory.wf (State.wake s d e).mem = true := by
  unfold State.wake
  repeat' first
    | with_reducible assumption
    | with_reducible refine State.engineSwitch_wf _ _ _ ?_
    | with_reducible refine State.resumeOrSleep_wf _ _ _ ?_
    | with_reducible refine ite_wf' _ _ ?_ ?_

end Sys2Proof.Machine
end

