-- ==== Sys2Proof/Laws/ExecVat.lean ====
section
/-! SUPPORT. The shapes of a command's meaning: what each keeps of the Vat's form. -/

namespace Sys2Proof.Machine

theorem engAccess_wf {d : Die} {e : Engine} {k : State → State} {s t : State} (h : engAccess d e k s = .next t)
    (hw : Memory.wf s.mem = true) (hk : ∀ u, Memory.wf u.mem = true → Memory.wf (k u).mem = true) : Memory.wf t.mem = true := by
  unfold engAccess at h
  exact onDie_wf h hw (ite_wf' _ _ (hk _ hw) hw)

theorem awlGuard_wf {d : Die} {e : Engine} {c : Fin 8} {k : State → State} {s t : State} (h : awlGuard d e c k s = .next t)
    (hw : Memory.wf s.mem = true) (hk : ∀ u, Memory.wf u.mem = true → Memory.wf (k u).mem = true) : Memory.wf t.mem = true := by
  unfold awlGuard at h
  refine onDie_wf h hw (ite_wf' _ _ ?_ hw)
  have hs : Memory.wf (if s.fetchErr d e = 1 then s.fetchCe d e else s).mem = true :=
    ite_wf' _ _ (by simp [hw]) hw
  split
  · simp [hw]
  · refine ite_wf' _ _ (by simp [hw]) (ite_wf' _ _ (hk _ hs) (keep_wf (State.endInstr_mem _ _ _ _) hs))

theorem awlInstr_wf {d : Die} {e : Engine} {c : Fin 8} {body : State → AwlOut} {s t : State} (h : awlInstr d e c body s = .next t)
    (hw : Memory.wf s.mem = true) (hk : ∀ u, Memory.wf u.mem = true → Memory.wf (body u).state.mem = true) : Memory.wf t.mem = true :=
  awlGuard_wf h hw (fun u hu => State.runBody_wf u d e body (hk u hu))

end Sys2Proof.Machine
end

