-- ==== Sys2Proof/Laws/KeepVatDpSkv.lean ====
section
/-! SUPPORT. What the functions of Machine/DpSkv do to the Vat: those that store nothing leave it, the others keep its form. -/

namespace Sys2Proof.Machine

@[simp] theorem State.writeNotice_wf (s : State) (d n base kind mask time : Nat) (hw : Memory.wf s.mem = true) : Memory.wf (State.writeNotice s d n base kind mask time).mem = true := by
  unfold State.writeNotice
  repeat' first
    | with_reducible assumption
    | with_reducible refine keep_wf (State.pageEvent_mem _ _ _) ?_
    | with_reducible refine keep_wf (State.put_mem _ _ _ _) ?_
    | with_reducible refine State.vatStore_wf _ _ _ _ ?_
    | with_reducible refine ite_wf' _ _ ?_ ?_

@[simp] theorem State.skvLate_mem (s : State) (d : Nat) : (State.skvLate s d).mem = s.mem := by rfl

@[simp] theorem State.ringFull_mem (s : State) (d n : Nat) : (State.ringFull s d n).mem = s.mem := by rfl

@[simp] theorem State.rearmSlot_wf (s : State) (d slot : Nat) (hw : Memory.wf s.mem = true) : Memory.wf (State.rearmSlot s d slot).mem = true := by
  unfold State.rearmSlot
  repeat' first
    | with_reducible assumption
    | with_reducible refine State.readDesc_wf _ _ _ _ ?_
    | with_reducible refine State.readRec_wf _ _ _ _ ?_
    | with_reducible refine State.setSkv_wf _ _ _ _ ?_
    | with_reducible refine ite_wf' _ _ ?_ ?_

@[simp] theorem State.rearmDie_wf (s : State) (d : Nat) (hw : Memory.wf s.mem = true) : Memory.wf (State.rearmDie s d).mem = true := by
  unfold State.rearmDie
  repeat' first
    | with_reducible assumption
    | (intro a x hx)
    | with_reducible refine keep_wf (State.putFlag_mem _ _ _ _) ?_
    | with_reducible refine State.rearmSlot_wf _ _ _ ?_
    | with_reducible refine ite_wf' _ _ ?_ ?_
    | with_reducible refine foldl_wf _ _ _ ?_ ?_

@[simp] theorem State.writeResync_wf (s : State) (d n time : Nat) (hw : Memory.wf s.mem = true) : Memory.wf (State.writeResync s d n time).mem = true := by
  unfold State.writeResync
  repeat' first
    | with_reducible assumption
    | with_reducible refine keep_wf (State.ringFull_mem _ _ _) ?_
    | with_reducible refine State.writeNotice_wf _ _ _ _ _ _ _ ?_
    | with_reducible refine ite_wf' _ _ ?_ ?_

@[simp] theorem State.resyncs_wf (s : State) (d time : Nat) (hw : Memory.wf s.mem = true) : Memory.wf (State.resyncs s d time).mem = true := by
  unfold State.resyncs
  repeat' first
    | with_reducible assumption
    | (intro a x hx)
    | with_reducible refine keep_wf (State.putFlag_mem _ _ _ _) ?_
    | with_reducible refine State.writeResync_wf _ _ _ _ ?_
    | with_reducible refine ite_wf' _ _ ?_ ?_
    | with_reducible refine foldl_wf _ _ _ ?_ ?_

@[simp] theorem State.groupNotice_wf (s : State) (d p : Nat) (due : List (Nat × Nat)) (written : Nat) (key : Nat × Nat) (hw : Memory.wf s.mem = true) : Memory.wf (State.groupNotice s d p due written key).2.mem = true := by
  unfold State.groupNotice
  repeat' first
    | with_reducible assumption
    | (intro a x hx)
    | with_reducible refine keep_wf (State.ringFull_mem _ _ _) ?_
    | with_reducible refine State.setSkv_wf _ _ _ _ ?_
    | with_reducible refine keep_wf (State.skvLate_mem _ _) ?_
    | with_reducible refine State.writeNotice_wf _ _ _ _ _ _ _ ?_
    | with_reducible refine foldl_wf _ _ _ ?_ ?_
    | with_reducible refine ite_snd_wf _ _ ?_ ?_

@[simp] theorem State.notices_wf (s : State) (d p : Nat) (due : List (Nat × Nat)) (hw : Memory.wf s.mem = true) : Memory.wf (State.notices s d p due).mem = true := by
  unfold State.notices
  repeat' first
    | with_reducible assumption
    | (intro a x hx)
    | with_reducible refine State.groupNotice_wf _ _ _ _ _ _ ?_
    | with_reducible refine foldl_snd_wf _ _ _ ?_ ?_

@[simp] theorem State.backFromRetain_wf (s : State) (d : Nat) (due : List (Nat × Nat)) (hw : Memory.wf s.mem = true) : Memory.wf (State.backFromRetain s d due).mem = true := by
  unfold State.backFromRetain
  repeat' first
    | with_reducible assumption
    | with_reducible refine keep_wf (State.skvLate_mem _ _) ?_
    | with_reducible refine ite_wf' _ _ ?_ ?_
    | dsimp only
    | split

@[simp] theorem State.skiverPass_wf (s : State) (d : Nat) (hw : Memory.wf s.mem = true) : Memory.wf (State.skiverPass s d).mem = true := by
  unfold State.skiverPass
  repeat' first
    | with_reducible assumption
    | with_reducible refine State.backFromRetain_wf _ _ _ ?_
    | with_reducible refine keep_wf (State.count_mem _ _ _ _) ?_
    | with_reducible refine State.notices_wf _ _ _ _ ?_
    | with_reducible refine keep_wf (State.putFlag_mem _ _ _ _) ?_
    | with_reducible refine State.rearmDie_wf _ _ ?_
    | with_reducible refine State.resyncs_wf _ _ _ ?_
    | with_reducible refine ite_wf' _ _ ?_ ?_

@[simp] theorem State.noticeAdvance_mem (s : State) (d n rd : Nat) : (State.noticeAdvance s d n rd).mem = s.mem := by
  unfold State.noticeAdvance
  repeat' first
    | with_reducible rfl
    | with_reducible refine Eq.trans (State.put_mem _ _ _ _) ?_
    | with_reducible refine ite_mem' _ _ ?_ ?_

end Sys2Proof.Machine
end

