-- ==== Sys2Proof/Laws/KeepVatDatapoints.lean ====
section
/-! SUPPORT. What the functions of Machine/Datapoints do to the Vat: those that store nothing leave it, the others keep its form. -/

namespace Sys2Proof.Machine

@[simp] theorem State.commitStatus_mem (s : State) (issuer reason : Nat) : (State.commitStatus s issuer reason).mem = s.mem := by
  unfold State.commitStatus
  repeat' first
    | with_reducible rfl
    | with_reducible refine Eq.trans (State.engRefused_mem _ _ _ _) ?_
    | with_reducible refine Eq.trans (State.raise_mem _ _ _ _) ?_
    | with_reducible refine Eq.trans (State.setEng_mem _ _ _ _) ?_
    | with_reducible refine ite_mem' _ _ ?_ ?_

end Sys2Proof.Machine
end

