-- ==== Sys2Proof/Laws/KeepVatAwlCluster.lean ====
section
/-! SUPPORT. What the functions of Machine/AwlCluster do to the Vat: those that store nothing leave it, the others keep its form. -/

namespace Sys2Proof.Machine

@[simp] theorem answer_mem (r : Nat × State) : (answer r).mem = r.2.mem := by rfl

@[simp] theorem State.takeWaiting_wf (s : State) (d e : Nat) (inTrap : Bool) (hw : Memory.wf s.mem = true) : Memory.wf (State.takeWaiting s d e inTrap).mem = true := by
  unfold State.takeWaiting
  repeat' first
    | with_reducible assumption
    | with_reducible refine State.takePend_wf _ _ _ _ ?_
    | with_reducible refine ite_wf' _ _ ?_ ?_
    | split

@[simp] theorem State.clusterUp_mem (s : State) (d c : Nat) : (State.clusterUp s d c).mem = s.mem := by
  unfold State.clusterUp
  repeat' first
    | with_reducible rfl
    | intro _
    | with_reducible refine Eq.trans (State.putFlag_mem _ _ _ _) ?_
    | with_reducible refine Eq.trans (State.setDom_mem _ _ _ _) ?_
    | with_reducible refine Eq.trans (foldl_mem _ _ _ ?_) ?_

@[simp] theorem State.engineResetDone_wf (s : State) (d e : Nat) (hw : Memory.wf s.mem = true) : Memory.wf (State.engineResetDone s d e).mem = true := by
  unfold State.engineResetDone
  repeat' first
    | with_reducible assumption
    | with_reducible refine keep_wf (State.clrBit_mem _ _ _ _) ?_
    | with_reducible refine keep_wf (State.clusterUp_mem _ _ _) ?_
    | with_reducible refine State.engineSwitch_wf _ _ _ ?_
    | with_reducible refine keep_wf (State.initPriv_mem _ _ _ _) ?_
    | with_reducible refine State.lateUnit_wf _ _ ?_
    | with_reducible refine keep_wf (State.modEng_mem _ _ _ _) ?_
    | with_reducible refine keep_wf (State.putFlag_mem _ _ _ _) ?_
    | with_reducible refine keep_wf (State.raise_mem _ _ _ _) ?_
    | with_reducible refine keep_wf (State.setBit_mem _ _ _ _) ?_
    | with_reducible refine State.setCl_wf _ _ _ _ ?_
    | with_reducible refine keep_wf (State.unfenceUnits_mem _ _) ?_
    | with_reducible refine keep_wf (State.unitResetDone_mem _ _ _) ?_
    | with_reducible refine ite_wf' _ _ ?_ ?_

@[simp] theorem State.ibankDone_wf (s : State) (d c : Nat) (fault : Bool) (hw : Memory.wf s.mem = true) : Memory.wf (State.ibankDone s d c fault).mem = true := by
  unfold State.ibankDone
  repeat' first
    | with_reducible assumption
    | with_reducible refine State.loadBank_wf _ _ _ _ _ ?_
    | with_reducible refine keep_wf (State.put_mem _ _ _ _) ?_
    | with_reducible refine keep_wf (State.putFlag_mem _ _ _ _) ?_
    | with_reducible refine State.setCl_wf _ _ _ _ ?_
    | with_reducible refine State.writePack_wf _ _ _ _ _ ?_
    | with_reducible refine ite_wf' _ _ ?_ ?_
    | dsimp only
    | split

end Sys2Proof.Machine
end

