-- ==== Sys2Proof/Laws/KeepVatTimeOps.lean ====
section
/-! SUPPORT. What the functions of Machine/TimeOps do to the Vat: those that store nothing leave it, the others keep its form. -/

namespace Sys2Proof.Machine

@[simp] theorem State.syncTime_mem (s : State) : (State.syncTime s).mem = s.mem := by rfl

@[simp] theorem State.logRate_mem (s : State) : (State.logRate s).mem = s.mem := by
  unfold State.logRate
  repeat' first
    | with_reducible rfl
    | with_reducible refine ite_mem' _ _ ?_ ?_

@[simp] theorem State.setRate_mem (s : State) (r : Int) : (State.setRate s r).mem = s.mem := by
  unfold State.setRate
  repeat' first
    | with_reducible rfl
    | with_reducible refine Eq.trans (State.logRate_mem _) ?_
    | with_reducible refine Eq.trans (State.put_mem _ _ _ _) ?_
    | with_reducible refine Eq.trans (State.putFlag_mem _ _ _ _) ?_
    | with_reducible refine ite_mem' _ _ ?_ ?_

@[simp] theorem State.servoTo_mem (s : State) (st : Nat) : (State.servoTo s st).mem = s.mem := by
  unfold State.servoTo
  repeat' first
    | with_reducible rfl
    | with_reducible refine Eq.trans (State.logRate_mem _) ?_
    | with_reducible refine Eq.trans (State.put_mem _ _ _ _) ?_
    | with_reducible refine Eq.trans (State.putFlag_mem _ _ _ _) ?_
    | with_reducible refine Eq.trans (State.syncTime_mem _) ?_
    | with_reducible refine ite_mem' _ _ ?_ ?_

@[simp] theorem State.servoLoop_wf (s : State) (i : Nat) (ofs : Int) (hw : Memory.wf s.mem = true) : Memory.wf (State.servoLoop s i ofs).mem = true := by
  unfold State.servoLoop
  repeat' first
    | with_reducible assumption
    | with_reducible refine keep_wf (State.setRate_mem _ _) ?_

@[simp] theorem State.servoRuns_mem (s : State) (ofs : Int) : (State.servoRuns s ofs).mem = s.mem := by
  unfold State.servoRuns
  repeat' first
    | with_reducible rfl
    | with_reducible refine Eq.trans (State.servoTo_mem _ _) ?_
    | with_reducible refine ite_mem' _ _ ?_ ?_

@[simp] theorem State.schedStep_mem (s : State) (delta : Int) (auto : Bool) : (State.schedStep s delta auto).mem = s.mem := by rfl

@[simp] theorem State.servoJump_mem (s : State) (ofs : Int) : (State.servoJump s ofs).mem = s.mem := by
  unfold State.servoJump
  repeat' first
    | with_reducible rfl
    | with_reducible refine Eq.trans (State.count_mem _ _ _ _) ?_
    | with_reducible refine Eq.trans (State.putFlag_mem _ _ _ _) ?_
    | with_reducible refine Eq.trans (State.schedStep_mem _ _ _) ?_
    | with_reducible refine Eq.trans (State.servoTo_mem _ _) ?_
    | with_reducible refine ite_mem' _ _ ?_ ?_

@[simp] theorem State.measure_wf (s : State) (i : Nat) (ofs : Int) (hw : Memory.wf s.mem = true) : Memory.wf (State.measure s i ofs).mem = true := by
  unfold State.measure
  repeat' first
    | with_reducible assumption
    | with_reducible refine keep_wf (State.put_mem _ _ _ _) ?_
    | with_reducible refine keep_wf (State.servoJump_mem _ _) ?_
    | with_reducible refine State.servoLoop_wf _ _ _ ?_
    | with_reducible refine keep_wf (State.servoRuns_mem _ _) ?_
    | with_reducible refine keep_wf (State.servoTo_mem _ _) ?_
    | with_reducible refine keep_wf (State.syncTime_mem _) ?_
    | with_reducible refine ite_wf' _ _ ?_ ?_

@[simp] theorem State.reselect_mem (s : State) : (State.reselect s).mem = s.mem := by
  unfold State.reselect
  repeat' first
    | with_reducible rfl
    | with_reducible refine Eq.trans (State.put_mem _ _ _ _) ?_
    | with_reducible refine Eq.trans (State.putFlag_mem _ _ _ _) ?_
    | with_reducible refine Eq.trans (State.servoTo_mem _ _) ?_
    | with_reducible refine Eq.trans (State.syncTime_mem _) ?_
    | with_reducible refine ite_mem' _ _ ?_ ?_

@[simp] theorem State.setSource_mem (s : State) (i : Nat) (ok : Bool) : (State.setSource s i ok).mem = s.mem := by
  unfold State.setSource
  repeat' first
    | with_reducible rfl
    | with_reducible refine Eq.trans (State.reselect_mem _) ?_

@[simp] theorem State.setPulse_wf (s : State) (d n : Nat) (p : Pulse) (hw : Memory.wf s.mem = true) : Memory.wf (State.setPulse s d n p).mem = true := by
  unfold State.setPulse
  repeat' first
    | with_reducible assumption

@[simp] theorem State.applyPulse_wf (s : State) (d n : Nat) (hw : Memory.wf s.mem = true) : Memory.wf (State.applyPulse s d n).mem = true := by
  unfold State.applyPulse
  repeat' first
    | with_reducible assumption
    | with_reducible refine keep_wf (State.putFlag_mem _ _ _ _) ?_
    | with_reducible refine State.setPulse_wf _ _ _ _ ?_

@[simp] theorem State.startPulse_wf (s : State) (d n : Nat) (hw : Memory.wf s.mem = true) : Memory.wf (State.startPulse s d n).mem = true := by
  unfold State.startPulse
  repeat' first
    | with_reducible assumption
    | with_reducible refine keep_wf (State.put_mem _ _ _ _) ?_
    | with_reducible refine keep_wf (State.putFlag_mem _ _ _ _) ?_
    | with_reducible refine State.setPulse_wf _ _ _ _ ?_

@[simp] theorem State.quietPulses_wf (s : State) (hw : Memory.wf s.mem = true) : Memory.wf (State.quietPulses s).mem = true := by
  unfold State.quietPulses
  repeat' first
    | with_reducible assumption
    | (intro a x hx)
    | with_reducible refine State.eachDie_wf _ _ ?_ ?_
    | with_reducible refine State.setPulse_wf _ _ _ _ ?_
    | with_reducible refine foldl_wf _ _ _ ?_ ?_

@[simp] theorem State.gateClk_wf (s : State) (new : Nat) (hw : Memory.wf s.mem = true) : Memory.wf (State.gateClk s new).mem = true := by
  unfold State.gateClk
  repeat' first
    | with_reducible assumption
    | with_reducible refine keep_wf (State.putFlag_mem _ _ _ _) ?_

@[simp] theorem State.clockTick_mem (s : State) : (State.clockTick s).mem = s.mem := by
  unfold State.clockTick
  repeat' first
    | with_reducible rfl
    | intro _
    | with_reducible refine Eq.trans (State.eachDie_mem _ _ ?_) ?_
    | with_reducible refine Eq.trans (State.put_mem _ _ _ _) ?_
    | with_reducible refine Eq.trans (State.putFlag_mem _ _ _ _) ?_
    | with_reducible refine ite_mem' _ _ ?_ ?_

@[simp] theorem State.tick_mem (s : State) : (State.tick s).mem = s.mem := by
  unfold State.tick
  repeat' first
    | with_reducible rfl
    | with_reducible refine Eq.trans (State.clockTick_mem _) ?_
    | with_reducible refine ite_mem' _ _ ?_ ?_

end Sys2Proof.Machine
end

