-- ==== Sys2Proof/Laws/KeepVatTime.lean ====
section
/-! SUPPORT. What the functions of Machine/Time do to the Vat: those that store nothing leave it, the others keep its form. -/

namespace Sys2Proof.Machine

@[simp] theorem State.timIgnore_mem (s : State) : (State.timIgnore s).mem = s.mem := by rfl

@[simp] theorem State.capture_mem (s : State) (d n : Nat) (rising : Bool) : (State.capture s d n rising).mem = s.mem := by
  unfold State.capture
  repeat' first
    | with_reducible rfl
    | with_reducible refine Eq.trans (State.count_mem _ _ _ _) ?_
    | with_reducible refine Eq.trans (State.put_mem _ _ _ _) ?_
    | with_reducible refine Eq.trans (State.putFlag_mem _ _ _ _) ?_
    | with_reducible refine Eq.trans (State.setBit_mem _ _ _ _) ?_
    | with_reducible refine ite_mem' _ _ ?_ ?_

@[simp] theorem State.measureFrom_wf (s : State) (kind d n : Nat) (ofs : Int) (hw : Memory.wf s.mem = true) : Memory.wf (State.measureFrom s kind d n ofs).mem = true := by
  unfold State.measureFrom
  repeat' first
    | with_reducible assumption
    | with_reducible refine State.measure_wf _ _ _ ?_
    | split

@[simp] theorem State.nearestSecond_mem (s : State) (ns : Nat) : (State.nearestSecond s ns).2.mem = s.mem := by
  unfold State.nearestSecond
  repeat' first
    | with_reducible rfl
    | with_reducible refine Eq.trans (State.freeVal_mem _ _) ?_
    | dsimp only
    | split

@[simp] theorem State.leap_mem (s : State) (n : Int) : (State.leap s n).mem = s.mem := by
  unfold State.leap
  repeat' first
    | with_reducible rfl
    | with_reducible refine Eq.trans (State.put_mem _ _ _ _) ?_
    | with_reducible refine Eq.trans (State.putFlag_mem _ _ _ _) ?_
    | with_reducible refine ite_mem' _ _ ?_ ?_

@[simp] theorem State.endPulse_wf (s : State) (d n : Nat) (hw : Memory.wf s.mem = true) : Memory.wf (State.endPulse s d n).mem = true := by
  unfold State.endPulse
  repeat' first
    | with_reducible assumption
    | with_reducible refine State.applyPulse_wf _ _ _ ?_
    | with_reducible refine keep_wf (State.put_mem _ _ _ _) ?_
    | with_reducible refine keep_wf (State.setBit_mem _ _ _ _) ?_
    | with_reducible refine State.setPulse_wf _ _ _ _ ?_
    | with_reducible refine ite_wf' _ _ ?_ ?_

@[simp] theorem State.clkoutFreq_wf (s : State) (freq : Nat) (hw : Memory.wf s.mem = true) : Memory.wf (State.clkoutFreq s freq).mem = true := by
  unfold State.clkoutFreq
  repeat' first
    | with_reducible assumption
    | with_reducible refine State.gateClk_wf _ _ ?_
    | with_reducible refine keep_wf (State.put_mem _ _ _ _) ?_
    | with_reducible refine ite_wf' _ _ ?_ ?_

@[simp] theorem State.runBmca_mem (s : State) : (State.runBmca s).mem = s.mem := by
  unfold State.runBmca
  repeat' first
    | with_reducible rfl
    | intro _
    | with_reducible refine Eq.trans (State.put_mem _ _ _ _) ?_
    | with_reducible refine Eq.trans (foldl_mem _ _ _ ?_) ?_

end Sys2Proof.Machine
end

