-- ==== Sys2Proof/Laws/KeepVatEthRx.lean ====
section
/-! SUPPORT. What the functions of Machine/EthRx do to the Vat: those that store nothing leave it, the others keep its form. -/

namespace Sys2Proof.Machine

@[simp] theorem State.setPause_wf (s : State) (d p i quanta : Nat) (hw : Memory.wf s.mem = true) : Memory.wf (State.setPause s d p i quanta).mem = true := by
  unfold State.setPause
  repeat' first
    | with_reducible assumption
    | with_reducible refine keep_wf (State.clrBit_mem _ _ _ _) ?_
    | with_reducible refine State.modPort_wf _ _ _ _ ?_
    | with_reducible refine keep_wf (State.putFlag_mem _ _ _ _) ?_
    | with_reducible refine keep_wf (State.setBit_mem _ _ _ _) ?_
    | with_reducible refine State.syncCredits_wf _ _ _ ?_
    | with_reducible refine ite_wf' _ _ ?_ ?_

@[simp] theorem State.macControl_wf (s : State) (d p : Nat) (bs : List Byte) (hw : Memory.wf s.mem = true) : Memory.wf (State.macControl s d p bs).mem = true := by
  unfold State.macControl
  repeat' first
    | with_reducible assumption
    | (intro a x hx)
    | with_reducible refine keep_wf (State.count_mem _ _ _ _) ?_
    | with_reducible refine State.setPause_wf _ _ _ _ _ ?_
    | with_reducible refine ite_wf' _ _ ?_ ?_
    | with_reducible refine foldl_wf _ _ _ ?_ ?_

@[simp] theorem State.syncKeys_wf (s : State) (d k : Nat) (hw : Memory.wf s.mem = true) : Memory.wf (State.syncKeys s d k).mem = true := by
  unfold State.syncKeys
  repeat' first
    | with_reducible assumption
    | with_reducible refine keep_wf (State.put_mem _ _ _ _) ?_

@[simp] theorem State.insertKey_wf (s : State) (d k : Nat) (key : Nat × Nat) (hw : Memory.wf s.mem = true) : Memory.wf (State.insertKey s d k key).mem = true := by
  unfold State.insertKey
  repeat' first
    | with_reducible assumption
    | with_reducible refine keep_wf (State.count_mem _ _ _ _) ?_
    | with_reducible refine State.modPair_wf _ _ _ _ ?_
    | with_reducible refine keep_wf (State.putFlag_mem _ _ _ _) ?_
    | with_reducible refine State.syncKeys_wf _ _ _ ?_
    | with_reducible refine ite_wf' _ _ ?_ ?_

@[simp] theorem State.dupDiscard_wf (s : State) (d p sa : Nat) (r : RedTag) (hw : Memory.wf s.mem = true) : Memory.wf (State.dupDiscard s d p sa r).2.mem = true := by
  unfold State.dupDiscard
  repeat' first
    | with_reducible assumption
    | with_reducible refine keep_wf (State.count_mem _ _ _ _) ?_
    | with_reducible refine State.insertKey_wf _ _ _ _ ?_
    | with_reducible refine ite_wf' _ _ ?_ ?_
    | with_reducible refine ite_snd_wf _ _ ?_ ?_

@[simp] theorem State.hsrForward_wf (s : State) (d p : Nat) (x : Frame) (bs : List Byte) (prio : Nat) (r : RedTag) (hw : Memory.wf s.mem = true) : Memory.wf (State.hsrForward s d p x bs prio r).mem = true := by
  unfold State.hsrForward
  repeat' first
    | with_reducible assumption
    | with_reducible refine keep_wf (State.countDrop_mem _ _ _ _) ?_
    | with_reducible refine State.dropFrame_wf _ _ _ _ ?_
    | with_reducible refine State.rxStore_wf _ _ _ _ _ _ _ _ _ (by with_reducible assumption) ?_
    | with_reducible refine State.takeIn_wf _ _ _ _ _ _ _ _ ?_
    | with_reducible refine ite_wf' _ _ ?_ ?_
    | dsimp only
    | split

@[simp] theorem State.ptpUtc_mem (s : State) (offset flags : Nat) : (State.ptpUtc s offset flags).mem = s.mem := by
  unfold State.ptpUtc
  repeat' first
    | with_reducible rfl
    | with_reducible refine Eq.trans (State.put_mem _ _ _ _) ?_
    | with_reducible refine Eq.trans (State.putFlag_mem _ _ _ _) ?_
    | with_reducible refine ite_mem' _ _ ?_ ?_

@[simp] theorem State.ptpRx_mem (s : State) (b : PtpBlk) (bs : List Byte) (off : Nat) : (State.ptpRx s b bs off).mem = s.mem := by
  unfold State.ptpRx
  repeat' first
    | with_reducible rfl
    | with_reducible refine Eq.trans (State.count_mem _ _ _ _) ?_
    | with_reducible refine Eq.trans (State.ptpUtc_mem _ _ _) ?_
    | with_reducible refine Eq.trans (State.runBmca_mem _) ?_
    | with_reducible refine ite_mem' _ _ ?_ ?_

@[simp] theorem State.dropLen_wf (s : State) (d p : Nat) (e : LenFail) (stamp sa : Nat) (hw : Memory.wf s.mem = true) : Memory.wf (State.dropLen s d p e stamp sa).mem = true := by
  unfold State.dropLen
  repeat' first
    | with_reducible assumption
    | with_reducible refine keep_wf (State.count_mem _ _ _ _) ?_
    | with_reducible refine State.portRec_wf _ _ _ _ _ _ _ _ _ _ ?_
    | with_reducible refine keep_wf (State.put_mem _ _ _ _) ?_
    | with_reducible refine keep_wf (State.putFlag_mem _ _ _ _) ?_
    | with_reducible refine ite_wf' _ _ ?_ ?_

@[simp] theorem State.rxDeliver_wf (s : State) (d p : Nat) (bs : List Byte) (ps : Parsed) (x : Frame) (red : Option RedTag) (hw : Memory.wf s.mem = true) : Memory.wf (State.rxDeliver s d p bs ps x red).mem = true := by
  unfold State.rxDeliver
  repeat' first
    | with_reducible assumption
    | with_reducible refine State.bindRx_wf _ _ _ _ _ _ _ _ _ _ ?_
    | with_reducible refine State.dupDiscard_wf _ _ _ _ _ ?_
    | with_reducible refine State.hsrForward_wf _ _ _ _ _ _ _ ?_
    | with_reducible refine keep_wf (State.ptpRx_mem _ _ _ _) ?_
    | with_reducible refine ite_wf' _ _ ?_ ?_
    | split

@[simp] theorem State.cutDone_wf (s : State) (d p f : Nat) (bs : List Byte) (x : Frame) (hw : Memory.wf s.mem = true) : Memory.wf (State.cutDone s d p f bs x).mem = true := by
  unfold State.cutDone
  repeat' first
    | with_reducible assumption
    | (intro a x hx)
    | with_reducible refine State.frameWrite_wf _ _ _ _ _ _ _ ?_
    | with_reducible refine keep_wf (State.freeCell_mem _ _ _) ?_
    | with_reducible refine State.modPort_wf _ _ _ _ ?_
    | with_reducible refine keep_wf (State.padWords_mem _ _) ?_
    | with_reducible refine keep_wf (State.put_mem _ _ _ _) ?_
    | with_reducible refine keep_wf (State.setFrame_mem _ _ _) ?_
    | with_reducible refine keep_wf (State.tshDebit_mem _ _ _ _ _) ?_
    | with_reducible refine keep_wf (State.unchargeTenant_mem _ _ _ _) ?_
    | with_reducible refine foldl_wf _ _ _ ?_ ?_

@[simp] theorem State.receive_wf (s : State) (d p : Nat) (bs : List Byte) (symErr fcsOk : Bool) (red : Option RedTag) (hw : Memory.wf s.mem = true) :
    Memory.wf (State.receive s d p bs symErr fcsOk red).mem = true := by
  unfold State.receive
  repeat' first
    | with_reducible assumption
    | with_reducible refine keep_wf (State.count_mem _ _ _ _) ?_
    | with_reducible refine State.cutDone_wf _ _ _ _ _ _ ?_
    | with_reducible refine State.dropLen_wf _ _ _ _ _ _ ?_
    | with_reducible refine State.endReception_wf _ _ _ _ ?_
    | with_reducible refine State.macControl_wf _ _ _ _ ?_
    | with_reducible refine State.modPort_wf _ _ _ _ ?_
    | with_reducible refine keep_wf (State.putFlag_mem _ _ _ _) ?_
    | with_reducible refine State.rxDeliver_wf _ _ _ _ _ _ _ ?_
    | with_reducible refine ite_wf' _ _ ?_ ?_
    | dsimp only
    | split

@[simp] theorem State.cutStart_wf (s : State) (d p : Nat) (bs : List Byte) (hw : Memory.wf s.mem = true) : Memory.wf (State.cutStart s d p bs).mem = true := by
  unfold State.cutStart
  repeat' first
    | with_reducible assumption
    | with_reducible refine keep_wf (State.captureTo_mem _ _ _ _) ?_
    | with_reducible refine keep_wf (State.count_mem _ _ _ _) ?_
    | with_reducible refine keep_wf (State.countDrop_mem _ _ _ _) ?_
    | with_reducible refine State.dropFrame_wf _ _ _ _ ?_
    | with_reducible refine State.modPort_wf _ _ _ _ ?_
    | with_reducible refine State.rxStore_wf _ _ _ _ _ _ _ _ _ (by with_reducible assumption) ?_
    | with_reducible refine keep_wf (State.setVoq_mem _ _ _) ?_
    | with_reducible refine State.syncCredits_wf _ _ _ ?_
    | with_reducible refine State.takeIn_wf _ _ _ _ _ _ _ _ ?_
    | with_reducible refine ite_wf' _ _ ?_ ?_
    | dsimp only
    | split

end Sys2Proof.Machine
end

