-- ==== Sys2Proof/Laws/KeepVatEthernet.lean ====
section
/-! SUPPORT. What the functions of Machine/Ethernet do to the Vat: those that store nothing leave it, the others keep its form. -/

namespace Sys2Proof.Machine

@[simp] theorem State.putPartner_mem (s : State) (d p : Nat) (r : LinkResult) : (State.putPartner s d p r).mem = s.mem := by rfl

@[simp] theorem State.headCheck_wf (s : State) (d p f : Nat) (hw : Memory.wf s.mem = true) : Memory.wf (State.headCheck s d p f).mem = true := by
  unfold State.headCheck
  repeat' first
    | with_reducible assumption
    | with_reducible refine State.egressDrop_wf _ _ _ _ _ ?_
    | with_reducible refine State.modPort_wf _ _ _ _ ?_
    | with_reducible refine keep_wf (State.putFlag_mem _ _ _ _) ?_
    | with_reducible refine ite_wf' _ _ ?_ ?_

@[simp] theorem State.headArrive_wf (s : State) (d p q : Nat) (x0 : Nat) (hw : Memory.wf s.mem = true) : Memory.wf (State.headArrive s d p q x0).mem = true := by
  induction x0 generalizing s d p q with
  | zero =>
    unfold State.headArrive
    repeat' first
      | with_reducible assumption
  | succ _ ih =>
    unfold State.headArrive
    repeat' first
      | with_reducible assumption
      | with_reducible refine ih _ _ _ _ ?_
      | with_reducible refine State.headCheck_wf _ _ _ _ ?_
      | with_reducible refine ite_wf' _ _ ?_ ?_
      | dsimp only
      | split

@[simp] theorem State.heads_wf (s : State) (d p : Nat) (hw : Memory.wf s.mem = true) : Memory.wf (State.heads s d p).mem = true := by
  unfold State.heads
  repeat' first
    | with_reducible assumption
    | (intro a x hx)
    | with_reducible refine State.headArrive_wf _ _ _ _ _ ?_
    | with_reducible refine foldl_wf _ _ _ ?_ ?_

@[simp] theorem State.startFrame_wf (s : State) (d p f : Nat) (hw : Memory.wf s.mem = true) : Memory.wf (State.startFrame s d p f).mem = true := by
  unfold State.startFrame
  repeat' first
    | with_reducible assumption
    | with_reducible refine keep_wf (State.cellsAllowed_mem _ _ _ _) ?_
    | with_reducible refine State.copyGone_wf _ _ _ _ ?_
    | with_reducible refine keep_wf (State.count_mem _ _ _ _) ?_
    | with_reducible refine keep_wf (State.countDrop_mem _ _ _ _) ?_
    | with_reducible refine State.frameRead_wf _ _ _ _ _ _ _ ?_
    | with_reducible refine State.modPort_wf _ _ _ _ ?_
    | with_reducible refine keep_wf (State.setOutQueue_mem _ _ _ _) ?_
    | with_reducible refine keep_wf (State.stomp_mem _ _ _ _) ?_
    | with_reducible refine keep_wf (State.tshDebit_mem _ _ _ _ _) ?_
    | with_reducible refine ite_wf' _ _ ?_ ?_

@[simp] theorem State.select_wf (s : State) (d p : Nat) (x0 : Nat) (hw : Memory.wf s.mem = true) : Memory.wf (State.select s d p x0).mem = true := by
  induction x0 generalizing s d p with
  | zero =>
    unfold State.select
    repeat' first
      | with_reducible assumption
  | succ _ ih =>
    unfold State.select
    repeat' first
      | with_reducible assumption
      | with_reducible refine ih _ _ _ ?_
      | with_reducible refine State.egressDrop_wf _ _ _ _ _ ?_
      | with_reducible refine State.heads_wf _ _ _ ?_
      | with_reducible refine keep_wf (State.putFlag_mem _ _ _ _) ?_
      | with_reducible refine State.startFrame_wf _ _ _ _ ?_
      | dsimp only
      | split

@[simp] theorem State.txEnd_wf (s : State) (d p : Nat) (hw : Memory.wf s.mem = true) : Memory.wf (State.txEnd s d p).mem = true := by
  unfold State.txEnd
  repeat' first
    | with_reducible assumption
    | with_reducible refine State.copyGone_wf _ _ _ _ ?_
    | with_reducible refine keep_wf (State.count_mem _ _ _ _) ?_
    | with_reducible refine State.emptyCredit_wf _ _ _ _ ?_
    | with_reducible refine State.modPort_wf _ _ _ _ ?_
    | with_reducible refine State.syncCredits_wf _ _ _ ?_
    | with_reducible refine ite_wf' _ _ ?_ ?_
    | dsimp only
    | split

end Sys2Proof.Machine
end

