-- ==== Sys2Proof/Laws/KeepVatLace.lean ====
section
/-! SUPPORT. What the functions of Machine/Lace do to the Vat: those that store nothing leave it, the others keep its form. -/

namespace Sys2Proof.Machine

@[simp] theorem State.cueEdge_wf (s : State) (d : Nat) (hw : Memory.wf s.mem = true) : Memory.wf (State.cueEdge s d).mem = true := by
  unfold State.cueEdge
  repeat' first
    | with_reducible assumption
    | with_reducible refine State.cueAct_wf _ _ _ _ ?_
    | with_reducible refine keep_wf (State.putFlag_mem _ _ _ _) ?_
    | dsimp only
    | split

end Sys2Proof.Machine
end

