-- ==== Sys2Proof/Laws/KeepVatRecorder.lean ====
section
/-! SUPPORT. What the functions of Machine/Recorder do to the Vat: those that store nothing leave it, the others keep its form. -/

namespace Sys2Proof.Machine

@[simp] theorem State.markTick_wf (s : State) (d : Nat) (hw : Memory.wf s.mem = true) : Memory.wf (State.markTick s d).mem = true := by
  unfold State.markTick
  repeat' first
    | with_reducible assumption
    | with_reducible refine State.markRec_wf _ _ _ _ ?_
    | with_reducible refine keep_wf (State.putFlag_mem _ _ _ _) ?_
    | with_reducible refine State.writeLosses_wf _ _ ?_
    | with_reducible refine ite_wf' _ _ ?_ ?_

@[simp] theorem State.snapFirst_wf (s : State) (d : Nat) (hw : Memory.wf s.mem = true) : Memory.wf (State.snapFirst s d).2.mem = true := by
  unfold State.snapFirst
  repeat' first
    | with_reducible assumption
    | with_reducible refine keep_wf (State.freeVal_mem _ _) ?_
    | split

@[simp] theorem State.snapTake_wf (s : State) (d k : Nat) (hw : Memory.wf s.mem = true) : Memory.wf (State.snapTake s d k).mem = true := by
  unfold State.snapTake
  repeat' first
    | with_reducible assumption
    | with_reducible refine keep_wf (State.put_mem _ _ _ _) ?_
    | with_reducible refine keep_wf (State.putFlag_mem _ _ _ _) ?_
    | with_reducible refine State.snapFirst_wf _ _ ?_
    | with_reducible refine State.writeLosses_wf _ _ ?_

@[simp] theorem State.formSegment_wf (s : State) (d : Nat) (p : RecPart) (bs : List Nat) (sflags : Nat) (hw : Memory.wf s.mem = true) : Memory.wf (State.formSegment s d p bs sflags).mem = true := by
  unfold State.formSegment
  repeat' first
    | with_reducible assumption
    | with_reducible refine keep_wf (State.put_mem _ _ _ _) ?_
    | with_reducible refine keep_wf (State.putFlag_mem _ _ _ _) ?_
    | with_reducible refine State.setRecDie_wf _ _ _ ?_
    | with_reducible refine ite_wf' _ _ ?_ ?_

@[simp] theorem State.closeSegment_wf (s : State) (d sflags : Nat) (hw : Memory.wf s.mem = true) : Memory.wf (State.closeSegment s d sflags).mem = true := by
  unfold State.closeSegment
  repeat' first
    | with_reducible assumption
    | with_reducible refine State.closeCur_wf _ _ ?_
    | with_reducible refine State.formSegment_wf _ _ _ _ _ ?_
    | with_reducible refine State.syncOcc_wf _ _ ?_
    | with_reducible refine ite_wf' _ _ ?_ ?_
    | dsimp only
    | split

@[simp] theorem State.setArcIndex_wf (s : State) (d k : Nat) (p : RecPart) (hw : Memory.wf s.mem = true) : Memory.wf (State.setArcIndex s d k p).mem = true := by
  unfold State.setArcIndex
  repeat' first
    | with_reducible assumption
    | with_reducible refine State.vatStore_wf _ _ _ _ ?_

@[simp] theorem State.segWritten_wf (s : State) (d : Nat) (w : SegWrite) (hw : Memory.wf s.mem = true) : Memory.wf (State.segWritten s d w).mem = true := by
  unfold State.segWritten
  repeat' first
    | with_reducible assumption
    | (intro a x hx)
    | with_reducible refine keep_wf (State.put_mem _ _ _ _) ?_
    | with_reducible refine keep_wf (State.putFlag_mem _ _ _ _) ?_
    | with_reducible refine State.setArcIndex_wf _ _ _ _ ?_
    | with_reducible refine State.setRblock_wf _ _ _ _ ?_
    | with_reducible refine State.setRecDie_wf _ _ _ ?_
    | with_reducible refine State.syncOcc_wf _ _ ?_
    | with_reducible refine ite_wf' _ _ ?_ ?_
    | with_reducible refine foldl_wf _ _ _ ?_ ?_
    | dsimp only
    | split

@[simp] theorem State.resubmit_wf (s : State) (d tag tries : Nat) (hw : Memory.wf s.mem = true) : Memory.wf (State.resubmit s d tag tries).mem = true := by
  unfold State.resubmit
  repeat' first
    | with_reducible assumption
    | with_reducible refine State.setRecDie_wf _ _ _ ?_

@[simp] theorem State.segFailed_wf (s : State) (d : Nat) (w : SegWrite) (hw : Memory.wf s.mem = true) : Memory.wf (State.segFailed s d w).mem = true := by
  unfold State.segFailed
  repeat' first
    | with_reducible assumption
    | with_reducible refine keep_wf (State.putFlag_mem _ _ _ _) ?_
    | with_reducible refine State.resubmit_wf _ _ _ _ ?_
    | with_reducible refine ite_wf' _ _ ?_ ?_

@[simp] theorem State.retryArchive_wf (s : State) (d : Nat) (hw : Memory.wf s.mem = true) : Memory.wf (State.retryArchive s d).mem = true := by
  unfold State.retryArchive
  repeat' first
    | with_reducible assumption
    | (intro a x hx)
    | with_reducible refine State.resubmit_wf _ _ _ _ ?_
    | with_reducible refine ite_wf' _ _ ?_ ?_
    | with_reducible refine foldl_wf _ _ _ ?_ ?_

@[simp] theorem State.gaspSegments_wf (s : State) (n : Nat) (hw : Memory.wf s.mem = true) : Memory.wf (s.gaspSegments n).mem = true := by
  induction n generalizing s with
  | zero => exact hw
  | succ n ih =>
    unfold State.gaspSegments
    split
    · refine ih _ (State.eachDie_wf _ _ ?_ hw)
      intro d a ha; dsimp only; repeat' split
      all_goals simp (maxDischargeDepth := 40) [ha]
    · exact hw

@[simp] theorem State.gaspDone_mem (s : State) : (State.gaspDone s).mem = s.mem := by
  unfold State.gaspDone
  repeat' first
    | with_reducible rfl
    | intro _
    | with_reducible refine Eq.trans (State.eachDie_mem _ _ ?_) ?_
    | with_reducible refine Eq.trans (State.putFlag_mem _ _ _ _) ?_

@[simp] theorem State.gaspWith_wf (s : State) (code : Nat) (hw : Memory.wf s.mem = true) : Memory.wf (State.gaspWith s code).mem = true := by
  unfold State.gaspWith
  repeat' first
    | with_reducible assumption
    | (intro a x hx)
    | with_reducible refine State.closeCur_wf _ _ ?_
    | with_reducible refine State.eachDie_wf _ _ ?_ ?_
    | with_reducible refine State.formSegment_wf _ _ _ _ _ ?_
    | with_reducible refine keep_wf (State.gaspDone_mem _) ?_
    | with_reducible refine State.gaspSegments_wf _ _ ?_
    | with_reducible refine keep_wf (State.putFlag_mem _ _ _ _) ?_
    | with_reducible refine State.syncOcc_wf _ _ ?_
    | with_reducible refine State.sysRec_wf _ _ _ _ _ ?_
    | with_reducible refine State.writeLoss_wf _ _ _ ?_
    | with_reducible refine ite_wf' _ _ ?_ ?_
    | with_reducible refine foldl_wf _ _ _ ?_ ?_
    | dsimp only
    | split

@[simp] theorem State.startGasp_wf (s : State) (cause : GaspCause) (hw : Memory.wf s.mem = true) : Memory.wf (State.startGasp s cause).mem = true := by
  unfold State.startGasp
  repeat' first
    | with_reducible assumption
    | with_reducible refine State.gaspWith_wf _ _ ?_

@[simp] theorem State.gaspEnd_wf (s : State) (written : Nat) (hw : Memory.wf s.mem = true) : Memory.wf (State.gaspEnd s written).mem = true := by
  unfold State.gaspEnd
  repeat' first
    | with_reducible assumption
    | with_reducible refine keep_wf (State.gaspDone_mem _) ?_
    | with_reducible refine ite_wf' _ _ ?_ ?_

@[simp] theorem State.continueStream_wf (s : State) (d : Nat) (found : Bool) (h : Nat) (missing : List MissingLoss) (hw : Memory.wf s.mem = true) :
    Memory.wf (State.continueStream s d found h missing).mem = true := by
  unfold State.continueStream
  repeat' first
    | with_reducible assumption
    | (intro a x hx)
    | with_reducible refine keep_wf (State.freeVal_mem _ _) ?_
    | with_reducible refine State.markRec_wf _ _ _ _ ?_
    | with_reducible refine keep_wf (State.put_mem _ _ _ _) ?_
    | with_reducible refine State.sysRec_wf _ _ _ _ _ ?_
    | with_reducible refine ite_wf' _ _ ?_ ?_
    | with_reducible refine foldl_wf _ _ _ ?_ ?_

@[simp] theorem State.bootContinue_wf (s : State) (missing : List MissingLoss) (hw : Memory.wf s.mem = true) : Memory.wf (State.bootContinue s missing).mem = true := by
  unfold State.bootContinue
  repeat' first
    | with_reducible assumption
    | (intro a x hx)
    | with_reducible refine State.continueStream_wf _ _ _ _ _ ?_
    | with_reducible refine State.eachDie_wf _ _ ?_ ?_
    | with_reducible refine keep_wf (State.put_mem _ _ _ _) ?_
    | with_reducible refine keep_wf (State.putFlag_mem _ _ _ _) ?_
    | with_reducible refine State.storeRec_wf _ _ _ ?_
    | with_reducible refine foldl_wf _ _ _ ?_ ?_

@[simp] theorem State.foreignParts_wf (s : State) (dies : List Nat) (hw : Memory.wf s.mem = true) : Memory.wf (State.foreignParts s dies).mem = true := by
  unfold State.foreignParts
  repeat' first
    | with_reducible assumption
    | (intro a x hx)
    | with_reducible refine State.eachDie_wf _ _ ?_ ?_
    | with_reducible refine keep_wf (State.putFlag_mem _ _ _ _) ?_
    | with_reducible refine State.setRecDie_wf _ _ _ ?_
    | with_reducible refine ite_wf' _ _ ?_ ?_

@[simp] theorem State.clearStream_wf (s : State) (d upto lim : Nat) (whole : Bool) (hw : Memory.wf s.mem = true) : Memory.wf (State.clearStream s d upto lim whole).2.2.mem = true := by
  unfold State.clearStream
  repeat' first
    | with_reducible assumption
    | (intro a x hx)
    | with_reducible refine keep_wf (State.endSnaps_mem _ _ _) ?_
    | with_reducible refine keep_wf (State.put_mem _ _ _ _) ?_
    | with_reducible refine State.setArcIndex_wf _ _ _ _ ?_
    | with_reducible refine State.setRblock_wf _ _ _ _ ?_
    | with_reducible refine State.setRecDie_wf _ _ _ ?_
    | with_reducible refine State.syncOcc_wf _ _ ?_
    | with_reducible refine foldl_wf _ _ _ ?_ ?_
    | split

@[simp] theorem State.clearOne_wf (s : State) (t : List Byte) (check : Nat) (cut : Option Nat) (d : Nat) (hw : Memory.wf s.mem = true) : Memory.wf (State.clearOne s t check cut d).mem = true := by
  unfold State.clearOne
  repeat' first
    | with_reducible assumption
    | with_reducible refine State.clearStream_wf _ _ _ _ _ ?_
    | with_reducible refine keep_wf (State.putFlag_mem _ _ _ _) ?_
    | with_reducible refine State.sysRec_wf _ _ _ _ _ ?_
    | split

@[simp] theorem State.clearGo_wf (s : State) (cut : Option Nat) (hw : Memory.wf s.mem = true) : Memory.wf (State.clearGo s cut).mem = true := by
  unfold State.clearGo
  repeat' first
    | with_reducible assumption
    | (intro a x hx)
    | with_reducible refine State.clearOne_wf _ _ _ _ _ ?_
    | with_reducible refine keep_wf (State.put_mem _ _ _ _) ?_
    | with_reducible refine keep_wf (State.putFlag_mem _ _ _ _) ?_
    | with_reducible refine foldl_wf _ _ _ ?_ ?_

end Sys2Proof.Machine
end

