-- ==== Sys2Proof/Laws/KeepVatRelockOps.lean ====
section
/-! SUPPORT. What the functions of Machine/RelockOps do to the Vat: those that store nothing leave it, the others keep its form. -/

namespace Sys2Proof.Machine

@[simp] theorem State.serAbandon_wf (s : State) (d p : Nat) (hw : Memory.wf s.mem = true) : Memory.wf (State.serAbandon s d p).mem = true := by
  unfold State.serAbandon
  repeat' first
    | with_reducible assumption
    | with_reducible refine State.modSer_wf _ _ _ _ ?_
    | with_reducible refine keep_wf (State.putFlag_mem _ _ _ _) ?_
    | with_reducible refine State.serDrop_wf _ _ _ _ _ ?_
    | split

@[simp] theorem State.abandonLines_wf (s : State) (d : Nat) (hw : Memory.wf s.mem = true) : Memory.wf (State.abandonLines s d).mem = true := by
  unfold State.abandonLines
  repeat' first
    | with_reducible assumption
    | (intro a x hx)
    | with_reducible refine State.modTt_wf _ _ _ ?_
    | with_reducible refine State.serAbandon_wf _ _ _ ?_
    | with_reducible refine foldl_wf _ _ _ ?_ ?_

@[simp] theorem State.relockBegin_wf (s : State) (hw : Memory.wf s.mem = true) : Memory.wf (State.relockBegin s).mem = true := by
  unfold State.relockBegin
  repeat' first
    | with_reducible assumption
    | (intro a x hx)
    | with_reducible refine State.abandonLines_wf _ _ ?_
    | with_reducible refine State.eachDie_wf _ _ ?_ ?_
    | with_reducible refine State.gateClk_wf _ _ ?_
    | with_reducible refine keep_wf (State.putFlag_mem _ _ _ _) ?_
    | with_reducible refine keep_wf (State.servoTo_mem _ _) ?_
    | with_reducible refine keep_wf (State.syncTime_mem _) ?_
    | with_reducible refine ite_wf' _ _ ?_ ?_

@[simp] theorem State.relockEnd_wf (s : State) (hw : Memory.wf s.mem = true) : Memory.wf (State.relockEnd s).mem = true := by
  unfold State.relockEnd
  repeat' first
    | with_reducible assumption
    | (intro a x hx)
    | with_reducible refine State.eachDie_wf _ _ ?_ ?_
    | with_reducible refine State.gateClk_wf _ _ ?_
    | with_reducible refine keep_wf (State.putFlag_mem _ _ _ _) ?_
    | with_reducible refine State.quietPulses_wf _ ?_
    | with_reducible refine keep_wf (State.syncTime_mem _) ?_
    | with_reducible refine ite_wf' _ _ ?_ ?_

end Sys2Proof.Machine
end

