-- ==== Sys2Proof/Laws/KeepVatSerial.lean ====
section
/-! SUPPORT. What the functions of Machine/Serial do to the Vat: those that store nothing leave it, the others keep its form. -/

namespace Sys2Proof.Machine

@[simp] theorem State.ttSaw_wf (s : State) (d p ident : Nat) (ide : Bool) (hw : Memory.wf s.mem = true) : Memory.wf (State.ttSaw s d p ident ide).mem = true := by
  unfold State.ttSaw
  repeat' first
    | with_reducible assumption
    | with_reducible refine State.modSer_wf _ _ _ _ ?_
    | with_reducible refine ite_wf' _ _ ?_ ?_

@[simp] theorem State.canRx_wf (s : State) (d p : Nat) (rx : SerRx) (hw : Memory.wf s.mem = true) : Memory.wf (State.canRx s d p rx).mem = true := by
  unfold State.canRx
  repeat' first
    | with_reducible assumption
    | with_reducible refine keep_wf (State.addRec_mem _ _ _ _) ?_
    | with_reducible refine State.modSer_wf _ _ _ _ ?_
    | with_reducible refine keep_wf (State.put_mem _ _ _ _) ?_
    | with_reducible refine keep_wf (State.subRec_mem _ _ _) ?_
    | with_reducible refine State.ttSaw_wf _ _ _ _ _ ?_
    | with_reducible refine ite_wf' _ _ ?_ ?_
    | dsimp only
    | split

@[simp] theorem State.serDeliver_wf (s : State) (d p : Nat) (g : SerGood) (edgePs : Nat) (hw : Memory.wf s.mem = true) : Memory.wf (State.serDeliver s d p g edgePs).mem = true := by
  unfold State.serDeliver
  repeat' first
    | with_reducible assumption
    | with_reducible refine State.bindRx_wf _ _ _ _ _ _ _ _ _ _ ?_
    | with_reducible refine keep_wf (State.count_mem _ _ _ _) ?_
    | with_reducible refine State.modSer_wf _ _ _ _ ?_
    | with_reducible refine ite_wf' _ _ ?_ ?_

@[simp] theorem State.serReceive_wf (s : State) (d p : Nat) (rx : SerRx) (edgePs : Nat) (hw : Memory.wf s.mem = true) : Memory.wf (State.serReceive s d p rx edgePs).mem = true := by
  unfold State.serReceive
  repeat' first
    | with_reducible assumption
    | with_reducible refine State.canRx_wf _ _ _ _ ?_
    | with_reducible refine keep_wf (State.count_mem _ _ _ _) ?_
    | with_reducible refine keep_wf (State.putFlag_mem _ _ _ _) ?_
    | with_reducible refine State.serDeliver_wf _ _ _ _ _ ?_
    | with_reducible refine ite_wf' _ _ ?_ ?_
    | dsimp only
    | split

@[simp] theorem State.serStart_wf (s : State) (d p f : Nat) (excl : Bool) (hw : Memory.wf s.mem = true) : Memory.wf (State.serStart s d p f excl).mem = true := by
  unfold State.serStart
  repeat' first
    | with_reducible assumption
    | with_reducible refine keep_wf (State.cellsAllowed_mem _ _ _ _) ?_
    | with_reducible refine State.dropFrame_wf _ _ _ _ ?_
    | with_reducible refine State.frameRead_wf _ _ _ _ _ _ _ ?_
    | with_reducible refine keep_wf (State.leaveOutput_mem _ _ _ _) ?_
    | with_reducible refine State.modSer_wf _ _ _ _ ?_
    | with_reducible refine keep_wf (State.putFlag_mem _ _ _ _) ?_
    | with_reducible refine State.syncFifo_wf _ _ _ ?_
    | with_reducible refine State.ttSaw_wf _ _ _ _ _ ?_
    | with_reducible refine ite_wf' _ _ ?_ ?_

@[simp] theorem State.enterDetect_mem (s : State) (d p : Nat) : (State.enterDetect s d p).mem = s.mem := by rfl

@[simp] theorem State.serTxEnd_wf (s : State) (d p : Nat) (out : SerTxOutcome) (hw : Memory.wf s.mem = true) : Memory.wf (State.serTxEnd s d p out).mem = true := by
  unfold State.serTxEnd
  repeat' first
    | with_reducible assumption
    | with_reducible refine keep_wf (State.addTec_mem _ _ _ _) ?_
    | with_reducible refine keep_wf (State.count_mem _ _ _ _) ?_
    | with_reducible refine State.doneWith_wf _ _ ?_
    | with_reducible refine keep_wf (State.enterDetect_mem _ _ _) ?_
    | with_reducible refine keep_wf (State.leaveOutput_mem _ _ _ _) ?_
    | with_reducible refine State.modSer_wf _ _ _ _ ?_
    | with_reducible refine keep_wf (State.put_mem _ _ _ _) ?_
    | with_reducible refine keep_wf (State.putFlag_mem _ _ _ _) ?_
    | with_reducible refine State.serDrop_wf _ _ _ _ _ ?_
    | with_reducible refine keep_wf (State.subTec_mem _ _ _) ?_
    | with_reducible refine State.syncFifo_wf _ _ _ ?_
    | with_reducible refine keep_wf (State.txDone_mem _ _) ?_
    | with_reducible refine ite_wf' _ _ ?_ ?_
    | dsimp only
    | split

@[simp] theorem State.detectResult_wf (s : State) (d p : Nat) (shortest : Option Nat) (frames : Bool) (hw : Memory.wf s.mem = true) : Memory.wf (State.detectResult s d p shortest frames).2.mem = true := by
  unfold State.detectResult
  repeat' first
    | with_reducible assumption
    | with_reducible refine keep_wf (State.freeVal_mem _ _) ?_
    | with_reducible refine ite_snd_wf _ _ ?_ ?_
    | dsimp only
    | split

@[simp] theorem State.ttCycle_wf (s : State) (d p cycle : Nat) (hw : Memory.wf s.mem = true) : Memory.wf (State.ttCycle s d p cycle).mem = true := by
  unfold State.ttCycle
  repeat' first
    | with_reducible assumption
    | with_reducible refine State.modSer_wf _ _ _ _ ?_
    | with_reducible refine keep_wf (State.put_mem _ _ _ _) ?_
    | with_reducible refine keep_wf (State.putFlag_mem _ _ _ _) ?_

@[simp] theorem State.ttMasterIs_wf (s : State) (d p prio : Nat) (me : Bool) (hw : Memory.wf s.mem = true) : Memory.wf (State.ttMasterIs s d p prio me).mem = true := by
  unfold State.ttMasterIs
  repeat' first
    | with_reducible assumption
    | with_reducible refine keep_wf (State.count_mem _ _ _ _) ?_
    | with_reducible refine State.modSer_wf _ _ _ _ ?_
    | with_reducible refine keep_wf (State.put_mem _ _ _ _) ?_
    | with_reducible refine keep_wf (State.putFlag_mem _ _ _ _) ?_
    | with_reducible refine State.serRec_wf _ _ _ _ _ _ ?_
    | with_reducible refine ite_wf' _ _ ?_ ?_

@[simp] theorem State.ttMiss_mem (s : State) (d p : Nat) : (State.ttMiss s d p).mem = s.mem := by rfl

@[simp] theorem State.ttTrigger_wf (s : State) (d p i : Nat) (idle : Bool) (hw : Memory.wf s.mem = true) : Memory.wf (State.ttTrigger s d p i idle).mem = true := by
  unfold State.ttTrigger
  repeat' first
    | with_reducible assumption
    | with_reducible refine State.modSer_wf _ _ _ _ ?_
    | with_reducible refine State.serStart_wf _ _ _ _ _ ?_
    | with_reducible refine keep_wf (State.ttMiss_mem _ _ _) ?_
    | with_reducible refine ite_wf' _ _ ?_ ?_
    | dsimp only
    | split

end Sys2Proof.Machine
end

