-- ==== Sys2Proof/Laws/KeepVatTenOps.lean ====
section
/-! SUPPORT. What the functions of Machine/TenOps do to the Vat: those that store nothing leave it, the others keep its form. -/

namespace Sys2Proof.Machine

@[simp] theorem State.violation_mem (s : State) (d p t kind detail : Nat) : (State.violation s d p t kind detail).mem = s.mem := by
  unfold State.violation
  repeat' first
    | with_reducible rfl
    | with_reducible refine Eq.trans (State.count_mem _ _ _ _) ?_
    | with_reducible refine Eq.trans (State.put_mem _ _ _ _) ?_
    | with_reducible refine Eq.trans (State.putFlag_mem _ _ _ _) ?_
    | with_reducible refine ite_mem' _ _ ?_ ?_

@[simp] theorem State.pageAccess_mem (s : State) (p t off : Nat) : (State.pageAccess s p t off).mem = s.mem := by
  unfold State.pageAccess
  repeat' first
    | with_reducible rfl
    | with_reducible refine Eq.trans (State.pputFlag_mem _ _ _ _ _) ?_
    | with_reducible refine Eq.trans (State.violation_mem _ _ _ _ _ _) ?_

@[simp] theorem State.overrunBit_mem (s : State) (t : Nat) : (State.overrunBit s t).mem = s.mem := by
  unfold State.overrunBit
  repeat' first
    | with_reducible rfl
    | with_reducible refine Eq.trans (State.putFlag_mem _ _ _ _) ?_
    | with_reducible refine Eq.trans (State.setBit_mem _ _ _ _) ?_
    | with_reducible refine ite_mem' _ _ ?_ ?_

@[simp] theorem State.denied_mem (s : State) (d : Nat) : (State.denied s d).mem = s.mem := by rfl

@[simp] theorem State.takeTokens_mem (s : State) (d t n : Nat) : (State.takeTokens s d t n).mem = s.mem := by rfl

end Sys2Proof.Machine
end

