-- ==== Sys2Proof/Laws/KeepVatHostOps.lean ====
section
/-! SUPPORT. What the functions of Machine/HostOps do to the Vat: those that store nothing leave it, the others keep its form. -/

namespace Sys2Proof.Machine

@[simp] theorem State.answered_mem (s : State) (data : List Nat) : (State.answered s data).mem = s.mem := by rfl

@[simp] theorem State.refusedReq_mem (s : State) : (State.refusedReq s).mem = s.mem := by rfl

@[simp] theorem State.pciErr_mem (s : State) (p off bar len kind : Nat) (write : Bool) : (State.pciErr s p off bar len kind write).mem = s.mem := by
  unfold State.pciErr
  repeat' first
    | with_reducible rfl
    | with_reducible refine Eq.trans (State.put_mem _ _ _ _) ?_
    | with_reducible refine Eq.trans (State.putFlag_mem _ _ _ _) ?_
    | with_reducible refine ite_mem' _ _ ?_ ?_

@[simp] theorem State.abortReq_mem (s : State) (p : Nat) : (State.abortReq s p).mem = s.mem := by rfl

@[simp] theorem State.ownerDenied_mem (s : State) (p off bar len : Nat) (write : Bool) : (State.ownerDenied s p off bar len write).mem = s.mem := by
  unfold State.ownerDenied
  repeat' first
    | with_reducible rfl
    | with_reducible refine Eq.trans (State.denied_mem _ _) ?_
    | with_reducible refine Eq.trans (State.pciErr_mem _ _ _ _ _ _ _) ?_
    | with_reducible refine Eq.trans (State.putFlag_mem _ _ _ _) ?_
    | with_reducible refine Eq.trans (State.refusedReq_mem _) ?_
    | with_reducible refine ite_mem' _ _ ?_ ?_

@[simp] theorem State.alignErr_mem (s : State) (p off bar len : Nat) (write : Bool) : (State.alignErr s p off bar len write).mem = s.mem := by
  unfold State.alignErr
  repeat' first
    | with_reducible rfl
    | with_reducible refine Eq.trans (State.answered_mem _ _) ?_
    | with_reducible refine Eq.trans (State.pciErr_mem _ _ _ _ _ _ _) ?_
    | with_reducible refine Eq.trans (State.putFlag_mem _ _ _ _) ?_

@[simp] theorem State.unboundAccess_mem (s : State) (p t off : Nat) (write : Bool) : (State.unboundAccess s p t off write).mem = s.mem := by
  unfold State.unboundAccess
  repeat' first
    | with_reducible rfl
    | with_reducible refine Eq.trans (State.answered_mem _ _) ?_
    | with_reducible refine Eq.trans (State.pageAccess_mem _ _ _ _) ?_
    | with_reducible refine Eq.trans (State.violation_mem _ _ _ _ _ _) ?_
    | with_reducible refine ite_mem' _ _ ?_ ?_

@[simp] theorem State.pageGate_mem (s : State) (p t off : Nat) (write : Bool) (pasid : Option Nat) (x : State) (h : s.pageGate p t off write pasid = some x) : x.mem = s.mem := by
  unfold State.pageGate at h; (try dsimp only at h)
  repeat' split at h
  all_goals try contradiction
  all_goals cases h
  all_goals first | (simp; done) | ((repeat' split) <;> simp)

@[simp] theorem State.pageGate_wf (s : State) (p t off : Nat) (write : Bool) (pasid : Option Nat) (x : State) (h : s.pageGate p t off write pasid = some x) (hw : Memory.wf s.mem = true) : Memory.wf x.mem = true := by
  rw [State.pageGate_mem s p t off write pasid x h]; exact hw

@[simp] theorem State.onPage_wf (s : State) (p t off : Nat) (write : Bool) (pasid : Option Nat) (k : State) (hw : Memory.wf s.mem = true)
    (h : Memory.wf k.mem = true) : Memory.wf (s.onPage p t off write pasid k).mem = true := by
  unfold State.onPage; split
  · exact State.pageGate_wf _ _ _ _ _ _ _ (by assumption) hw
  · exact h

@[simp] theorem State.syncCtx_mem (s : State) (p : Nat) : (State.syncCtx s p).mem = s.mem := by rfl

@[simp] theorem State.touchCtx_mem (s : State) (p t : Nat) : (State.touchCtx s p t).mem = s.mem := by rfl

@[simp] theorem State.takeCtx_mem (s : State) (p t : Nat) (x : State) (h : s.takeCtx p t = some x) : x.mem = s.mem := by
  unfold State.takeCtx at h; (try dsimp only at h)
  repeat' split at h
  all_goals try contradiction
  all_goals cases h
  all_goals first | (simp; done) | ((repeat' split) <;> simp)

@[simp] theorem State.takeCtx_wf (s : State) (p t : Nat) (x : State) (h : s.takeCtx p t = some x) (hw : Memory.wf s.mem = true) : Memory.wf x.mem = true := by
  rw [State.takeCtx_mem s p t x h]; exact hw

@[simp] theorem State.freeCtx_mem (s : State) (p t : Nat) : (State.freeCtx s p t).mem = s.mem := by rfl

@[simp] theorem State.setWin_mem (s : State) (p t off v : Nat) : (State.setWin s p t off v).mem = s.mem := by rfl

@[simp] theorem State.setWinBytes_mem (s : State) (p t off : Nat) (bs : List Byte) (x0 : Nat) : (State.setWinBytes s p t off bs x0).mem = s.mem := by
  induction x0 generalizing s p t off bs with
  | zero =>
    unfold State.setWinBytes
    repeat' first
      | with_reducible rfl
  | succ _ ih =>
    unfold State.setWinBytes
    repeat' first
      | with_reducible rfl
      | with_reducible refine Eq.trans (ih _ _ _ _ _) ?_
      | with_reducible refine Eq.trans (State.setWin_mem _ _ _ _ _) ?_

@[simp] theorem State.winWrite_mem (s : State) (p t off v : Nat) : (State.winWrite s p t off v).mem = s.mem := by
  unfold State.winWrite
  repeat' first
    | with_reducible rfl
    | with_reducible refine Eq.trans (State.pageAccess_mem _ _ _ _) ?_
    | with_reducible refine Eq.trans (State.pputFlag_mem _ _ _ _ _) ?_
    | with_reducible refine Eq.trans (State.setWin_mem _ _ _ _ _) ?_
    | with_reducible refine Eq.trans (State.takeCtx_mem _ _ _ _ (by with_reducible assumption)) ?_
    | with_reducible refine ite_mem' _ _ ?_ ?_
    | split

@[simp] theorem State.gatherElem_wf (s : State) (t idx source : Nat) (hw : Memory.wf s.mem = true) : Memory.wf (State.gatherElem s t idx source).2.mem = true := by
  unfold State.gatherElem
  repeat' first
    | with_reducible assumption
    | with_reducible refine State.portRead_wf _ _ _ _ _ _ ?_
    | with_reducible refine keep_wf (State.putFlag_mem _ _ _ _) ?_
    | with_reducible refine State.readDesc_wf _ _ _ _ ?_
    | with_reducible refine ite_snd_wf _ _ ?_ ?_

@[simp] theorem State.scatterElem_wf (s : State) (d t : Nat) (bs : List Byte) (hw : Memory.wf s.mem = true) : Memory.wf (State.scatterElem s d t bs).2.mem = true := by
  unfold State.scatterElem
  repeat' first
    | with_reducible assumption
    | with_reducible refine State.substitute_wf _ _ _ _ _ ?_
    | with_reducible refine ite_snd_wf _ _ ?_ ?_

@[simp] theorem State.modDma_wf (s : State) (d ch : Nat) (g : DmaCh → DmaCh) (hw : Memory.wf s.mem = true) : Memory.wf (State.modDma s d ch g).mem = true := by
  unfold State.modDma
  repeat' first
    | with_reducible assumption

@[simp] theorem State.slotPut_mem (s : State) (d ch : Nat) (f : Nat → Field) (x : Nat) : (State.slotPut s d ch f x).mem = s.mem := by
  unfold State.slotPut
  repeat' first
    | with_reducible rfl
    | with_reducible refine Eq.trans (State.pput_mem _ _ _ _ _) ?_
    | with_reducible refine ite_mem' _ _ ?_ ?_

@[simp] theorem State.dmaTo_mem (s : State) (d ch st : Nat) : (State.dmaTo s d ch st).mem = s.mem := by
  unfold State.dmaTo
  repeat' first
    | with_reducible rfl
    | with_reducible refine Eq.trans (State.clrBit_mem _ _ _ _) ?_
    | with_reducible refine Eq.trans (State.put_mem _ _ _ _) ?_
    | with_reducible refine Eq.trans (State.setBit_mem _ _ _ _) ?_
    | with_reducible refine Eq.trans (State.slotPut_mem _ _ _ _ _) ?_
    | with_reducible refine ite_mem' _ _ ?_ ?_

@[simp] theorem State.dmaCode_wf (s : State) (d ch code : Nat) (hw : Memory.wf s.mem = true) : Memory.wf (State.dmaCode s d ch code).mem = true := by
  unfold State.dmaCode
  repeat' first
    | with_reducible assumption
    | with_reducible refine keep_wf (State.put_mem _ _ _ _) ?_
    | with_reducible refine keep_wf (State.slotPut_mem _ _ _ _ _) ?_

@[simp] theorem State.dmaFlag_mem (s : State) (d ch : Nat) (f : Nat → Field) (ev : Field) : (State.dmaFlag s d ch f ev).mem = s.mem := by
  unfold State.dmaFlag
  repeat' first
    | with_reducible rfl
    | with_reducible refine Eq.trans (State.pageEvent_mem _ _ _) ?_
    | with_reducible refine Eq.trans (State.slotPut_mem _ _ _ _ _) ?_

@[simp] theorem State.dmaStopped_wf (s : State) (d ch code : Nat) (hw : Memory.wf s.mem = true) : Memory.wf (State.dmaStopped s d ch code).mem = true := by
  unfold State.dmaStopped
  repeat' first
    | with_reducible assumption
    | with_reducible refine State.dmaCode_wf _ _ _ _ ?_
    | with_reducible refine keep_wf (State.dmaFlag_mem _ _ _ _ _) ?_
    | with_reducible refine keep_wf (State.dmaTo_mem _ _ _ _) ?_
    | with_reducible refine keep_wf (State.setBit_mem _ _ _ _) ?_
    | with_reducible refine keep_wf (State.slotPut_mem _ _ _ _ _) ?_
    | with_reducible refine keep_wf (State.violation_mem _ _ _ _ _ _) ?_
    | with_reducible refine ite_wf' _ _ ?_ ?_

@[simp] theorem State.dmaEntered_wf (s : State) (d ch : Nat) (e : HcqEntry) (irq aborted : Bool) (hw : Memory.wf s.mem = true) : Memory.wf (State.dmaEntered s d ch e irq aborted).mem = true := by
  unfold State.dmaEntered
  repeat' first
    | with_reducible assumption
    | with_reducible refine State.dmaCode_wf _ _ _ _ ?_
    | with_reducible refine keep_wf (State.dmaFlag_mem _ _ _ _ _) ?_
    | with_reducible refine State.dmaStopped_wf _ _ _ _ ?_
    | with_reducible refine keep_wf (State.dmaTo_mem _ _ _ _) ?_
    | with_reducible refine State.modDma_wf _ _ _ _ ?_
    | with_reducible refine keep_wf (State.put_mem _ _ _ _) ?_
    | with_reducible refine keep_wf (State.putFlag_mem _ _ _ _) ?_
    | with_reducible refine keep_wf (State.slotPut_mem _ _ _ _ _) ?_
    | with_reducible refine ite_wf' _ _ ?_ ?_

@[simp] theorem State.setHcq_mem (s : State) (d : Nat) (q : Hcq) : (State.setHcq s d q).mem = s.mem := by rfl

@[simp] theorem State.hcqEnter_wf (s : State) (d : Nat) (e : HcqEntry) (hw : Memory.wf s.mem = true) : Memory.wf (State.hcqEnter s d e).mem = true := by
  unfold State.hcqEnter
  repeat' first
    | with_reducible assumption
    | with_reducible refine State.dmaEntered_wf _ _ _ _ _ _ ?_
    | with_reducible refine keep_wf (State.pputFlag_mem _ _ _ _ _) ?_
    | with_reducible refine keep_wf (State.put_mem _ _ _ _) ?_
    | with_reducible refine keep_wf (State.setHcq_mem _ _ _) ?_
    | with_reducible refine State.writeBytes_wf _ _ _ _ ?_
    | dsimp only
    | split

@[simp] theorem State.hcqPush_wf (s : State) (d : Nat) (e : HcqEntry) (hw : Memory.wf s.mem = true) : Memory.wf (State.hcqPush s d e).mem = true := by
  unfold State.hcqPush
  repeat' first
    | with_reducible assumption
    | with_reducible refine keep_wf (State.count_mem _ _ _ _) ?_
    | with_reducible refine State.hcqEnter_wf _ _ _ ?_
    | with_reducible refine keep_wf (State.putFlag_mem _ _ _ _) ?_
    | with_reducible refine keep_wf (State.setHcq_mem _ _ _) ?_
    | with_reducible refine ite_wf' _ _ ?_ ?_

@[simp] theorem State.setPageCmd_mem (s : State) (p t : Nat) (c : PageCmd) : (State.setPageCmd s p t c).mem = s.mem := by rfl

@[simp] theorem State.pageDone_wf (s : State) (p t result : Nat) (hw : Memory.wf s.mem = true) : Memory.wf (State.pageDone s p t result).mem = true := by
  unfold State.pageDone
  repeat' first
    | with_reducible assumption
    | with_reducible refine State.hcqPush_wf _ _ _ ?_
    | with_reducible refine keep_wf (State.pput_mem _ _ _ _ _) ?_

@[simp] theorem State.pageElem_wf (s : State) (p t : Nat) (c : PageCmd) (hw : Memory.wf s.mem = true) : Memory.wf (State.pageElem s p t c).mem = true := by
  unfold State.pageElem
  repeat' first
    | with_reducible assumption
    | with_reducible refine State.gatherElem_wf _ _ _ _ ?_
    | with_reducible refine keep_wf (State.pput_mem _ _ _ _ _) ?_
    | with_reducible refine State.scatterElem_wf _ _ _ _ ?_
    | with_reducible refine keep_wf (State.setPageCmd_mem _ _ _ _) ?_
    | with_reducible refine keep_wf (State.setWin_mem _ _ _ _ _) ?_
    | with_reducible refine keep_wf (State.setWinBytes_mem _ _ _ _ _ _) ?_
    | with_reducible refine keep_wf (State.takeTokens_mem _ _ _ _) ?_
    | with_reducible refine ite_wf' _ _ ?_ ?_

@[simp] theorem State.pageRun_wf (s : State) (p t : Nat) (x0 : Nat) (hw : Memory.wf s.mem = true) : Memory.wf (State.pageRun s p t x0).mem = true := by
  induction x0 generalizing s p t with
  | zero =>
    unfold State.pageRun
    repeat' first
      | with_reducible assumption
  | succ _ ih =>
    unfold State.pageRun
    repeat' first
      | with_reducible assumption
      | with_reducible refine ih _ _ _ ?_
      | with_reducible refine keep_wf (State.count_mem _ _ _ _) ?_
      | with_reducible refine State.pageDone_wf _ _ _ _ ?_
      | with_reducible refine State.pageElem_wf _ _ _ _ ?_
      | with_reducible refine ite_wf' _ _ ?_ ?_

@[simp] theorem State.pageStart_wf (s : State) (p t op n : Nat) (hw : Memory.wf s.mem = true) : Memory.wf (State.pageStart s p t op n).mem = true := by
  unfold State.pageStart
  repeat' first
    | with_reducible assumption
    | with_reducible refine keep_wf (State.pageAccess_mem _ _ _ _) ?_
    | with_reducible refine State.pageDone_wf _ _ _ _ ?_
    | with_reducible refine State.pageRun_wf _ _ _ _ ?_
    | with_reducible refine keep_wf (State.pput_mem _ _ _ _ _) ?_
    | with_reducible refine keep_wf (State.pputFlag_mem _ _ _ _ _) ?_
    | with_reducible refine keep_wf (State.setPageCmd_mem _ _ _ _) ?_
    | with_reducible refine keep_wf (State.touchCtx_mem _ _ _) ?_
    | with_reducible refine ite_wf' _ _ ?_ ?_

@[simp] theorem State.mbxWake_mem (s : State) (d e : Nat) : (State.mbxWake s d e).mem = s.mem := by
  unfold State.mbxWake
  repeat' first
    | with_reducible rfl
    | with_reducible refine Eq.trans (State.putFlag_mem _ _ _ _) ?_
    | with_reducible refine ite_mem' _ _ ?_ ?_

@[simp] theorem State.ringBell_mem (s : State) (d e : Nat) : (State.ringBell s d e).mem = s.mem := by
  unfold State.ringBell
  repeat' first
    | with_reducible rfl
    | with_reducible refine Eq.trans (State.mbxWake_mem _ _ _) ?_
    | with_reducible refine Eq.trans (State.modEng_mem _ _ _ _) ?_
    | with_reducible refine Eq.trans (State.raise_mem _ _ _ _) ?_
    | with_reducible refine ite_mem' _ _ ?_ ?_

@[simp] theorem State.mbxPush_wf (s : State) (d e : Nat) (w : W16) (hw : Memory.wf s.mem = true) : Memory.wf (State.mbxPush s d e w).2.mem = true := by
  unfold State.mbxPush
  repeat' first
    | with_reducible assumption
    | with_reducible refine keep_wf (State.mbxWake_mem _ _ _) ?_
    | with_reducible refine keep_wf (State.modEng_mem _ _ _ _) ?_
    | with_reducible refine ite_snd_wf _ _ ?_ ?_

@[simp] theorem State.mbxOverrun_mem (s : State) (p t i d e : Nat) : (State.mbxOverrun s p t i d e).mem = s.mem := by
  unfold State.mbxOverrun
  repeat' first
    | with_reducible rfl
    | with_reducible refine Eq.trans (State.count_mem _ _ _ _) ?_
    | with_reducible refine Eq.trans (State.overrunBit_mem _ _) ?_
    | with_reducible refine Eq.trans (State.pageEvent_mem _ _ _) ?_
    | with_reducible refine Eq.trans (State.pputFlag_mem _ _ _ _ _) ?_
    | with_reducible refine Eq.trans (State.putFlag_mem _ _ _ _) ?_
    | with_reducible refine Eq.trans (State.violation_mem _ _ _ _ _ _) ?_

@[simp] theorem State.mbxTake_mem (s : State) (d e : Nat) (w : W16) (x : State) (h : s.mbxTake d e = some (w, x)) : x.mem = s.mem := by
  unfold State.mbxTake at h; (try dsimp only at h)
  repeat' split at h
  all_goals try contradiction
  all_goals cases h
  all_goals first | (simp; done) | ((repeat' split) <;> simp)

@[simp] theorem State.mbxTake_wf (s : State) (d e : Nat) (w : W16) (x : State) (h : s.mbxTake d e = some (w, x)) (hw : Memory.wf s.mem = true) : Memory.wf x.mem = true := by
  rw [State.mbxTake_mem s d e w x h]; exact hw

@[simp] theorem State.mbxEmpty_mem (s : State) (d e : Nat) : (State.mbxEmpty s d e).mem = s.mem := by
  unfold State.mbxEmpty
  repeat' first
    | with_reducible rfl
    | with_reducible refine Eq.trans (State.count_mem _ _ _ _) ?_
    | with_reducible refine Eq.trans (State.modEng_mem _ _ _ _) ?_
    | with_reducible refine Eq.trans (State.putFlag_mem _ _ _ _) ?_
    | with_reducible refine ite_mem' _ _ ?_ ?_

end Sys2Proof.Machine
end

