-- ==== Sys2Proof/Laws/KeepVatDmaOps.lean ====
section
/-! SUPPORT. What the functions of Machine/DmaOps do to the Vat: those that store nothing leave it, the others keep its form. -/

namespace Sys2Proof.Machine

@[simp] theorem State.dmaEnd_wf (s : State) (d ch code : Nat) (aborted : Bool) (hw : Memory.wf s.mem = true) : Memory.wf (State.dmaEnd s d ch code aborted).mem = true := by
  unfold State.dmaEnd
  repeat' first
    | with_reducible assumption
    | with_reducible refine State.hcqPush_wf _ _ _ ?_
    | with_reducible refine State.modDma_wf _ _ _ _ ?_
    | with_reducible refine keep_wf (State.put_mem _ _ _ _) ?_
    | dsimp only
    | split

@[simp] theorem State.dmaReset_wf (s : State) (d ch : Nat) (hw : Memory.wf s.mem = true) : Memory.wf (State.dmaReset s d ch).mem = true := by
  unfold State.dmaReset
  repeat' first
    | with_reducible assumption
    | with_reducible refine State.dmaEnd_wf _ _ _ _ _ ?_
    | with_reducible refine State.dmaStopped_wf _ _ _ _ ?_
    | with_reducible refine ite_wf' _ _ ?_ ?_

@[simp] theorem State.dmaSetCode_wf (s : State) (d ch code : Nat) (hw : Memory.wf s.mem = true) : Memory.wf (State.dmaSetCode s d ch code).mem = true := by
  unfold State.dmaSetCode
  repeat' first
    | with_reducible assumption
    | with_reducible refine State.modDma_wf _ _ _ _ ?_

@[simp] theorem State.dmaHostErr_wf (s : State) (d ch : Nat) (hw : Memory.wf s.mem = true) : Memory.wf (State.dmaHostErr s d ch).mem = true := by
  unfold State.dmaHostErr
  repeat' first
    | with_reducible assumption
    | with_reducible refine State.dmaSetCode_wf _ _ _ _ ?_
    | with_reducible refine keep_wf (State.putFlag_mem _ _ _ _) ?_

@[simp] theorem State.dmaProgress_wf (s : State) (d ch n : Nat) (hw : Memory.wf s.mem = true) : Memory.wf (State.dmaProgress s d ch n).mem = true := by
  unfold State.dmaProgress
  repeat' first
    | with_reducible assumption
    | with_reducible refine keep_wf (State.dmaFlag_mem _ _ _ _ _) ?_
    | with_reducible refine State.modDma_wf _ _ _ _ ?_
    | with_reducible refine ite_wf' _ _ ?_ ?_
    | dsimp only
    | split

@[simp] theorem State.dmaTokens_wf (s : State) (d ch n : Nat) (hw : Memory.wf s.mem = true) : Memory.wf (State.dmaTokens s d ch n).2.mem = true := by
  unfold State.dmaTokens
  repeat' first
    | with_reducible assumption
    | with_reducible refine keep_wf (State.count_mem _ _ _ _) ?_
    | with_reducible refine State.modDma_wf _ _ _ _ ?_
    | with_reducible refine keep_wf (State.takeTokens_mem _ _ _ _) ?_
    | with_reducible refine ite_snd_wf _ _ ?_ ?_

@[simp] theorem State.banksRefused_mem (s : State) (d o n : Nat) : (State.banksRefused s d o n).mem = s.mem := by
  unfold State.banksRefused
  repeat' first
    | with_reducible rfl
    | with_reducible refine Eq.trans (State.fenceRefused_mem _ _ _) ?_
    | split

@[simp] theorem State.dmaRead_wf (s : State) (d ch : Nat) (c : DmaDesc) (pos n : Nat) (host : Option (List Byte)) (hw : Memory.wf s.mem = true) : Memory.wf (State.dmaRead s d ch c pos n host).2.mem = true := by
  unfold State.dmaRead
  repeat' first
    | with_reducible assumption
    | with_reducible refine keep_wf (State.banksRefused_mem _ _ _ _) ?_
    | with_reducible refine State.portRead_wf _ _ _ _ _ _ ?_
    | with_reducible refine keep_wf (State.vatAllowed_mem _ _ _ _ _ _ _) ?_
    | with_reducible refine ite_snd_wf _ _ ?_ ?_
    | dsimp only
    | split

@[simp] theorem State.dmaWrite_wf (s : State) (d ch : Nat) (c : DmaDesc) (pos : Nat) (bs : List Byte) (hw : Memory.wf s.mem = true) : Memory.wf (State.dmaWrite s d ch c pos bs).2.mem = true := by
  unfold State.dmaWrite
  repeat' first
    | with_reducible assumption
    | with_reducible refine keep_wf (State.answered_mem _ _) ?_
    | with_reducible refine keep_wf (State.banksRefused_mem _ _ _ _) ?_
    | with_reducible refine State.modDma_wf _ _ _ _ ?_
    | with_reducible refine keep_wf (State.vatAllowed_mem _ _ _ _ _ _ _) ?_
    | with_reducible refine State.vatWrite_wf _ _ _ _ _ _ ?_
    | with_reducible refine ite_snd_wf _ _ ?_ ?_
    | dsimp only
    | split

@[simp] theorem State.dmaEgress_wf (s : State) (d ch : Nat) (buf : List Byte) (hw : Memory.wf s.mem = true) : Memory.wf (State.dmaEgress s d ch buf).2.mem = true := by
  unfold State.dmaEgress
  repeat' first
    | with_reducible assumption
    | with_reducible refine State.allocTx_wf _ _ _ _ _ _ _ (by with_reducible assumption) ?_
    | with_reducible refine State.frameWrite_wf _ _ _ _ _ _ _ ?_
    | with_reducible refine keep_wf (State.padWords_mem _ _) ?_
    | with_reducible refine State.sendFrame_wf _ _ _ _ ?_
    | with_reducible refine keep_wf (State.setFrame_mem _ _ _) ?_
    | with_reducible refine ite_snd_wf _ _ ?_ ?_
    | dsimp only
    | split

@[simp] theorem State.linearBurst_wf (s : State) (d ch : Nat) (c : DmaRun) (host : Option (List Byte)) (hw : Memory.wf s.mem = true) : Memory.wf (State.linearBurst s d ch c host).mem = true := by
  unfold State.linearBurst
  repeat' first
    | with_reducible assumption
    | with_reducible refine State.dmaEgress_wf _ _ _ _ ?_
    | with_reducible refine State.dmaHostErr_wf _ _ _ ?_
    | with_reducible refine State.dmaProgress_wf _ _ _ _ ?_
    | with_reducible refine State.dmaRead_wf _ _ _ _ _ _ _ ?_
    | with_reducible refine State.dmaSetCode_wf _ _ _ _ ?_
    | with_reducible refine State.dmaTokens_wf _ _ _ _ ?_
    | with_reducible refine State.dmaWrite_wf _ _ _ _ _ _ ?_
    | with_reducible refine ite_wf' _ _ ?_ ?_
    | dsimp only
    | split

@[simp] theorem State.gatherBurst_wf (s : State) (d ch : Nat) (host : Option (List Byte)) (hw : Memory.wf s.mem = true) : Memory.wf (State.gatherBurst s d ch host).mem = true := by
  unfold State.gatherBurst
  repeat' first
    | with_reducible assumption
    | with_reducible refine keep_wf (State.answered_mem _ _) ?_
    | with_reducible refine State.dmaHostErr_wf _ _ _ ?_
    | with_reducible refine State.dmaProgress_wf _ _ _ _ ?_
    | with_reducible refine State.dmaTokens_wf _ _ _ _ ?_
    | with_reducible refine State.gatherElem_wf _ _ _ _ ?_
    | with_reducible refine ite_wf' _ _ ?_ ?_
    | dsimp only
    | split

@[simp] theorem State.scatterBurst_wf (s : State) (d ch : Nat) (host : Option (List Byte)) (hw : Memory.wf s.mem = true) : Memory.wf (State.scatterBurst s d ch host).mem = true := by
  unfold State.scatterBurst
  repeat' first
    | with_reducible assumption
    | with_reducible refine keep_wf (State.answered_mem _ _) ?_
    | with_reducible refine State.dmaHostErr_wf _ _ _ ?_
    | with_reducible refine State.dmaProgress_wf _ _ _ _ ?_
    | with_reducible refine State.dmaTokens_wf _ _ _ _ ?_
    | with_reducible refine State.scatterElem_wf _ _ _ _ ?_
    | with_reducible refine ite_wf' _ _ ?_ ?_
    | dsimp only
    | split

@[simp] theorem State.circular_wf (s : State) (d ch : Nat) (c : DmaRun) (hw : Memory.wf s.mem = true) : Memory.wf (State.circular s d ch c).mem = true := by
  unfold State.circular
  repeat' first
    | with_reducible assumption
    | with_reducible refine keep_wf (State.answered_mem _ _) ?_
    | with_reducible refine keep_wf (State.dmaFlag_mem _ _ _ _ _) ?_
    | with_reducible refine keep_wf (State.dmaTo_mem _ _ _ _) ?_
    | with_reducible refine State.dmaTokens_wf _ _ _ _ ?_
    | with_reducible refine State.doneWith_wf _ _ ?_
    | with_reducible refine State.dropFrame_wf _ _ _ _ ?_
    | with_reducible refine State.frameRead_wf _ _ _ _ _ _ _ ?_
    | with_reducible refine keep_wf (State.leaveOutput_mem _ _ _ _) ?_
    | with_reducible refine State.modDma_wf _ _ _ _ ?_
    | with_reducible refine keep_wf (State.setOutQueue_mem _ _ _ _) ?_
    | with_reducible refine keep_wf (State.slotPut_mem _ _ _ _ _) ?_
    | with_reducible refine ite_wf' _ _ ?_ ?_
    | dsimp only
    | split

end Sys2Proof.Machine
end

