-- ==== Sys2Proof/Laws/KeepVatHostIface.lean ====
section
/-! SUPPORT. What the functions of Machine/HostIface do to the Vat: those that store nothing leave it, the others keep its form. -/

namespace Sys2Proof.Machine

@[simp] theorem State.clearPages_mem (s : State) (p : Nat) : (State.clearPages s p).mem = s.mem := by rfl

@[simp] theorem State.freeContexts_mem (s : State) (p : Nat) : (State.freeContexts s p).mem = s.mem := by
  unfold State.freeContexts
  repeat' first
    | with_reducible rfl
    | intro _
    | with_reducible refine Eq.trans (State.freeCtx_mem _ _ _) ?_
    | with_reducible refine Eq.trans (foldl_mem _ _ _ ?_) ?_

@[simp] theorem State.portReset_wf (s : State) (p : Nat) (down : Bool) (hw : Memory.wf s.mem = true) : Memory.wf (State.portReset s p down).mem = true := by
  unfold State.portReset
  repeat' first
    | with_reducible assumption
    | (intro a x hx)
    | with_reducible refine keep_wf (State.clearPages_mem _ _) ?_
    | with_reducible refine State.dmaReset_wf _ _ _ ?_
    | with_reducible refine keep_wf (State.freeContexts_mem _ _) ?_
    | with_reducible refine keep_wf (State.putFlag_mem _ _ _ _) ?_
    | with_reducible refine ite_wf' _ _ ?_ ?_
    | with_reducible refine foldl_wf _ _ _ ?_ ?_

@[simp] theorem State.bar4_wf (s : State) (p d o off len : Nat) (write : Option (List Byte)) (hw : Memory.wf s.mem = true) : Memory.wf (State.bar4 s p d o off len write).mem = true := by
  unfold State.bar4
  repeat' first
    | with_reducible assumption
    | with_reducible refine keep_wf (State.abortReq_mem _ _) ?_
    | with_reducible refine keep_wf (State.answered_mem _ _) ?_
    | with_reducible refine keep_wf (State.banksRefused_mem _ _ _ _) ?_
    | with_reducible refine keep_wf (State.pciErr_mem _ _ _ _ _ _ _) ?_
    | with_reducible refine State.portRead_wf _ _ _ _ _ _ ?_
    | with_reducible refine keep_wf (State.vatViolation_mem _ _ _ _ _ _ _) ?_
    | with_reducible refine State.vatWrite_wf _ _ _ _ _ _ ?_
    | with_reducible refine ite_wf' _ _ ?_ ?_
    | dsimp only
    | split

@[simp] theorem State.pageRelease_wf (s : State) (p t : Nat) (hw : Memory.wf s.mem = true) : Memory.wf (State.pageRelease s p t).mem = true := by
  unfold State.pageRelease
  repeat' first
    | with_reducible assumption
    | with_reducible refine keep_wf (State.freeCtx_mem _ _ _) ?_
    | with_reducible refine keep_wf (State.pageAccess_mem _ _ _ _) ?_
    | with_reducible refine State.pageDone_wf _ _ _ _ ?_
    | with_reducible refine ite_wf' _ _ ?_ ?_

@[simp] theorem State.dmaCtrl_wf (s : State) (p t j d ch v : Nat) (hw : Memory.wf s.mem = true) : Memory.wf (State.dmaCtrl s p t j d ch v).mem = true := by
  unfold State.dmaCtrl
  repeat' first
    | with_reducible assumption
    | with_reducible refine keep_wf (State.dmaTo_mem _ _ _ _) ?_
    | with_reducible refine keep_wf (State.pageAccess_mem _ _ _ _) ?_
    | with_reducible refine keep_wf (State.pput_mem _ _ _ _ _) ?_
    | with_reducible refine keep_wf (State.pputFlag_mem _ _ _ _ _) ?_
    | with_reducible refine ite_wf' _ _ ?_ ?_

@[simp] theorem State.dmaAbort_wf (s : State) (d ch : Nat) (hw : Memory.wf s.mem = true) : Memory.wf (State.dmaAbort s d ch).mem = true := by
  unfold State.dmaAbort
  repeat' first
    | with_reducible assumption
    | with_reducible refine State.dmaEnd_wf _ _ _ _ _ ?_
    | with_reducible refine keep_wf (State.putFlag_mem _ _ _ _) ?_
    | with_reducible refine keep_wf (State.slotPut_mem _ _ _ _ _) ?_
    | dsimp only
    | split

@[simp] theorem State.dmaChReset_wf (s : State) (d ch : Nat) (hw : Memory.wf s.mem = true) : Memory.wf (State.dmaChReset s d ch).mem = true := by
  unfold State.dmaChReset
  repeat' first
    | with_reducible assumption
    | with_reducible refine State.dmaReset_wf _ _ _ ?_
    | with_reducible refine keep_wf (State.put_mem _ _ _ _) ?_
    | with_reducible refine keep_wf (State.putFlag_mem _ _ _ _) ?_
    | with_reducible refine keep_wf (State.slotPut_mem _ _ _ _ _) ?_

@[simp] theorem State.crdWrite_wf (s : State) (t j d ch rd : Nat) (hw : Memory.wf s.mem = true) : Memory.wf (State.crdWrite s t j d ch rd).mem = true := by
  unfold State.crdWrite
  repeat' first
    | with_reducible assumption
    | with_reducible refine keep_wf (State.dmaTo_mem _ _ _ _) ?_
    | with_reducible refine keep_wf (State.pput_mem _ _ _ _ _) ?_
    | with_reducible refine ite_wf' _ _ ?_ ?_
    | dsimp only
    | split

end Sys2Proof.Machine
end

