-- ==== Sys2Proof/Laws/KeepVatTenants.lean ====
section
/-! SUPPORT. What the functions of Machine/Tenants do to the Vat: those that store nothing leave it, the others keep its form. -/

namespace Sys2Proof.Machine

@[simp] theorem State.tenEnd_wf (s : State) (code : Nat) (hw : Memory.wf s.mem = true) : Memory.wf (State.tenEnd s code).mem = true := by
  unfold State.tenEnd
  repeat' first
    | with_reducible assumption
    | with_reducible refine keep_wf (State.put_mem _ _ _ _) ?_
    | with_reducible refine keep_wf (State.putFlag_mem _ _ _ _) ?_

@[simp] theorem State.tenCmd_wf (s k : State) (hw : Memory.wf s.mem = true) (h : Memory.wf k.mem = true) : Memory.wf (s.tenCmd k).mem = true := by
  unfold State.tenCmd; split <;> simp (maxDischargeDepth := 40) [*]

@[simp] theorem State.syncPasid_mem (s : State) (t : Nat) : (State.syncPasid s t).mem = s.mem := by
  unfold State.syncPasid
  repeat' first
    | with_reducible rfl
    | intro _
    | with_reducible refine Eq.trans (State.put_mem _ _ _ _) ?_
    | with_reducible refine ite_mem' _ _ ?_ ?_
    | with_reducible refine Eq.trans (foldl_mem _ _ _ ?_) ?_

@[simp] theorem State.staticPasid_mem (s : State) (t : Nat) : (State.staticPasid s t).mem = s.mem := by
  unfold State.staticPasid
  repeat' first
    | with_reducible rfl
    | with_reducible refine Eq.trans (State.put_mem _ _ _ _) ?_
    | with_reducible refine Eq.trans (State.putFlag_mem _ _ _ _) ?_
    | with_reducible refine Eq.trans (State.syncPasid_mem _ _) ?_

@[simp] theorem State.setPortsToken_wf (s : State) (t mask : Nat) (hw : Memory.wf s.mem = true) : Memory.wf (State.setPortsToken s t mask).mem = true := by
  unfold State.setPortsToken
  repeat' first
    | with_reducible assumption
    | (intro a x hx)
    | with_reducible refine State.dmaReset_wf _ _ _ ?_
    | with_reducible refine keep_wf (State.freeCtx_mem _ _ _) ?_
    | with_reducible refine keep_wf (State.put_mem _ _ _ _) ?_
    | with_reducible refine ite_wf' _ _ ?_ ?_
    | with_reducible refine foldl_wf _ _ _ ?_ ?_

@[simp] theorem State.bindToken_wf (s : State) (hw : Memory.wf s.mem = true) : Memory.wf (State.bindToken s).mem = true := by
  unfold State.bindToken
  repeat' first
    | with_reducible assumption
    | with_reducible refine keep_wf (State.put_mem _ _ _ _) ?_
    | with_reducible refine keep_wf (State.putFlag_mem _ _ _ _) ?_
    | with_reducible refine State.setPortsToken_wf _ _ _ ?_
    | with_reducible refine keep_wf (State.staticPasid_mem _ _) ?_
    | with_reducible refine keep_wf (State.syncPasid_mem _ _) ?_
    | with_reducible refine State.tenEnd_wf _ _ ?_
    | with_reducible refine ite_wf' _ _ ?_ ?_
    | dsimp only
    | split

@[simp] theorem State.unbindTenant_wf (s : State) (hw : Memory.wf s.mem = true) : Memory.wf (State.unbindTenant s).mem = true := by
  unfold State.unbindTenant
  repeat' first
    | with_reducible assumption
    | with_reducible refine keep_wf (State.put_mem _ _ _ _) ?_
    | with_reducible refine State.setPortsToken_wf _ _ _ ?_
    | with_reducible refine keep_wf (State.staticPasid_mem _ _) ?_
    | with_reducible refine State.tenEnd_wf _ _ ?_

@[simp] theorem State.raiseSec_wf (s : State) (hw : Memory.wf s.mem = true) : Memory.wf (State.raiseSec s).mem = true := by
  unfold State.raiseSec
  repeat' first
    | with_reducible assumption
    | with_reducible refine keep_wf (State.put_mem _ _ _ _) ?_
    | with_reducible refine keep_wf (State.putFlag_mem _ _ _ _) ?_
    | with_reducible refine State.tenEnd_wf _ _ ?_
    | with_reducible refine ite_wf' _ _ ?_ ?_

@[simp] theorem State.attestReport_wf (s : State) (hw : Memory.wf s.mem = true) : Memory.wf (State.attestReport s).mem = true := by
  unfold State.attestReport
  repeat' first
    | with_reducible assumption
    | (intro a x hx)
    | with_reducible refine keep_wf (State.put_mem _ _ _ _) ?_
    | with_reducible refine State.tenEnd_wf _ _ ?_
    | with_reducible refine foldl_wf _ _ _ ?_ ?_

end Sys2Proof.Machine
end

