-- ==== Sys2Proof/Laws/KeepVatTte.lean ====
section
/-! SUPPORT. What the functions of Machine/Tte do to the Vat: those that store nothing leave it, the others keep its form. -/

namespace Sys2Proof.Machine

@[simp] theorem State.cellOn_wf (s : State) (d : Nat) (a : TtAssign) (full : Bool) (ch : Nat) (busy : Bool) (hw : Memory.wf s.mem = true) : Memory.wf (State.cellOn s d a full ch busy).2.mem = true := by
  unfold State.cellOn
  repeat' first
    | with_reducible assumption
    | with_reducible refine keep_wf (State.count_mem _ _ _ _) ?_
    | with_reducible refine keep_wf (State.putFlag_mem _ _ _ _) ?_
    | with_reducible refine State.ttSends_wf _ _ _ _ ?_
    | with_reducible refine ite_snd_wf _ _ ?_ ?_

@[simp] theorem State.cellStart_wf (s : State) (d w : Nat) (busyA busyB : Bool) (hw : Memory.wf s.mem = true) : Memory.wf (State.cellStart s d w busyA busyB).mem = true := by
  unfold State.cellStart
  repeat' first
    | with_reducible assumption
    | with_reducible refine State.cellOn_wf _ _ _ _ _ _ ?_
    | with_reducible refine State.emptyBuf_wf _ _ _ ?_
    | with_reducible refine State.latchBuf_wf _ _ _ ?_
    | with_reducible refine State.ttRead_wf _ _ _ ?_
    | with_reducible refine State.unlatch_wf _ _ _ ?_
    | with_reducible refine ite_wf' _ _ ?_ ?_
    | dsimp only
    | split

@[simp] theorem State.arbStart_wf (s : State) (d f ch : Nat) (w : TtWindow) (hw : Memory.wf s.mem = true) : Memory.wf (State.arbStart s d f ch w).mem = true := by
  unfold State.arbStart
  repeat' first
    | with_reducible assumption
    | with_reducible refine keep_wf (State.count_mem _ _ _ _) ?_
    | with_reducible refine State.modTt_wf _ _ _ ?_
    | with_reducible refine State.syncTtBuf_wf _ _ ?_
    | with_reducible refine State.ttRead_wf _ _ _ ?_
    | with_reducible refine State.ttRelease_wf _ _ _ ?_
    | with_reducible refine State.ttSends_wf _ _ _ _ ?_
    | with_reducible refine ite_wf' _ _ ?_ ?_

@[simp] theorem State.arbAdvance_wf (s : State) (d ch : Nat) (hw : Memory.wf s.mem = true) : Memory.wf (State.arbAdvance s d ch).mem = true := by
  unfold State.arbAdvance
  repeat' first
    | with_reducible assumption
    | with_reducible refine State.arbStart_wf _ _ _ _ _ ?_
    | with_reducible refine State.modTt_wf _ _ _ ?_
    | with_reducible refine ite_wf' _ _ ?_ ?_
    | dsimp only
    | split

@[simp] theorem State.ttMeasure_wf (s : State) (d : Nat) (stamp : Int) (rx : TtRx) (hw : Memory.wf s.mem = true) : Memory.wf (State.ttMeasure s d stamp rx).mem = true := by
  unfold State.ttMeasure
  repeat' first
    | with_reducible assumption
    | with_reducible refine State.modTt_wf _ _ _ ?_
    | with_reducible refine ite_wf' _ _ ?_ ?_
    | dsimp only
    | split

@[simp] theorem State.ttDeliver_wf (s : State) (d ch : Nat) (stamp : Int) (n : Int) (w : TtWindow) (rx : TtRx) (hw : Memory.wf s.mem = true) : Memory.wf (State.ttDeliver s d ch stamp n w rx).mem = true := by
  unfold State.ttDeliver
  repeat' first
    | with_reducible assumption
    | with_reducible refine State.bindRx_wf _ _ _ _ _ _ _ _ _ _ ?_
    | with_reducible refine keep_wf (State.count_mem _ _ _ _) ?_
    | with_reducible refine State.modTt_wf _ _ _ ?_
    | with_reducible refine ite_wf' _ _ ?_ ?_

@[simp] theorem State.ttReceive_wf (s : State) (d ch b : Nat) (rx : TtRx) (hw : Memory.wf s.mem = true) : Memory.wf (State.ttReceive s d ch b rx).mem = true := by
  unfold State.ttReceive
  repeat' first
    | with_reducible assumption
    | with_reducible refine keep_wf (State.count_mem _ _ _ _) ?_
    | with_reducible refine keep_wf (State.putFlag_mem _ _ _ _) ?_
    | with_reducible refine State.ttDeliver_wf _ _ _ _ _ _ _ ?_
    | with_reducible refine State.ttMeasure_wf _ _ _ _ ?_
    | with_reducible refine ite_wf' _ _ ?_ ?_
    | dsimp only
    | split

@[simp] theorem State.ttOffset_wf (s : State) (d : Nat) (hw : Memory.wf s.mem = true) : Memory.wf (State.ttOffset s d).mem = true := by
  unfold State.ttOffset
  repeat' first
    | with_reducible assumption
    | with_reducible refine State.modTt_wf _ _ _ ?_
    | with_reducible refine keep_wf (State.put_mem _ _ _ _) ?_
    | with_reducible refine ite_wf' _ _ ?_ ?_
    | dsimp only
    | split

@[simp] theorem State.ttRate_wf (s : State) (d : Nat) (hw : Memory.wf s.mem = true) : Memory.wf (State.ttRate s d).mem = true := by
  unfold State.ttRate
  repeat' first
    | with_reducible assumption
    | with_reducible refine State.modTt_wf _ _ _ ?_
    | with_reducible refine keep_wf (State.put_mem _ _ _ _) ?_
    | with_reducible refine ite_wf' _ _ ?_ ?_
    | dsimp only
    | split

@[simp] theorem State.ttCorrect_wf (s : State) (d : Nat) (hw : Memory.wf s.mem = true) : Memory.wf (State.ttCorrect s d).mem = true := by
  unfold State.ttCorrect
  repeat' first
    | with_reducible assumption
    | with_reducible refine State.modTt_wf _ _ _ ?_
    | with_reducible refine keep_wf (State.put_mem _ _ _ _) ?_
    | with_reducible refine State.ttOffset_wf _ _ ?_
    | with_reducible refine State.ttRate_wf _ _ ?_
    | with_reducible refine State.ttRebase_wf _ _ ?_
    | with_reducible refine ite_wf' _ _ ?_ ?_

@[simp] theorem State.ttEvent_wf (s : State) (d : Nat) (ev : TtEvent) (hw : Memory.wf s.mem = true) : Memory.wf (State.ttEvent s d ev).mem = true := by
  unfold State.ttEvent
  repeat' first
    | with_reducible assumption
    | with_reducible refine State.modTt_wf _ _ _ ?_
    | with_reducible refine State.ttListen_wf _ _ ?_
    | with_reducible refine State.ttTo_wf _ _ _ ?_
    | with_reducible refine ite_wf' _ _ ?_ ?_
    | dsimp only
    | split

@[simp] theorem State.branchUp_wf (s : State) (d ch b : Nat) (hw : Memory.wf s.mem = true) : Memory.wf (State.branchUp s d ch b).mem = true := by
  unfold State.branchUp
  repeat' first
    | with_reducible assumption
    | with_reducible refine keep_wf (State.count_mem _ _ _ _) ?_
    | with_reducible refine State.modTt_wf _ _ _ ?_
    | with_reducible refine keep_wf (State.putFlag_mem _ _ _ _) ?_
    | with_reducible refine ite_wf' _ _ ?_ ?_
    | dsimp only
    | split

@[simp] theorem State.cutBranch_wf (s : State) (d ch b detail : Nat) (hw : Memory.wf s.mem = true) : Memory.wf (State.cutBranch s d ch b detail).mem = true := by
  unfold State.cutBranch
  repeat' first
    | with_reducible assumption
    | with_reducible refine State.modTt_wf _ _ _ ?_
    | with_reducible refine keep_wf (State.putFlag_mem _ _ _ _) ?_
    | with_reducible refine State.ttRec_wf _ _ _ _ _ _ ?_

@[simp] theorem State.readmitBranch_wf (s : State) (d ch b detail : Nat) (hw : Memory.wf s.mem = true) : Memory.wf (State.readmitBranch s d ch b detail).mem = true := by
  unfold State.readmitBranch
  repeat' first
    | with_reducible assumption
    | with_reducible refine keep_wf (State.putFlag_mem _ _ _ _) ?_
    | with_reducible refine State.ttRec_wf _ _ _ _ _ _ ?_

@[simp] theorem State.cycleStart_wf (s : State) (d ch b : Nat) (hw : Memory.wf s.mem = true) : Memory.wf (State.cycleStart s d ch b).mem = true := by
  unfold State.cycleStart
  repeat' first
    | with_reducible assumption
    | with_reducible refine keep_wf (State.clrBit_mem _ _ _ _) ?_
    | with_reducible refine keep_wf (State.count_mem _ _ _ _) ?_
    | with_reducible refine State.readmitBranch_wf _ _ _ _ _ ?_
    | with_reducible refine ite_wf' _ _ ?_ ?_

end Sys2Proof.Machine
end

