-- ==== Sys2Proof/Laws/KeepVatLoad.lean ====
section
/-! SUPPORT. What the functions of Machine/Load do to the Vat: those that store nothing leave it, the others keep its form. -/

namespace Sys2Proof.Machine

@[simp] theorem State.dropRegs_mem (s : State) (d lo hi : Nat) : (State.dropRegs s d lo hi).mem = s.mem := by rfl

@[simp] theorem State.loadPulse_wf (s : State) (c : HarnessCfg) (changed : Bool) (d n : Nat) (hw : Memory.wf s.mem = true) : Memory.wf (State.loadPulse s c changed d n).mem = true := by
  unfold State.loadPulse
  repeat' first
    | with_reducible assumption
    | with_reducible refine State.applyPulse_wf _ _ _ ?_
    | with_reducible refine keep_wf (State.putFlag_mem _ _ _ _) ?_
    | with_reducible refine keep_wf (State.puts_mem _ _ _) ?_
    | with_reducible refine ite_wf' _ _ ?_ ?_
    | split

@[simp] theorem State.applyTime_wf (s : State) (c : HarnessCfg) (old : Option HarnessCfg) (hw : Memory.wf s.mem = true) : Memory.wf (State.applyTime s c old).mem = true := by
  unfold State.applyTime
  repeat' first
    | with_reducible assumption
    | (intro a x hx)
    | with_reducible refine State.clkoutFreq_wf _ _ ?_
    | with_reducible refine State.eachDie_wf _ _ ?_ ?_
    | with_reducible refine State.loadPulse_wf _ _ _ _ _ ?_
    | with_reducible refine keep_wf (State.put_mem _ _ _ _) ?_
    | with_reducible refine keep_wf (State.puts_mem _ _ _) ?_
    | with_reducible refine State.relockBegin_wf _ ?_
    | with_reducible refine keep_wf (State.reselect_mem _) ?_
    | with_reducible refine ite_wf' _ _ ?_ ?_
    | with_reducible refine foldl_wf _ _ _ ?_ ?_
    | split

@[simp] theorem State.applyRegions_mem (s : State) (c : HarnessCfg) (d : Nat) : (State.applyRegions s c d).mem = s.mem := by simp [State.applyRegions]

@[simp] theorem State.applyTenant_mem (s : State) (e : TenantEntry) (kept : Bool) : (State.applyTenant s e kept).mem = s.mem := by
  unfold State.applyTenant
  repeat' first
    | with_reducible rfl
    | with_reducible refine Eq.trans (State.puts_mem _ _ _) ?_
    | with_reducible refine Eq.trans (State.staticPasid_mem _ _) ?_
    | with_reducible refine ite_mem' _ _ ?_ ?_

@[simp] theorem State.bindDma_mem (s : State) (c : HarnessCfg) (d ch : Nat) : (State.bindDma s c d ch).mem = s.mem := by
  unfold State.bindDma
  repeat' first
    | with_reducible rfl
    | with_reducible refine Eq.trans (State.puts_mem _ _ _) ?_
    | split

@[simp] theorem State.rebindDma_wf (s : State) (c : HarnessCfg) (old : Option HarnessCfg) (d ch : Nat) (hw : Memory.wf s.mem = true) : Memory.wf (State.rebindDma s c old d ch).mem = true := by
  unfold State.rebindDma
  repeat' first
    | with_reducible assumption
    | with_reducible refine keep_wf (State.bindDma_mem _ _ _ _) ?_
    | with_reducible refine State.dmaReset_wf _ _ _ ?_
    | with_reducible refine ite_wf' _ _ ?_ ?_
    | split

@[simp] theorem State.bindMbx_mem (s : State) (c : HarnessCfg) (old : Option HarnessCfg) (d e : Nat) : (State.bindMbx s c old d e).mem = s.mem := by
  unfold State.bindMbx
  repeat' first
    | with_reducible rfl
    | with_reducible refine Eq.trans (State.mbxEmpty_mem _ _ _) ?_
    | with_reducible refine Eq.trans (State.puts_mem _ _ _) ?_
    | with_reducible refine ite_mem' _ _ ?_ ?_
    | dsimp only
    | split

@[simp] theorem State.applyBindings_wf (s : State) (c : HarnessCfg) (old : Option HarnessCfg) (hw : Memory.wf s.mem = true) : Memory.wf (State.applyBindings s c old).mem = true := by
  unfold State.applyBindings
  repeat' first
    | with_reducible assumption
    | (intro a x hx)
    | with_reducible refine keep_wf (State.bindMbx_mem _ _ _ _ _) ?_
    | with_reducible refine State.eachDie_wf _ _ ?_ ?_
    | with_reducible refine keep_wf (State.put_mem _ _ _ _) ?_
    | with_reducible refine State.rebindDma_wf _ _ _ _ _ ?_
    | with_reducible refine ite_wf' _ _ ?_ ?_
    | with_reducible refine foldl_wf _ _ _ ?_ ?_

@[simp] theorem State.applyTenants_wf (s : State) (i : Image) (old : Option HarnessCfg) (hw : Memory.wf s.mem = true) : Memory.wf (State.applyTenants s i old).mem = true := by
  unfold State.applyTenants
  repeat' first
    | with_reducible assumption
    | (intro a x hx)
    | with_reducible refine State.applyBindings_wf _ _ _ ?_
    | with_reducible refine keep_wf (State.applyTenant_mem _ _ _) ?_
    | with_reducible refine keep_wf (State.put_mem _ _ _ _) ?_
    | with_reducible refine keep_wf (State.puts_mem _ _ _) ?_
    | with_reducible refine foldl_wf _ _ _ ?_ ?_

@[simp] theorem State.applyDatapoints_wf (s : State) (c : HarnessCfg) (d : Nat) (hw : Memory.wf s.mem = true) :
    Memory.wf (s.applyDatapoints c d).mem = true := by
  unfold State.applyDatapoints
  extract_lets s1 s2
  have h1 : Memory.wf s1.mem = true := by dsimp only [s1]; exact Memory.wf_drop _ _ hw
  have h2 : Memory.wf s2.mem = true := by
    refine foldl_wf _ _ _ (fun a r ha => foldl_wf _ _ _ (fun b i hb => ?_) ha) h1
    split
    · exact State.writeBytes_wf _ _ _ _ hb
    · exact hb
  clear_value s1 s2
  exact keep_wf (foldl_mem _ _ _ (fun a n => State.puts_mem _ _ _)) h2

@[simp] theorem State.applyRecorder_wf (s : State) (c : HarnessCfg) (d : Nat) (hw : Memory.wf s.mem = true) : Memory.wf (State.applyRecorder s c d).mem = true := by
  unfold State.applyRecorder
  repeat' first
    | with_reducible assumption
    | with_reducible refine State.closeSegment_wf _ _ _ ?_
    | with_reducible refine keep_wf (State.putFlag_mem _ _ _ _) ?_
    | with_reducible refine State.setRecDie_wf _ _ _ ?_
    | with_reducible refine State.syncOcc_wf _ _ ?_
    | with_reducible refine ite_wf' _ _ ?_ ?_

@[simp] theorem State.applyPlacement_mem (s : State) (c : HarnessCfg) (d : Nat) : (State.applyPlacement s c d).mem = s.mem := by
  unfold State.applyPlacement
  repeat' first
    | with_reducible rfl
    | intro _
    | with_reducible refine Eq.trans (State.applyPlace_mem _ _ _ _) ?_
    | with_reducible refine Eq.trans (State.putFlag_mem _ _ _ _) ?_
    | with_reducible refine Eq.trans (foldl_mem _ _ _ ?_) ?_

@[simp] theorem State.copyBlocks_wf (s : State) (c : HarnessCfg) (d : Nat) (hw : Memory.wf s.mem = true) : Memory.wf (State.copyBlocks s c d).mem = true := by
  unfold State.copyBlocks
  repeat' first
    | with_reducible assumption
    | (intro a x hx)
    | with_reducible refine State.copyBlock_wf _ _ _ ?_
    | with_reducible refine foldl_wf _ _ _ ?_ ?_

@[simp] theorem State.applySwitch_mem (s : State) (d : Nat) : (State.applySwitch s d).mem = s.mem := by
  unfold State.applySwitch
  repeat' first
    | with_reducible rfl
    | intro _
    | with_reducible refine Eq.trans (State.put_mem _ _ _ _) ?_
    | with_reducible refine Eq.trans (State.putFlag_mem _ _ _ _) ?_
    | with_reducible refine Eq.trans (State.syncPool_mem _ _) ?_
    | with_reducible refine Eq.trans (foldl_mem _ _ _ ?_) ?_

@[simp] theorem State.applyShapers_mem (s : State) (c : HarnessCfg) (old : Option HarnessCfg) (d : Nat) : (State.applyShapers s c old d).mem = s.mem := by
  unfold State.applyShapers
  repeat' first
    | with_reducible rfl
    | intro _
    | with_reducible refine Eq.trans (State.dropRegs_mem _ _ _ _) ?_
    | with_reducible refine Eq.trans (State.puts_mem _ _ _) ?_
    | with_reducible refine Eq.trans (State.setShaper_mem _ _ _ _) ?_
    | with_reducible refine Eq.trans (foldl_mem _ _ _ ?_) ?_

@[simp] theorem State.syncClamps_mem (s : State) (d : Nat) : (State.syncClamps s d).mem = s.mem := by
  unfold State.syncClamps
  repeat' first
    | with_reducible rfl
    | with_reducible refine Eq.trans (State.put_mem _ _ _ _) ?_
    | with_reducible refine Eq.trans (State.putFlag_mem _ _ _ _) ?_
    | with_reducible refine ite_mem' _ _ ?_ ?_

@[simp] theorem State.applyCalibration_mem (s : State) (c : HarnessCfg) : (State.applyCalibration s c).mem = s.mem := by
  unfold State.applyCalibration
  repeat' first
    | with_reducible rfl
    | intro _
    | with_reducible refine Eq.trans (State.count_mem _ _ _ _) ?_
    | with_reducible refine Eq.trans (State.eachDie_mem _ _ ?_) ?_
    | with_reducible refine Eq.trans (State.syncClamps_mem _ _) ?_
    | with_reducible refine Eq.trans (foldl_mem _ _ _ ?_) ?_

@[simp] theorem State.loadEthCtrl_mem (s : State) (c : HarnessCfg) (d p : Nat) : (State.loadEthCtrl s c d p).mem = s.mem := by rfl

@[simp] theorem State.loadEthPort_mem (s : State) (c : HarnessCfg) (d p : Nat) : (State.loadEthPort s c d p).mem = s.mem := by
  unfold State.loadEthPort
  repeat' first
    | with_reducible rfl
    | with_reducible refine Eq.trans (State.clrBit_mem _ _ _ _) ?_
    | with_reducible refine Eq.trans (State.loadEthCtrl_mem _ _ _ _) ?_
    | with_reducible refine Eq.trans (State.puts_mem _ _ _) ?_
    | with_reducible refine Eq.trans (State.setBit_mem _ _ _ _) ?_
    | with_reducible refine ite_mem' _ _ ?_ ?_

@[simp] theorem State.loadGates_mem (s : State) (c : HarnessCfg) (d p : Nat) : (State.loadGates s c d p).mem = s.mem := by
  unfold State.loadGates
  repeat' first
    | with_reducible rfl
    | intro _
    | with_reducible refine Eq.trans (State.dropRegs_mem _ _ _ _) ?_
    | with_reducible refine Eq.trans (State.put_mem _ _ _ _) ?_
    | with_reducible refine Eq.trans (State.puts_mem _ _ _) ?_
    | with_reducible refine Eq.trans (State.syncGate_mem _ _ _) ?_
    | with_reducible refine Eq.trans (foldl_mem _ _ _ ?_) ?_
    | dsimp only
    | split

@[simp] theorem State.loadSerRegs_mem (s : State) (c : HarnessCfg) (d p : Nat) : (State.loadSerRegs s c d p).mem = s.mem := by
  unfold State.loadSerRegs
  repeat' first
    | with_reducible rfl
    | with_reducible refine Eq.trans (State.clrBit_mem _ _ _ _) ?_
    | with_reducible refine Eq.trans (State.puts_mem _ _ _) ?_
    | with_reducible refine Eq.trans (State.setBit_mem _ _ _ _) ?_
    | with_reducible refine ite_mem' _ _ ?_ ?_

@[simp] theorem State.serCtrlReset_mem (s : State) (d p : Nat) : (State.serCtrlReset s d p).mem = s.mem := by rfl

@[simp] theorem State.loadSerPort_mem (s : State) (c : HarnessCfg) (d p : Nat) : (State.loadSerPort s c d p).mem = s.mem := by
  unfold State.loadSerPort
  repeat' first
    | with_reducible rfl
    | with_reducible refine Eq.trans (State.loadSerRegs_mem _ _ _ _) ?_
    | with_reducible refine Eq.trans (State.serCtrlReset_mem _ _ _) ?_

@[simp] theorem State.startSer_wf (s : State) (c : HarnessCfg) (d p : Nat) (hw : Memory.wf s.mem = true) : Memory.wf (State.startSer s c d p).mem = true := by
  unfold State.startSer
  repeat' first
    | with_reducible assumption
    | with_reducible refine keep_wf (State.enterDetect_mem _ _ _) ?_
    | with_reducible refine keep_wf (State.serTo_mem _ _ _ _) ?_
    | with_reducible refine ite_wf' _ _ ?_ ?_

@[simp] theorem State.loadTt_mem (s : State) (c : HarnessCfg) (d : Nat) : (State.loadTt s c d).mem = s.mem := by rfl

@[simp] theorem State.loadPcie_mem (s : State) (c : HarnessCfg) (d : Nat) : (State.loadPcie s c d).mem = s.mem := by rfl

@[simp] theorem State.loadPads_mem (s : State) (c : HarnessCfg) (d : Nat) : (State.loadPads s c d).mem = s.mem := by
  unfold State.loadPads
  repeat' first
    | with_reducible rfl
    | intro _
    | with_reducible refine Eq.trans (State.put_mem _ _ _ _) ?_
    | with_reducible refine Eq.trans (State.puts_mem _ _ _) ?_
    | with_reducible refine Eq.trans (foldl_mem _ _ _ ?_) ?_
    | split

end Sys2Proof.Machine
end

