-- ==== Sys2Proof/Laws/KeepVatElec.lean ====
section
/-! SUPPORT. What the functions of Machine/Elec do to the Vat: those that store nothing leave it, the others keep its form. -/

namespace Sys2Proof.Machine

@[simp] theorem State.calWrite_mem (s : State) (d : Nat) (v : Int) : (State.calWrite s d v).mem = s.mem := by
  unfold State.calWrite
  repeat' first
    | with_reducible rfl
    | with_reducible refine Eq.trans (State.syncClamps_mem _ _) ?_
    | with_reducible refine ite_mem' _ _ ?_ ?_

@[simp] theorem State.bankMv_mem (s : State) (d b mv : Nat) : (State.bankMv s d b mv).mem = s.mem := by rfl

@[simp] theorem State.idleCaps_mem (s : State) (d : Nat) : (State.idleCaps s d).mem = s.mem := by
  unfold State.idleCaps
  repeat' first
    | with_reducible rfl
    | intro _
    | with_reducible refine Eq.trans (State.capture_mem _ _ _ _) ?_
    | with_reducible refine Eq.trans (State.putFlag_mem _ _ _ _) ?_
    | with_reducible refine ite_mem' _ _ ?_ ?_
    | with_reducible refine Eq.trans (foldl_mem _ _ _ ?_) ?_

@[simp] theorem State.bankHold_wf (s : State) (d b mv : Nat) (hw : Memory.wf s.mem = true) : Memory.wf (State.bankHold s d b mv).mem = true := by
  unfold State.bankHold
  repeat' first
    | with_reducible assumption
    | with_reducible refine keep_wf (State.bankMv_mem _ _ _ _) ?_
    | with_reducible refine keep_wf (State.idleCaps_mem _ _) ?_
    | with_reducible refine State.modTt_wf _ _ _ ?_
    | with_reducible refine keep_wf (State.put_mem _ _ _ _) ?_
    | with_reducible refine keep_wf (State.putFlag_mem _ _ _ _) ?_
    | with_reducible refine keep_wf (State.setBit_mem _ _ _ _) ?_
    | with_reducible refine ite_wf' _ _ ?_ ?_

@[simp] theorem State.padWrite_mem (s : State) (d i v : Nat) : (State.padWrite s d i v).mem = s.mem := by
  unfold State.padWrite
  repeat' first
    | with_reducible rfl
    | with_reducible refine Eq.trans (State.puts_mem _ _ _) ?_
    | with_reducible refine ite_mem' _ _ ?_ ?_

end Sys2Proof.Machine
end

