-- ==== Sys2Proof/Laws/KeepVatHarVerify.lean ====
section
/-! SUPPORT. What the functions of Machine/HarVerify do to the Vat: those that store nothing leave it, the others keep its form. -/

namespace Sys2Proof.Machine

@[simp] theorem State.storeWrite_mem (s : State) (slot : Nat) : (State.storeWrite s slot).mem = s.mem := by
  unfold State.storeWrite
  repeat' first
    | with_reducible rfl
    | intro _
    | with_reducible refine Eq.trans (State.eachDie_mem _ _ ?_) ?_

end Sys2Proof.Machine
end

