-- ==== Sys2Proof/Laws/KeepVatArcOps.lean ====
section
/-! SUPPORT. What the functions of Machine/ArcOps do to the Vat: those that store nothing leave it, the others keep its form. -/

namespace Sys2Proof.Machine

@[simp] theorem State.setBound_mem (s : State) (b p : Nat) : (State.setBound s b p).mem = s.mem := by
  unfold State.setBound
  repeat' first
    | with_reducible rfl
    | intro _
    | with_reducible refine Eq.trans (State.eachDie_mem _ _ ?_) ?_
    | with_reducible refine Eq.trans (State.put_mem _ _ _ _) ?_
    | with_reducible refine Eq.trans (State.putFlag_mem _ _ _ _) ?_
    | with_reducible refine ite_mem' _ _ ?_ ?_

@[simp] theorem State.boundWindow_mem (s : State) : (State.boundWindow s).mem = s.mem := by
  unfold State.boundWindow
  repeat' first
    | with_reducible rfl
    | with_reducible refine Eq.trans (State.setBound_mem _ _ _) ?_
    | with_reducible refine ite_mem' _ _ ?_ ?_

@[simp] theorem State.paceOf_mem (s : State) (d m : Nat) (c : Int) : (State.paceOf s d m c).2.mem = s.mem := by
  unfold State.paceOf
  repeat' first
    | with_reducible rfl
    | with_reducible refine Eq.trans (State.freeVal_mem _ _) ?_
    | dsimp only
    | split

@[simp] theorem State.paces_mem (s : State) (d m : Nat) (x0 : List Nat) : (State.paces s d m x0).2.mem = s.mem := by
  induction x0 generalizing s d m with
  | nil =>
    unfold State.paces
    repeat' first
      | with_reducible rfl
  | cons _ _ ih =>
    unfold State.paces
    repeat' first
      | with_reducible rfl
      | with_reducible refine Eq.trans (ih _ _ _) ?_
      | with_reducible refine Eq.trans (State.paceOf_mem _ _ _ _) ?_

@[simp] theorem State.preRaise_wf (s : State) (code : Nat) (hw : Memory.wf s.mem = true) : Memory.wf (State.preRaise s code).mem = true := by
  unfold State.preRaise
  repeat' first
    | with_reducible assumption
    | with_reducible refine keep_wf (State.setBound_mem _ _ _) ?_
    | with_reducible refine ite_wf' _ _ ?_ ?_

end Sys2Proof.Machine
end

