-- ==== Sys2Proof/Laws/KeepVatVat.lean ====
section
/-! SUPPORT. What the functions of Machine/Vat do to the Vat: those that store nothing leave it, the others keep its form. -/

namespace Sys2Proof.Machine

@[simp] theorem State.scrubWord_wf (s : State) (d off : Nat) (hw : Memory.wf s.mem = true) : Memory.wf (State.scrubWord s d off).mem = true := by
  unfold State.scrubWord
  repeat' first
    | with_reducible assumption
    | with_reducible refine keep_wf (State.setWordErr_mem _ _ _ _) ?_
    | with_reducible refine State.writeBytes_wf _ _ _ _ ?_
    | with_reducible refine ite_wf' _ _ ?_ ?_

@[simp] theorem State.scrubLine_wf (s : State) (d off : Nat) (hw : Memory.wf s.mem = true) : Memory.wf (State.scrubLine s d off).mem = true := by
  unfold State.scrubLine
  repeat' first
    | with_reducible assumption
    | (intro a x hx)
    | with_reducible refine State.scrubWord_wf _ _ _ ?_
    | with_reducible refine foldl_wf _ _ _ ?_ ?_

@[simp] theorem State.perform_wf (s : State) (d : Nat) (r : BankReq) (hw : Memory.wf s.mem = true) : Memory.wf (State.perform s d r).mem = true := by
  unfold State.perform
  repeat' first
    | with_reducible assumption
    | with_reducible refine State.lineWrite_wf _ _ _ _ _ ?_
    | with_reducible refine State.portRead_wf _ _ _ _ _ _ ?_
    | with_reducible refine State.scrubLine_wf _ _ _ ?_
    | with_reducible refine State.vatStore_wf _ _ _ _ ?_
    | dsimp only
    | split

@[simp] theorem State.grant_wf (s : State) (d b : Nat) (hw : Memory.wf s.mem = true) : Memory.wf (State.grant s d b).mem = true := by
  unfold State.grant
  repeat' first
    | with_reducible assumption
    | with_reducible refine State.perform_wf _ _ _ ?_
    | with_reducible refine State.scrubLine_wf _ _ _ ?_
    | with_reducible refine State.setBank_wf _ _ _ _ ?_
    | with_reducible refine ite_wf' _ _ ?_ ?_
    | split

@[simp] theorem State.enqueue_wf (s : State) (d m t off lead : Nat) (write : Option (List Byte)) (n : Nat) (x0 : Nat) (hw : Memory.wf s.mem = true) : Memory.wf (State.enqueue s d m t off lead write n x0).mem = true := by
  induction x0 generalizing s d m t off lead write n with
  | zero =>
    unfold State.enqueue
    repeat' first
      | with_reducible assumption
  | succ _ ih =>
    unfold State.enqueue
    repeat' first
      | with_reducible assumption
      | with_reducible refine ih _ _ _ _ _ _ _ _ ?_
      | with_reducible refine State.setBank_wf _ _ _ _ ?_
      | with_reducible refine ite_wf' _ _ ?_ ?_

@[simp] theorem State.walk_wf (s : State) (d b : Nat) (hw : Memory.wf s.mem = true) : Memory.wf (State.walk s d b).mem = true := by
  unfold State.walk
  repeat' first
    | with_reducible assumption
    | with_reducible refine keep_wf (State.count_mem _ _ _ _) ?_
    | with_reducible refine State.eccWords_wf _ _ _ _ _ ?_
    | with_reducible refine keep_wf (State.put_mem _ _ _ _) ?_
    | with_reducible refine keep_wf (State.putFlag_mem _ _ _ _) ?_
    | with_reducible refine State.setBank_wf _ _ _ _ ?_
    | with_reducible refine ite_wf' _ _ ?_ ?_

@[simp] theorem State.burnRead_wf (s : State) (d b : Nat) (hw : Memory.wf s.mem = true) : Memory.wf (State.burnRead s d b).mem = true := by
  unfold State.burnRead
  repeat' first
    | with_reducible assumption
    | with_reducible refine keep_wf (State.putFlag_mem _ _ _ _) ?_
    | with_reducible refine State.walk_wf _ _ _ ?_
    | with_reducible refine ite_wf' _ _ ?_ ?_

@[simp] theorem State.clearDone_mem (s : State) (d : Nat) : (State.clearDone s d).mem = s.mem := by rfl

@[simp] theorem State.zeroVat_wf (s : State) (d : Nat) (hw : Memory.wf s.mem = true) : Memory.wf (s.zeroVat d).mem = true := by
  unfold State.zeroVat; dsimp only; exact Memory.wf_drop _ _ hw

@[simp] theorem State.zeroBank_wf (s : State) (d b : Nat) (hw : Memory.wf s.mem = true) : Memory.wf (s.zeroBank d b).mem = true := by
  unfold State.zeroBank; dsimp only; exact Memory.wf_drop _ _ hw

@[simp] theorem State.beginClear_wf (s : State) (d cause : Nat) (hw : Memory.wf s.mem = true) : Memory.wf (State.beginClear s d cause).mem = true := by
  unfold State.beginClear
  repeat' first
    | with_reducible assumption
    | with_reducible refine keep_wf (State.put_mem _ _ _ _) ?_
    | with_reducible refine keep_wf (State.putFlag_mem _ _ _ _) ?_
    | with_reducible refine State.zeroVat_wf _ _ ?_

@[simp] theorem State.marchFail_mem (s : State) (d b : Nat) (f : MarchFault) : (State.marchFail s d b f).mem = s.mem := by
  unfold State.marchFail
  repeat' first
    | with_reducible rfl
    | with_reducible refine Eq.trans (State.put_mem _ _ _ _) ?_
    | with_reducible refine Eq.trans (State.putFlag_mem _ _ _ _) ?_
    | with_reducible refine ite_mem' _ _ ?_ ?_

@[simp] theorem State.bankFail_mem (s : State) (d b : Nat) (held : Bool) : (State.bankFail s d b held).mem = s.mem := by
  unfold State.bankFail
  repeat' first
    | with_reducible rfl
    | with_reducible refine Eq.trans (State.setBit_mem _ _ _ _) ?_
    | with_reducible refine ite_mem' _ _ ?_ ?_

@[simp] theorem State.marchFault_wf (s : State) (d b : Nat) (f : MarchFault) (hw : Memory.wf s.mem = true) : Memory.wf (State.marchFault s d b f).mem = true := by
  unfold State.marchFault
  repeat' first
    | with_reducible assumption
    | with_reducible refine keep_wf (State.bankFail_mem _ _ _ _) ?_
    | with_reducible refine keep_wf (State.marchFail_mem _ _ _ _) ?_
    | with_reducible refine State.setBank_wf _ _ _ _ ?_
    | with_reducible refine keep_wf (State.setBit_mem _ _ _ _) ?_
    | with_reducible refine ite_wf' _ _ ?_ ?_
    | split

@[simp] theorem State.marchBegin_wf (s : State) (d : Nat) (spares : List (Nat × MarchFault)) (hw : Memory.wf s.mem = true) : Memory.wf (State.marchBegin s d spares).mem = true := by
  unfold State.marchBegin
  repeat' first
    | with_reducible assumption
    | (intro a x hx)
    | with_reducible refine State.marchFault_wf _ _ _ _ ?_
    | with_reducible refine keep_wf (State.put_mem _ _ _ _) ?_
    | with_reducible refine keep_wf (State.putFlag_mem _ _ _ _) ?_
    | with_reducible refine State.setBank_wf _ _ _ _ ?_
    | with_reducible refine ite_wf' _ _ ?_ ?_
    | with_reducible refine foldl_wf _ _ _ ?_ ?_

@[simp] theorem State.marchRequest_wf (s : State) (d : Nat) (destructive : Bool) (banks : Nat) (spares : List (Nat × MarchFault)) (hw : Memory.wf s.mem = true) : Memory.wf (State.marchRequest s d destructive banks spares).mem = true := by
  unfold State.marchRequest
  repeat' first
    | with_reducible assumption
    | with_reducible refine State.marchBegin_wf _ _ _ ?_
    | with_reducible refine keep_wf (State.put_mem _ _ _ _) ?_
    | with_reducible refine keep_wf (State.putFlag_mem _ _ _ _) ?_
    | with_reducible refine ite_wf' _ _ ?_ ?_

@[simp] theorem State.marchEnd_mem (s : State) (d result : Nat) : (State.marchEnd s d result).mem = s.mem := by rfl

@[simp] theorem State.marchAbort_mem (s : State) (d : Nat) : (State.marchAbort s d).mem = s.mem := by
  unfold State.marchAbort
  repeat' first
    | with_reducible rfl
    | with_reducible refine Eq.trans (State.marchEnd_mem _ _ _) ?_
    | with_reducible refine ite_mem' _ _ ?_ ?_

@[simp] theorem State.marchFinish_wf (s : State) (d : Nat) (failed : List Nat) (hw : Memory.wf s.mem = true) : Memory.wf (State.marchFinish s d failed).mem = true := by
  unfold State.marchFinish
  repeat' first
    | with_reducible assumption
    | (intro a x hx)
    | with_reducible refine keep_wf (State.clrBit_mem _ _ _ _) ?_
    | with_reducible refine keep_wf (State.marchEnd_mem _ _ _) ?_
    | with_reducible refine keep_wf (State.setBit_mem _ _ _ _) ?_
    | with_reducible refine State.zeroBank_wf _ _ _ ?_
    | with_reducible refine ite_wf' _ _ ?_ ?_
    | with_reducible refine foldl_wf _ _ _ ?_ ?_

@[simp] theorem State.startupDie_wf (s : State) (d : Nat) (faults : List (Nat × MarchFault)) (hw : Memory.wf s.mem = true) : Memory.wf (State.startupDie s d faults).mem = true := by
  unfold State.startupDie
  repeat' first
    | with_reducible assumption
    | with_reducible refine keep_wf (State.clearDone_mem _ _) ?_
    | with_reducible refine State.marchBegin_wf _ _ _ ?_
    | with_reducible refine State.marchFinish_wf _ _ _ ?_
    | with_reducible refine keep_wf (State.put_mem _ _ _ _) ?_
    | with_reducible refine keep_wf (State.putFlag_mem _ _ _ _) ?_
    | with_reducible refine State.zeroVat_wf _ _ ?_

end Sys2Proof.Machine
end

