-- ==== Sys2Proof/Laws/KeepVatPwrOps.lean ====
section
/-! SUPPORT. What the functions of Machine/PwrOps do to the Vat: those that store nothing leave it, the others keep its form. -/

namespace Sys2Proof.Machine

@[simp] theorem State.modPwr_mem (s : State) (f : Pwr → Pwr) : (State.modPwr s f).mem = s.mem := by rfl

@[simp] theorem State.laceGroupOff_wf (s : State) (d q : Nat) (hw : Memory.wf s.mem = true) : Memory.wf (State.laceGroupOff s d q).mem = true := by
  unfold State.laceGroupOff
  repeat' first
    | with_reducible assumption
    | (intro a x hx)
    | with_reducible refine keep_wf (State.safePin_mem _ _ _) ?_
    | with_reducible refine State.setLce_wf _ _ _ _ ?_
    | with_reducible refine keep_wf (State.setLceState_mem _ _ _ _) ?_
    | with_reducible refine foldl_wf _ _ _ ?_ ?_

@[simp] theorem State.ttChannelOff_wf (s : State) (d ch : Nat) (hw : Memory.wf s.mem = true) : Memory.wf (State.ttChannelOff s d ch).mem = true := by
  unfold State.ttChannelOff
  repeat' first
    | with_reducible assumption
    | with_reducible refine State.modTt_wf _ _ _ ?_
    | with_reducible refine State.ttReleaseAll_wf _ _ ?_
    | with_reducible refine State.ttTo_wf _ _ _ ?_
    | with_reducible refine ite_wf' _ _ ?_ ?_

@[simp] theorem State.fenceEffects_wf (s : State) (d n : Nat) (hw : Memory.wf s.mem = true) : Memory.wf (State.fenceEffects s d n).mem = true := by
  unfold State.fenceEffects
  repeat' first
    | with_reducible assumption
    | (intro a x hx)
    | with_reducible refine State.dmaReset_wf _ _ _ ?_
    | with_reducible refine State.flushPort_wf _ _ _ ?_
    | with_reducible refine State.laceGroupOff_wf _ _ _ ?_
    | with_reducible refine State.linkDown_wf _ _ _ _ ?_
    | with_reducible refine keep_wf (State.mbxEmpty_mem _ _ _) ?_
    | with_reducible refine State.serFlush_wf _ _ _ ?_
    | with_reducible refine keep_wf (State.serTo_mem _ _ _ _) ?_
    | with_reducible refine State.ttChannelOff_wf _ _ _ ?_
    | with_reducible refine ite_wf' _ _ ?_ ?_
    | with_reducible refine foldl_wf _ _ _ ?_ ?_

@[simp] theorem State.fenceDom_wf (s : State) (d n : Nat) (hw : Memory.wf s.mem = true) : Memory.wf (State.fenceDom s d n).mem = true := by
  unfold State.fenceDom
  repeat' first
    | with_reducible assumption
    | (intro a x hx)
    | with_reducible refine State.clearOutput_wf _ _ _ ?_
    | with_reducible refine State.fenceEffects_wf _ _ _ ?_
    | with_reducible refine keep_wf (State.setDom_mem _ _ _ _) ?_
    | with_reducible refine ite_wf' _ _ ?_ ?_
    | with_reducible refine foldl_wf _ _ _ ?_ ?_

@[simp] theorem State.unready_mem (s : State) (us : List Nat) : (State.unready s us).mem = s.mem := by
  unfold State.unready
  repeat' first
    | with_reducible rfl
    | with_reducible refine Eq.trans (State.put_mem _ _ _ _) ?_
    | with_reducible refine ite_mem' _ _ ?_ ?_

@[simp] theorem State.clusterOff_wf (s : State) (d c : Nat) (hw : Memory.wf s.mem = true) : Memory.wf (State.clusterOff s d c).mem = true := by
  unfold State.clusterOff
  repeat' first
    | with_reducible assumption
    | (intro a x hx)
    | with_reducible refine keep_wf (State.clrBit_mem _ _ _ _) ?_
    | with_reducible refine keep_wf (State.countDrop_mem _ _ _ _) ?_
    | with_reducible refine State.discardTx_wf _ _ _ ?_
    | with_reducible refine State.freeFrame_wf _ _ ?_
    | with_reducible refine State.freeSlot_wf _ _ _ _ ?_
    | with_reducible refine State.loadBank_wf _ _ _ _ _ ?_
    | with_reducible refine keep_wf (State.modEng_mem _ _ _ _) ?_
    | with_reducible refine keep_wf (State.put_mem _ _ _ _) ?_
    | with_reducible refine keep_wf (State.putFlag_mem _ _ _ _) ?_
    | with_reducible refine State.setCl_wf _ _ _ _ ?_
    | with_reducible refine keep_wf (State.setEng_mem _ _ _ _) ?_
    | with_reducible refine keep_wf (State.spadZero_mem _ _ _ _ _) ?_
    | with_reducible refine ite_wf' _ _ ?_ ?_
    | with_reducible refine foldl_wf _ _ _ ?_ ?_

@[simp] theorem State.powerUp_mem (s : State) (d n : Nat) : (State.powerUp s d n).mem = s.mem := by
  unfold State.powerUp
  repeat' first
    | with_reducible rfl
    | with_reducible refine Eq.trans (State.modPwr_mem _ _) ?_
    | with_reducible refine Eq.trans (State.setDom_mem _ _ _ _) ?_
    | with_reducible refine ite_mem' _ _ ?_ ?_

@[simp] theorem State.domOff_wf (s : State) (d n : Nat) (hw : Memory.wf s.mem = true) : Memory.wf (State.domOff s d n).mem = true := by
  unfold State.domOff
  repeat' first
    | with_reducible assumption
    | (intro a x hx)
    | with_reducible refine State.clusterOff_wf _ _ _ ?_
    | with_reducible refine State.fenceUnits_wf _ _ ?_
    | with_reducible refine keep_wf (State.modPwr_mem _ _) ?_
    | with_reducible refine State.portReset_wf _ _ _ ?_
    | with_reducible refine keep_wf (State.powerUp_mem _ _ _) ?_
    | with_reducible refine keep_wf (State.put_mem _ _ _ _) ?_
    | with_reducible refine keep_wf (State.serTo_mem _ _ _ _) ?_
    | with_reducible refine keep_wf (State.setDom_mem _ _ _ _) ?_
    | with_reducible refine keep_wf (State.unready_mem _ _) ?_
    | with_reducible refine ite_wf' _ _ ?_ ?_
    | with_reducible refine foldl_wf _ _ _ ?_ ?_

@[simp] theorem State.holdSafe_wf (s : State) (d n : Nat) (hw : Memory.wf s.mem = true) : Memory.wf (State.holdSafe s d n).mem = true := by
  unfold State.holdSafe
  repeat' first
    | with_reducible assumption
    | (intro a x hx)
    | with_reducible refine keep_wf (State.putFlag_mem _ _ _ _) ?_
    | with_reducible refine keep_wf (State.setLceState_mem _ _ _ _) ?_
    | with_reducible refine State.ttTo_wf _ _ _ ?_
    | with_reducible refine ite_wf' _ _ ?_ ?_
    | with_reducible refine foldl_wf _ _ _ ?_ ?_

@[simp] theorem State.lateLoads_wf (s : State) (us : List Nat) (hw : Memory.wf s.mem = true) : Memory.wf (State.lateLoads s us).mem = true := by
  unfold State.lateLoads
  repeat' first
    | with_reducible assumption
    | (intro a x hx)
    | with_reducible refine State.lateUnit_wf _ _ ?_
    | with_reducible refine State.unitDone_wf _ _ ?_
    | with_reducible refine ite_wf' _ _ ?_ ?_
    | with_reducible refine foldl_wf _ _ _ ?_ ?_

@[simp] theorem State.domUp_wf (s : State) (d n : Nat) (hw : Memory.wf s.mem = true) : Memory.wf (State.domUp s d n).mem = true := by
  unfold State.domUp
  repeat' first
    | with_reducible assumption
    | (intro a x hx)
    | with_reducible refine State.autostart_wf _ _ ?_
    | with_reducible refine State.clusterReset_wf _ _ _ ?_
    | with_reducible refine State.holdSafe_wf _ _ _ ?_
    | with_reducible refine State.lateLoads_wf _ _ ?_
    | with_reducible refine State.lceLoad_wf _ _ _ _ ?_
    | with_reducible refine keep_wf (State.loadEthPort_mem _ _ _ _) ?_
    | with_reducible refine keep_wf (State.loadGates_mem _ _ _ _) ?_
    | with_reducible refine keep_wf (State.loadPcie_mem _ _ _) ?_
    | with_reducible refine keep_wf (State.loadSerPort_mem _ _ _ _) ?_
    | with_reducible refine keep_wf (State.loadTt_mem _ _ _) ?_
    | with_reducible refine keep_wf (State.modPwr_mem _ _) ?_
    | with_reducible refine keep_wf (State.setDom_mem _ _ _ _) ?_
    | with_reducible refine State.startSer_wf _ _ _ _ ?_
    | with_reducible refine State.ttTo_wf _ _ _ ?_
    | with_reducible refine keep_wf (State.unfenceUnits_mem _ _) ?_
    | with_reducible refine ite_wf' _ _ ?_ ?_
    | with_reducible refine foldl_wf _ _ _ ?_ ?_

@[simp] theorem State.planUp_mem (s : State) : (State.planUp s).mem = s.mem := by
  unfold State.planUp
  repeat' first
    | with_reducible rfl
    | intro _
    | with_reducible refine Eq.trans (State.eachDie_mem _ _ ?_) ?_
    | with_reducible refine Eq.trans (State.powerUp_mem _ _ _) ?_
    | with_reducible refine ite_mem' _ _ ?_ ?_
    | with_reducible refine Eq.trans (foldl_mem _ _ _ ?_) ?_

@[simp] theorem State.vcoreTo_wf (s : State) (code : Nat) (hw : Memory.wf s.mem = true) : Memory.wf (State.vcoreTo s code).mem = true := by
  unfold State.vcoreTo
  repeat' first
    | with_reducible assumption
    | with_reducible refine keep_wf (State.modPwr_mem _ _) ?_
    | with_reducible refine State.preRaise_wf _ _ ?_
    | with_reducible refine ite_wf' _ _ ?_ ?_

@[simp] theorem State.codeStep_mem (s : State) : (State.codeStep s).mem = s.mem := by
  unfold State.codeStep
  repeat' first
    | with_reducible rfl
    | with_reducible refine Eq.trans (State.put_mem _ _ _ _) ?_
    | with_reducible refine ite_mem' _ _ ?_ ?_

@[simp] theorem State.beginMove_mem (s : State) (target : Nat) (phase : PwrPhase) : (State.beginMove s target phase).mem = s.mem := by rfl

@[simp] theorem State.endMove_wf (s : State) (new : Nat) (rec : Bool) (hw : Memory.wf s.mem = true) : Memory.wf (State.endMove s new rec).mem = true := by
  unfold State.endMove
  repeat' first
    | with_reducible assumption
    | (intro a x hx)
    | with_reducible refine State.eachDie_wf _ _ ?_ ?_
    | with_reducible refine keep_wf (State.modPwr_mem _ _) ?_
    | with_reducible refine State.powRec_wf _ _ _ _ _ _ _ _ ?_
    | with_reducible refine keep_wf (State.put_mem _ _ _ _) ?_
    | with_reducible refine keep_wf (State.putFlag_mem _ _ _ _) ?_
    | with_reducible refine ite_wf' _ _ ?_ ?_

@[simp] theorem State.retainEntry_wf (s : State) (hw : Memory.wf s.mem = true) : Memory.wf (State.retainEntry s).mem = true := by
  unfold State.retainEntry
  repeat' first
    | with_reducible assumption
    | (intro a x hx)
    | with_reducible refine keep_wf (State.beginMove_mem _ _ _) ?_
    | with_reducible refine State.closeSegment_wf _ _ _ ?_
    | with_reducible refine State.domOff_wf _ _ _ ?_
    | with_reducible refine State.eachDie_wf _ _ ?_ ?_
    | with_reducible refine State.fenceDom_wf _ _ _ ?_
    | with_reducible refine State.powRec_wf _ _ _ _ _ _ _ _ ?_
    | with_reducible refine keep_wf (State.putFlag_mem _ _ _ _) ?_
    | with_reducible refine ite_wf' _ _ ?_ ?_
    | with_reducible refine foldl_wf _ _ _ ?_ ?_

@[simp] theorem State.offEntry_wf (s : State) (cycle : Bool) (hw : Memory.wf s.mem = true) : Memory.wf (State.offEntry s cycle).mem = true := by
  unfold State.offEntry
  repeat' first
    | with_reducible assumption
    | (intro a x hx)
    | with_reducible refine keep_wf (State.beginMove_mem _ _ _) ?_
    | with_reducible refine State.closeSegment_wf _ _ _ ?_
    | with_reducible refine State.domOff_wf _ _ _ ?_
    | with_reducible refine State.eachDie_wf _ _ ?_ ?_
    | with_reducible refine State.fenceDom_wf _ _ _ ?_
    | with_reducible refine keep_wf (State.modPwr_mem _ _) ?_
    | with_reducible refine State.powRec_wf _ _ _ _ _ _ _ _ ?_
    | with_reducible refine keep_wf (State.putFlag_mem _ _ _ _) ?_
    | with_reducible refine keep_wf (State.setDom_mem _ _ _ _) ?_
    | with_reducible refine ite_wf' _ _ ?_ ?_
    | with_reducible refine foldl_wf _ _ _ ?_ ?_

@[simp] theorem State.retainExit_wf (s : State) (hw : Memory.wf s.mem = true) : Memory.wf (State.retainExit s).mem = true := by
  unfold State.retainExit
  repeat' first
    | with_reducible assumption
    | with_reducible refine keep_wf (State.beginMove_mem _ _ _) ?_
    | with_reducible refine State.vcoreTo_wf _ _ ?_

@[simp] theorem State.powerAct_wf (s : State) (c : Nat) (hw : Memory.wf s.mem = true) : Memory.wf (State.powerAct s c).mem = true := by
  unfold State.powerAct
  repeat' first
    | with_reducible assumption
    | with_reducible refine keep_wf (State.beginMove_mem _ _ _) ?_
    | with_reducible refine State.offEntry_wf _ _ ?_
    | with_reducible refine keep_wf (State.putFlag_mem _ _ _ _) ?_
    | with_reducible refine State.retainEntry_wf _ ?_
    | with_reducible refine State.retainExit_wf _ ?_
    | with_reducible refine State.vcoreTo_wf _ _ ?_
    | with_reducible refine ite_wf' _ _ ?_ ?_

@[simp] theorem State.takeHeld_wf (s : State) (hw : Memory.wf s.mem = true) : Memory.wf (State.takeHeld s).mem = true := by
  unfold State.takeHeld
  repeat' first
    | with_reducible assumption
    | with_reducible refine keep_wf (State.modPwr_mem _ _) ?_
    | with_reducible refine State.powerAct_wf _ _ ?_
    | with_reducible refine keep_wf (State.putFlag_mem _ _ _ _) ?_
    | with_reducible refine State.retainExit_wf _ ?_
    | with_reducible refine ite_wf' _ _ ?_ ?_
    | split

@[simp] theorem State.hold_mem (s : State) (h : HeldCmd) : (State.hold s h).mem = s.mem := by rfl

@[simp] theorem State.powerCmd_wf (s : State) (c : Nat) (hw : Memory.wf s.mem = true) : Memory.wf (State.powerCmd s c).mem = true := by
  unfold State.powerCmd
  repeat' first
    | with_reducible assumption
    | with_reducible refine keep_wf (State.hold_mem _ _) ?_
    | with_reducible refine State.powerAct_wf _ _ ?_
    | with_reducible refine keep_wf (State.putFlag_mem _ _ _ _) ?_
    | with_reducible refine ite_wf' _ _ ?_ ?_

@[simp] theorem State.retainHold_wf (s : State) (hw : Memory.wf s.mem = true) : Memory.wf (State.retainHold s).mem = true := by
  unfold State.retainHold
  repeat' first
    | with_reducible assumption
    | (intro a x hx)
    | with_reducible refine State.eachDie_wf _ _ ?_ ?_
    | with_reducible refine keep_wf (State.marchAbort_mem _ _) ?_
    | with_reducible refine keep_wf (State.modPwr_mem _ _) ?_
    | with_reducible refine keep_wf (State.putFlag_mem _ _ _ _) ?_
    | with_reducible refine keep_wf (State.setDom_mem _ _ _ _) ?_
    | with_reducible refine State.vcoreTo_wf _ _ ?_
    | with_reducible refine foldl_wf _ _ _ ?_ ?_

@[simp] theorem State.retainDone_wf (s : State) (hw : Memory.wf s.mem = true) : Memory.wf (State.retainDone s).mem = true := by
  unfold State.retainDone
  repeat' first
    | with_reducible assumption
    | (intro a x hx)
    | with_reducible refine State.eachDie_wf _ _ ?_ ?_
    | with_reducible refine State.endMove_wf _ _ _ ?_
    | with_reducible refine State.markRec_wf _ _ _ _ ?_
    | with_reducible refine keep_wf (State.planUp_mem _) ?_
    | with_reducible refine keep_wf (State.putFlag_mem _ _ _ _) ?_
    | with_reducible refine State.setBank_wf _ _ _ _ ?_
    | with_reducible refine keep_wf (State.setDom_mem _ _ _ _) ?_
    | with_reducible refine keep_wf (State.setShaper_mem _ _ _ _) ?_
    | with_reducible refine ite_wf' _ _ ?_ ?_
    | with_reducible refine foldl_wf _ _ _ ?_ ?_

@[simp] theorem State.enterOffWake_mem (s : State) : (State.enterOffWake s).mem = s.mem := by rfl

@[simp] theorem State.powerAdvance_wf (s : State) (hw : Memory.wf s.mem = true) : Memory.wf (State.powerAdvance s).mem = true := by
  unfold State.powerAdvance
  repeat' first
    | with_reducible assumption
    | with_reducible refine keep_wf (State.enterOffWake_mem _) ?_
    | with_reducible refine State.retainHold_wf _ ?_
    | with_reducible refine ite_wf' _ _ ?_ ?_
    | split

@[simp] theorem State.vcoreReached_wf (s : State) (hw : Memory.wf s.mem = true) : Memory.wf (State.vcoreReached s).mem = true := by
  unfold State.vcoreReached
  repeat' first
    | with_reducible assumption
    | with_reducible refine State.endMove_wf _ _ _ ?_
    | with_reducible refine State.retainDone_wf _ ?_
    | with_reducible refine State.takeHeld_wf _ ?_
    | split

@[simp] theorem State.vcoreNext_wf (s : State) (hw : Memory.wf s.mem = true) : Memory.wf (State.vcoreNext s).mem = true := by
  unfold State.vcoreNext
  repeat' first
    | with_reducible assumption
    | with_reducible refine keep_wf (State.codeStep_mem _) ?_
    | with_reducible refine State.vcoreReached_wf _ ?_
    | with_reducible refine ite_wf' _ _ ?_ ?_

@[simp] theorem State.retarget_wf (s : State) (hw : Memory.wf s.mem = true) : Memory.wf (State.retarget s).mem = true := by
  unfold State.retarget
  repeat' first
    | with_reducible assumption
    | with_reducible refine State.vcoreTo_wf _ _ ?_
    | with_reducible refine ite_wf' _ _ ?_ ?_
    | split

@[simp] theorem State.applyPower_wf (s : State) (c : HarnessCfg) (boot : Bool) (hw : Memory.wf s.mem = true) : Memory.wf (State.applyPower s c boot).mem = true := by
  unfold State.applyPower
  repeat' first
    | with_reducible assumption
    | (intro a x hx)
    | with_reducible refine State.eachDie_wf _ _ ?_ ?_
    | with_reducible refine keep_wf (State.put_mem _ _ _ _) ?_
    | with_reducible refine keep_wf (State.puts_mem _ _ _) ?_
    | with_reducible refine State.retarget_wf _ ?_
    | with_reducible refine ite_wf' _ _ ?_ ?_
    | with_reducible refine foldl_wf _ _ _ ?_ ?_

end Sys2Proof.Machine
end

