-- ==== Sys2Proof/Laws/KeepVatReinOps.lean ====
section
/-! SUPPORT. What the functions of Machine/ReinOps do to the Vat: those that store nothing leave it, the others keep its form. -/

namespace Sys2Proof.Machine

@[simp] theorem State.setRein_mem (s : State) (r : ReinSt) : (State.setRein s r).mem = s.mem := by rfl

@[simp] theorem State.reinPut_mem (s : State) (up : Bool) (m : ReinMsg) : (State.reinPut s up m).mem = s.mem := by rfl

@[simp] theorem State.mgmtEnd_mem (s : State) (result : Nat) : (State.mgmtEnd s result).mem = s.mem := by rfl

@[simp] theorem State.mirrorLost_mem (s : State) : (State.mirrorLost s).mem = s.mem := by rfl

@[simp] theorem State.reinLost_mem (s : State) (m : ReinMsg) : (State.reinLost s m).mem = s.mem := by
  unfold State.reinLost
  repeat' first
    | with_reducible rfl
    | with_reducible refine Eq.trans (State.mgmtEnd_mem _ _) ?_
    | with_reducible refine Eq.trans (State.mirrorLost_mem _) ?_
    | with_reducible refine Eq.trans (State.reinPut_mem _ _ _) ?_
    | with_reducible refine ite_mem' _ _ ?_ ?_

@[simp] theorem State.reinSend_mem (s : State) (up : Bool) (m : ReinMsg) : (State.reinSend s up m).mem = s.mem := by
  unfold State.reinSend
  repeat' first
    | with_reducible rfl
    | with_reducible refine Eq.trans (State.reinLost_mem _ _) ?_
    | with_reducible refine Eq.trans (State.reinPut_mem _ _ _) ?_
    | with_reducible refine ite_mem' _ _ ?_ ?_

@[simp] theorem State.reinRoute_mem (s : State) (m : ReinMsg) : (State.reinRoute s m).mem = s.mem := by
  unfold State.reinRoute
  repeat' first
    | with_reducible rfl
    | with_reducible refine Eq.trans (State.reinSend_mem _ _ _) ?_
    | with_reducible refine ite_mem' _ _ ?_ ?_

@[simp] theorem State.sendEnum_mem (s : State) : (State.sendEnum s).mem = s.mem := by
  unfold State.sendEnum
  repeat' first
    | with_reducible rfl
    | with_reducible refine Eq.trans (State.reinPut_mem _ _ _) ?_
    | with_reducible refine ite_mem' _ _ ?_ ?_

@[simp] theorem State.setAddr_mem (s : State) (a : Nat) : (State.setAddr s a).mem = s.mem := by
  unfold State.setAddr
  repeat' first
    | with_reducible rfl
    | intro _
    | with_reducible refine Eq.trans (State.eachDie_mem _ _ ?_) ?_
    | with_reducible refine Eq.trans (State.put_mem _ _ _ _) ?_

@[simp] theorem State.latchAddr_mem (s : State) (a : Nat) : (State.latchAddr s a).mem = s.mem := by
  unfold State.latchAddr
  repeat' first
    | with_reducible rfl
    | with_reducible refine Eq.trans (State.putFlag_mem _ _ _ _) ?_
    | with_reducible refine Eq.trans (State.sendEnum_mem _) ?_
    | with_reducible refine Eq.trans (State.setAddr_mem _ _) ?_

@[simp] theorem State.enumRx_mem (s : State) (a : Nat) : (State.enumRx s a).mem = s.mem := by
  unfold State.enumRx
  repeat' first
    | with_reducible rfl
    | with_reducible refine Eq.trans (State.latchAddr_mem _ _) ?_
    | with_reducible refine Eq.trans (State.putFlag_mem _ _ _ _) ?_
    | with_reducible refine ite_mem' _ _ ?_ ?_

@[simp] theorem State.reinClear_mem (s : State) : (State.reinClear s).mem = s.mem := by
  unfold State.reinClear
  repeat' first
    | with_reducible rfl
    | with_reducible refine Eq.trans (State.latchAddr_mem _ _) ?_
    | with_reducible refine Eq.trans (State.putFlag_mem _ _ _ _) ?_
    | with_reducible refine Eq.trans (State.setAddr_mem _ _) ?_
    | with_reducible refine ite_mem' _ _ ?_ ?_

@[simp] theorem State.reinResetNow_mem (s : State) : (State.reinResetNow s).mem = s.mem := by
  unfold State.reinResetNow
  repeat' first
    | with_reducible rfl
    | with_reducible refine Eq.trans (State.reinClear_mem _) ?_
    | with_reducible refine Eq.trans (State.reinPut_mem _ _ _) ?_
    | with_reducible refine ite_mem' _ _ ?_ ?_

@[simp] theorem State.linkFault_wf (s : State) (d u : Nat) (new : Bool := false) (hw : Memory.wf s.mem = true) : Memory.wf (State.linkFault s d u new).mem = true := by
  unfold State.linkFault
  repeat' first
    | with_reducible assumption
    | with_reducible refine State.condFault_wf _ _ _ _ _ ?_
    | with_reducible refine State.latchFault_wf _ _ _ _ ?_
    | with_reducible refine ite_wf' _ _ ?_ ?_

@[simp] theorem State.reinSources_mem (s : State) (ok : Bool) : (State.reinSources s ok).mem = s.mem := by
  unfold State.reinSources
  repeat' first
    | with_reducible rfl
    | intro _
    | with_reducible refine Eq.trans (State.setSource_mem _ _ _) ?_
    | with_reducible refine ite_mem' _ _ ?_ ?_
    | with_reducible refine Eq.trans (foldl_mem _ _ _ ?_) ?_

@[simp] theorem State.reinLink_wf (s : State) (up : Bool) (hw : Memory.wf s.mem = true) : Memory.wf (State.reinLink s up).mem = true := by
  unfold State.reinLink
  repeat' first
    | with_reducible assumption
    | with_reducible refine State.linkFault_wf _ _ _ _ ?_
    | with_reducible refine keep_wf (State.putFlag_mem _ _ _ _) ?_
    | with_reducible refine keep_wf (State.reinSources_mem _ _) ?_
    | with_reducible refine keep_wf (State.sendEnum_mem _) ?_
    | with_reducible refine keep_wf (State.setRein_mem _ _) ?_
    | with_reducible refine ite_wf' _ _ ?_ ?_

@[simp] theorem State.reinBroken_wf (s : State) (up : Bool) (hw : Memory.wf s.mem = true) : Memory.wf (State.reinBroken s up).mem = true := by
  unfold State.reinBroken
  repeat' first
    | with_reducible assumption
    | (intro a x hx)
    | with_reducible refine State.linkFault_wf _ _ _ _ ?_
    | with_reducible refine keep_wf (State.mirrorLost_mem _) ?_
    | with_reducible refine keep_wf (State.putFlag_mem _ _ _ _) ?_
    | with_reducible refine keep_wf (State.reinSources_mem _ _) ?_
    | with_reducible refine keep_wf (State.setRein_mem _ _) ?_
    | with_reducible refine ite_wf' _ _ ?_ ?_
    | with_reducible refine foldl_wf _ _ _ ?_ ?_

@[simp] theorem State.sendStatus_mem (s : State) (up : Bool) : (State.sendStatus s up).mem = s.mem := by
  unfold State.sendStatus
  repeat' first
    | with_reducible rfl
    | with_reducible refine Eq.trans (State.reinPut_mem _ _ _) ?_
    | with_reducible refine ite_mem' _ _ ?_ ?_

@[simp] theorem State.statusRx_mem (s : State) (up : Bool) (x : Nat) : (State.statusRx s up x).mem = s.mem := by
  unfold State.statusRx
  repeat' first
    | with_reducible rfl
    | with_reducible refine Eq.trans (State.putFlag_mem _ _ _ _) ?_
    | with_reducible refine Eq.trans (State.syncTime_mem _) ?_
    | with_reducible refine ite_mem' _ _ ?_ ?_

@[simp] theorem State.sendSync_mem (s : State) : (State.sendSync s).mem = s.mem := by
  unfold State.sendSync
  repeat' first
    | with_reducible rfl
    | with_reducible refine Eq.trans (State.reinPut_mem _ _ _) ?_
    | with_reducible refine Eq.trans (State.setRein_mem _ _) ?_
    | with_reducible refine ite_mem' _ _ ?_ ?_

@[simp] theorem State.syncRx_mem (s : State) (up : Bool) : (State.syncRx s up).mem = s.mem := by
  unfold State.syncRx
  repeat' first
    | with_reducible rfl
    | with_reducible refine Eq.trans (State.reinPut_mem _ _ _) ?_
    | with_reducible refine ite_mem' _ _ ?_ ?_

@[simp] theorem State.wholeNs_mem (s : State) (ps : Int) : (State.wholeNs s ps).2.mem = s.mem := by
  unfold State.wholeNs
  repeat' first
    | with_reducible rfl
    | with_reducible refine Eq.trans (State.freeVal_mem _ _) ?_
    | dsimp only
    | split

@[simp] theorem State.respRx_wf (s : State) (up : Bool) (t2 t3 : Nat) (hw : Memory.wf s.mem = true) : Memory.wf (State.respRx s up t2 t3).mem = true := by
  unfold State.respRx
  repeat' first
    | with_reducible assumption
    | with_reducible refine State.measure_wf _ _ _ ?_
    | with_reducible refine keep_wf (State.put_mem _ _ _ _) ?_
    | with_reducible refine keep_wf (State.setRein_mem _ _) ?_
    | with_reducible refine keep_wf (State.wholeNs_mem _ _) ?_
    | dsimp only
    | split

@[simp] theorem State.mgmtStart_mem (s : State) : (State.mgmtStart s).mem = s.mem := by
  unfold State.mgmtStart
  repeat' first
    | with_reducible rfl
    | with_reducible refine Eq.trans (State.mgmtEnd_mem _ _) ?_
    | with_reducible refine Eq.trans (State.put_mem _ _ _ _) ?_
    | with_reducible refine Eq.trans (State.putFlag_mem _ _ _ _) ?_
    | with_reducible refine Eq.trans (State.reinRoute_mem _ _) ?_
    | with_reducible refine Eq.trans (State.setRein_mem _ _) ?_
    | with_reducible refine ite_mem' _ _ ?_ ?_

@[simp] theorem State.mgmtAnswer_mem (s : State) (src result data : Nat) : (State.mgmtAnswer s src result data).mem = s.mem := by
  unfold State.mgmtAnswer
  repeat' first
    | with_reducible rfl
    | with_reducible refine Eq.trans (State.mgmtEnd_mem _ _) ?_
    | with_reducible refine Eq.trans (State.put_mem _ _ _ _) ?_
    | with_reducible refine ite_mem' _ _ ?_ ?_

@[simp] theorem State.mgmtReply_mem (s : State) (src result data : Nat) : (State.mgmtReply s src result data).mem = s.mem := by
  unfold State.mgmtReply
  repeat' first
    | with_reducible rfl
    | with_reducible refine Eq.trans (State.mgmtAnswer_mem _ _ _ _) ?_
    | with_reducible refine Eq.trans (State.reinRoute_mem _ _) ?_
    | with_reducible refine ite_mem' _ _ ?_ ?_

@[simp] theorem State.mirrorDrain_mem (s : State) : (State.mirrorDrain s).mem = s.mem := by
  unfold State.mirrorDrain
  repeat' first
    | with_reducible rfl
    | with_reducible refine Eq.trans (State.count_mem _ _ _ _) ?_
    | with_reducible refine Eq.trans (State.mirrorLost_mem _) ?_
    | with_reducible refine Eq.trans (State.reinPut_mem _ _ _) ?_
    | with_reducible refine ite_mem' _ _ ?_ ?_
    | dsimp only
    | split

@[simp] theorem State.refuseMirror_mem (s : State) (d reason dpi : Nat) : (State.refuseMirror s d reason dpi).mem = s.mem := by
  unfold State.refuseMirror
  repeat' first
    | with_reducible rfl
    | with_reducible refine Eq.trans (State.freeVal_mem _ _) ?_
    | with_reducible refine Eq.trans (State.refuseCommit_mem _ _ _ _ _ _) ?_

@[simp] theorem State.mirrorRx_wf (s : State) (src dpi type : Nat) (bytes : List Byte) (hw : Memory.wf s.mem = true) : Memory.wf (State.mirrorRx s src dpi type bytes).mem = true := by
  unfold State.mirrorRx
  repeat' first
    | with_reducible assumption
    | with_reducible refine keep_wf (State.count_mem _ _ _ _) ?_
    | with_reducible refine State.prevRec_wf _ _ _ ?_
    | with_reducible refine State.readDesc_wf _ _ _ _ ?_
    | with_reducible refine State.readRec_wf _ _ _ _ ?_
    | with_reducible refine keep_wf (State.refuseMirror_mem _ _ _ _) ?_
    | with_reducible refine State.updateRec_wf _ _ _ _ _ ?_
    | with_reducible refine ite_wf' _ _ ?_ ?_
    | dsimp only
    | split

@[simp] theorem State.idle_mem (s : State) : (State.idle s).mem = s.mem := by
  unfold State.idle
  repeat' first
    | with_reducible rfl
    | with_reducible refine Eq.trans (State.mirrorDrain_mem _) ?_
    | with_reducible refine Eq.trans (State.tick_mem _) ?_
    | with_reducible refine ite_mem' _ _ ?_ ?_

@[simp] theorem State.setWelt_wf (s : State) (d k : Nat) (e : WeltEnd) (hw : Memory.wf s.mem = true) : Memory.wf (State.setWelt s d k e).mem = true := by
  unfold State.setWelt
  repeat' first
    | with_reducible assumption

@[simp] theorem State.weltTo_mem (s : State) (d k st : Nat) : (State.weltTo s d k st).mem = s.mem := by
  unfold State.weltTo
  repeat' first
    | with_reducible rfl
    | with_reducible refine Eq.trans (State.clrBit_mem _ _ _ _) ?_
    | with_reducible refine Eq.trans (State.put_mem _ _ _ _) ?_
    | with_reducible refine Eq.trans (State.setBit_mem _ _ _ _) ?_
    | with_reducible refine ite_mem' _ _ ?_ ?_

@[simp] theorem State.bothEnds_mem (s : State) (d k : Nat) (f : State → Nat → State) (h : ∀ a x, (f a x).mem = a.mem) :
    (s.bothEnds d k f).mem = s.mem := by simp (maxDischargeDepth := 40) [State.bothEnds, h]

@[simp] theorem State.bothEnds_wf (s : State) (d k : Nat) (f : State → Nat → State) (h : ∀ a x, Memory.wf a.mem = true → Memory.wf (f a x).mem = true)
    (hw : Memory.wf s.mem = true) : Memory.wf (s.bothEnds d k f).mem = true := by
  unfold State.bothEnds; exact h _ _ (h _ _ hw)

@[simp] theorem State.weltIsUp_wf (s : State) (d k : Nat) (hw : Memory.wf s.mem = true) : Memory.wf (State.weltIsUp s d k).mem = true := by
  unfold State.weltIsUp
  repeat' first
    | with_reducible assumption
    | (intro a x hx)
    | with_reducible refine State.bothEnds_wf _ _ _ _ ?_ ?_
    | with_reducible refine State.linkFault_wf _ _ _ _ ?_
    | with_reducible refine keep_wf (State.putFlag_mem _ _ _ _) ?_
    | with_reducible refine State.setWelt_wf _ _ _ _ ?_
    | with_reducible refine keep_wf (State.weltTo_mem _ _ _ _) ?_

@[simp] theorem State.weltIsDown_wf (s : State) (d k : Nat) (hw : Memory.wf s.mem = true) : Memory.wf (State.weltIsDown s d k).mem = true := by
  unfold State.weltIsDown
  repeat' first
    | with_reducible assumption
    | (intro a x hx)
    | with_reducible refine State.bothEnds_wf _ _ _ _ ?_ ?_
    | with_reducible refine State.linkFault_wf _ _ _ _ ?_
    | with_reducible refine keep_wf (State.putFlag_mem _ _ _ _) ?_
    | with_reducible refine keep_wf (State.weltTo_mem _ _ _ _) ?_

@[simp] theorem State.weltTrain_wf (s : State) (hw : Memory.wf s.mem = true) : Memory.wf (State.weltTrain s).mem = true := by
  unfold State.weltTrain
  repeat' first
    | with_reducible assumption
    | (intro a x hx)
    | with_reducible refine State.eachDie_wf _ _ ?_ ?_
    | with_reducible refine State.linkFault_wf _ _ _ _ ?_
    | with_reducible refine State.setWelt_wf _ _ _ _ ?_
    | with_reducible refine keep_wf (State.weltTo_mem _ _ _ _) ?_
    | with_reducible refine ite_wf' _ _ ?_ ?_
    | with_reducible refine foldl_wf _ _ _ ?_ ?_

end Sys2Proof.Machine
end

