-- ==== Sys2Proof/Laws/KeepVatHarOps.lean ====
section
/-! SUPPORT. What the functions of Machine/HarOps do to the Vat: those that store nothing leave it, the others keep its form. -/

namespace Sys2Proof.Machine

@[simp] theorem State.harTo_mem (s : State) (st : Nat) : (State.harTo s st).mem = s.mem := by rfl

@[simp] theorem State.harErr_mem (s : State) (f : VFail) : (State.harErr s f).mem = s.mem := by rfl

@[simp] theorem State.harRefuse_wf (s : State) (code : Nat) (hw : Memory.wf s.mem = true) : Memory.wf (State.harRefuse s code).mem = true := by
  unfold State.harRefuse
  repeat' first
    | with_reducible assumption
    | with_reducible refine keep_wf (State.harErr_mem _ _) ?_
    | with_reducible refine keep_wf (State.putFlag_mem _ _ _ _) ?_

@[simp] theorem State.harBusy_wf (s : State) (hw : Memory.wf s.mem = true) : Memory.wf (State.harBusy s).mem = true := by
  unfold State.harBusy
  repeat' first
    | with_reducible assumption
    | with_reducible refine State.harRefuse_wf _ _ ?_

@[simp] theorem State.modHar_mem (s : State) (f : Har → Har) : (State.modHar s f).mem = s.mem := by rfl

@[simp] theorem State.setReady_mem (s : State) (us : List Nat) : (State.setReady s us).mem = s.mem := by rfl

@[simp] theorem State.dropStaged_mem (s : State) : (State.dropStaged s).mem = s.mem := by
  unfold State.dropStaged
  repeat' first
    | with_reducible rfl
    | intro _
    | with_reducible refine Eq.trans (State.eachDie_mem _ _ ?_) ?_
    | with_reducible refine Eq.trans (State.modHar_mem _ _) ?_
    | with_reducible refine Eq.trans (State.putFlag_mem _ _ _ _) ?_
    | with_reducible refine Eq.trans (State.puts_mem _ _ _) ?_

@[simp] theorem State.stage_mem (s : State) (i : Image) (src : Nat) : (State.stage s i src).mem = s.mem := by
  unfold State.stage
  repeat' first
    | with_reducible rfl
    | intro _
    | with_reducible refine Eq.trans (State.eachDie_mem _ _ ?_) ?_
    | with_reducible refine Eq.trans (State.harTo_mem _ _) ?_
    | with_reducible refine Eq.trans (State.modHar_mem _ _) ?_
    | with_reducible refine Eq.trans (State.putFlag_mem _ _ _ _) ?_
    | with_reducible refine Eq.trans (State.puts_mem _ _ _) ?_
    | with_reducible refine Eq.trans (State.storeWrite_mem _ _) ?_

@[simp] theorem State.applySections_wf (s : State) (i : Image) (hw : Memory.wf s.mem = true) : Memory.wf (State.applySections s i).mem = true := by
  unfold State.applySections
  repeat' first
    | with_reducible assumption
    | (intro a x hx)
    | with_reducible refine keep_wf (State.applyCalibration_mem _ _) ?_
    | with_reducible refine State.applyDatapoints_wf _ _ _ ?_
    | with_reducible refine keep_wf (State.applyPlacement_mem _ _ _) ?_
    | with_reducible refine State.applyPower_wf _ _ _ ?_
    | with_reducible refine State.applyRecorder_wf _ _ _ ?_
    | with_reducible refine keep_wf (State.applyRegions_mem _ _ _) ?_
    | with_reducible refine keep_wf (State.applyShapers_mem _ _ _ _) ?_
    | with_reducible refine keep_wf (State.applySwitch_mem _ _) ?_
    | with_reducible refine State.applyTenants_wf _ _ _ ?_
    | with_reducible refine State.applyTime_wf _ _ _ ?_
    | with_reducible refine State.copyBlocks_wf _ _ _ ?_
    | with_reducible refine State.eachDie_wf _ _ ?_ ?_
    | with_reducible refine keep_wf (State.lcePinCfg_mem _ _ _) ?_
    | with_reducible refine keep_wf (State.loadPads_mem _ _ _) ?_
    | with_reducible refine keep_wf (State.loadPcie_mem _ _ _) ?_

@[simp] theorem State.imageCond_wf (s : State) (i : Image) (hw : Memory.wf s.mem = true) : Memory.wf (State.imageCond s i).mem = true := by
  unfold State.imageCond
  repeat' first
    | with_reducible assumption
    | with_reducible refine State.breakCond_wf _ _ ?_
    | with_reducible refine ite_wf' _ _ ?_ ?_
    | dsimp only
    | split

@[simp] theorem State.applyImage_wf (s : State) (i : Image) (src : Nat) (hw : Memory.wf s.mem = true) : Memory.wf (State.applyImage s i src).mem = true := by
  unfold State.applyImage
  repeat' first
    | with_reducible assumption
    | (intro a x hx)
    | with_reducible refine State.applySections_wf _ _ ?_
    | with_reducible refine keep_wf (State.count_mem _ _ _ _) ?_
    | with_reducible refine State.eachDie_wf _ _ ?_ ?_
    | with_reducible refine keep_wf (State.harTo_mem _ _) ?_
    | with_reducible refine State.imageCond_wf _ _ ?_
    | with_reducible refine keep_wf (State.modHar_mem _ _) ?_
    | with_reducible refine keep_wf (State.planUp_mem _) ?_
    | with_reducible refine keep_wf (State.putFlag_mem _ _ _ _) ?_
    | with_reducible refine keep_wf (State.puts_mem _ _ _) ?_
    | with_reducible refine State.retarget_wf _ ?_

@[simp] theorem State.loadStart_mem (s : State) (src : LoadSrc) : (State.loadStart s src).mem = s.mem := by
  unfold State.loadStart
  repeat' first
    | with_reducible rfl
    | with_reducible refine Eq.trans (State.dropStaged_mem _) ?_
    | with_reducible refine Eq.trans (State.harTo_mem _ _) ?_
    | with_reducible refine Eq.trans (State.modHar_mem _ _) ?_
    | with_reducible refine ite_mem' _ _ ?_ ?_

@[simp] theorem State.loadRefused_wf (s : State) (f : VFail) (id : Nat) (hw : Memory.wf s.mem = true) : Memory.wf (State.loadRefused s f id).mem = true := by
  unfold State.loadRefused
  repeat' first
    | with_reducible assumption
    | with_reducible refine keep_wf (State.harErr_mem _ _) ?_
    | with_reducible refine State.harRecord_wf _ _ _ _ _ _ _ _ _ _ _ ?_
    | with_reducible refine keep_wf (State.harTo_mem _ _) ?_
    | with_reducible refine keep_wf (State.modHar_mem _ _) ?_
    | with_reducible refine keep_wf (State.putFlag_mem _ _ _ _) ?_

@[simp] theorem State.loadArrived_wf (s : State) (i : Image) (src : Nat) (hw : Memory.wf s.mem = true) : Memory.wf (State.loadArrived s i src).mem = true := by
  unfold State.loadArrived
  repeat' first
    | with_reducible assumption
    | with_reducible refine State.applyImage_wf _ _ _ ?_
    | with_reducible refine keep_wf (State.count_mem _ _ _ _) ?_
    | with_reducible refine State.loadRefused_wf _ _ _ ?_
    | with_reducible refine keep_wf (State.modHar_mem _ _) ?_
    | with_reducible refine keep_wf (State.putFlag_mem _ _ _ _) ?_
    | with_reducible refine keep_wf (State.stage_mem _ _ _) ?_
    | with_reducible refine keep_wf (State.storeWrite_mem _ _) ?_
    | with_reducible refine ite_wf' _ _ ?_ ?_
    | dsimp only
    | split

@[simp] theorem State.harAborted_wf (s : State) (code count first : Nat) (hw : Memory.wf s.mem = true) : Memory.wf (State.harAborted s code count first).mem = true := by
  unfold State.harAborted
  repeat' first
    | with_reducible assumption
    | (intro a x hx)
    | with_reducible refine keep_wf (State.count_mem _ _ _ _) ?_
    | with_reducible refine State.eachDie_wf _ _ ?_ ?_
    | with_reducible refine keep_wf (State.harErr_mem _ _) ?_
    | with_reducible refine State.harRecord_wf _ _ _ _ _ _ _ _ _ _ _ ?_
    | with_reducible refine keep_wf (State.harTo_mem _ _) ?_
    | with_reducible refine keep_wf (State.modHar_mem _ _) ?_
    | with_reducible refine keep_wf (State.put_mem _ _ _ _) ?_
    | with_reducible refine keep_wf (State.putFlag_mem _ _ _ _) ?_
    | with_reducible refine keep_wf (State.setReady_mem _ _) ?_
    | with_reducible refine foldl_wf _ _ _ ?_ ?_

@[simp] theorem State.resetAbort_wf (s : State) (hw : Memory.wf s.mem = true) : Memory.wf (State.resetAbort s).mem = true := by
  unfold State.resetAbort
  repeat' first
    | with_reducible assumption
    | with_reducible refine State.harAborted_wf _ _ _ _ ?_
    | with_reducible refine ite_wf' _ _ ?_ ?_

@[simp] theorem State.checkPrepared_mem (s : State) : (State.checkPrepared s).mem = s.mem := by
  unfold State.checkPrepared
  repeat' first
    | with_reducible rfl
    | with_reducible refine Eq.trans (State.harTo_mem _ _) ?_
    | with_reducible refine Eq.trans (State.putFlag_mem _ _ _ _) ?_
    | with_reducible refine ite_mem' _ _ ?_ ?_

@[simp] theorem State.prepare_mem (s : State) : (State.prepare s).mem = s.mem := by
  unfold State.prepare
  repeat' first
    | with_reducible rfl
    | with_reducible refine Eq.trans (State.checkPrepared_mem _) ?_
    | with_reducible refine Eq.trans (State.harTo_mem _ _) ?_
    | with_reducible refine Eq.trans (State.put_mem _ _ _ _) ?_
    | with_reducible refine Eq.trans (State.setReady_mem _ _) ?_

@[simp] theorem State.shadowCluster_wf (s : State) (c : HarnessCfg) (d k : Nat) (x : State) (h : s.shadowCluster c d k = some x) (hw : Memory.wf s.mem = true) : Memory.wf x.mem = true := by
  unfold State.shadowCluster at h; (try dsimp only at h)
  repeat' split at h
  all_goals try contradiction
  all_goals cases h
  all_goals
    repeat' first
      | with_reducible assumption
      | with_reducible refine State.copyBlock_wf _ _ _ ?_
      | with_reducible refine keep_wf (State.putFlag_mem _ _ _ _) ?_
      | with_reducible refine State.writePack_wf _ _ _ _ _ ?_

@[simp] theorem State.shadowReady_wf (s : State) (u : Nat) (hw : Memory.wf s.mem = true) : Memory.wf (State.shadowReady s u).mem = true := by
  unfold State.shadowReady
  repeat' first
    | with_reducible assumption
    | with_reducible refine keep_wf (State.checkPrepared_mem _) ?_
    | with_reducible refine keep_wf (State.setReady_mem _ _) ?_
    | with_reducible refine State.shadowCluster_wf _ _ _ _ _ (by with_reducible assumption) ?_
    | with_reducible refine ite_wf' _ _ ?_ ?_
    | split

@[simp] theorem State.switchEth_wf (s : State) (d p : Nat) (hw : Memory.wf s.mem = true) : Memory.wf (State.switchEth s d p).mem = true := by
  unfold State.switchEth
  repeat' first
    | with_reducible assumption
    | with_reducible refine State.linkDown_wf _ _ _ _ ?_
    | with_reducible refine keep_wf (State.loadEthPort_mem _ _ _ _) ?_
    | with_reducible refine keep_wf (State.loadGates_mem _ _ _ _) ?_
    | with_reducible refine ite_wf' _ _ ?_ ?_

@[simp] theorem State.switchSer_wf (s : State) (old : HarnessCfg) (d p : Nat) (hw : Memory.wf s.mem = true) : Memory.wf (State.switchSer s old d p).mem = true := by
  unfold State.switchSer
  repeat' first
    | with_reducible assumption
    | (intro a x hx)
    | with_reducible refine keep_wf (State.loadSerRegs_mem _ _ _ _) ?_
    | with_reducible refine State.serDrop_wf _ _ _ _ _ ?_
    | with_reducible refine State.serFlush_wf _ _ _ ?_
    | with_reducible refine State.startSer_wf _ _ _ _ ?_
    | with_reducible refine ite_wf' _ _ ?_ ?_
    | with_reducible refine foldl_wf _ _ _ ?_ ?_

@[simp] theorem State.switchTt_wf (s : State) (old : HarnessCfg) (d : Nat) (hw : Memory.wf s.mem = true) : Memory.wf (State.switchTt s old d).mem = true := by
  unfold State.switchTt
  repeat' first
    | with_reducible assumption
    | (intro a x hx)
    | with_reducible refine State.emptyBuf_wf _ _ _ ?_
    | with_reducible refine keep_wf (State.loadTt_mem _ _ _) ?_
    | with_reducible refine keep_wf (State.putFlag_mem _ _ _ _) ?_
    | with_reducible refine State.ttListen_wf _ _ ?_
    | with_reducible refine State.ttReleaseAll_wf _ _ ?_
    | with_reducible refine State.ttTo_wf _ _ _ ?_
    | with_reducible refine ite_wf' _ _ ?_ ?_
    | with_reducible refine foldl_wf _ _ _ ?_ ?_

@[simp] theorem State.switchLace_wf (s : State) (d e : Nat) (hw : Memory.wf s.mem = true) : Memory.wf (State.switchLace s d e).mem = true := by
  unfold State.switchLace
  repeat' first
    | with_reducible assumption
    | with_reducible refine State.lceLoad_wf _ _ _ _ ?_
    | with_reducible refine keep_wf (State.lcePinSome_mem _ _ _ _) ?_
    | with_reducible refine keep_wf (State.setLceState_mem _ _ _ _) ?_
    | with_reducible refine ite_wf' _ _ ?_ ?_

@[simp] theorem State.switchUnit_wf (s : State) (u : Nat) (hw : Memory.wf s.mem = true) : Memory.wf (State.switchUnit s u).mem = true := by
  unfold State.switchUnit
  repeat' first
    | with_reducible assumption
    | with_reducible refine State.autostart_wf _ _ ?_
    | with_reducible refine State.clusterSwitched_wf _ _ _ ?_
    | with_reducible refine State.engineSwitch_wf _ _ _ ?_
    | with_reducible refine State.rebindDma_wf _ _ _ _ _ ?_
    | with_reducible refine State.switchEth_wf _ _ _ ?_
    | with_reducible refine State.switchLace_wf _ _ _ ?_
    | with_reducible refine State.switchSer_wf _ _ _ _ ?_
    | with_reducible refine State.switchTt_wf _ _ _ ?_
    | with_reducible refine State.unitDone_wf _ _ ?_
    | dsimp only
    | split

@[simp] theorem State.rechannel_wf (s : State) (old c : HarnessCfg) (d : Nat) (hw : Memory.wf s.mem = true) : Memory.wf (State.rechannel s old c d).mem = true := by
  unfold State.rechannel
  repeat' first
    | with_reducible assumption
    | (intro a x hx)
    | with_reducible refine keep_wf (State.putFlag_mem _ _ _ _) ?_
    | with_reducible refine keep_wf (State.puts_mem _ _ _) ?_
    | with_reducible refine State.setSkv_wf _ _ _ _ ?_
    | with_reducible refine ite_wf' _ _ ?_ ?_
    | with_reducible refine foldl_wf _ _ _ ?_ ?_

@[simp] theorem State.dropContexts_mem (s : State) (c : HarnessCfg) : (State.dropContexts s c).mem = s.mem := by
  unfold State.dropContexts
  repeat' first
    | with_reducible rfl
    | intro _
    | with_reducible refine Eq.trans (State.freeCtx_mem _ _ _) ?_
    | with_reducible refine ite_mem' _ _ ?_ ?_
    | with_reducible refine Eq.trans (foldl_mem _ _ _ ?_) ?_

@[simp] theorem State.switchPcie_wf (s : State) (old c : HarnessCfg) (d : Nat) (hw : Memory.wf s.mem = true) : Memory.wf (State.switchPcie s old c d).mem = true := by
  unfold State.switchPcie
  repeat' first
    | with_reducible assumption
    | with_reducible refine keep_wf (State.loadPcie_mem _ _ _) ?_
    | with_reducible refine State.portReset_wf _ _ _ ?_
    | with_reducible refine ite_wf' _ _ ?_ ?_

@[simp] theorem State.restoreUnits_mem (s : State) (c : HarnessCfg) (d : Nat) : (State.restoreUnits s c d).mem = s.mem := by
  unfold State.restoreUnits
  repeat' first
    | with_reducible rfl
    | intro _
    | with_reducible refine Eq.trans (State.lceTunables_mem _ _) ?_
    | with_reducible refine Eq.trans (State.loadEthCtrl_mem _ _ _ _) ?_
    | with_reducible refine Eq.trans (State.serCtrlReset_mem _ _ _) ?_
    | with_reducible refine ite_mem' _ _ ?_ ?_
    | with_reducible refine Eq.trans (foldl_mem _ _ _ ?_) ?_

@[simp] theorem State.commitTables_wf (s : State) (i : Image) (old : HarnessCfg) (hw : Memory.wf s.mem = true) : Memory.wf (State.commitTables s i old).mem = true := by
  unfold State.commitTables
  repeat' first
    | with_reducible assumption
    | (intro a x hx)
    | with_reducible refine keep_wf (State.applyCalibration_mem _ _) ?_
    | with_reducible refine State.applyDatapoints_wf _ _ _ ?_
    | with_reducible refine State.applyPower_wf _ _ _ ?_
    | with_reducible refine State.applyRecorder_wf _ _ _ ?_
    | with_reducible refine keep_wf (State.applyRegions_mem _ _ _) ?_
    | with_reducible refine keep_wf (State.applyShapers_mem _ _ _ _) ?_
    | with_reducible refine keep_wf (State.applySwitch_mem _ _) ?_
    | with_reducible refine State.applyTenants_wf _ _ _ ?_
    | with_reducible refine State.applyTime_wf _ _ _ ?_
    | with_reducible refine keep_wf (State.dropContexts_mem _ _) ?_
    | with_reducible refine State.eachDie_wf _ _ ?_ ?_
    | with_reducible refine keep_wf (State.lcePinSome_mem _ _ _ _) ?_
    | with_reducible refine keep_wf (State.loadPads_mem _ _ _) ?_
    | with_reducible refine keep_wf (State.planUp_mem _) ?_
    | with_reducible refine State.rechannel_wf _ _ _ _ ?_
    | with_reducible refine keep_wf (State.restoreUnits_mem _ _ _) ?_
    | with_reducible refine State.switchPcie_wf _ _ _ _ ?_

@[simp] theorem State.commitNow_wf (s : State) (i : Image) (hw : Memory.wf s.mem = true) : Memory.wf (State.commitNow s i).mem = true := by
  unfold State.commitNow
  repeat' first
    | with_reducible assumption
    | (intro a x hx)
    | with_reducible refine State.commitTables_wf _ _ _ ?_
    | with_reducible refine keep_wf (State.count_mem _ _ _ _) ?_
    | with_reducible refine State.eachDie_wf _ _ ?_ ?_
    | with_reducible refine keep_wf (State.harTo_mem _ _) ?_
    | with_reducible refine State.lateUnit_wf _ _ ?_
    | with_reducible refine keep_wf (State.modHar_mem _ _) ?_
    | with_reducible refine keep_wf (State.put_mem _ _ _ _) ?_
    | with_reducible refine keep_wf (State.putFlag_mem _ _ _ _) ?_
    | with_reducible refine keep_wf (State.puts_mem _ _ _) ?_
    | with_reducible refine State.switchUnit_wf _ _ ?_
    | with_reducible refine State.switchingEnd_wf _ ?_
    | with_reducible refine ite_wf' _ _ ?_ ?_
    | with_reducible refine foldl_wf _ _ _ ?_ ?_

@[simp] theorem State.commitInstant_wf (s : State) (hw : Memory.wf s.mem = true) : Memory.wf (State.commitInstant s).mem = true := by
  unfold State.commitInstant
  repeat' first
    | with_reducible assumption
    | with_reducible refine State.commitNow_wf _ _ ?_
    | with_reducible refine ite_wf' _ _ ?_ ?_
    | split

@[simp] theorem State.groupAbort_wf (s : State) (hw : Memory.wf s.mem = true) : Memory.wf (State.groupAbort s).mem = true := by
  unfold State.groupAbort
  repeat' first
    | with_reducible assumption
    | with_reducible refine State.harAborted_wf _ _ _ _ ?_
    | with_reducible refine ite_wf' _ _ ?_ ?_

@[simp] theorem State.groupReport_mem (s : State) (src : Nat) (ready : Bool) : (State.groupReport s src ready).mem = s.mem := by rfl

@[simp] theorem State.sendDecision_mem (s : State) (commit : Bool) : (State.sendDecision s commit).mem = s.mem := by
  unfold State.sendDecision
  repeat' first
    | with_reducible rfl
    | intro _
    | with_reducible refine Eq.trans (State.reinRoute_mem _ _) ?_
    | with_reducible refine Eq.trans (foldl_mem _ _ _ ?_) ?_

@[simp] theorem State.groupDecide_wf (s : State) (members : Nat) (hw : Memory.wf s.mem = true) : Memory.wf (State.groupDecide s members).mem = true := by
  unfold State.groupDecide
  repeat' first
    | with_reducible assumption
    | with_reducible refine State.groupAbort_wf _ ?_
    | with_reducible refine keep_wf (State.modHar_mem _ _) ?_
    | with_reducible refine keep_wf (State.sendDecision_mem _ _) ?_
    | with_reducible refine ite_wf' _ _ ?_ ?_

@[simp] theorem State.guardCheck_wf (s : State) (members : Nat) (hw : Memory.wf s.mem = true) : Memory.wf (State.guardCheck s members).mem = true := by
  unfold State.guardCheck
  repeat' first
    | with_reducible assumption
    | with_reducible refine State.groupDecide_wf _ _ ?_
    | with_reducible refine keep_wf (State.groupReport_mem _ _ _) ?_
    | with_reducible refine State.harAborted_wf _ _ _ _ ?_
    | with_reducible refine keep_wf (State.harTo_mem _ _) ?_
    | with_reducible refine keep_wf (State.puts_mem _ _ _) ?_
    | with_reducible refine keep_wf (State.reinRoute_mem _ _) ?_
    | with_reducible refine ite_wf' _ _ ?_ ?_

@[simp] theorem State.reportRx_wf (s : State) (src : Nat) (ready : Bool) (guardUs time members : Nat) (hw : Memory.wf s.mem = true) : Memory.wf (State.reportRx s src ready guardUs time members).mem = true := by
  unfold State.reportRx
  repeat' first
    | with_reducible assumption
    | with_reducible refine State.groupDecide_wf _ _ ?_
    | with_reducible refine keep_wf (State.groupReport_mem _ _ _) ?_
    | with_reducible refine ite_wf' _ _ ?_ ?_

@[simp] theorem State.decisionRx_wf (s : State) (commit : Bool) (hw : Memory.wf s.mem = true) : Memory.wf (State.decisionRx s commit).mem = true := by
  unfold State.decisionRx
  repeat' first
    | with_reducible assumption
    | with_reducible refine State.groupAbort_wf _ ?_
    | with_reducible refine keep_wf (State.modHar_mem _ _) ?_
    | with_reducible refine ite_wf' _ _ ?_ ?_

@[simp] theorem State.groupTimeout_wf (s : State) (hw : Memory.wf s.mem = true) : Memory.wf (State.groupTimeout s).mem = true := by
  unfold State.groupTimeout
  repeat' first
    | with_reducible assumption
    | with_reducible refine State.groupAbort_wf _ ?_
    | with_reducible refine keep_wf (State.sendDecision_mem _ _) ?_
    | with_reducible refine ite_wf' _ _ ?_ ?_

end Sys2Proof.Machine
end

