-- ==== Sys2Proof/Laws/KeepVatHarness.lean ====
section
/-! SUPPORT. What the functions of Machine/Harness do to the Vat: those that store nothing leave it, the others keep its form. -/

namespace Sys2Proof.Machine

@[simp] theorem State.bootCodes_mem (s : State) (a b width : Nat) : (State.bootCodes s a b width).mem = s.mem := by rfl

@[simp] theorem State.bootWith_wf (s : State) (i : Image) (src : Nat) (hw : Memory.wf s.mem = true) : Memory.wf (State.bootWith s i src).mem = true := by
  unfold State.bootWith
  repeat' first
    | with_reducible assumption
    | with_reducible refine State.applyImage_wf _ _ _ ?_
    | with_reducible refine keep_wf (State.dropStaged_mem _) ?_
    | with_reducible refine keep_wf (State.modHar_mem _ _) ?_
    | with_reducible refine keep_wf (State.storeWrite_mem _ _) ?_

@[simp] theorem State.bootSeek_wf (s : State) (a b : Option Image) (hw : Memory.wf s.mem = true) : Memory.wf (State.bootSeek s a b).mem = true := by
  unfold State.bootSeek
  repeat' first
    | with_reducible assumption
    | with_reducible refine keep_wf (State.bootCodes_mem _ _ _ _) ?_
    | with_reducible refine State.bootWith_wf _ _ _ ?_
    | with_reducible refine keep_wf (State.harErr_mem _ _) ?_
    | with_reducible refine keep_wf (State.harTo_mem _ _) ?_
    | with_reducible refine keep_wf (State.putFlag_mem _ _ _ _) ?_
    | with_reducible refine ite_wf' _ _ ?_ ?_
    | dsimp only
    | split

@[simp] theorem State.hostLoaded_wf (s : State) (img : Option Image) (hw : Memory.wf s.mem = true) : Memory.wf (State.hostLoaded s img).mem = true := by
  unfold State.hostLoaded
  repeat' first
    | with_reducible assumption
    | with_reducible refine State.loadArrived_wf _ _ _ ?_
    | with_reducible refine State.loadRefused_wf _ _ _ ?_
    | with_reducible refine ite_wf' _ _ ?_ ?_
    | split

@[simp] theorem State.arm_wf (s : State) (hw : Memory.wf s.mem = true) : Memory.wf (State.arm s).mem = true := by
  unfold State.arm
  repeat' first
    | with_reducible assumption
    | with_reducible refine State.harBusy_wf _ ?_
    | with_reducible refine State.harRefuse_wf _ _ ?_
    | with_reducible refine keep_wf (State.harTo_mem _ _) ?_
    | with_reducible refine keep_wf (State.modHar_mem _ _) ?_
    | with_reducible refine ite_wf' _ _ ?_ ?_

end Sys2Proof.Machine
end

