-- ==== Sys2Proof/Laws/KeepVatResetOps.lean ====
section
/-! SUPPORT. What the functions of Machine/ResetOps do to the Vat: those that store nothing leave it, the others keep its form. -/

namespace Sys2Proof.Machine

@[simp] theorem State.wipe_wf (s : State) (k : ResetKind) : Memory.wf (s.wipe k).mem = true := by rfl

end Sys2Proof.Machine
end

