-- ==== Sys2Proof/Laws/KeepVatLadder.lean ====
section
/-! SUPPORT. What the functions of Machine/Ladder do to the Vat: those that store nothing leave it, the others keep its form. -/

namespace Sys2Proof.Machine

@[simp] theorem State.modRcv_mem (s : State) (f : Rcv → Rcv) : (State.modRcv s f).mem = s.mem := by rfl

@[simp] theorem State.escalated_wf (s : State) (d rung u n : Nat) (hw : Memory.wf s.mem = true) : Memory.wf (State.escalated s d rung u n).mem = true := by
  unfold State.escalated
  repeat' first
    | with_reducible assumption
    | with_reducible refine State.latchFault_wf _ _ _ _ ?_
    | with_reducible refine keep_wf (State.putFlag_mem _ _ _ _) ?_
    | with_reducible refine State.rcvRec_wf _ _ _ _ _ _ _ _ _ ?_

@[simp] theorem State.pkgStops_wf (s : State) (hw : Memory.wf s.mem = true) : Memory.wf (State.pkgStops s).mem = true := by
  unfold State.pkgStops
  repeat' first
    | with_reducible assumption
    | (intro a x hx)
    | with_reducible refine State.dmaReset_wf _ _ _ ?_
    | with_reducible refine State.eachDie_wf _ _ ?_ ?_
    | with_reducible refine keep_wf (State.marchAbort_mem _ _) ?_
    | with_reducible refine State.resetAbort_wf _ ?_
    | with_reducible refine keep_wf (State.servoTo_mem _ _) ?_
    | with_reducible refine ite_wf' _ _ ?_ ?_
    | with_reducible refine foldl_wf _ _ _ ?_ ?_

@[simp] theorem State.pkgVcore_wf (s : State) (hw : Memory.wf s.mem = true) : Memory.wf (State.pkgVcore s).mem = true := by
  unfold State.pkgVcore
  repeat' first
    | with_reducible assumption
    | with_reducible refine keep_wf (State.beginMove_mem _ _ _) ?_
    | with_reducible refine State.endMove_wf _ _ _ ?_
    | with_reducible refine keep_wf (State.modPwr_mem _ _) ?_
    | with_reducible refine State.vcoreTo_wf _ _ ?_
    | with_reducible refine ite_wf' _ _ ?_ ?_

@[simp] theorem State.pkgHold_wf (s : State) (hw : Memory.wf s.mem = true) : Memory.wf (State.pkgHold s).mem = true := by
  unfold State.pkgHold
  repeat' first
    | with_reducible assumption
    | (intro a x hx)
    | with_reducible refine State.condFault_wf _ _ _ _ _ ?_
    | with_reducible refine State.eachDie_wf _ _ ?_ ?_
    | with_reducible refine State.markRec_wf _ _ _ _ ?_
    | with_reducible refine keep_wf (State.mirrorLost_mem _) ?_
    | with_reducible refine keep_wf (State.modRcv_mem _ _) ?_
    | with_reducible refine State.pkgVcore_wf _ ?_
    | with_reducible refine State.weltTrain_wf _ ?_
    | with_reducible refine State.wipe_wf _ _
    | with_reducible refine ite_wf' _ _ ?_ ?_
    | with_reducible refine foldl_wf _ _ _ ?_ ?_

@[simp] theorem State.pkgClear_mem (s : State) : (State.pkgClear s).mem = s.mem := by
  unfold State.pkgClear
  repeat' first
    | with_reducible rfl
    | intro _
    | with_reducible refine Eq.trans (State.eachDie_mem _ _ ?_) ?_
    | with_reducible refine Eq.trans (State.modRcv_mem _ _) ?_
    | with_reducible refine Eq.trans (State.put_mem _ _ _ _) ?_
    | with_reducible refine Eq.trans (State.putFlag_mem _ _ _ _) ?_

@[simp] theorem State.restage_wf (s : State) (hw : Memory.wf s.mem = true) : Memory.wf (State.restage s).mem = true := by
  unfold State.restage
  repeat' first
    | with_reducible assumption
    | (intro a x hx)
    | with_reducible refine keep_wf (State.dropStaged_mem _) ?_
    | with_reducible refine State.eachDie_wf _ _ ?_ ?_
    | with_reducible refine keep_wf (State.harTo_mem _ _) ?_
    | with_reducible refine keep_wf (State.putFlag_mem _ _ _ _) ?_
    | with_reducible refine keep_wf (State.puts_mem _ _ _) ?_
    | with_reducible refine ite_wf' _ _ ?_ ?_
    | split

@[simp] theorem State.reverify_wf (s : State) (hw : Memory.wf s.mem = true) : Memory.wf (State.reverify s).mem = true := by
  unfold State.reverify
  repeat' first
    | with_reducible assumption
    | with_reducible refine State.applyImage_wf _ _ _ ?_
    | with_reducible refine keep_wf (State.harErr_mem _ _) ?_
    | with_reducible refine keep_wf (State.harTo_mem _ _) ?_
    | with_reducible refine keep_wf (State.modHar_mem _ _) ?_
    | with_reducible refine keep_wf (State.modRcv_mem _ _) ?_
    | with_reducible refine keep_wf (State.putFlag_mem _ _ _ _) ?_
    | with_reducible refine State.restage_wf _ ?_
    | with_reducible refine ite_wf' _ _ ?_ ?_
    | dsimp only
    | split

@[simp] theorem State.pkgApply_wf (s : State) (hw : Memory.wf s.mem = true) : Memory.wf (State.pkgApply s).mem = true := by
  unfold State.pkgApply
  repeat' first
    | with_reducible assumption
    | (intro a x hx)
    | with_reducible refine State.eachDie_wf _ _ ?_ ?_
    | with_reducible refine keep_wf (State.modRcv_mem _ _) ?_
    | with_reducible refine keep_wf (State.put_mem _ _ _ _) ?_
    | with_reducible refine keep_wf (State.putFlag_mem _ _ _ _) ?_
    | with_reducible refine State.reverify_wf _ ?_
    | with_reducible refine State.takeHeld_wf _ ?_

@[simp] theorem State.rung4Off_mem (s : State) : (State.rung4Off s).mem = s.mem := by rfl

@[simp] theorem State.pkgStep_wf (s : State) (hw : Memory.wf s.mem = true) : Memory.wf (State.pkgStep s).mem = true := by
  unfold State.pkgStep
  repeat' first
    | with_reducible assumption
    | with_reducible refine keep_wf (State.modRcv_mem _ _) ?_
    | with_reducible refine State.pkgApply_wf _ ?_
    | with_reducible refine keep_wf (State.pkgClear_mem _) ?_
    | with_reducible refine State.pkgHold_wf _ ?_
    | with_reducible refine keep_wf (State.rung4Off_mem _) ?_
    | with_reducible refine ite_wf' _ _ ?_ ?_
    | split

@[simp] theorem State.pkgAdvance_wf (s : State) (hw : Memory.wf s.mem = true) : Memory.wf (State.pkgAdvance s).mem = true := by
  unfold State.pkgAdvance
  repeat' first
    | with_reducible assumption
    | with_reducible refine State.pkgStep_wf _ ?_

@[simp] theorem State.rung4_wf (s : State) (trig cls : Nat) (hw : Memory.wf s.mem = true) : Memory.wf (State.rung4 s trig cls).mem = true := by
  induction cls generalizing s trig with
  | zero =>
    unfold State.rung4
    repeat' first
      | with_reducible assumption
      | with_reducible refine keep_wf (State.freeVal_mem _ _) ?_
      | with_reducible refine State.gaspWith_wf _ _ ?_
      | with_reducible refine keep_wf (State.modRcv_mem _ _) ?_
      | with_reducible refine State.pkgAdvance_wf _ ?_
      | with_reducible refine State.rungTaken_wf _ _ _ _ _ _ _ ?_
      | with_reducible refine ite_wf' _ _ ?_ ?_
  | succ _ ih =>
    unfold State.rung4
    repeat' first
      | with_reducible assumption
      | with_reducible refine keep_wf (State.freeVal_mem _ _) ?_
      | with_reducible refine State.gaspWith_wf _ _ ?_
      | with_reducible refine keep_wf (State.modRcv_mem _ _) ?_
      | with_reducible refine State.pkgAdvance_wf _ ?_
      | with_reducible refine State.rungTaken_wf _ _ _ _ _ _ _ ?_
      | with_reducible refine ite_wf' _ _ ?_ ?_

@[simp] theorem State.pkgBegin_wf (s : State) (trig cls : Nat) (hw : Memory.wf s.mem = true) : Memory.wf (State.pkgBegin s trig cls).mem = true := by
  unfold State.pkgBegin
  repeat' first
    | with_reducible assumption
    | with_reducible refine keep_wf (State.modRcv_mem _ _) ?_
    | with_reducible refine State.pkgAdvance_wf _ ?_
    | with_reducible refine State.rungTaken_wf _ _ _ _ _ _ _ ?_
    | with_reducible refine State.startGasp_wf _ _ ?_

@[simp] theorem State.pkgDecide_wf (s : State) (trig cls : Nat) (hw : Memory.wf s.mem = true) : Memory.wf (State.pkgDecide s trig cls).mem = true := by
  unfold State.pkgDecide
  repeat' first
    | with_reducible assumption
    | with_reducible refine State.escalated_wf _ _ _ _ _ ?_
    | with_reducible refine keep_wf (State.modRcv_mem _ _) ?_
    | with_reducible refine State.pkgBegin_wf _ _ _ ?_
    | with_reducible refine keep_wf (State.put_mem _ _ _ _) ?_
    | with_reducible refine State.rung4_wf _ _ _ ?_
    | with_reducible refine ite_wf' _ _ ?_ ?_

@[simp] theorem State.countAct_mem (s : State) (kind key : Nat) : (State.countAct s kind key).2.mem = s.mem := by rfl

@[simp] theorem State.portStops_wf (s : State) (d p : Nat) (hw : Memory.wf s.mem = true) : Memory.wf (State.portStops s d p).mem = true := by
  unfold State.portStops
  repeat' first
    | with_reducible assumption
    | with_reducible refine State.linkDown_wf _ _ _ _ ?_

@[simp] theorem State.regionStops_wf (s : State) (d q : Nat) (hw : Memory.wf s.mem = true) : Memory.wf (State.regionStops s d q).mem = true := by
  unfold State.regionStops
  repeat' first
    | with_reducible assumption
    | (intro a x hx)
    | with_reducible refine State.clusterReset_wf _ _ _ ?_
    | with_reducible refine State.fenceUnits_wf _ _ ?_
    | with_reducible refine State.laceGroupOff_wf _ _ _ ?_
    | with_reducible refine keep_wf (State.marchAbort_mem _ _) ?_
    | with_reducible refine State.portStops_wf _ _ _ ?_
    | with_reducible refine State.serFlush_wf _ _ _ ?_
    | with_reducible refine ite_wf' _ _ ?_ ?_
    | with_reducible refine foldl_wf _ _ _ ?_ ?_

@[simp] theorem State.regionReset_wf (s : State) (d q trig cls : Nat) (hw : Memory.wf s.mem = true) : Memory.wf (State.regionReset s d q trig cls).mem = true := by
  unfold State.regionReset
  repeat' first
    | with_reducible assumption
    | with_reducible refine keep_wf (State.countAct_mem _ _ _) ?_
    | with_reducible refine State.escalated_wf _ _ _ _ _ ?_
    | with_reducible refine State.pkgDecide_wf _ _ _ ?_
    | with_reducible refine State.regionStops_wf _ _ _ ?_
    | with_reducible refine State.rungTaken_wf _ _ _ _ _ _ _ ?_
    | with_reducible refine keep_wf (State.setBit_mem _ _ _ _) ?_
    | with_reducible refine ite_wf' _ _ ?_ ?_

@[simp] theorem State.reloadEth_mem (s : State) (d p : Nat) : (State.reloadEth s d p).mem = s.mem := by
  unfold State.reloadEth
  repeat' first
    | with_reducible rfl
    | with_reducible refine Eq.trans (State.loadEthPort_mem _ _ _ _) ?_
    | with_reducible refine Eq.trans (State.loadGates_mem _ _ _ _) ?_
    | with_reducible refine Eq.trans (State.putFlag_mem _ _ _ _) ?_
    | with_reducible refine ite_mem' _ _ ?_ ?_

@[simp] theorem State.reloadSer_wf (s : State) (d p : Nat) (hw : Memory.wf s.mem = true) : Memory.wf (State.reloadSer s d p).mem = true := by
  unfold State.reloadSer
  repeat' first
    | with_reducible assumption
    | with_reducible refine keep_wf (State.loadSerPort_mem _ _ _ _) ?_
    | with_reducible refine keep_wf (State.serTo_mem _ _ _ _) ?_
    | with_reducible refine State.startSer_wf _ _ _ _ ?_
    | with_reducible refine ite_wf' _ _ ?_ ?_

@[simp] theorem State.reloadTt_wf (s : State) (d : Nat) (hw : Memory.wf s.mem = true) : Memory.wf (State.reloadTt s d).mem = true := by
  unfold State.reloadTt
  repeat' first
    | with_reducible assumption
    | with_reducible refine keep_wf (State.loadTt_mem _ _ _) ?_
    | with_reducible refine State.ttTo_wf _ _ _ ?_
    | with_reducible refine ite_wf' _ _ ?_ ?_

@[simp] theorem State.reloadLace_wf (s : State) (d e : Nat) (hw : Memory.wf s.mem = true) : Memory.wf (State.reloadLace s d e).mem = true := by
  unfold State.reloadLace
  repeat' first
    | with_reducible assumption
    | with_reducible refine State.lceLoad_wf _ _ _ _ ?_
    | with_reducible refine keep_wf (State.setLceState_mem _ _ _ _) ?_
    | with_reducible refine ite_wf' _ _ ?_ ?_

@[simp] theorem State.regionReload_wf (s : State) (d q : Nat) (hw : Memory.wf s.mem = true) : Memory.wf (State.regionReload s d q).mem = true := by
  unfold State.regionReload
  repeat' first
    | with_reducible assumption
    | (intro a x hx)
    | with_reducible refine State.autostart_wf _ _ ?_
    | with_reducible refine keep_wf (State.reloadEth_mem _ _ _) ?_
    | with_reducible refine State.reloadLace_wf _ _ _ ?_
    | with_reducible refine State.reloadSer_wf _ _ _ ?_
    | with_reducible refine ite_wf' _ _ ?_ ?_
    | with_reducible refine foldl_wf _ _ _ ?_ ?_

@[simp] theorem State.clusterAct_wf (s : State) (d c trig cls : Nat) (hw : Memory.wf s.mem = true) : Memory.wf (State.clusterAct s d c trig cls).mem = true := by
  unfold State.clusterAct
  repeat' first
    | with_reducible assumption
    | with_reducible refine State.clusterReset_wf _ _ _ ?_
    | with_reducible refine keep_wf (State.countAct_mem _ _ _) ?_
    | with_reducible refine State.escalated_wf _ _ _ _ _ ?_
    | with_reducible refine State.regionReset_wf _ _ _ _ _ ?_
    | with_reducible refine State.rungTaken_wf _ _ _ _ _ _ _ ?_
    | with_reducible refine ite_wf' _ _ ?_ ?_

@[simp] theorem State.engineCounted_wf (s : State) (d e : Nat) (hw : Memory.wf s.mem = true) : Memory.wf (State.engineCounted s d e).mem = true := by
  unfold State.engineCounted
  repeat' first
    | with_reducible assumption
    | with_reducible refine State.clusterAct_wf _ _ _ _ _ ?_
    | with_reducible refine keep_wf (State.countAct_mem _ _ _) ?_
    | with_reducible refine State.escalated_wf _ _ _ _ _ ?_
    | with_reducible refine ite_wf' _ _ ?_ ?_

@[simp] theorem State.clusterCounted_wf (s : State) (d c : Nat) (hw : Memory.wf s.mem = true) : Memory.wf (State.clusterCounted s d c).mem = true := by
  unfold State.clusterCounted
  repeat' first
    | with_reducible assumption
    | with_reducible refine keep_wf (State.countAct_mem _ _ _) ?_
    | with_reducible refine State.escalated_wf _ _ _ _ _ ?_
    | with_reducible refine State.regionReset_wf _ _ _ _ _ ?_
    | with_reducible refine ite_wf' _ _ ?_ ?_

@[simp] theorem State.reloadEscalate_wf (s : State) (d u : Nat) (hw : Memory.wf s.mem = true) : Memory.wf (State.reloadEscalate s d u).mem = true := by
  unfold State.reloadEscalate
  repeat' first
    | with_reducible assumption
    | with_reducible refine State.clusterAct_wf _ _ _ _ _ ?_
    | with_reducible refine State.escalated_wf _ _ _ _ _ ?_
    | with_reducible refine keep_wf (State.freeVal_mem _ _) ?_
    | with_reducible refine State.latchFault_wf _ _ _ _ ?_
    | with_reducible refine State.pkgDecide_wf _ _ _ ?_
    | with_reducible refine State.regionReset_wf _ _ _ _ _ ?_
    | dsimp only
    | split

@[simp] theorem State.regionFail_wf (s : State) (d q : Nat) (hw : Memory.wf s.mem = true) : Memory.wf (State.regionFail s d q).mem = true := by
  unfold State.regionFail
  repeat' first
    | with_reducible assumption
    | with_reducible refine State.escalated_wf _ _ _ _ _ ?_
    | with_reducible refine keep_wf (State.freeVal_mem _ _) ?_
    | with_reducible refine State.latchFault_wf _ _ _ _ ?_
    | with_reducible refine State.pkgDecide_wf _ _ _ ?_
    | with_reducible refine keep_wf (State.setBit_mem _ _ _ _) ?_

@[simp] theorem State.regionDone_wf (s : State) (d q : Nat) (hw : Memory.wf s.mem = true) : Memory.wf (State.regionDone s d q).mem = true := by
  unfold State.regionDone
  repeat' first
    | with_reducible assumption
    | (intro a x hx)
    | with_reducible refine keep_wf (State.clrBit_mem _ _ _ _) ?_
    | with_reducible refine keep_wf (State.putFlag_mem _ _ _ _) ?_
    | with_reducible refine State.regionFail_wf _ _ _ ?_
    | with_reducible refine State.regionReload_wf _ _ _ ?_
    | with_reducible refine keep_wf (State.rung2Done_mem _ _) ?_
    | with_reducible refine State.setBank_wf _ _ _ _ ?_
    | with_reducible refine keep_wf (State.setBit_mem _ _ _ _) ?_
    | with_reducible refine keep_wf (State.unfenceUnits_mem _ _) ?_
    | with_reducible refine ite_wf' _ _ ?_ ?_
    | with_reducible refine foldl_wf _ _ _ ?_ ?_

@[simp] theorem State.unitResult_mem (s : State) (d r : Nat) : (State.unitResult s d r).mem = s.mem := by rfl

@[simp] theorem State.unitReload_wf (s : State) (d ty k : Nat) (x : State) (h : s.unitReload d ty k = some x) (hw : Memory.wf s.mem = true) : Memory.wf x.mem = true := by
  unfold State.unitReload at h; (try dsimp only at h)
  repeat' split at h
  all_goals try contradiction
  all_goals cases h
  all_goals
    repeat' first
      | with_reducible assumption
      | (intro a x hx)
      | with_reducible refine State.autostart_wf _ _ ?_
      | with_reducible refine State.dmaReset_wf _ _ _ ?_
      | with_reducible refine State.portStops_wf _ _ _ ?_
      | with_reducible refine keep_wf (State.reloadEth_mem _ _ _) ?_
      | with_reducible refine State.reloadLace_wf _ _ _ ?_
      | with_reducible refine State.reloadSer_wf _ _ _ ?_
      | with_reducible refine State.reloadTt_wf _ _ ?_
      | with_reducible refine keep_wf (State.safePin_mem _ _ _) ?_
      | with_reducible refine State.serFlush_wf _ _ _ ?_
      | with_reducible refine State.setLce_wf _ _ _ _ ?_
      | with_reducible refine keep_wf (State.setLceState_mem _ _ _ _) ?_
      | with_reducible refine State.ttReleaseAll_wf _ _ ?_
      | with_reducible refine ite_wf' _ _ ?_ ?_
      | with_reducible refine foldl_wf _ _ _ ?_ ?_

@[simp] theorem State.unitRequest_wf (s : State) (d u trig : Nat) (reg : Bool) (hw : Memory.wf s.mem = true) : Memory.wf (State.unitRequest s d u trig reg).2.mem = true := by
  unfold State.unitRequest
  repeat' first
    | with_reducible assumption
    | with_reducible refine State.clusterReset_wf _ _ _ ?_
    | with_reducible refine State.engineReset_wf _ _ _ ?_
    | with_reducible refine State.reloadEscalate_wf _ _ _ ?_
    | with_reducible refine keep_wf (State.rung2Done_mem _ _) ?_
    | with_reducible refine State.rungTaken_wf _ _ _ _ _ _ _ ?_
    | with_reducible refine State.unitReload_wf _ _ _ _ _ (by with_reducible assumption) ?_
    | with_reducible refine keep_wf (State.unitResult_mem _ _ _) ?_
    | with_reducible refine ite_wf' _ _ ?_ ?_
    | with_reducible refine ite_snd_wf _ _ ?_ ?_
    | dsimp only
    | split

@[simp] theorem State.beginWake_mem (s : State) (source retries : Nat) : (State.beginWake s source retries).mem = s.mem := by rfl

@[simp] theorem State.powerNext_wf (s : State) (hw : Memory.wf s.mem = true) : Memory.wf (State.powerNext s).mem = true := by
  unfold State.powerNext
  repeat' first
    | with_reducible assumption
    | with_reducible refine keep_wf (State.beginWake_mem _ _ _) ?_
    | with_reducible refine State.powerAdvance_wf _ ?_
    | with_reducible refine ite_wf' _ _ ?_ ?_

@[simp] theorem State.wakeDone_wf (s : State) (hw : Memory.wf s.mem = true) : Memory.wf (State.wakeDone s).mem = true := by
  unfold State.wakeDone
  repeat' first
    | with_reducible assumption
    | (intro a x hx)
    | with_reducible refine State.beginClear_wf _ _ _ ?_
    | with_reducible refine keep_wf (State.count_mem _ _ _ _) ?_
    | with_reducible refine State.eachDie_wf _ _ ?_ ?_
    | with_reducible refine keep_wf (State.modRcv_mem _ _) ?_
    | with_reducible refine State.powRec_wf _ _ _ _ _ _ _ _ ?_
    | with_reducible refine keep_wf (State.putFlag_mem _ _ _ _) ?_
    | with_reducible refine keep_wf (State.puts_mem _ _ _) ?_
    | with_reducible refine keep_wf (State.reinClear_mem _) ?_
    | with_reducible refine State.weltTrain_wf _ ?_
    | with_reducible refine State.wipe_wf _ _
    | with_reducible refine ite_wf' _ _ ?_ ?_

@[simp] theorem State.safeDie_wf (s : State) (d : Nat) (hw : Memory.wf s.mem = true) : Memory.wf (State.safeDie s d).mem = true := by
  unfold State.safeDie
  repeat' first
    | with_reducible assumption
    | (intro a x hx)
    | with_reducible refine State.lceSafe_wf _ _ ?_
    | with_reducible refine State.linkDown_wf _ _ _ _ ?_
    | with_reducible refine keep_wf (State.putFlag_mem _ _ _ _) ?_
    | with_reducible refine State.serFlush_wf _ _ _ ?_
    | with_reducible refine keep_wf (State.serTo_mem _ _ _ _) ?_
    | with_reducible refine State.ttReleaseAll_wf _ _ ?_
    | with_reducible refine State.ttTo_wf _ _ _ ?_
    | with_reducible refine ite_wf' _ _ ?_ ?_
    | with_reducible refine foldl_wf _ _ _ ?_ ?_

@[simp] theorem State.safeEnter_wf (s : State) (trig : Nat) (hw : Memory.wf s.mem = true) : Memory.wf (State.safeEnter s trig).mem = true := by
  unfold State.safeEnter
  repeat' first
    | with_reducible assumption
    | (intro a x hx)
    | with_reducible refine State.eachDie_wf _ _ ?_ ?_
    | with_reducible refine keep_wf (State.putFlag_mem _ _ _ _) ?_
    | with_reducible refine State.rcvRec_wf _ _ _ _ _ _ _ _ _ ?_
    | with_reducible refine State.resetAbort_wf _ ?_
    | with_reducible refine State.safeDie_wf _ _ ?_
    | with_reducible refine State.startGasp_wf _ _ ?_
    | with_reducible refine ite_wf' _ _ ?_ ?_

@[simp] theorem State.unsafeDie_wf (s : State) (d : Nat) (hw : Memory.wf s.mem = true) : Memory.wf (State.unsafeDie s d).mem = true := by
  unfold State.unsafeDie
  repeat' first
    | with_reducible assumption
    | (intro a x hx)
    | with_reducible refine keep_wf (State.lceUnsafe_mem _ _) ?_
    | with_reducible refine keep_wf (State.putFlag_mem _ _ _ _) ?_
    | with_reducible refine State.startSer_wf _ _ _ _ ?_
    | with_reducible refine State.ttListen_wf _ _ ?_
    | with_reducible refine ite_wf' _ _ ?_ ?_
    | with_reducible refine foldl_wf _ _ _ ?_ ?_

@[simp] theorem State.safeExitNow_wf (s : State) (trig : Nat) (hw : Memory.wf s.mem = true) : Memory.wf (State.safeExitNow s trig).2.mem = true := by
  unfold State.safeExitNow
  repeat' first
    | with_reducible assumption
    | (intro a x hx)
    | with_reducible refine State.eachDie_wf _ _ ?_ ?_
    | with_reducible refine keep_wf (State.putFlag_mem _ _ _ _) ?_
    | with_reducible refine State.rcvRec_wf _ _ _ _ _ _ _ _ _ ?_
    | with_reducible refine State.unsafeDie_wf _ _ ?_
    | with_reducible refine ite_snd_wf _ _ ?_ ?_

end Sys2Proof.Machine
end

