-- ==== Sys2Proof/Laws/KeepVatPower.lean ====
section
/-! SUPPORT. What the functions of Machine/Power do to the Vat: those that store nothing leave it, the others keep its form. -/

namespace Sys2Proof.Machine

@[simp] theorem State.leaveRetain_wf (s : State) (hw : Memory.wf s.mem = true) : Memory.wf (State.leaveRetain s).mem = true := by
  unfold State.leaveRetain
  repeat' first
    | with_reducible assumption
    | with_reducible refine keep_wf (State.hold_mem _ _) ?_
    | with_reducible refine State.retainExit_wf _ ?_
    | with_reducible refine ite_wf' _ _ ?_ ?_

@[simp] theorem State.putVcore_mem (s : State) (mvs : List Nat) : (State.putVcore s mvs).mem = s.mem := by
  unfold State.putVcore
  repeat' first
    | with_reducible rfl
    | intro _
    | with_reducible refine Eq.trans (State.put_mem _ _ _ _) ?_
    | with_reducible refine ite_mem' _ _ ?_ ?_
    | with_reducible refine Eq.trans (foldl_mem _ _ _ ?_) ?_

@[simp] theorem State.settled_wf (s : State) (mvs : List Nat) (hw : Memory.wf s.mem = true) : Memory.wf (State.settled s mvs).mem = true := by
  unfold State.settled
  repeat' first
    | with_reducible assumption
    | with_reducible refine State.pkgAdvance_wf _ ?_
    | with_reducible refine keep_wf (State.putVcore_mem _ _) ?_
    | with_reducible refine State.vcoreNext_wf _ ?_
    | with_reducible refine ite_wf' _ _ ?_ ?_

@[simp] theorem State.slowStep_wf (s : State) (mv : Nat) (hw : Memory.wf s.mem = true) : Memory.wf (State.slowStep s mv).mem = true := by
  unfold State.slowStep
  repeat' first
    | with_reducible assumption
    | with_reducible refine State.pkgAdvance_wf _ ?_
    | with_reducible refine State.powRec_wf _ _ _ _ _ _ _ _ ?_
    | with_reducible refine keep_wf (State.put_mem _ _ _ _) ?_
    | with_reducible refine keep_wf (State.putFlag_mem _ _ _ _) ?_
    | with_reducible refine State.vcoreNext_wf _ ?_
    | with_reducible refine ite_wf' _ _ ?_ ?_

@[simp] theorem State.adapt_wf (s : State) (hw : Memory.wf s.mem = true) : Memory.wf (State.adapt s).mem = true := by
  unfold State.adapt
  repeat' first
    | with_reducible assumption
    | with_reducible refine keep_wf (State.codeStep_mem _) ?_
    | with_reducible refine State.vcoreTo_wf _ _ ?_
    | with_reducible refine ite_wf' _ _ ?_ ?_

@[simp] theorem State.domainFence_wf (s : State) (d n : Nat) (hw : Memory.wf s.mem = true) : Memory.wf (State.domainFence s d n).mem = true := by
  unfold State.domainFence
  repeat' first
    | with_reducible assumption
    | with_reducible refine State.domOff_wf _ _ _ ?_
    | with_reducible refine State.fenceDom_wf _ _ _ ?_
    | with_reducible refine State.powerNext_wf _ ?_
    | with_reducible refine ite_wf' _ _ ?_ ?_

@[simp] theorem State.drainForce_wf (s : State) (d n count : Nat) (hw : Memory.wf s.mem = true) : Memory.wf (State.drainForce s d n count).mem = true := by
  unfold State.drainForce
  repeat' first
    | with_reducible assumption
    | with_reducible refine State.domOff_wf _ _ _ ?_
    | with_reducible refine State.latchFault_wf _ _ _ _ ?_
    | with_reducible refine State.powRec_wf _ _ _ _ _ _ _ _ ?_
    | with_reducible refine State.powerNext_wf _ ?_
    | with_reducible refine keep_wf (State.putFlag_mem _ _ _ _) ?_
    | with_reducible refine ite_wf' _ _ ?_ ?_

@[simp] theorem State.rampDone_wf (s : State) (d n : Nat) (hw : Memory.wf s.mem = true) : Memory.wf (State.rampDone s d n).mem = true := by
  unfold State.rampDone
  repeat' first
    | with_reducible assumption
    | with_reducible refine State.domUp_wf _ _ _ ?_
    | with_reducible refine ite_wf' _ _ ?_ ?_

@[simp] theorem State.demandWake_wf (s : State) (d c : Nat) (hw : Memory.wf s.mem = true) : Memory.wf (State.demandWake s d c).mem = true := by
  unfold State.demandWake
  repeat' first
    | with_reducible assumption
    | with_reducible refine State.leaveRetain_wf _ ?_
    | with_reducible refine keep_wf (State.powerUp_mem _ _ _) ?_
    | with_reducible refine keep_wf (State.putFlag_mem _ _ _ _) ?_
    | with_reducible refine ite_wf' _ _ ?_ ?_

@[simp] theorem State.storeBroken_wf (s : State) (d e : Nat) (accepted : Bool) (hw : Memory.wf s.mem = true) : Memory.wf (State.storeBroken s d e accepted).mem = true := by
  unfold State.storeBroken
  repeat' first
    | with_reducible assumption
    | with_reducible refine State.drainItem_wf _ _ _ _ ?_
    | with_reducible refine State.flushHead_wf _ _ _ _ ?_
    | with_reducible refine keep_wf (State.freeVal_mem _ _) ?_
    | with_reducible refine keep_wf (State.modEng_mem _ _ _ _) ?_
    | with_reducible refine ite_wf' _ _ ?_ ?_
    | dsimp only
    | split

@[simp] theorem State.recordBroken_wf (s : State) (d c : Nat) (hw : Memory.wf s.mem = true) : Memory.wf (State.recordBroken s d c).mem = true := by
  unfold State.recordBroken
  repeat' first
    | with_reducible assumption
    | with_reducible refine keep_wf (State.advanceSeq_mem _ _) ?_
    | with_reducible refine keep_wf (State.freeVal_mem _ _) ?_
    | with_reducible refine State.loseRec_wf _ _ _ _ _ _ ?_
    | with_reducible refine State.refuseRec_wf _ _ ?_
    | with_reducible refine ite_wf' _ _ ?_ ?_

@[simp] theorem State.commitBroken_wf (s : State) (d : Nat) (accepted : Bool) (hw : Memory.wf s.mem = true) : Memory.wf (State.commitBroken s d accepted).mem = true := by
  unfold State.commitBroken
  repeat' first
    | with_reducible assumption
    | with_reducible refine keep_wf (State.commitStatus_mem _ _ _) ?_
    | with_reducible refine keep_wf (State.freeVal_mem _ _) ?_
    | with_reducible refine State.handleCommit_wf _ _ ?_
    | with_reducible refine keep_wf (State.refuseCommit_mem _ _ _ _ _ _) ?_
    | with_reducible refine ite_wf' _ _ ?_ ?_
    | dsimp only
    | split

@[simp] theorem State.sentOutcome_wf (s : State) (d m : Nat) (write accepted : Bool) (obj : SentObj) (hw : Memory.wf s.mem = true) :
    Memory.wf (State.sentOutcome s d m write accepted obj).mem = true := by
  unfold State.sentOutcome
  refine ite_wf' _ _ ?_ (ite_wf' _ _ ?_ (ite_wf' _ _ ?_ (ite_wf' _ _ ?_ (ite_wf' _ _ ?_ (ite_wf' _ _ ?_ hw)))))
  · cases obj <;> dsimp only
    all_goals first | exact hw | (exact ite_wf' _ _ (by simp (maxDischargeDepth := 40) [hw]) hw) | simp (maxDischargeDepth := 40) [hw]
  · simp (maxDischargeDepth := 40) [hw]
  · cases obj <;> dsimp only
    all_goals simp (maxDischargeDepth := 40) [hw]
  · cases obj <;> dsimp only
    all_goals simp (maxDischargeDepth := 40) [hw]
  · cases obj <;> dsimp only
    all_goals simp (maxDischargeDepth := 40) [hw]
  · simp (maxDischargeDepth := 40) [hw]

@[simp] theorem State.sentLog_mem (s : State) (d m td dom off : Nat) (write accepted : Bool) : (State.sentLog s d m td dom off write accepted).mem = s.mem := by
  unfold State.sentLog
  repeat' first
    | with_reducible rfl
    | with_reducible refine Eq.trans (State.putFlag_mem _ _ _ _) ?_
    | with_reducible refine Eq.trans (State.puts_mem _ _ _) ?_
    | with_reducible refine ite_mem' _ _ ?_ ?_

@[simp] theorem State.sentRec_wf (s : State) (d m : Nat) (hw : Memory.wf s.mem = true) : Memory.wf (State.sentRec s d m).mem = true := by
  unfold State.sentRec
  repeat' first
    | with_reducible assumption
    | with_reducible refine keep_wf (State.modPwr_mem _ _) ?_
    | with_reducible refine State.powRec_wf _ _ _ _ _ _ _ _ ?_
    | with_reducible refine ite_wf' _ _ ?_ ?_

@[simp] theorem State.sentinel_wf (s : State) (d m td dom off : Nat) (write accepted : Bool) (origin : Option (Nat × Nat)) (obj : SentObj) (hw : Memory.wf s.mem = true) : Memory.wf (State.sentinel s d m td dom off write accepted origin obj).mem = true := by
  unfold State.sentinel
  repeat' first
    | with_reducible assumption
    | with_reducible refine keep_wf (State.count_mem _ _ _ _) ?_
    | with_reducible refine State.latchFault_wf _ _ _ _ ?_
    | with_reducible refine keep_wf (State.putFlag_mem _ _ _ _) ?_
    | with_reducible refine keep_wf (State.sentLog_mem _ _ _ _ _ _ _ _) ?_
    | with_reducible refine State.sentOutcome_wf _ _ _ _ _ _ ?_
    | with_reducible refine State.sentRec_wf _ _ _ ?_
    | with_reducible refine ite_wf' _ _ ?_ ?_
    | dsimp only
    | split

@[simp] theorem State.crossingAck_wf (s : State) (d n : Nat) (forced : Bool) (hw : Memory.wf s.mem = true) : Memory.wf (State.crossingAck s d n forced).mem = true := by
  unfold State.crossingAck
  repeat' first
    | with_reducible assumption
    | with_reducible refine State.latchFault_wf _ _ _ _ ?_
    | with_reducible refine keep_wf (State.modPwr_mem _ _) ?_
    | with_reducible refine keep_wf (State.putFlag_mem _ _ _ _) ?_
    | with_reducible refine ite_wf' _ _ ?_ ?_

@[simp] theorem State.wakeBy_wf (s : State) (kind : Nat) (hw : Memory.wf s.mem = true) : Memory.wf (State.wakeBy s kind).mem = true := by
  unfold State.wakeBy
  repeat' first
    | with_reducible assumption
    | with_reducible refine keep_wf (State.beginWake_mem _ _ _) ?_
    | with_reducible refine State.leaveRetain_wf _ ?_
    | with_reducible refine ite_wf' _ _ ?_ ?_
    | dsimp only
    | split

@[simp] theorem State.railsGood_wf (s : State) (hw : Memory.wf s.mem = true) : Memory.wf (State.railsGood s).mem = true := by
  unfold State.railsGood
  repeat' first
    | with_reducible assumption
    | (intro a x hx)
    | with_reducible refine State.breakCond_wf _ _ ?_
    | with_reducible refine State.condFault_wf _ _ _ _ _ ?_
    | with_reducible refine State.eachDie_wf _ _ ?_ ?_
    | with_reducible refine keep_wf (State.modPwr_mem _ _) ?_
    | with_reducible refine State.wakeDone_wf _ ?_
    | with_reducible refine ite_wf' _ _ ?_ ?_

@[simp] theorem State.railsLate_wf (s : State) (hw : Memory.wf s.mem = true) : Memory.wf (State.railsLate s).mem = true := by
  unfold State.railsLate
  repeat' first
    | with_reducible assumption
    | with_reducible refine keep_wf (State.modPwr_mem _ _) ?_
    | with_reducible refine keep_wf (State.modRcv_mem _ _) ?_
    | with_reducible refine keep_wf (State.puts_mem _ _ _) ?_
    | with_reducible refine ite_wf' _ _ ?_ ?_

@[simp] theorem State.railLow_wf (s : State) (d rail mv : Nat) (hw : Memory.wf s.mem = true) : Memory.wf (State.railLow s d rail mv).mem = true := by
  unfold State.railLow
  repeat' first
    | with_reducible assumption
    | with_reducible refine State.condFault_wf _ _ _ _ _ ?_
    | with_reducible refine keep_wf (State.modPwr_mem _ _) ?_
    | with_reducible refine State.powRec_wf _ _ _ _ _ _ _ _ ?_
    | with_reducible refine keep_wf (State.putFlag_mem _ _ _ _) ?_
    | with_reducible refine keep_wf (State.setBit_mem _ _ _ _) ?_
    | with_reducible refine State.startGasp_wf _ _ ?_

@[simp] theorem State.deviceKey_mem (s : State) : (State.deviceKey s).mem = s.mem := by
  unfold State.deviceKey
  repeat' first
    | with_reducible rfl
    | intro _
    | with_reducible refine Eq.trans (State.freeVal_mem _ _) ?_
    | with_reducible refine Eq.trans (State.put_mem _ _ _ _) ?_
    | with_reducible refine Eq.trans (State.putFlag_mem _ _ _ _) ?_
    | with_reducible refine ite_mem' _ _ ?_ ?_
    | with_reducible refine Eq.trans (foldl_mem _ _ _ ?_) ?_

@[simp] theorem State.powerOn_wf (s : State) (hw : Memory.wf s.mem = true) : Memory.wf (State.powerOn s).mem = true := by
  unfold State.powerOn
  repeat' first
    | with_reducible refine keep_wf (State.deviceKey_mem _) ?_
    | with_reducible refine keep_wf (State.putFlag_mem _ _ _ _) ?_
    | with_reducible refine State.wipe_wf _ _

@[simp] theorem State.pcieDown_wf (s : State) (p : Nat) (hw : Memory.wf s.mem = true) : Memory.wf (State.pcieDown s p).mem = true := by
  unfold State.pcieDown
  repeat' first
    | with_reducible assumption
    | with_reducible refine State.portReset_wf _ _ _ ?_
    | with_reducible refine keep_wf (State.putFlag_mem _ _ _ _) ?_
    | with_reducible refine ite_wf' _ _ ?_ ?_

@[simp] theorem State.pllLost_wf (s : State) (d island : Nat) (hw : Memory.wf s.mem = true) : Memory.wf (State.pllLost s d island).mem = true := by
  unfold State.pllLost
  repeat' first
    | with_reducible assumption
    | (intro a x hx)
    | with_reducible refine State.linkDown_wf _ _ _ _ ?_
    | with_reducible refine keep_wf (State.modPwr_mem _ _) ?_
    | with_reducible refine State.pcieDown_wf _ _ ?_
    | with_reducible refine State.reinBroken_wf _ _ ?_
    | with_reducible refine ite_wf' _ _ ?_ ?_
    | with_reducible refine foldl_wf _ _ _ ?_ ?_
    | dsimp only
    | split

end Sys2Proof.Machine
end

