-- ==== Sys2Proof/Laws/KeepVatRecovery.lean ====
section
/-! SUPPORT. What the functions of Machine/Recovery do to the Vat: those that store nothing leave it, the others keep its form. -/

namespace Sys2Proof.Machine

@[simp] theorem State.faultDetect_wf (s : State) (d c u : Nat) (on : Bool) (hw : Memory.wf s.mem = true) : Memory.wf (State.faultDetect s d c u on).mem = true := by
  unfold State.faultDetect
  repeat' first
    | with_reducible assumption
    | with_reducible refine State.clusterCounted_wf _ _ _ ?_
    | with_reducible refine State.condFault_wf _ _ _ _ _ ?_
    | with_reducible refine State.engineCounted_wf _ _ _ ?_
    | with_reducible refine State.latchFault_wf _ _ _ _ ?_
    | with_reducible refine State.reloadEscalate_wf _ _ _ ?_
    | with_reducible refine ite_wf' _ _ ?_ ?_
    | split

@[simp] theorem State.reloadFailed_wf (s : State) (d : Nat) (x0 : ResetScope) (hw : Memory.wf s.mem = true) : Memory.wf (State.reloadFailed s d x0).mem = true := by
  induction d generalizing s with
  | zero =>
    unfold State.reloadFailed
    repeat' first
      | with_reducible assumption
      | with_reducible refine keep_wf (State.clrBit_mem _ _ _ _) ?_
      | with_reducible refine State.regionFail_wf _ _ _ ?_
      | with_reducible refine State.reloadEscalate_wf _ _ _ ?_
      | with_reducible refine keep_wf (State.unitResult_mem _ _ _) ?_
      | with_reducible refine ite_wf' _ _ ?_ ?_
      | dsimp only
      | split
  | succ _ ih =>
    unfold State.reloadFailed
    repeat' first
      | with_reducible assumption
      | with_reducible refine keep_wf (State.clrBit_mem _ _ _ _) ?_
      | with_reducible refine State.regionFail_wf _ _ _ ?_
      | with_reducible refine State.reloadEscalate_wf _ _ _ ?_
      | with_reducible refine keep_wf (State.unitResult_mem _ _ _) ?_
      | with_reducible refine ite_wf' _ _ ?_ ?_
      | dsimp only
      | split

@[simp] theorem State.unitGo_wf (s : State) (d u trig : Nat) (hw : Memory.wf s.mem = true) : Memory.wf (State.unitGo s d u trig).mem = true := by
  unfold State.unitGo
  repeat' first
    | with_reducible assumption
    | with_reducible refine keep_wf (State.puts_mem _ _ _) ?_
    | with_reducible refine State.unitRequest_wf _ _ _ _ _ ?_
    | with_reducible refine ite_wf' _ _ ?_ ?_

@[simp] theorem State.resetLow_wf (s : State) (short : Bool) (hw : Memory.wf s.mem = true) : Memory.wf (State.resetLow s short).mem = true := by
  unfold State.resetLow
  repeat' first
    | with_reducible assumption
    | with_reducible refine State.breakCond_wf _ _ ?_
    | with_reducible refine keep_wf (State.modRcv_mem _ _) ?_
    | with_reducible refine State.pkgDecide_wf _ _ _ ?_
    | with_reducible refine ite_wf' _ _ ?_ ?_

@[simp] theorem State.rung4Wake_mem (s : State) : (State.rung4Wake s).mem = s.mem := by
  unfold State.rung4Wake
  repeat' first
    | with_reducible rfl
    | with_reducible refine Eq.trans (State.beginWake_mem _ _ _) ?_
    | with_reducible refine Eq.trans (State.count_mem _ _ _ _) ?_
    | with_reducible refine Eq.trans (State.modRcv_mem _ _) ?_
    | with_reducible refine ite_mem' _ _ ?_ ?_

@[simp] theorem State.wdogFire_wf (s : State) (hw : Memory.wf s.mem = true) : Memory.wf (State.wdogFire s).mem = true := by
  unfold State.wdogFire
  repeat' first
    | with_reducible assumption
    | with_reducible refine State.latchFault_wf _ _ _ _ ?_
    | with_reducible refine State.pkgDecide_wf _ _ _ ?_
    | with_reducible refine keep_wf (State.putFlag_mem _ _ _ _) ?_
    | with_reducible refine State.rung4_wf _ _ _ ?_
    | with_reducible refine ite_wf' _ _ ?_ ?_
    | dsimp only
    | split

@[simp] theorem State.safeRequest_wf (s : State) (on : Bool) (trig : Nat) (hw : Memory.wf s.mem = true) : Memory.wf (State.safeRequest s on trig).mem = true := by
  unfold State.safeRequest
  repeat' first
    | with_reducible assumption
    | with_reducible refine keep_wf (State.putFlag_mem _ _ _ _) ?_
    | with_reducible refine State.safeEnter_wf _ _ ?_
    | with_reducible refine ite_wf' _ _ ?_ ?_

@[simp] theorem State.alarmClear_mem (s : State) : (State.alarmClear s).mem = s.mem := by
  unfold State.alarmClear
  repeat' first
    | with_reducible rfl
    | intro _
    | with_reducible refine Eq.trans (State.eachDie_mem _ _ ?_) ?_
    | with_reducible refine Eq.trans (State.put_mem _ _ _ _) ?_
    | with_reducible refine Eq.trans (State.putFlag_mem _ _ _ _) ?_
    | with_reducible refine ite_mem' _ _ ?_ ?_

@[simp] theorem State.convert_wf (s : State) (d k : Nat) (mC : Int) (hw : Memory.wf s.mem = true) : Memory.wf (State.convert s d k mC).mem = true := by
  unfold State.convert
  repeat' first
    | with_reducible assumption
    | with_reducible refine State.condFault_wf _ _ _ _ _ ?_
    | with_reducible refine keep_wf (State.freeVal_mem _ _) ?_
    | with_reducible refine keep_wf (State.modRcv_mem _ _) ?_
    | with_reducible refine keep_wf (State.put_mem _ _ _ _) ?_
    | with_reducible refine keep_wf (State.putFlag_mem _ _ _ _) ?_
    | with_reducible refine ite_wf' _ _ ?_ ?_
    | with_reducible refine ite_snd_wf _ _ ?_ ?_

@[simp] theorem State.tempCrit_wf (s : State) (d : Nat) (on : Bool) (hw : Memory.wf s.mem = true) : Memory.wf (State.tempCrit s d on).mem = true := by
  unfold State.tempCrit
  repeat' first
    | with_reducible assumption
    | with_reducible refine State.condFault_wf _ _ _ _ _ ?_
    | with_reducible refine keep_wf (State.modRcv_mem _ _) ?_
    | with_reducible refine keep_wf (State.putFlag_mem _ _ _ _) ?_
    | with_reducible refine State.safeEnter_wf _ _ ?_
    | with_reducible refine ite_wf' _ _ ?_ ?_

end Sys2Proof.Machine
end

