-- ==== Sys2Proof/Laws/KeepVatRelock.lean ====
section
/-! SUPPORT. What the functions of Machine/Relock do to the Vat: those that store nothing leave it, the others keep its form. -/

namespace Sys2Proof.Machine

@[simp] theorem State.freqInput_wf (s : State) (d n : Nat) (lost : Bool) (hw : Memory.wf s.mem = true) : Memory.wf (State.freqInput s d n lost).mem = true := by
  unfold State.freqInput
  repeat' first
    | with_reducible assumption
    | with_reducible refine State.relockBegin_wf _ ?_
    | with_reducible refine ite_wf' _ _ ?_ ?_

@[simp] theorem State.stepTt_wf (s : State) (d : Nat) (delta : Int) (hw : Memory.wf s.mem = true) : Memory.wf (State.stepTt s d delta).mem = true := by
  unfold State.stepTt
  repeat' first
    | with_reducible assumption
    | with_reducible refine State.modTt_wf _ _ _ ?_
    | with_reducible refine State.ttRebase_wf _ _ ?_

@[simp] theorem State.stepPulses_wf (s : State) (d old : Nat) (delta : Int) (hw : Memory.wf s.mem = true) : Memory.wf (State.stepPulses s d old delta).mem = true := by
  unfold State.stepPulses
  repeat' first
    | with_reducible assumption
    | (intro a x hx)
    | with_reducible refine keep_wf (State.setBit_mem _ _ _ _) ?_
    | with_reducible refine State.startPulse_wf _ _ _ ?_
    | with_reducible refine ite_wf' _ _ ?_ ?_
    | with_reducible refine foldl_wf _ _ _ ?_ ?_

@[simp] theorem State.stepDie_wf (s : State) (d : Nat) (delta : Int) (hw : Memory.wf s.mem = true) : Memory.wf (State.stepDie s d delta).mem = true := by
  unfold State.stepDie
  repeat' first
    | with_reducible assumption
    | with_reducible refine State.markRec_wf _ _ _ _ ?_
    | with_reducible refine keep_wf (State.put_mem _ _ _ _) ?_
    | with_reducible refine keep_wf (State.putFlag_mem _ _ _ _) ?_
    | with_reducible refine State.stepPulses_wf _ _ _ _ ?_
    | with_reducible refine State.stepTt_wf _ _ _ ?_

@[simp] theorem State.stepGuard_wf (s : State) (members : Nat) (hw : Memory.wf s.mem = true) : Memory.wf (State.stepGuard s members).mem = true := by
  unfold State.stepGuard
  repeat' first
    | with_reducible assumption
    | with_reducible refine State.commitInstant_wf _ ?_
    | with_reducible refine State.guardCheck_wf _ _ ?_
    | with_reducible refine ite_wf' _ _ ?_ ?_

@[simp] theorem State.stepAll_wf (s : State) (members : Nat) (hw : Memory.wf s.mem = true) : Memory.wf (State.stepAll s members).mem = true := by
  unfold State.stepAll
  repeat' first
    | with_reducible assumption
    | (intro a x hx)
    | with_reducible refine State.eachDie_wf _ _ ?_ ?_
    | with_reducible refine State.gateClk_wf _ _ ?_
    | with_reducible refine keep_wf (State.putFlag_mem _ _ _ _) ?_
    | with_reducible refine State.quietPulses_wf _ ?_
    | with_reducible refine keep_wf (State.servoTo_mem _ _) ?_
    | with_reducible refine State.stepDie_wf _ _ _ ?_
    | with_reducible refine State.stepGuard_wf _ _ ?_
    | with_reducible refine keep_wf (State.syncTime_mem _) ?_
    | with_reducible refine ite_wf' _ _ ?_ ?_

end Sys2Proof.Machine
end

