-- ==== Sys2Proof/Laws/KeepVatSwitch.lean ====
section
/-! SUPPORT. What the functions of Machine/Switch do to the Vat: those that store nothing leave it, the others keep its form. -/

namespace Sys2Proof.Machine

@[simp] theorem State.movePtrs_mem (s : State) (d : Nat) (m : Match) : (State.movePtrs s d m).mem = s.mem := by rfl

@[simp] theorem State.matching_wf (s : State) (d : Nat) (hw : Memory.wf s.mem = true) : Memory.wf (State.matching s d).2.mem = true := by
  unfold State.matching
  repeat' first
    | with_reducible assumption
    | (intro a x hx)
    | with_reducible refine keep_wf (State.movePtrs_mem _ _ _) ?_
    | with_reducible refine foldl_wf _ _ _ ?_ ?_

@[simp] theorem State.toDest_wf (s : State) (d o f : Nat) (hw : Memory.wf s.mem = true) : Memory.wf (State.toDest s d o f).mem = true := by
  unfold State.toDest
  repeat' first
    | with_reducible assumption
    | with_reducible refine State.fillSlot_wf _ _ _ _ _ ?_
    | with_reducible refine keep_wf (State.setOutQueue_mem _ _ _ _) ?_
    | with_reducible refine State.toEthernet_wf _ _ _ _ ?_
    | with_reducible refine ite_wf' _ _ ?_ ?_

@[simp] theorem State.moveHead_wf (s : State) (d : Nat) (m : Match) (hw : Memory.wf s.mem = true) : Memory.wf (State.moveHead s d m).mem = true := by
  unfold State.moveHead
  repeat' first
    | with_reducible assumption
    | with_reducible refine keep_wf (State.setVoq_mem _ _ _) ?_
    | with_reducible refine State.toDest_wf _ _ _ _ ?_
    | with_reducible refine ite_wf' _ _ ?_ ?_
    | split

@[simp] theorem State.recorderDone_wf (s : State) (d f : Nat) (hw : Memory.wf s.mem = true) : Memory.wf (State.recorderDone s d f).mem = true := by
  unfold State.recorderDone
  repeat' first
    | with_reducible assumption
    | with_reducible refine State.doneWith_wf _ _ ?_
    | with_reducible refine keep_wf (State.leaveOutput_mem _ _ _ _) ?_
    | with_reducible refine keep_wf (State.setOutQueue_mem _ _ _ _) ?_

@[simp] theorem State.submit_wf (s : State) (d c fmt source tid : Nat) (body : List Byte) (hw : Memory.wf s.mem = true) : Memory.wf (State.submit s d c fmt source tid body).mem = true := by
  unfold State.submit
  repeat' first
    | with_reducible assumption
    | with_reducible refine State.refuseRec_wf _ _ ?_
    | with_reducible refine State.submitRec_wf _ _ _ _ _ _ _ ?_
    | with_reducible refine ite_wf' _ _ ?_ ?_

@[simp] theorem State.submitFrame_wf (s : State) (d f : Nat) (hw : Memory.wf s.mem = true) : Memory.wf (State.submitFrame s d f).mem = true := by
  unfold State.submitFrame
  repeat' first
    | with_reducible assumption
    | with_reducible refine keep_wf (State.countDrop_mem _ _ _ _) ?_
    | with_reducible refine State.frameRead_wf _ _ _ _ _ _ _ ?_
    | with_reducible refine State.recorderDone_wf _ _ _ ?_
    | with_reducible refine State.submit_wf _ _ _ _ _ _ _ ?_
    | with_reducible refine keep_wf (State.txDone_mem _ _) ?_
    | with_reducible refine ite_wf' _ _ ?_ ?_

@[simp] theorem State.syncCq_mem (s : State) (d : Nat) : (State.syncCq s d).mem = s.mem := by rfl

@[simp] theorem State.leakLog_mem (s : State) (d owner cells first : Nat) (only : Bool) : (State.leakLog s d owner cells first only).mem = s.mem := by
  unfold State.leakLog
  repeat' first
    | with_reducible rfl
    | with_reducible refine Eq.trans (State.put_mem _ _ _ _) ?_
    | with_reducible refine Eq.trans (State.putFlag_mem _ _ _ _) ?_
    | with_reducible refine ite_mem' _ _ ?_ ?_

@[simp] theorem State.leakRec_wf (s : State) (d kind fixed owner cells first before after tid : Nat) (hw : Memory.wf s.mem = true) : Memory.wf (State.leakRec s d kind fixed owner cells first before after tid).mem = true := by
  unfold State.leakRec
  repeat' first
    | with_reducible assumption
    | with_reducible refine State.partRec_wf _ _ _ _ _ _ ?_

@[simp] theorem State.leakFinding_wf (s : State) (d owner : Nat) (tid : Option Nat) (cs : List Nat) (hw : Memory.wf s.mem = true) : Memory.wf (State.leakFinding s d owner tid cs).mem = true := by
  unfold State.leakFinding
  repeat' first
    | with_reducible assumption
    | (intro a x hx)
    | with_reducible refine keep_wf (State.count_mem _ _ _ _) ?_
    | with_reducible refine keep_wf (State.freeCell_mem _ _ _) ?_
    | with_reducible refine keep_wf (State.leakLog_mem _ _ _ _ _ _) ?_
    | with_reducible refine State.leakRec_wf _ _ _ _ _ _ _ _ _ _ ?_
    | with_reducible refine keep_wf (State.put_mem _ _ _ _) ?_
    | with_reducible refine keep_wf (State.putFlag_mem _ _ _ _) ?_
    | with_reducible refine keep_wf (State.setOwnerCount_mem _ _ _ _) ?_
    | with_reducible refine keep_wf (State.unchargeTenant_mem _ _ _ _) ?_
    | with_reducible refine ite_wf' _ _ ?_ ?_
    | with_reducible refine foldl_wf _ _ _ ?_ ?_
    | split

@[simp] theorem State.countFinding_wf (s : State) (d owner : Nat) (diff : Int) (hw : Memory.wf s.mem = true) : Memory.wf (State.countFinding s d owner diff).mem = true := by
  unfold State.countFinding
  repeat' first
    | with_reducible assumption
    | with_reducible refine keep_wf (State.leakLog_mem _ _ _ _ _ _) ?_
    | with_reducible refine State.leakRec_wf _ _ _ _ _ _ _ _ _ _ ?_
    | with_reducible refine keep_wf (State.putFlag_mem _ _ _ _) ?_
    | with_reducible refine keep_wf (State.setOwnerCount_mem _ _ _ _) ?_
    | with_reducible refine ite_wf' _ _ ?_ ?_

@[simp] theorem State.audit_wf (s : State) (d : Nat) (hw : Memory.wf s.mem = true) : Memory.wf (State.audit s d).mem = true := by
  unfold State.audit
  repeat' first
    | with_reducible assumption
    | (intro a x hx)
    | with_reducible refine State.countFinding_wf _ _ _ _ ?_
    | with_reducible refine State.leakFinding_wf _ _ _ _ _ ?_
    | with_reducible refine ite_wf' _ _ ?_ ?_
    | with_reducible refine foldl_wf _ _ _ ?_ ?_
    | dsimp only
    | split

end Sys2Proof.Machine
end

