-- ==== Sys2Proof/Laws/KeepVatAccess.lean ====
section
/-! SUPPORT. What the functions of Machine/Access do to the Vat: those that store nothing leave it, the others keep its form. -/

namespace Sys2Proof.Machine

@[simp] theorem execAccept_did_mem  (s : State) : (s.did execAccept).mem = s.mem := by
  unfold State.did execAccept; (try unfold onDie); (try unfold onPkg)
  repeat' first
    | (simp; done)

@[simp] theorem execAdminDown_did_wf (d : Die) (p : Unit8) (v : Bool) (s : State) (hw : Memory.wf s.mem = true) : Memory.wf (s.did (execAdminDown d p v)).mem = true := by
  unfold State.did execAdminDown
  refine onDie_did_wf _ _ _ ?_ ?_
  repeat' first
    | with_reducible assumption
    | with_reducible refine State.linkDown_wf _ _ _ _ ?_
    | with_reducible refine keep_wf (State.putFlag_mem _ _ _ _) ?_
    | with_reducible refine ite_wf' _ _ ?_ ?_

@[simp] theorem execArcAdopt_did_wf (d : Die) (s : State) (hw : Memory.wf s.mem = true) : Memory.wf (s.did (execArcAdopt d)).mem = true := by
  unfold State.did execArcAdopt
  refine onDie_did_wf _ _ _ ?_ ?_
  repeat' first
    | with_reducible assumption
    | with_reducible refine keep_wf (State.put_mem _ _ _ _) ?_
    | with_reducible refine keep_wf (State.putFlag_mem _ _ _ _) ?_
    | with_reducible refine State.setRecDie_wf _ _ _ ?_
    | with_reducible refine ite_wf' _ _ ?_ ?_

@[simp] theorem execAttest_did_wf  (s : State) (hw : Memory.wf s.mem = true) : Memory.wf (s.did execAttest).mem = true := by
  unfold State.did execAttest
  refine onPkg_did_wf _ _ ?_ ?_
  repeat' first
    | with_reducible assumption
    | with_reducible refine State.attestReport_wf _ ?_
    | with_reducible refine State.tenCmd_wf _ _ ?_ ?_

@[simp] theorem execBind_did_wf  (s : State) (hw : Memory.wf s.mem = true) : Memory.wf (s.did execBind).mem = true := by
  unfold State.did execBind
  refine onPkg_did_wf _ _ ?_ ?_
  repeat' first
    | with_reducible assumption
    | with_reducible refine State.bindToken_wf _ ?_
    | with_reducible refine State.tenCmd_wf _ _ ?_ ?_

@[simp] theorem execClrNonce_did_mem  (s : State) : (s.did execClrNonce).mem = s.mem := by
  unfold State.did execClrNonce; (try unfold onDie); (try unfold onPkg)
  repeat' first
    | (simp; done)

@[simp] theorem execClusterReset_did_wf (d : Die) (k : Unit8) (conns : List (Nat × Nat × Nat)) (s : State) (hw : Memory.wf s.mem = true) : Memory.wf (s.did (execClusterReset d k conns)).mem = true := by
  unfold State.did execClusterReset
  refine onDie_did_wf _ _ _ ?_ ?_
  repeat' first
    | with_reducible assumption
    | with_reducible refine State.clusterReset_wf _ _ _ ?_
    | with_reducible refine keep_wf (State.lossNotices_mem _ _ _) ?_
    | with_reducible refine State.rungTaken_wf _ _ _ _ _ _ _ ?_
    | with_reducible refine ite_wf' _ _ ?_ ?_

@[simp] theorem execCmdActive_did_wf  (s : State) (hw : Memory.wf s.mem = true) : Memory.wf (s.did execCmdActive).mem = true := by
  unfold State.did execCmdActive
  refine onPkg_did_wf _ _ ?_ ?_
  repeat' first
    | with_reducible assumption
    | with_reducible refine State.powerCmd_wf _ _ ?_

@[simp] theorem execCmdCycle_did_wf  (s : State) (hw : Memory.wf s.mem = true) : Memory.wf (s.did execCmdCycle).mem = true := by
  unfold State.did execCmdCycle
  refine onPkg_did_wf _ _ ?_ ?_
  repeat' first
    | with_reducible assumption
    | with_reducible refine State.powerCmd_wf _ _ ?_
    | with_reducible refine State.powerNext_wf _ ?_

@[simp] theorem execCmdOffWake_did_wf  (s : State) (hw : Memory.wf s.mem = true) : Memory.wf (s.did execCmdOffWake).mem = true := by
  unfold State.did execCmdOffWake
  refine onPkg_did_wf _ _ ?_ ?_
  repeat' first
    | with_reducible assumption
    | with_reducible refine State.powerCmd_wf _ _ ?_
    | with_reducible refine State.powerNext_wf _ ?_

@[simp] theorem execCmdRetain_did_wf  (s : State) (hw : Memory.wf s.mem = true) : Memory.wf (s.did execCmdRetain).mem = true := by
  unfold State.did execCmdRetain
  refine onPkg_did_wf _ _ ?_ ?_
  repeat' first
    | with_reducible assumption
    | with_reducible refine State.powerCmd_wf _ _ ?_
    | with_reducible refine State.powerNext_wf _ ?_

@[simp] theorem execCmdTrim_did_wf  (s : State) (hw : Memory.wf s.mem = true) : Memory.wf (s.did execCmdTrim).mem = true := by
  unfold State.did execCmdTrim
  refine onPkg_did_wf _ _ ?_ ?_
  repeat' first
    | with_reducible assumption
    | with_reducible refine State.powerCmd_wf _ _ ?_

@[simp] theorem execCondClr_did_mem  (s : State) : (s.did execCondClr).mem = s.mem := by
  unfold State.did execCondClr; (try unfold onDie); (try unfold onPkg)
  repeat' first
    | (simp; done)

@[simp] theorem execDetectStart_did_wf (d : Die) (p : Unit8) (s : State) (hw : Memory.wf s.mem = true) : Memory.wf (s.did (execDetectStart d p)).mem = true := by
  unfold State.did execDetectStart
  refine onDie_did_wf _ _ _ ?_ ?_
  repeat' first
    | with_reducible assumption
    | with_reducible refine keep_wf (State.enterDetect_mem _ _ _) ?_
    | with_reducible refine keep_wf (State.putFlag_mem _ _ _ _) ?_
    | with_reducible refine ite_wf' _ _ ?_ ?_

@[simp] theorem execEngineReset_did_wf (d : Die) (e : Engine) (s : State) (hw : Memory.wf s.mem = true) : Memory.wf (s.did (execEngineReset d e)).mem = true := by
  unfold State.did execEngineReset
  refine onDie_did_wf _ _ _ ?_ ?_
  repeat' first
    | with_reducible assumption
    | with_reducible refine State.engineReset_wf _ _ _ ?_
    | with_reducible refine State.rungTaken_wf _ _ _ _ _ _ _ ?_

@[simp] theorem execErcAlarmClr_did_mem (d : Die) (s : State) : (s.did (execErcAlarmClr d)).mem = s.mem := by
  unfold State.did execErcAlarmClr; (try unfold onDie)
  by_cases h : d.val < s.dieCount <;> simp [h]
  all_goals (repeat' split) <;> simp

@[simp] theorem execFlush_did_wf (d : Die) (s : State) (hw : Memory.wf s.mem = true) : Memory.wf (s.did (execFlush d)).mem = true := by
  unfold State.did execFlush
  refine onDie_did_wf _ _ _ ?_ ?_
  repeat' first
    | with_reducible assumption
    | with_reducible refine State.closeCur_wf _ _ ?_
    | with_reducible refine State.closeSegment_wf _ _ _ ?_
    | with_reducible refine keep_wf (State.putFlag_mem _ _ _ _) ?_
    | with_reducible refine State.syncOcc_wf _ _ ?_

@[simp] theorem execGo_did_mem (d : Die) (p : Unit8) (s : State) : (s.did (execGo d p)).mem = s.mem := by
  unfold State.did execGo; (try unfold onDie)
  by_cases h : d.val < s.dieCount <;> simp [h]
  all_goals (repeat' split) <;> simp

@[simp] theorem execHarAbort_did_wf  (s : State) (hw : Memory.wf s.mem = true) : Memory.wf (s.did execHarAbort).mem = true := by
  unfold State.did execHarAbort
  refine onPkg_did_wf _ _ ?_ ?_
  repeat' first
    | with_reducible assumption
    | with_reducible refine State.harAborted_wf _ _ _ _ ?_
    | with_reducible refine State.harBusy_wf _ ?_
    | with_reducible refine ite_wf' _ _ ?_ ?_

@[simp] theorem execHarDiscard_did_wf  (s : State) (hw : Memory.wf s.mem = true) : Memory.wf (s.did execHarDiscard).mem = true := by
  unfold State.did execHarDiscard
  refine onPkg_did_wf _ _ ?_ ?_
  repeat' first
    | with_reducible assumption
    | with_reducible refine keep_wf (State.dropStaged_mem _) ?_
    | with_reducible refine State.harBusy_wf _ ?_
    | with_reducible refine keep_wf (State.harTo_mem _ _) ?_
    | with_reducible refine ite_wf' _ _ ?_ ?_

@[simp] theorem execHarLoad_did_wf  (s : State) (hw : Memory.wf s.mem = true) : Memory.wf (s.did execHarLoad).mem = true := by
  unfold State.did execHarLoad
  refine onPkg_did_wf _ _ ?_ ?_
  repeat' first
    | with_reducible assumption
    | with_reducible refine State.harBusy_wf _ ?_
    | with_reducible refine keep_wf (State.loadStart_mem _ _) ?_
    | with_reducible refine ite_wf' _ _ ?_ ?_

@[simp] theorem execHarPrepare_did_wf  (s : State) (hw : Memory.wf s.mem = true) : Memory.wf (s.did execHarPrepare).mem = true := by
  unfold State.did execHarPrepare
  refine onPkg_did_wf _ _ ?_ ?_
  repeat' first
    | with_reducible assumption
    | with_reducible refine State.harBusy_wf _ ?_
    | with_reducible refine keep_wf (State.prepare_mem _) ?_
    | with_reducible refine ite_wf' _ _ ?_ ?_

@[simp] theorem execMarchStart_did_wf (d : Die) (destructive : Bool) (banks : Nat) (spares : List (Nat × MarchFault)) (s : State) (hw : Memory.wf s.mem = true) : Memory.wf (s.did (execMarchStart d destructive banks spares)).mem = true := by
  unfold State.did execMarchStart
  refine onDie_did_wf _ _ _ ?_ ?_
  repeat' first
    | with_reducible assumption
    | with_reducible refine State.marchRequest_wf _ _ _ _ _ ?_

@[simp] theorem execPulseArm_did_wf (d : Die) (n : Fin 4) (s : State) (hw : Memory.wf s.mem = true) : Memory.wf (s.did (execPulseArm d n)).mem = true := by
  unfold State.did execPulseArm
  refine onDie_did_wf _ _ _ ?_ ?_
  repeat' first
    | with_reducible assumption
    | with_reducible refine State.applyPulse_wf _ _ _ ?_
    | with_reducible refine keep_wf (State.putFlag_mem _ _ _ _) ?_
    | with_reducible refine ite_wf' _ _ ?_ ?_

@[simp] theorem execRaiseSec_did_wf  (s : State) (hw : Memory.wf s.mem = true) : Memory.wf (s.did execRaiseSec).mem = true := by
  unfold State.did execRaiseSec
  refine onPkg_did_wf _ _ ?_ ?_
  repeat' first
    | with_reducible assumption
    | with_reducible refine State.raiseSec_wf _ ?_
    | with_reducible refine State.tenCmd_wf _ _ ?_ ?_

@[simp] theorem execRecover_did_wf (d : Die) (p : Unit8) (s : State) (hw : Memory.wf s.mem = true) : Memory.wf (s.did (execRecover d p)).mem = true := by
  unfold State.did execRecover
  refine onDie_did_wf _ _ _ ?_ ?_
  repeat' first
    | with_reducible assumption
    | with_reducible refine State.modSer_wf _ _ _ _ ?_
    | with_reducible refine ite_wf' _ _ ?_ ?_

@[simp] theorem execRestartAn_did_wf (d : Die) (p : Unit8) (s : State) (hw : Memory.wf s.mem = true) : Memory.wf (s.did (execRestartAn d p)).mem = true := by
  unfold State.did execRestartAn
  refine onDie_did_wf _ _ _ ?_ ?_
  repeat' first
    | with_reducible assumption
    | with_reducible refine State.linkDown_wf _ _ _ _ ?_
    | with_reducible refine keep_wf (State.putFlag_mem _ _ _ _) ?_
    | with_reducible refine ite_wf' _ _ ?_ ?_

@[simp] theorem execSnapRelease_did_mem (d : Die) (k : Fin 4) (s : State) : (s.did (execSnapRelease d k)).mem = s.mem := by
  unfold State.did execSnapRelease; (try unfold onDie)
  by_cases h : d.val < s.dieCount <;> simp [h]
  all_goals (repeat' split) <;> simp

@[simp] theorem execStep_did_mem  (s : State) : (s.did execStep).mem = s.mem := by
  unfold State.did execStep; (try unfold onDie); (try unfold onPkg)
  repeat' first
    | (simp; done)

@[simp] theorem execTtCut_did_wf (d : Die) (ch : Fin 2) (b : Fin 4) (s : State) (hw : Memory.wf s.mem = true) : Memory.wf (s.did (execTtCut d ch b)).mem = true := by
  unfold State.did execTtCut
  refine onDie_did_wf _ _ _ ?_ ?_
  repeat' first
    | with_reducible assumption
    | with_reducible refine State.cutBranch_wf _ _ _ _ _ ?_
    | with_reducible refine keep_wf (State.putFlag_mem _ _ _ _) ?_
    | with_reducible refine ite_wf' _ _ ?_ ?_

@[simp] theorem execTtReadmit_did_mem (d : Die) (ch : Fin 2) (b : Fin 4) (s : State) : (s.did (execTtReadmit d ch b)).mem = s.mem := by
  unfold State.did execTtReadmit; (try unfold onDie)
  by_cases h : d.val < s.dieCount <;> simp [h]
  all_goals (repeat' split) <;> simp

@[simp] theorem execTtRestart_did_wf (d : Die) (s : State) (hw : Memory.wf s.mem = true) : Memory.wf (s.did (execTtRestart d)).mem = true := by
  unfold State.did execTtRestart
  refine onDie_did_wf _ _ _ ?_ ?_
  repeat' first
    | with_reducible assumption
    | with_reducible refine State.ttListen_wf _ _ ?_
    | with_reducible refine ite_wf' _ _ ?_ ?_

@[simp] theorem execUnbind_did_wf  (s : State) (hw : Memory.wf s.mem = true) : Memory.wf (s.did execUnbind).mem = true := by
  unfold State.did execUnbind
  refine onPkg_did_wf _ _ ?_ ?_
  repeat' first
    | with_reducible assumption
    | with_reducible refine State.tenCmd_wf _ _ ?_ ?_
    | with_reducible refine State.unbindTenant_wf _ ?_

@[simp] theorem execVcoreTargetWrite_did_wf (v : BitVec 32) (s : State) (hw : Memory.wf s.mem = true) : Memory.wf (s.did (execVcoreTargetWrite v)).mem = true := by
  unfold State.did execVcoreTargetWrite
  refine onPkg_did_wf _ _ ?_ ?_
  repeat' first
    | with_reducible assumption
    | with_reducible refine keep_wf (State.puts_mem _ _ _) ?_
    | with_reducible refine State.retarget_wf _ ?_

@[simp] theorem execWdogKick_did_wf (key : BitVec 16) (s : State) (hw : Memory.wf s.mem = true) : Memory.wf (s.did (execWdogKick key)).mem = true := by
  unfold State.did execWdogKick
  refine onPkg_did_wf _ _ ?_ ?_
  repeat' first
    | with_reducible assumption
    | with_reducible refine keep_wf (State.put_mem _ _ _ _) ?_
    | with_reducible refine State.wdogFire_wf _ ?_
    | with_reducible refine ite_wf' _ _ ?_ ?_

@[simp] theorem State.eachBit_mem (s : State) (n mask : Nat) (f : Nat → State → State) (h : ∀ i a, (f i a).mem = a.mem) :
    (s.eachBit n mask f).mem = s.mem := by
  unfold State.eachBit; exact foldl_mem _ _ _ (fun a x => h x a)

@[simp] theorem State.eachBit_wf (s : State) (n mask : Nat) (f : Nat → State → State) (h : ∀ i a, Memory.wf a.mem = true → Memory.wf (f i a).mem = true)
    (hw : Memory.wf s.mem = true) : Memory.wf (s.eachBit n mask f).mem = true := by
  unfold State.eachBit; exact foldl_wf _ _ _ (fun a x => h x a) hw

@[simp] theorem State.ethWrite_wf (s : State) (d off v : Nat) (hw : Memory.wf s.mem = true) : Memory.wf (State.ethWrite s d off v).mem = true := by simp (maxDischargeDepth := 40) [State.ethWrite, hw]

@[simp] theorem State.serAdmin_wf (s : State) (d p : Nat) (down : Bool) (hw : Memory.wf s.mem = true) : Memory.wf (State.serAdmin s d p down).mem = true := by
  unfold State.serAdmin
  repeat' first
    | with_reducible assumption
    | with_reducible refine State.modSer_wf _ _ _ _ ?_
    | with_reducible refine keep_wf (State.putFlag_mem _ _ _ _) ?_
    | with_reducible refine ite_wf' _ _ ?_ ?_

@[simp] theorem State.serWrite_wf (s : State) (d off v : Nat) (hw : Memory.wf s.mem = true) : Memory.wf (State.serWrite s d off v).mem = true := by simp (maxDischargeDepth := 40) [State.serWrite, hw]

@[simp] theorem State.ttAdmin_wf (s : State) (d : Nat) (down : Bool) (hw : Memory.wf s.mem = true) : Memory.wf (State.ttAdmin s d down).mem = true := by
  unfold State.ttAdmin
  repeat' first
    | with_reducible assumption
    | with_reducible refine keep_wf (State.putFlag_mem _ _ _ _) ?_
    | with_reducible refine State.ttEvent_wf _ _ _ ?_
    | with_reducible refine State.ttHold_wf _ _ ?_
    | with_reducible refine ite_wf' _ _ ?_ ?_

@[simp] theorem State.tteWrite_wf (s : State) (d off v : Nat) (hw : Memory.wf s.mem = true) : Memory.wf (State.tteWrite s d off v).mem = true := by
  unfold State.tteWrite
  repeat' first
    | (intro a x hx)
    | (simp (maxDischargeDepth := 40) [*]; done)
    | split
    | with_reducible apply State.eachBit_wf

@[simp] theorem State.timWrite_wf (s : State) (d off v : Nat) (hw : Memory.wf s.mem = true) : Memory.wf (State.timWrite s d off v).mem = true := by
  unfold State.timWrite
  repeat' first
    | (simp (maxDischargeDepth := 40) [*]; done)
    | split

@[simp] theorem State.lceWrite_wf (s : State) (d off v : Nat) (hw : Memory.wf s.mem = true) : Memory.wf (State.lceWrite s d off v).mem = true := by
  unfold State.lceWrite
  repeat' first
    | with_reducible assumption
    | with_reducible refine State.cue_wf _ _ _ _ _ ?_
    | with_reducible refine State.divWrite_wf _ _ _ _ ?_
    | with_reducible refine State.lcePush_wf _ _ _ _ ?_
    | with_reducible refine keep_wf (State.loopDef_mem _ _ _ _ _ _) ?_
    | with_reducible refine keep_wf (State.rawWrite_mem _ _ _ _) ?_
    | with_reducible refine ite_wf' _ _ ?_ ?_

@[simp] theorem State.dmaWrite'_wf (s : State) (d off v : Nat) (hw : Memory.wf s.mem = true) : Memory.wf (State.dmaWrite' s d off v).mem = true := by
  unfold State.dmaWrite'
  repeat' first
    | with_reducible assumption
    | with_reducible refine State.dmaAbort_wf _ _ _ ?_
    | with_reducible refine State.dmaChReset_wf _ _ _ ?_
    | with_reducible refine keep_wf (State.rawWrite_mem _ _ _ _) ?_
    | with_reducible refine ite_wf' _ _ ?_ ?_

@[simp] theorem State.ercWrite_wf (s : State) (d off v : Nat) (env : WriteEnv) (hw : Memory.wf s.mem = true) : Memory.wf (State.ercWrite s d off v env).mem = true := by simp (maxDischargeDepth := 40) [State.ercWrite, hw]

@[simp] theorem State.dptWrite_mem (s : State) (d off v : Nat) : (State.dptWrite s d off v).mem = s.mem := by
  unfold State.dptWrite
  repeat' first
    | with_reducible rfl
    | with_reducible refine Eq.trans (State.noticeAdvance_mem _ _ _ _) ?_
    | with_reducible refine Eq.trans (State.putFlag_mem _ _ _ _) ?_
    | with_reducible refine Eq.trans (State.rawWrite_mem _ _ _ _) ?_
    | with_reducible refine ite_mem' _ _ ?_ ?_

@[simp] theorem State.vatWrite'_wf (s : State) (d off v : Nat) (env : WriteEnv) (hw : Memory.wf s.mem = true) : Memory.wf (State.vatWrite' s d off v env).mem = true := by simp (maxDischargeDepth := 40) [State.vatWrite', hw]

@[simp] theorem State.awlWrite_wf (s : State) (d off v : Nat) (env : WriteEnv) (hw : Memory.wf s.mem = true) : Memory.wf (State.awlWrite s d off v env).mem = true := by simp (maxDischargeDepth := 40) [State.awlWrite, hw]

@[simp] theorem State.harWrite_wf (s : State) (d off v : Nat) (hw : Memory.wf s.mem = true) : Memory.wf (State.harWrite s d off v).mem = true := by
  unfold State.harWrite
  repeat' first
    | (simp (maxDischargeDepth := 40) [*]; done)
    | split

@[simp] theorem State.tenWrite_wf (s : State) (d off v : Nat) (hw : Memory.wf s.mem = true) : Memory.wf (State.tenWrite s d off v).mem = true := by
  unfold State.tenWrite
  repeat' first
    | (simp (maxDischargeDepth := 40) [*]; done)
    | split

@[simp] theorem State.pwrWrite_wf (s : State) (d off v : Nat) (hw : Memory.wf s.mem = true) : Memory.wf (State.pwrWrite s d off v).mem = true := by
  unfold State.pwrWrite
  repeat' first
    | (simp (maxDischargeDepth := 40) [*]; done)
    | split

@[simp] theorem State.rcvWrite_wf (s : State) (d off v trig : Nat) (hw : Memory.wf s.mem = true) : Memory.wf (State.rcvWrite s d off v trig).mem = true := by
  unfold State.rcvWrite
  repeat' first
    | (simp (maxDischargeDepth := 40) [*]; done)
    | split

@[simp] theorem State.reiWrite_mem (s : State) (d off v : Nat) : (State.reiWrite s d off v).mem = s.mem := by
  unfold State.reiWrite
  repeat' first
    | with_reducible rfl
    | with_reducible refine Eq.trans (State.mgmtStart_mem _) ?_
    | with_reducible refine Eq.trans (State.rawWrite_mem _ _ _ _) ?_
    | with_reducible refine Eq.trans (State.reinResetNow_mem _) ?_
    | with_reducible refine ite_mem' _ _ ?_ ?_

@[simp] theorem State.arcWrite_wf (s : State) (d off v trig : Nat) (hw : Memory.wf s.mem = true) : Memory.wf (State.arcWrite s d off v trig).mem = true := by
  unfold State.arcWrite
  repeat' first
    | with_reducible assumption
    | (intro a x hx)
    | with_reducible refine State.condFault_wf _ _ _ _ _ ?_
    | with_reducible refine State.eachBit_wf _ _ _ _ ?_ ?_
    | with_reducible refine keep_wf (State.rawWrite_mem _ _ _ _) ?_
    | with_reducible refine State.regionReset_wf _ _ _ _ _ ?_
    | with_reducible refine ite_wf' _ _ ?_ ?_

@[simp] theorem State.regWrite_wf (s : State) (d off v trig : Nat) (env : WriteEnv) (hw : Memory.wf s.mem = true) : Memory.wf (State.regWrite s d off v trig env).mem = true := by
  unfold State.regWrite
  repeat' first
    | with_reducible assumption
    | with_reducible refine State.arcWrite_wf _ _ _ _ _ ?_
    | with_reducible refine State.awlWrite_wf _ _ _ _ _ ?_
    | with_reducible refine keep_wf (State.calWrite_mem _ _ _) ?_
    | with_reducible refine State.dmaWrite'_wf _ _ _ _ ?_
    | with_reducible refine keep_wf (State.dptWrite_mem _ _ _ _) ?_
    | with_reducible refine State.ercWrite_wf _ _ _ _ _ ?_
    | with_reducible refine State.ethWrite_wf _ _ _ _ ?_
    | with_reducible refine State.harWrite_wf _ _ _ _ ?_
    | with_reducible refine State.lceWrite_wf _ _ _ _ ?_
    | with_reducible refine keep_wf (State.padWrite_mem _ _ _ _) ?_
    | with_reducible refine State.pwrWrite_wf _ _ _ _ ?_
    | with_reducible refine keep_wf (State.rawWrite_mem _ _ _ _) ?_
    | with_reducible refine State.rcvWrite_wf _ _ _ _ _ ?_
    | with_reducible refine keep_wf (State.reiWrite_mem _ _ _ _) ?_
    | with_reducible refine State.serWrite_wf _ _ _ _ ?_
    | with_reducible refine State.tenWrite_wf _ _ _ _ ?_
    | with_reducible refine State.timWrite_wf _ _ _ _ ?_
    | with_reducible refine keep_wf (State.tshWrite_mem _ _ _ _) ?_
    | with_reducible refine State.tteWrite_wf _ _ _ _ ?_
    | with_reducible refine State.vatWrite'_wf _ _ _ _ _ ?_
    | with_reducible refine ite_wf' _ _ ?_ ?_
    | split

@[simp] theorem State.ctlRead_wf (s : State) (d off : Nat) (hw : Memory.wf s.mem = true) : Memory.wf (State.ctlRead s d off).2.mem = true := by
  unfold State.ctlRead
  repeat' first
    | (simp (maxDischargeDepth := 40) [*]; done)
    | split

@[simp] theorem State.ctlRead64_wf (s : State) (d off : Nat) (hw : Memory.wf s.mem = true) : Memory.wf (State.ctlRead64 s d off).2.mem = true := by
  unfold State.ctlRead64
  repeat' first
    | (simp (maxDischargeDepth := 40) [*]; done)
    | split

@[simp] theorem State.ctlPut_wf (s : State) (d off v trig : Nat) (env : WriteEnv) (hw : Memory.wf s.mem = true) : Memory.wf (State.ctlPut s d off v trig env).2.mem = true := by
  unfold State.ctlPut
  repeat' first
    | with_reducible assumption
    | with_reducible refine keep_wf (State.fenceRefused_mem _ _ _) ?_
    | with_reducible refine keep_wf (State.msixAgain_mem _ _) ?_
    | with_reducible refine keep_wf (State.msixScan_mem _) ?_
    | with_reducible refine keep_wf (State.msixWrite_mem _ _ _ _) ?_
    | with_reducible refine State.regWrite_wf _ _ _ _ _ _ ?_
    | with_reducible refine ite_wf' _ _ ?_ ?_
    | with_reducible refine ite_snd_wf _ _ ?_ ?_
    | dsimp only
    | split

end Sys2Proof.Machine
end

