-- ==== Sys2Proof/Laws/ExecVatAccess.lean ====
section
/-! SUPPORT. The commands of Machine/Access keep the form of the Vat. -/

namespace Sys2Proof.Machine

theorem execRegisterWrite_wf (d : Die) (off : Nat) (v : BitVec 32) (s : State) (s' : State) (h : execRegisterWrite d off v s = .next s') (hw : Memory.wf s.mem = true) : Memory.wf s'.mem = true := by
  unfold execRegisterWrite at h
  refine onDie_wf h hw ?_
  repeat' first
    | with_reducible assumption
    | with_reducible refine State.ctlPut_wf _ _ _ _ _ _ ?_
    | with_reducible refine ite_wf' _ _ ?_ ?_

theorem execReadClear_wf (d : Die) (off : Nat) (wide : Bool) (s : State) (s' : State) (h : execReadClear d off wide s = .next s') (hw : Memory.wf s.mem = true) : Memory.wf s'.mem = true := by
  unfold execReadClear at h
  refine onDie_wf h hw ?_
  repeat' first
    | with_reducible assumption
    | with_reducible refine State.ctlRead_wf _ _ _ ?_
    | with_reducible refine State.ctlRead64_wf _ _ _ ?_
    | with_reducible refine ite_wf' _ _ ?_ ?_
    | with_reducible refine ite_snd_wf _ _ ?_ ?_

end Sys2Proof.Machine
end

