-- ==== Sys2Proof/Laws/KeepVatArch.lean ====
section
/-! SUPPORT. What the functions of Machine/Arch do to the Vat: those that store nothing leave it, the others keep its form. -/

namespace Sys2Proof.Machine

@[simp] theorem State.paceWindow_mem (s : State) (d : Nat) (counts : List Nat) : (State.paceWindow s d counts).mem = s.mem := by
  unfold State.paceWindow
  repeat' first
    | with_reducible rfl
    | with_reducible refine Eq.trans (State.boundWindow_mem _) ?_
    | with_reducible refine Eq.trans (State.paces_mem _ _ _ _) ?_
    | with_reducible refine Eq.trans (State.put_mem _ _ _ _) ?_

@[simp] theorem State.boundHold_mem (s : State) : (State.boundHold s).mem = s.mem := by
  unfold State.boundHold
  repeat' first
    | with_reducible rfl
    | with_reducible refine Eq.trans (State.setBound_mem _ _ _) ?_
    | with_reducible refine ite_mem' _ _ ?_ ?_
    | split

@[simp] theorem State.skew_wf (s : State) (d : Nat) (ps : Int) (hw : Memory.wf s.mem = true) : Memory.wf (State.skew s d ps).mem = true := by
  unfold State.skew
  repeat' first
    | with_reducible assumption
    | with_reducible refine State.condFault_wf _ _ _ _ _ ?_
    | with_reducible refine keep_wf (State.put_mem _ _ _ _) ?_
    | with_reducible refine keep_wf (State.putFlag_mem _ _ _ _) ?_
    | with_reducible refine ite_wf' _ _ ?_ ?_

end Sys2Proof.Machine
end

