-- ==== Sys2Proof/Laws/ExecVatArch.lean ====
section
/-! SUPPORT. The commands of Machine/Arch keep the form of the Vat. -/

namespace Sys2Proof.Machine

theorem execPaceWindowEnd_wf (d : Die) (c0 c1 c2 c3 spine : Fin 65536) (s : State) (s' : State) (h : execPaceWindowEnd d c0 c1 c2 c3 spine s = .next s') (hw : Memory.wf s.mem = true) : Memory.wf s'.mem = true := by
  unfold execPaceWindowEnd at h
  refine onDie_wf h hw ?_
  repeat' first
    | with_reducible assumption
    | with_reducible refine keep_wf (State.paceWindow_mem _ _ _) ?_

theorem execBoundHoldExpire_wf (s : State) (s' : State) (h : execBoundHoldExpire s = .next s') (hw : Memory.wf s.mem = true) : Memory.wf s'.mem = true := by
  unfold execBoundHoldExpire at h
  refine onPkg_wf h hw ?_
  repeat' first
    | with_reducible assumption
    | with_reducible refine keep_wf (State.boundHold_mem _) ?_

theorem execSkewMeasure_wf (d : Die) (ps : Int) (s : State) (s' : State) (h : execSkewMeasure d ps s = .next s') (hw : Memory.wf s.mem = true) : Memory.wf s'.mem = true := by
  unfold execSkewMeasure at h
  refine onDie_wf h hw ?_
  repeat' first
    | with_reducible assumption
    | with_reducible refine State.skew_wf _ _ _ ?_

end Sys2Proof.Machine
end

