-- ==== Sys2Proof/Laws/KeepVatAwl.lean ====
section
/-! SUPPORT. What the functions of Machine/Awl do to the Vat: those that store nothing leave it, the others keep its form. -/

namespace Sys2Proof.Machine

@[simp] theorem mulBody_mem (d e : Nat) (f : Eng → W16 → W16 → Nat) (s : State) : (mulBody d e f s).state.mem = s.mem := by simp [mulBody]

@[simp] theorem fmtBody_mem (fmt : Nat) (k : State → AwlOut) (s : State) (h : (k s).state.mem = s.mem) :
    (fmtBody fmt k s).state.mem = s.mem := by
  unfold fmtBody; split <;> simp (maxDischargeDepth := 40) [h]

@[simp] theorem fmtBody_wf (fmt : Nat) (k : State → AwlOut) (s : State) (hw : Memory.wf s.mem = true) (h : Memory.wf (k s).state.mem = true) :
    Memory.wf (fmtBody fmt k s).state.mem = true := by
  unfold fmtBody; split
  · exact hw
  · exact h

@[simp] theorem crcBody_wf (d e fmt : Nat) (s : State) (hw : Memory.wf s.mem = true) : Memory.wf (crcBody d e fmt s).state.mem = true := by
  unfold crcBody
  repeat' first
    | with_reducible assumption
    | with_reducible refine trap_wf _ _ _ _ _ ?_
    | with_reducible refine ite_awl_wf _ _ ?_ ?_
    | with_reducible refine keep_wf (aluBody_mem _ _ _ _ _ _) ?_

end Sys2Proof.Machine
end

