-- ==== Sys2Proof/Laws/ExecVatAwl.lean ====
section
/-! SUPPORT. The commands of Machine/Awl keep the form of the Vat. -/

namespace Sys2Proof.Machine

theorem execAwlNop_wf (d : Die) (e : Engine) (c : Fin 8) (s : State) (s' : State) (h : execAwlNop d e c s = .next s') (hw : Memory.wf s.mem = true) : Memory.wf s'.mem = true := by
  unfold execAwlNop at h
  refine awlInstr_wf h hw ?_
  repeat' first
    | with_reducible assumption
    | intro _
    | with_reducible refine keep_wf (aluBody_mem _ _ _ _ _ _) ?_

theorem execAwlDrop_wf (d : Die) (e : Engine) (c : Fin 8) (s : State) (s' : State) (h : execAwlDrop d e c s = .next s') (hw : Memory.wf s.mem = true) : Memory.wf s'.mem = true := by
  unfold execAwlDrop at h
  refine awlInstr_wf h hw ?_
  repeat' first
    | with_reducible assumption
    | intro _
    | with_reducible refine keep_wf (aluBody_mem _ _ _ _ _ _) ?_

theorem execAwlDup_wf (d : Die) (e : Engine) (c : Fin 8) (s : State) (s' : State) (h : execAwlDup d e c s = .next s') (hw : Memory.wf s.mem = true) : Memory.wf s'.mem = true := by
  unfold execAwlDup at h
  refine awlInstr_wf h hw ?_
  repeat' first
    | with_reducible assumption
    | intro _
    | with_reducible refine keep_wf (aluBody_mem _ _ _ _ _ _) ?_

theorem execAwlSwap_wf (d : Die) (e : Engine) (c : Fin 8) (s : State) (s' : State) (h : execAwlSwap d e c s = .next s') (hw : Memory.wf s.mem = true) : Memory.wf s'.mem = true := by
  unfold execAwlSwap at h
  refine awlInstr_wf h hw ?_
  repeat' first
    | with_reducible assumption
    | intro _
    | with_reducible refine keep_wf (aluBody_mem _ _ _ _ _ _) ?_

theorem execAwlOver_wf (d : Die) (e : Engine) (c : Fin 8) (s : State) (s' : State) (h : execAwlOver d e c s = .next s') (hw : Memory.wf s.mem = true) : Memory.wf s'.mem = true := by
  unfold execAwlOver at h
  refine awlInstr_wf h hw ?_
  repeat' first
    | with_reducible assumption
    | intro _
    | with_reducible refine keep_wf (aluBody_mem _ _ _ _ _ _) ?_

theorem execAwlRot_wf (d : Die) (e : Engine) (c : Fin 8) (s : State) (s' : State) (h : execAwlRot d e c s = .next s') (hw : Memory.wf s.mem = true) : Memory.wf s'.mem = true := by
  unfold execAwlRot at h
  refine awlInstr_wf h hw ?_
  repeat' first
    | with_reducible assumption
    | intro _
    | with_reducible refine keep_wf (aluBody_mem _ _ _ _ _ _) ?_

theorem execAwlNip_wf (d : Die) (e : Engine) (c : Fin 8) (s : State) (s' : State) (h : execAwlNip d e c s = .next s') (hw : Memory.wf s.mem = true) : Memory.wf s'.mem = true := by
  unfold execAwlNip at h
  refine awlInstr_wf h hw ?_
  repeat' first
    | with_reducible assumption
    | intro _
    | with_reducible refine keep_wf (aluBody_mem _ _ _ _ _ _) ?_

theorem execAwlTuck_wf (d : Die) (e : Engine) (c : Fin 8) (s : State) (s' : State) (h : execAwlTuck d e c s = .next s') (hw : Memory.wf s.mem = true) : Memory.wf s'.mem = true := by
  unfold execAwlTuck at h
  refine awlInstr_wf h hw ?_
  repeat' first
    | with_reducible assumption
    | intro _
    | with_reducible refine keep_wf (aluBody_mem _ _ _ _ _ _) ?_

theorem execAwlDrop2_wf (d : Die) (e : Engine) (c : Fin 8) (s : State) (s' : State) (h : execAwlDrop2 d e c s = .next s') (hw : Memory.wf s.mem = true) : Memory.wf s'.mem = true := by
  unfold execAwlDrop2 at h
  refine awlInstr_wf h hw ?_
  repeat' first
    | with_reducible assumption
    | intro _
    | with_reducible refine keep_wf (aluBody_mem _ _ _ _ _ _) ?_

theorem execAwlDup2_wf (d : Die) (e : Engine) (c : Fin 8) (s : State) (s' : State) (h : execAwlDup2 d e c s = .next s') (hw : Memory.wf s.mem = true) : Memory.wf s'.mem = true := by
  unfold execAwlDup2 at h
  refine awlInstr_wf h hw ?_
  repeat' first
    | with_reducible assumption
    | intro _
    | with_reducible refine keep_wf (aluBody_mem _ _ _ _ _ _) ?_

theorem execAwlOver2_wf (d : Die) (e : Engine) (c : Fin 8) (s : State) (s' : State) (h : execAwlOver2 d e c s = .next s') (hw : Memory.wf s.mem = true) : Memory.wf s'.mem = true := by
  unfold execAwlOver2 at h
  refine awlInstr_wf h hw ?_
  repeat' first
    | with_reducible assumption
    | intro _
    | with_reducible refine keep_wf (aluBody_mem _ _ _ _ _ _) ?_

theorem execAwlSwap2_wf (d : Die) (e : Engine) (c : Fin 8) (s : State) (s' : State) (h : execAwlSwap2 d e c s = .next s') (hw : Memory.wf s.mem = true) : Memory.wf s'.mem = true := by
  unfold execAwlSwap2 at h
  refine awlInstr_wf h hw ?_
  repeat' first
    | with_reducible assumption
    | intro _
    | with_reducible refine keep_wf (aluBody_mem _ _ _ _ _ _) ?_

theorem execAwlTor_wf (d : Die) (e : Engine) (c : Fin 8) (s : State) (s' : State) (h : execAwlTor d e c s = .next s') (hw : Memory.wf s.mem = true) : Memory.wf s'.mem = true := by
  unfold execAwlTor at h
  refine awlInstr_wf h hw ?_
  repeat' first
    | with_reducible assumption
    | intro _
    | with_reducible refine next_wf _ _ ?_
    | with_reducible refine checked_wf _ _ _ _ _ _ _ _ ?_ ?_
    | with_reducible refine keep_wf (State.setEng_mem _ _ _ _) ?_

theorem execAwlFromr_wf (d : Die) (e : Engine) (c : Fin 8) (s : State) (s' : State) (h : execAwlFromr d e c s = .next s') (hw : Memory.wf s.mem = true) : Memory.wf s'.mem = true := by
  unfold execAwlFromr at h
  refine awlInstr_wf h hw ?_
  repeat' first
    | with_reducible assumption
    | intro _
    | with_reducible refine next_wf _ _ ?_
    | with_reducible refine checked_wf _ _ _ _ _ _ _ _ ?_ ?_
    | with_reducible refine keep_wf (State.setEng_mem _ _ _ _) ?_

theorem execAwlRfetch_wf (d : Die) (e : Engine) (c : Fin 8) (s : State) (s' : State) (h : execAwlRfetch d e c s = .next s') (hw : Memory.wf s.mem = true) : Memory.wf s'.mem = true := by
  unfold execAwlRfetch at h
  refine awlInstr_wf h hw ?_
  repeat' first
    | with_reducible assumption
    | intro _
    | with_reducible refine next_wf _ _ ?_
    | with_reducible refine checked_wf _ _ _ _ _ _ _ _ ?_ ?_
    | with_reducible refine keep_wf (State.setEng_mem _ _ _ _) ?_

theorem execAwlPick_wf (d : Die) (e : Engine) (c : Fin 8) (n : Fin 16) (s : State) (s' : State) (h : execAwlPick d e c n s = .next s') (hw : Memory.wf s.mem = true) : Memory.wf s'.mem = true := by
  unfold execAwlPick at h
  refine awlInstr_wf h hw ?_
  repeat' first
    | with_reducible assumption
    | intro _
    | with_reducible refine next_wf _ _ ?_
    | with_reducible refine checked_wf _ _ _ _ _ _ _ _ ?_ ?_
    | with_reducible refine keep_wf (State.setEng_mem _ _ _ _) ?_

theorem execAwlAdd_wf (d : Die) (e : Engine) (c : Fin 8) (s : State) (s' : State) (h : execAwlAdd d e c s = .next s') (hw : Memory.wf s.mem = true) : Memory.wf s'.mem = true := by
  unfold execAwlAdd at h
  refine awlInstr_wf h hw ?_
  repeat' first
    | with_reducible assumption
    | intro _
    | with_reducible refine keep_wf (aluBody_mem _ _ _ _ _ _) ?_

theorem execAwlAdc_wf (d : Die) (e : Engine) (c : Fin 8) (s : State) (s' : State) (h : execAwlAdc d e c s = .next s') (hw : Memory.wf s.mem = true) : Memory.wf s'.mem = true := by
  unfold execAwlAdc at h
  refine awlInstr_wf h hw ?_
  repeat' first
    | with_reducible assumption
    | intro _
    | with_reducible refine keep_wf (aluBody_mem _ _ _ _ _ _) ?_

theorem execAwlSub_wf (d : Die) (e : Engine) (c : Fin 8) (s : State) (s' : State) (h : execAwlSub d e c s = .next s') (hw : Memory.wf s.mem = true) : Memory.wf s'.mem = true := by
  unfold execAwlSub at h
  refine awlInstr_wf h hw ?_
  repeat' first
    | with_reducible assumption
    | intro _
    | with_reducible refine keep_wf (aluBody_mem _ _ _ _ _ _) ?_

theorem execAwlSbc_wf (d : Die) (e : Engine) (c : Fin 8) (s : State) (s' : State) (h : execAwlSbc d e c s = .next s') (hw : Memory.wf s.mem = true) : Memory.wf s'.mem = true := by
  unfold execAwlSbc at h
  refine awlInstr_wf h hw ?_
  repeat' first
    | with_reducible assumption
    | intro _
    | with_reducible refine keep_wf (aluBody_mem _ _ _ _ _ _) ?_

theorem execAwlAnd_wf (d : Die) (e : Engine) (c : Fin 8) (s : State) (s' : State) (h : execAwlAnd d e c s = .next s') (hw : Memory.wf s.mem = true) : Memory.wf s'.mem = true := by
  unfold execAwlAnd at h
  refine awlInstr_wf h hw ?_
  repeat' first
    | with_reducible assumption
    | intro _
    | with_reducible refine keep_wf (aluBody_mem _ _ _ _ _ _) ?_

theorem execAwlOr_wf (d : Die) (e : Engine) (c : Fin 8) (s : State) (s' : State) (h : execAwlOr d e c s = .next s') (hw : Memory.wf s.mem = true) : Memory.wf s'.mem = true := by
  unfold execAwlOr at h
  refine awlInstr_wf h hw ?_
  repeat' first
    | with_reducible assumption
    | intro _
    | with_reducible refine keep_wf (aluBody_mem _ _ _ _ _ _) ?_

theorem execAwlXor_wf (d : Die) (e : Engine) (c : Fin 8) (s : State) (s' : State) (h : execAwlXor d e c s = .next s') (hw : Memory.wf s.mem = true) : Memory.wf s'.mem = true := by
  unfold execAwlXor at h
  refine awlInstr_wf h hw ?_
  repeat' first
    | with_reducible assumption
    | intro _
    | with_reducible refine keep_wf (aluBody_mem _ _ _ _ _ _) ?_

theorem execAwlNot_wf (d : Die) (e : Engine) (c : Fin 8) (s : State) (s' : State) (h : execAwlNot d e c s = .next s') (hw : Memory.wf s.mem = true) : Memory.wf s'.mem = true := by
  unfold execAwlNot at h
  refine awlInstr_wf h hw ?_
  repeat' first
    | with_reducible assumption
    | intro _
    | with_reducible refine keep_wf (aluBody_mem _ _ _ _ _ _) ?_

theorem execAwlNeg_wf (d : Die) (e : Engine) (c : Fin 8) (s : State) (s' : State) (h : execAwlNeg d e c s = .next s') (hw : Memory.wf s.mem = true) : Memory.wf s'.mem = true := by
  unfold execAwlNeg at h
  refine awlInstr_wf h hw ?_
  repeat' first
    | with_reducible assumption
    | intro _
    | with_reducible refine keep_wf (aluBody_mem _ _ _ _ _ _) ?_

theorem execAwlInc_wf (d : Die) (e : Engine) (c : Fin 8) (s : State) (s' : State) (h : execAwlInc d e c s = .next s') (hw : Memory.wf s.mem = true) : Memory.wf s'.mem = true := by
  unfold execAwlInc at h
  refine awlInstr_wf h hw ?_
  repeat' first
    | with_reducible assumption
    | intro _
    | with_reducible refine keep_wf (aluBody_mem _ _ _ _ _ _) ?_

theorem execAwlDec_wf (d : Die) (e : Engine) (c : Fin 8) (s : State) (s' : State) (h : execAwlDec d e c s = .next s') (hw : Memory.wf s.mem = true) : Memory.wf s'.mem = true := by
  unfold execAwlDec at h
  refine awlInstr_wf h hw ?_
  repeat' first
    | with_reducible assumption
    | intro _
    | with_reducible refine keep_wf (aluBody_mem _ _ _ _ _ _) ?_

theorem execAwlCmp_wf (d : Die) (e : Engine) (c : Fin 8) (s : State) (s' : State) (h : execAwlCmp d e c s = .next s') (hw : Memory.wf s.mem = true) : Memory.wf s'.mem = true := by
  unfold execAwlCmp at h
  refine awlInstr_wf h hw ?_
  repeat' first
    | with_reducible assumption
    | intro _
    | with_reducible refine keep_wf (aluBody_mem _ _ _ _ _ _) ?_

theorem execAwlAdd2_wf (d : Die) (e : Engine) (c : Fin 8) (s : State) (s' : State) (h : execAwlAdd2 d e c s = .next s') (hw : Memory.wf s.mem = true) : Memory.wf s'.mem = true := by
  unfold execAwlAdd2 at h
  refine awlInstr_wf h hw ?_
  repeat' first
    | with_reducible assumption
    | intro _
    | with_reducible refine keep_wf (aluBody_mem _ _ _ _ _ _) ?_

theorem execAwlSub2_wf (d : Die) (e : Engine) (c : Fin 8) (s : State) (s' : State) (h : execAwlSub2 d e c s = .next s') (hw : Memory.wf s.mem = true) : Memory.wf s'.mem = true := by
  unfold execAwlSub2 at h
  refine awlInstr_wf h hw ?_
  repeat' first
    | with_reducible assumption
    | intro _
    | with_reducible refine keep_wf (aluBody_mem _ _ _ _ _ _) ?_

theorem execAwlCmp2_wf (d : Die) (e : Engine) (c : Fin 8) (s : State) (s' : State) (h : execAwlCmp2 d e c s = .next s') (hw : Memory.wf s.mem = true) : Memory.wf s'.mem = true := by
  unfold execAwlCmp2 at h
  refine awlInstr_wf h hw ?_
  repeat' first
    | with_reducible assumption
    | intro _
    | with_reducible refine keep_wf (aluBody_mem _ _ _ _ _ _) ?_

theorem execAwlSwab_wf (d : Die) (e : Engine) (c : Fin 8) (s : State) (s' : State) (h : execAwlSwab d e c s = .next s') (hw : Memory.wf s.mem = true) : Memory.wf s'.mem = true := by
  unfold execAwlSwab at h
  refine awlInstr_wf h hw ?_
  repeat' first
    | with_reducible assumption
    | intro _
    | with_reducible refine keep_wf (aluBody_mem _ _ _ _ _ _) ?_

theorem execAwlSext8_wf (d : Die) (e : Engine) (c : Fin 8) (s : State) (s' : State) (h : execAwlSext8 d e c s = .next s') (hw : Memory.wf s.mem = true) : Memory.wf s'.mem = true := by
  unfold execAwlSext8 at h
  refine awlInstr_wf h hw ?_
  repeat' first
    | with_reducible assumption
    | intro _
    | with_reducible refine keep_wf (aluBody_mem _ _ _ _ _ _) ?_

theorem execAwlZext8_wf (d : Die) (e : Engine) (c : Fin 8) (s : State) (s' : State) (h : execAwlZext8 d e c s = .next s') (hw : Memory.wf s.mem = true) : Memory.wf s'.mem = true := by
  unfold execAwlZext8 at h
  refine awlInstr_wf h hw ?_
  repeat' first
    | with_reducible assumption
    | intro _
    | with_reducible refine keep_wf (aluBody_mem _ _ _ _ _ _) ?_

theorem execAwlShl_wf (d : Die) (e : Engine) (c : Fin 8) (k : Fin 16) (s : State) (s' : State) (h : execAwlShl d e c k s = .next s') (hw : Memory.wf s.mem = true) : Memory.wf s'.mem = true := by
  unfold execAwlShl at h
  refine awlInstr_wf h hw ?_
  repeat' first
    | with_reducible assumption
    | intro _
    | with_reducible refine keep_wf (aluBody_mem _ _ _ _ _ _) ?_

theorem execAwlShr_wf (d : Die) (e : Engine) (c : Fin 8) (k : Fin 16) (s : State) (s' : State) (h : execAwlShr d e c k s = .next s') (hw : Memory.wf s.mem = true) : Memory.wf s'.mem = true := by
  unfold execAwlShr at h
  refine awlInstr_wf h hw ?_
  repeat' first
    | with_reducible assumption
    | intro _
    | with_reducible refine keep_wf (aluBody_mem _ _ _ _ _ _) ?_

theorem execAwlSar_wf (d : Die) (e : Engine) (c : Fin 8) (k : Fin 16) (s : State) (s' : State) (h : execAwlSar d e c k s = .next s') (hw : Memory.wf s.mem = true) : Memory.wf s'.mem = true := by
  unfold execAwlSar at h
  refine awlInstr_wf h hw ?_
  repeat' first
    | with_reducible assumption
    | intro _
    | with_reducible refine keep_wf (aluBody_mem _ _ _ _ _ _) ?_

theorem execAwlRol_wf (d : Die) (e : Engine) (c : Fin 8) (k : Fin 16) (s : State) (s' : State) (h : execAwlRol d e c k s = .next s') (hw : Memory.wf s.mem = true) : Memory.wf s'.mem = true := by
  unfold execAwlRol at h
  refine awlInstr_wf h hw ?_
  repeat' first
    | with_reducible assumption
    | intro _
    | with_reducible refine keep_wf (aluBody_mem _ _ _ _ _ _) ?_

theorem execAwlShlv_wf (d : Die) (e : Engine) (c : Fin 8) (s : State) (s' : State) (h : execAwlShlv d e c s = .next s') (hw : Memory.wf s.mem = true) : Memory.wf s'.mem = true := by
  unfold execAwlShlv at h
  refine awlInstr_wf h hw ?_
  repeat' first
    | with_reducible assumption
    | intro _
    | with_reducible refine keep_wf (aluBody_mem _ _ _ _ _ _) ?_

theorem execAwlShrv_wf (d : Die) (e : Engine) (c : Fin 8) (s : State) (s' : State) (h : execAwlShrv d e c s = .next s') (hw : Memory.wf s.mem = true) : Memory.wf s'.mem = true := by
  unfold execAwlShrv at h
  refine awlInstr_wf h hw ?_
  repeat' first
    | with_reducible assumption
    | intro _
    | with_reducible refine keep_wf (aluBody_mem _ _ _ _ _ _) ?_

theorem execAwlSarv_wf (d : Die) (e : Engine) (c : Fin 8) (s : State) (s' : State) (h : execAwlSarv d e c s = .next s') (hw : Memory.wf s.mem = true) : Memory.wf s'.mem = true := by
  unfold execAwlSarv at h
  refine awlInstr_wf h hw ?_
  repeat' first
    | with_reducible assumption
    | intro _
    | with_reducible refine keep_wf (aluBody_mem _ _ _ _ _ _) ?_

theorem execAwlRolv_wf (d : Die) (e : Engine) (c : Fin 8) (s : State) (s' : State) (h : execAwlRolv d e c s = .next s') (hw : Memory.wf s.mem = true) : Memory.wf s'.mem = true := by
  unfold execAwlRolv at h
  refine awlInstr_wf h hw ?_
  repeat' first
    | with_reducible assumption
    | intro _
    | with_reducible refine keep_wf (aluBody_mem _ _ _ _ _ _) ?_

theorem execAwlMul_wf (d : Die) (e : Engine) (c : Fin 8) (s : State) (s' : State) (h : execAwlMul d e c s = .next s') (hw : Memory.wf s.mem = true) : Memory.wf s'.mem = true := by
  unfold execAwlMul at h
  refine awlInstr_wf h hw ?_
  repeat' first
    | with_reducible assumption
    | intro _
    | with_reducible refine keep_wf (mulBody_mem _ _ _ _) ?_

theorem execAwlMuls_wf (d : Die) (e : Engine) (c : Fin 8) (s : State) (s' : State) (h : execAwlMuls d e c s = .next s') (hw : Memory.wf s.mem = true) : Memory.wf s'.mem = true := by
  unfold execAwlMuls at h
  refine awlInstr_wf h hw ?_
  repeat' first
    | with_reducible assumption
    | intro _
    | with_reducible refine keep_wf (mulBody_mem _ _ _ _) ?_

theorem execAwlMacc_wf (d : Die) (e : Engine) (c : Fin 8) (s : State) (s' : State) (h : execAwlMacc d e c s = .next s') (hw : Memory.wf s.mem = true) : Memory.wf s'.mem = true := by
  unfold execAwlMacc at h
  refine awlInstr_wf h hw ?_
  repeat' first
    | with_reducible assumption
    | intro _
    | with_reducible refine keep_wf (mulBody_mem _ _ _ _) ?_

theorem execAwlMaccs_wf (d : Die) (e : Engine) (c : Fin 8) (s : State) (s' : State) (h : execAwlMaccs d e c s = .next s') (hw : Memory.wf s.mem = true) : Memory.wf s'.mem = true := by
  unfold execAwlMaccs at h
  refine awlInstr_wf h hw ?_
  repeat' first
    | with_reducible assumption
    | intro _
    | with_reducible refine keep_wf (mulBody_mem _ _ _ _) ?_

theorem execAwlMclr_wf (d : Die) (e : Engine) (c : Fin 8) (s : State) (s' : State) (h : execAwlMclr d e c s = .next s') (hw : Memory.wf s.mem = true) : Memory.wf s'.mem = true := by
  unfold execAwlMclr at h
  refine awlInstr_wf h hw ?_
  repeat' first
    | with_reducible assumption
    | intro _
    | with_reducible refine next_wf _ _ ?_
    | with_reducible refine checked_wf _ _ _ _ _ _ _ _ ?_ ?_
    | with_reducible refine keep_wf (State.setEng_mem _ _ _ _) ?_

theorem execAwlLit_wf (d : Die) (e : Engine) (c : Fin 8) (v : BitVec 11) (s : State) (s' : State) (h : execAwlLit d e c v s = .next s') (hw : Memory.wf s.mem = true) : Memory.wf s'.mem = true := by
  unfold execAwlLit at h
  refine awlInstr_wf h hw ?_
  repeat' first
    | with_reducible assumption
    | intro _
    | with_reducible refine keep_wf (aluBody_mem _ _ _ _ _ _) ?_

theorem execAwlLitx_wf (d : Die) (e : Engine) (c : Fin 8) (n : Fin 16) (s : State) (s' : State) (h : execAwlLitx d e c n s = .next s') (hw : Memory.wf s.mem = true) : Memory.wf s'.mem = true := by
  unfold execAwlLitx at h
  refine awlInstr_wf h hw ?_
  repeat' first
    | with_reducible assumption
    | intro _
    | with_reducible refine keep_wf (aluBody_mem _ _ _ _ _ _) ?_

theorem execAwlBtst_wf (d : Die) (e : Engine) (c : Fin 8) (b : Fin 16) (s : State) (s' : State) (h : execAwlBtst d e c b s = .next s') (hw : Memory.wf s.mem = true) : Memory.wf s'.mem = true := by
  unfold execAwlBtst at h
  refine awlInstr_wf h hw ?_
  repeat' first
    | with_reducible assumption
    | intro _
    | with_reducible refine keep_wf (aluBody_mem _ _ _ _ _ _) ?_

theorem execAwlTeq_wf (d : Die) (e : Engine) (c : Fin 8) (s : State) (s' : State) (h : execAwlTeq d e c s = .next s') (hw : Memory.wf s.mem = true) : Memory.wf s'.mem = true := by
  unfold execAwlTeq at h
  refine awlInstr_wf h hw ?_
  repeat' first
    | with_reducible assumption
    | intro _
    | with_reducible refine keep_wf (aluBody_mem _ _ _ _ _ _) ?_

theorem execAwlTne_wf (d : Die) (e : Engine) (c : Fin 8) (s : State) (s' : State) (h : execAwlTne d e c s = .next s') (hw : Memory.wf s.mem = true) : Memory.wf s'.mem = true := by
  unfold execAwlTne at h
  refine awlInstr_wf h hw ?_
  repeat' first
    | with_reducible assumption
    | intro _
    | with_reducible refine keep_wf (aluBody_mem _ _ _ _ _ _) ?_

theorem execAwlTltu_wf (d : Die) (e : Engine) (c : Fin 8) (s : State) (s' : State) (h : execAwlTltu d e c s = .next s') (hw : Memory.wf s.mem = true) : Memory.wf s'.mem = true := by
  unfold execAwlTltu at h
  refine awlInstr_wf h hw ?_
  repeat' first
    | with_reducible assumption
    | intro _
    | with_reducible refine keep_wf (aluBody_mem _ _ _ _ _ _) ?_

theorem execAwlTlts_wf (d : Die) (e : Engine) (c : Fin 8) (s : State) (s' : State) (h : execAwlTlts d e c s = .next s') (hw : Memory.wf s.mem = true) : Memory.wf s'.mem = true := by
  unfold execAwlTlts at h
  refine awlInstr_wf h hw ?_
  repeat' first
    | with_reducible assumption
    | intro _
    | with_reducible refine keep_wf (aluBody_mem _ _ _ _ _ _) ?_

theorem execAwlTgeu_wf (d : Die) (e : Engine) (c : Fin 8) (s : State) (s' : State) (h : execAwlTgeu d e c s = .next s') (hw : Memory.wf s.mem = true) : Memory.wf s'.mem = true := by
  unfold execAwlTgeu at h
  refine awlInstr_wf h hw ?_
  repeat' first
    | with_reducible assumption
    | intro _
    | with_reducible refine keep_wf (aluBody_mem _ _ _ _ _ _) ?_

theorem execAwlTges_wf (d : Die) (e : Engine) (c : Fin 8) (s : State) (s' : State) (h : execAwlTges d e c s = .next s') (hw : Memory.wf s.mem = true) : Memory.wf s'.mem = true := by
  unfold execAwlTges at h
  refine awlInstr_wf h hw ?_
  repeat' first
    | with_reducible assumption
    | intro _
    | with_reducible refine keep_wf (aluBody_mem _ _ _ _ _ _) ?_

theorem execAwlTz_wf (d : Die) (e : Engine) (c : Fin 8) (s : State) (s' : State) (h : execAwlTz d e c s = .next s') (hw : Memory.wf s.mem = true) : Memory.wf s'.mem = true := by
  unfold execAwlTz at h
  refine awlInstr_wf h hw ?_
  repeat' first
    | with_reducible assumption
    | intro _
    | with_reducible refine keep_wf (aluBody_mem _ _ _ _ _ _) ?_

theorem execAwlTt_wf (d : Die) (e : Engine) (c : Fin 8) (s : State) (s' : State) (h : execAwlTt d e c s = .next s') (hw : Memory.wf s.mem = true) : Memory.wf s'.mem = true := by
  unfold execAwlTt at h
  refine awlInstr_wf h hw ?_
  repeat' first
    | with_reducible assumption
    | intro _
    | with_reducible refine keep_wf (aluBody_mem _ _ _ _ _ _) ?_

theorem execAwlTeq2_wf (d : Die) (e : Engine) (c : Fin 8) (s : State) (s' : State) (h : execAwlTeq2 d e c s = .next s') (hw : Memory.wf s.mem = true) : Memory.wf s'.mem = true := by
  unfold execAwlTeq2 at h
  refine awlInstr_wf h hw ?_
  repeat' first
    | with_reducible assumption
    | intro _
    | with_reducible refine keep_wf (aluBody_mem _ _ _ _ _ _) ?_

theorem execAwlTltu2_wf (d : Die) (e : Engine) (c : Fin 8) (s : State) (s' : State) (h : execAwlTltu2 d e c s = .next s') (hw : Memory.wf s.mem = true) : Memory.wf s'.mem = true := by
  unfold execAwlTltu2 at h
  refine awlInstr_wf h hw ?_
  repeat' first
    | with_reducible assumption
    | intro _
    | with_reducible refine keep_wf (aluBody_mem _ _ _ _ _ _) ?_

theorem execAwlTin_wf (d : Die) (e : Engine) (c : Fin 8) (s : State) (s' : State) (h : execAwlTin d e c s = .next s') (hw : Memory.wf s.mem = true) : Memory.wf s'.mem = true := by
  unfold execAwlTin at h
  refine awlInstr_wf h hw ?_
  repeat' first
    | with_reducible assumption
    | intro _
    | with_reducible refine keep_wf (aluBody_mem _ _ _ _ _ _) ?_

theorem execAwlTset_wf (d : Die) (e : Engine) (c : Fin 8) (s : State) (s' : State) (h : execAwlTset d e c s = .next s') (hw : Memory.wf s.mem = true) : Memory.wf s'.mem = true := by
  unfold execAwlTset at h
  refine awlInstr_wf h hw ?_
  repeat' first
    | with_reducible assumption
    | intro _
    | with_reducible refine keep_wf (aluBody_mem _ _ _ _ _ _) ?_

theorem execAwlTclr_wf (d : Die) (e : Engine) (c : Fin 8) (s : State) (s' : State) (h : execAwlTclr d e c s = .next s') (hw : Memory.wf s.mem = true) : Memory.wf s'.mem = true := by
  unfold execAwlTclr at h
  refine awlInstr_wf h hw ?_
  repeat' first
    | with_reducible assumption
    | intro _
    | with_reducible refine keep_wf (aluBody_mem _ _ _ _ _ _) ?_

theorem execAwlRet_wf (d : Die) (e : Engine) (c : Fin 8) (s : State) (s' : State) (h : execAwlRet d e c s = .next s') (hw : Memory.wf s.mem = true) : Memory.wf s'.mem = true := by
  unfold execAwlRet at h
  refine awlInstr_wf h hw ?_
  repeat' first
    | with_reducible assumption
    | intro _
    | with_reducible refine next_wf _ _ ?_
    | with_reducible refine checked_wf _ _ _ _ _ _ _ _ ?_ ?_
    | with_reducible refine keep_wf (State.setEng_mem _ _ _ _) ?_

theorem execAwlCalls_wf (d : Die) (e : Engine) (c : Fin 8) (s : State) (s' : State) (h : execAwlCalls d e c s = .next s') (hw : Memory.wf s.mem = true) : Memory.wf s'.mem = true := by
  unfold execAwlCalls at h
  refine awlInstr_wf h hw ?_
  repeat' first
    | with_reducible assumption
    | intro _
    | with_reducible refine next_wf _ _ ?_
    | with_reducible refine checked_wf _ _ _ _ _ _ _ _ ?_ ?_
    | with_reducible refine keep_wf (State.setEng_mem _ _ _ _) ?_

theorem execAwlJmps_wf (d : Die) (e : Engine) (c : Fin 8) (s : State) (s' : State) (h : execAwlJmps d e c s = .next s') (hw : Memory.wf s.mem = true) : Memory.wf s'.mem = true := by
  unfold execAwlJmps at h
  refine awlInstr_wf h hw ?_
  repeat' first
    | with_reducible assumption
    | intro _
    | with_reducible refine next_wf _ _ ?_
    | with_reducible refine checked_wf _ _ _ _ _ _ _ _ ?_ ?_
    | with_reducible refine keep_wf (State.setEng_mem _ _ _ _) ?_

theorem execAwlBr_wf (d : Die) (e : Engine) (c : Fin 7) (off : BitVec 11) (s : State) (s' : State) (h : execAwlBr d e c off s = .next s') (hw : Memory.wf s.mem = true) : Memory.wf s'.mem = true := by
  unfold execAwlBr at h
  refine awlInstr_wf h hw ?_
  repeat' first
    | with_reducible assumption
    | intro _
    | with_reducible refine next_wf _ _ ?_
    | with_reducible refine checked_wf _ _ _ _ _ _ _ _ ?_ ?_

theorem execAwlCall_wf (d : Die) (e : Engine) (off : BitVec 11) (s : State) (s' : State) (h : execAwlCall d e off s = .next s') (hw : Memory.wf s.mem = true) : Memory.wf s'.mem = true := by
  unfold execAwlCall at h
  refine awlInstr_wf h hw ?_
  repeat' first
    | with_reducible assumption
    | intro _
    | with_reducible refine next_wf _ _ ?_
    | with_reducible refine checked_wf _ _ _ _ _ _ _ _ ?_ ?_
    | with_reducible refine keep_wf (State.setEng_mem _ _ _ _) ?_

theorem execAwlRett_wf (d : Die) (e : Engine) (c : Fin 8) (s : State) (s' : State) (h : execAwlRett d e c s = .next s') (hw : Memory.wf s.mem = true) : Memory.wf s'.mem = true := by
  unfold execAwlRett at h
  refine awlInstr_wf h hw ?_
  repeat' first
    | with_reducible assumption
    | intro _
    | with_reducible refine next_wf _ _ ?_
    | with_reducible refine trap_wf _ _ _ _ _ ?_
    | with_reducible refine ite_awl_wf _ _ ?_ ?_
    | with_reducible refine checked_wf _ _ _ _ _ _ _ _ ?_ ?_
    | with_reducible refine keep_wf (State.setEng_mem _ _ _ _) ?_

theorem execAwlTrap_wf (d : Die) (e : Engine) (c : Fin 8) (s : State) (s' : State) (h : execAwlTrap d e c s = .next s') (hw : Memory.wf s.mem = true) : Memory.wf s'.mem = true := by
  unfold execAwlTrap at h
  refine awlInstr_wf h hw ?_
  repeat' first
    | with_reducible assumption
    | intro _
    | with_reducible refine trap_wf _ _ _ _ _ ?_

theorem execAwlSync_wf (d : Die) (e : Engine) (c : Fin 8) (s : State) (s' : State) (h : execAwlSync d e c s = .next s') (hw : Memory.wf s.mem = true) : Memory.wf s'.mem = true := by
  unfold execAwlSync at h
  refine awlInstr_wf h hw ?_
  repeat' first
    | with_reducible assumption
    | intro _
    | with_reducible refine next_wf _ _ ?_
    | with_reducible refine checked_wf _ _ _ _ _ _ _ _ ?_ ?_
    | with_reducible refine State.drainTo_wf _ _ _ _ _ ?_

theorem execAwlMrx_wf (d : Die) (e : Engine) (c : Fin 8) (s : State) (s' : State) (h : execAwlMrx d e c s = .next s') (hw : Memory.wf s.mem = true) : Memory.wf s'.mem = true := by
  unfold execAwlMrx at h
  refine awlInstr_wf h hw ?_
  repeat' first
    | with_reducible assumption
    | intro _
    | with_reducible refine next_wf _ _ ?_
    | with_reducible refine checked_wf _ _ _ _ _ _ _ _ ?_ ?_
    | with_reducible refine State.mbxPop_wf _ _ _ _ _ (by with_reducible assumption) ?_
    | with_reducible refine keep_wf (State.modEng_mem _ _ _ _) ?_
    | with_reducible refine keep_wf (State.pushed_mem _ _ _ _ _) ?_
    | split

theorem execAwlMtx_wf (d : Die) (e : Engine) (c : Fin 8) (s : State) (s' : State) (h : execAwlMtx d e c s = .next s') (hw : Memory.wf s.mem = true) : Memory.wf s'.mem = true := by
  unfold execAwlMtx at h
  refine awlInstr_wf h hw ?_
  repeat' first
    | with_reducible assumption
    | intro _
    | with_reducible refine next_wf _ _ ?_
    | with_reducible refine trap_wf _ _ _ _ _ ?_
    | with_reducible refine ite_awl_wf _ _ ?_ ?_
    | with_reducible refine checked_wf _ _ _ _ _ _ _ _ ?_ ?_
    | with_reducible refine State.mbxTx_wf _ _ _ _ ?_
    | with_reducible refine keep_wf (State.pushed_mem _ _ _ _ _) ?_

theorem execAwlLd_wf (d : Die) (e : Engine) (c : Fin 8) (o : Fin 64) (s : State) (s' : State) (h : execAwlLd d e c o s = .next s') (hw : Memory.wf s.mem = true) : Memory.wf s'.mem = true := by
  unfold execAwlLd at h
  refine awlInstr_wf h hw ?_
  repeat' first
    | with_reducible assumption
    | intro _
    | with_reducible refine loadBody_wf _ _ _ _ _ ?_

theorem execAwlSt_wf (d : Die) (e : Engine) (c : Fin 8) (o : Fin 64) (s : State) (s' : State) (h : execAwlSt d e c o s = .next s') (hw : Memory.wf s.mem = true) : Memory.wf s'.mem = true := by
  unfold execAwlSt at h
  refine awlInstr_wf h hw ?_
  repeat' first
    | with_reducible assumption
    | intro _
    | with_reducible refine storeBody_wf _ _ _ _ _ ?_

theorem execAwlLd2_wf (d : Die) (e : Engine) (c : Fin 8) (o : Fin 64) (s : State) (s' : State) (h : execAwlLd2 d e c o s = .next s') (hw : Memory.wf s.mem = true) : Memory.wf s'.mem = true := by
  unfold execAwlLd2 at h
  refine awlInstr_wf h hw ?_
  repeat' first
    | with_reducible assumption
    | intro _
    | with_reducible refine loadBody_wf _ _ _ _ _ ?_

theorem execAwlSt2_wf (d : Die) (e : Engine) (c : Fin 8) (o : Fin 64) (s : State) (s' : State) (h : execAwlSt2 d e c o s = .next s') (hw : Memory.wf s.mem = true) : Memory.wf s'.mem = true := by
  unfold execAwlSt2 at h
  refine awlInstr_wf h hw ?_
  repeat' first
    | with_reducible assumption
    | intro _
    | with_reducible refine storeBody_wf _ _ _ _ _ ?_

theorem execAwlLdz_wf (d : Die) (e : Engine) (c : Fin 8) (n : Fin 64) (s : State) (s' : State) (h : execAwlLdz d e c n s = .next s') (hw : Memory.wf s.mem = true) : Memory.wf s'.mem = true := by
  unfold execAwlLdz at h
  refine awlInstr_wf h hw ?_
  repeat' first
    | with_reducible assumption
    | (intro a x hx)
    | intro _
    | with_reducible refine next_wf _ _ ?_
    | with_reducible refine checked_wf _ _ _ _ _ _ _ _ ?_ ?_
    | with_reducible refine Loaded.out_wf _ _ _ _ ?_ ?_
    | with_reducible refine keep_wf (State.pushed_mem _ _ _ _ _) ?_
    | with_reducible refine keep_wf (State.spadRead_mem _ _ _ _ _) ?_

theorem execAwlStz_wf (d : Die) (e : Engine) (c : Fin 8) (n : Fin 64) (s : State) (s' : State) (h : execAwlStz d e c n s = .next s') (hw : Memory.wf s.mem = true) : Memory.wf s'.mem = true := by
  unfold execAwlStz at h
  refine awlInstr_wf h hw ?_
  repeat' first
    | with_reducible assumption
    | intro _
    | with_reducible refine next_wf _ _ ?_
    | with_reducible refine checked_wf _ _ _ _ _ _ _ _ ?_ ?_
    | with_reducible refine keep_wf (State.pushed_mem _ _ _ _ _) ?_
    | with_reducible refine keep_wf (State.spadSet_mem _ _ _ _ _) ?_

theorem execAwlLds_wf (d : Die) (e : Engine) (c : Fin 8) (r : Fin 64) (s : State) (s' : State) (h : execAwlLds d e c r s = .next s') (hw : Memory.wf s.mem = true) : Memory.wf s'.mem = true := by
  unfold execAwlLds at h
  refine awlInstr_wf h hw ?_
  repeat' first
    | with_reducible assumption
    | intro _
    | with_reducible refine ldsBody_wf _ _ _ _ ?_

theorem execAwlSts_wf (d : Die) (e : Engine) (c : Fin 8) (r : Fin 64) (s : State) (s' : State) (h : execAwlSts d e c r s = .next s') (hw : Memory.wf s.mem = true) : Memory.wf s'.mem = true := by
  unfold execAwlSts at h
  refine awlInstr_wf h hw ?_
  repeat' first
    | with_reducible assumption
    | intro _
    | with_reducible refine stsBody_wf _ _ _ _ ?_

theorem execAwlFld_wf (d : Die) (e : Engine) (c : Fin 8) (fmt : Fin 64) (s : State) (s' : State) (h : execAwlFld d e c fmt s = .next s') (hw : Memory.wf s.mem = true) : Memory.wf s'.mem = true := by
  unfold execAwlFld at h
  refine awlInstr_wf h hw ?_
  repeat' first
    | with_reducible assumption
    | intro _
    | with_reducible refine fldBody_wf _ _ _ _ ?_
    | with_reducible refine fmtBody_wf _ _ _ ?_ ?_

theorem execAwlFst_wf (d : Die) (e : Engine) (c : Fin 8) (fmt : Fin 64) (s : State) (s' : State) (h : execAwlFst d e c fmt s = .next s') (hw : Memory.wf s.mem = true) : Memory.wf s'.mem = true := by
  unfold execAwlFst at h
  refine awlInstr_wf h hw ?_
  repeat' first
    | with_reducible assumption
    | intro _
    | with_reducible refine fmtBody_wf _ _ _ ?_ ?_
    | with_reducible refine fstBody_wf _ _ _ _ ?_

theorem execAwlVld_wf (d : Die) (e : Engine) (c : Fin 8) (fmt : Fin 64) (s : State) (s' : State) (h : execAwlVld d e c fmt s = .next s') (hw : Memory.wf s.mem = true) : Memory.wf s'.mem = true := by
  unfold execAwlVld at h
  refine awlInstr_wf h hw ?_
  repeat' first
    | with_reducible assumption
    | intro _
    | with_reducible refine fmtBody_wf _ _ _ ?_ ?_
    | with_reducible refine vldBody_wf _ _ _ _ ?_

theorem execAwlVst_wf (d : Die) (e : Engine) (c : Fin 8) (fmt : Fin 64) (s : State) (s' : State) (h : execAwlVst d e c fmt s = .next s') (hw : Memory.wf s.mem = true) : Memory.wf s'.mem = true := by
  unfold execAwlVst at h
  refine awlInstr_wf h hw ?_
  repeat' first
    | with_reducible assumption
    | intro _
    | with_reducible refine fmtBody_wf _ _ _ ?_ ?_
    | with_reducible refine vstBody_wf _ _ _ _ ?_

theorem execAwlCrc_wf (d : Die) (e : Engine) (c : Fin 8) (fmt : Fin 64) (s : State) (s' : State) (h : execAwlCrc d e c fmt s = .next s') (hw : Memory.wf s.mem = true) : Memory.wf s'.mem = true := by
  unfold execAwlCrc at h
  refine awlInstr_wf h hw ?_
  repeat' first
    | with_reducible assumption
    | intro _
    | with_reducible refine crcBody_wf _ _ _ _ ?_

theorem execAwlCommit_wf (d : Die) (e : Engine) (c : Fin 8) (n : Fin 64) (s : State) (s' : State) (h : execAwlCommit d e c n s = .next s') (hw : Memory.wf s.mem = true) : Memory.wf s'.mem = true := by
  unfold execAwlCommit at h
  refine awlInstr_wf h hw ?_
  repeat' first
    | with_reducible assumption
    | intro _
    | with_reducible refine keep_wf (commitBody_mem _ _ _ _) ?_

theorem execAwlRdrec_wf (d : Die) (e : Engine) (c : Fin 8) (n : Fin 64) (s : State) (s' : State) (h : execAwlRdrec d e c n s = .next s') (hw : Memory.wf s.mem = true) : Memory.wf s'.mem = true := by
  unfold execAwlRdrec at h
  refine awlInstr_wf h hw ?_
  repeat' first
    | with_reducible assumption
    | intro _
    | with_reducible refine rdrecBody_wf _ _ _ _ ?_

theorem execAwlBfx_wf (d : Die) (e : Engine) (c : Fin 8) (p : Fin 16) (w : Fin 16) (s : State) (s' : State) (h : execAwlBfx d e c p w s = .next s') (hw : Memory.wf s.mem = true) : Memory.wf s'.mem = true := by
  unfold execAwlBfx at h
  refine awlInstr_wf h hw ?_
  repeat' first
    | with_reducible assumption
    | intro _
    | with_reducible refine keep_wf (aluBody_mem _ _ _ _ _ _) ?_

theorem execAwlBfi_wf (d : Die) (e : Engine) (c : Fin 8) (p : Fin 16) (w : Fin 16) (s : State) (s' : State) (h : execAwlBfi d e c p w s = .next s') (hw : Memory.wf s.mem = true) : Memory.wf s'.mem = true := by
  unfold execAwlBfi at h
  refine awlInstr_wf h hw ?_
  repeat' first
    | with_reducible assumption
    | intro _
    | with_reducible refine keep_wf (aluBody_mem _ _ _ _ _ _) ?_

theorem execIllegalWord_wf (d : Die) (e : Engine) (s : State) (s' : State) (h : execIllegalWord d e s = .next s') (hw : Memory.wf s.mem = true) : Memory.wf s'.mem = true := by
  unfold execIllegalWord at h
  refine awlInstr_wf h hw ?_
  repeat' first
    | with_reducible assumption
    | intro _
    | with_reducible refine trap_wf _ _ _ _ _ ?_

end Sys2Proof.Machine
end

