-- ==== Sys2Proof/Laws/ExecVatAwlCluster.lean ====
section
/-! SUPPORT. The commands of Machine/AwlCluster keep the form of the Vat. -/

namespace Sys2Proof.Machine

theorem execAwlWait_wf (d : Die) (e : Engine) (c : Fin 8) (s : State) (s' : State) (h : execAwlWait d e c s = .next s') (hw : Memory.wf s.mem = true) : Memory.wf s'.mem = true := by
  unfold execAwlWait at h
  refine awlGuard_wf h hw ?_
  repeat' first
    | with_reducible assumption
    | intro _
    | with_reducible refine State.waitOp_wf _ _ _ ?_

theorem execEngineWake_wf (d : Die) (e : Engine) (s : State) (s' : State) (h : execEngineWake d e s = .next s') (hw : Memory.wf s.mem = true) : Memory.wf s'.mem = true := by
  unfold execEngineWake at h
  refine onDie_wf h hw ?_
  repeat' first
    | with_reducible assumption
    | with_reducible refine State.wake_wf _ _ _ ?_

theorem execFwRelease_wf (d : Die) (e : Engine) (s : State) (s' : State) (h : execFwRelease d e s = .next s') (hw : Memory.wf s.mem = true) : Memory.wf s'.mem = true := by
  unfold execFwRelease at h
  refine engAccess_wf h hw ?_
  repeat' first
    | with_reducible assumption
    | intro _
    | with_reducible refine State.fwRelease_wf _ _ _ ?_

theorem execFwHold_wf (d : Die) (e : Engine) (s : State) (s' : State) (h : execFwHold d e s = .next s') (hw : Memory.wf s.mem = true) : Memory.wf s'.mem = true := by
  unfold execFwHold at h
  refine engAccess_wf h hw ?_
  repeat' first
    | with_reducible assumption
    | intro _
    | with_reducible refine keep_wf (State.fwHold_mem _ _ _) ?_

theorem execFwRequeue_wf (d : Die) (e : Engine) (q : Fin 4) (s : State) (s' : State) (h : execFwRequeue d e q s = .next s') (hw : Memory.wf s.mem = true) : Memory.wf s'.mem = true := by
  unfold execFwRequeue at h
  refine engAccess_wf h hw ?_
  repeat' first
    | with_reducible assumption
    | intro _
    | with_reducible refine State.fwRequeue_wf _ _ _ ?_
    | with_reducible refine keep_wf (State.modEng_mem _ _ _ _) ?_

theorem execFwAlloc_wf (d : Die) (e : Engine) (s : State) (s' : State) (h : execFwAlloc d e s = .next s') (hw : Memory.wf s.mem = true) : Memory.wf s'.mem = true := by
  unfold execFwAlloc at h
  refine engAccess_wf h hw ?_
  repeat' first
    | with_reducible assumption
    | intro _
    | with_reducible refine State.fwAlloc_wf _ _ _ ?_

theorem execFwSend_wf (d : Die) (e : Engine) (s : State) (s' : State) (h : execFwSend d e s = .next s') (hw : Memory.wf s.mem = true) : Memory.wf s'.mem = true := by
  unfold execFwSend at h
  refine engAccess_wf h hw ?_
  repeat' first
    | with_reducible assumption
    | intro _
    | with_reducible refine State.fwSend_wf _ _ _ ?_

theorem execFwDiscard_wf (d : Die) (e : Engine) (s : State) (s' : State) (h : execFwDiscard d e s = .next s') (hw : Memory.wf s.mem = true) : Memory.wf s'.mem = true := by
  unfold execFwDiscard at h
  refine engAccess_wf h hw ?_
  repeat' first
    | with_reducible assumption
    | intro _
    | with_reducible refine State.fwDiscard_wf _ _ _ ?_

theorem execSignal_wf (d : Die) (e : Engine) (mask : Nat) (s : State) (s' : State) (h : execSignal d e mask s = .next s') (hw : Memory.wf s.mem = true) : Memory.wf s'.mem = true := by
  unfold execSignal at h
  refine engAccess_wf h hw ?_
  repeat' first
    | with_reducible assumption
    | intro _
    | with_reducible refine State.signalWrite_wf _ _ _ _ ?_

theorem execTmrWrite_wf (d : Die) (e : Engine) (us : Word16) (s : State) (s' : State) (h : execTmrWrite d e us s = .next s') (hw : Memory.wf s.mem = true) : Memory.wf s'.mem = true := by
  unfold execTmrWrite at h
  refine engAccess_wf h hw ?_
  repeat' first
    | with_reducible assumption
    | intro _
    | with_reducible refine keep_wf (State.tmrWrite_mem _ _ _ _) ?_

theorem execTimerExpire_wf (d : Die) (e : Engine) (s : State) (s' : State) (h : execTimerExpire d e s = .next s') (hw : Memory.wf s.mem = true) : Memory.wf s'.mem = true := by
  unfold execTimerExpire at h
  refine onDie_wf h hw ?_
  repeat' first
    | with_reducible assumption
    | with_reducible refine keep_wf (State.modEng_mem _ _ _ _) ?_
    | with_reducible refine keep_wf (State.raise_mem _ _ _ _) ?_
    | with_reducible refine ite_wf' _ _ ?_ ?_

theorem execMbxRx_wf (d : Die) (e : Engine) (s : State) (s' : State) (h : execMbxRx d e s = .next s') (hw : Memory.wf s.mem = true) : Memory.wf s'.mem = true := by
  unfold execMbxRx at h
  refine engAccess_wf h hw ?_
  repeat' first
    | with_reducible assumption
    | intro _
    | with_reducible refine keep_wf (answer_mem _) ?_
    | with_reducible refine keep_wf (State.mbxRx_mem _ _ _) ?_

theorem execMbxTx_wf (d : Die) (e : Engine) (w : Word16) (s : State) (s' : State) (h : execMbxTx d e w s = .next s') (hw : Memory.wf s.mem = true) : Memory.wf s'.mem = true := by
  unfold execMbxTx at h
  refine engAccess_wf h hw ?_
  repeat' first
    | with_reducible assumption
    | intro _
    | with_reducible refine State.mbxTx_wf _ _ _ _ ?_
    | with_reducible refine State.takeTrap_wf _ _ _ _ _ _ _ _ _ ?_
    | with_reducible refine ite_wf' _ _ ?_ ?_

theorem execCrefused_wf (d : Die) (e : Engine) (s : State) (s' : State) (h : execCrefused d e s = .next s') (hw : Memory.wf s.mem = true) : Memory.wf s'.mem = true := by
  unfold execCrefused at h
  refine engAccess_wf h hw ?_
  repeat' first
    | with_reducible assumption
    | intro _
    | with_reducible refine keep_wf (answer_mem _) ?_
    | with_reducible refine keep_wf (State.readRefused_mem _ _ _) ?_

theorem execNowLatch_wf (d : Die) (e : Engine) (s : State) (s' : State) (h : execNowLatch d e s = .next s') (hw : Memory.wf s.mem = true) : Memory.wf s'.mem = true := by
  unfold execNowLatch at h
  refine engAccess_wf h hw ?_
  repeat' first
    | with_reducible assumption
    | intro _
    | with_reducible refine keep_wf (answer_mem _) ?_
    | with_reducible refine keep_wf (State.nowLatch_mem _ _ _) ?_

theorem execTrapPcWrite_wf (d : Die) (e : Engine) (pc : Word16) (s : State) (s' : State) (h : execTrapPcWrite d e pc s = .next s') (hw : Memory.wf s.mem = true) : Memory.wf s'.mem = true := by
  unfold execTrapPcWrite at h
  refine engAccess_wf h hw ?_
  repeat' first
    | with_reducible assumption
    | intro _
    | with_reducible refine keep_wf (State.trapPcWrite_mem _ _ _ _) ?_

theorem execStoreDrain_wf (d : Die) (e : Engine) (s : State) (s' : State) (h : execStoreDrain d e s = .next s') (hw : Memory.wf s.mem = true) : Memory.wf s'.mem = true := by
  unfold execStoreDrain at h
  refine onDie_wf h hw ?_
  repeat' first
    | with_reducible assumption
    | with_reducible refine State.drainOne_wf _ _ _ ?_

theorem execTrapEntry_wf (d : Die) (e : Engine) (s : State) (s' : State) (h : execTrapEntry d e s = .next s') (hw : Memory.wf s.mem = true) : Memory.wf s'.mem = true := by
  unfold execTrapEntry at h
  refine onDie_wf h hw ?_
  repeat' first
    | with_reducible assumption
    | with_reducible refine State.takeWaiting_wf _ _ _ _ ?_

theorem execFatalTrap_wf (d : Die) (e : Engine) (s : State) (s' : State) (h : execFatalTrap d e s = .next s') (hw : Memory.wf s.mem = true) : Memory.wf s'.mem = true := by
  unfold execFatalTrap at h
  refine onDie_wf h hw ?_
  repeat' first
    | with_reducible assumption
    | with_reducible refine State.takeWaiting_wf _ _ _ _ ?_

theorem execRunLimit_wf (d : Die) (e : Engine) (s : State) (s' : State) (h : execRunLimit d e s = .next s') (hw : Memory.wf s.mem = true) : Memory.wf s'.mem = true := by
  unfold execRunLimit at h
  refine engAccess_wf h hw ?_
  repeat' first
    | with_reducible assumption
    | intro _
    | with_reducible refine keep_wf (State.modEng_mem _ _ _ _) ?_
    | with_reducible refine keep_wf (State.putFlag_mem _ _ _ _) ?_
    | with_reducible refine State.takeTrap_wf _ _ _ _ _ _ _ _ _ ?_

theorem execFetchUe_wf (d : Die) (e : Engine) (s : State) (s' : State) (h : execFetchUe d e s = .next s') (hw : Memory.wf s.mem = true) : Memory.wf s'.mem = true := by
  unfold execFetchUe at h
  refine engAccess_wf h hw ?_
  repeat' first
    | with_reducible assumption
    | intro _
    | with_reducible refine State.fetchUe_wf _ _ _ ?_

theorem execEngineReset_wf (d : Die) (e : Engine) (s : State) (s' : State) (h : execEngineReset d e s = .next s') (hw : Memory.wf s.mem = true) : Memory.wf s'.mem = true := by
  unfold execEngineReset at h
  refine onDie_wf h hw ?_
  repeat' first
    | with_reducible assumption
    | with_reducible refine State.engineReset_wf _ _ _ ?_
    | with_reducible refine State.rungTaken_wf _ _ _ _ _ _ _ ?_

theorem execClusterReset_wf (d : Die) (k : Unit8) (conns : List (Nat × Nat × Nat)) (s : State) (s' : State) (h : execClusterReset d k conns s = .next s') (hw : Memory.wf s.mem = true) : Memory.wf s'.mem = true := by
  unfold execClusterReset at h
  refine onDie_wf h hw ?_
  repeat' first
    | with_reducible assumption
    | with_reducible refine State.clusterReset_wf _ _ _ ?_
    | with_reducible refine keep_wf (State.lossNotices_mem _ _ _) ?_
    | with_reducible refine State.rungTaken_wf _ _ _ _ _ _ _ ?_
    | with_reducible refine ite_wf' _ _ ?_ ?_

theorem execEngineResetDone_wf (d : Die) (e : Engine) (s : State) (s' : State) (h : execEngineResetDone d e s = .next s') (hw : Memory.wf s.mem = true) : Memory.wf s'.mem = true := by
  unfold execEngineResetDone at h
  refine onDie_wf h hw ?_
  repeat' first
    | with_reducible assumption
    | with_reducible refine State.engineResetDone_wf _ _ _ ?_

theorem execIbankTest_wf (d : Die) (k : Unit8) (b : Fin 2) (s : State) (s' : State) (h : execIbankTest d k b s = .next s') (hw : Memory.wf s.mem = true) : Memory.wf s'.mem = true := by
  unfold execIbankTest at h
  refine onDie_wf h hw ?_
  repeat' first
    | with_reducible assumption
    | with_reducible refine State.ibankStart_wf _ _ _ _ _ ?_

theorem execIbankClear_wf (d : Die) (k : Unit8) (b : Fin 2) (s : State) (s' : State) (h : execIbankClear d k b s = .next s') (hw : Memory.wf s.mem = true) : Memory.wf s'.mem = true := by
  unfold execIbankClear at h
  refine onDie_wf h hw ?_
  repeat' first
    | with_reducible assumption
    | with_reducible refine State.ibankStart_wf _ _ _ _ _ ?_

theorem execIbankReload_wf (d : Die) (k : Unit8) (b : Fin 2) (s : State) (s' : State) (h : execIbankReload d k b s = .next s') (hw : Memory.wf s.mem = true) : Memory.wf s'.mem = true := by
  unfold execIbankReload at h
  refine onDie_wf h hw ?_
  repeat' first
    | with_reducible assumption
    | with_reducible refine State.ibankStart_wf _ _ _ _ _ ?_

theorem execIbankDone_wf (d : Die) (k : Unit8) (fault : Bool) (s : State) (s' : State) (h : execIbankDone d k fault s = .next s') (hw : Memory.wf s.mem = true) : Memory.wf s'.mem = true := by
  unfold execIbankDone at h
  refine onDie_wf h hw ?_
  repeat' first
    | with_reducible assumption
    | with_reducible refine State.ibankDone_wf _ _ _ _ ?_

end Sys2Proof.Machine
end

