-- ==== Sys2Proof/Laws/KeepVatBar.lean ====
section
/-! SUPPORT. What the functions of Machine/Bar do to the Vat: those that store nothing leave it, the others keep its form. -/

namespace Sys2Proof.Machine

@[simp] theorem State.windowRead_mem (s : State) (p t off : Nat) : (State.windowRead s p t off).2.mem = s.mem := by
  unfold State.windowRead
  repeat' first
    | with_reducible rfl
    | with_reducible refine Eq.trans (State.pageAccess_mem _ _ _ _) ?_
    | dsimp only
    | split

@[simp] theorem State.slotRead_mem (s : State) (p t off : Nat) : (State.slotRead s p t off).2.mem = s.mem := by
  unfold State.slotRead
  repeat' first
    | with_reducible rfl
    | with_reducible refine Eq.trans (State.mbxTake_mem _ _ _ _ _ (by with_reducible assumption)) ?_
    | with_reducible refine Eq.trans (State.violation_mem _ _ _ _ _ _) ?_
    | dsimp only
    | split

@[simp] theorem State.dmaSlotRead_mem (s : State) (p t off : Nat) : (State.dmaSlotRead s p t off).2.mem = s.mem := by
  unfold State.dmaSlotRead
  repeat' first
    | with_reducible rfl
    | with_reducible refine Eq.trans (State.violation_mem _ _ _ _ _ _) ?_
    | dsimp only
    | split

@[simp] theorem State.pageRead_mem (s : State) (p t off : Nat) : (State.pageRead s p t off).2.mem = s.mem := by
  unfold State.pageRead
  repeat' first
    | with_reducible rfl
    | with_reducible refine Eq.trans (State.dmaSlotRead_mem _ _ _ _) ?_
    | with_reducible refine Eq.trans (State.slotRead_mem _ _ _ _) ?_
    | with_reducible refine Eq.trans (State.touchCtx_mem _ _ _) ?_
    | with_reducible refine Eq.trans (State.windowRead_mem _ _ _ _) ?_
    | split

@[simp] theorem State.pageRegWrite_mem (s : State) (p t off v : Nat) : (State.pageRegWrite s p t off v).mem = s.mem := by
  unfold State.pageRegWrite
  repeat' first
    | with_reducible rfl
    | dsimp only
    | split

@[simp] theorem State.pageCommand_wf (s : State) (p t v : Nat) (hw : Memory.wf s.mem = true) : Memory.wf (State.pageCommand s p t v).mem = true := by
  unfold State.pageCommand
  repeat' first
    | with_reducible assumption
    | with_reducible refine keep_wf (State.pageAccess_mem _ _ _ _) ?_
    | with_reducible refine State.pageRelease_wf _ _ _ ?_
    | with_reducible refine State.pageStart_wf _ _ _ _ _ ?_
    | with_reducible refine ite_wf' _ _ ?_ ?_
    | split

@[simp] theorem State.slotWrite_wf (s : State) (p t off v : Nat) (hw : Memory.wf s.mem = true) : Memory.wf (State.slotWrite s p t off v).mem = true := by
  unfold State.slotWrite
  repeat' first
    | with_reducible assumption
    | with_reducible refine keep_wf (State.mbxOverrun_mem _ _ _ _ _ _) ?_
    | with_reducible refine State.mbxPush_wf _ _ _ _ ?_
    | with_reducible refine keep_wf (State.pageAccess_mem _ _ _ _) ?_
    | with_reducible refine keep_wf (State.pageRegWrite_mem _ _ _ _ _) ?_
    | with_reducible refine keep_wf (State.ringBell_mem _ _ _) ?_
    | with_reducible refine ite_wf' _ _ ?_ ?_
    | dsimp only
    | split

@[simp] theorem State.dmaSlotWrite_wf (s : State) (p t off v : Nat) (hw : Memory.wf s.mem = true) : Memory.wf (State.dmaSlotWrite s p t off v).mem = true := by
  unfold State.dmaSlotWrite
  repeat' first
    | with_reducible assumption
    | with_reducible refine State.crdWrite_wf _ _ _ _ _ _ ?_
    | with_reducible refine State.dmaAbort_wf _ _ _ ?_
    | with_reducible refine State.dmaCtrl_wf _ _ _ _ _ _ _ ?_
    | with_reducible refine keep_wf (State.pageAccess_mem _ _ _ _) ?_
    | with_reducible refine keep_wf (State.pageRegWrite_mem _ _ _ _ _) ?_
    | with_reducible refine ite_wf' _ _ ?_ ?_
    | dsimp only
    | split

@[simp] theorem State.pageWrite_wf (s : State) (p t off v : Nat) (hw : Memory.wf s.mem = true) : Memory.wf (State.pageWrite s p t off v).mem = true := by
  unfold State.pageWrite
  repeat' first
    | with_reducible assumption
    | with_reducible refine State.dmaSlotWrite_wf _ _ _ _ _ ?_
    | with_reducible refine keep_wf (State.msixAgain_mem _ _) ?_
    | with_reducible refine keep_wf (State.noticeAdvance_mem _ _ _ _) ?_
    | with_reducible refine keep_wf (State.pageAccess_mem _ _ _ _) ?_
    | with_reducible refine State.pageCommand_wf _ _ _ _ ?_
    | with_reducible refine keep_wf (State.pageRegWrite_mem _ _ _ _ _) ?_
    | with_reducible refine State.slotWrite_wf _ _ _ _ _ ?_
    | with_reducible refine keep_wf (State.winWrite_mem _ _ _ _ _) ?_
    | with_reducible refine ite_wf' _ _ ?_ ?_

@[simp] theorem State.bar2_wf (s : State) (p : Nat) (r : HostReq) (hw : Memory.wf s.mem = true) : Memory.wf (State.bar2 s p r).mem = true := by
  unfold State.bar2
  repeat' first
    | with_reducible assumption
    | with_reducible refine keep_wf (State.alignErr_mem _ _ _ _ _ _) ?_
    | with_reducible refine keep_wf (State.answered_mem _ _) ?_
    | with_reducible refine keep_wf (State.msixScan_mem _) ?_
    | with_reducible refine State.onPage_wf _ _ _ _ _ _ _ ?_ ?_
    | with_reducible refine keep_wf (State.pageRead_mem _ _ _ _) ?_
    | with_reducible refine State.pageWrite_wf _ _ _ _ _ ?_
    | with_reducible refine ite_wf' _ _ ?_ ?_
    | dsimp only
    | split

@[simp] theorem State.bar0_wf (s : State) (p : Nat) (r : HostReq) (env : WriteEnv) (hw : Memory.wf s.mem = true) : Memory.wf (State.bar0 s p r env).mem = true := by
  unfold State.bar0
  repeat' first
    | with_reducible assumption
    | with_reducible refine keep_wf (State.abortReq_mem _ _) ?_
    | with_reducible refine keep_wf (State.alignErr_mem _ _ _ _ _ _) ?_
    | with_reducible refine keep_wf (State.answered_mem _ _) ?_
    | with_reducible refine State.ctlPut_wf _ _ _ _ _ _ ?_
    | with_reducible refine State.ctlRead_wf _ _ _ ?_
    | with_reducible refine State.ctlRead64_wf _ _ _ ?_
    | with_reducible refine keep_wf (State.pciErr_mem _ _ _ _ _ _ _) ?_
    | with_reducible refine keep_wf (State.refusedReq_mem _) ?_
    | with_reducible refine ite_wf' _ _ ?_ ?_
    | with_reducible refine ite_snd_wf _ _ ?_ ?_
    | dsimp only
    | split

end Sys2Proof.Machine
end

