-- ==== Sys2Proof/Laws/ExecVatBar.lean ====
section
/-! SUPPORT. The commands of Machine/Bar keep the form of the Vat. -/

namespace Sys2Proof.Machine

theorem execBar0Access_wf (p : Die) (r : HostReq) (env : WriteEnv) (s : State) (s' : State) (h : execBar0Access p r env s = .next s') (hw : Memory.wf s.mem = true) : Memory.wf s'.mem = true := by
  unfold execBar0Access at h
  refine onDie_wf h hw ?_
  repeat' first
    | with_reducible assumption
    | with_reducible refine State.bar0_wf _ _ _ _ ?_
    | with_reducible refine State.bar2_wf _ _ _ ?_
    | with_reducible refine keep_wf (State.ownerDenied_mem _ _ _ _ _ _) ?_
    | with_reducible refine keep_wf (State.refusedReq_mem _) ?_
    | with_reducible refine ite_wf' _ _ ?_ ?_

end Sys2Proof.Machine
end

