-- ==== Sys2Proof/Laws/ExecVatDatapoints.lean ====
section
/-! SUPPORT. The commands of Machine/Datapoints keep the form of the Vat. -/

namespace Sys2Proof.Machine

theorem execCommitApply_wf (d : Die) (s : State) (s' : State) (h : execCommitApply d s = .next s') (hw : Memory.wf s.mem = true) : Memory.wf s'.mem = true := by
  unfold execCommitApply at h
  refine onDie_wf h hw ?_
  repeat' first
    | with_reducible assumption
    | with_reducible refine keep_wf (State.commitStatus_mem _ _ _) ?_
    | with_reducible refine State.handleCommit_wf _ _ ?_
    | dsimp only
    | split

theorem execForce_wf (d : Die) (tid : Nat) (elem : ScatterElem) (s : State) (s' : State) (h : execForce d tid elem s = .next s') (hw : Memory.wf s.mem = true) : Memory.wf s'.mem = true := by
  unfold execForce at h
  refine onDie_wf h hw ?_
  repeat' first
    | with_reducible assumption
    | with_reducible refine State.substitute_wf _ _ _ _ _ ?_

theorem execRelease_wf (d : Die) (tid : Nat) (elem : ScatterElem) (s : State) (s' : State) (h : execRelease d tid elem s = .next s') (hw : Memory.wf s.mem = true) : Memory.wf s'.mem = true := by
  unfold execRelease at h
  refine onDie_wf h hw ?_
  repeat' first
    | with_reducible assumption
    | with_reducible refine State.substitute_wf _ _ _ _ _ ?_

theorem execFenceMarkDone_wf (d : Die) (s : State) (s' : State) (h : execFenceMarkDone d s = .next s') (hw : Memory.wf s.mem = true) : Memory.wf s'.mem = true := by
  unfold execFenceMarkDone at h
  refine onDie_wf h hw ?_
  repeat' first
    | with_reducible assumption
    | with_reducible refine keep_wf (State.putFlag_mem _ _ _ _) ?_
    | with_reducible refine ite_wf' _ _ ?_ ?_

theorem execSkiverPass_wf (d : Die) (s : State) (s' : State) (h : execSkiverPass d s = .next s') (hw : Memory.wf s.mem = true) : Memory.wf s'.mem = true := by
  unfold execSkiverPass at h
  refine onDie_wf h hw ?_
  repeat' first
    | with_reducible assumption
    | with_reducible refine State.skiverPass_wf _ _ ?_

theorem execNoticeRdAdvance_wf (d : Die) (n : Fin 64) (rd : Nat) (s : State) (s' : State) (h : execNoticeRdAdvance d n rd s = .next s') (hw : Memory.wf s.mem = true) : Memory.wf s'.mem = true := by
  unfold execNoticeRdAdvance at h
  refine onDie_wf h hw ?_
  repeat' first
    | with_reducible assumption
    | with_reducible refine keep_wf (State.noticeAdvance_mem _ _ _ _) ?_

theorem execLeadWrite_wf (host : Bool) (ns : Nat) (s : State) (s' : State) (h : execLeadWrite host ns s = .next s') (hw : Memory.wf s.mem = true) : Memory.wf s'.mem = true := by
  unfold execLeadWrite at h
  refine onPkg_wf h hw ?_
  repeat' first
    | with_reducible assumption
    | with_reducible refine keep_wf (State.put_mem _ _ _ _) ?_

end Sys2Proof.Machine
end

