-- ==== Sys2Proof/Laws/ExecVatElec.lean ====
section
/-! SUPPORT. The commands of Machine/Elec keep the form of the Vat. -/

namespace Sys2Proof.Machine

theorem execCalUserWrite_wf (d : Die) (v : BitVec 32) (s : State) (s' : State) (h : execCalUserWrite d v s = .next s') (hw : Memory.wf s.mem = true) : Memory.wf s'.mem = true := by
  unfold execCalUserWrite at h
  refine onDie_wf h hw ?_
  repeat' first
    | with_reducible assumption
    | with_reducible refine keep_wf (State.calWrite_mem _ _ _) ?_

theorem execBankHold_wf (d : Die) (b : Fin 5) (mv : Fin 4096) (s : State) (s' : State) (h : execBankHold d b mv s = .next s') (hw : Memory.wf s.mem = true) : Memory.wf s'.mem = true := by
  unfold execBankHold at h
  refine onDie_wf h hw ?_
  repeat' first
    | with_reducible assumption
    | with_reducible refine State.bankHold_wf _ _ _ _ ?_

theorem execBankHoldRelease_wf (d : Die) (b : Fin 5) (mv : Fin 4096) (s : State) (s' : State) (h : execBankHoldRelease d b mv s = .next s') (hw : Memory.wf s.mem = true) : Memory.wf s'.mem = true := by
  unfold execBankHoldRelease at h
  refine onDie_wf h hw ?_
  repeat' first
    | with_reducible assumption
    | with_reducible refine keep_wf (State.bankMv_mem _ _ _ _) ?_
    | with_reducible refine keep_wf (State.clrBit_mem _ _ _ _) ?_
    | with_reducible refine keep_wf (State.putFlag_mem _ _ _ _) ?_

theorem execElxPadWrite_wf (d : Die) (i : Fin 128) (v : BitVec 32) (s : State) (s' : State) (h : execElxPadWrite d i v s = .next s') (hw : Memory.wf s.mem = true) : Memory.wf s'.mem = true := by
  unfold execElxPadWrite at h
  refine onDie_wf h hw ?_
  repeat' first
    | with_reducible assumption
    | with_reducible refine keep_wf (State.padWrite_mem _ _ _ _) ?_

end Sys2Proof.Machine
end

