-- ==== Sys2Proof/Laws/ExecVatEthernet.lean ====
section
/-! SUPPORT. The commands of Machine/Ethernet keep the form of the Vat. -/

namespace Sys2Proof.Machine

theorem execFrameReceive_wf (d : Die) (p : Unit8) (bytes : List Byte) (symErr fcsOk : Bool) (red : Option RedTag) (s : State) (s' : State) (h : execFrameReceive d p bytes symErr fcsOk red s = .next s') (hw : Memory.wf s.mem = true) : Memory.wf s'.mem = true := by
  unfold execFrameReceive at h
  refine onDie_wf h hw ?_
  repeat' first
    | with_reducible assumption
    | with_reducible refine State.receive_wf _ _ _ _ _ _ _ ?_
    | with_reducible refine ite_wf' _ _ ?_ ?_

theorem execCutThroughStart_wf (d : Die) (p : Unit8) (first : List Byte) (s : State) (s' : State) (h : execCutThroughStart d p first s = .next s') (hw : Memory.wf s.mem = true) : Memory.wf s'.mem = true := by
  unfold execCutThroughStart at h
  refine onDie_wf h hw ?_
  repeat' first
    | with_reducible assumption
    | with_reducible refine State.cutStart_wf _ _ _ _ ?_
    | with_reducible refine ite_wf' _ _ ?_ ?_

theorem execPauseExpire_wf (d : Die) (p : Unit8) (q : Fin 9) (s : State) (s' : State) (h : execPauseExpire d p q s = .next s') (hw : Memory.wf s.mem = true) : Memory.wf s'.mem = true := by
  unfold execPauseExpire at h
  refine onDie_wf h hw ?_
  repeat' first
    | with_reducible assumption
    | with_reducible refine State.setPause_wf _ _ _ _ _ ?_
    | with_reducible refine ite_wf' _ _ ?_ ?_

theorem execPauseWatchdog_wf (d : Die) (p : Unit8) (q : Fin 9) (s : State) (s' : State) (h : execPauseWatchdog d p q s = .next s') (hw : Memory.wf s.mem = true) : Memory.wf s'.mem = true := by
  unfold execPauseWatchdog at h
  refine onDie_wf h hw ?_
  repeat' first
    | with_reducible assumption
    | with_reducible refine State.clearPauses_wf _ _ _ ?_
    | with_reducible refine keep_wf (State.count_mem _ _ _ _) ?_
    | with_reducible refine State.portRec_wf _ _ _ _ _ _ _ _ _ _ ?_
    | with_reducible refine keep_wf (State.putFlag_mem _ _ _ _) ?_
    | with_reducible refine State.syncCredits_wf _ _ _ ?_
    | with_reducible refine ite_wf' _ _ ?_ ?_

theorem execPauseHoldoffEnd_wf (d : Die) (p : Unit8) (s : State) (s' : State) (h : execPauseHoldoffEnd d p s = .next s') (hw : Memory.wf s.mem = true) : Memory.wf s'.mem = true := by
  unfold execPauseHoldoffEnd at h
  refine onDie_wf h hw ?_
  repeat' first
    | with_reducible assumption
    | with_reducible refine keep_wf (State.putFlag_mem _ _ _ _) ?_

theorem execDupKeyExpire_wf (d : Die) (k : Fin 4) (sa seq : Nat) (s : State) (s' : State) (h : execDupKeyExpire d k sa seq s = .next s') (hw : Memory.wf s.mem = true) : Memory.wf s'.mem = true := by
  unfold execDupKeyExpire at h
  refine onDie_wf h hw ?_
  repeat' first
    | with_reducible assumption
    | with_reducible refine State.modPair_wf _ _ _ _ ?_
    | with_reducible refine State.syncKeys_wf _ _ _ ?_

theorem execSupervisionSend_wf (d : Die) (k : Fin 4) (s : State) (s' : State) (h : execSupervisionSend d k s = .next s') (hw : Memory.wf s.mem = true) : Memory.wf s'.mem = true := by
  unfold execSupervisionSend at h
  refine onDie_wf h hw ?_
  repeat' first
    | with_reducible assumption
    | (intro a x hx)
    | with_reducible refine keep_wf (State.count_mem _ _ _ _) ?_
    | with_reducible refine keep_wf (State.freeVal_mem _ _) ?_
    | with_reducible refine ite_wf' _ _ ?_ ?_
    | with_reducible refine foldl_wf _ _ _ ?_ ?_

theorem execLinkUp_wf (d : Die) (p : Unit8) (r : LinkResult) (s : State) (s' : State) (h : execLinkUp d p r s = .next s') (hw : Memory.wf s.mem = true) : Memory.wf s'.mem = true := by
  unfold execLinkUp at h
  refine onDie_wf h hw ?_
  repeat' first
    | with_reducible assumption
    | with_reducible refine keep_wf (State.put_mem _ _ _ _) ?_
    | with_reducible refine keep_wf (State.putFlag_mem _ _ _ _) ?_
    | with_reducible refine keep_wf (State.putPartner_mem _ _ _ _) ?_
    | with_reducible refine keep_wf (State.setBit_mem _ _ _ _) ?_
    | with_reducible refine State.syncCredits_wf _ _ _ ?_
    | with_reducible refine ite_wf' _ _ ?_ ?_

theorem execLinkDown_wf (d : Die) (p : Unit8) (s : State) (s' : State) (h : execLinkDown d p s = .next s') (hw : Memory.wf s.mem = true) : Memory.wf s'.mem = true := by
  unfold execLinkDown at h
  refine onDie_wf h hw ?_
  repeat' first
    | with_reducible assumption
    | with_reducible refine State.linkDown_wf _ _ _ _ ?_

theorem execRestartAn_wf (d : Die) (p : Unit8) (s : State) (s' : State) (h : execRestartAn d p s = .next s') (hw : Memory.wf s.mem = true) : Memory.wf s'.mem = true := by
  unfold execRestartAn at h
  refine onDie_wf h hw ?_
  repeat' first
    | with_reducible assumption
    | with_reducible refine State.linkDown_wf _ _ _ _ ?_
    | with_reducible refine keep_wf (State.putFlag_mem _ _ _ _) ?_
    | with_reducible refine ite_wf' _ _ ?_ ?_

theorem execAdminDown_wf (d : Die) (p : Unit8) (v : Bool) (s : State) (s' : State) (h : execAdminDown d p v s = .next s') (hw : Memory.wf s.mem = true) : Memory.wf s'.mem = true := by
  unfold execAdminDown at h
  refine onDie_wf h hw ?_
  repeat' first
    | with_reducible assumption
    | with_reducible refine State.linkDown_wf _ _ _ _ ?_
    | with_reducible refine keep_wf (State.putFlag_mem _ _ _ _) ?_
    | with_reducible refine ite_wf' _ _ ?_ ?_

theorem execAutoNegotiationFail_wf (d : Die) (p : Unit8) (why : Fin 3) (s : State) (s' : State) (h : execAutoNegotiationFail d p why s = .next s') (hw : Memory.wf s.mem = true) : Memory.wf s'.mem = true := by
  unfold execAutoNegotiationFail at h
  refine onDie_wf h hw ?_
  repeat' first
    | with_reducible assumption
    | with_reducible refine keep_wf (State.put_mem _ _ _ _) ?_
    | with_reducible refine keep_wf (State.putFlag_mem _ _ _ _) ?_
    | with_reducible refine ite_wf' _ _ ?_ ?_

theorem execEgressSelect_wf (d : Die) (p : Unit8) (s : State) (s' : State) (h : execEgressSelect d p s = .next s') (hw : Memory.wf s.mem = true) : Memory.wf s'.mem = true := by
  unfold execEgressSelect at h
  refine onDie_wf h hw ?_
  repeat' first
    | with_reducible assumption
    | with_reducible refine State.select_wf _ _ _ _ ?_
    | with_reducible refine State.syncCredits_wf _ _ _ ?_
    | with_reducible refine ite_wf' _ _ ?_ ?_

theorem execQueueHeadArrive_wf (d : Die) (p : Unit8) (q : Unit8) (s : State) (s' : State) (h : execQueueHeadArrive d p q s = .next s') (hw : Memory.wf s.mem = true) : Memory.wf s'.mem = true := by
  unfold execQueueHeadArrive at h
  refine onDie_wf h hw ?_
  repeat' first
    | with_reducible assumption
    | with_reducible refine State.headArrive_wf _ _ _ _ _ ?_

theorem execTxEnd_wf (d : Die) (p : Unit8) (s : State) (s' : State) (h : execTxEnd d p s = .next s') (hw : Memory.wf s.mem = true) : Memory.wf s'.mem = true := by
  unfold execTxEnd at h
  refine onDie_wf h hw ?_
  repeat' first
    | with_reducible assumption
    | with_reducible refine State.txEnd_wf _ _ _ ?_

theorem execGateEntryChange_wf (d : Die) (p : Unit8) (s : State) (s' : State) (h : execGateEntryChange d p s = .next s') (hw : Memory.wf s.mem = true) : Memory.wf s'.mem = true := by
  unfold execGateEntryChange at h
  refine onDie_wf h hw ?_
  repeat' first
    | with_reducible assumption
    | with_reducible refine State.syncCredits_wf _ _ _ ?_
    | with_reducible refine keep_wf (State.syncGate_mem _ _ _) ?_

end Sys2Proof.Machine
end

