-- ==== Sys2Proof/Laws/ExecVatHarness.lean ====
section
/-! SUPPORT. The commands of Machine/Harness keep the form of the Vat. -/

namespace Sys2Proof.Machine

theorem execBootSeek_wf (a b : Option Image) (s : State) (s' : State) (h : execBootSeek a b s = .next s') (hw : Memory.wf s.mem = true) : Memory.wf s'.mem = true := by
  unfold execBootSeek at h
  refine onPkg_wf h hw ?_
  repeat' first
    | with_reducible assumption
    | with_reducible refine State.bootSeek_wf _ _ _ ?_

theorem execFlashReadTimeout_wf (slotB : Bool) (s : State) (s' : State) (h : execFlashReadTimeout slotB s = .next s') (hw : Memory.wf s.mem = true) : Memory.wf s'.mem = true := by
  unfold execFlashReadTimeout at h
  refine onPkg_wf h hw ?_
  repeat' first
    | with_reducible assumption
    | with_reducible refine keep_wf (State.modHar_mem _ _) ?_
    | with_reducible refine ite_wf' _ _ ?_ ?_

theorem execHarLoad_wf (s : State) (s' : State) (h : execHarLoad s = .next s') (hw : Memory.wf s.mem = true) : Memory.wf s'.mem = true := by
  unfold execHarLoad at h
  refine onPkg_wf h hw ?_
  repeat' first
    | with_reducible assumption
    | with_reducible refine State.harBusy_wf _ ?_
    | with_reducible refine keep_wf (State.loadStart_mem _ _) ?_
    | with_reducible refine ite_wf' _ _ ?_ ?_

theorem execLoadComplete_wf (img : Option Image) (s : State) (s' : State) (h : execLoadComplete img s = .next s') (hw : Memory.wf s.mem = true) : Memory.wf s'.mem = true := by
  unfold execLoadComplete at h
  refine onPkg_wf h hw ?_
  repeat' first
    | with_reducible assumption
    | with_reducible refine State.hostLoaded_wf _ _ ?_

theorem execHarPrepare_wf (s : State) (s' : State) (h : execHarPrepare s = .next s') (hw : Memory.wf s.mem = true) : Memory.wf s'.mem = true := by
  unfold execHarPrepare at h
  refine onPkg_wf h hw ?_
  repeat' first
    | with_reducible assumption
    | with_reducible refine State.harBusy_wf _ ?_
    | with_reducible refine keep_wf (State.prepare_mem _) ?_
    | with_reducible refine ite_wf' _ _ ?_ ?_

theorem execShadowReady_wf (u : BitVec 16) (s : State) (s' : State) (h : execShadowReady u s = .next s') (hw : Memory.wf s.mem = true) : Memory.wf s'.mem = true := by
  unfold execShadowReady at h
  refine onPkg_wf h hw ?_
  repeat' first
    | with_reducible assumption
    | with_reducible refine State.shadowReady_wf _ _ ?_

theorem execHarArm_wf (s : State) (s' : State) (h : execHarArm s = .next s') (hw : Memory.wf s.mem = true) : Memory.wf s'.mem = true := by
  unfold execHarArm at h
  refine onPkg_wf h hw ?_
  repeat' first
    | with_reducible assumption
    | with_reducible refine State.arm_wf _ ?_

theorem execHarAbort_wf (s : State) (s' : State) (h : execHarAbort s = .next s') (hw : Memory.wf s.mem = true) : Memory.wf s'.mem = true := by
  unfold execHarAbort at h
  refine onPkg_wf h hw ?_
  repeat' first
    | with_reducible assumption
    | with_reducible refine State.harAborted_wf _ _ _ _ ?_
    | with_reducible refine State.harBusy_wf _ ?_
    | with_reducible refine ite_wf' _ _ ?_ ?_

theorem execHarDiscard_wf (s : State) (s' : State) (h : execHarDiscard s = .next s') (hw : Memory.wf s.mem = true) : Memory.wf s'.mem = true := by
  unfold execHarDiscard at h
  refine onPkg_wf h hw ?_
  repeat' first
    | with_reducible assumption
    | with_reducible refine keep_wf (State.dropStaged_mem _) ?_
    | with_reducible refine State.harBusy_wf _ ?_
    | with_reducible refine keep_wf (State.harTo_mem _ _) ?_
    | with_reducible refine ite_wf' _ _ ?_ ?_

theorem execGuardCheck_wf (members : Fin 32) (s : State) (s' : State) (h : execGuardCheck members s = .next s') (hw : Memory.wf s.mem = true) : Memory.wf s'.mem = true := by
  unfold execGuardCheck at h
  refine onPkg_wf h hw ?_
  repeat' first
    | with_reducible assumption
    | with_reducible refine State.guardCheck_wf _ _ ?_

theorem execCommitInstant_wf (s : State) (s' : State) (h : execCommitInstant s = .next s') (hw : Memory.wf s.mem = true) : Memory.wf s'.mem = true := by
  unfold execCommitInstant at h
  refine onPkg_wf h hw ?_
  repeat' first
    | with_reducible assumption
    | with_reducible refine State.commitInstant_wf _ ?_

theorem execUnitSwitch_wf (u : BitVec 16) (s : State) (s' : State) (h : execUnitSwitch u s = .next s') (hw : Memory.wf s.mem = true) : Memory.wf s'.mem = true := by
  unfold execUnitSwitch at h
  refine onPkg_wf h hw ?_
  repeat' first
    | with_reducible assumption
    | with_reducible refine State.switchUnit_wf _ _ ?_
    | with_reducible refine ite_wf' _ _ ?_ ?_

theorem execLaceSwitchTimeout_wf (d : Die) (e : Unit16) (s : State) (s' : State) (h : execLaceSwitchTimeout d e s = .next s') (hw : Memory.wf s.mem = true) : Memory.wf s'.mem = true := by
  unfold execLaceSwitchTimeout at h
  refine onDie_wf h hw ?_
  repeat' first
    | with_reducible assumption
    | with_reducible refine State.lateUnit_wf _ _ ?_
    | with_reducible refine State.switchUnit_wf _ _ ?_
    | with_reducible refine ite_wf' _ _ ?_ ?_

theorem execGroupReportRx_wf (src : Fin 31) (ready : Bool) (guardUs time : Nat) (members : Fin 32) (s : State) (s' : State) (h : execGroupReportRx src ready guardUs time members s = .next s') (hw : Memory.wf s.mem = true) : Memory.wf s'.mem = true := by
  unfold execGroupReportRx at h
  refine onPkg_wf h hw ?_
  repeat' first
    | with_reducible assumption
    | with_reducible refine State.reportRx_wf _ _ _ _ _ _ ?_

theorem execGroupDecisionRx_wf (commit : Bool) (s : State) (s' : State) (h : execGroupDecisionRx commit s = .next s') (hw : Memory.wf s.mem = true) : Memory.wf s'.mem = true := by
  unfold execGroupDecisionRx at h
  refine onPkg_wf h hw ?_
  repeat' first
    | with_reducible assumption
    | with_reducible refine State.decisionRx_wf _ _ ?_

theorem execGroupDecisionTimeout_wf (s : State) (s' : State) (h : execGroupDecisionTimeout s = .next s') (hw : Memory.wf s.mem = true) : Memory.wf s'.mem = true := by
  unfold execGroupDecisionTimeout at h
  refine onPkg_wf h hw ?_
  repeat' first
    | with_reducible assumption
    | with_reducible refine State.groupTimeout_wf _ ?_

end Sys2Proof.Machine
end

