-- ==== Sys2Proof/Laws/ExecVatHostIface.lean ====
section
/-! SUPPORT. The commands of Machine/HostIface keep the form of the Vat. -/

namespace Sys2Proof.Machine

theorem execPcieLinkUp_wf (p : Die) (gen width : Fin 8) (s : State) (s' : State) (h : execPcieLinkUp p gen width s = .next s') (hw : Memory.wf s.mem = true) : Memory.wf s'.mem = true := by
  unfold execPcieLinkUp at h
  refine onDie_wf h hw ?_
  repeat' first
    | with_reducible assumption
    | with_reducible refine keep_wf (State.put_mem _ _ _ _) ?_
    | with_reducible refine keep_wf (State.putFlag_mem _ _ _ _) ?_
    | with_reducible refine ite_wf' _ _ ?_ ?_

theorem execPortReset_wf (p : Die) (kind : Fin 4) (s : State) (s' : State) (h : execPortReset p kind s = .next s') (hw : Memory.wf s.mem = true) : Memory.wf s'.mem = true := by
  unfold execPortReset at h
  refine onDie_wf h hw ?_
  repeat' first
    | with_reducible assumption
    | with_reducible refine State.portReset_wf _ _ _ ?_
    | with_reducible refine keep_wf (State.putFlag_mem _ _ _ _) ?_
    | with_reducible refine ite_wf' _ _ ?_ ?_

theorem execBar4Access_wf (p : Die) (off len : Nat) (write : Option (List Byte)) (s : State) (s' : State) (h : execBar4Access p off len write s = .next s') (hw : Memory.wf s.mem = true) : Memory.wf s'.mem = true := by
  unfold execBar4Access at h
  refine onDie_wf h hw ?_
  repeat' first
    | with_reducible assumption
    | with_reducible refine State.bar4_wf _ _ _ _ _ _ _ ?_
    | with_reducible refine keep_wf (State.ownerDenied_mem _ _ _ _ _ _) ?_
    | with_reducible refine keep_wf (State.refusedReq_mem _) ?_
    | with_reducible refine ite_wf' _ _ ?_ ?_

theorem execPageGather_wf (p : Die) (t : Fin 4096) (n : Fin 128) (pasid : Option Nat) (s : State) (s' : State) (h : execPageGather p t n pasid s = .next s') (hw : Memory.wf s.mem = true) : Memory.wf s'.mem = true := by
  unfold execPageGather at h
  refine onDie_wf h hw ?_
  repeat' first
    | with_reducible assumption
    | with_reducible refine State.onPage_wf _ _ _ _ _ _ _ ?_ ?_
    | with_reducible refine State.pageStart_wf _ _ _ _ _ ?_

theorem execPageScatter_wf (p : Die) (t : Fin 4096) (n : Fin 128) (pasid : Option Nat) (s : State) (s' : State) (h : execPageScatter p t n pasid s = .next s') (hw : Memory.wf s.mem = true) : Memory.wf s'.mem = true := by
  unfold execPageScatter at h
  refine onDie_wf h hw ?_
  repeat' first
    | with_reducible assumption
    | with_reducible refine State.onPage_wf _ _ _ _ _ _ _ ?_ ?_
    | with_reducible refine State.pageStart_wf _ _ _ _ _ ?_

theorem execPageRelease_wf (p : Die) (t : Fin 4096) (pasid : Option Nat) (s : State) (s' : State) (h : execPageRelease p t pasid s = .next s') (hw : Memory.wf s.mem = true) : Memory.wf s'.mem = true := by
  unfold execPageRelease at h
  refine onDie_wf h hw ?_
  repeat' first
    | with_reducible assumption
    | with_reducible refine State.onPage_wf _ _ _ _ _ _ _ ?_ ?_
    | with_reducible refine State.pageRelease_wf _ _ _ ?_

theorem execContextAllocate_wf (p : Die) (t : Fin 4096) (off : Nat) (v : BitVec 32) (pasid : Option Nat) (s : State) (s' : State) (h : execContextAllocate p t off v pasid s = .next s') (hw : Memory.wf s.mem = true) : Memory.wf s'.mem = true := by
  unfold execContextAllocate at h
  refine onDie_wf h hw ?_
  repeat' first
    | with_reducible assumption
    | with_reducible refine keep_wf (State.alignErr_mem _ _ _ _ _ _) ?_
    | with_reducible refine State.onPage_wf _ _ _ _ _ _ _ ?_ ?_
    | with_reducible refine keep_wf (State.winWrite_mem _ _ _ _ _) ?_
    | with_reducible refine ite_wf' _ _ ?_ ?_

theorem execContextIdleExpire_wf (p : Die) (t : Fin 4096) (s : State) (s' : State) (h : execContextIdleExpire p t s = .next s') (hw : Memory.wf s.mem = true) : Memory.wf s'.mem = true := by
  unfold execContextIdleExpire at h
  refine onDie_wf h hw ?_
  repeat' first
    | with_reducible assumption
    | with_reducible refine keep_wf (State.freeCtx_mem _ _ _) ?_
    | with_reducible refine ite_wf' _ _ ?_ ?_

theorem execStoreBucketWaitEnd_wf (d : Die) (w : BucketWaiter) (s : State) (s' : State) (h : execStoreBucketWaitEnd d w s = .next s') (hw : Memory.wf s.mem = true) : Memory.wf s'.mem = true := by
  unfold execStoreBucketWaitEnd at h
  refine onDie_wf h hw ?_
  repeat' first
    | with_reducible assumption
    | with_reducible refine State.modDma_wf _ _ _ _ ?_
    | with_reducible refine State.pageRun_wf _ _ _ _ ?_
    | with_reducible refine ite_wf' _ _ ?_ ?_
    | split

theorem execNoticeWindowRd_wf (p : Die) (t : Fin 4096) (rd : Fin 512) (pasid : Option Nat) (s : State) (s' : State) (h : execNoticeWindowRd p t rd pasid s = .next s') (hw : Memory.wf s.mem = true) : Memory.wf s'.mem = true := by
  unfold execNoticeWindowRd at h
  refine onDie_wf h hw ?_
  repeat' first
    | with_reducible assumption
    | with_reducible refine keep_wf (State.noticeAdvance_mem _ _ _ _) ?_
    | with_reducible refine State.onPage_wf _ _ _ _ _ _ _ ?_ ?_
    | with_reducible refine keep_wf (State.pageAccess_mem _ _ _ _) ?_
    | with_reducible refine ite_wf' _ _ ?_ ?_

theorem execMbxPgTx_wf (p : Die) (t : Fin 4096) (i : Unit16) (w : BitVec 16) (pasid : Option Nat) (s : State) (s' : State) (h : execMbxPgTx p t i w pasid s = .next s') (hw : Memory.wf s.mem = true) : Memory.wf s'.mem = true := by
  unfold execMbxPgTx at h
  refine onDie_wf h hw ?_
  repeat' first
    | with_reducible assumption
    | with_reducible refine keep_wf (State.mbxOverrun_mem _ _ _ _ _ _) ?_
    | with_reducible refine State.mbxPush_wf _ _ _ _ ?_
    | with_reducible refine State.onPage_wf _ _ _ _ _ _ _ ?_ ?_
    | with_reducible refine keep_wf (State.pageAccess_mem _ _ _ _) ?_
    | with_reducible refine ite_wf' _ _ ?_ ?_
    | dsimp only
    | split

theorem execMbxPgRx_wf (p : Die) (t : Fin 4096) (i : Unit16) (pasid : Option Nat) (s : State) (s' : State) (h : execMbxPgRx p t i pasid s = .next s') (hw : Memory.wf s.mem = true) : Memory.wf s'.mem = true := by
  unfold execMbxPgRx at h
  refine onDie_wf h hw ?_
  repeat' first
    | with_reducible assumption
    | with_reducible refine keep_wf (State.answered_mem _ _) ?_
    | with_reducible refine State.mbxTake_wf _ _ _ _ _ (by with_reducible assumption) ?_
    | with_reducible refine State.onPage_wf _ _ _ _ _ _ _ ?_ ?_
    | with_reducible refine keep_wf (State.unboundAccess_mem _ _ _ _ _) ?_
    | split

theorem execMbxPgBell_wf (p : Die) (t : Fin 4096) (i : Unit16) (pasid : Option Nat) (s : State) (s' : State) (h : execMbxPgBell p t i pasid s = .next s') (hw : Memory.wf s.mem = true) : Memory.wf s'.mem = true := by
  unfold execMbxPgBell at h
  refine onDie_wf h hw ?_
  repeat' first
    | with_reducible assumption
    | with_reducible refine State.onPage_wf _ _ _ _ _ _ _ ?_ ?_
    | with_reducible refine keep_wf (State.pageAccess_mem _ _ _ _) ?_
    | with_reducible refine keep_wf (State.ringBell_mem _ _ _) ?_
    | split

theorem execDmaPiWrite_wf (p : Die) (t : Fin 4096) (j : Unit8) (pi : Fin 4096) (pasid : Option Nat) (s : State) (s' : State) (h : execDmaPiWrite p t j pi pasid s = .next s') (hw : Memory.wf s.mem = true) : Memory.wf s'.mem = true := by
  unfold execDmaPiWrite at h
  refine onDie_wf h hw ?_
  repeat' first
    | with_reducible assumption
    | with_reducible refine State.onPage_wf _ _ _ _ _ _ _ ?_ ?_
    | with_reducible refine keep_wf (State.pageAccess_mem _ _ _ _) ?_
    | with_reducible refine keep_wf (State.pput_mem _ _ _ _ _) ?_
    | with_reducible refine ite_wf' _ _ ?_ ?_

theorem execDmaEnable_wf (p : Die) (t : Fin 4096) (j : Unit8) (v : BitVec 32) (pasid : Option Nat) (s : State) (s' : State) (h : execDmaEnable p t j v pasid s = .next s') (hw : Memory.wf s.mem = true) : Memory.wf s'.mem = true := by
  unfold execDmaEnable at h
  refine onDie_wf h hw ?_
  repeat' first
    | with_reducible assumption
    | with_reducible refine State.dmaCtrl_wf _ _ _ _ _ _ _ ?_
    | with_reducible refine State.onPage_wf _ _ _ _ _ _ _ ?_ ?_
    | with_reducible refine keep_wf (State.pageAccess_mem _ _ _ _) ?_
    | split

theorem execDmaDescriptorStart_wf (d : Die) (ch : Fin 32) (bytes : Option (List Byte)) (s : State) (s' : State) (h : execDmaDescriptorStart d ch bytes s = .next s') (hw : Memory.wf s.mem = true) : Memory.wf s'.mem = true := by
  unfold execDmaDescriptorStart at h
  refine onDie_wf h hw ?_
  repeat' first
    | with_reducible assumption
    | with_reducible refine State.dmaHostErr_wf _ _ _ ?_
    | with_reducible refine keep_wf (State.dmaTo_mem _ _ _ _) ?_
    | with_reducible refine State.modDma_wf _ _ _ _ ?_
    | with_reducible refine keep_wf (State.put_mem _ _ _ _) ?_
    | with_reducible refine keep_wf (State.slotPut_mem _ _ _ _ _) ?_
    | with_reducible refine ite_wf' _ _ ?_ ?_

theorem execDmaBurst_wf (d : Die) (ch : Fin 32) (host : Option (List Byte)) (s : State) (s' : State) (h : execDmaBurst d ch host s = .next s') (hw : Memory.wf s.mem = true) : Memory.wf s'.mem = true := by
  unfold execDmaBurst at h
  refine onDie_wf h hw ?_
  repeat' first
    | with_reducible assumption
    | with_reducible refine State.gatherBurst_wf _ _ _ _ ?_
    | with_reducible refine State.linearBurst_wf _ _ _ _ _ ?_
    | with_reducible refine State.scatterBurst_wf _ _ _ _ ?_
    | with_reducible refine ite_wf' _ _ ?_ ?_
    | split

theorem execDmaDescriptorEnd_wf (d : Die) (ch : Fin 32) (s : State) (s' : State) (h : execDmaDescriptorEnd d ch s = .next s') (hw : Memory.wf s.mem = true) : Memory.wf s'.mem = true := by
  unfold execDmaDescriptorEnd at h
  refine onDie_wf h hw ?_
  repeat' first
    | with_reducible assumption
    | with_reducible refine State.dmaEnd_wf _ _ _ _ _ ?_
    | split

theorem execDmaAbort_wf (d : Die) (ch : Fin 32) (s : State) (s' : State) (h : execDmaAbort d ch s = .next s') (hw : Memory.wf s.mem = true) : Memory.wf s'.mem = true := by
  unfold execDmaAbort at h
  refine onDie_wf h hw ?_
  repeat' first
    | with_reducible assumption
    | with_reducible refine State.dmaAbort_wf _ _ _ ?_

theorem execDmaChReset_wf (d : Die) (ch : Fin 32) (s : State) (s' : State) (h : execDmaChReset d ch s = .next s') (hw : Memory.wf s.mem = true) : Memory.wf s'.mem = true := by
  unfold execDmaChReset at h
  refine onDie_wf h hw ?_
  repeat' first
    | with_reducible assumption
    | with_reducible refine State.dmaChReset_wf _ _ _ ?_

theorem execCircularRecord_wf (d : Die) (ch : Fin 32) (s : State) (s' : State) (h : execCircularRecord d ch s = .next s') (hw : Memory.wf s.mem = true) : Memory.wf s'.mem = true := by
  unfold execCircularRecord at h
  refine onDie_wf h hw ?_
  repeat' first
    | with_reducible assumption
    | with_reducible refine State.circular_wf _ _ _ _ ?_
    | with_reducible refine ite_wf' _ _ ?_ ?_
    | split

theorem execCircularCrdWrite_wf (p : Die) (t : Fin 4096) (j : Unit8) (rd : Nat) (pasid : Option Nat) (s : State) (s' : State) (h : execCircularCrdWrite p t j rd pasid s = .next s') (hw : Memory.wf s.mem = true) : Memory.wf s'.mem = true := by
  unfold execCircularCrdWrite at h
  refine onDie_wf h hw ?_
  repeat' first
    | with_reducible assumption
    | with_reducible refine State.crdWrite_wf _ _ _ _ _ _ ?_
    | with_reducible refine State.onPage_wf _ _ _ _ _ _ _ ?_ ?_
    | with_reducible refine keep_wf (State.pageAccess_mem _ _ _ _) ?_
    | split

theorem execHcqDrain_wf (d : Die) (s : State) (s' : State) (h : execHcqDrain d s = .next s') (hw : Memory.wf s.mem = true) : Memory.wf s'.mem = true := by
  unfold execHcqDrain at h
  refine onDie_wf h hw ?_
  repeat' first
    | with_reducible assumption
    | with_reducible refine keep_wf (State.answered_mem _ _) ?_
    | with_reducible refine State.modDma_wf _ _ _ _ ?_
    | with_reducible refine keep_wf (State.msixScan_mem _) ?_
    | with_reducible refine keep_wf (State.put_mem _ _ _ _) ?_
    | with_reducible refine keep_wf (State.setHcq_mem _ _ _) ?_
    | dsimp only
    | split

theorem execHcqWaitEnd_wf (d : Die) (s : State) (s' : State) (h : execHcqWaitEnd d s = .next s') (hw : Memory.wf s.mem = true) : Memory.wf s'.mem = true := by
  unfold execHcqWaitEnd at h
  refine onDie_wf h hw ?_
  repeat' first
    | with_reducible assumption
    | with_reducible refine State.hcqEnter_wf _ _ _ ?_
    | with_reducible refine keep_wf (State.putFlag_mem _ _ _ _) ?_
    | with_reducible refine keep_wf (State.setHcq_mem _ _ _) ?_
    | with_reducible refine ite_wf' _ _ ?_ ?_
    | dsimp only
    | split

end Sys2Proof.Machine
end

