-- ==== Sys2Proof/Laws/ExecVatLace.lean ====
section
/-! SUPPORT. The commands of Machine/Lace keep the form of the Vat. -/

namespace Sys2Proof.Machine

theorem execLaceStep_wf (d : Die) (engines : List Nat) (pins caps : Nat) (s : State) (s' : State) (h : execLaceStep d engines pins caps s = .next s') (hw : Memory.wf s.mem = true) : Memory.wf s'.mem = true := by
  unfold execLaceStep at h
  refine onDie_wf h hw ?_
  repeat' first
    | with_reducible assumption
    | with_reducible refine State.lceTicks_wf _ _ _ _ _ ?_

theorem execCueStart_wf (d : Die) (mask : Nat) (delay : Fin 512) (s : State) (s' : State) (h : execCueStart d mask delay s = .next s') (hw : Memory.wf s.mem = true) : Memory.wf s'.mem = true := by
  unfold execCueStart at h
  refine onDie_wf h hw ?_
  repeat' first
    | with_reducible assumption
    | with_reducible refine State.cue_wf _ _ _ _ _ ?_

theorem execCueRephase_wf (d : Die) (mask : Nat) (delay : Fin 512) (s : State) (s' : State) (h : execCueRephase d mask delay s = .next s') (hw : Memory.wf s.mem = true) : Memory.wf s'.mem = true := by
  unfold execCueRephase at h
  refine onDie_wf h hw ?_
  repeat' first
    | with_reducible assumption
    | with_reducible refine State.cue_wf _ _ _ _ _ ?_

theorem execCueStartRephase_wf (d : Die) (mask : Nat) (delay : Fin 512) (s : State) (s' : State) (h : execCueStartRephase d mask delay s = .next s') (hw : Memory.wf s.mem = true) : Memory.wf s'.mem = true := by
  unfold execCueStartRephase at h
  refine onDie_wf h hw ?_
  repeat' first
    | with_reducible assumption
    | with_reducible refine State.cue_wf _ _ _ _ _ ?_

theorem execCueStop_wf (d : Die) (mask : Nat) (delay : Fin 512) (s : State) (s' : State) (h : execCueStop d mask delay s = .next s') (hw : Memory.wf s.mem = true) : Memory.wf s'.mem = true := by
  unfold execCueStop at h
  refine onDie_wf h hw ?_
  repeat' first
    | with_reducible assumption
    | with_reducible refine State.cue_wf _ _ _ _ _ ?_

theorem execCueReset_wf (d : Die) (mask : Nat) (delay : Fin 512) (s : State) (s' : State) (h : execCueReset d mask delay s = .next s') (hw : Memory.wf s.mem = true) : Memory.wf s'.mem = true := by
  unfold execCueReset at h
  refine onDie_wf h hw ?_
  repeat' first
    | with_reducible assumption
    | with_reducible refine State.cue_wf _ _ _ _ _ ?_

theorem execCueEdge_wf (d : Die) (s : State) (s' : State) (h : execCueEdge d s = .next s') (hw : Memory.wf s.mem = true) : Memory.wf s'.mem = true := by
  unfold execCueEdge at h
  refine onDie_wf h hw ?_
  repeat' first
    | with_reducible assumption
    | with_reducible refine State.cueEdge_wf _ _ ?_

theorem execLaceAutostart_wf (d : Die) (s : State) (s' : State) (h : execLaceAutostart d s = .next s') (hw : Memory.wf s.mem = true) : Memory.wf s'.mem = true := by
  unfold execLaceAutostart at h
  refine onDie_wf h hw ?_
  repeat' first
    | with_reducible assumption
    | with_reducible refine State.autostart_wf _ _ ?_

theorem execLceInFifo_wf (d : Die) (e : Unit16) (word : Nat) (s : State) (s' : State) (h : execLceInFifo d e word s = .next s') (hw : Memory.wf s.mem = true) : Memory.wf s'.mem = true := by
  unfold execLceInFifo at h
  refine onDie_wf h hw ?_
  repeat' first
    | with_reducible assumption
    | with_reducible refine State.lcePush_wf _ _ _ _ ?_

theorem execLceOutFifo_wf (d : Die) (e : Unit16) (s : State) (s' : State) (h : execLceOutFifo d e s = .next s') (hw : Memory.wf s.mem = true) : Memory.wf s'.mem = true := by
  unfold execLceOutFifo at h
  refine onDie_wf h hw ?_
  repeat' first
    | with_reducible assumption
    | with_reducible refine State.lcePop_wf _ _ _ ?_

theorem execLceLoopWrite_wf (d : Die) (e : Unit16) (sel : Option Nat) (loop : Option (Nat × Nat × Nat)) (s : State) (s' : State) (h : execLceLoopWrite d e sel loop s = .next s') (hw : Memory.wf s.mem = true) : Memory.wf s'.mem = true := by
  unfold execLceLoopWrite at h
  refine onDie_wf h hw ?_
  repeat' first
    | with_reducible assumption
    | with_reducible refine keep_wf (State.loopDef_mem _ _ _ _ _ _) ?_
    | with_reducible refine keep_wf (State.put_mem _ _ _ _) ?_
    | split

theorem execLceDivWrite_wf (d : Die) (e : Unit16) (div : Nat) (s : State) (s' : State) (h : execLceDivWrite d e div s = .next s') (hw : Memory.wf s.mem = true) : Memory.wf s'.mem = true := by
  unfold execLceDivWrite at h
  refine onDie_wf h hw ?_
  repeat' first
    | with_reducible assumption
    | with_reducible refine State.divWrite_wf _ _ _ _ ?_

theorem execLceFlagsWrite_wf (d : Die) (flags : Nat) (s : State) (s' : State) (h : execLceFlagsWrite d flags s = .next s') (hw : Memory.wf s.mem = true) : Memory.wf s'.mem = true := by
  unfold execLceFlagsWrite at h
  refine onDie_wf h hw ?_
  repeat' first
    | with_reducible assumption
    | with_reducible refine keep_wf (State.put_mem _ _ _ _) ?_

end Sys2Proof.Machine
end

