-- ==== Sys2Proof/Laws/KeepVatPacks.lean ====
section
/-! SUPPORT. What the functions of Machine/Packs do to the Vat: those that store nothing leave it, the others keep its form. -/

namespace Sys2Proof.Machine

@[simp] theorem State.pduDeliver_wf (s : State) (d c q : Nat) (p : Pdu) (hw : Memory.wf s.mem = true) : Memory.wf (State.pduDeliver s d c q p).mem = true := by
  unfold State.pduDeliver
  repeat' first
    | with_reducible assumption
    | with_reducible refine keep_wf (State.countDrop_mem _ _ _ _) ?_
    | with_reducible refine State.dropFrame_wf _ _ _ _ ?_
    | with_reducible refine State.rxStore_wf _ _ _ _ _ _ _ _ _ (by with_reducible assumption) ?_
    | with_reducible refine State.takeIn_wf _ _ _ _ _ _ _ _ ?_
    | with_reducible refine ite_wf' _ _ ?_ ?_
    | dsimp only
    | split

@[simp] theorem State.resultMsg_wf (s : State) (pack dpi code token : Nat) (hw : Memory.wf s.mem = true) : Memory.wf (State.resultMsg s pack dpi code token).2.mem = true := by
  unfold State.resultMsg
  repeat' first
    | with_reducible assumption
    | with_reducible refine keep_wf (State.freeVal_mem _ _) ?_

@[simp] theorem State.ptpTx_wf (s : State) (b : PtpBlk) (msg : List Byte) (hw : Memory.wf s.mem = true) : Memory.wf (State.ptpTx s b msg).mem = true := by
  unfold State.ptpTx
  repeat' first
    | with_reducible assumption
    | with_reducible refine State.allocTx_wf _ _ _ _ _ _ _ (by with_reducible assumption) ?_
    | with_reducible refine State.arriveEgress_wf _ _ _ _ ?_
    | with_reducible refine State.frameWrite_wf _ _ _ _ _ _ _ ?_
    | with_reducible refine keep_wf (State.padWords_mem _ _) ?_
    | with_reducible refine keep_wf (State.setFrame_mem _ _ _) ?_
    | dsimp only
    | split

end Sys2Proof.Machine
end

