-- ==== Sys2Proof/Laws/ExecVatPacks.lean ====
section
/-! SUPPORT. The commands of Machine/Packs keep the form of the Vat. -/

namespace Sys2Proof.Machine

theorem execPduDeliver_wf (d : Die) (c : Unit8) (q : Fin 4) (pdu : Pdu) (s : State) (s' : State) (h : execPduDeliver d c q pdu s = .next s') (hw : Memory.wf s.mem = true) : Memory.wf s'.mem = true := by
  unfold execPduDeliver at h
  refine onDie_wf h hw ?_
  repeat' first
    | with_reducible assumption
    | with_reducible refine State.pduDeliver_wf _ _ _ _ _ ?_

theorem execFramingErr_wf (d : Die) (s : State) (s' : State) (h : execFramingErr d s = .next s') (hw : Memory.wf s.mem = true) : Memory.wf s'.mem = true := by
  unfold execFramingErr at h
  refine onDie_wf h hw ?_
  repeat' first
    | with_reducible assumption
    | with_reducible refine keep_wf (State.count_mem _ _ _ _) ?_
    | with_reducible refine keep_wf (State.put_mem _ _ _ _) ?_
    | with_reducible refine keep_wf (State.putFlag_mem _ _ _ _) ?_
    | with_reducible refine ite_wf' _ _ ?_ ?_

theorem execTcpSynRefused_wf (d : Die) (s : State) (s' : State) (h : execTcpSynRefused d s = .next s') (hw : Memory.wf s.mem = true) : Memory.wf s'.mem = true := by
  unfold execTcpSynRefused at h
  refine onDie_wf h hw ?_
  repeat' first
    | with_reducible assumption
    | with_reducible refine keep_wf (State.count_mem _ _ _ _) ?_
    | with_reducible refine keep_wf (State.putFlag_mem _ _ _ _) ?_
    | with_reducible refine ite_wf' _ _ ?_ ?_

theorem execReassemblyTimeout_wf (d : Die) (s : State) (s' : State) (h : execReassemblyTimeout d s = .next s') (hw : Memory.wf s.mem = true) : Memory.wf s'.mem = true := by
  unfold execReassemblyTimeout at h
  refine onDie_wf h hw ?_
  repeat' first
    | with_reducible assumption
    | with_reducible refine keep_wf (State.count_mem _ _ _ _) ?_
    | with_reducible refine keep_wf (State.putFlag_mem _ _ _ _) ?_
    | with_reducible refine ite_wf' _ _ ?_ ?_

theorem execCommandTimeout_wf (d : Die) (e : Engine) (dpi : BitVec 20) (token : Word16) (s : State) (s' : State) (h : execCommandTimeout d e dpi token s = .next s') (hw : Memory.wf s.mem = true) : Memory.wf s'.mem = true := by
  unfold execCommandTimeout at h
  refine onDie_wf h hw ?_
  repeat' first
    | with_reducible assumption
    | (intro a x hx)
    | with_reducible refine keep_wf (State.mbxDeliver_mem _ _ _ _) ?_
    | with_reducible refine State.resultMsg_wf _ _ _ _ _ ?_
    | with_reducible refine ite_wf' _ _ ?_ ?_
    | with_reducible refine foldl_wf _ _ _ ?_ ?_

theorem execPartialMessageTimeout_wf (d : Die) (e : Engine) (s : State) (s' : State) (h : execPartialMessageTimeout d e s = .next s') (hw : Memory.wf s.mem = true) : Memory.wf s'.mem = true := by
  unfold execPartialMessageTimeout at h
  refine onDie_wf h hw ?_
  repeat' first
    | with_reducible assumption
    | (intro a x hx)
    | with_reducible refine keep_wf (State.count_mem _ _ _ _) ?_
    | with_reducible refine State.mbxPop_wf _ _ _ _ _ (by with_reducible assumption) ?_
    | with_reducible refine keep_wf (State.putFlag_mem _ _ _ _) ?_
    | with_reducible refine ite_wf' _ _ ?_ ?_
    | with_reducible refine foldl_wf _ _ _ ?_ ?_
    | split

theorem execPtpMessageTx_wf (k : Fin 16) (msg : List Byte) (s : State) (s' : State) (h : execPtpMessageTx k msg s = .next s') (hw : Memory.wf s.mem = true) : Memory.wf s'.mem = true := by
  unfold execPtpMessageTx at h
  refine onPkg_wf h hw ?_
  repeat' first
    | with_reducible assumption
    | with_reducible refine State.ptpTx_wf _ _ _ ?_
    | split

end Sys2Proof.Machine
end

