-- ==== Sys2Proof/Laws/KeepVatPommel.lean ====
section
/-! SUPPORT. What the functions of Machine/Pommel do to the Vat: those that store nothing leave it, the others keep its form. -/

namespace Sys2Proof.Machine

@[simp] theorem State.pomReply_mem (s : State) (cmd status : Nat) (bytes : List Byte) : (State.pomReply s cmd status bytes).mem = s.mem := by rfl

@[simp] theorem State.pommel_wf (s : State) (cmd : Nat) (req : List Byte) (crc : BitVec 8) (served : Bool) (k : State → PomAns)
    (hw : Memory.wf s.mem = true) (h : Memory.wf (k s).2.2.mem = true) : Memory.wf (s.pommel cmd req crc served k).mem = true := by
  unfold State.pommel; dsimp only; (repeat' split) <;> simp (maxDischargeDepth := 40) [*]

@[simp] theorem State.pomReg_wf (s : State) (die off : Nat) (k : PomAns) (hw : Memory.wf s.mem = true) (h : Memory.wf k.2.2.mem = true) :
    Memory.wf (s.pomReg die off k).2.2.mem = true := by
  unfold State.pomReg; repeat' split
  all_goals simp (maxDischargeDepth := 40) [*]

@[simp] theorem State.pomMbx_wf (s : State) (die engine : Nat) (k : Nat × List Byte × Nat × Bool × State) (hw : Memory.wf s.mem = true)
    (h : Memory.wf k.2.2.2.2.mem = true) : Memory.wf (s.pomMbx die engine k).2.2.mem = true := by
  unfold State.pomMbx; repeat' split
  all_goals simp (maxDischargeDepth := 40) [*]

@[simp] theorem State.pomLoad_wf (s : State) (k : PomAns) (hw : Memory.wf s.mem = true) (h : Memory.wf k.2.2.mem = true) : Memory.wf (s.pomLoad k).2.2.mem = true := by
  unfold State.pomLoad; repeat' split
  all_goals simp (maxDischargeDepth := 40) [*]

@[simp] theorem State.pomLoadTo_mem (s : State) (next : Nat) (on : Bool) : (State.pomLoadTo s next on).mem = s.mem := by rfl

@[simp] theorem State.pomLoadEnd_wf (s : State) (img : Option Image) (inOrder : Bool) (hw : Memory.wf s.mem = true) : Memory.wf (State.pomLoadEnd s img inOrder).2.2.mem = true := by
  unfold State.pomLoadEnd
  repeat' first
    | with_reducible assumption
    | with_reducible refine State.loadArrived_wf _ _ _ ?_
    | with_reducible refine State.loadRefused_wf _ _ _ ?_
    | with_reducible refine keep_wf (State.pomLoadTo_mem _ _ _) ?_
    | dsimp only
    | split

@[simp] theorem State.pomReset_wf (s : State) (rung u : Nat) (hw : Memory.wf s.mem = true) : Memory.wf (State.pomReset s rung u).2.2.mem = true := by
  unfold State.pomReset
  repeat' first
    | with_reducible assumption
    | with_reducible refine State.pkgDecide_wf _ _ _ ?_
    | with_reducible refine State.rung4_wf _ _ _ ?_
    | with_reducible refine State.unitRequest_wf _ _ _ _ _ ?_
    | dsimp only
    | split

end Sys2Proof.Machine
end

