-- ==== Sys2Proof/Laws/ExecVatPommel.lean ====
section
/-! SUPPORT. The commands of Machine/Pommel keep the form of the Vat. -/

namespace Sys2Proof.Machine

theorem execPommelStatus_wf (crc : BitVec 8) (s : State) (s' : State) (h : execPommelStatus crc s = .next s') (hw : Memory.wf s.mem = true) : Memory.wf s'.mem = true := by
  unfold execPommelStatus at h
  refine nextRes_wf h ?_
  repeat' first
    | with_reducible assumption
    | with_reducible refine State.pommel_wf _ _ _ _ _ _ ?_ ?_

theorem execPommelFaults_wf (die crc : BitVec 8) (s : State) (s' : State) (h : execPommelFaults die crc s = .next s') (hw : Memory.wf s.mem = true) : Memory.wf s'.mem = true := by
  unfold execPommelFaults at h
  refine nextRes_wf h ?_
  repeat' first
    | with_reducible assumption
    | with_reducible refine State.pommel_wf _ _ _ _ _ _ ?_ ?_
    | split

theorem execPommelRead_wf (die : BitVec 8) (off : BitVec 24) (crc : BitVec 8) (s : State) (s' : State) (h : execPommelRead die off crc s = .next s') (hw : Memory.wf s.mem = true) : Memory.wf s'.mem = true := by
  unfold execPommelRead at h
  refine nextRes_wf h ?_
  repeat' first
    | with_reducible assumption
    | with_reducible refine State.ctlRead_wf _ _ _ ?_
    | with_reducible refine State.pomReg_wf _ _ _ _ ?_ ?_
    | with_reducible refine State.pommel_wf _ _ _ _ _ _ ?_ ?_
    | dsimp only
    | split

theorem execPommelWrite_wf (die : BitVec 8) (off : BitVec 24) (data : BitVec 32) (crc : BitVec 8) (env : WriteEnv) (s : State) (s' : State) (h : execPommelWrite die off data crc env s = .next s') (hw : Memory.wf s.mem = true) : Memory.wf s'.mem = true := by
  unfold execPommelWrite at h
  refine nextRes_wf h ?_
  repeat' first
    | with_reducible assumption
    | with_reducible refine State.ctlPut_wf _ _ _ _ _ _ ?_
    | with_reducible refine State.pomReg_wf _ _ _ _ ?_ ?_
    | with_reducible refine State.pommel_wf _ _ _ _ _ _ ?_ ?_

theorem execPommelMbxPut_wf (die engine : BitVec 8) (w : BitVec 16) (crc : BitVec 8) (s : State) (s' : State) (h : execPommelMbxPut die engine w crc s = .next s') (hw : Memory.wf s.mem = true) : Memory.wf s'.mem = true := by
  unfold execPommelMbxPut at h
  refine nextRes_wf h ?_
  repeat' first
    | with_reducible assumption
    | with_reducible refine State.mbxPush_wf _ _ _ _ ?_
    | with_reducible refine State.pomMbx_wf _ _ _ _ ?_ ?_
    | with_reducible refine State.pommel_wf _ _ _ _ _ _ ?_ ?_

theorem execPommelMbxGet_wf (die engine crc : BitVec 8) (s : State) (s' : State) (h : execPommelMbxGet die engine crc s = .next s') (hw : Memory.wf s.mem = true) : Memory.wf s'.mem = true := by
  unfold execPommelMbxGet at h
  refine nextRes_wf h ?_
  repeat' first
    | with_reducible assumption
    | with_reducible refine State.mbxTake_wf _ _ _ _ _ (by with_reducible assumption) ?_
    | with_reducible refine State.pomMbx_wf _ _ _ _ ?_ ?_
    | with_reducible refine State.pommel_wf _ _ _ _ _ _ ?_ ?_
    | split

theorem execPommelLoadBegin_wf (len : BitVec 32) (crc : BitVec 8) (s : State) (s' : State) (h : execPommelLoadBegin len crc s = .next s') (hw : Memory.wf s.mem = true) : Memory.wf s'.mem = true := by
  unfold execPommelLoadBegin at h
  refine nextRes_wf h ?_
  repeat' first
    | with_reducible assumption
    | with_reducible refine State.harBusy_wf _ ?_
    | with_reducible refine keep_wf (State.loadStart_mem _ _) ?_
    | with_reducible refine keep_wf (State.modRcv_mem _ _) ?_
    | with_reducible refine State.pomLoad_wf _ _ ?_ ?_
    | with_reducible refine keep_wf (State.pomLoadTo_mem _ _ _) ?_
    | with_reducible refine State.pommel_wf _ _ _ _ _ _ ?_ ?_
    | split

theorem execPommelLoadData_wf (off : BitVec 32) (data : List Byte) (crc : BitVec 8) (s : State) (s' : State) (h : execPommelLoadData off data crc s = .next s') (hw : Memory.wf s.mem = true) : Memory.wf s'.mem = true := by
  unfold execPommelLoadData at h
  refine nextRes_wf h ?_
  repeat' first
    | with_reducible assumption
    | with_reducible refine State.pomLoad_wf _ _ ?_ ?_
    | with_reducible refine keep_wf (State.pomLoadTo_mem _ _ _) ?_
    | with_reducible refine State.pommel_wf _ _ _ _ _ _ ?_ ?_
    | split

theorem execPommelLoadEnd_wf (img : Option Image) (inOrder : Bool) (crc : BitVec 8) (s : State) (s' : State) (h : execPommelLoadEnd img inOrder crc s = .next s') (hw : Memory.wf s.mem = true) : Memory.wf s'.mem = true := by
  unfold execPommelLoadEnd at h
  refine nextRes_wf h ?_
  repeat' first
    | with_reducible assumption
    | with_reducible refine State.pomLoad_wf _ _ ?_ ?_
    | with_reducible refine State.pomLoadEnd_wf _ _ _ ?_
    | with_reducible refine State.pommel_wf _ _ _ _ _ _ ?_ ?_
    | split

theorem execPommelLoadTimeout_wf (s : State) (s' : State) (h : execPommelLoadTimeout s = .next s') (hw : Memory.wf s.mem = true) : Memory.wf s'.mem = true := by
  unfold execPommelLoadTimeout at h
  refine onPkg_wf h hw ?_
  repeat' first
    | with_reducible assumption
    | with_reducible refine State.loadRefused_wf _ _ _ ?_
    | with_reducible refine keep_wf (State.pomLoadTo_mem _ _ _) ?_
    | with_reducible refine ite_wf' _ _ ?_ ?_

theorem execPommelSafe_wf (on crc : BitVec 8) (s : State) (s' : State) (h : execPommelSafe on crc s = .next s') (hw : Memory.wf s.mem = true) : Memory.wf s'.mem = true := by
  unfold execPommelSafe at h
  refine nextRes_wf h ?_
  repeat' first
    | with_reducible assumption
    | with_reducible refine State.pommel_wf _ _ _ _ _ _ ?_ ?_
    | with_reducible refine State.safeRequest_wf _ _ _ ?_
    | split

theorem execPommelSafeExit_wf (crc : BitVec 8) (s : State) (s' : State) (h : execPommelSafeExit crc s = .next s') (hw : Memory.wf s.mem = true) : Memory.wf s'.mem = true := by
  unfold execPommelSafeExit at h
  refine nextRes_wf h ?_
  repeat' first
    | with_reducible assumption
    | with_reducible refine State.pommel_wf _ _ _ _ _ _ ?_ ?_
    | with_reducible refine State.safeExitNow_wf _ _ ?_

theorem execPommelReset_wf (rung : BitVec 8) (u : BitVec 16) (crc : BitVec 8) (s : State) (s' : State) (h : execPommelReset rung u crc s = .next s') (hw : Memory.wf s.mem = true) : Memory.wf s'.mem = true := by
  unfold execPommelReset at h
  refine nextRes_wf h ?_
  repeat' first
    | with_reducible assumption
    | with_reducible refine State.pomReset_wf _ _ _ ?_
    | with_reducible refine State.pommel_wf _ _ _ _ _ _ ?_ ?_

theorem execPommelAlarmClr_wf (crc : BitVec 8) (s : State) (s' : State) (h : execPommelAlarmClr crc s = .next s') (hw : Memory.wf s.mem = true) : Memory.wf s'.mem = true := by
  unfold execPommelAlarmClr at h
  refine nextRes_wf h ?_
  repeat' first
    | with_reducible assumption
    | with_reducible refine keep_wf (State.alarmClear_mem _) ?_
    | with_reducible refine State.pommel_wf _ _ _ _ _ _ ?_ ?_

end Sys2Proof.Machine
end

