-- ==== Sys2Proof/Laws/ExecVatPower.lean ====
section
/-! SUPPORT. The commands of Machine/Power keep the form of the Vat. -/

namespace Sys2Proof.Machine

theorem execCmdActive_wf (s : State) (s' : State) (h : execCmdActive s = .next s') (hw : Memory.wf s.mem = true) : Memory.wf s'.mem = true := by
  unfold execCmdActive at h
  refine onPkg_wf h hw ?_
  repeat' first
    | with_reducible assumption
    | with_reducible refine State.powerCmd_wf _ _ ?_

theorem execCmdTrim_wf (s : State) (s' : State) (h : execCmdTrim s = .next s') (hw : Memory.wf s.mem = true) : Memory.wf s'.mem = true := by
  unfold execCmdTrim at h
  refine onPkg_wf h hw ?_
  repeat' first
    | with_reducible assumption
    | with_reducible refine State.powerCmd_wf _ _ ?_

theorem execCmdRetain_wf (s : State) (s' : State) (h : execCmdRetain s = .next s') (hw : Memory.wf s.mem = true) : Memory.wf s'.mem = true := by
  unfold execCmdRetain at h
  refine onPkg_wf h hw ?_
  repeat' first
    | with_reducible assumption
    | with_reducible refine State.powerCmd_wf _ _ ?_
    | with_reducible refine State.powerNext_wf _ ?_

theorem execCmdOffWake_wf (s : State) (s' : State) (h : execCmdOffWake s = .next s') (hw : Memory.wf s.mem = true) : Memory.wf s'.mem = true := by
  unfold execCmdOffWake at h
  refine onPkg_wf h hw ?_
  repeat' first
    | with_reducible assumption
    | with_reducible refine State.powerCmd_wf _ _ ?_
    | with_reducible refine State.powerNext_wf _ ?_

theorem execCmdCycle_wf (s : State) (s' : State) (h : execCmdCycle s = .next s') (hw : Memory.wf s.mem = true) : Memory.wf s'.mem = true := by
  unfold execCmdCycle at h
  refine onPkg_wf h hw ?_
  repeat' first
    | with_reducible assumption
    | with_reducible refine State.powerCmd_wf _ _ ?_
    | with_reducible refine State.powerNext_wf _ ?_

theorem execRetainExit_wf (s : State) (s' : State) (h : execRetainExit s = .next s') (hw : Memory.wf s.mem = true) : Memory.wf s'.mem = true := by
  unfold execRetainExit at h
  refine onPkg_wf h hw ?_
  repeat' first
    | with_reducible assumption
    | with_reducible refine State.leaveRetain_wf _ ?_

theorem execVcoreCodeStep_wf (mvs : List (Fin 1024)) (s : State) (s' : State) (h : execVcoreCodeStep mvs s = .next s') (hw : Memory.wf s.mem = true) : Memory.wf s'.mem = true := by
  unfold execVcoreCodeStep at h
  refine onPkg_wf h hw ?_
  repeat' first
    | with_reducible assumption
    | with_reducible refine State.settled_wf _ _ ?_

theorem execVcoreSlow_wf (mv : Fin 1024) (s : State) (s' : State) (h : execVcoreSlow mv s = .next s') (hw : Memory.wf s.mem = true) : Memory.wf s'.mem = true := by
  unfold execVcoreSlow at h
  refine onPkg_wf h hw ?_
  repeat' first
    | with_reducible assumption
    | with_reducible refine State.slowStep_wf _ _ ?_

theorem execAdaptStep_wf (s : State) (s' : State) (h : execAdaptStep s = .next s') (hw : Memory.wf s.mem = true) : Memory.wf s'.mem = true := by
  unfold execAdaptStep at h
  refine onPkg_wf h hw ?_
  repeat' first
    | with_reducible assumption
    | with_reducible refine State.adapt_wf _ ?_

theorem execVcoreTargetWrite_wf (v : BitVec 32) (s : State) (s' : State) (h : execVcoreTargetWrite v s = .next s') (hw : Memory.wf s.mem = true) : Memory.wf s'.mem = true := by
  unfold execVcoreTargetWrite at h
  refine onPkg_wf h hw ?_
  repeat' first
    | with_reducible assumption
    | with_reducible refine keep_wf (State.puts_mem _ _ _) ?_
    | with_reducible refine State.retarget_wf _ ?_

theorem execDomainFence_wf (d : Die) (n : Fin 50) (s : State) (s' : State) (h : execDomainFence d n s = .next s') (hw : Memory.wf s.mem = true) : Memory.wf s'.mem = true := by
  unfold execDomainFence at h
  refine onDie_wf h hw ?_
  repeat' first
    | with_reducible assumption
    | with_reducible refine State.domainFence_wf _ _ _ ?_

theorem execDomainDrainEnd_wf (d : Die) (n : Fin 50) (s : State) (s' : State) (h : execDomainDrainEnd d n s = .next s') (hw : Memory.wf s.mem = true) : Memory.wf s'.mem = true := by
  unfold execDomainDrainEnd at h
  refine onDie_wf h hw ?_
  repeat' first
    | with_reducible assumption
    | with_reducible refine State.domOff_wf _ _ _ ?_
    | with_reducible refine State.powerNext_wf _ ?_
    | with_reducible refine ite_wf' _ _ ?_ ?_

theorem execDrainForced_wf (d : Die) (n : Fin 50) (count : Nat) (s : State) (s' : State) (h : execDrainForced d n count s = .next s') (hw : Memory.wf s.mem = true) : Memory.wf s'.mem = true := by
  unfold execDrainForced at h
  refine onDie_wf h hw ?_
  repeat' first
    | with_reducible assumption
    | with_reducible refine State.drainForce_wf _ _ _ _ ?_

theorem execDomainRampDone_wf (d : Die) (n : Fin 50) (s : State) (s' : State) (h : execDomainRampDone d n s = .next s') (hw : Memory.wf s.mem = true) : Memory.wf s'.mem = true := by
  unfold execDomainRampDone at h
  refine onDie_wf h hw ?_
  repeat' first
    | with_reducible assumption
    | with_reducible refine State.rampDone_wf _ _ _ ?_

theorem execDemandWake_wf (d : Die) (c : Unit8) (s : State) (s' : State) (h : execDemandWake d c s = .next s') (hw : Memory.wf s.mem = true) : Memory.wf s'.mem = true := by
  unfold execDemandWake at h
  refine onDie_wf h hw ?_
  repeat' first
    | with_reducible assumption
    | with_reducible refine State.demandWake_wf _ _ _ ?_

theorem execDemandIdleExpire_wf (d : Die) (c : Unit8) (s : State) (s' : State) (h : execDemandIdleExpire d c s = .next s') (hw : Memory.wf s.mem = true) : Memory.wf s'.mem = true := by
  unfold execDemandIdleExpire at h
  refine onDie_wf h hw ?_
  repeat' first
    | with_reducible assumption
    | with_reducible refine State.fenceDom_wf _ _ _ ?_
    | with_reducible refine ite_wf' _ _ ?_ ?_

theorem execSentinelExpire_wf (d : Die) (m : Fin 105) (td : Die) (dom : Fin 50) (off : BitVec 32) (write accepted : Bool) (origin : Option (Die × Fin 102)) (obj : SentObj) (s : State) (s' : State) (h : execSentinelExpire d m td dom off write accepted origin obj s = .next s') (hw : Memory.wf s.mem = true) : Memory.wf s'.mem = true := by
  unfold execSentinelExpire at h
  refine onDie_wf h hw ?_
  repeat' first
    | with_reducible assumption
    | with_reducible refine State.sentinel_wf _ _ _ _ _ _ _ _ _ _ ?_

theorem execCrossingResetAck_wf (d : Die) (n : Fin 50) (forced : Bool) (s : State) (s' : State) (h : execCrossingResetAck d n forced s = .next s') (hw : Memory.wf s.mem = true) : Memory.wf s'.mem = true := by
  unfold execCrossingResetAck at h
  refine onDie_wf h hw ?_
  repeat' first
    | with_reducible assumption
    | with_reducible refine State.crossingAck_wf _ _ _ _ ?_

theorem execWakeSource_wf (kind : Fin 3) (s : State) (s' : State) (h : execWakeSource kind s = .next s') (hw : Memory.wf s.mem = true) : Memory.wf s'.mem = true := by
  unfold execWakeSource at h
  refine nextRes_wf h ?_
  repeat' first
    | with_reducible assumption
    | with_reducible refine State.wakeBy_wf _ _ ?_

theorem execRailsGood_wf (s : State) (s' : State) (h : execRailsGood s = .next s') (hw : Memory.wf s.mem = true) : Memory.wf s'.mem = true := by
  unfold execRailsGood at h
  refine nextRes_wf h ?_
  repeat' first
    | with_reducible assumption
    | with_reducible refine State.railsGood_wf _ ?_

theorem execRailGoodTimeout_wf (s : State) (s' : State) (h : execRailGoodTimeout s = .next s') (hw : Memory.wf s.mem = true) : Memory.wf s'.mem = true := by
  unfold execRailGoodTimeout at h
  refine nextRes_wf h ?_
  repeat' first
    | with_reducible assumption
    | with_reducible refine State.railsLate_wf _ ?_

theorem execRailRetry_wf (s : State) (s' : State) (h : execRailRetry s = .next s') (hw : Memory.wf s.mem = true) : Memory.wf s'.mem = true := by
  unfold execRailRetry at h
  refine nextRes_wf h ?_
  repeat' first
    | with_reducible assumption
    | with_reducible refine keep_wf (State.beginWake_mem _ _ _) ?_
    | with_reducible refine ite_wf' _ _ ?_ ?_

theorem execRailUndervoltage_wf (d : Die) (rail : Fin 9) (mv : Nat) (s : State) (s' : State) (h : execRailUndervoltage d rail mv s = .next s') (hw : Memory.wf s.mem = true) : Memory.wf s'.mem = true := by
  unfold execRailUndervoltage at h
  refine onDie_wf h hw ?_
  repeat' first
    | with_reducible assumption
    | with_reducible refine State.railLow_wf _ _ _ _ ?_

theorem execRailUvTimeout_wf (s : State) (s' : State) (h : execRailUvTimeout s = .next s') (hw : Memory.wf s.mem = true) : Memory.wf s'.mem = true := by
  unfold execRailUvTimeout at h
  refine onPkg_wf h hw ?_
  repeat' first
    | with_reducible assumption
    | with_reducible refine keep_wf (State.enterOffWake_mem _) ?_
    | with_reducible refine keep_wf (State.modRcv_mem _ _) ?_
    | with_reducible refine keep_wf (State.putFlag_mem _ _ _ _) ?_
    | with_reducible refine ite_wf' _ _ ?_ ?_

theorem execXinLoss_wf (d : Die) (s : State) (s' : State) (h : execXinLoss d s = .next s') (hw : Memory.wf s.mem = true) : Memory.wf s'.mem = true := by
  unfold execXinLoss at h
  refine onDie_wf h hw ?_
  repeat' first
    | with_reducible assumption
    | with_reducible refine State.condFault_wf _ _ _ _ _ ?_
    | with_reducible refine keep_wf (State.putFlag_mem _ _ _ _) ?_

theorem execPowerOnReset_wf (s : State) (s' : State) (h : execPowerOnReset s = .next s') (hw : Memory.wf s.mem = true) : Memory.wf s'.mem = true := by
  unfold execPowerOnReset at h
  refine nextRes_wf h ?_
  repeat' first
    | with_reducible assumption
    | with_reducible refine State.powerOn_wf _ ?_

theorem execVaonLoss_wf (s : State) (s' : State) (h : execVaonLoss s = .next s') (hw : Memory.wf s.mem = true) : Memory.wf s'.mem = true := by
  unfold execVaonLoss at h
  refine nextRes_wf h ?_
  repeat' first
    | with_reducible assumption
    | with_reducible refine keep_wf (State.modPwr_mem _ _) ?_

theorem execIslandPllUnlock_wf (d : Die) (island : Fin 5) (s : State) (s' : State) (h : execIslandPllUnlock d island s = .next s') (hw : Memory.wf s.mem = true) : Memory.wf s'.mem = true := by
  unfold execIslandPllUnlock at h
  refine onDie_wf h hw ?_
  repeat' first
    | with_reducible assumption
    | with_reducible refine State.pllLost_wf _ _ _ ?_

theorem execIslandPllRelock_wf (d : Die) (island : Fin 5) (s : State) (s' : State) (h : execIslandPllRelock d island s = .next s') (hw : Memory.wf s.mem = true) : Memory.wf s'.mem = true := by
  unfold execIslandPllRelock at h
  refine onDie_wf h hw ?_
  repeat' first
    | with_reducible assumption
    | with_reducible refine keep_wf (State.modPwr_mem _ _) ?_

end Sys2Proof.Machine
end

