-- ==== Sys2Proof/Laws/ExecVatRecorder.lean ====
section
/-! SUPPORT. The commands of Machine/Recorder keep the form of the Vat. -/

namespace Sys2Proof.Machine

theorem execMarkTick_wf (d : Die) (s : State) (s' : State) (h : execMarkTick d s = .next s') (hw : Memory.wf s.mem = true) : Memory.wf s'.mem = true := by
  unfold execMarkTick at h
  refine onDie_wf h hw ?_
  repeat' first
    | with_reducible assumption
    | with_reducible refine State.markTick_wf _ _ ?_

theorem execTimeEventMark_wf (d : Die) (cause : TimeMark) (s : State) (s' : State) (h : execTimeEventMark d cause s = .next s') (hw : Memory.wf s.mem = true) : Memory.wf s'.mem = true := by
  unfold execTimeEventMark at h
  refine onDie_wf h hw ?_
  repeat' first
    | with_reducible assumption
    | with_reducible refine State.markRec_wf _ _ _ _ ?_

theorem execSnapTake_wf (d : Die) (k : Fin 4) (s : State) (s' : State) (h : execSnapTake d k s = .next s') (hw : Memory.wf s.mem = true) : Memory.wf s'.mem = true := by
  unfold execSnapTake at h
  refine onDie_wf h hw ?_
  repeat' first
    | with_reducible assumption
    | with_reducible refine State.snapTake_wf _ _ _ ?_

theorem execSnapRelease_wf (d : Die) (k : Fin 4) (s : State) (s' : State) (h : execSnapRelease d k s = .next s') (hw : Memory.wf s.mem = true) : Memory.wf s'.mem = true := by
  unfold execSnapRelease at h
  refine onDie_wf h hw ?_
  repeat' first
    | with_reducible assumption
    | with_reducible refine keep_wf (State.putFlag_mem _ _ _ _) ?_

theorem execSegmentClose_wf (d : Die) (s : State) (s' : State) (h : execSegmentClose d s = .next s') (hw : Memory.wf s.mem = true) : Memory.wf s'.mem = true := by
  unfold execSegmentClose at h
  refine onDie_wf h hw ?_
  repeat' first
    | with_reducible assumption
    | with_reducible refine State.closeSegment_wf _ _ _ ?_

theorem execFlush_wf (d : Die) (s : State) (s' : State) (h : execFlush d s = .next s') (hw : Memory.wf s.mem = true) : Memory.wf s'.mem = true := by
  unfold execFlush at h
  refine onDie_wf h hw ?_
  repeat' first
    | with_reducible assumption
    | with_reducible refine State.closeCur_wf _ _ ?_
    | with_reducible refine State.closeSegment_wf _ _ _ ?_
    | with_reducible refine keep_wf (State.putFlag_mem _ _ _ _) ?_
    | with_reducible refine State.syncOcc_wf _ _ ?_

theorem execNvmeWriteDone_wf (d : Die) (tag : Nat) (ok : Bool) (s : State) (s' : State) (h : execNvmeWriteDone d tag ok s = .next s') (hw : Memory.wf s.mem = true) : Memory.wf s'.mem = true := by
  unfold execNvmeWriteDone at h
  refine onDie_wf h hw ?_
  repeat' first
    | with_reducible assumption
    | with_reducible refine State.segFailed_wf _ _ _ ?_
    | with_reducible refine State.segWritten_wf _ _ _ ?_
    | with_reducible refine ite_wf' _ _ ?_ ?_
    | split

theorem execNvmeWriteTimeout_wf (d : Die) (tag : Nat) (s : State) (s' : State) (h : execNvmeWriteTimeout d tag s = .next s') (hw : Memory.wf s.mem = true) : Memory.wf s'.mem = true := by
  unfold execNvmeWriteTimeout at h
  refine onDie_wf h hw ?_
  repeat' first
    | with_reducible assumption
    | with_reducible refine State.segFailed_wf _ _ _ ?_
    | split

theorem execArchiveRetryTimer_wf (d : Die) (s : State) (s' : State) (h : execArchiveRetryTimer d s = .next s') (hw : Memory.wf s.mem = true) : Memory.wf s'.mem = true := by
  unfold execArchiveRetryTimer at h
  refine onDie_wf h hw ?_
  repeat' first
    | with_reducible assumption
    | with_reducible refine State.retryArchive_wf _ _ ?_

theorem execArcRetry_wf (d : Die) (s : State) (s' : State) (h : execArcRetry d s = .next s') (hw : Memory.wf s.mem = true) : Memory.wf s'.mem = true := by
  unfold execArcRetry at h
  refine onDie_wf h hw ?_
  repeat' first
    | with_reducible assumption
    | with_reducible refine State.retryArchive_wf _ _ ?_

theorem execArcAdopt_wf (d : Die) (s : State) (s' : State) (h : execArcAdopt d s = .next s') (hw : Memory.wf s.mem = true) : Memory.wf s'.mem = true := by
  unfold execArcAdopt at h
  refine onDie_wf h hw ?_
  repeat' first
    | with_reducible assumption
    | with_reducible refine keep_wf (State.put_mem _ _ _ _) ?_
    | with_reducible refine keep_wf (State.putFlag_mem _ _ _ _) ?_
    | with_reducible refine State.setRecDie_wf _ _ _ ?_
    | with_reducible refine ite_wf' _ _ ?_ ?_

theorem execErcAlarmClr_wf (d : Die) (s : State) (s' : State) (h : execErcAlarmClr d s = .next s') (hw : Memory.wf s.mem = true) : Memory.wf s'.mem = true := by
  unfold execErcAlarmClr at h
  refine onDie_wf h hw ?_
  repeat' first
    | with_reducible assumption
    | with_reducible refine keep_wf (State.putFlag_mem _ _ _ _) ?_
    | with_reducible refine ite_wf' _ _ ?_ ?_

theorem execLastGasp_wf (cause : GaspCause) (s : State) (s' : State) (h : execLastGasp cause s = .next s') (hw : Memory.wf s.mem = true) : Memory.wf s'.mem = true := by
  unfold execLastGasp at h
  refine onPkg_wf h hw ?_
  repeat' first
    | with_reducible assumption
    | with_reducible refine State.startGasp_wf _ _ ?_

theorem execBootContinuation_wf (missing : List MissingLoss) (foreign : List Nat) (s : State) (s' : State) (h : execBootContinuation missing foreign s = .next s') (hw : Memory.wf s.mem = true) : Memory.wf s'.mem = true := by
  unfold execBootContinuation at h
  refine onPkg_wf h hw ?_
  repeat' first
    | with_reducible assumption
    | with_reducible refine State.bootContinue_wf _ _ ?_
    | with_reducible refine State.foreignParts_wf _ _ ?_
    | with_reducible refine ite_wf' _ _ ?_ ?_

theorem execClrNonce_wf (s : State) (s' : State) (h : execClrNonce s = .next s') (hw : Memory.wf s.mem = true) : Memory.wf s'.mem = true := by
  unfold execClrNonce at h
  refine onPkg_wf h hw ?_
  repeat' first
    | with_reducible assumption
    | with_reducible refine keep_wf (State.freeVal_mem _ _) ?_

theorem execNonceExpire_wf (s : State) (s' : State) (h : execNonceExpire s = .next s') (hw : Memory.wf s.mem = true) : Memory.wf s'.mem = true := by
  unfold execNonceExpire at h
  refine onPkg_wf h hw ?_
  repeat' first
    | with_reducible assumption

theorem execClearGo_wf (cut : Option Nat) (s : State) (s' : State) (h : execClearGo cut s = .next s') (hw : Memory.wf s.mem = true) : Memory.wf s'.mem = true := by
  unfold execClearGo at h
  refine onPkg_wf h hw ?_
  repeat' first
    | with_reducible assumption
    | with_reducible refine State.clearGo_wf _ _ ?_

end Sys2Proof.Machine
end

