-- ==== Sys2Proof/Laws/ExecVatRecovery.lean ====
section
/-! SUPPORT. The commands of Machine/Recovery keep the form of the Vat. -/

namespace Sys2Proof.Machine

theorem execVatClearDone_wf (d : Die) (s : State) (s' : State) (h : execVatClearDone d s = .next s') (hw : Memory.wf s.mem = true) : Memory.wf s'.mem = true := by
  unfold execVatClearDone at h
  refine onDie_wf h hw ?_
  repeat' first
    | with_reducible assumption
    | with_reducible refine keep_wf (State.clearDone_mem _ _) ?_
    | with_reducible refine State.pkgAdvance_wf _ ?_
    | with_reducible refine ite_wf' _ _ ?_ ?_

theorem execLastGaspEnd_wf (written : Nat) (s : State) (s' : State) (h : execLastGaspEnd written s = .next s') (hw : Memory.wf s.mem = true) : Memory.wf s'.mem = true := by
  unfold execLastGaspEnd at h
  refine onPkg_wf h hw ?_
  repeat' first
    | with_reducible assumption
    | with_reducible refine State.gaspEnd_wf _ _ ?_
    | with_reducible refine State.pkgAdvance_wf _ ?_

theorem execFaultDetect_wf (d : Die) (c : Unit16) (u : BitVec 16) (on : Bool) (s : State) (s' : State) (h : execFaultDetect d c u on s = .next s') (hw : Memory.wf s.mem = true) : Memory.wf s'.mem = true := by
  unfold execFaultDetect at h
  refine onDie_wf h hw ?_
  repeat' first
    | with_reducible assumption
    | with_reducible refine State.faultDetect_wf _ _ _ _ _ ?_

theorem execReloadFail_wf (d : Die) (scope : ResetScope) (s : State) (s' : State) (h : execReloadFail d scope s = .next s') (hw : Memory.wf s.mem = true) : Memory.wf s'.mem = true := by
  unfold execReloadFail at h
  refine onDie_wf h hw ?_
  repeat' first
    | with_reducible assumption
    | with_reducible refine State.reloadFailed_wf _ _ _ ?_

theorem execRegionResetReq_wf (d : Die) (q : Fin 4) (s : State) (s' : State) (h : execRegionResetReq d q s = .next s') (hw : Memory.wf s.mem = true) : Memory.wf s'.mem = true := by
  unfold execRegionResetReq at h
  refine onDie_wf h hw ?_
  repeat' first
    | with_reducible assumption
    | with_reducible refine State.regionReset_wf _ _ _ _ _ ?_

theorem execRegionResetDone_wf (d : Die) (q : Fin 4) (s : State) (s' : State) (h : execRegionResetDone d q s = .next s') (hw : Memory.wf s.mem = true) : Memory.wf s'.mem = true := by
  unfold execRegionResetDone at h
  refine onDie_wf h hw ?_
  repeat' first
    | with_reducible assumption
    | with_reducible refine State.regionDone_wf _ _ _ ?_

theorem execUnitRstGo_wf (d : Die) (u : BitVec 16) (s : State) (s' : State) (h : execUnitRstGo d u s = .next s') (hw : Memory.wf s.mem = true) : Memory.wf s'.mem = true := by
  unfold execUnitRstGo at h
  refine onDie_wf h hw ?_
  repeat' first
    | with_reducible assumption
    | with_reducible refine State.unitGo_wf _ _ _ _ ?_

theorem execPkgReset_wf (s : State) (s' : State) (h : execPkgReset s = .next s') (hw : Memory.wf s.mem = true) : Memory.wf s'.mem = true := by
  unfold execPkgReset at h
  refine onPkg_wf h hw ?_
  repeat' first
    | with_reducible assumption
    | with_reducible refine State.pkgDecide_wf _ _ _ ?_

theorem execResetNAssert_wf (short : Bool) (s : State) (s' : State) (h : execResetNAssert short s = .next s') (hw : Memory.wf s.mem = true) : Memory.wf s'.mem = true := by
  unfold execResetNAssert at h
  refine nextRes_wf h ?_
  repeat' first
    | with_reducible assumption
    | with_reducible refine State.resetLow_wf _ _ ?_

theorem execResetNRelease_wf (s : State) (s' : State) (h : execResetNRelease s = .next s') (hw : Memory.wf s.mem = true) : Memory.wf s'.mem = true := by
  unfold execResetNRelease at h
  refine nextRes_wf h ?_
  repeat' first
    | with_reducible assumption
    | with_reducible refine keep_wf (State.modRcv_mem _ _) ?_
    | with_reducible refine State.pkgAdvance_wf _ ?_
    | with_reducible refine ite_wf' _ _ ?_ ?_

theorem execRung4_wf (s : State) (s' : State) (h : execRung4 s = .next s') (hw : Memory.wf s.mem = true) : Memory.wf s'.mem = true := by
  unfold execRung4 at h
  refine onPkg_wf h hw ?_
  repeat' first
    | with_reducible assumption
    | with_reducible refine State.rung4_wf _ _ _ ?_

theorem execRung4OffExpire_wf (s : State) (s' : State) (h : execRung4OffExpire s = .next s') (hw : Memory.wf s.mem = true) : Memory.wf s'.mem = true := by
  unfold execRung4OffExpire at h
  refine nextRes_wf h ?_
  repeat' first
    | with_reducible assumption
    | with_reducible refine keep_wf (State.rung4Wake_mem _) ?_

theorem execWdogEn_wf (s : State) (s' : State) (h : execWdogEn s = .next s') (hw : Memory.wf s.mem = true) : Memory.wf s'.mem = true := by
  unfold execWdogEn at h
  refine onPkg_wf h hw ?_
  repeat' first
    | with_reducible assumption
    | with_reducible refine keep_wf (State.putFlag_mem _ _ _ _) ?_

theorem execWdogKick_wf (key : BitVec 16) (s : State) (s' : State) (h : execWdogKick key s = .next s') (hw : Memory.wf s.mem = true) : Memory.wf s'.mem = true := by
  unfold execWdogKick at h
  refine onPkg_wf h hw ?_
  repeat' first
    | with_reducible assumption
    | with_reducible refine keep_wf (State.put_mem _ _ _ _) ?_
    | with_reducible refine State.wdogFire_wf _ ?_
    | with_reducible refine ite_wf' _ _ ?_ ?_

theorem execWdogExpire_wf (s : State) (s' : State) (h : execWdogExpire s = .next s') (hw : Memory.wf s.mem = true) : Memory.wf s'.mem = true := by
  unfold execWdogExpire at h
  refine onPkg_wf h hw ?_
  repeat' first
    | with_reducible assumption
    | with_reducible refine State.wdogFire_wf _ ?_
    | with_reducible refine ite_wf' _ _ ?_ ?_

theorem execQstall_wf (d : Die) (c : Unit8) (s : State) (s' : State) (h : execQstall d c s = .next s') (hw : Memory.wf s.mem = true) : Memory.wf s'.mem = true := by
  unfold execQstall at h
  refine onDie_wf h hw ?_
  repeat' first
    | with_reducible assumption
    | with_reducible refine State.clusterAct_wf _ _ _ _ _ ?_
    | with_reducible refine keep_wf (State.count_mem _ _ _ _) ?_
    | with_reducible refine State.latchFault_wf _ _ _ _ ?_
    | with_reducible refine ite_wf' _ _ ?_ ?_

theorem execSafeNAssert_wf (s : State) (s' : State) (h : execSafeNAssert s = .next s') (hw : Memory.wf s.mem = true) : Memory.wf s'.mem = true := by
  unfold execSafeNAssert at h
  refine nextRes_wf h ?_
  repeat' first
    | with_reducible assumption
    | with_reducible refine keep_wf (State.putFlag_mem _ _ _ _) ?_
    | with_reducible refine State.safeEnter_wf _ _ ?_
    | with_reducible refine ite_wf' _ _ ?_ ?_

theorem execSafeNRelease_wf (s : State) (s' : State) (h : execSafeNRelease s = .next s') (hw : Memory.wf s.mem = true) : Memory.wf s'.mem = true := by
  unfold execSafeNRelease at h
  refine nextRes_wf h ?_
  repeat' first
    | with_reducible assumption
    | with_reducible refine keep_wf (State.putFlag_mem _ _ _ _) ?_

theorem execSafeSet_wf (s : State) (s' : State) (h : execSafeSet s = .next s') (hw : Memory.wf s.mem = true) : Memory.wf s'.mem = true := by
  unfold execSafeSet at h
  refine onPkg_wf h hw ?_
  repeat' first
    | with_reducible assumption
    | with_reducible refine State.safeRequest_wf _ _ _ ?_

theorem execSafeClr_wf (s : State) (s' : State) (h : execSafeClr s = .next s') (hw : Memory.wf s.mem = true) : Memory.wf s'.mem = true := by
  unfold execSafeClr at h
  refine onPkg_wf h hw ?_
  repeat' first
    | with_reducible assumption
    | with_reducible refine State.safeRequest_wf _ _ _ ?_

theorem execSafeExit_wf (s : State) (s' : State) (h : execSafeExit s = .next s') (hw : Memory.wf s.mem = true) : Memory.wf s'.mem = true := by
  unfold execSafeExit at h
  refine onPkg_wf h hw ?_
  repeat' first
    | with_reducible assumption
    | with_reducible refine State.safeExitNow_wf _ _ ?_

theorem execAlarmClr_wf (s : State) (s' : State) (h : execAlarmClr s = .next s') (hw : Memory.wf s.mem = true) : Memory.wf s'.mem = true := by
  unfold execAlarmClr at h
  refine onPkg_wf h hw ?_
  repeat' first
    | with_reducible assumption
    | with_reducible refine keep_wf (State.alarmClear_mem _) ?_

theorem execCondClr_wf (s : State) (s' : State) (h : execCondClr s = .next s') (hw : Memory.wf s.mem = true) : Memory.wf s'.mem = true := by
  unfold execCondClr at h
  refine onPkg_wf h hw ?_
  repeat' first
    | with_reducible assumption
    | with_reducible refine keep_wf (State.put_mem _ _ _ _) ?_

theorem execTempConversion_wf (d : Die) (k : Fin 5) (mC : Int) (s : State) (s' : State) (h : execTempConversion d k mC s = .next s') (hw : Memory.wf s.mem = true) : Memory.wf s'.mem = true := by
  unfold execTempConversion at h
  refine onDie_wf h hw ?_
  repeat' first
    | with_reducible assumption
    | with_reducible refine State.convert_wf _ _ _ _ ?_

theorem execTempCrit_wf (d : Die) (on : Bool) (s : State) (s' : State) (h : execTempCrit d on s = .next s') (hw : Memory.wf s.mem = true) : Memory.wf s'.mem = true := by
  unfold execTempCrit at h
  refine onDie_wf h hw ?_
  repeat' first
    | with_reducible assumption
    | with_reducible refine State.tempCrit_wf _ _ _ ?_

end Sys2Proof.Machine
end

