-- ==== Sys2Proof/Laws/KeepVatWelt.lean ====
section
/-! SUPPORT. What the functions of Machine/Welt do to the Vat: those that store nothing leave it, the others keep its form. -/

namespace Sys2Proof.Machine

@[simp] theorem State.weltPacket_wf (s : State) (d k seq : Nat) (good : Bool) (hw : Memory.wf s.mem = true) : Memory.wf (State.weltPacket s d k seq good).mem = true := by
  unfold State.weltPacket
  repeat' first
    | with_reducible assumption
    | with_reducible refine keep_wf (State.count_mem _ _ _ _) ?_
    | with_reducible refine keep_wf (State.putFlag_mem _ _ _ _) ?_
    | with_reducible refine State.setWelt_wf _ _ _ _ ?_
    | with_reducible refine ite_wf' _ _ ?_ ?_

@[simp] theorem State.weltLost_wf (s : State) (d k : Nat) (hw : Memory.wf s.mem = true) : Memory.wf (State.weltLost s d k).mem = true := by
  unfold State.weltLost
  repeat' first
    | with_reducible assumption
    | with_reducible refine State.pkgDecide_wf _ _ _ ?_
    | with_reducible refine State.weltIsDown_wf _ _ _ ?_

@[simp] theorem State.retrainEnd_wf (s : State) (k d : Nat) (hw : Memory.wf s.mem = true) : Memory.wf (State.retrainEnd s k d).mem = true := by
  unfold State.retrainEnd
  repeat' first
    | with_reducible assumption
    | with_reducible refine keep_wf (State.count_mem _ _ _ _) ?_
    | with_reducible refine keep_wf (State.putFlag_mem _ _ _ _) ?_
    | with_reducible refine State.setWelt_wf _ _ _ _ ?_
    | with_reducible refine keep_wf (State.weltTo_mem _ _ _ _) ?_

@[simp] theorem State.weltRetrain_wf (s : State) (d k : Nat) (hw : Memory.wf s.mem = true) : Memory.wf (State.weltRetrain s d k).mem = true := by
  unfold State.weltRetrain
  repeat' first
    | with_reducible assumption
    | (intro a x hx)
    | with_reducible refine State.bothEnds_wf _ _ _ _ ?_ ?_
    | with_reducible refine State.retrainEnd_wf _ _ _ ?_
    | with_reducible refine State.weltLost_wf _ _ _ ?_
    | with_reducible refine ite_wf' _ _ ?_ ?_

@[simp] theorem State.retrainDone_wf (s : State) (d k : Nat) (ok : Bool) (hw : Memory.wf s.mem = true) : Memory.wf (State.retrainDone s d k ok).mem = true := by
  unfold State.retrainDone
  repeat' first
    | with_reducible assumption
    | (intro a x hx)
    | with_reducible refine State.bothEnds_wf _ _ _ _ ?_ ?_
    | with_reducible refine State.linkFault_wf _ _ _ _ ?_
    | with_reducible refine keep_wf (State.putFlag_mem _ _ _ _) ?_
    | with_reducible refine State.weltLost_wf _ _ _ ?_
    | with_reducible refine keep_wf (State.weltTo_mem _ _ _ _) ?_
    | with_reducible refine ite_wf' _ _ ?_ ?_

@[simp] theorem State.weltTrained_wf (s : State) (d k : Nat) (ok : Bool) (hw : Memory.wf s.mem = true) : Memory.wf (State.weltTrained s d k ok).mem = true := by
  unfold State.weltTrained
  repeat' first
    | with_reducible assumption
    | with_reducible refine State.weltIsDown_wf _ _ _ ?_
    | with_reducible refine State.weltIsUp_wf _ _ _ ?_
    | with_reducible refine ite_wf' _ _ ?_ ?_

@[simp] theorem State.creditWait_mem (s : State) (d k ns : Nat) : (State.creditWait s d k ns).mem = s.mem := by
  unfold State.creditWait
  repeat' first
    | with_reducible rfl
    | with_reducible refine Eq.trans (State.count_mem _ _ _ _) ?_
    | with_reducible refine ite_mem' _ _ ?_ ?_

@[simp] theorem State.timeMessage_mem (s : State) (d mag : Nat) : (State.timeMessage s d mag).mem = s.mem := by
  unfold State.timeMessage
  repeat' first
    | with_reducible rfl
    | with_reducible refine Eq.trans (State.setRein_mem _ _) ?_
    | with_reducible refine ite_mem' _ _ ?_ ?_

end Sys2Proof.Machine
end

