-- ==== Sys2Proof/Laws/KeepVatRein.lean ====
section
/-! SUPPORT. What the functions of Machine/Rein do to the Vat: those that store nothing leave it, the others keep its form. -/

namespace Sys2Proof.Machine

@[simp] theorem State.reinComesUp_wf (s : State) (up : Bool) (hw : Memory.wf s.mem = true) : Memory.wf (State.reinComesUp s up).mem = true := by
  unfold State.reinComesUp
  repeat' first
    | with_reducible assumption
    | with_reducible refine State.reinLink_wf _ _ ?_
    | with_reducible refine ite_wf' _ _ ?_ ?_

@[simp] theorem State.mgmtPerform_wf (s : State) (src g data : Nat) (wr : Bool) (env : WriteEnv) (hw : Memory.wf s.mem = true) : Memory.wf (State.mgmtPerform s src g data wr env).mem = true := by
  unfold State.mgmtPerform
  repeat' first
    | with_reducible assumption
    | with_reducible refine State.ctlPut_wf _ _ _ _ _ _ ?_
    | with_reducible refine State.ctlRead_wf _ _ _ ?_
    | with_reducible refine keep_wf (State.mgmtReply_mem _ _ _ _) ?_
    | with_reducible refine ite_wf' _ _ ?_ ?_

@[simp] theorem State.mgmtRequest_wf (s : State) (src g data : Nat) (wr : Bool) (env : WriteEnv) (hw : Memory.wf s.mem = true) : Memory.wf (State.mgmtRequest s src g data wr env).mem = true := by
  unfold State.mgmtRequest
  repeat' first
    | with_reducible assumption
    | with_reducible refine keep_wf (State.count_mem _ _ _ _) ?_
    | with_reducible refine State.mgmtPerform_wf _ _ _ _ _ _ ?_
    | with_reducible refine keep_wf (State.mgmtReply_mem _ _ _ _) ?_
    | with_reducible refine ite_wf' _ _ ?_ ?_

@[simp] theorem State.mgmtResponse_mem (s : State) (src result data : Nat) : (State.mgmtResponse s src result data).mem = s.mem := by
  unfold State.mgmtResponse
  repeat' first
    | with_reducible rfl
    | with_reducible refine Eq.trans (State.mgmtAnswer_mem _ _ _ _) ?_
    | with_reducible refine ite_mem' _ _ ?_ ?_

@[simp] theorem State.mirrorMessage_wf (s : State) (src dpi type : Nat) (bytes : List Byte) (hw : Memory.wf s.mem = true) : Memory.wf (State.mirrorMessage s src dpi type bytes).mem = true := by
  unfold State.mirrorMessage
  repeat' first
    | with_reducible assumption
    | with_reducible refine State.mirrorRx_wf _ _ _ _ _ ?_
    | with_reducible refine ite_wf' _ _ ?_ ?_

@[simp] theorem State.reinConsume_wf (s : State) (up : Bool) (m : ReinMsg) (members : Nat) (env : WriteEnv) (hw : Memory.wf s.mem = true) : Memory.wf (State.reinConsume s up m members env).mem = true := by
  unfold State.reinConsume
  repeat' first
    | with_reducible assumption
    | with_reducible refine State.decisionRx_wf _ _ ?_
    | with_reducible refine keep_wf (State.enumRx_mem _ _) ?_
    | with_reducible refine State.mgmtRequest_wf _ _ _ _ _ _ ?_
    | with_reducible refine keep_wf (State.mgmtResponse_mem _ _ _ _) ?_
    | with_reducible refine State.mirrorMessage_wf _ _ _ _ _ ?_
    | with_reducible refine keep_wf (State.reinResetNow_mem _) ?_
    | with_reducible refine State.reportRx_wf _ _ _ _ _ _ ?_
    | with_reducible refine State.respRx_wf _ _ _ _ ?_
    | with_reducible refine keep_wf (State.statusRx_mem _ _ _) ?_
    | with_reducible refine keep_wf (State.syncRx_mem _ _) ?_
    | with_reducible refine ite_wf' _ _ ?_ ?_
    | split

@[simp] theorem State.reinReceive_wf (s : State) (up : Bool) (m : ReinMsg) (members : Nat) (env : WriteEnv) (hw : Memory.wf s.mem = true) : Memory.wf (State.reinReceive s up m members env).mem = true := by
  unfold State.reinReceive
  repeat' first
    | with_reducible assumption
    | with_reducible refine State.reinConsume_wf _ _ _ _ _ ?_
    | with_reducible refine keep_wf (State.reinSend_mem _ _ _) ?_
    | with_reducible refine ite_wf' _ _ ?_ ?_

@[simp] theorem State.reinArrive_wf (s : State) (up good : Bool) (m : ReinMsg) (members : Nat) (env : WriteEnv) (hw : Memory.wf s.mem = true) : Memory.wf (State.reinArrive s up good m members env).mem = true := by
  unfold State.reinArrive
  repeat' first
    | with_reducible assumption
    | with_reducible refine keep_wf (State.count_mem _ _ _ _) ?_
    | with_reducible refine State.reinReceive_wf _ _ _ _ _ ?_
    | with_reducible refine ite_wf' _ _ ?_ ?_

end Sys2Proof.Machine
end

