-- ==== Sys2Proof/Laws/ExecVatRein.lean ====
section
/-! SUPPORT. The commands of Machine/Rein keep the form of the Vat. -/

namespace Sys2Proof.Machine

theorem execReinLinkUp_wf (up : Bool) (s : State) (s' : State) (h : execReinLinkUp up s = .next s') (hw : Memory.wf s.mem = true) : Memory.wf s'.mem = true := by
  unfold execReinLinkUp at h
  refine onPkg_wf h hw ?_
  repeat' first
    | with_reducible assumption
    | with_reducible refine State.reinComesUp_wf _ _ ?_

theorem execReinBreak_wf (up : Bool) (s : State) (s' : State) (h : execReinBreak up s = .next s') (hw : Memory.wf s.mem = true) : Memory.wf s'.mem = true := by
  unfold execReinBreak at h
  refine onPkg_wf h hw ?_
  repeat' first
    | with_reducible assumption
    | with_reducible refine State.reinBroken_wf _ _ ?_

theorem execReinStatusSend_wf (s : State) (s' : State) (h : execReinStatusSend s = .next s') (hw : Memory.wf s.mem = true) : Memory.wf s'.mem = true := by
  unfold execReinStatusSend at h
  refine onPkg_wf h hw ?_
  repeat' first
    | with_reducible assumption
    | with_reducible refine keep_wf (State.sendStatus_mem _ _) ?_

theorem execTimeSyncExchange_wf (s : State) (s' : State) (h : execTimeSyncExchange s = .next s') (hw : Memory.wf s.mem = true) : Memory.wf s'.mem = true := by
  unfold execTimeSyncExchange at h
  refine onPkg_wf h hw ?_
  repeat' first
    | with_reducible assumption
    | with_reducible refine keep_wf (State.sendSync_mem _) ?_

theorem execReinReset_wf (owner : Bool) (s : State) (s' : State) (h : execReinReset owner s = .next s') (hw : Memory.wf s.mem = true) : Memory.wf s'.mem = true := by
  unfold execReinReset at h
  refine onPkg_wf h hw ?_
  repeat' first
    | with_reducible assumption
    | with_reducible refine keep_wf (State.reinResetNow_mem _) ?_
    | with_reducible refine ite_wf' _ _ ?_ ?_

theorem execMgmtGo_wf (s : State) (s' : State) (h : execMgmtGo s = .next s') (hw : Memory.wf s.mem = true) : Memory.wf s'.mem = true := by
  unfold execMgmtGo at h
  refine onPkg_wf h hw ?_
  repeat' first
    | with_reducible assumption
    | with_reducible refine keep_wf (State.mgmtStart_mem _) ?_

theorem execMgmtReq_wf (src : Fin 31) (g : BitVec 64) (data : BitVec 32) (wr : Bool) (env : WriteEnv) (s : State) (s' : State) (h : execMgmtReq src g data wr env s = .next s') (hw : Memory.wf s.mem = true) : Memory.wf s'.mem = true := by
  unfold execMgmtReq at h
  refine onPkg_wf h hw ?_
  repeat' first
    | with_reducible assumption
    | with_reducible refine State.mgmtRequest_wf _ _ _ _ _ _ ?_

theorem execMgmtRsp_wf (src : Fin 31) (result : Fin 8) (data : BitVec 32) (s : State) (s' : State) (h : execMgmtRsp src result data s = .next s') (hw : Memory.wf s.mem = true) : Memory.wf s'.mem = true := by
  unfold execMgmtRsp at h
  refine onPkg_wf h hw ?_
  repeat' first
    | with_reducible assumption
    | with_reducible refine keep_wf (State.mgmtResponse_mem _ _ _ _) ?_

theorem execMgmtTimeout_wf (s : State) (s' : State) (h : execMgmtTimeout s = .next s') (hw : Memory.wf s.mem = true) : Memory.wf s'.mem = true := by
  unfold execMgmtTimeout at h
  refine onPkg_wf h hw ?_
  repeat' first
    | with_reducible assumption
    | with_reducible refine keep_wf (State.mgmtEnd_mem _ _) ?_
    | with_reducible refine ite_wf' _ _ ?_ ?_

theorem execMirror_wf (src : Fin 31) (dpi type : BitVec 32) (bytes : List Byte) (s : State) (s' : State) (h : execMirror src dpi type bytes s = .next s') (hw : Memory.wf s.mem = true) : Memory.wf s'.mem = true := by
  unfold execMirror at h
  refine onPkg_wf h hw ?_
  repeat' first
    | with_reducible assumption
    | with_reducible refine State.mirrorMessage_wf _ _ _ _ _ ?_

theorem execReinMessageRx_wf (up good : Bool) (kind : BitVec 8) (dst src : Fin 32) (payload : List Byte) (members : Fin 32) (env : WriteEnv) (s : State) (s' : State) (h : execReinMessageRx up good kind dst src payload members env s = .next s') (hw : Memory.wf s.mem = true) : Memory.wf s'.mem = true := by
  unfold execReinMessageRx at h
  refine onPkg_wf h hw ?_
  repeat' first
    | with_reducible assumption
    | with_reducible refine State.reinArrive_wf _ _ _ _ _ _ ?_

end Sys2Proof.Machine
end

