-- ==== Sys2Proof/Laws/ExecVatRelock.lean ====
section
/-! SUPPORT. The commands of Machine/Relock keep the form of the Vat. -/

namespace Sys2Proof.Machine

theorem execRelock_wf (s : State) (s' : State) (h : execRelock s = .next s') (hw : Memory.wf s.mem = true) : Memory.wf s'.mem = true := by
  unfold execRelock at h
  refine onPkg_wf h hw ?_
  repeat' first
    | with_reducible assumption
    | with_reducible refine State.relockBegin_wf _ ?_

theorem execRelockDone_wf (s : State) (s' : State) (h : execRelockDone s = .next s') (hw : Memory.wf s.mem = true) : Memory.wf s'.mem = true := by
  unfold execRelockDone at h
  refine onPkg_wf h hw ?_
  repeat' first
    | with_reducible assumption
    | with_reducible refine State.relockEnd_wf _ ?_

theorem execFreqInputLoss_wf (d : Die) (n : Fin 4) (s : State) (s' : State) (h : execFreqInputLoss d n s = .next s') (hw : Memory.wf s.mem = true) : Memory.wf s'.mem = true := by
  unfold execFreqInputLoss at h
  refine onDie_wf h hw ?_
  repeat' first
    | with_reducible assumption
    | with_reducible refine State.freqInput_wf _ _ _ _ ?_

theorem execFreqInputReturn_wf (d : Die) (n : Fin 4) (s : State) (s' : State) (h : execFreqInputReturn d n s = .next s') (hw : Memory.wf s.mem = true) : Memory.wf s'.mem = true := by
  unfold execFreqInputReturn at h
  refine onDie_wf h hw ?_
  repeat' first
    | with_reducible assumption
    | with_reducible refine State.freqInput_wf _ _ _ _ ?_

theorem execStepInstant_wf (members : Fin 32) (s : State) (s' : State) (h : execStepInstant members s = .next s') (hw : Memory.wf s.mem = true) : Memory.wf s'.mem = true := by
  unfold execStepInstant at h
  refine onPkg_wf h hw ?_
  repeat' first
    | with_reducible assumption
    | with_reducible refine State.stepAll_wf _ _ ?_

end Sys2Proof.Machine
end

