-- ==== Sys2Proof/Laws/ExecVatSerial.lean ====
section
/-! SUPPORT. The commands of Machine/Serial keep the form of the Vat. -/

namespace Sys2Proof.Machine

theorem execSerialFrameReceive_wf (d : Die) (p : Unit8) (rx : SerRx) (edgePs : Nat) (s : State) (s' : State) (h : execSerialFrameReceive d p rx edgePs s = .next s') (hw : Memory.wf s.mem = true) : Memory.wf s'.mem = true := by
  unfold execSerialFrameReceive at h
  refine onDie_wf h hw ?_
  repeat' first
    | with_reducible assumption
    | with_reducible refine State.serReceive_wf _ _ _ _ _ ?_

theorem execUartFrameEnd_wf (d : Die) (p : Unit8) (chars : List (BitVec 9)) (bad gap : Bool) (edgePs : Nat) (s : State) (s' : State) (h : execUartFrameEnd d p chars bad gap edgePs s = .next s') (hw : Memory.wf s.mem = true) : Memory.wf s'.mem = true := by
  unfold execUartFrameEnd at h
  refine onDie_wf h hw ?_
  repeat' first
    | with_reducible assumption
    | with_reducible refine State.serReceive_wf _ _ _ _ _ ?_
    | with_reducible refine ite_wf' _ _ ?_ ?_

theorem execSerialFifoEnter_wf (d : Die) (p : Unit8) (s : State) (s' : State) (h : execSerialFifoEnter d p s = .next s') (hw : Memory.wf s.mem = true) : Memory.wf s'.mem = true := by
  unfold execSerialFifoEnter at h
  refine onDie_wf h hw ?_
  repeat' first
    | with_reducible assumption
    | with_reducible refine State.fifoEnter_wf _ _ _ ?_

theorem execSerialTxStart_wf (d : Die) (p : Unit8) (s : State) (s' : State) (h : execSerialTxStart d p s = .next s') (hw : Memory.wf s.mem = true) : Memory.wf s'.mem = true := by
  unfold execSerialTxStart at h
  refine onDie_wf h hw ?_
  repeat' first
    | with_reducible assumption
    | with_reducible refine State.serStart_wf _ _ _ _ _ ?_
    | with_reducible refine ite_wf' _ _ ?_ ?_
    | split

theorem execSerialTxEnd_wf (d : Die) (p : Unit8) (out : SerTxOutcome) (s : State) (s' : State) (h : execSerialTxEnd d p out s = .next s') (hw : Memory.wf s.mem = true) : Memory.wf s'.mem = true := by
  unfold execSerialTxEnd at h
  refine onDie_wf h hw ?_
  repeat' first
    | with_reducible assumption
    | with_reducible refine State.serTxEnd_wf _ _ _ _ ?_

theorem execAbortHead_wf (d : Die) (p : Unit8) (s : State) (s' : State) (h : execAbortHead d p s = .next s') (hw : Memory.wf s.mem = true) : Memory.wf s'.mem = true := by
  unfold execAbortHead at h
  refine onDie_wf h hw ?_
  repeat' first
    | with_reducible assumption
    | with_reducible refine State.abortHead_wf _ _ _ ?_

theorem execInvLong_wf (d : Die) (p : Unit8) (s : State) (s' : State) (h : execInvLong d p s = .next s') (hw : Memory.wf s.mem = true) : Memory.wf s'.mem = true := by
  unfold execInvLong at h
  refine onDie_wf h hw ?_
  repeat' first
    | with_reducible assumption
    | with_reducible refine State.modSer_wf _ _ _ _ ?_
    | with_reducible refine keep_wf (State.putFlag_mem _ _ _ _) ?_
    | with_reducible refine ite_wf' _ _ ?_ ?_

theorem execBusOff_wf (d : Die) (p : Unit8) (s : State) (s' : State) (h : execBusOff d p s = .next s') (hw : Memory.wf s.mem = true) : Memory.wf s'.mem = true := by
  unfold execBusOff at h
  refine onDie_wf h hw ?_
  repeat' first
    | with_reducible assumption
    | with_reducible refine keep_wf (State.count_mem _ _ _ _) ?_
    | with_reducible refine State.modSer_wf _ _ _ _ ?_
    | with_reducible refine keep_wf (State.put_mem _ _ _ _) ?_
    | with_reducible refine keep_wf (State.putFlag_mem _ _ _ _) ?_
    | with_reducible refine State.serRec_wf _ _ _ _ _ _ ?_
    | with_reducible refine keep_wf (State.serTo_mem _ _ _ _) ?_
    | with_reducible refine ite_wf' _ _ ?_ ?_

theorem execRecover_wf (d : Die) (p : Unit8) (s : State) (s' : State) (h : execRecover d p s = .next s') (hw : Memory.wf s.mem = true) : Memory.wf s'.mem = true := by
  unfold execRecover at h
  refine onDie_wf h hw ?_
  repeat' first
    | with_reducible assumption
    | with_reducible refine State.modSer_wf _ _ _ _ ?_
    | with_reducible refine ite_wf' _ _ ?_ ?_

theorem execBusOffRecoveryDone_wf (d : Die) (p : Unit8) (s : State) (s' : State) (h : execBusOffRecoveryDone d p s = .next s') (hw : Memory.wf s.mem = true) : Memory.wf s'.mem = true := by
  unfold execBusOffRecoveryDone at h
  refine onDie_wf h hw ?_
  repeat' first
    | with_reducible assumption
    | with_reducible refine State.modSer_wf _ _ _ _ ?_
    | with_reducible refine keep_wf (State.put_mem _ _ _ _) ?_
    | with_reducible refine keep_wf (State.serTo_mem _ _ _ _) ?_
    | with_reducible refine ite_wf' _ _ ?_ ?_

theorem execDetectStart_wf (d : Die) (p : Unit8) (s : State) (s' : State) (h : execDetectStart d p s = .next s') (hw : Memory.wf s.mem = true) : Memory.wf s'.mem = true := by
  unfold execDetectStart at h
  refine onDie_wf h hw ?_
  repeat' first
    | with_reducible assumption
    | with_reducible refine keep_wf (State.enterDetect_mem _ _ _) ?_
    | with_reducible refine keep_wf (State.putFlag_mem _ _ _ _) ?_
    | with_reducible refine ite_wf' _ _ ?_ ?_

theorem execDetectDone_wf (d : Die) (p : Unit8) (shortest : Option Nat) (frames : Bool) (s : State) (s' : State) (h : execDetectDone d p shortest frames s = .next s') (hw : Memory.wf s.mem = true) : Memory.wf s'.mem = true := by
  unfold execDetectDone at h
  refine onDie_wf h hw ?_
  repeat' first
    | with_reducible assumption
    | with_reducible refine State.detectResult_wf _ _ _ _ _ ?_
    | with_reducible refine State.modSer_wf _ _ _ _ ?_
    | with_reducible refine keep_wf (State.put_mem _ _ _ _) ?_
    | with_reducible refine keep_wf (State.putFlag_mem _ _ _ _) ?_
    | with_reducible refine State.serRec_wf _ _ _ _ _ _ ?_
    | with_reducible refine keep_wf (State.serTo_mem _ _ _ _) ?_
    | with_reducible refine ite_wf' _ _ ?_ ?_

theorem execGo_wf (d : Die) (p : Unit8) (s : State) (s' : State) (h : execGo d p s = .next s') (hw : Memory.wf s.mem = true) : Memory.wf s'.mem = true := by
  unfold execGo at h
  refine onDie_wf h hw ?_
  repeat' first
    | with_reducible assumption
    | with_reducible refine keep_wf (State.serTo_mem _ _ _ _) ?_
    | with_reducible refine ite_wf' _ _ ?_ ?_

theorem execTtcanReferenceSend_wf (d : Die) (p : Unit8) (s : State) (s' : State) (h : execTtcanReferenceSend d p s = .next s') (hw : Memory.wf s.mem = true) : Memory.wf s'.mem = true := by
  unfold execTtcanReferenceSend at h
  refine onDie_wf h hw ?_
  repeat' first
    | with_reducible assumption
    | with_reducible refine State.ttCycle_wf _ _ _ _ ?_
    | with_reducible refine ite_wf' _ _ ?_ ?_
    | split

theorem execTtcanReferenceRx_wf (d : Die) (p : Unit8) (prio : Unit8) (cycle : Fin 64) (s : State) (s' : State) (h : execTtcanReferenceRx d p prio cycle s = .next s') (hw : Memory.wf s.mem = true) : Memory.wf s'.mem = true := by
  unfold execTtcanReferenceRx at h
  refine onDie_wf h hw ?_
  repeat' first
    | with_reducible assumption
    | with_reducible refine State.ttCycle_wf _ _ _ _ ?_
    | with_reducible refine State.ttMasterIs_wf _ _ _ _ _ ?_
    | with_reducible refine ite_wf' _ _ ?_ ?_
    | split

theorem execTtcanWatchExpire_wf (d : Die) (p : Unit8) (won : Bool) (s : State) (s' : State) (h : execTtcanWatchExpire d p won s = .next s') (hw : Memory.wf s.mem = true) : Memory.wf s'.mem = true := by
  unfold execTtcanWatchExpire at h
  refine onDie_wf h hw ?_
  repeat' first
    | with_reducible assumption
    | with_reducible refine State.ttCycle_wf _ _ _ _ ?_
    | with_reducible refine State.ttMasterIs_wf _ _ _ _ _ ?_
    | with_reducible refine ite_wf' _ _ ?_ ?_
    | split

theorem execTtcanTrigger_wf (d : Die) (p : Unit8) (i : Fin 64) (idle : Bool) (s : State) (s' : State) (h : execTtcanTrigger d p i idle s = .next s') (hw : Memory.wf s.mem = true) : Memory.wf s'.mem = true := by
  unfold execTtcanTrigger at h
  refine onDie_wf h hw ?_
  repeat' first
    | with_reducible assumption
    | with_reducible refine State.ttTrigger_wf _ _ _ _ _ ?_

theorem execTtcanSyncLoss_wf (d : Die) (p : Unit8) (s : State) (s' : State) (h : execTtcanSyncLoss d p s = .next s') (hw : Memory.wf s.mem = true) : Memory.wf s'.mem = true := by
  unfold execTtcanSyncLoss at h
  refine onDie_wf h hw ?_
  repeat' first
    | with_reducible assumption
    | with_reducible refine keep_wf (State.putFlag_mem _ _ _ _) ?_
    | with_reducible refine ite_wf' _ _ ?_ ?_

end Sys2Proof.Machine
end

