-- ==== Sys2Proof/Laws/ExecVatSwitch.lean ====
section
/-! SUPPORT. The commands of Machine/Switch keep the form of the Vat. -/

namespace Sys2Proof.Machine

theorem execSchedulerRound_wf (d : Die) (s : State) (s' : State) (h : execSchedulerRound d s = .next s') (hw : Memory.wf s.mem = true) : Memory.wf s'.mem = true := by
  unfold execSchedulerRound at h
  refine onDie_wf h hw ?_
  repeat' first
    | with_reducible assumption
    | (intro a x hx)
    | with_reducible refine State.matching_wf _ _ ?_
    | with_reducible refine State.moveHead_wf _ _ _ ?_
    | with_reducible refine foldl_wf _ _ _ ?_ ?_

theorem execCaptureRecord_wf (d : Die) (s : State) (s' : State) (h : execCaptureRecord d s = .next s') (hw : Memory.wf s.mem = true) : Memory.wf s'.mem = true := by
  unfold execCaptureRecord at h
  refine onDie_wf h hw ?_
  repeat' first
    | with_reducible assumption
    | with_reducible refine keep_wf (State.count_mem _ _ _ _) ?_
    | with_reducible refine State.frameRead_wf _ _ _ _ _ _ _ ?_
    | with_reducible refine State.recorderDone_wf _ _ _ ?_
    | with_reducible refine State.submitRec_wf _ _ _ _ _ _ _ ?_
    | with_reducible refine ite_wf' _ _ ?_ ?_
    | dsimp only
    | split

theorem execRecordSubmit_wf (d : Die) (sub : Option Submission) (s : State) (s' : State) (h : execRecordSubmit d sub s = .next s') (hw : Memory.wf s.mem = true) : Memory.wf s'.mem = true := by
  unfold execRecordSubmit at h
  refine onDie_wf h hw ?_
  repeat' first
    | with_reducible assumption
    | with_reducible refine State.submit_wf _ _ _ _ _ _ _ ?_
    | with_reducible refine State.submitFrame_wf _ _ _ ?_
    | with_reducible refine ite_wf' _ _ ?_ ?_
    | split

theorem execCtUnderrun_wf (d : Die) (p : Unit8) (s : State) (s' : State) (h : execCtUnderrun d p s = .next s') (hw : Memory.wf s.mem = true) : Memory.wf s'.mem = true := by
  unfold execCtUnderrun at h
  refine onDie_wf h hw ?_
  repeat' first
    | with_reducible assumption
    | with_reducible refine keep_wf (State.count_mem _ _ _ _) ?_
    | with_reducible refine keep_wf (State.putFlag_mem _ _ _ _) ?_
    | with_reducible refine keep_wf (State.setFrame_mem _ _ _) ?_
    | with_reducible refine ite_wf' _ _ ?_ ?_
    | dsimp only
    | split

theorem execCommitQueueWaitEnd_wf (d : Die) (e : Engine) (s : State) (s' : State) (h : execCommitQueueWaitEnd d e s = .next s') (hw : Memory.wf s.mem = true) : Memory.wf s'.mem = true := by
  unfold execCommitQueueWaitEnd at h
  refine onDie_wf h hw ?_
  repeat' first
    | with_reducible assumption
    | with_reducible refine keep_wf (State.pushGroup_mem _ _ _) ?_
    | with_reducible refine keep_wf (State.syncCq_mem _ _) ?_
    | with_reducible refine State.waitRest_wf _ _ _ ?_
    | with_reducible refine ite_wf' _ _ ?_ ?_

theorem execLeakAudit_wf (d : Die) (s : State) (s' : State) (h : execLeakAudit d s = .next s') (hw : Memory.wf s.mem = true) : Memory.wf s'.mem = true := by
  unfold execLeakAudit at h
  refine onDie_wf h hw ?_
  repeat' first
    | with_reducible assumption
    | with_reducible refine State.audit_wf _ _ ?_
    | with_reducible refine ite_wf' _ _ ?_ ?_

theorem execTshRateWrite_wf (d : Die) (k : Fin 256) (rate : Word32) (s : State) (s' : State) (h : execTshRateWrite d k rate s = .next s') (hw : Memory.wf s.mem = true) : Memory.wf s'.mem = true := by
  unfold execTshRateWrite at h
  refine onDie_wf h hw ?_
  repeat' first
    | with_reducible assumption
    | with_reducible refine keep_wf (State.tshWrite_mem _ _ _ _) ?_

end Sys2Proof.Machine
end

