-- ==== Sys2Proof/Laws/ExecVatTenants.lean ====
section
/-! SUPPORT. The commands of Machine/Tenants keep the form of the Vat. -/

namespace Sys2Proof.Machine

theorem execBind_wf (s : State) (s' : State) (h : execBind s = .next s') (hw : Memory.wf s.mem = true) : Memory.wf s'.mem = true := by
  unfold execBind at h
  refine onPkg_wf h hw ?_
  repeat' first
    | with_reducible assumption
    | with_reducible refine State.bindToken_wf _ ?_
    | with_reducible refine State.tenCmd_wf _ _ ?_ ?_

theorem execUnbind_wf (s : State) (s' : State) (h : execUnbind s = .next s') (hw : Memory.wf s.mem = true) : Memory.wf s'.mem = true := by
  unfold execUnbind at h
  refine onPkg_wf h hw ?_
  repeat' first
    | with_reducible assumption
    | with_reducible refine State.tenCmd_wf _ _ ?_ ?_
    | with_reducible refine State.unbindTenant_wf _ ?_

theorem execRaiseSec_wf (s : State) (s' : State) (h : execRaiseSec s = .next s') (hw : Memory.wf s.mem = true) : Memory.wf s'.mem = true := by
  unfold execRaiseSec at h
  refine onPkg_wf h hw ?_
  repeat' first
    | with_reducible assumption
    | with_reducible refine State.raiseSec_wf _ ?_
    | with_reducible refine State.tenCmd_wf _ _ ?_ ?_

theorem execAttest_wf (s : State) (s' : State) (h : execAttest s = .next s') (hw : Memory.wf s.mem = true) : Memory.wf s'.mem = true := by
  unfold execAttest at h
  refine onPkg_wf h hw ?_
  repeat' first
    | with_reducible assumption
    | with_reducible refine State.attestReport_wf _ ?_
    | with_reducible refine State.tenCmd_wf _ _ ?_ ?_

end Sys2Proof.Machine
end

