-- ==== Sys2Proof/Laws/ExecVatTime.lean ====
section
/-! SUPPORT. The commands of Machine/Time keep the form of the Vat. -/

namespace Sys2Proof.Machine

theorem execServoMeasurement_wf (src : Fin 4) (ofs : Int) (s : State) (s' : State) (h : execServoMeasurement src ofs s = .next s') (hw : Memory.wf s.mem = true) : Memory.wf s'.mem = true := by
  unfold execServoMeasurement at h
  refine onPkg_wf h hw ?_
  repeat' first
    | with_reducible assumption
    | with_reducible refine State.measure_wf _ _ _ ?_

theorem execSourceSelect_wf (src : Fin 4) (valid : Bool) (s : State) (s' : State) (h : execSourceSelect src valid s = .next s') (hw : Memory.wf s.mem = true) : Memory.wf s'.mem = true := by
  unfold execSourceSelect at h
  refine onPkg_wf h hw ?_
  repeat' first
    | with_reducible assumption
    | with_reducible refine keep_wf (State.setSource_mem _ _ _) ?_

theorem execSourceLossTimeout_wf (src : Fin 4) (s : State) (s' : State) (h : execSourceLossTimeout src s = .next s') (hw : Memory.wf s.mem = true) : Memory.wf s'.mem = true := by
  unfold execSourceLossTimeout at h
  refine onPkg_wf h hw ?_
  repeat' first
    | with_reducible assumption
    | with_reducible refine keep_wf (State.setSource_mem _ _ _) ?_

theorem execAccept_wf (s : State) (s' : State) (h : execAccept s = .next s') (hw : Memory.wf s.mem = true) : Memory.wf s'.mem = true := by
  unfold execAccept at h
  refine onPkg_wf h hw ?_
  repeat' first
    | with_reducible assumption
    | with_reducible refine keep_wf (State.schedStep_mem _ _ _) ?_
    | with_reducible refine keep_wf (State.timIgnore_mem _) ?_
    | with_reducible refine ite_wf' _ _ ?_ ?_

theorem execStep_wf (s : State) (s' : State) (h : execStep s = .next s') (hw : Memory.wf s.mem = true) : Memory.wf s'.mem = true := by
  unfold execStep at h
  refine onPkg_wf h hw ?_
  repeat' first
    | with_reducible assumption
    | with_reducible refine keep_wf (State.schedStep_mem _ _ _) ?_
    | with_reducible refine keep_wf (State.timIgnore_mem _) ?_
    | with_reducible refine ite_wf' _ _ ?_ ?_

theorem execCaptureEdge_wf (d : Die) (n : Fin 4) (rising : Bool) (s : State) (s' : State) (h : execCaptureEdge d n rising s = .next s') (hw : Memory.wf s.mem = true) : Memory.wf s'.mem = true := by
  unfold execCaptureEdge at h
  refine onDie_wf h hw ?_
  repeat' first
    | with_reducible assumption
    | with_reducible refine keep_wf (State.capture_mem _ _ _ _) ?_
    | with_reducible refine ite_wf' _ _ ?_ ?_

theorem execPpsEdge_wf (d : Die) (n : Fin 4) (s : State) (s' : State) (h : execPpsEdge d n s = .next s') (hw : Memory.wf s.mem = true) : Memory.wf s'.mem = true := by
  unfold execPpsEdge at h
  refine onDie_wf h hw ?_
  repeat' first
    | with_reducible assumption
    | with_reducible refine State.measureFrom_wf _ _ _ _ _ ?_
    | with_reducible refine keep_wf (State.nearestSecond_mem _ _) ?_
    | with_reducible refine ite_wf' _ _ ?_ ?_

theorem execIrigFrame_wf (d : Die) (n : Fin 4) (frame : IrigFrame) (s : State) (s' : State) (h : execIrigFrame d n frame s = .next s') (hw : Memory.wf s.mem = true) : Memory.wf s'.mem = true := by
  unfold execIrigFrame at h
  refine onDie_wf h hw ?_
  repeat' first
    | with_reducible assumption
    | with_reducible refine keep_wf (State.leap_mem _ _) ?_
    | with_reducible refine State.measureFrom_wf _ _ _ _ _ ?_
    | with_reducible refine ite_wf' _ _ ?_ ?_

theorem execPulseStart_wf (d : Die) (n : Fin 4) (s : State) (s' : State) (h : execPulseStart d n s = .next s') (hw : Memory.wf s.mem = true) : Memory.wf s'.mem = true := by
  unfold execPulseStart at h
  refine onDie_wf h hw ?_
  repeat' first
    | with_reducible assumption
    | with_reducible refine State.startPulse_wf _ _ _ ?_
    | with_reducible refine ite_wf' _ _ ?_ ?_

theorem execPulseEnd_wf (d : Die) (n : Fin 4) (s : State) (s' : State) (h : execPulseEnd d n s = .next s') (hw : Memory.wf s.mem = true) : Memory.wf s'.mem = true := by
  unfold execPulseEnd at h
  refine onDie_wf h hw ?_
  repeat' first
    | with_reducible assumption
    | with_reducible refine State.endPulse_wf _ _ _ ?_

theorem execPulseArm_wf (d : Die) (n : Fin 4) (s : State) (s' : State) (h : execPulseArm d n s = .next s') (hw : Memory.wf s.mem = true) : Memory.wf s'.mem = true := by
  unfold execPulseArm at h
  refine onDie_wf h hw ?_
  repeat' first
    | with_reducible assumption
    | with_reducible refine State.applyPulse_wf _ _ _ ?_
    | with_reducible refine keep_wf (State.putFlag_mem _ _ _ _) ?_
    | with_reducible refine ite_wf' _ _ ?_ ?_

theorem execClkoutFreqWrite_wf (freq : Nat) (s : State) (s' : State) (h : execClkoutFreqWrite freq s = .next s') (hw : Memory.wf s.mem = true) : Memory.wf s'.mem = true := by
  unfold execClkoutFreqWrite at h
  refine onPkg_wf h hw ?_
  repeat' first
    | with_reducible assumption
    | with_reducible refine State.clkoutFreq_wf _ _ ?_

theorem execAnnounceReceiptTimeout_wf (k : Fin 16) (s : State) (s' : State) (h : execAnnounceReceiptTimeout k s = .next s') (hw : Memory.wf s.mem = true) : Memory.wf s'.mem = true := by
  unfold execAnnounceReceiptTimeout at h
  refine onPkg_wf h hw ?_
  repeat' first
    | with_reducible assumption
    | with_reducible refine keep_wf (State.count_mem _ _ _ _) ?_
    | with_reducible refine keep_wf (State.runBmca_mem _) ?_

end Sys2Proof.Machine
end

