-- ==== Sys2Proof/Laws/ExecVatTte.lean ====
section
/-! SUPPORT. The commands of Machine/Tte keep the form of the Vat. -/

namespace Sys2Proof.Machine

theorem execTtSend_wf (d : Die) (s : State) (s' : State) (h : execTtSend d s = .next s') (hw : Memory.wf s.mem = true) : Memory.wf s'.mem = true := by
  unfold execTtSend at h
  refine onDie_wf h hw ?_
  repeat' first
    | with_reducible assumption
    | with_reducible refine keep_wf (State.setOutQueue_mem _ _ _ _) ?_
    | with_reducible refine State.ttAccept_wf _ _ _ ?_
    | split

theorem execTtBufferLatch_wf (d : Die) (w : Fin 32) (s : State) (s' : State) (h : execTtBufferLatch d w s = .next s') (hw : Memory.wf s.mem = true) : Memory.wf s'.mem = true := by
  unfold execTtBufferLatch at h
  refine onDie_wf h hw ?_
  repeat' first
    | with_reducible assumption
    | with_reducible refine State.latchBuf_wf _ _ _ ?_
    | with_reducible refine ite_wf' _ _ ?_ ?_

theorem execTtCellStart_wf (d : Die) (w : Fin 32) (busyA busyB : Bool) (s : State) (s' : State) (h : execTtCellStart d w busyA busyB s = .next s') (hw : Memory.wf s.mem = true) : Memory.wf s'.mem = true := by
  unfold execTtCellStart at h
  refine onDie_wf h hw ?_
  repeat' first
    | with_reducible assumption
    | with_reducible refine State.cellStart_wf _ _ _ _ _ ?_

theorem execTtArbStep_wf (d : Die) (ch : Fin 2) (w : Fin 32) (s : State) (s' : State) (h : execTtArbStep d ch w s = .next s') (hw : Memory.wf s.mem = true) : Memory.wf s'.mem = true := by
  unfold execTtArbStep at h
  refine onDie_wf h hw ?_
  repeat' first
    | with_reducible assumption
    | with_reducible refine State.arbAdvance_wf _ _ _ ?_
    | with_reducible refine ite_wf' _ _ ?_ ?_

theorem execTtFrameReceive_wf (d : Die) (ch : Fin 2) (b : Fin 4) (rx : TtRx) (s : State) (s' : State) (h : execTtFrameReceive d ch b rx s = .next s') (hw : Memory.wf s.mem = true) : Memory.wf s'.mem = true := by
  unfold execTtFrameReceive at h
  refine onDie_wf h hw ?_
  repeat' first
    | with_reducible assumption
    | with_reducible refine State.ttReceive_wf _ _ _ _ _ ?_

theorem execTtClockCorrection_wf (d : Die) (s : State) (s' : State) (h : execTtClockCorrection d s = .next s') (hw : Memory.wf s.mem = true) : Memory.wf s'.mem = true := by
  unfold execTtClockCorrection at h
  refine onDie_wf h hw ?_
  repeat' first
    | with_reducible assumption
    | with_reducible refine State.ttCorrect_wf _ _ ?_
    | with_reducible refine ite_wf' _ _ ?_ ?_

theorem execTtStateChange_wf (d : Die) (ev : TtEvent) (s : State) (s' : State) (h : execTtStateChange d ev s = .next s') (hw : Memory.wf s.mem = true) : Memory.wf s'.mem = true := by
  unfold execTtStateChange at h
  refine onDie_wf h hw ?_
  repeat' first
    | with_reducible assumption
    | with_reducible refine State.ttEvent_wf _ _ _ ?_

theorem execTtListenTimeout_wf (d : Die) (s : State) (s' : State) (h : execTtListenTimeout d s = .next s') (hw : Memory.wf s.mem = true) : Memory.wf s'.mem = true := by
  unfold execTtListenTimeout at h
  refine onDie_wf h hw ?_
  repeat' first
    | with_reducible assumption
    | with_reducible refine State.ttTo_wf _ _ _ ?_
    | with_reducible refine ite_wf' _ _ ?_ ?_

theorem execTtRestart_wf (d : Die) (s : State) (s' : State) (h : execTtRestart d s = .next s') (hw : Memory.wf s.mem = true) : Memory.wf s'.mem = true := by
  unfold execTtRestart at h
  refine onDie_wf h hw ?_
  repeat' first
    | with_reducible assumption
    | with_reducible refine State.ttListen_wf _ _ ?_
    | with_reducible refine ite_wf' _ _ ?_ ?_

theorem execBranchActivity_wf (d : Die) (ch : Fin 2) (b : Fin 4) (active : Bool) (s : State) (s' : State) (h : execBranchActivity d ch b active s = .next s') (hw : Memory.wf s.mem = true) : Memory.wf s'.mem = true := by
  unfold execBranchActivity at h
  refine onDie_wf h hw ?_
  repeat' first
    | with_reducible assumption
    | with_reducible refine State.branchUp_wf _ _ _ _ ?_
    | with_reducible refine State.modTt_wf _ _ _ ?_
    | with_reducible refine ite_wf' _ _ ?_ ?_

theorem execBridleViolation_wf (d : Die) (ch : Fin 2) (b : Fin 4) (kind : Fin 3) (s : State) (s' : State) (h : execBridleViolation d ch b kind s = .next s') (hw : Memory.wf s.mem = true) : Memory.wf s'.mem = true := by
  unfold execBridleViolation at h
  refine onDie_wf h hw ?_
  repeat' first
    | with_reducible assumption
    | with_reducible refine keep_wf (State.count_mem _ _ _ _) ?_
    | with_reducible refine State.cutBranch_wf _ _ _ _ _ ?_
    | with_reducible refine State.modTt_wf _ _ _ ?_
    | with_reducible refine keep_wf (State.put_mem _ _ _ _) ?_
    | with_reducible refine ite_wf' _ _ ?_ ?_

theorem execBridleReadmit_wf (d : Die) (s : State) (s' : State) (h : execBridleReadmit d s = .next s') (hw : Memory.wf s.mem = true) : Memory.wf s'.mem = true := by
  unfold execBridleReadmit at h
  refine onDie_wf h hw ?_
  repeat' first
    | with_reducible assumption
    | (intro a x hx)
    | with_reducible refine State.cycleStart_wf _ _ _ _ ?_
    | with_reducible refine State.modTt_wf _ _ _ ?_
    | with_reducible refine ite_wf' _ _ ?_ ?_
    | with_reducible refine foldl_wf _ _ _ ?_ ?_

theorem execTtCut_wf (d : Die) (ch : Fin 2) (b : Fin 4) (s : State) (s' : State) (h : execTtCut d ch b s = .next s') (hw : Memory.wf s.mem = true) : Memory.wf s'.mem = true := by
  unfold execTtCut at h
  refine onDie_wf h hw ?_
  repeat' first
    | with_reducible assumption
    | with_reducible refine State.cutBranch_wf _ _ _ _ _ ?_
    | with_reducible refine keep_wf (State.putFlag_mem _ _ _ _) ?_
    | with_reducible refine ite_wf' _ _ ?_ ?_

theorem execTtReadmit_wf (d : Die) (ch : Fin 2) (b : Fin 4) (s : State) (s' : State) (h : execTtReadmit d ch b s = .next s') (hw : Memory.wf s.mem = true) : Memory.wf s'.mem = true := by
  unfold execTtReadmit at h
  refine onDie_wf h hw ?_
  repeat' first
    | with_reducible assumption
    | with_reducible refine keep_wf (State.setBit_mem _ _ _ _) ?_
    | with_reducible refine ite_wf' _ _ ?_ ?_

end Sys2Proof.Machine
end

