-- ==== Sys2Proof/Laws/ExecVatVat.lean ====
section
/-! SUPPORT. The commands of Machine/Vat keep the form of the Vat. -/

namespace Sys2Proof.Machine

theorem execBankGrant_wf (d : Die) (b : Unit16) (s : State) (s' : State) (h : execBankGrant d b s = .next s') (hw : Memory.wf s.mem = true) : Memory.wf s'.mem = true := by
  unfold execBankGrant at h
  refine onDie_wf h hw ?_
  repeat' first
    | with_reducible assumption
    | with_reducible refine State.grant_wf _ _ _ ?_

theorem execVatByteAccess_wf (d : Die) (m : Fin 43) (t : Die) (off n : Nat) (write : Option (List Byte)) (s : State) (s' : State) (h : execVatByteAccess d m t off n write s = .next s') (hw : Memory.wf s.mem = true) : Memory.wf s'.mem = true := by
  unfold execVatByteAccess at h
  dsimp only at h
  split at h
  · refine onDie_wf h hw (ite_wf' _ _ hw (ite_wf' _ _ ?_ ?_))
    · exact State.enqueue_wf _ _ _ _ _ _ _ _ _ (keep_wf (State.vatAllowed_mem _ _ _ _ _ _ _) hw)
    · exact keep_wf (State.vatAllowed_mem _ _ _ _ _ _ _) hw
  · exact nextRes_wf h hw

theorem execClassBStarve_wf (d : Die) (s : State) (s' : State) (h : execClassBStarve d s = .next s') (hw : Memory.wf s.mem = true) : Memory.wf s'.mem = true := by
  unfold execClassBStarve at h
  refine onDie_wf h hw ?_
  repeat' first
    | with_reducible assumption
    | with_reducible refine keep_wf (State.count_mem _ _ _ _) ?_
    | with_reducible refine keep_wf (State.putFlag_mem _ _ _ _) ?_

theorem execMaintPromote_wf (d : Die) (b : Unit16) (s : State) (s' : State) (h : execMaintPromote d b s = .next s') (hw : Memory.wf s.mem = true) : Memory.wf s'.mem = true := by
  unfold execMaintPromote at h
  refine onDie_wf h hw ?_
  repeat' first
    | with_reducible assumption
    | with_reducible refine State.setBank_wf _ _ _ _ ?_
    | split

theorem execScrubWrite_wf (d : Die) (b : Unit16) (s : State) (s' : State) (h : execScrubWrite d b s = .next s') (hw : Memory.wf s.mem = true) : Memory.wf s'.mem = true := by
  unfold execScrubWrite at h
  refine onDie_wf h hw ?_
  repeat' first
    | with_reducible assumption
    | with_reducible refine State.scrubLine_wf _ _ _ ?_
    | with_reducible refine State.setBank_wf _ _ _ _ ?_
    | split

theorem execBurnisherRead_wf (d : Die) (b : Unit16) (s : State) (s' : State) (h : execBurnisherRead d b s = .next s') (hw : Memory.wf s.mem = true) : Memory.wf s'.mem = true := by
  unfold execBurnisherRead at h
  refine onDie_wf h hw ?_
  repeat' first
    | with_reducible assumption
    | with_reducible refine State.burnRead_wf _ _ _ ?_

theorem execMarchStart_wf (d : Die) (destructive : Bool) (banks : Nat) (spares : List (Nat × MarchFault)) (s : State) (s' : State) (h : execMarchStart d destructive banks spares s = .next s') (hw : Memory.wf s.mem = true) : Memory.wf s'.mem = true := by
  unfold execMarchStart at h
  refine onDie_wf h hw ?_
  repeat' first
    | with_reducible assumption
    | with_reducible refine State.marchRequest_wf _ _ _ _ _ ?_

theorem execMarchAbort_wf (d : Die) (s : State) (s' : State) (h : execMarchAbort d s = .next s') (hw : Memory.wf s.mem = true) : Memory.wf s'.mem = true := by
  unfold execMarchAbort at h
  refine onDie_wf h hw ?_
  repeat' first
    | with_reducible assumption
    | with_reducible refine keep_wf (State.marchAbort_mem _ _) ?_

theorem execMarchLineDone_wf (d : Die) (b : Unit16) (fault : Option MarchFault) (s : State) (s' : State) (h : execMarchLineDone d b fault s = .next s') (hw : Memory.wf s.mem = true) : Memory.wf s'.mem = true := by
  unfold execMarchLineDone at h
  refine onDie_wf h hw ?_
  repeat' first
    | with_reducible assumption
    | with_reducible refine State.marchFault_wf _ _ _ _ ?_
    | with_reducible refine State.setBank_wf _ _ _ _ ?_
    | with_reducible refine keep_wf (State.setBit_mem _ _ _ _) ?_
    | with_reducible refine ite_wf' _ _ ?_ ?_
    | split

theorem execMarchDone_wf (d : Die) (faults : List (Nat × MarchFault)) (s : State) (s' : State) (h : execMarchDone d faults s = .next s') (hw : Memory.wf s.mem = true) : Memory.wf s'.mem = true := by
  unfold execMarchDone at h
  refine onDie_wf h hw ?_
  repeat' first
    | with_reducible assumption
    | (intro a x hx)
    | with_reducible refine State.marchFault_wf _ _ _ _ ?_
    | with_reducible refine State.marchFinish_wf _ _ _ ?_
    | with_reducible refine ite_wf' _ _ ?_ ?_
    | with_reducible refine foldl_wf _ _ _ ?_ ?_

theorem execStartupRun_wf (faults : List (Nat × Nat × MarchFault)) (s : State) (s' : State) (h : execStartupRun faults s = .next s') (hw : Memory.wf s.mem = true) : Memory.wf s'.mem = true := by
  unfold execStartupRun at h
  refine onPkg_wf h hw ?_
  repeat' first
    | with_reducible assumption
    | (intro a x hx)
    | with_reducible refine State.eachDie_wf _ _ ?_ ?_
    | with_reducible refine State.startupDie_wf _ _ _ ?_
    | with_reducible refine ite_wf' _ _ ?_ ?_

end Sys2Proof.Machine
end

