-- ==== Sys2Proof/Laws/ExecVatWelt.lean ====
section
/-! SUPPORT. The commands of Machine/Welt keep the form of the Vat. -/

namespace Sys2Proof.Machine

theorem execWeltPacketRx_wf (d : Die) (k : Fin 3) (seq : Fin 128) (good : Bool) (s : State) (s' : State) (h : execWeltPacketRx d k seq good s = .next s') (hw : Memory.wf s.mem = true) : Memory.wf s'.mem = true := by
  unfold execWeltPacketRx at h
  refine onDie_wf h hw ?_
  repeat' first
    | with_reducible assumption
    | with_reducible refine State.weltPacket_wf _ _ _ _ _ ?_

theorem execWeltRetrain_wf (d : Die) (k : Fin 3) (s : State) (s' : State) (h : execWeltRetrain d k s = .next s') (hw : Memory.wf s.mem = true) : Memory.wf s'.mem = true := by
  unfold execWeltRetrain at h
  refine onDie_wf h hw ?_
  repeat' first
    | with_reducible assumption
    | with_reducible refine State.weltRetrain_wf _ _ _ ?_

theorem execWeltRetrainDone_wf (d : Die) (k : Fin 3) (ok : Bool) (s : State) (s' : State) (h : execWeltRetrainDone d k ok s = .next s') (hw : Memory.wf s.mem = true) : Memory.wf s'.mem = true := by
  unfold execWeltRetrainDone at h
  refine onDie_wf h hw ?_
  repeat' first
    | with_reducible assumption
    | with_reducible refine State.retrainDone_wf _ _ _ _ ?_

theorem execWeltTraining_wf (d : Die) (k : Fin 3) (ok : Bool) (s : State) (s' : State) (h : execWeltTraining d k ok s = .next s') (hw : Memory.wf s.mem = true) : Memory.wf s'.mem = true := by
  unfold execWeltTraining at h
  refine onDie_wf h hw ?_
  repeat' first
    | with_reducible assumption
    | with_reducible refine State.weltTrained_wf _ _ _ _ ?_

theorem execWeltCreditWaitEnd_wf (d : Die) (k : Fin 3) (ns : Nat) (s : State) (s' : State) (h : execWeltCreditWaitEnd d k ns s = .next s') (hw : Memory.wf s.mem = true) : Memory.wf s'.mem = true := by
  unfold execWeltCreditWaitEnd at h
  refine onDie_wf h hw ?_
  repeat' first
    | with_reducible assumption
    | with_reducible refine keep_wf (State.creditWait_mem _ _ _ _) ?_

theorem execTimeMessage_wf (d : Die) (mag : Nat) (s : State) (s' : State) (h : execTimeMessage d mag s = .next s') (hw : Memory.wf s.mem = true) : Memory.wf s'.mem = true := by
  unfold execTimeMessage at h
  refine onDie_wf h hw ?_
  repeat' first
    | with_reducible assumption
    | with_reducible refine keep_wf (State.timeMessage_mem _ _ _) ?_

end Sys2Proof.Machine
end

