-- ==== Sys2Proof/Laws/KeepPendingOps.lean ====
section
/-! SUPPORT. The functions of Machine/Ops leave the queue alone. -/

namespace Sys2Proof.Machine

@[simp] theorem State.wr_pending (s : State) (d : Nat) (r : Reg) (v : Word64) : (State.wr s d r v).pending = s.pending := by rfl

@[simp] theorem State.put_pending (s : State) (d : Nat) (f : Field) (x : Nat) : (State.put s d f x).pending = s.pending := by rfl

@[simp] theorem State.putFlag_pending (s : State) (d : Nat) (f : Field) (b : Bool) : (State.putFlag s d f b).pending = s.pending := by rfl

@[simp] theorem State.puts_pending (s : State) (d : Nat) (l : List (Field × Nat)) : (State.puts s d l).pending = s.pending := by
  unfold State.puts
  repeat' first
    | with_reducible rfl
    | intro _
    | with_reducible refine Eq.trans (State.put_pending _ _ _ _) ?_
    | with_reducible refine Eq.trans (foldl_pending _ _ _ ?_) ?_

@[simp] theorem State.count_pending (s : State) (d : Nat) (f : Field) (k : Nat) : (State.count s d f k).pending = s.pending := by rfl

@[simp] theorem State.setBit_pending (s : State) (d : Nat) (f : Field) (i : Nat) : (State.setBit s d f i).pending = s.pending := by rfl

@[simp] theorem State.clrBit_pending (s : State) (d : Nat) (f : Field) (i : Nat) : (State.clrBit s d f i).pending = s.pending := by rfl

@[simp] theorem State.eachDie_pending (s : State) (f : Nat → State → State) (h : ∀ d a, (f d a).pending = a.pending) :
    (s.eachDie f).pending = s.pending := by
  unfold State.eachDie; exact foldl_pending _ _ _ (fun a x => h x a)

@[simp] theorem State.freeVal_pending (s : State) (m : Nat) : (State.freeVal s m).2.pending = s.pending := by rfl

@[simp] theorem State.setByte_pending (s : State) (d off : Nat) (v : Byte) : (State.setByte s d off v).pending = s.pending := by rfl

@[simp] theorem State.writeBytes_pending (s : State) (d off : Nat) (x0 : List Byte) : (State.writeBytes s d off x0).pending = s.pending := by
  induction x0 generalizing s d off with
  | nil =>
    unfold State.writeBytes
    repeat' first
      | with_reducible rfl
  | cons _ _ ih =>
    unfold State.writeBytes
    repeat' first
      | with_reducible rfl
      | with_reducible refine Eq.trans (ih _ _ _) ?_
      | with_reducible refine Eq.trans (State.setByte_pending _ _ _ _) ?_

@[simp] theorem State.writeLE_pending (s : State) (d off n x : Nat) : (State.writeLE s d off n x).pending = s.pending := by
  unfold State.writeLE
  repeat' first
    | with_reducible rfl
    | with_reducible refine Eq.trans (State.writeBytes_pending _ _ _ _) ?_

end Sys2Proof.Machine
end

