-- ==== Sys2Proof/Laws/KeepPendingVatOps.lean ====
section
/-! SUPPORT. The functions of Machine/VatOps leave the queue alone. -/

namespace Sys2Proof.Machine

@[simp] theorem State.setWordErr_pending (s : State) (d off m : Nat) : (State.setWordErr s d off m).pending = s.pending := by rfl

@[simp] theorem State.setBank_pending (s : State) (d b : Nat) (k : Bank) : (State.setBank s d b k).pending = s.pending := by rfl

@[simp] theorem State.eccCe_pending (s : State) (d off syn : Nat) : (State.eccCe s d off syn).pending = s.pending := by rfl

@[simp] theorem State.eccUe_pending (s : State) (d off syn source : Nat) : (State.eccUe s d off syn source).pending = s.pending := by
  unfold State.eccUe
  repeat' first
    | with_reducible rfl
    | with_reducible refine Eq.trans (State.count_pending _ _ _ _) ?_
    | with_reducible refine Eq.trans (State.put_pending _ _ _ _) ?_
    | with_reducible refine Eq.trans (State.putFlag_pending _ _ _ _) ?_
    | with_reducible refine ite_pending' _ _ ?_ ?_

@[simp] theorem State.eccWord_pending (s : State) (d off source : Nat) : (State.eccWord s d off source).2.pending = s.pending := by
  unfold State.eccWord
  repeat' first
    | with_reducible rfl
    | with_reducible refine ite_snd_pending _ _ ?_ ?_
    | with_reducible refine Eq.trans (State.eccCe_pending _ _ _ _) ?_
    | with_reducible refine Eq.trans (State.eccUe_pending _ _ _ _ _) ?_
    | dsimp only
    | split

@[simp] theorem State.eccWords_pending (s : State) (d w source : Nat) (x0 : Nat) : (State.eccWords s d w source x0).2.pending = s.pending := by
  induction x0 generalizing s d w source with
  | zero =>
    unfold State.eccWords
    repeat' first
      | with_reducible rfl
  | succ _ ih =>
    unfold State.eccWords
    repeat' first
      | with_reducible rfl
      | with_reducible refine Eq.trans (ih _ _ _ _) ?_
      | with_reducible refine Eq.trans (State.eccWord_pending _ _ _ _) ?_

@[simp] theorem State.vatRead_pending (s : State) (d off n source : Nat) : (State.vatRead s d off n source).2.2.pending = s.pending := by
  unfold State.vatRead
  repeat' first
    | with_reducible rfl
    | with_reducible refine Eq.trans (State.eccWords_pending _ _ _ _ _) ?_

@[simp] theorem State.clearErrs_pending (s : State) (d off n : Nat) : (State.clearErrs s d off n).pending = s.pending := by
  unfold State.clearErrs
  repeat' first
    | with_reducible rfl
    | with_reducible refine ite_pending' _ _ ?_ ?_

@[simp] theorem State.vatStore_pending (s : State) (d off : Nat) (bs : List Byte) : (State.vatStore s d off bs).pending = s.pending := by
  unfold State.vatStore
  repeat' first
    | with_reducible rfl
    | with_reducible refine Eq.trans (State.clearErrs_pending _ _ _ _) ?_
    | with_reducible refine Eq.trans (State.writeBytes_pending _ _ _ _) ?_

@[simp] theorem State.lineWrite_pending (s : State) (d off source : Nat) (bs : List Byte) : (State.lineWrite s d off source bs).2.pending = s.pending := by
  unfold State.lineWrite
  repeat' first
    | with_reducible rfl
    | with_reducible refine ite_snd_pending _ _ ?_ ?_
    | with_reducible refine Eq.trans (State.clearErrs_pending _ _ _ _) ?_
    | with_reducible refine Eq.trans (State.eccWords_pending _ _ _ _ _) ?_
    | with_reducible refine Eq.trans (State.vatStore_pending _ _ _ _) ?_
    | with_reducible refine Eq.trans (State.writeBytes_pending _ _ _ _) ?_

@[simp] theorem State.vatWrite_pending (s : State) (d off source : Nat) (bs : List Byte) (x0 : Nat) : (State.vatWrite s d off source bs x0).2.pending = s.pending := by
  induction x0 generalizing s d off source bs with
  | zero =>
    unfold State.vatWrite
    repeat' first
      | with_reducible rfl
  | succ _ ih =>
    unfold State.vatWrite
    repeat' first
      | with_reducible rfl
      | with_reducible refine Eq.trans (ih _ _ _ _ _) ?_
      | with_reducible refine Eq.trans (State.lineWrite_pending _ _ _ _ _) ?_
      | dsimp only
      | split

@[simp] theorem State.portRead_pending (s : State) (d off n source lead : Nat) : (State.portRead s d off n source lead).2.2.pending = s.pending := by
  unfold State.portRead
  repeat' first
    | with_reducible rfl
    | with_reducible refine Eq.trans (State.vatRead_pending _ _ _ _ _) ?_

@[simp] theorem State.vatViolation_pending (s : State) (d m t line : Nat) (write prot : Bool) : (State.vatViolation s d m t line write prot).pending = s.pending := by
  unfold State.vatViolation
  repeat' first
    | with_reducible rfl
    | with_reducible refine Eq.trans (State.count_pending _ _ _ _) ?_
    | with_reducible refine Eq.trans (State.put_pending _ _ _ _) ?_
    | with_reducible refine Eq.trans (State.putFlag_pending _ _ _ _) ?_
    | with_reducible refine ite_pending' _ _ ?_ ?_

@[simp] theorem State.vatAllowed_pending (s : State) (d m t off n : Nat) (write : Bool) : (State.vatAllowed s d m t off n write).2.pending = s.pending := by
  unfold State.vatAllowed
  repeat' first
    | with_reducible rfl
    | with_reducible refine Eq.trans (State.vatViolation_pending _ _ _ _ _ _ _) ?_
    | split

@[simp] theorem State.pput_pending (s : State) (p t : Nat) (f : Field) (x : Nat) : (State.pput s p t f x).pending = s.pending := by rfl

@[simp] theorem State.pputFlag_pending (s : State) (p t : Nat) (f : Field) (b : Bool) : (State.pputFlag s p t f b).pending = s.pending := by rfl

@[simp] theorem State.pageEvent_pending (s : State) (t : Nat) (f : Field) : (State.pageEvent s t f).pending = s.pending := by
  unfold State.pageEvent
  repeat' first
    | with_reducible rfl
    | intro _
    | with_reducible refine Eq.trans (State.pputFlag_pending _ _ _ _ _) ?_
    | with_reducible refine Eq.trans (foldl_pending _ _ _ ?_) ?_

end Sys2Proof.Machine
end

