-- ==== Sys2Proof/Laws/KeepPendingDpOps.lean ====
section
/-! SUPPORT. The functions of Machine/DpOps leave the queue alone. -/

namespace Sys2Proof.Machine

@[simp] theorem State.readDesc_pending (s : State) (d slot source : Nat) : (State.readDesc s d slot source).2.2.pending = s.pending := by
  unfold State.readDesc
  repeat' first
    | with_reducible rfl
    | with_reducible refine Eq.trans (State.vatRead_pending _ _ _ _ _) ?_

@[simp] theorem State.readRec_pending (s : State) (d slot source : Nat) : (State.readRec s d slot source).2.2.pending = s.pending := by
  unfold State.readRec
  repeat' first
    | with_reducible rfl
    | with_reducible refine Eq.trans (State.vatRead_pending _ _ _ _ _) ?_

@[simp] theorem State.setSkv_pending (s : State) (d slot : Nat) (e : Skv) : (State.setSkv s d slot e).pending = s.pending := by rfl

@[simp] theorem State.queueMirror_pending (s : State) (m : MirrorMsg) : (State.queueMirror s m).pending = s.pending := by
  unfold State.queueMirror
  repeat' first
    | with_reducible rfl
    | with_reducible refine Eq.trans (State.count_pending _ _ _ _) ?_
    | with_reducible refine Eq.trans (State.putFlag_pending _ _ _ _) ?_
    | with_reducible refine ite_pending' _ _ ?_ ?_

@[simp] theorem State.mirrorSend_pending (s : State) (dpi : Nat) (c : Desc) (r : DpRec) : (State.mirrorSend s dpi c r).pending = s.pending := by
  unfold State.mirrorSend
  repeat' first
    | with_reducible rfl
    | intro _
    | with_reducible refine Eq.trans (State.queueMirror_pending _ _) ?_
    | with_reducible refine ite_pending' _ _ ?_ ?_
    | with_reducible refine Eq.trans (foldl_pending _ _ _ ?_) ?_

@[simp] theorem State.updateRec_pending (s : State) (d slot : Nat) (c : Desc) (r : DpRec) : (State.updateRec s d slot c r).pending = s.pending := by
  unfold State.updateRec
  repeat' first
    | with_reducible rfl
    | with_reducible refine Eq.trans (State.mirrorSend_pending _ _ _ _) ?_
    | with_reducible refine Eq.trans (State.setSkv_pending _ _ _ _) ?_
    | with_reducible refine Eq.trans (State.vatStore_pending _ _ _ _) ?_

@[simp] theorem State.prevRec_pending (s : State) (d slot : Nat) : (State.prevRec s d slot).2.2.pending = s.pending := by
  unfold State.prevRec
  repeat' first
    | with_reducible rfl
    | with_reducible refine Eq.trans (State.count_pending _ _ _ _) ?_
    | with_reducible refine Eq.trans (State.putFlag_pending _ _ _ _) ?_
    | with_reducible refine Eq.trans (State.readRec_pending _ _ _ _) ?_
    | dsimp only
    | split

@[simp] theorem State.refuseCommit_pending (s : State) (d reason dpi issuer : Nat) (subst : Bool) : (State.refuseCommit s d reason dpi issuer subst).pending = s.pending := by
  unfold State.refuseCommit
  repeat' first
    | with_reducible rfl
    | with_reducible refine Eq.trans (State.count_pending _ _ _ _) ?_
    | with_reducible refine Eq.trans (State.put_pending _ _ _ _) ?_
    | with_reducible refine Eq.trans (State.putFlag_pending _ _ _ _) ?_
    | with_reducible refine ite_pending' _ _ ?_ ?_

@[simp] theorem State.measureLatency_pending (s : State) (d : Nat) (c : Desc) (endInstant : Option Nat) : (State.measureLatency s d c endInstant).pending = s.pending := by
  unfold State.measureLatency
  repeat' first
    | with_reducible rfl
    | with_reducible refine Eq.trans (State.count_pending _ _ _ _) ?_
    | with_reducible refine Eq.trans (State.put_pending _ _ _ _) ?_
    | with_reducible refine Eq.trans (State.putFlag_pending _ _ _ _) ?_
    | with_reducible refine ite_pending' _ _ ?_ ?_
    | dsimp only
    | split

@[simp] theorem State.futureSrc_pending (s : State) (d : Nat) (c : Desc) (srcValid : Bool) (src arr : Nat) : (State.futureSrc s d c srcValid src arr).pending = s.pending := by
  unfold State.futureSrc
  repeat' first
    | with_reducible rfl
    | with_reducible refine Eq.trans (State.count_pending _ _ _ _) ?_
    | with_reducible refine Eq.trans (State.putFlag_pending _ _ _ _) ?_
    | with_reducible refine ite_pending' _ _ ?_ ?_

@[simp] theorem State.applyCommit_pending (s : State) (d slot : Nat) (c : Desc) (k : Commit) : (State.applyCommit s d slot c k).pending = s.pending := by
  unfold State.applyCommit
  repeat' first
    | with_reducible rfl
    | with_reducible refine Eq.trans (State.count_pending _ _ _ _) ?_
    | with_reducible refine Eq.trans (State.futureSrc_pending _ _ _ _ _ _) ?_
    | with_reducible refine Eq.trans (State.measureLatency_pending _ _ _ _) ?_
    | with_reducible refine Eq.trans (State.prevRec_pending _ _ _) ?_
    | with_reducible refine Eq.trans (State.updateRec_pending _ _ _ _ _) ?_

@[simp] theorem State.handleCommit_pending (s : State) (k : Commit) : (State.handleCommit s k).2.pending = s.pending := by
  unfold State.handleCommit
  repeat' first
    | with_reducible rfl
    | with_reducible refine ite_snd_pending _ _ ?_ ?_
    | with_reducible refine Eq.trans (State.applyCommit_pending _ _ _ _ _) ?_
    | with_reducible refine Eq.trans (State.readDesc_pending _ _ _ _) ?_
    | with_reducible refine Eq.trans (State.refuseCommit_pending _ _ _ _ _ _) ?_
    | with_reducible refine Eq.trans (State.vatRead_pending _ _ _ _ _) ?_
    | with_reducible refine ite_pending' _ _ ?_ ?_
    | dsimp only
    | split

@[simp] theorem State.substitute_pending (s : State) (d tid : Nat) (e : ScatterElem) (release : Bool) : (State.substitute s d tid e release).2.pending = s.pending := by
  unfold State.substitute
  repeat' first
    | with_reducible rfl
    | with_reducible refine ite_snd_pending _ _ ?_ ?_
    | with_reducible refine Eq.trans (State.count_pending _ _ _ _) ?_
    | with_reducible refine Eq.trans (State.futureSrc_pending _ _ _ _ _ _) ?_
    | with_reducible refine Eq.trans (State.prevRec_pending _ _ _) ?_
    | with_reducible refine Eq.trans (State.readDesc_pending _ _ _ _) ?_
    | with_reducible refine Eq.trans (State.refuseCommit_pending _ _ _ _ _ _) ?_
    | with_reducible refine Eq.trans (State.updateRec_pending _ _ _ _ _) ?_
    | with_reducible refine ite_pending' _ _ ?_ ?_
    | dsimp only
    | split

@[simp] theorem State.fenceRec_pending (s : State) (d slot : Nat) (c : Desc) : (State.fenceRec s d slot c).pending = s.pending := by
  unfold State.fenceRec
  repeat' first
    | with_reducible rfl
    | with_reducible refine Eq.trans (State.count_pending _ _ _ _) ?_
    | with_reducible refine Eq.trans (State.readRec_pending _ _ _ _) ?_
    | with_reducible refine Eq.trans (State.updateRec_pending _ _ _ _ _) ?_
    | with_reducible refine ite_pending' _ _ ?_ ?_

@[simp] theorem State.markWriter_pending (s : State) (u d : Nat) : (State.markWriter s u d).pending = s.pending := by
  unfold State.markWriter
  repeat' first
    | with_reducible rfl
    | intro _
    | with_reducible refine Eq.trans (State.fenceRec_pending _ _ _ _) ?_
    | with_reducible refine Eq.trans (State.put_pending _ _ _ _) ?_
    | with_reducible refine Eq.trans (State.putFlag_pending _ _ _ _) ?_
    | with_reducible refine Eq.trans (State.readDesc_pending _ _ _ _) ?_
    | with_reducible refine ite_pending' _ _ ?_ ?_
    | with_reducible refine Eq.trans (foldl_pending _ _ _ ?_) ?_

@[simp] theorem State.fenceUnits_pending (s : State) (us : List Nat) : (State.fenceUnits s us).pending = s.pending := by
  unfold State.fenceUnits
  repeat' first
    | with_reducible rfl
    | intro _
    | with_reducible refine Eq.trans (State.eachDie_pending _ _ ?_) ?_
    | with_reducible refine Eq.trans (State.markWriter_pending _ _ _) ?_
    | with_reducible refine Eq.trans (foldl_pending _ _ _ ?_) ?_

@[simp] theorem State.unfenceUnits_pending (s : State) (us : List Nat) : (State.unfenceUnits s us).pending = s.pending := by rfl

end Sys2Proof.Machine
end

