-- ==== Sys2Proof/Laws/KeepPendingRecOps.lean ====
section
/-! SUPPORT. The functions of Machine/RecOps leave the queue alone. -/

namespace Sys2Proof.Machine

@[simp] theorem State.setRecDie_pending (s : State) (d : Nat) (r : RecDie) : (State.setRecDie s d r).pending = s.pending := by rfl

@[simp] theorem State.setLoss_pending (s : State) (d c : Nat) (l : Loss) : (State.setLoss s d c l).pending = s.pending := by
  unfold State.setLoss
  repeat' first
    | with_reducible rfl
    | with_reducible refine Eq.trans (State.clrBit_pending _ _ _ _) ?_
    | with_reducible refine Eq.trans (State.setBit_pending _ _ _ _) ?_
    | with_reducible refine Eq.trans (State.setRecDie_pending _ _ _) ?_
    | with_reducible refine ite_pending' _ _ ?_ ?_

@[simp] theorem State.setRblock_pending (s : State) (d b : Nat) (k : RBlock) : (State.setRblock s d b k).pending = s.pending := by
  unfold State.setRblock
  repeat' first
    | with_reducible rfl
    | with_reducible refine Eq.trans (State.setRecDie_pending _ _ _) ?_
    | with_reducible refine Eq.trans (State.vatStore_pending _ _ _ _) ?_

@[simp] theorem State.syncOcc_pending (s : State) (d : Nat) : (State.syncOcc s d).pending = s.pending := by rfl

@[simp] theorem State.closeCur_pending (s : State) (d : Nat) : (State.closeCur s d).pending = s.pending := by
  unfold State.closeCur
  repeat' first
    | with_reducible rfl
    | with_reducible refine Eq.trans (State.put_pending _ _ _ _) ?_
    | with_reducible refine Eq.trans (State.setRblock_pending _ _ _ _) ?_
    | with_reducible refine ite_pending' _ _ ?_ ?_

@[simp] theorem State.endSnaps_pending (s : State) (d : Nat) (b : RBlock) : (State.endSnaps s d b).pending = s.pending := by
  unfold State.endSnaps
  repeat' first
    | with_reducible rfl
    | intro _
    | with_reducible refine Eq.trans (State.putFlag_pending _ _ _ _) ?_
    | with_reducible refine ite_pending' _ _ ?_ ?_
    | with_reducible refine Eq.trans (foldl_pending _ _ _ ?_) ?_

@[simp] theorem State.storeRec_pending (s : State) (d : Nat) (r : Rec) : (State.storeRec s d r).pending = s.pending := by
  unfold State.storeRec
  repeat' first
    | with_reducible rfl
    | with_reducible refine Eq.trans (State.closeCur_pending _ _) ?_
    | with_reducible refine Eq.trans (State.endSnaps_pending _ _ _) ?_
    | with_reducible refine Eq.trans (State.setRblock_pending _ _ _ _) ?_
    | with_reducible refine Eq.trans (State.syncOcc_pending _ _) ?_
    | with_reducible refine ite_pending' _ _ ?_ ?_

@[simp] theorem State.loseRec_pending (s : State) (d : Nat) (sys : Bool) (c seq cause : Nat) : (State.loseRec s d sys c seq cause).pending = s.pending := by
  unfold State.loseRec
  repeat' first
    | with_reducible rfl
    | with_reducible refine Eq.trans (State.count_pending _ _ _ _) ?_
    | with_reducible refine Eq.trans (State.putFlag_pending _ _ _ _) ?_
    | with_reducible refine Eq.trans (State.setLoss_pending _ _ _ _) ?_
    | with_reducible refine ite_pending' _ _ ?_ ?_

@[simp] theorem State.refuseRec_pending (s : State) (d : Nat) : (State.refuseRec s d).pending = s.pending := by
  unfold State.refuseRec
  repeat' first
    | with_reducible rfl
    | with_reducible refine Eq.trans (State.count_pending _ _ _ _) ?_
    | with_reducible refine Eq.trans (State.putFlag_pending _ _ _ _) ?_
    | with_reducible refine ite_pending' _ _ ?_ ?_

@[simp] theorem State.advanceSeq_pending (s : State) (d : Nat) : (State.advanceSeq s d).pending = s.pending := by
  unfold State.advanceSeq
  repeat' first
    | with_reducible rfl
    | with_reducible refine Eq.trans (State.put_pending _ _ _ _) ?_
    | with_reducible refine Eq.trans (State.putFlag_pending _ _ _ _) ?_
    | with_reducible refine ite_pending' _ _ ?_ ?_

@[simp] theorem State.sequence_pending (s : State) (d : Nat) (sys : Bool) (c fmt source tid : Nat) (body : List Byte) : (State.sequence s d sys c fmt source tid body).2.pending = s.pending := by
  unfold State.sequence
  repeat' first
    | with_reducible rfl
    | with_reducible refine ite_snd_pending _ _ ?_ ?_
    | with_reducible refine Eq.trans (State.advanceSeq_pending _ _) ?_
    | with_reducible refine Eq.trans (State.loseRec_pending _ _ _ _ _ _) ?_
    | with_reducible refine Eq.trans (State.storeRec_pending _ _ _) ?_

@[simp] theorem State.submitRec_pending (s : State) (d c fmt source tid : Nat) (body : List Byte) : (State.submitRec s d c fmt source tid body).pending = s.pending := by
  unfold State.submitRec
  repeat' first
    | with_reducible rfl
    | with_reducible refine Eq.trans (State.refuseRec_pending _ _) ?_
    | with_reducible refine Eq.trans (State.sequence_pending _ _ _ _ _ _ _ _) ?_
    | with_reducible refine ite_pending' _ _ ?_ ?_

@[simp] theorem State.partRec_pending (s : State) (d c ty inst : Nat) (body : List Byte) : (State.partRec s d c ty inst body).pending = s.pending := by
  unfold State.partRec
  repeat' first
    | with_reducible rfl
    | with_reducible refine Eq.trans (State.submitRec_pending _ _ _ _ _ _ _) ?_

@[simp] theorem State.sysRec_pending (s : State) (d c fmt : Nat) (body : List Byte) : (State.sysRec s d c fmt body).2.pending = s.pending := by
  unfold State.sysRec
  repeat' first
    | with_reducible rfl
    | with_reducible refine ite_snd_pending _ _ ?_ ?_
    | with_reducible refine Eq.trans (State.sequence_pending _ _ _ _ _ _ _ _) ?_

@[simp] theorem State.writeLoss_pending (s : State) (d c : Nat) : (State.writeLoss s d c).pending = s.pending := by
  unfold State.writeLoss
  repeat' first
    | with_reducible rfl
    | with_reducible refine Eq.trans (State.setLoss_pending _ _ _ _) ?_
    | with_reducible refine Eq.trans (State.sysRec_pending _ _ _ _ _) ?_
    | with_reducible refine ite_pending' _ _ ?_ ?_

@[simp] theorem State.writeLosses_pending (s : State) (d : Nat) : (State.writeLosses s d).pending = s.pending := by
  unfold State.writeLosses
  repeat' first
    | with_reducible rfl
    | intro _
    | with_reducible refine Eq.trans (State.writeLoss_pending _ _ _) ?_
    | with_reducible refine ite_pending' _ _ ?_ ?_
    | with_reducible refine Eq.trans (foldl_pending _ _ _ ?_) ?_

@[simp] theorem State.markRec_pending (s : State) (d cause prev : Nat) : (State.markRec s d cause prev).pending = s.pending := by
  unfold State.markRec
  repeat' first
    | with_reducible rfl
    | with_reducible refine Eq.trans (State.sysRec_pending _ _ _ _ _) ?_

end Sys2Proof.Machine
end

