-- ==== Sys2Proof/Laws/KeepPendingAwlBase.lean ====
section
/-! SUPPORT. The functions of Machine/AwlBase leave the queue alone. -/

namespace Sys2Proof.Machine

@[simp] theorem State.fenceRefused_pending (s : State) (d n : Nat) : (State.fenceRefused s d n).pending = s.pending := by rfl

@[simp] theorem State.setEng_pending (s : State) (d e : Nat) (g : Eng) : (State.setEng s d e g).pending = s.pending := by rfl

@[simp] theorem State.modEng_pending (s : State) (d e : Nat) (f : Eng → Eng) : (State.modEng s d e f).pending = s.pending := by rfl

@[simp] theorem State.setCl_pending (s : State) (d c : Nat) (k : Cl) : (State.setCl s d c k).pending = s.pending := by rfl

@[simp] theorem State.raise_pending (s : State) (d e n : Nat) : (State.raise s d e n).pending = s.pending := by rfl

@[simp] theorem State.spadSet_pending (s : State) (d c w : Nat) (v : W16) : (State.spadSet s d c w v).pending = s.pending := by rfl

@[simp] theorem State.spadLoad_pending (s : State) (d c w : Nat) : (State.spadLoad s d c w).2.pending = s.pending := by
  unfold State.spadLoad
  repeat' first
    | with_reducible rfl
    | with_reducible refine ite_snd_pending _ _ ?_ ?_

@[simp] theorem State.loadBank_pending (s : State) (d c b : Nat) (code : List Nat) : (State.loadBank s d c b code).pending = s.pending := by rfl

@[simp] theorem State.spadWords_pending (s : State) (d c w : Nat) (x0 : List Nat) : (State.spadWords s d c w x0).pending = s.pending := by
  induction x0 generalizing s d c w with
  | nil =>
    unfold State.spadWords
    repeat' first
      | with_reducible rfl
  | cons _ _ ih =>
    unfold State.spadWords
    repeat' first
      | with_reducible rfl
      | with_reducible refine Eq.trans (ih _ _ _ _) ?_
      | with_reducible refine Eq.trans (State.spadSet_pending _ _ _ _ _) ?_

@[simp] theorem State.spadZero_pending (s : State) (d c lo n : Nat) : (State.spadZero s d c lo n).pending = s.pending := by rfl

@[simp] theorem State.initPriv_pending (s : State) (c : HarnessCfg) (d e : Nat) : (State.initPriv s c d e).pending = s.pending := by
  unfold State.initPriv
  repeat' first
    | with_reducible rfl
    | with_reducible refine Eq.trans (State.spadWords_pending _ _ _ _ _) ?_
    | with_reducible refine Eq.trans (State.spadZero_pending _ _ _ _ _) ?_
    | dsimp only
    | split

@[simp] theorem State.initShared_pending (s : State) (c : HarnessCfg) (d k : Nat) : (State.initShared s c d k).pending = s.pending := by
  unfold State.initShared
  repeat' first
    | with_reducible rfl
    | with_reducible refine Eq.trans (State.spadWords_pending _ _ _ _ _) ?_
    | with_reducible refine Eq.trans (State.spadZero_pending _ _ _ _ _) ?_
    | dsimp only
    | split

@[simp] theorem State.writePack_pending (s : State) (c : HarnessCfg) (d k b : Nat) : (State.writePack s c d k b).pending = s.pending := by rfl

end Sys2Proof.Machine
end

