-- ==== Sys2Proof/Laws/KeepPendingRcvOps.lean ====
section
/-! SUPPORT. The functions of Machine/RcvOps leave the queue alone. -/

namespace Sys2Proof.Machine

@[simp] theorem State.setDom_pending (s : State) (d n st : Nat) : (State.setDom s d n st).pending = s.pending := by
  unfold State.setDom
  repeat' first
    | with_reducible rfl
    | with_reducible refine Eq.trans (State.clrBit_pending _ _ _ _) ?_
    | with_reducible refine Eq.trans (State.put_pending _ _ _ _) ?_
    | with_reducible refine Eq.trans (State.putFlag_pending _ _ _ _) ?_
    | with_reducible refine Eq.trans (State.setBit_pending _ _ _ _) ?_
    | with_reducible refine ite_pending' _ _ ?_ ?_

@[simp] theorem State.powRec_pending (s : State) (d cls kind detail die old count : Nat) : (State.powRec s d cls kind detail die old count).pending = s.pending := by
  unfold State.powRec
  repeat' first
    | with_reducible rfl
    | with_reducible refine Eq.trans (State.partRec_pending _ _ _ _ _ _) ?_

@[simp] theorem State.rcvRec_pending (s : State) (d cls kind detail trig : Nat) (absorbed : Bool) (u count : Nat) : (State.rcvRec s d cls kind detail trig absorbed u count).pending = s.pending := by
  unfold State.rcvRec
  repeat' first
    | with_reducible rfl
    | with_reducible refine Eq.trans (State.partRec_pending _ _ _ _ _ _) ?_

@[simp] theorem State.faultRec_pending (s : State) (d c u : Nat) : (State.faultRec s d c u).pending = s.pending := by
  unfold State.faultRec
  repeat' first
    | with_reducible rfl
    | with_reducible refine Eq.trans (State.rcvRec_pending _ _ _ _ _ _ _ _ _) ?_
    | with_reducible refine ite_pending' _ _ ?_ ?_

@[simp] theorem State.breakCond_pending (s : State) (b : Nat) : (State.breakCond s b).pending = s.pending := by
  unfold State.breakCond
  repeat' first
    | with_reducible rfl
    | with_reducible refine Eq.trans (State.rcvRec_pending _ _ _ _ _ _ _ _ _) ?_
    | with_reducible refine Eq.trans (State.setBit_pending _ _ _ _) ?_
    | with_reducible refine ite_pending' _ _ ?_ ?_

@[simp] theorem State.latchFault_pending (s : State) (d c u : Nat) : (State.latchFault s d c u).pending = s.pending := by
  unfold State.latchFault
  repeat' first
    | with_reducible rfl
    | with_reducible refine Eq.trans (State.breakCond_pending _ _) ?_
    | with_reducible refine Eq.trans (State.faultRec_pending _ _ _ _) ?_
    | with_reducible refine Eq.trans (State.putFlag_pending _ _ _ _) ?_
    | with_reducible refine Eq.trans (State.setBit_pending _ _ _ _) ?_
    | with_reducible refine ite_pending' _ _ ?_ ?_

@[simp] theorem State.condFault_pending (s : State) (d c u : Nat) (on : Bool) : (State.condFault s d c u on).pending = s.pending := by
  unfold State.condFault
  repeat' first
    | with_reducible rfl
    | with_reducible refine Eq.trans (State.clrBit_pending _ _ _ _) ?_
    | with_reducible refine Eq.trans (State.latchFault_pending _ _ _ _) ?_
    | with_reducible refine Eq.trans (State.setBit_pending _ _ _ _) ?_
    | with_reducible refine ite_pending' _ _ ?_ ?_

@[simp] theorem State.rungTaken_pending (s : State) (d rung trig cls u : Nat) (absorbed : Bool) : (State.rungTaken s d rung trig cls u absorbed).pending = s.pending := by
  unfold State.rungTaken
  repeat' first
    | with_reducible rfl
    | with_reducible refine Eq.trans (State.put_pending _ _ _ _) ?_
    | with_reducible refine Eq.trans (State.putFlag_pending _ _ _ _) ?_
    | with_reducible refine Eq.trans (State.rcvRec_pending _ _ _ _ _ _ _ _ _) ?_
    | with_reducible refine ite_pending' _ _ ?_ ?_

@[simp] theorem State.rung2Done_pending (s : State) (d : Nat) : (State.rung2Done s d).pending = s.pending := by rfl

@[simp] theorem State.unitResetDone_pending (s : State) (d u : Nat) : (State.unitResetDone s d u).pending = s.pending := by
  unfold State.unitResetDone
  repeat' first
    | with_reducible rfl
    | with_reducible refine Eq.trans (State.put_pending _ _ _ _) ?_
    | with_reducible refine Eq.trans (State.putFlag_pending _ _ _ _) ?_
    | with_reducible refine Eq.trans (State.rung2Done_pending _ _) ?_
    | with_reducible refine ite_pending' _ _ ?_ ?_

end Sys2Proof.Machine
end

