-- ==== Sys2Proof/Laws/KeepPendingLceOps.lean ====
section
/-! SUPPORT. The functions of Machine/LceOps leave the queue alone. -/

namespace Sys2Proof.Machine

@[simp] theorem State.setLce_pending (s : State) (d e : Nat) (x : LaceEng) : (State.setLce s d e x).pending = s.pending := by rfl

@[simp] theorem State.setLceState_pending (s : State) (d e st : Nat) : (State.setLceState s d e st).pending = s.pending := by
  unfold State.setLceState
  repeat' first
    | with_reducible rfl
    | with_reducible refine Eq.trans (State.clrBit_pending _ _ _ _) ?_
    | with_reducible refine Eq.trans (State.put_pending _ _ _ _) ?_
    | with_reducible refine Eq.trans (State.putFlag_pending _ _ _ _) ?_
    | with_reducible refine Eq.trans (State.setBit_pending _ _ _ _) ?_
    | with_reducible refine ite_pending' _ _ ?_ ?_

@[simp] theorem State.lceEvent_pending (s : State) (d e : Nat) : (State.lceEvent s d e).pending = s.pending := by
  unfold State.lceEvent
  repeat' first
    | with_reducible rfl
    | with_reducible refine Eq.trans (State.raise_pending _ _ _ _) ?_
    | with_reducible refine ite_pending' _ _ ?_ ?_
    | split

@[simp] theorem State.setFifos_pending (s : State) (d e : Nat) (i o : List Nat) : (State.setFifos s d e i o).pending = s.pending := by rfl

@[simp] theorem State.lcePush_pending (s : State) (d e w : Nat) : (State.lcePush s d e w).pending = s.pending := by
  unfold State.lcePush
  repeat' first
    | with_reducible rfl
    | with_reducible refine Eq.trans (State.putFlag_pending _ _ _ _) ?_
    | with_reducible refine Eq.trans (State.setBit_pending _ _ _ _) ?_
    | with_reducible refine Eq.trans (State.setFifos_pending _ _ _ _ _) ?_
    | with_reducible refine ite_pending' _ _ ?_ ?_

@[simp] theorem State.lcePop_pending (s : State) (d e : Nat) : (State.lcePop s d e).2.pending = s.pending := by
  unfold State.lcePop
  repeat' first
    | with_reducible rfl
    | with_reducible refine ite_snd_pending _ _ ?_ ?_
    | with_reducible refine Eq.trans (State.putFlag_pending _ _ _ _) ?_
    | with_reducible refine Eq.trans (State.setFifos_pending _ _ _ _ _) ?_
    | split

@[simp] theorem State.drivePin_pending (s : State) (d p : Nat) (v : Bool) : (State.drivePin s d p v).pending = s.pending := by
  unfold State.drivePin
  repeat' first
    | with_reducible rfl
    | with_reducible refine Eq.trans (State.clrBit_pending _ _ _ _) ?_
    | with_reducible refine Eq.trans (State.putFlag_pending _ _ _ _) ?_
    | with_reducible refine Eq.trans (State.setBit_pending _ _ _ _) ?_
    | with_reducible refine ite_pending' _ _ ?_ ?_

@[simp] theorem State.safePin_pending (s : State) (d p : Nat) : (State.safePin s d p).pending = s.pending := by
  unfold State.safePin
  repeat' first
    | with_reducible rfl
    | with_reducible refine Eq.trans (State.clrBit_pending _ _ _ _) ?_
    | with_reducible refine Eq.trans (State.putFlag_pending _ _ _ _) ?_
    | with_reducible refine Eq.trans (State.setBit_pending _ _ _ _) ?_
    | with_reducible refine ite_pending' _ _ ?_ ?_
    | dsimp only
    | split

@[simp] theorem State.lceOutputs_pending (s : State) (d e x : Nat) : (State.lceOutputs s d e x).pending = s.pending := by
  unfold State.lceOutputs
  repeat' first
    | with_reducible rfl
    | intro _
    | with_reducible refine Eq.trans (State.drivePin_pending _ _ _ _) ?_
    | with_reducible refine ite_pending' _ _ ?_ ?_
    | with_reducible refine Eq.trans (foldl_pending _ _ _ ?_) ?_
    | split

@[simp] theorem State.lceStall_pending (s : State) (d e idx : Nat) (a draw : Bool) : (State.lceStall s d e idx a draw).pending = s.pending := by
  unfold State.lceStall
  repeat' first
    | with_reducible rfl
    | with_reducible refine Eq.trans (State.count_pending _ _ _ _) ?_
    | with_reducible refine Eq.trans (State.put_pending _ _ _ _) ?_
    | with_reducible refine Eq.trans (State.putFlag_pending _ _ _ _) ?_
    | with_reducible refine Eq.trans (State.setBit_pending _ _ _ _) ?_
    | with_reducible refine Eq.trans (State.setLce_pending _ _ _ _) ?_
    | with_reducible refine Eq.trans (State.setLceState_pending _ _ _ _) ?_
    | with_reducible refine ite_pending' _ _ ?_ ?_

@[simp] theorem State.lceShift_pending (s : State) (d e x : Nat) (a : Bool) : (State.lceShift s d e x a).pending = s.pending := by
  unfold State.lceShift
  repeat' first
    | with_reducible rfl
    | with_reducible refine Eq.trans (State.lceEvent_pending _ _ _) ?_
    | with_reducible refine Eq.trans (State.put_pending _ _ _ _) ?_
    | with_reducible refine Eq.trans (State.setFifos_pending _ _ _ _ _) ?_
    | with_reducible refine ite_pending' _ _ ?_ ?_

@[simp] theorem State.lceApply_pending (s : State) (d e idx : Nat) (a : Bool) : (State.lceApply s d e idx a).pending = s.pending := by
  unfold State.lceApply
  repeat' first
    | with_reducible rfl
    | with_reducible refine Eq.trans (State.lceOutputs_pending _ _ _ _) ?_
    | with_reducible refine Eq.trans (State.lceShift_pending _ _ _ _ _) ?_
    | with_reducible refine Eq.trans (State.lceStall_pending _ _ _ _ _ _) ?_
    | with_reducible refine Eq.trans (State.put_pending _ _ _ _) ?_
    | with_reducible refine Eq.trans (State.setLce_pending _ _ _ _) ?_
    | with_reducible refine Eq.trans (State.setLceState_pending _ _ _ _) ?_
    | with_reducible refine ite_pending' _ _ ?_ ?_

@[simp] theorem State.lceFlag_pending (s : State) (d e idx : Nat) : (State.lceFlag s d e idx).pending = s.pending := by
  unfold State.lceFlag
  repeat' first
    | with_reducible rfl
    | with_reducible refine Eq.trans (State.clrBit_pending _ _ _ _) ?_
    | with_reducible refine Eq.trans (State.setBit_pending _ _ _ _) ?_
    | with_reducible refine ite_pending' _ _ ?_ ?_

@[simp] theorem State.lceTicks_pending (s : State) (d : Nat) (es : List Nat) (pins caps : Nat) : (State.lceTicks s d es pins caps).pending = s.pending := by
  unfold State.lceTicks
  repeat' first
    | with_reducible rfl
    | intro _
    | with_reducible refine Eq.trans (State.lceApply_pending _ _ _ _ _) ?_
    | with_reducible refine Eq.trans (State.lceFlag_pending _ _ _ _) ?_
    | with_reducible refine Eq.trans (State.put_pending _ _ _ _) ?_
    | with_reducible refine Eq.trans (State.setLce_pending _ _ _ _) ?_
    | with_reducible refine Eq.trans (foldl_pending _ _ _ ?_) ?_

@[simp] theorem State.lcePhase_pending (s : State) (d e : Nat) : (State.lcePhase s d e).pending = s.pending := by rfl

@[simp] theorem State.lceStart_pending (s : State) (d e : Nat) : (State.lceStart s d e).pending = s.pending := by rfl

@[simp] theorem State.lceInit_pending (s : State) (d e : Nat) : (State.lceInit s d e).pending = s.pending := by rfl

@[simp] theorem State.cueOne_pending (s : State) (d act e : Nat) : (State.cueOne s d act e).pending = s.pending := by
  unfold State.cueOne
  repeat' first
    | with_reducible rfl
    | with_reducible refine Eq.trans (State.lceInit_pending _ _ _) ?_
    | with_reducible refine Eq.trans (State.lcePhase_pending _ _ _) ?_
    | with_reducible refine Eq.trans (State.lceStart_pending _ _ _) ?_
    | with_reducible refine Eq.trans (State.setLceState_pending _ _ _ _) ?_
    | with_reducible refine ite_pending' _ _ ?_ ?_
    | split

@[simp] theorem State.cueAct_pending (s : State) (d act mask : Nat) : (State.cueAct s d act mask).pending = s.pending := by
  unfold State.cueAct
  repeat' first
    | with_reducible rfl
    | intro _
    | with_reducible refine Eq.trans (State.cueOne_pending _ _ _ _) ?_
    | with_reducible refine ite_pending' _ _ ?_ ?_
    | with_reducible refine Eq.trans (foldl_pending _ _ _ ?_) ?_

@[simp] theorem State.cue_pending (s : State) (d act mask delay : Nat) : (State.cue s d act mask delay).pending = s.pending := by
  unfold State.cue
  repeat' first
    | with_reducible rfl
    | with_reducible refine Eq.trans (State.cueAct_pending _ _ _ _) ?_
    | with_reducible refine Eq.trans (State.putFlag_pending _ _ _ _) ?_
    | with_reducible refine ite_pending' _ _ ?_ ?_

@[simp] theorem State.loopDef_pending (s : State) (d e j first last : Nat) : (State.loopDef s d e j first last).pending = s.pending := by
  unfold State.loopDef
  repeat' first
    | with_reducible rfl
    | with_reducible refine Eq.trans (State.put_pending _ _ _ _) ?_
    | with_reducible refine ite_pending' _ _ ?_ ?_

@[simp] theorem State.divWrite_pending (s : State) (d e v : Nat) : (State.divWrite s d e v).pending = s.pending := by
  unfold State.divWrite
  repeat' first
    | with_reducible rfl
    | with_reducible refine Eq.trans (State.put_pending _ _ _ _) ?_
    | with_reducible refine Eq.trans (State.setLce_pending _ _ _ _) ?_
    | with_reducible refine ite_pending' _ _ ?_ ?_

@[simp] theorem State.putAll_pending (s : State) (d : Nat) (f : Nat → Field) (i : Nat) (x0 : List Nat) : (State.putAll s d f i x0).pending = s.pending := by
  induction x0 generalizing s d f i with
  | nil =>
    unfold State.putAll
    repeat' first
      | with_reducible rfl
  | cons _ _ ih =>
    unfold State.putAll
    repeat' first
      | with_reducible rfl
      | with_reducible refine Eq.trans (ih _ _ _ _) ?_
      | with_reducible refine Eq.trans (State.put_pending _ _ _ _) ?_

@[simp] theorem State.putSels_pending (s : State) (d e i : Nat) (x0 : List Nat) : (State.putSels s d e i x0).pending = s.pending := by
  induction x0 generalizing s d e i with
  | nil =>
    unfold State.putSels
    repeat' first
      | with_reducible rfl
  | cons _ _ ih =>
    unfold State.putSels
    repeat' first
      | with_reducible rfl
      | with_reducible refine Eq.trans (ih _ _ _ _) ?_
      | with_reducible refine Eq.trans (State.put_pending _ _ _ _) ?_

@[simp] theorem State.putLoops_pending (s : State) (d e j : Nat) (x0 : List (Nat × Nat)) : (State.putLoops s d e j x0).pending = s.pending := by
  induction x0 generalizing s d e j with
  | nil =>
    unfold State.putLoops
    repeat' first
      | with_reducible rfl
  | cons _ _ ih =>
    unfold State.putLoops
    repeat' first
      | with_reducible rfl
      | with_reducible refine Eq.trans (ih _ _ _ _) ?_
      | with_reducible refine Eq.trans (State.put_pending _ _ _ _) ?_

@[simp] theorem State.lceTunables_pending (s : State) (p : LaceProg) : (State.lceTunables s p).pending = s.pending := by
  unfold State.lceTunables
  repeat' first
    | with_reducible rfl
    | with_reducible refine Eq.trans (State.put_pending _ _ _ _) ?_
    | with_reducible refine Eq.trans (State.putLoops_pending _ _ _ _ _) ?_

@[simp] theorem State.lceLoad_pending (s : State) (c : HarnessCfg) (d e : Nat) : (State.lceLoad s c d e).pending = s.pending := by
  unfold State.lceLoad
  repeat' first
    | with_reducible rfl
    | with_reducible refine Eq.trans (State.lceInit_pending _ _ _) ?_
    | with_reducible refine Eq.trans (State.lceTunables_pending _ _) ?_
    | with_reducible refine Eq.trans (State.put_pending _ _ _ _) ?_
    | with_reducible refine Eq.trans (State.putAll_pending _ _ _ _ _) ?_
    | with_reducible refine Eq.trans (State.putFlag_pending _ _ _ _) ?_
    | with_reducible refine Eq.trans (State.putSels_pending _ _ _ _ _) ?_
    | with_reducible refine Eq.trans (State.setLce_pending _ _ _ _) ?_
    | with_reducible refine Eq.trans (State.setLceState_pending _ _ _ _) ?_
    | dsimp only
    | split

@[simp] theorem State.autostart_pending (s : State) (d : Nat) : (State.autostart s d).pending = s.pending := by
  unfold State.autostart
  repeat' first
    | with_reducible rfl
    | intro _
    | with_reducible refine Eq.trans (State.lceStart_pending _ _ _) ?_
    | with_reducible refine Eq.trans (State.setLce_pending _ _ _ _) ?_
    | with_reducible refine Eq.trans (State.setLceState_pending _ _ _ _) ?_
    | with_reducible refine ite_pending' _ _ ?_ ?_
    | with_reducible refine Eq.trans (foldl_pending _ _ _ ?_) ?_

@[simp] theorem State.lcePinOne_pending (s : State) (c : HarnessCfg) (d p : Nat) : (State.lcePinOne s c d p).pending = s.pending := by
  unfold State.lcePinOne
  repeat' first
    | with_reducible rfl
    | intro _
    | with_reducible refine Eq.trans (State.put_pending _ _ _ _) ?_
    | with_reducible refine Eq.trans (State.putFlag_pending _ _ _ _) ?_
    | with_reducible refine Eq.trans (State.safePin_pending _ _ _) ?_
    | with_reducible refine ite_pending' _ _ ?_ ?_
    | with_reducible refine Eq.trans (foldl_pending _ _ _ ?_) ?_

@[simp] theorem State.lcePinSome_pending (s : State) (c : HarnessCfg) (d : Nat) (p : Nat → Bool) : (State.lcePinSome s c d p).pending = s.pending := by
  unfold State.lcePinSome
  repeat' first
    | with_reducible rfl
    | intro _
    | with_reducible refine Eq.trans (State.lcePinOne_pending _ _ _ _) ?_
    | with_reducible refine ite_pending' _ _ ?_ ?_
    | with_reducible refine Eq.trans (foldl_pending _ _ _ ?_) ?_

@[simp] theorem State.lcePinCfg_pending (s : State) (c : HarnessCfg) (d : Nat) : (State.lcePinCfg s c d).pending = s.pending := by
  unfold State.lcePinCfg
  repeat' first
    | with_reducible rfl
    | with_reducible refine Eq.trans (State.lcePinSome_pending _ _ _ _) ?_

@[simp] theorem State.lceSafe_pending (s : State) (d : Nat) : (State.lceSafe s d).pending = s.pending := by
  unfold State.lceSafe
  repeat' first
    | with_reducible rfl
    | intro _
    | with_reducible refine Eq.trans (State.safePin_pending _ _ _) ?_
    | with_reducible refine Eq.trans (State.setFifos_pending _ _ _ _ _) ?_
    | with_reducible refine Eq.trans (State.setLceState_pending _ _ _ _) ?_
    | with_reducible refine ite_pending' _ _ ?_ ?_
    | with_reducible refine Eq.trans (foldl_pending _ _ _ ?_) ?_

@[simp] theorem State.lceUnsafe_pending (s : State) (d : Nat) : (State.lceUnsafe s d).pending = s.pending := by
  unfold State.lceUnsafe
  repeat' first
    | with_reducible rfl
    | intro _
    | with_reducible refine Eq.trans (State.put_pending _ _ _ _) ?_
    | with_reducible refine Eq.trans (State.setLceState_pending _ _ _ _) ?_
    | with_reducible refine ite_pending' _ _ ?_ ?_
    | with_reducible refine Eq.trans (foldl_pending _ _ _ ?_) ?_

end Sys2Proof.Machine
end

