-- ==== Sys2Proof/Laws/KeepPendingSwcOps.lean ====
section
/-! SUPPORT. The functions of Machine/SwcOps leave the queue alone. -/

namespace Sys2Proof.Machine

@[simp] theorem State.setOwnerCount_pending (s : State) (d u n : Nat) : (State.setOwnerCount s d u n).pending = s.pending := by rfl

@[simp] theorem State.ownCell_pending (s : State) (d u c : Nat) : (State.ownCell s d u c).pending = s.pending := by
  unfold State.ownCell
  repeat' first
    | with_reducible rfl
    | with_reducible refine Eq.trans (State.setOwnerCount_pending _ _ _ _) ?_
    | with_reducible refine ite_pending' _ _ ?_ ?_

@[simp] theorem State.freeCell_pending (s : State) (d c : Nat) : (State.freeCell s d c).pending = s.pending := by
  unfold State.freeCell
  repeat' first
    | with_reducible rfl
    | with_reducible refine Eq.trans (State.setOwnerCount_pending _ _ _ _) ?_
    | with_reducible refine ite_pending' _ _ ?_ ?_

@[simp] theorem State.syncPool_pending (s : State) (d : Nat) : (State.syncPool s d).pending = s.pending := by rfl

@[simp] theorem State.chargeTenant_pending (s : State) (d t n : Nat) : (State.chargeTenant s d t n).pending = s.pending := by rfl

@[simp] theorem State.unchargeTenant_pending (s : State) (d t n : Nat) : (State.unchargeTenant s d t n).pending = s.pending := by rfl

@[simp] theorem State.setFrame_pending (s : State) (f : Nat) (x : Frame) : (State.setFrame s f x).pending = s.pending := by rfl

@[simp] theorem State.setCharged_pending (s : State) (f t : Nat) : (State.setCharged s f t).pending = s.pending := by
  unfold State.setCharged
  repeat' first
    | with_reducible rfl
    | intro _
    | with_reducible refine Eq.trans (State.setFrame_pending _ _ _) ?_
    | with_reducible refine Eq.trans (foldl_pending _ _ _ ?_) ?_

@[simp] theorem State.syncDesc_pending (s : State) (d : Nat) : (State.syncDesc s d).pending = s.pending := by rfl

@[simp] theorem State.frameRead_pending (s : State) (d : Nat) (x : Frame) (i n source : Nat) (x0 : Nat) : (State.frameRead s d x i n source x0).2.2.pending = s.pending := by
  induction x0 generalizing s d x i n source with
  | zero =>
    unfold State.frameRead
    repeat' first
      | with_reducible rfl
  | succ _ ih =>
    unfold State.frameRead
    repeat' first
      | with_reducible rfl
      | with_reducible refine Eq.trans (ih _ _ _ _ _ _) ?_
      | with_reducible refine Eq.trans (State.vatRead_pending _ _ _ _ _) ?_
      | dsimp only
      | split

@[simp] theorem State.frameWrite_pending (s : State) (d : Nat) (x : Frame) (i source : Nat) (bs : List Byte) (x0 : Nat) : (State.frameWrite s d x i source bs x0).2.pending = s.pending := by
  induction x0 generalizing s d x i source bs with
  | zero =>
    unfold State.frameWrite
    repeat' first
      | with_reducible rfl
  | succ _ ih =>
    unfold State.frameWrite
    repeat' first
      | with_reducible rfl
      | with_reducible refine Eq.trans (ih _ _ _ _ _ _) ?_
      | with_reducible refine Eq.trans (State.vatWrite_pending _ _ _ _ _ _) ?_
      | dsimp only
      | split

@[simp] theorem State.cellsAllowed_pending (s : State) (d : Nat) (x : Frame) (write : Bool) : (State.cellsAllowed s d x write).2.pending = s.pending := by
  unfold State.cellsAllowed
  repeat' first
    | with_reducible rfl
    | with_reducible refine Eq.trans (State.vatViolation_pending _ _ _ _ _ _ _) ?_
    | split

@[simp] theorem State.txDone_pending (s : State) (x : Frame) : (State.txDone s x).pending = s.pending := by
  unfold State.txDone
  repeat' first
    | with_reducible rfl
    | with_reducible refine Eq.trans (State.raise_pending _ _ _ _) ?_
    | split

@[simp] theorem State.unchargeOuts_pending (s : State) (x : Frame) : (State.unchargeOuts s x).pending = s.pending := by
  unfold State.unchargeOuts
  repeat' first
    | with_reducible rfl
    | intro _
    | with_reducible refine Eq.trans (State.put_pending _ _ _ _) ?_
    | with_reducible refine Eq.trans (foldl_pending _ _ _ ?_) ?_

@[simp] theorem State.modPort_pending (s : State) (d p : Nat) (g : EthPort → EthPort) : (State.modPort s d p g).pending = s.pending := by rfl

@[simp] theorem State.forgetCut_pending (s : State) (f : Nat) : (State.forgetCut s f).pending = s.pending := by
  unfold State.forgetCut
  repeat' first
    | with_reducible rfl
    | intro _
    | with_reducible refine Eq.trans (State.eachDie_pending _ _ ?_) ?_
    | with_reducible refine Eq.trans (State.modPort_pending _ _ _ _) ?_
    | with_reducible refine ite_pending' _ _ ?_ ?_
    | with_reducible refine Eq.trans (foldl_pending _ _ _ ?_) ?_

@[simp] theorem State.freeFrame_pending (s : State) (f : Nat) : (State.freeFrame s f).pending = s.pending := by
  unfold State.freeFrame
  repeat' first
    | with_reducible rfl
    | intro _
    | with_reducible refine Eq.trans (State.forgetCut_pending _ _) ?_
    | with_reducible refine Eq.trans (State.freeCell_pending _ _ _) ?_
    | with_reducible refine Eq.trans (State.put_pending _ _ _ _) ?_
    | with_reducible refine Eq.trans (State.setFrame_pending _ _ _) ?_
    | with_reducible refine Eq.trans (State.syncDesc_pending _ _) ?_
    | with_reducible refine Eq.trans (State.unchargeOuts_pending _ _) ?_
    | with_reducible refine Eq.trans (State.unchargeTenant_pending _ _ _ _) ?_
    | with_reducible refine ite_pending' _ _ ?_ ?_
    | with_reducible refine Eq.trans (foldl_pending _ _ _ ?_) ?_
    | split

@[simp] theorem State.doneWith_pending (s : State) (f : Nat) : (State.doneWith s f).pending = s.pending := by
  unfold State.doneWith
  repeat' first
    | with_reducible rfl
    | with_reducible refine Eq.trans (State.freeFrame_pending _ _) ?_
    | with_reducible refine Eq.trans (State.setFrame_pending _ _ _) ?_
    | with_reducible refine ite_pending' _ _ ?_ ?_

@[simp] theorem State.leaveOutput_pending (s : State) (f d o : Nat) : (State.leaveOutput s f d o).pending = s.pending := by
  unfold State.leaveOutput
  repeat' first
    | with_reducible rfl
    | intro _
    | with_reducible refine Eq.trans (State.put_pending _ _ _ _) ?_
    | with_reducible refine Eq.trans (State.setFrame_pending _ _ _) ?_
    | with_reducible refine Eq.trans (foldl_pending _ _ _ ?_) ?_

@[simp] theorem State.countDrop_pending (s : State) (d reason tid : Nat) : (State.countDrop s d reason tid).pending = s.pending := by rfl

@[simp] theorem State.dropFrame_pending (s : State) (d f reason : Nat) : (State.dropFrame s d f reason).pending = s.pending := by
  unfold State.dropFrame
  repeat' first
    | with_reducible rfl
    | with_reducible refine Eq.trans (State.countDrop_pending _ _ _ _) ?_
    | with_reducible refine Eq.trans (State.doneWith_pending _ _) ?_
    | with_reducible refine Eq.trans (State.txDone_pending _ _) ?_

@[simp] theorem State.ownFrame_pending (s : State) (f u : Nat) : (State.ownFrame s f u).pending = s.pending := by
  unfold State.ownFrame
  repeat' first
    | with_reducible rfl
    | intro _
    | with_reducible refine Eq.trans (State.ownCell_pending _ _ _ _) ?_
    | with_reducible refine Eq.trans (foldl_pending _ _ _ ?_) ?_

@[simp] theorem State.setVoq_pending (s : State) (d : Nat) (q : List VEntry) : (State.setVoq s d q).pending = s.pending := by rfl

@[simp] theorem State.setOutQueue_pending (s : State) (d o : Nat) (q : List Nat) : (State.setOutQueue s d o q).pending = s.pending := by rfl

@[simp] theorem State.enterVoq_pending (s : State) (f d o own n : Nat) (hi : Bool) : (State.enterVoq s f d o own n hi).pending = s.pending := by
  unfold State.enterVoq
  repeat' first
    | with_reducible rfl
    | with_reducible refine Eq.trans (State.ownFrame_pending _ _ _) ?_
    | with_reducible refine Eq.trans (State.put_pending _ _ _ _) ?_
    | with_reducible refine Eq.trans (State.setFrame_pending _ _ _) ?_
    | with_reducible refine Eq.trans (State.setVoq_pending _ _ _) ?_
    | with_reducible refine ite_pending' _ _ ?_ ?_

@[simp] theorem State.toOutput_pending (s : State) (f d o own n : Nat) (hi : Bool) : (State.toOutput s f d o own n hi).pending = s.pending := by
  unfold State.toOutput
  repeat' first
    | with_reducible rfl
    | with_reducible refine Eq.trans (State.dropFrame_pending _ _ _ _) ?_
    | with_reducible refine Eq.trans (State.enterVoq_pending _ _ _ _ _ _ _) ?_
    | split

@[simp] theorem State.takeIn_pending (s : State) (f t d o own n : Nat) (hi : Bool) : (State.takeIn s f t d o own n hi).pending = s.pending := by
  unfold State.takeIn
  repeat' first
    | with_reducible rfl
    | with_reducible refine Eq.trans (State.chargeTenant_pending _ _ _ _) ?_
    | with_reducible refine Eq.trans (State.dropFrame_pending _ _ _ _) ?_
    | with_reducible refine Eq.trans (State.put_pending _ _ _ _) ?_
    | with_reducible refine Eq.trans (State.setCharged_pending _ _ _) ?_
    | with_reducible refine Eq.trans (State.toOutput_pending _ _ _ _ _ _ _) ?_
    | dsimp only
    | split

@[simp] theorem State.setSlot_pending (s : State) (d c i : Nat) (h : HeadSlot) : (State.setSlot s d c i h).pending = s.pending := by rfl

@[simp] theorem State.setQueued_pending (s : State) (d c q : Nat) (l : List Nat) : (State.setQueued s d c q l).pending = s.pending := by rfl

@[simp] theorem State.fillSlot_pending (s : State) (f d c q : Nat) : (State.fillSlot s f d c q).pending = s.pending := by
  unfold State.fillSlot
  repeat' first
    | with_reducible rfl
    | with_reducible refine Eq.trans (State.cellsAllowed_pending _ _ _ _) ?_
    | with_reducible refine Eq.trans (State.dropFrame_pending _ _ _ _) ?_
    | with_reducible refine Eq.trans (State.frameRead_pending _ _ _ _ _ _ _) ?_
    | with_reducible refine Eq.trans (State.leaveOutput_pending _ _ _ _) ?_
    | with_reducible refine Eq.trans (State.setFrame_pending _ _ _) ?_
    | with_reducible refine Eq.trans (State.setQueued_pending _ _ _ _ _) ?_
    | with_reducible refine Eq.trans (State.setSlot_pending _ _ _ _ _) ?_
    | with_reducible refine ite_pending' _ _ ?_ ?_
    | dsimp only
    | split

@[simp] theorem State.freeSlot_pending (s : State) (d c i : Nat) : (State.freeSlot s d c i).pending = s.pending := by
  unfold State.freeSlot
  repeat' first
    | with_reducible rfl
    | with_reducible refine Eq.trans (State.doneWith_pending _ _) ?_
    | with_reducible refine Eq.trans (State.leaveOutput_pending _ _ _ _) ?_
    | with_reducible refine Eq.trans (State.setQueued_pending _ _ _ _ _) ?_
    | with_reducible refine Eq.trans (State.setSlot_pending _ _ _ _ _) ?_

@[simp] theorem State.releaseFenced_pending (s : State) (d f : Nat) : (State.releaseFenced s d f).pending = s.pending := by
  unfold State.releaseFenced
  repeat' first
    | with_reducible rfl
    | with_reducible refine Eq.trans (State.dropFrame_pending _ _ _ _) ?_
    | with_reducible refine ite_pending' _ _ ?_ ?_

@[simp] theorem State.clearOutput_pending (s : State) (d o : Nat) : (State.clearOutput s d o).pending = s.pending := by
  unfold State.clearOutput
  repeat' first
    | with_reducible rfl
    | intro _
    | with_reducible refine Eq.trans (State.leaveOutput_pending _ _ _ _) ?_
    | with_reducible refine Eq.trans (State.releaseFenced_pending _ _ _) ?_
    | with_reducible refine Eq.trans (State.setOutQueue_pending _ _ _ _) ?_
    | with_reducible refine Eq.trans (State.setVoq_pending _ _ _) ?_
    | with_reducible refine Eq.trans (foldl_pending _ _ _ ?_) ?_

end Sys2Proof.Machine
end

