-- ==== Sys2Proof/Laws/KeepPendingRegAcc.lean ====
section
/-! SUPPORT. The functions of Machine/RegAcc leave the queue alone. -/

namespace Sys2Proof.Machine

@[simp] theorem State.syncView_pending (s : State) (d off : Nat) : (State.syncView s d off).pending = s.pending := by
  unfold State.syncView
  repeat' first
    | with_reducible rfl
    | intro _
    | with_reducible refine Eq.trans (State.put_pending _ _ _ _) ?_
    | with_reducible refine ite_pending' _ _ ?_ ?_
    | with_reducible refine Eq.trans (foldl_pending _ _ _ ?_) ?_

@[simp] theorem State.clearView_pending (s : State) (d off : Nat) : (State.clearView s d off).pending = s.pending := by
  unfold State.clearView
  repeat' first
    | with_reducible rfl
    | with_reducible refine ite_pending' _ _ ?_ ?_

@[simp] theorem State.clearRc_pending (s : State) (d : Nat) (h : RegHit) (half : Word64) : (State.clearRc s d h half).pending = s.pending := by
  unfold State.clearRc
  repeat' first
    | with_reducible rfl
    | with_reducible refine Eq.trans (State.clearView_pending _ _ _) ?_
    | with_reducible refine Eq.trans (State.wr_pending _ _ _ _) ?_

@[simp] theorem State.setLatch_pending (s : State) (k : Nat) (v : Option Nat) : (State.setLatch s k v).pending = s.pending := by rfl

@[simp] theorem State.rawRead_pending (s : State) (d off : Nat) (clears : Bool) : (State.rawRead s d off clears).2.pending = s.pending := by
  unfold State.rawRead
  repeat' first
    | with_reducible rfl
    | with_reducible refine ite_snd_pending _ _ ?_ ?_
    | with_reducible refine Eq.trans (State.clearRc_pending _ _ _ _) ?_
    | with_reducible refine Eq.trans (State.setLatch_pending _ _ _) ?_
    | with_reducible refine Eq.trans (State.syncView_pending _ _ _) ?_
    | with_reducible refine ite_pending' _ _ ?_ ?_
    | dsimp only
    | split

@[simp] theorem State.rawRead64_pending (s : State) (d off : Nat) (clears : Bool) : (State.rawRead64 s d off clears).2.pending = s.pending := by
  unfold State.rawRead64
  repeat' first
    | with_reducible rfl
    | with_reducible refine Eq.trans (State.clearRc_pending _ _ _ _) ?_
    | with_reducible refine Eq.trans (State.syncView_pending _ _ _) ?_
    | with_reducible refine ite_pending' _ _ ?_ ?_
    | dsimp only
    | split

@[simp] theorem State.rawWrite_pending (s : State) (d off v : Nat) : (State.rawWrite s d off v).pending = s.pending := by
  unfold State.rawWrite
  repeat' first
    | with_reducible rfl
    | with_reducible refine Eq.trans (State.wr_pending _ _ _ _) ?_
    | dsimp only
    | split

end Sys2Proof.Machine
end

