-- ==== Sys2Proof/Laws/KeepPendingEthOps.lean ====
section
/-! SUPPORT. The functions of Machine/EthOps leave the queue alone. -/

namespace Sys2Proof.Machine

@[simp] theorem State.modPair_pending (s : State) (d k : Nat) (g : EthPair → EthPair) : (State.modPair s d k g).pending = s.pending := by rfl

@[simp] theorem State.portRec_pending (s : State) (d p kind detail field avail stamp sa level : Nat) : (State.portRec s d p kind detail field avail stamp sa level).pending = s.pending := by
  unfold State.portRec
  repeat' first
    | with_reducible rfl
    | with_reducible refine Eq.trans (State.modPort_pending _ _ _ _) ?_
    | with_reducible refine Eq.trans (State.partRec_pending _ _ _ _ _ _) ?_
    | with_reducible refine ite_pending' _ _ ?_ ?_

@[simp] theorem State.syncGate_pending (s : State) (d p : Nat) : (State.syncGate s d p).pending = s.pending := by
  unfold State.syncGate
  repeat' first
    | with_reducible rfl
    | with_reducible refine Eq.trans (State.put_pending _ _ _ _) ?_
    | split

@[simp] theorem State.syncCredits_pending (s : State) (d p : Nat) : (State.syncCredits s d p).pending = s.pending := by rfl

@[simp] theorem State.emptyCredit_pending (s : State) (d p q : Nat) : (State.emptyCredit s d p q).pending = s.pending := by
  unfold State.emptyCredit
  repeat' first
    | with_reducible rfl
    | with_reducible refine Eq.trans (State.modPort_pending _ _ _ _) ?_
    | with_reducible refine ite_pending' _ _ ?_ ?_

@[simp] theorem State.setShaper_pending (s : State) (d k : Nat) (x : Shaper) : (State.setShaper s d k x).pending = s.pending := by rfl

@[simp] theorem State.syncShaper_pending (s : State) (d k : Nat) : (State.syncShaper s d k).pending = s.pending := by rfl

@[simp] theorem State.tshDebit_pending (s : State) (d p t len : Nat) : (State.tshDebit s d p t len).pending = s.pending := by
  unfold State.tshDebit
  repeat' first
    | with_reducible rfl
    | with_reducible refine Eq.trans (State.setShaper_pending _ _ _ _) ?_
    | dsimp only
    | split

@[simp] theorem State.tshWrite_pending (s : State) (d k rate : Nat) : (State.tshWrite s d k rate).pending = s.pending := by rfl

@[simp] theorem State.copyGone_pending (s : State) (d p f : Nat) : (State.copyGone s d p f).pending = s.pending := by
  unfold State.copyGone
  repeat' first
    | with_reducible rfl
    | with_reducible refine Eq.trans (State.doneWith_pending _ _) ?_
    | with_reducible refine Eq.trans (State.leaveOutput_pending _ _ _ _) ?_
    | with_reducible refine Eq.trans (State.txDone_pending _ _) ?_
    | with_reducible refine ite_pending' _ _ ?_ ?_

@[simp] theorem State.egressDrop_pending (s : State) (d p f : Nat) (c : Field) : (State.egressDrop s d p f c).pending = s.pending := by
  unfold State.egressDrop
  repeat' first
    | with_reducible rfl
    | with_reducible refine Eq.trans (State.copyGone_pending _ _ _ _) ?_
    | with_reducible refine Eq.trans (State.count_pending _ _ _ _) ?_
    | with_reducible refine Eq.trans (State.emptyCredit_pending _ _ _ _) ?_
    | with_reducible refine Eq.trans (State.modPort_pending _ _ _ _) ?_
    | with_reducible refine Eq.trans (State.setOutQueue_pending _ _ _ _) ?_
    | with_reducible refine Eq.trans (State.syncCredits_pending _ _ _) ?_

@[simp] theorem State.stomp_pending (s : State) (d p f : Nat) : (State.stomp s d p f).pending = s.pending := by rfl

@[simp] theorem State.endReception_pending (s : State) (d p len : Nat) : (State.endReception s d p len).pending = s.pending := by
  unfold State.endReception
  repeat' first
    | with_reducible rfl
    | intro _
    | with_reducible refine Eq.trans (State.modPort_pending _ _ _ _) ?_
    | with_reducible refine Eq.trans (State.stomp_pending _ _ _ _) ?_
    | with_reducible refine Eq.trans (State.tshDebit_pending _ _ _ _ _) ?_
    | with_reducible refine Eq.trans (foldl_pending _ _ _ ?_) ?_
    | dsimp only
    | split

@[simp] theorem State.clearPauses_pending (s : State) (d p : Nat) : (State.clearPauses s d p).pending = s.pending := by rfl

@[simp] theorem State.flushPort_pending (s : State) (d p : Nat) : (State.flushPort s d p).pending = s.pending := by
  unfold State.flushPort
  repeat' first
    | with_reducible rfl
    | intro _
    | with_reducible refine Eq.trans (State.copyGone_pending _ _ _ _) ?_
    | with_reducible refine Eq.trans (State.count_pending _ _ _ _) ?_
    | with_reducible refine Eq.trans (State.egressDrop_pending _ _ _ _ _) ?_
    | with_reducible refine Eq.trans (State.modPort_pending _ _ _ _) ?_
    | with_reducible refine Eq.trans (foldl_pending _ _ _ ?_) ?_
    | dsimp only
    | split

@[simp] theorem State.linkDown_pending (s : State) (d p cause : Nat) : (State.linkDown s d p cause).pending = s.pending := by
  unfold State.linkDown
  repeat' first
    | with_reducible rfl
    | with_reducible refine Eq.trans (State.clrBit_pending _ _ _ _) ?_
    | with_reducible refine Eq.trans (State.endReception_pending _ _ _ _) ?_
    | with_reducible refine Eq.trans (State.flushPort_pending _ _ _) ?_
    | with_reducible refine Eq.trans (State.portRec_pending _ _ _ _ _ _ _ _ _ _) ?_
    | with_reducible refine Eq.trans (State.putFlag_pending _ _ _ _) ?_
    | with_reducible refine Eq.trans (State.syncCredits_pending _ _ _) ?_
    | with_reducible refine ite_pending' _ _ ?_ ?_

@[simp] theorem State.arriveEgress_pending (s : State) (d p f : Nat) : (State.arriveEgress s d p f).pending = s.pending := by
  unfold State.arriveEgress
  repeat' first
    | with_reducible rfl
    | with_reducible refine Eq.trans (State.egressDrop_pending _ _ _ _ _) ?_
    | with_reducible refine Eq.trans (State.modPort_pending _ _ _ _) ?_
    | with_reducible refine Eq.trans (State.setOutQueue_pending _ _ _ _) ?_
    | with_reducible refine Eq.trans (State.syncCredits_pending _ _ _) ?_
    | with_reducible refine ite_pending' _ _ ?_ ?_

@[simp] theorem State.toEthernet_pending (s : State) (d p f : Nat) : (State.toEthernet s d p f).pending = s.pending := by
  unfold State.toEthernet
  repeat' first
    | with_reducible rfl
    | with_reducible refine Eq.trans (State.arriveEgress_pending _ _ _ _) ?_
    | with_reducible refine Eq.trans (State.modPair_pending _ _ _ _) ?_
    | with_reducible refine Eq.trans (State.setFrame_pending _ _ _) ?_
    | with_reducible refine ite_pending' _ _ ?_ ?_
    | dsimp only
    | split

end Sys2Proof.Machine
end

