-- ==== Sys2Proof/Laws/KeepPendingRxOps.lean ====
section
/-! SUPPORT. The functions of Machine/RxOps leave the queue alone. -/

namespace Sys2Proof.Machine

@[simp] theorem State.padWords_pending (s : State) (bs : List Byte) : (State.padWords s bs).2.pending = s.pending := by
  unfold State.padWords
  repeat' first
    | with_reducible rfl
    | with_reducible refine ite_snd_pending _ _ ?_ ?_
    | with_reducible refine Eq.trans (State.freeVal_pending _ _) ?_

@[simp] theorem State.rxStore_pending (s : State) (d owner n : Nat) (y : Frame) (bs : List Byte) (f : Nat) (b : Bool) (x : State) (h : s.rxStore d owner n y bs = some (f, b, x)) : x.pending = s.pending := by
  unfold State.rxStore at h; (try dsimp only at h)
  repeat' split at h
  all_goals try contradiction
  all_goals cases h
  all_goals
    repeat' first
      | with_reducible rfl
      | intro _
      | with_reducible refine Eq.trans (State.cellsAllowed_pending _ _ _ _) ?_
      | with_reducible refine Eq.trans (State.frameWrite_pending _ _ _ _ _ _ _) ?_
      | with_reducible refine Eq.trans (State.ownCell_pending _ _ _ _) ?_
      | with_reducible refine Eq.trans (State.padWords_pending _ _) ?_
      | with_reducible refine Eq.trans (State.put_pending _ _ _ _) ?_
      | with_reducible refine Eq.trans (State.setFrame_pending _ _ _) ?_
      | with_reducible refine Eq.trans (State.syncDesc_pending _ _) ?_
      | with_reducible refine Eq.trans (foldl_pending _ _ _ ?_) ?_

@[simp] theorem State.captureTo_pending (s : State) (d f own : Nat) : (State.captureTo s d f own).pending = s.pending := by
  unfold State.captureTo
  repeat' first
    | with_reducible rfl
    | with_reducible refine Eq.trans (State.count_pending _ _ _ _) ?_
    | with_reducible refine Eq.trans (State.enterVoq_pending _ _ _ _ _ _ _) ?_
    | with_reducible refine Eq.trans (State.setFrame_pending _ _ _) ?_
    | with_reducible refine ite_pending' _ _ ?_ ?_
    | split

@[simp] theorem State.bindRx_pending (s : State) (d own owner : Nat) (cfg : HarnessCfg) (x : Frame) (bs : List Byte) (trunc csum : Bool) (key : Nat → Option Nat) : (State.bindRx s d own owner cfg x bs trunc csum key).pending = s.pending := by
  unfold State.bindRx
  repeat' first
    | with_reducible rfl
    | with_reducible refine Eq.trans (State.captureTo_pending _ _ _ _) ?_
    | with_reducible refine Eq.trans (State.count_pending _ _ _ _) ?_
    | with_reducible refine Eq.trans (State.countDrop_pending _ _ _ _) ?_
    | with_reducible refine Eq.trans (State.dropFrame_pending _ _ _ _) ?_
    | with_reducible refine Eq.trans (State.putFlag_pending _ _ _ _) ?_
    | with_reducible refine Eq.trans (State.rxStore_pending _ _ _ _ _ _ _ _ _ (by with_reducible assumption)) ?_
    | with_reducible refine Eq.trans (State.takeIn_pending _ _ _ _ _ _ _ _) ?_
    | with_reducible refine ite_pending' _ _ ?_ ?_
    | dsimp only
    | split

end Sys2Proof.Machine
end

