-- ==== Sys2Proof/Laws/KeepPendingSerOps.lean ====
section
/-! SUPPORT. The functions of Machine/SerOps leave the queue alone. -/

namespace Sys2Proof.Machine

@[simp] theorem State.modSer_pending (s : State) (d p : Nat) (g : SerPort → SerPort) : (State.modSer s d p g).pending = s.pending := by rfl

@[simp] theorem State.serTo_pending (s : State) (d p st : Nat) : (State.serTo s d p st).pending = s.pending := by
  unfold State.serTo
  repeat' first
    | with_reducible rfl
    | with_reducible refine Eq.trans (State.clrBit_pending _ _ _ _) ?_
    | with_reducible refine Eq.trans (State.put_pending _ _ _ _) ?_
    | with_reducible refine Eq.trans (State.setBit_pending _ _ _ _) ?_
    | with_reducible refine ite_pending' _ _ ?_ ?_

@[simp] theorem State.serRec_pending (s : State) (d p kind detail value : Nat) : (State.serRec s d p kind detail value).pending = s.pending := by
  unfold State.serRec
  repeat' first
    | with_reducible rfl
    | with_reducible refine Eq.trans (State.modSer_pending _ _ _ _) ?_
    | with_reducible refine Eq.trans (State.partRec_pending _ _ _ _ _ _) ?_
    | with_reducible refine ite_pending' _ _ ?_ ?_

@[simp] theorem State.canState_pending (s : State) (d p : Nat) : (State.canState s d p).pending = s.pending := by
  unfold State.canState
  repeat' first
    | with_reducible rfl
    | with_reducible refine Eq.trans (State.put_pending _ _ _ _) ?_
    | with_reducible refine ite_pending' _ _ ?_ ?_

@[simp] theorem State.addTec_pending (s : State) (d p n : Nat) : (State.addTec s d p n).pending = s.pending := by
  unfold State.addTec
  repeat' first
    | with_reducible rfl
    | with_reducible refine Eq.trans (State.canState_pending _ _ _) ?_
    | with_reducible refine Eq.trans (State.count_pending _ _ _ _) ?_

@[simp] theorem State.addRec_pending (s : State) (d p n : Nat) : (State.addRec s d p n).pending = s.pending := by
  unfold State.addRec
  repeat' first
    | with_reducible rfl
    | with_reducible refine Eq.trans (State.canState_pending _ _ _) ?_
    | with_reducible refine Eq.trans (State.count_pending _ _ _ _) ?_

@[simp] theorem State.subTec_pending (s : State) (d p : Nat) : (State.subTec s d p).pending = s.pending := by
  unfold State.subTec
  repeat' first
    | with_reducible rfl
    | with_reducible refine Eq.trans (State.canState_pending _ _ _) ?_
    | with_reducible refine Eq.trans (State.put_pending _ _ _ _) ?_

@[simp] theorem State.subRec_pending (s : State) (d p : Nat) : (State.subRec s d p).pending = s.pending := by
  unfold State.subRec
  repeat' first
    | with_reducible rfl
    | with_reducible refine Eq.trans (State.canState_pending _ _ _) ?_
    | with_reducible refine Eq.trans (State.freeVal_pending _ _) ?_
    | with_reducible refine Eq.trans (State.put_pending _ _ _ _) ?_
    | with_reducible refine ite_pending' _ _ ?_ ?_

@[simp] theorem State.invMax_pending (s : State) (d p us : Nat) : (State.invMax s d p us).pending = s.pending := by rfl

@[simp] theorem State.syncFifo_pending (s : State) (d p : Nat) : (State.syncFifo s d p).pending = s.pending := by
  unfold State.syncFifo
  repeat' first
    | with_reducible rfl
    | with_reducible refine Eq.trans (State.count_pending _ _ _ _) ?_
    | with_reducible refine Eq.trans (State.invMax_pending _ _ _ _) ?_
    | with_reducible refine Eq.trans (State.modSer_pending _ _ _ _) ?_
    | with_reducible refine Eq.trans (State.put_pending _ _ _ _) ?_
    | dsimp only
    | split

@[simp] theorem State.serDrop_pending (s : State) (d p f : Nat) (c : Field) : (State.serDrop s d p f c).pending = s.pending := by
  unfold State.serDrop
  repeat' first
    | with_reducible rfl
    | with_reducible refine Eq.trans (State.count_pending _ _ _ _) ?_
    | with_reducible refine Eq.trans (State.doneWith_pending _ _) ?_
    | with_reducible refine Eq.trans (State.leaveOutput_pending _ _ _ _) ?_
    | with_reducible refine Eq.trans (State.modSer_pending _ _ _ _) ?_
    | with_reducible refine Eq.trans (State.putFlag_pending _ _ _ _) ?_
    | with_reducible refine Eq.trans (State.syncFifo_pending _ _ _) ?_
    | with_reducible refine Eq.trans (State.txDone_pending _ _) ?_

@[simp] theorem State.abortHead_pending (s : State) (d p : Nat) : (State.abortHead s d p).pending = s.pending := by
  unfold State.abortHead
  repeat' first
    | with_reducible rfl
    | with_reducible refine Eq.trans (State.putFlag_pending _ _ _ _) ?_
    | with_reducible refine Eq.trans (State.serDrop_pending _ _ _ _ _) ?_
    | with_reducible refine ite_pending' _ _ ?_ ?_
    | split

@[simp] theorem State.serFlush_pending (s : State) (d p : Nat) : (State.serFlush s d p).pending = s.pending := by
  unfold State.serFlush
  repeat' first
    | with_reducible rfl
    | intro _
    | with_reducible refine Eq.trans (State.modSer_pending _ _ _ _) ?_
    | with_reducible refine Eq.trans (State.putFlag_pending _ _ _ _) ?_
    | with_reducible refine Eq.trans (State.serDrop_pending _ _ _ _ _) ?_
    | with_reducible refine Eq.trans (State.setOutQueue_pending _ _ _ _) ?_
    | with_reducible refine Eq.trans (foldl_pending _ _ _ ?_) ?_

@[simp] theorem State.fifoEnter_pending (s : State) (d p : Nat) : (State.fifoEnter s d p).pending = s.pending := by
  unfold State.fifoEnter
  repeat' first
    | with_reducible rfl
    | with_reducible refine Eq.trans (State.doneWith_pending _ _) ?_
    | with_reducible refine Eq.trans (State.leaveOutput_pending _ _ _ _) ?_
    | with_reducible refine Eq.trans (State.modSer_pending _ _ _ _) ?_
    | with_reducible refine Eq.trans (State.serDrop_pending _ _ _ _ _) ?_
    | with_reducible refine Eq.trans (State.setOutQueue_pending _ _ _ _) ?_
    | with_reducible refine Eq.trans (State.syncFifo_pending _ _ _) ?_
    | with_reducible refine Eq.trans (State.txDone_pending _ _) ?_
    | with_reducible refine ite_pending' _ _ ?_ ?_
    | dsimp only
    | split

end Sys2Proof.Machine
end

