-- ==== Sys2Proof/Laws/KeepPendingAwlOps.lean ====
section
/-! SUPPORT. The functions of Machine/AwlOps leave the queue alone. -/

namespace Sys2Proof.Machine

@[simp] theorem State.sendFrame_pending (s : State) (d own f : Nat) : (State.sendFrame s d own f).pending = s.pending := by
  unfold State.sendFrame
  repeat' first
    | with_reducible rfl
    | with_reducible refine Eq.trans (State.chargeTenant_pending _ _ _ _) ?_
    | with_reducible refine Eq.trans (State.dropFrame_pending _ _ _ _) ?_
    | with_reducible refine Eq.trans (State.setCharged_pending _ _ _) ?_
    | with_reducible refine Eq.trans (State.toOutput_pending _ _ _ _ _ _ _) ?_
    | with_reducible refine Eq.trans (State.unchargeTenant_pending _ _ _ _) ?_
    | with_reducible refine ite_pending' _ _ ?_ ?_
    | dsimp only
    | split

@[simp] theorem State.allocTx_pending (s : State) (d owner t len f : Nat) (x : State) (h : s.allocTx d owner t len = some (f, x)) : x.pending = s.pending := by
  unfold State.allocTx at h; (try dsimp only at h)
  repeat' split at h
  all_goals try contradiction
  all_goals cases h
  all_goals
    repeat' first
      | with_reducible rfl
      | intro _
      | with_reducible refine Eq.trans (State.chargeTenant_pending _ _ _ _) ?_
      | with_reducible refine Eq.trans (State.ownCell_pending _ _ _ _) ?_
      | with_reducible refine Eq.trans (State.setCharged_pending _ _ _) ?_
      | with_reducible refine Eq.trans (State.setFrame_pending _ _ _) ?_
      | with_reducible refine Eq.trans (State.syncDesc_pending _ _) ?_
      | with_reducible refine Eq.trans (State.vatStore_pending _ _ _ _) ?_
      | with_reducible refine Eq.trans (foldl_pending _ _ _ ?_) ?_

@[simp] theorem State.releaseRx_pending (s : State) (d e : Nat) : (State.releaseRx s d e).pending = s.pending := by
  unfold State.releaseRx
  repeat' first
    | with_reducible rfl
    | with_reducible refine Eq.trans (State.freeSlot_pending _ _ _ _) ?_
    | with_reducible refine Eq.trans (State.modEng_pending _ _ _ _) ?_
    | split

@[simp] theorem State.discardTx_pending (s : State) (d e : Nat) : (State.discardTx s d e).pending = s.pending := by
  unfold State.discardTx
  repeat' first
    | with_reducible rfl
    | with_reducible refine Eq.trans (State.freeFrame_pending _ _) ?_
    | with_reducible refine Eq.trans (State.modEng_pending _ _ _ _) ?_
    | dsimp only
    | split

@[simp] theorem State.pushGroup_pending (s : State) (d e : Nat) : (State.pushGroup s d e).pending = s.pending := by rfl

@[simp] theorem State.mbxPage_pending (s : State) (d e : Nat) (stat : Nat → Field) (ev : Field) : (State.mbxPage s d e stat ev).pending = s.pending := by
  unfold State.mbxPage
  repeat' first
    | with_reducible rfl
    | with_reducible refine Eq.trans (State.pageEvent_pending _ _ _) ?_
    | with_reducible refine Eq.trans (State.pputFlag_pending _ _ _ _ _) ?_
    | with_reducible refine ite_pending' _ _ ?_ ?_

@[simp] theorem State.mbxPop_pending (s : State) (d e : Nat) (w : W16) (x : State) (h : s.mbxPop d e = some (w, x)) : x.pending = s.pending := by
  unfold State.mbxPop at h; dsimp only at h
  repeat' split at h
  all_goals try contradiction
  all_goals cases h
  all_goals first | (simp; done) | ((repeat' split) <;> simp)

@[simp] theorem State.mbxDeliver_pending (s : State) (d e : Nat) (w : W16) : (State.mbxDeliver s d e w).pending = s.pending := by
  unfold State.mbxDeliver
  repeat' first
    | with_reducible rfl
    | with_reducible refine Eq.trans (State.mbxPage_pending _ _ _ _ _) ?_
    | with_reducible refine Eq.trans (State.modEng_pending _ _ _ _) ?_
    | with_reducible refine ite_pending' _ _ ?_ ?_

@[simp] theorem State.sharedWrite_pending (s : State) (d c : Nat) (a : Nat) (x0 : List Byte) : (State.sharedWrite s d c a x0).pending = s.pending := by
  match x0 with
  | [] => rfl
  | [_] => rfl
  | b0 :: b1 :: rest => unfold State.sharedWrite; rw [State.sharedWrite_pending, State.spadSet_pending]

@[simp] theorem State.ibankStart_pending (s : State) (d c op sel : Nat) : (State.ibankStart s d c op sel).pending = s.pending := by
  unfold State.ibankStart
  repeat' first
    | with_reducible rfl
    | with_reducible refine Eq.trans (State.put_pending _ _ _ _) ?_
    | with_reducible refine Eq.trans (State.putFlag_pending _ _ _ _) ?_
    | with_reducible refine Eq.trans (State.setCl_pending _ _ _ _) ?_
    | with_reducible refine ite_pending' _ _ ?_ ?_

@[simp] theorem State.ctlWrite_pending (s : State) (d c off v : Nat) : (State.ctlWrite s d c off v).pending = s.pending := by
  unfold State.ctlWrite
  dsimp only
  repeat' first
    | with_reducible rfl
    | intro _
    | with_reducible refine Eq.trans (State.abortHead_pending _ _ _) ?_
    | with_reducible refine Eq.trans (State.count_pending _ _ _ _) ?_
    | with_reducible refine Eq.trans (State.cue_pending _ _ _ _ _) ?_
    | with_reducible refine Eq.trans (State.divWrite_pending _ _ _ _) ?_
    | with_reducible refine Eq.trans (State.ibankStart_pending _ _ _ _ _) ?_
    | with_reducible refine Eq.trans (State.lcePush_pending _ _ _ _) ?_
    | with_reducible refine Eq.trans (State.loopDef_pending _ _ _ _ _ _) ?_
    | with_reducible refine Eq.trans (State.put_pending _ _ _ _) ?_
    | with_reducible refine Eq.trans (State.putFlag_pending _ _ _ _) ?_
    | with_reducible refine Eq.trans (State.rawWrite_pending _ _ _ _) ?_
    | with_reducible refine Eq.trans (State.wr_pending _ _ _ _) ?_
    | with_reducible refine ite_pending' _ _ ?_ ?_
    | with_reducible refine Eq.trans (foldl_pending _ _ _ ?_) ?_
    | split

@[simp] theorem State.drainItem_pending (s : State) (d e : Nat) (i : SbItem) : (State.drainItem s d e i).2.pending = s.pending := by
  unfold State.drainItem
  repeat' first
    | with_reducible rfl
    | intro _
    | with_reducible refine Eq.trans (State.ctlWrite_pending _ _ _ _ _) ?_
    | with_reducible refine Eq.trans (State.frameWrite_pending _ _ _ _ _ _ _) ?_
    | with_reducible refine Eq.trans (State.mbxDeliver_pending _ _ _ _) ?_
    | with_reducible refine Eq.trans (State.raise_pending _ _ _ _) ?_
    | with_reducible refine Eq.trans (State.sendFrame_pending _ _ _ _) ?_
    | with_reducible refine Eq.trans (State.sharedWrite_pending _ _ _ _ _) ?_
    | with_reducible refine Eq.trans (State.vatWrite_pending _ _ _ _ _ _) ?_
    | with_reducible refine ite_pending' _ _ ?_ ?_
    | with_reducible refine Eq.trans (foldl_pending _ _ _ ?_) ?_
    | dsimp only
    | split

@[simp] theorem State.flushHead_pending (s : State) (d e : Nat) (x0 : Nat) : (State.flushHead s d e x0).pending = s.pending := by
  induction x0 generalizing s d e with
  | zero =>
    unfold State.flushHead
    repeat' first
      | with_reducible rfl
  | succ _ ih =>
    unfold State.flushHead
    repeat' first
      | with_reducible rfl
      | with_reducible refine Eq.trans (ih _ _ _) ?_
      | with_reducible refine Eq.trans (State.drainItem_pending _ _ _ _) ?_
      | with_reducible refine Eq.trans (State.modEng_pending _ _ _ _) ?_
      | with_reducible refine ite_pending' _ _ ?_ ?_
      | split

@[simp] theorem State.drainOne_pending (s : State) (d e : Nat) : (State.drainOne s d e).2.pending = s.pending := by
  unfold State.drainOne
  repeat' first
    | with_reducible rfl
    | with_reducible refine Eq.trans (State.drainItem_pending _ _ _ _) ?_
    | with_reducible refine Eq.trans (State.flushHead_pending _ _ _ _) ?_
    | with_reducible refine Eq.trans (State.modEng_pending _ _ _ _) ?_
    | dsimp only
    | split

@[simp] theorem State.drainTo_pending (s : State) (d e keep : Nat) (x0 : Nat) : (State.drainTo s d e keep x0).2.pending = s.pending := by
  induction x0 generalizing s d e keep with
  | zero =>
    unfold State.drainTo
    repeat' first
      | with_reducible rfl
  | succ _ ih =>
    unfold State.drainTo
    repeat' first
      | with_reducible rfl
      | with_reducible refine Eq.trans (ih _ _ _ _) ?_
      | with_reducible refine ite_snd_pending _ _ ?_ ?_
      | with_reducible refine Eq.trans (State.drainOne_pending _ _ _) ?_

@[simp] theorem State.enterSb_pending (s : State) (d e : Nat) (i : SbItem) : (State.enterSb s d e i).pending = s.pending := by
  unfold State.enterSb
  repeat' first
    | with_reducible rfl
    | with_reducible refine ite_snd_pending _ _ ?_ ?_
    | with_reducible refine Eq.trans (State.drainOne_pending _ _ _) ?_
    | with_reducible refine Eq.trans (State.flushHead_pending _ _ _ _) ?_
    | with_reducible refine Eq.trans (State.modEng_pending _ _ _ _) ?_
    | with_reducible refine ite_pending' _ _ ?_ ?_

@[simp] theorem State.engineDown_pending (s : State) (d e : Nat) : (State.engineDown s d e).pending = s.pending := by
  unfold State.engineDown
  repeat' first
    | with_reducible rfl
    | intro _
    | with_reducible refine Eq.trans (State.discardTx_pending _ _ _) ?_
    | with_reducible refine Eq.trans (State.freeFrame_pending _ _) ?_
    | with_reducible refine Eq.trans (State.initPriv_pending _ _ _ _) ?_
    | with_reducible refine Eq.trans (State.releaseRx_pending _ _ _) ?_
    | with_reducible refine Eq.trans (State.setEng_pending _ _ _ _) ?_
    | with_reducible refine Eq.trans (foldl_pending _ _ _ ?_) ?_

@[simp] theorem State.engineReset_pending (s : State) (d e : Nat) : (State.engineReset s d e).pending = s.pending := by
  unfold State.engineReset
  repeat' first
    | with_reducible rfl
    | with_reducible refine Eq.trans (State.count_pending _ _ _ _) ?_
    | with_reducible refine Eq.trans (State.engineDown_pending _ _ _) ?_
    | with_reducible refine Eq.trans (State.fenceUnits_pending _ _) ?_
    | with_reducible refine Eq.trans (State.putFlag_pending _ _ _ _) ?_
    | with_reducible refine Eq.trans (State.setCl_pending _ _ _ _) ?_
    | with_reducible refine ite_pending' _ _ ?_ ?_

@[simp] theorem State.lossNotices_pending (s : State) (d : Nat) (conns : List (Nat × Nat × Nat)) : (State.lossNotices s d conns).pending = s.pending := by
  unfold State.lossNotices
  repeat' first
    | with_reducible rfl
    | intro _
    | with_reducible refine Eq.trans (State.setFrame_pending _ _ _) ?_
    | with_reducible refine Eq.trans (State.setVoq_pending _ _ _) ?_
    | with_reducible refine Eq.trans (State.syncDesc_pending _ _) ?_
    | with_reducible refine Eq.trans (foldl_pending _ _ _ ?_) ?_
    | dsimp only
    | split

@[simp] theorem State.clusterReset_pending (s : State) (d c : Nat) : (State.clusterReset s d c).pending = s.pending := by
  unfold State.clusterReset
  repeat' first
    | with_reducible rfl
    | intro _
    | with_reducible refine Eq.trans (State.clrBit_pending _ _ _ _) ?_
    | with_reducible refine Eq.trans (State.countDrop_pending _ _ _ _) ?_
    | with_reducible refine Eq.trans (State.engineDown_pending _ _ _) ?_
    | with_reducible refine Eq.trans (State.fenceUnits_pending _ _) ?_
    | with_reducible refine Eq.trans (State.freeSlot_pending _ _ _ _) ?_
    | with_reducible refine Eq.trans (State.initShared_pending _ _ _ _) ?_
    | with_reducible refine Eq.trans (State.loadBank_pending _ _ _ _ _) ?_
    | with_reducible refine Eq.trans (State.modEng_pending _ _ _ _) ?_
    | with_reducible refine Eq.trans (State.putFlag_pending _ _ _ _) ?_
    | with_reducible refine Eq.trans (State.setBit_pending _ _ _ _) ?_
    | with_reducible refine Eq.trans (State.setCl_pending _ _ _ _) ?_
    | with_reducible refine Eq.trans (State.writePack_pending _ _ _ _ _) ?_
    | with_reducible refine ite_pending' _ _ ?_ ?_
    | with_reducible refine Eq.trans (foldl_pending _ _ _ ?_) ?_
    | dsimp only
    | split

@[simp] theorem State.fatalTrap_pending (s : State) (d e cause sub : Nat) (imp : Bool) (pc addr : Nat) : (State.fatalTrap s d e cause sub imp pc addr).pending = s.pending := by
  unfold State.fatalTrap
  repeat' first
    | with_reducible rfl
    | with_reducible refine Eq.trans (State.count_pending _ _ _ _) ?_
    | with_reducible refine Eq.trans (State.engineReset_pending _ _ _) ?_
    | with_reducible refine Eq.trans (State.modEng_pending _ _ _ _) ?_
    | with_reducible refine Eq.trans (State.partRec_pending _ _ _ _ _ _) ?_
    | with_reducible refine Eq.trans (State.put_pending _ _ _ _) ?_
    | with_reducible refine Eq.trans (State.putFlag_pending _ _ _ _) ?_
    | with_reducible refine Eq.trans (State.rungTaken_pending _ _ _ _ _ _ _) ?_
    | with_reducible refine ite_pending' _ _ ?_ ?_

@[simp] theorem State.takeTrap_pending (s : State) (d e cause sub : Nat) (imp : Bool) (pc addr : Nat) (page : Option Nat) : (State.takeTrap s d e cause sub imp pc addr page).pending = s.pending := by
  unfold State.takeTrap
  repeat' first
    | with_reducible rfl
    | with_reducible refine Eq.trans (State.count_pending _ _ _ _) ?_
    | with_reducible refine Eq.trans (State.fatalTrap_pending _ _ _ _ _ _ _ _) ?_
    | with_reducible refine Eq.trans (State.freeVal_pending _ _) ?_
    | with_reducible refine Eq.trans (State.putFlag_pending _ _ _ _) ?_
    | with_reducible refine Eq.trans (State.setEng_pending _ _ _ _) ?_
    | with_reducible refine ite_pending' _ _ ?_ ?_
    | split

@[simp] theorem State.takePend_pending (s : State) (d e : Nat) (t : PendTrap) : (State.takePend s d e t).pending = s.pending := by
  unfold State.takePend
  repeat' first
    | with_reducible rfl
    | with_reducible refine Eq.trans (State.setEng_pending _ _ _ _) ?_
    | with_reducible refine Eq.trans (State.takeTrap_pending _ _ _ _ _ _ _ _ _) ?_

@[simp] theorem State.fetchUe_pending (s : State) (d e : Nat) : (State.fetchUe s d e).pending = s.pending := by
  unfold State.fetchUe
  repeat' first
    | with_reducible rfl
    | with_reducible refine Eq.trans (State.clusterReset_pending _ _ _) ?_
    | with_reducible refine Eq.trans (State.putFlag_pending _ _ _ _) ?_
    | with_reducible refine Eq.trans (State.rungTaken_pending _ _ _ _ _ _ _) ?_
    | with_reducible refine Eq.trans (State.takeTrap_pending _ _ _ _ _ _ _ _ _) ?_

@[simp] theorem State.fetchCe_pending (s : State) (d e : Nat) : (State.fetchCe s d e).pending = s.pending := by rfl

@[simp] theorem State.endInstr_pending (s : State) (d e pc : Nat) : (State.endInstr s d e pc).pending = s.pending := by rfl

@[simp] theorem State.runBody_pending (s : State) (d e : Nat) (body : State → AwlOut) (h : (body s).state.pending = s.pending) :
    (s.runBody d e body).pending = s.pending := by
  unfold State.runBody; split <;> simp_all

@[simp] theorem checked_pending (d e a b c k : Nat) (f : Eng → State → AwlOut) (s : State) (h : ∀ g, (f g s).state.pending = s.pending) :
    (checked d e a b c k f s).state.pending = s.pending := by
  unfold checked; split <;> simp [h]

@[simp] theorem aluBody_pending (d e : Nat) (pops pushes : Nat) (f : List W16 → Flags → List W16 × Flags) (s : State) : (aluBody d e pops pushes f s).state.pending = s.pending := by
  unfold aluBody
  repeat' first
    | with_reducible rfl
    | intro _
    | with_reducible refine next_pending _ _ ?_
    | with_reducible refine Eq.trans (checked_pending _ _ _ _ _ _ _ _ ?_) ?_
    | with_reducible refine Eq.trans (State.setEng_pending _ _ _ _) ?_

end Sys2Proof.Machine
end

