-- ==== Sys2Proof/Laws/KeepPendingIrq.lean ====
section
/-! SUPPORT. The functions of Machine/Irq leave the queue alone. -/

namespace Sys2Proof.Machine

@[simp] theorem State.setMsixWord_pending (s : State) (p w v : Nat) : (State.setMsixWord s p w v).pending = s.pending := by rfl

@[simp] theorem State.sendVector_pending (s : State) (p v : Nat) : (State.sendVector s p v).pending = s.pending := by
  unfold State.sendVector
  repeat' first
    | with_reducible rfl
    | with_reducible refine ite_pending' _ _ ?_ ?_

@[simp] theorem State.msixWrite_pending (s : State) (p w v : Nat) : (State.msixWrite s p w v).pending = s.pending := by
  unfold State.msixWrite
  repeat' first
    | with_reducible rfl
    | with_reducible refine Eq.trans (State.setMsixWord_pending _ _ _ _) ?_
    | with_reducible refine ite_pending' _ _ ?_ ?_

@[simp] theorem State.msixScan_pending (s : State) : (State.msixScan s).pending = s.pending := by
  unfold State.msixScan
  repeat' first
    | with_reducible rfl
    | intro _
    | with_reducible refine Eq.trans (State.sendVector_pending _ _ _) ?_
    | with_reducible refine Eq.trans (foldl_pending _ _ _ ?_) ?_
    | split

@[simp] theorem State.msixAgain_pending (s : State) (src : Nat) : (State.msixAgain s src).pending = s.pending := by
  unfold State.msixAgain
  repeat' first
    | with_reducible rfl
    | with_reducible refine Eq.trans (State.msixScan_pending _) ?_

end Sys2Proof.Machine
end

