-- ==== Sys2Proof/Laws/KeepPendingTteOps.lean ====
section
/-! SUPPORT. The functions of Machine/TteOps leave the queue alone. -/

namespace Sys2Proof.Machine

@[simp] theorem State.modTt_pending (s : State) (d : Nat) (g : TtGroup → TtGroup) : (State.modTt s d g).pending = s.pending := by rfl

@[simp] theorem State.ttRecBody_pending (s : State) (d kind detail ch b sup : Nat) : (State.ttRecBody s d kind detail ch b sup).pending = s.pending := by
  unfold State.ttRecBody
  repeat' first
    | with_reducible rfl
    | with_reducible refine Eq.trans (State.partRec_pending _ _ _ _ _ _) ?_

@[simp] theorem State.ttRec_pending (s : State) (d kind detail ch b : Nat) : (State.ttRec s d kind detail ch b).pending = s.pending := by
  unfold State.ttRec
  repeat' first
    | with_reducible rfl
    | with_reducible refine Eq.trans (State.modTt_pending _ _ _) ?_
    | with_reducible refine Eq.trans (State.ttRecBody_pending _ _ _ _ _ _ _) ?_
    | with_reducible refine ite_pending' _ _ ?_ ?_
    | dsimp only
    | split

@[simp] theorem State.ttTo_pending (s : State) (d st : Nat) : (State.ttTo s d st).pending = s.pending := by
  unfold State.ttTo
  repeat' first
    | with_reducible rfl
    | with_reducible refine Eq.trans (State.count_pending _ _ _ _) ?_
    | with_reducible refine Eq.trans (State.modTt_pending _ _ _) ?_
    | with_reducible refine Eq.trans (State.put_pending _ _ _ _) ?_
    | with_reducible refine Eq.trans (State.putFlag_pending _ _ _ _) ?_
    | with_reducible refine Eq.trans (State.ttRec_pending _ _ _ _ _ _) ?_
    | with_reducible refine ite_pending' _ _ ?_ ?_

@[simp] theorem State.ttListen_pending (s : State) (d : Nat) : (State.ttListen s d).pending = s.pending := by rfl

@[simp] theorem State.syncTtBuf_pending (s : State) (d : Nat) : (State.syncTtBuf s d).pending = s.pending := by rfl

@[simp] theorem State.ttRelease_pending (s : State) (d f : Nat) : (State.ttRelease s d f).pending = s.pending := by
  unfold State.ttRelease
  repeat' first
    | with_reducible rfl
    | with_reducible refine Eq.trans (State.doneWith_pending _ _) ?_
    | with_reducible refine Eq.trans (State.leaveOutput_pending _ _ _ _) ?_
    | with_reducible refine Eq.trans (State.txDone_pending _ _) ?_

@[simp] theorem State.ttBad_pending (s : State) (d f : Nat) : (State.ttBad s d f).pending = s.pending := by
  unfold State.ttBad
  repeat' first
    | with_reducible rfl
    | with_reducible refine Eq.trans (State.count_pending _ _ _ _) ?_
    | with_reducible refine Eq.trans (State.putFlag_pending _ _ _ _) ?_
    | with_reducible refine Eq.trans (State.ttRelease_pending _ _ _) ?_

@[simp] theorem State.unlatch_pending (s : State) (d w : Nat) : (State.unlatch s d w).pending = s.pending := by
  unfold State.unlatch
  repeat' first
    | with_reducible rfl
    | with_reducible refine Eq.trans (State.doneWith_pending _ _) ?_
    | with_reducible refine Eq.trans (State.modTt_pending _ _ _) ?_
    | dsimp only
    | split

@[simp] theorem State.latchBuf_pending (s : State) (d w : Nat) : (State.latchBuf s d w).pending = s.pending := by
  unfold State.latchBuf
  repeat' first
    | with_reducible rfl
    | with_reducible refine Eq.trans (State.modTt_pending _ _ _) ?_
    | with_reducible refine Eq.trans (State.setFrame_pending _ _ _) ?_
    | with_reducible refine Eq.trans (State.unlatch_pending _ _ _) ?_
    | dsimp only
    | split

@[simp] theorem State.emptyBuf_pending (s : State) (d w : Nat) : (State.emptyBuf s d w).pending = s.pending := by
  unfold State.emptyBuf
  repeat' first
    | with_reducible rfl
    | with_reducible refine Eq.trans (State.modTt_pending _ _ _) ?_
    | with_reducible refine Eq.trans (State.syncTtBuf_pending _ _) ?_
    | with_reducible refine Eq.trans (State.ttRelease_pending _ _ _) ?_
    | split

@[simp] theorem State.ttReleaseAll_pending (s : State) (d : Nat) : (State.ttReleaseAll s d).pending = s.pending := by
  unfold State.ttReleaseAll
  repeat' first
    | with_reducible rfl
    | intro _
    | with_reducible refine Eq.trans (State.modTt_pending _ _ _) ?_
    | with_reducible refine Eq.trans (State.setOutQueue_pending _ _ _ _) ?_
    | with_reducible refine Eq.trans (State.syncTtBuf_pending _ _) ?_
    | with_reducible refine Eq.trans (State.ttRelease_pending _ _ _) ?_
    | with_reducible refine Eq.trans (State.unlatch_pending _ _ _) ?_
    | with_reducible refine Eq.trans (foldl_pending _ _ _ ?_) ?_

@[simp] theorem State.ttHold_pending (s : State) (d : Nat) : (State.ttHold s d).pending = s.pending := by
  unfold State.ttHold
  repeat' first
    | with_reducible rfl
    | with_reducible refine Eq.trans (State.ttReleaseAll_pending _ _) ?_
    | with_reducible refine Eq.trans (State.ttTo_pending _ _ _) ?_
    | with_reducible refine ite_pending' _ _ ?_ ?_

@[simp] theorem State.ttAccept_pending (s : State) (d f : Nat) : (State.ttAccept s d f).pending = s.pending := by
  unfold State.ttAccept
  repeat' first
    | with_reducible rfl
    | with_reducible refine Eq.trans (State.emptyBuf_pending _ _ _) ?_
    | with_reducible refine Eq.trans (State.modTt_pending _ _ _) ?_
    | with_reducible refine Eq.trans (State.syncTtBuf_pending _ _) ?_
    | with_reducible refine Eq.trans (State.ttBad_pending _ _ _) ?_
    | with_reducible refine ite_pending' _ _ ?_ ?_

@[simp] theorem State.ttRead_pending (s : State) (d f : Nat) : (State.ttRead s d f).2.pending = s.pending := by
  unfold State.ttRead
  repeat' first
    | with_reducible rfl
    | with_reducible refine ite_snd_pending _ _ ?_ ?_
    | with_reducible refine Eq.trans (State.cellsAllowed_pending _ _ _ _) ?_
    | with_reducible refine Eq.trans (State.dropFrame_pending _ _ _ _) ?_
    | with_reducible refine Eq.trans (State.frameRead_pending _ _ _ _ _ _ _) ?_
    | with_reducible refine Eq.trans (State.leaveOutput_pending _ _ _ _) ?_
    | with_reducible refine Eq.trans (State.modTt_pending _ _ _) ?_
    | with_reducible refine Eq.trans (State.syncTtBuf_pending _ _) ?_

@[simp] theorem State.ttSends_pending (s : State) (d ch words : Nat) : (State.ttSends s d ch words).pending = s.pending := by rfl

@[simp] theorem State.ttRebase_pending (s : State) (d : Nat) : (State.ttRebase s d).pending = s.pending := by rfl

end Sys2Proof.Machine
end

