-- ==== Sys2Proof/Laws/KeepPendingViews.lean ====
section
/-! SUPPORT. The functions of Machine/Views leave the queue alone. -/

namespace Sys2Proof.Machine

@[simp] theorem State.viewTt_pending (s : State) (d off : Nat) : (State.viewTt s d off).pending = s.pending := by
  unfold State.viewTt
  repeat' first
    | with_reducible rfl
    | with_reducible refine Eq.trans (State.put_pending _ _ _ _) ?_
    | with_reducible refine Eq.trans (State.putFlag_pending _ _ _ _) ?_
    | with_reducible refine Eq.trans (State.puts_pending _ _ _) ?_
    | with_reducible refine ite_pending' _ _ ?_ ?_

@[simp] theorem State.viewCal_pending (s : State) (d off : Nat) : (State.viewCal s d off).pending = s.pending := by
  unfold State.viewCal
  repeat' first
    | with_reducible rfl
    | with_reducible refine Eq.trans (State.put_pending _ _ _ _) ?_
    | with_reducible refine Eq.trans (State.puts_pending _ _ _) ?_
    | with_reducible refine ite_pending' _ _ ?_ ?_

@[simp] theorem State.viewRcv_pending (s : State) (off : Nat) : (State.viewRcv s off).pending = s.pending := by
  unfold State.viewRcv
  repeat' first
    | with_reducible rfl
    | with_reducible refine Eq.trans (State.putFlag_pending _ _ _ _) ?_
    | with_reducible refine Eq.trans (State.puts_pending _ _ _) ?_
    | with_reducible refine ite_pending' _ _ ?_ ?_

@[simp] theorem State.viewHar_pending (s : State) (d off : Nat) : (State.viewHar s d off).pending = s.pending := by
  unfold State.viewHar
  repeat' first
    | with_reducible rfl
    | with_reducible refine Eq.trans (State.putFlag_pending _ _ _ _) ?_
    | with_reducible refine ite_pending' _ _ ?_ ?_

@[simp] theorem State.fullView_pending (s : State) (d off : Nat) : (State.fullView s d off).pending = s.pending := by
  unfold State.fullView
  repeat' first
    | with_reducible rfl
    | with_reducible refine Eq.trans (State.invMax_pending _ _ _ _) ?_
    | with_reducible refine Eq.trans (State.put_pending _ _ _ _) ?_
    | with_reducible refine Eq.trans (State.putFlag_pending _ _ _ _) ?_
    | with_reducible refine Eq.trans (State.viewCal_pending _ _ _) ?_
    | with_reducible refine Eq.trans (State.viewHar_pending _ _ _) ?_
    | with_reducible refine Eq.trans (State.viewRcv_pending _ _) ?_
    | with_reducible refine Eq.trans (State.viewTt_pending _ _ _) ?_
    | with_reducible refine ite_pending' _ _ ?_ ?_
    | dsimp only
    | split

end Sys2Proof.Machine
end

