-- ==== Sys2Proof/Laws/KeepPendingAwlMem.lean ====
section
/-! SUPPORT. The functions of Machine/AwlMem leave the queue alone. -/

namespace Sys2Proof.Machine

@[simp] theorem State.mbxRx_pending (s : State) (d e : Nat) : (State.mbxRx s d e).2.pending = s.pending := by
  unfold State.mbxRx
  repeat' first
    | with_reducible rfl
    | with_reducible refine Eq.trans (State.mbxPop_pending _ _ _ _ _ (by with_reducible assumption)) ?_
    | with_reducible refine Eq.trans (State.modEng_pending _ _ _ _) ?_
    | split

@[simp] theorem State.nowLatch_pending (s : State) (d e : Nat) : (State.nowLatch s d e).2.pending = s.pending := by
  induction e generalizing s d with
  | zero =>
    unfold State.nowLatch
    repeat' first
      | with_reducible rfl
      | with_reducible refine Eq.trans (State.modEng_pending _ _ _ _) ?_
  | succ _ ih =>
    unfold State.nowLatch
    repeat' first
      | with_reducible rfl
      | with_reducible refine Eq.trans (State.modEng_pending _ _ _ _) ?_

@[simp] theorem State.readRefused_pending (s : State) (d e : Nat) : (State.readRefused s d e).2.pending = s.pending := by rfl

@[simp] theorem State.specialRead_pending (s : State) (d e i : Nat) : (State.specialRead s d e i).2.pending = s.pending := by
  unfold State.specialRead
  repeat' first
    | with_reducible rfl
    | with_reducible refine Eq.trans (State.mbxRx_pending _ _ _) ?_
    | with_reducible refine Eq.trans (State.nowLatch_pending _ _ _) ?_
    | with_reducible refine Eq.trans (State.readRefused_pending _ _ _) ?_
    | dsimp only
    | split

@[simp] theorem State.fwClear_pending (s : State) (d e : Nat) : (State.fwClear s d e).pending = s.pending := by rfl

@[simp] theorem State.fwError_pending (s : State) (d e : Nat) : (State.fwError s d e).pending = s.pending := by rfl

@[simp] theorem State.fwRelease_pending (s : State) (d e : Nat) : (State.fwRelease s d e).pending = s.pending := by
  unfold State.fwRelease
  repeat' first
    | with_reducible rfl
    | with_reducible refine Eq.trans (State.fwClear_pending _ _ _) ?_
    | with_reducible refine Eq.trans (State.fwError_pending _ _ _) ?_
    | with_reducible refine Eq.trans (State.releaseRx_pending _ _ _) ?_
    | with_reducible refine ite_pending' _ _ ?_ ?_

@[simp] theorem State.fwHold_pending (s : State) (d e : Nat) : (State.fwHold s d e).pending = s.pending := by
  unfold State.fwHold
  repeat' first
    | with_reducible rfl
    | with_reducible refine Eq.trans (State.fwClear_pending _ _ _) ?_
    | with_reducible refine Eq.trans (State.fwError_pending _ _ _) ?_
    | with_reducible refine Eq.trans (State.modEng_pending _ _ _ _) ?_
    | with_reducible refine ite_pending' _ _ ?_ ?_

@[simp] theorem State.fwRequeue_pending (s : State) (d e : Nat) : (State.fwRequeue s d e).pending = s.pending := by
  unfold State.fwRequeue
  repeat' first
    | with_reducible rfl
    | with_reducible refine Eq.trans (State.fwClear_pending _ _ _) ?_
    | with_reducible refine Eq.trans (State.fwError_pending _ _ _) ?_
    | with_reducible refine Eq.trans (State.leaveOutput_pending _ _ _ _) ?_
    | with_reducible refine Eq.trans (State.modEng_pending _ _ _ _) ?_
    | with_reducible refine Eq.trans (State.setFrame_pending _ _ _) ?_
    | with_reducible refine Eq.trans (State.setSlot_pending _ _ _ _ _) ?_
    | with_reducible refine Eq.trans (State.toOutput_pending _ _ _ _ _ _ _) ?_
    | dsimp only
    | split

@[simp] theorem State.fwAlloc_pending (s : State) (d e : Nat) : (State.fwAlloc s d e).pending = s.pending := by
  unfold State.fwAlloc
  repeat' first
    | with_reducible rfl
    | with_reducible refine Eq.trans (State.allocTx_pending _ _ _ _ _ _ _ (by with_reducible assumption)) ?_
    | with_reducible refine Eq.trans (State.fwClear_pending _ _ _) ?_
    | with_reducible refine Eq.trans (State.fwError_pending _ _ _) ?_
    | with_reducible refine Eq.trans (State.modEng_pending _ _ _ _) ?_
    | with_reducible refine ite_pending' _ _ ?_ ?_
    | split

@[simp] theorem State.fwSend_pending (s : State) (d e : Nat) : (State.fwSend s d e).pending = s.pending := by
  unfold State.fwSend
  repeat' first
    | with_reducible rfl
    | with_reducible refine Eq.trans (State.enterSb_pending _ _ _ _) ?_
    | with_reducible refine Eq.trans (State.fwClear_pending _ _ _) ?_
    | with_reducible refine Eq.trans (State.fwError_pending _ _ _) ?_
    | with_reducible refine Eq.trans (State.modEng_pending _ _ _ _) ?_
    | with_reducible refine Eq.trans (State.setFrame_pending _ _ _) ?_
    | with_reducible refine ite_pending' _ _ ?_ ?_
    | dsimp only
    | split

@[simp] theorem State.fwDiscard_pending (s : State) (d e : Nat) : (State.fwDiscard s d e).pending = s.pending := by
  unfold State.fwDiscard
  repeat' first
    | with_reducible rfl
    | with_reducible refine Eq.trans (State.discardTx_pending _ _ _) ?_
    | with_reducible refine Eq.trans (State.fwClear_pending _ _ _) ?_
    | with_reducible refine Eq.trans (State.fwError_pending _ _ _) ?_
    | with_reducible refine ite_pending' _ _ ?_ ?_

@[simp] theorem State.fwCtrl_pending (s : State) (d e v : Nat) : (State.fwCtrl s d e v).pending = s.pending := by
  unfold State.fwCtrl
  repeat' first
    | with_reducible rfl
    | with_reducible refine Eq.trans (State.fwAlloc_pending _ _ _) ?_
    | with_reducible refine Eq.trans (State.fwDiscard_pending _ _ _) ?_
    | with_reducible refine Eq.trans (State.fwHold_pending _ _ _) ?_
    | with_reducible refine Eq.trans (State.fwRelease_pending _ _ _) ?_
    | with_reducible refine Eq.trans (State.fwRequeue_pending _ _ _) ?_
    | with_reducible refine Eq.trans (State.fwSend_pending _ _ _) ?_
    | with_reducible refine Eq.trans (State.modEng_pending _ _ _ _) ?_
    | dsimp only
    | split

@[simp] theorem State.tmrWrite_pending (s : State) (d e v : Nat) : (State.tmrWrite s d e v).pending = s.pending := by rfl

@[simp] theorem State.trapPcWrite_pending (s : State) (d e v : Nat) : (State.trapPcWrite s d e v).pending = s.pending := by rfl

@[simp] theorem State.mbxTx_pending (s : State) (d e v : Nat) : (State.mbxTx s d e v).pending = s.pending := by
  unfold State.mbxTx
  repeat' first
    | with_reducible rfl
    | with_reducible refine Eq.trans (State.enterSb_pending _ _ _ _) ?_

@[simp] theorem State.signalWrite_pending (s : State) (d e v : Nat) : (State.signalWrite s d e v).pending = s.pending := by
  unfold State.signalWrite
  repeat' first
    | with_reducible rfl
    | with_reducible refine Eq.trans (State.enterSb_pending _ _ _ _) ?_

@[simp] theorem State.specialWrite_pending (s : State) (d e i v : Nat) : (State.specialWrite s d e i v).pending = s.pending := by
  unfold State.specialWrite
  repeat' first
    | with_reducible rfl
    | with_reducible refine Eq.trans (State.fwCtrl_pending _ _ _ _) ?_
    | with_reducible refine Eq.trans (State.mbxTx_pending _ _ _ _) ?_
    | with_reducible refine Eq.trans (State.modEng_pending _ _ _ _) ?_
    | with_reducible refine Eq.trans (State.signalWrite_pending _ _ _ _) ?_
    | with_reducible refine Eq.trans (State.tmrWrite_pending _ _ _ _) ?_
    | with_reducible refine Eq.trans (State.trapPcWrite_pending _ _ _ _) ?_
    | split

@[simp] theorem State.windowByte_pending (s : State) (d e b : Nat) : (State.windowByte s d e b).2.pending = s.pending := by
  unfold State.windowByte
  repeat' first
    | with_reducible rfl
    | with_reducible refine ite_snd_pending _ _ ?_ ?_
    | with_reducible refine Eq.trans (State.freeVal_pending _ _) ?_
    | dsimp only
    | split

@[simp] theorem State.vatCheck_pending (s : State) (d e t off n w : Nat) (write : Bool) : (State.vatCheck s d e t off n w write).2.pending = s.pending := by
  unfold State.vatCheck
  repeat' first
    | with_reducible rfl
    | with_reducible refine ite_snd_pending _ _ ?_ ?_
    | with_reducible refine Eq.trans (State.vatViolation_pending _ _ _ _ _ _ _) ?_
    | split

@[simp] theorem State.ctlCheck_pending (s : State) (d e off w : Nat) (pair write : Bool) : (State.ctlCheck s d e off w pair write).2.pending = s.pending := by
  unfold State.ctlCheck
  repeat' first
    | with_reducible rfl
    | with_reducible refine ite_snd_pending _ _ ?_ ?_
    | with_reducible refine Eq.trans (State.count_pending _ _ _ _) ?_
    | with_reducible refine Eq.trans (State.fenceRefused_pending _ _ _) ?_
    | with_reducible refine Eq.trans (State.putFlag_pending _ _ _ _) ?_
    | split

@[simp] theorem State.wordCheck_pending (s : State) (d e w : Nat) (pair write : Bool) : (State.wordCheck s d e w pair write).2.pending = s.pending := by
  unfold State.wordCheck
  repeat' first
    | with_reducible rfl
    | with_reducible refine Eq.trans (State.ctlCheck_pending _ _ _ _ _ _ _) ?_
    | with_reducible refine Eq.trans (State.vatCheck_pending _ _ _ _ _ _ _ _) ?_
    | split

@[simp] theorem State.issueCheck_pending (s : State) (d e w : Nat) (two write : Bool) : (State.issueCheck s d e w two write).2.pending = s.pending := by
  unfold State.issueCheck
  repeat' first
    | with_reducible rfl
    | with_reducible refine ite_snd_pending _ _ ?_ ?_
    | with_reducible refine Eq.trans (State.vatCheck_pending _ _ _ _ _ _ _ _) ?_
    | with_reducible refine Eq.trans (State.wordCheck_pending _ _ _ _ _ _) ?_
    | dsimp only
    | split

@[simp] theorem State.forward_pending (s : State) (d e : Nat) (t : SbTarget) (addr n : Nat) : (State.forward s d e t addr n).2.pending = s.pending := by
  unfold State.forward
  repeat' first
    | with_reducible rfl
    | with_reducible refine ite_snd_pending _ _ ?_ ?_
    | with_reducible refine Eq.trans (State.drainTo_pending _ _ _ _ _) ?_
    | dsimp only
    | split

@[simp] theorem State.spadRead_pending (s : State) (d c w : Nat) (n : Nat) : (State.spadRead s d c w n).state.pending = s.pending := by
  induction n generalizing s w with
  | zero => rfl
  | succ n ih =>
    unfold State.spadRead
    split
    · exact snd_pending (by assumption) (by simp)
    · rename_i t h
      have ht : t.pending = s.pending := snd_pending h (by simp)
      split
      · rename_i h2
        exact Loaded.ok_pending h2 (by simp [ih, ht])
      · simp [ih, ht]

@[simp] theorem State.buffered_pending (s : State) (d e : Nat) (t : SbTarget) (a n : Nat) (k : State → Loaded)
    (h : ∀ u, (k u).state.pending = u.pending) : (s.buffered d e t a n k).state.pending = s.pending := by
  unfold State.buffered; split
  · exact snd_pending (by assumption) (State.forward_pending _ _ _ _ _ _)
  · rw [h]; exact snd_pending (by assumption) (State.forward_pending _ _ _ _ _ _)

@[simp] theorem loadedOf_pending (r : List Byte × Bool × State) : (loadedOf r).state.pending = r.2.2.pending := by
  unfold loadedOf; split <;> rfl

@[simp] theorem State.windowBytes_pending (s : State) (d e b : Nat) (x0 : Nat) : (State.windowBytes s d e b x0).2.pending = s.pending := by
  induction x0 generalizing s d e b with
  | zero =>
    unfold State.windowBytes
    repeat' first
      | with_reducible rfl
  | succ _ ih =>
    unfold State.windowBytes
    repeat' first
      | with_reducible rfl
      | with_reducible refine Eq.trans (ih _ _ _ _) ?_
      | with_reducible refine Eq.trans (State.windowByte_pending _ _ _ _) ?_

@[simp] theorem State.windowLoad_pending (s : State) (d e b n : Nat) : (State.windowLoad s d e b n).state.pending = s.pending := by
  unfold State.windowLoad
  repeat' first
    | with_reducible rfl
    | intro _
    | with_reducible refine ok_pending _ _ ?_
    | with_reducible refine ite_loaded_pending _ _ ?_ ?_
    | with_reducible refine Eq.trans (State.buffered_pending _ _ _ _ _ _ _ ?_) ?_
    | with_reducible refine Eq.trans (State.frameRead_pending _ _ _ _ _ _ _) ?_
    | with_reducible refine Eq.trans (loadedOf_pending _) ?_
    | with_reducible refine Eq.trans (State.windowBytes_pending _ _ _ _ _) ?_
    | refine Loaded.ok_pending (by with_reducible assumption) ?_
    | dsimp only
    | split

@[simp] theorem State.vatLoad_pending (s : State) (d e t off n : Nat) : (State.vatLoad s d e t off n).state.pending = s.pending := by
  unfold State.vatLoad
  repeat' first
    | with_reducible rfl
    | intro _
    | with_reducible refine Eq.trans (State.buffered_pending _ _ _ _ _ _ _ ?_) ?_
    | with_reducible refine Eq.trans (loadedOf_pending _) ?_
    | with_reducible refine Eq.trans (State.portRead_pending _ _ _ _ _ _) ?_

@[simp] theorem State.ctlLoad_pending (s : State) (d off : Nat) : (State.ctlLoad s d off).2.pending = s.pending := by
  unfold State.ctlLoad
  repeat' first
    | with_reducible rfl
    | with_reducible refine ite_snd_pending _ _ ?_ ?_
    | with_reducible refine Eq.trans (State.fullView_pending _ _ _) ?_
    | with_reducible refine Eq.trans (State.lcePop_pending _ _ _) ?_
    | with_reducible refine Eq.trans (State.rawRead_pending _ _ _ _) ?_

@[simp] theorem State.wordLoad_pending (s : State) (d e w : Nat) : (State.wordLoad s d e w).state.pending = s.pending := by
  unfold State.wordLoad
  repeat' first
    | with_reducible rfl
    | intro _
    | with_reducible refine ok_pending _ _ ?_
    | with_reducible refine Eq.trans (State.buffered_pending _ _ _ _ _ _ _ ?_) ?_
    | with_reducible refine Eq.trans (State.spadRead_pending _ _ _ _ _) ?_
    | with_reducible refine Eq.trans (State.specialRead_pending _ _ _ _) ?_
    | with_reducible refine Eq.trans (State.vatLoad_pending _ _ _ _ _ _) ?_
    | with_reducible refine Eq.trans (State.windowLoad_pending _ _ _ _ _) ?_
    | dsimp only
    | split

@[simp] theorem State.pairLoad_pending (s : State) (d e w : Nat) : (State.pairLoad s d e w).state.pending = s.pending := by
  unfold State.pairLoad
  repeat' first
    | with_reducible rfl
    | intro _
    | with_reducible refine ok_pending _ _ ?_
    | with_reducible refine Eq.trans (State.buffered_pending _ _ _ _ _ _ _ ?_) ?_
    | with_reducible refine Eq.trans (State.ctlLoad_pending _ _ _) ?_
    | with_reducible refine Eq.trans (State.spadRead_pending _ _ _ _ _) ?_
    | with_reducible refine Eq.trans (State.vatLoad_pending _ _ _ _ _ _) ?_
    | with_reducible refine Eq.trans (State.windowLoad_pending _ _ _ _ _) ?_
    | with_reducible refine Eq.trans (State.wordLoad_pending _ _ _ _) ?_
    | refine Loaded.ok_pending (by with_reducible assumption) ?_
    | dsimp only
    | split

@[simp] theorem State.bufferStore_pending (s : State) (d e : Nat) (t : SbTarget) (addr : Nat) (bs : List Byte) (w : Nat) : (State.bufferStore s d e t addr bs w).pending = s.pending := by
  unfold State.bufferStore
  repeat' first
    | with_reducible rfl
    | with_reducible refine Eq.trans (State.enterSb_pending _ _ _ _) ?_

@[simp] theorem State.windowStore_pending (s : State) (d e b : Nat) (bs : List Byte) (w : Nat) : (State.windowStore s d e b bs w).pending = s.pending := by
  unfold State.windowStore
  repeat' first
    | with_reducible rfl
    | with_reducible refine Eq.trans (State.bufferStore_pending _ _ _ _ _ _ _) ?_
    | with_reducible refine Eq.trans (State.setFrame_pending _ _ _) ?_
    | with_reducible refine ite_pending' _ _ ?_ ?_
    | split

@[simp] theorem State.areaStore_pending (s : State) (d e w : Nat) (bs : List Byte) : (State.areaStore s d e w bs).pending = s.pending := by
  unfold State.areaStore
  repeat' first
    | with_reducible rfl
    | with_reducible refine Eq.trans (State.bufferStore_pending _ _ _ _ _ _ _) ?_
    | with_reducible refine Eq.trans (State.spadSet_pending _ _ _ _ _) ?_
    | with_reducible refine Eq.trans (State.specialWrite_pending _ _ _ _ _) ?_
    | with_reducible refine Eq.trans (State.windowStore_pending _ _ _ _ _ _) ?_
    | with_reducible refine ite_pending' _ _ ?_ ?_
    | dsimp only
    | split

@[simp] theorem State.storeWords_pending (s : State) (d e w : Nat) (bs : List Byte) : (State.storeWords s d e w bs).pending = s.pending := by
  unfold State.storeWords
  repeat' first
    | with_reducible rfl
    | with_reducible refine Eq.trans (State.areaStore_pending _ _ _ _ _) ?_
    | with_reducible refine ite_pending' _ _ ?_ ?_

@[simp] theorem Loaded.out_pending (r : Loaded) (w : Nat) (page : Option Nat) (k : List Byte → State → AwlOut) (p : List Instr)
    (h : r.state.pending = p) (hk : ∀ bs t, (k bs t).state.pending = t.pending) : (r.out w page k).state.pending = p := by
  cases r <;> simp_all [Loaded.out]

@[simp] theorem State.pushed_pending (s : State) (d e pops : Nat) (ws : List W16) : (State.pushed s d e pops ws).pending = s.pending := by rfl

@[simp] theorem loadBody_pending (d e off : Nat) (two : Bool) (s : State) : (loadBody d e off two s).state.pending = s.pending := by
  unfold loadBody
  repeat' first
    | with_reducible rfl
    | intro _
    | with_reducible refine next_pending _ _ ?_
    | with_reducible refine trap_pending _ _ _ _ _ ?_
    | with_reducible refine ite_loaded_pending _ _ ?_ ?_
    | with_reducible refine Eq.trans (checked_pending _ _ _ _ _ _ _ _ ?_) ?_
    | with_reducible refine Eq.trans (State.issueCheck_pending _ _ _ _ _ _) ?_
    | with_reducible refine Loaded.out_pending _ _ _ _ _ ?_ ?_
    | with_reducible refine Eq.trans (State.pairLoad_pending _ _ _ _) ?_
    | with_reducible refine Eq.trans (State.pushed_pending _ _ _ _ _) ?_
    | with_reducible refine Eq.trans (State.wordLoad_pending _ _ _ _) ?_
    | refine snd_pending (by with_reducible assumption) ?_
    | dsimp only
    | split

@[simp] theorem storeBody_pending (d e off : Nat) (two : Bool) (s : State) : (storeBody d e off two s).state.pending = s.pending := by
  unfold storeBody
  repeat' first
    | with_reducible rfl
    | intro _
    | with_reducible refine next_pending _ _ ?_
    | with_reducible refine trap_pending _ _ _ _ _ ?_
    | with_reducible refine Eq.trans (checked_pending _ _ _ _ _ _ _ _ ?_) ?_
    | with_reducible refine Eq.trans (State.issueCheck_pending _ _ _ _ _ _) ?_
    | with_reducible refine Eq.trans (State.pushed_pending _ _ _ _ _) ?_
    | with_reducible refine Eq.trans (State.storeWords_pending _ _ _ _ _) ?_
    | refine snd_pending (by with_reducible assumption) ?_
    | dsimp only
    | split

@[simp] theorem ldsBody_pending (d e i : Nat) (s : State) : (ldsBody d e i s).state.pending = s.pending := by
  unfold ldsBody
  repeat' first
    | with_reducible rfl
    | intro _
    | with_reducible refine next_pending _ _ ?_
    | with_reducible refine trap_pending _ _ _ _ _ ?_
    | with_reducible refine ite_awl_pending _ _ ?_ ?_
    | with_reducible refine Eq.trans (checked_pending _ _ _ _ _ _ _ _ ?_) ?_
    | with_reducible refine Eq.trans (State.pushed_pending _ _ _ _ _) ?_
    | with_reducible refine Eq.trans (State.specialRead_pending _ _ _ _) ?_

@[simp] theorem stsBody_pending (d e i : Nat) (s : State) : (stsBody d e i s).state.pending = s.pending := by
  unfold stsBody
  repeat' first
    | with_reducible rfl
    | intro _
    | with_reducible refine next_pending _ _ ?_
    | with_reducible refine trap_pending _ _ _ _ _ ?_
    | with_reducible refine ite_awl_pending _ _ ?_ ?_
    | with_reducible refine Eq.trans (checked_pending _ _ _ _ _ _ _ _ ?_) ?_
    | with_reducible refine Eq.trans (State.pushed_pending _ _ _ _ _) ?_
    | with_reducible refine Eq.trans (State.specialWrite_pending _ _ _ _ _) ?_

@[simp] theorem fldBody_pending (d e fmt : Nat) (s : State) : (fldBody d e fmt s).state.pending = s.pending := by
  unfold fldBody
  repeat' first
    | with_reducible rfl
    | intro _
    | with_reducible refine next_pending _ _ ?_
    | with_reducible refine Eq.trans (checked_pending _ _ _ _ _ _ _ _ ?_) ?_
    | with_reducible refine Loaded.out_pending _ _ _ _ _ ?_ ?_
    | with_reducible refine Eq.trans (State.pushed_pending _ _ _ _ _) ?_
    | with_reducible refine Eq.trans (State.windowLoad_pending _ _ _ _ _) ?_

@[simp] theorem fstBody_pending (d e fmt : Nat) (s : State) : (fstBody d e fmt s).state.pending = s.pending := by
  unfold fstBody
  repeat' first
    | with_reducible rfl
    | intro _
    | with_reducible refine next_pending _ _ ?_
    | with_reducible refine trap_pending _ _ _ _ _ ?_
    | with_reducible refine ite_awl_pending _ _ ?_ ?_
    | with_reducible refine Eq.trans (checked_pending _ _ _ _ _ _ _ _ ?_) ?_
    | with_reducible refine Eq.trans (State.pushed_pending _ _ _ _ _) ?_
    | with_reducible refine Eq.trans (State.windowStore_pending _ _ _ _ _ _) ?_

@[simp] theorem State.rotCheck_pending (s : State) (d e a n : Nat) (write : Bool) : (State.rotCheck s d e a n write).2.pending = s.pending := by
  unfold State.rotCheck
  repeat' first
    | with_reducible rfl
    | with_reducible refine ite_snd_pending _ _ ?_ ?_
    | with_reducible refine Eq.trans (State.vatCheck_pending _ _ _ _ _ _ _ _) ?_

@[simp] theorem vldBody_pending (d e fmt : Nat) (s : State) : (vldBody d e fmt s).state.pending = s.pending := by
  unfold vldBody
  repeat' first
    | with_reducible rfl
    | intro _
    | with_reducible refine next_pending _ _ ?_
    | with_reducible refine trap_pending _ _ _ _ _ ?_
    | with_reducible refine Eq.trans (checked_pending _ _ _ _ _ _ _ _ ?_) ?_
    | with_reducible refine Loaded.out_pending _ _ _ _ _ ?_ ?_
    | with_reducible refine Eq.trans (State.pushed_pending _ _ _ _ _) ?_
    | with_reducible refine Eq.trans (State.rotCheck_pending _ _ _ _ _ _) ?_
    | with_reducible refine Eq.trans (State.vatLoad_pending _ _ _ _ _ _) ?_
    | refine snd_pending (by with_reducible assumption) ?_
    | dsimp only
    | split

@[simp] theorem vstBody_pending (d e fmt : Nat) (s : State) : (vstBody d e fmt s).state.pending = s.pending := by
  unfold vstBody
  repeat' first
    | with_reducible rfl
    | intro _
    | with_reducible refine next_pending _ _ ?_
    | with_reducible refine trap_pending _ _ _ _ _ ?_
    | with_reducible refine Eq.trans (State.bufferStore_pending _ _ _ _ _ _ _) ?_
    | with_reducible refine Eq.trans (checked_pending _ _ _ _ _ _ _ _ ?_) ?_
    | with_reducible refine Eq.trans (State.pushed_pending _ _ _ _ _) ?_
    | with_reducible refine Eq.trans (State.rotCheck_pending _ _ _ _ _ _) ?_
    | refine snd_pending (by with_reducible assumption) ?_
    | dsimp only
    | split

@[simp] theorem rdrecBody_pending (d e n : Nat) (s : State) : (rdrecBody d e n s).state.pending = s.pending := by
  unfold rdrecBody
  repeat' first
    | with_reducible rfl
    | intro _
    | with_reducible refine next_pending _ _ ?_
    | with_reducible refine trap_pending _ _ _ _ _ ?_
    | with_reducible refine ite_awl_pending _ _ ?_ ?_
    | with_reducible refine Eq.trans (checked_pending _ _ _ _ _ _ _ _ ?_) ?_
    | with_reducible refine Loaded.out_pending _ _ _ _ _ ?_ ?_
    | with_reducible refine Eq.trans (State.pushed_pending _ _ _ _ _) ?_
    | with_reducible refine Eq.trans (State.spadWords_pending _ _ _ _ _) ?_
    | with_reducible refine Eq.trans (State.vatCheck_pending _ _ _ _ _ _ _ _) ?_
    | with_reducible refine Eq.trans (State.vatLoad_pending _ _ _ _ _ _) ?_
    | refine snd_pending (by with_reducible assumption) ?_
    | split

end Sys2Proof.Machine
end

