-- ==== Sys2Proof/Laws/KeepPendingHarBase.lean ====
section
/-! SUPPORT. The functions of Machine/HarBase leave the queue alone. -/

namespace Sys2Proof.Machine

@[simp] theorem State.harRecord_pending (s : State) (kind code old new instant image affected count first ns : Nat) : (State.harRecord s kind code old new instant image affected count first ns).pending = s.pending := by
  unfold State.harRecord
  repeat' first
    | with_reducible rfl
    | with_reducible refine Eq.trans (State.partRec_pending _ _ _ _ _ _) ?_

@[simp] theorem State.lateUnit_pending (s : State) (u : Nat) : (State.lateUnit s u).pending = s.pending := by
  unfold State.lateUnit
  repeat' first
    | with_reducible rfl
    | with_reducible refine Eq.trans (State.count_pending _ _ _ _) ?_
    | with_reducible refine Eq.trans (State.fenceUnits_pending _ _) ?_
    | with_reducible refine Eq.trans (State.putFlag_pending _ _ _ _) ?_
    | with_reducible refine ite_pending' _ _ ?_ ?_

@[simp] theorem State.switchingEnd_pending (s : State) : (State.switchingEnd s).pending = s.pending := by
  unfold State.switchingEnd
  repeat' first
    | with_reducible rfl
    | with_reducible refine Eq.trans (State.harRecord_pending _ _ _ _ _ _ _ _ _ _ _) ?_
    | with_reducible refine Eq.trans (State.put_pending _ _ _ _) ?_
    | with_reducible refine Eq.trans (State.putFlag_pending _ _ _ _) ?_

@[simp] theorem State.unitDone_pending (s : State) (u : Nat) : (State.unitDone s u).pending = s.pending := by
  unfold State.unitDone
  repeat' first
    | with_reducible rfl
    | with_reducible refine Eq.trans (State.switchingEnd_pending _) ?_
    | with_reducible refine Eq.trans (State.unfenceUnits_pending _ _) ?_
    | with_reducible refine ite_pending' _ _ ?_ ?_

end Sys2Proof.Machine
end

