-- ==== Sys2Proof/Laws/KeepPendingAwlRun.lean ====
section
/-! SUPPORT. The functions of Machine/AwlRun leave the queue alone. -/

namespace Sys2Proof.Machine

@[simp] theorem State.engRefused_pending (s : State) (d e reason : Nat) : (State.engRefused s d e reason).pending = s.pending := by rfl

@[simp] theorem commitBody_pending (d e n : Nat) (s : State) : (commitBody d e n s).state.pending = s.pending := by
  unfold commitBody
  repeat' first
    | with_reducible rfl
    | with_reducible refine next_pending _ _ ?_
    | with_reducible refine trap_pending _ _ _ _ _ ?_
    | with_reducible refine ite_awl_pending _ _ ?_ ?_
    | with_reducible refine Eq.trans (State.engRefused_pending _ _ _ _) ?_
    | with_reducible refine Eq.trans (State.modEng_pending _ _ _ _) ?_
    | with_reducible refine Eq.trans (State.refuseCommit_pending _ _ _ _ _ _) ?_
    | with_reducible refine Eq.trans (State.spadRead_pending _ _ _ _ _) ?_
    | refine Loaded.ok_pending (by with_reducible assumption) ?_
    | refine Loaded.ue_pending (by with_reducible assumption) ?_
    | dsimp only
    | split

@[simp] theorem State.bindFrame_pending (s : State) (d e q : Nat) : (State.bindFrame s d e q).pending = s.pending := by
  unfold State.bindFrame
  repeat' first
    | with_reducible rfl
    | with_reducible refine Eq.trans (State.count_pending _ _ _ _) ?_
    | with_reducible refine Eq.trans (State.leaveOutput_pending _ _ _ _) ?_
    | with_reducible refine Eq.trans (State.modEng_pending _ _ _ _) ?_
    | with_reducible refine Eq.trans (State.ownFrame_pending _ _ _) ?_
    | with_reducible refine Eq.trans (State.setCl_pending _ _ _ _) ?_
    | with_reducible refine Eq.trans (State.setQueued_pending _ _ _ _ _) ?_
    | with_reducible refine Eq.trans (State.setSlot_pending _ _ _ _ _) ?_
    | dsimp only
    | split

@[simp] theorem State.resumeOrSleep_pending (s : State) (d e : Nat) : (State.resumeOrSleep s d e).pending = s.pending := by
  unfold State.resumeOrSleep
  repeat' first
    | with_reducible rfl
    | with_reducible refine Eq.trans (State.bindFrame_pending _ _ _ _) ?_
    | with_reducible refine Eq.trans (State.modEng_pending _ _ _ _) ?_
    | with_reducible refine ite_pending' _ _ ?_ ?_
    | dsimp only
    | split

@[simp] theorem State.copyBlock_pending (s : State) (c : HarnessCfg) (p : PlaceEntry) : (State.copyBlock s c p).pending = s.pending := by
  unfold State.copyBlock
  repeat' first
    | with_reducible rfl
    | with_reducible refine Eq.trans (State.writeBytes_pending _ _ _ _) ?_

@[simp] theorem State.applyPlace_pending (s : State) (c : HarnessCfg) (d k : Nat) : (State.applyPlace s c d k).pending = s.pending := by
  unfold State.applyPlace
  repeat' first
    | with_reducible rfl
    | with_reducible refine Eq.trans (State.clrBit_pending _ _ _ _) ?_
    | with_reducible refine Eq.trans (State.puts_pending _ _ _) ?_
    | with_reducible refine Eq.trans (State.setBit_pending _ _ _ _) ?_
    | with_reducible refine ite_pending' _ _ ?_ ?_

@[simp] theorem State.clusterSwitched_pending (s : State) (d c : Nat) : (State.clusterSwitched s d c).pending = s.pending := by
  unfold State.clusterSwitched
  repeat' first
    | with_reducible rfl
    | with_reducible refine Eq.trans (State.applyPlace_pending _ _ _ _) ?_
    | with_reducible refine Eq.trans (State.clrBit_pending _ _ _ _) ?_
    | with_reducible refine Eq.trans (State.copyBlock_pending _ _ _) ?_
    | with_reducible refine Eq.trans (State.put_pending _ _ _ _) ?_
    | with_reducible refine Eq.trans (State.putFlag_pending _ _ _ _) ?_
    | with_reducible refine Eq.trans (State.setBit_pending _ _ _ _) ?_
    | with_reducible refine Eq.trans (State.unitDone_pending _ _) ?_
    | with_reducible refine ite_pending' _ _ ?_ ?_
    | split

@[simp] theorem State.engineSwitch_pending (s : State) (d e : Nat) : (State.engineSwitch s d e).pending = s.pending := by
  unfold State.engineSwitch
  repeat' first
    | with_reducible rfl
    | with_reducible refine Eq.trans (State.clusterSwitched_pending _ _ _) ?_
    | with_reducible refine Eq.trans (State.discardTx_pending _ _ _) ?_
    | with_reducible refine Eq.trans (State.modEng_pending _ _ _ _) ?_
    | with_reducible refine Eq.trans (State.unitDone_pending _ _) ?_

@[simp] theorem State.waitRest_pending (s : State) (d e : Nat) : (State.waitRest s d e).pending = s.pending := by
  unfold State.waitRest
  repeat' first
    | with_reducible rfl
    | with_reducible refine Eq.trans (State.engineSwitch_pending _ _ _) ?_
    | with_reducible refine Eq.trans (State.modEng_pending _ _ _ _) ?_
    | with_reducible refine Eq.trans (State.releaseRx_pending _ _ _) ?_
    | with_reducible refine Eq.trans (State.resumeOrSleep_pending _ _ _) ?_
    | with_reducible refine ite_pending' _ _ ?_ ?_

@[simp] theorem State.waitOp_pending (s : State) (d e : Nat) : (State.waitOp s d e).pending = s.pending := by
  unfold State.waitOp
  repeat' first
    | with_reducible rfl
    | with_reducible refine Eq.trans (State.count_pending _ _ _ _) ?_
    | with_reducible refine Eq.trans (State.drainTo_pending _ _ _ _ _) ?_
    | with_reducible refine Eq.trans (State.modEng_pending _ _ _ _) ?_
    | with_reducible refine Eq.trans (State.pushGroup_pending _ _ _) ?_
    | with_reducible refine Eq.trans (State.putFlag_pending _ _ _ _) ?_
    | with_reducible refine Eq.trans (State.takePend_pending _ _ _ _) ?_
    | with_reducible refine Eq.trans (State.waitRest_pending _ _ _) ?_
    | with_reducible refine ite_pending' _ _ ?_ ?_
    | dsimp only
    | split

@[simp] theorem State.wake_pending (s : State) (d e : Nat) : (State.wake s d e).pending = s.pending := by
  unfold State.wake
  repeat' first
    | with_reducible rfl
    | with_reducible refine Eq.trans (State.engineSwitch_pending _ _ _) ?_
    | with_reducible refine Eq.trans (State.resumeOrSleep_pending _ _ _) ?_
    | with_reducible refine ite_pending' _ _ ?_ ?_

end Sys2Proof.Machine
end

