-- ==== Sys2Proof/Laws/KeepPendingDpSkv.lean ====
section
/-! SUPPORT. The functions of Machine/DpSkv leave the queue alone. -/

namespace Sys2Proof.Machine

@[simp] theorem State.writeNotice_pending (s : State) (d n base kind mask time : Nat) : (State.writeNotice s d n base kind mask time).pending = s.pending := by
  unfold State.writeNotice
  repeat' first
    | with_reducible rfl
    | with_reducible refine Eq.trans (State.pageEvent_pending _ _ _) ?_
    | with_reducible refine Eq.trans (State.put_pending _ _ _ _) ?_
    | with_reducible refine Eq.trans (State.vatStore_pending _ _ _ _) ?_
    | with_reducible refine ite_pending' _ _ ?_ ?_

@[simp] theorem State.skvLate_pending (s : State) (d : Nat) : (State.skvLate s d).pending = s.pending := by rfl

@[simp] theorem State.ringFull_pending (s : State) (d n : Nat) : (State.ringFull s d n).pending = s.pending := by rfl

@[simp] theorem State.rearmSlot_pending (s : State) (d slot : Nat) : (State.rearmSlot s d slot).pending = s.pending := by
  unfold State.rearmSlot
  repeat' first
    | with_reducible rfl
    | with_reducible refine Eq.trans (State.readDesc_pending _ _ _ _) ?_
    | with_reducible refine Eq.trans (State.readRec_pending _ _ _ _) ?_
    | with_reducible refine Eq.trans (State.setSkv_pending _ _ _ _) ?_
    | with_reducible refine ite_pending' _ _ ?_ ?_

@[simp] theorem State.rearmDie_pending (s : State) (d : Nat) : (State.rearmDie s d).pending = s.pending := by
  unfold State.rearmDie
  repeat' first
    | with_reducible rfl
    | intro _
    | with_reducible refine Eq.trans (State.putFlag_pending _ _ _ _) ?_
    | with_reducible refine Eq.trans (State.rearmSlot_pending _ _ _) ?_
    | with_reducible refine ite_pending' _ _ ?_ ?_
    | with_reducible refine Eq.trans (foldl_pending _ _ _ ?_) ?_

@[simp] theorem State.writeResync_pending (s : State) (d n time : Nat) : (State.writeResync s d n time).pending = s.pending := by
  unfold State.writeResync
  repeat' first
    | with_reducible rfl
    | with_reducible refine Eq.trans (State.ringFull_pending _ _ _) ?_
    | with_reducible refine Eq.trans (State.writeNotice_pending _ _ _ _ _ _ _) ?_
    | with_reducible refine ite_pending' _ _ ?_ ?_

@[simp] theorem State.resyncs_pending (s : State) (d time : Nat) : (State.resyncs s d time).pending = s.pending := by
  unfold State.resyncs
  repeat' first
    | with_reducible rfl
    | intro _
    | with_reducible refine Eq.trans (State.putFlag_pending _ _ _ _) ?_
    | with_reducible refine Eq.trans (State.writeResync_pending _ _ _ _) ?_
    | with_reducible refine ite_pending' _ _ ?_ ?_
    | with_reducible refine Eq.trans (foldl_pending _ _ _ ?_) ?_

@[simp] theorem State.groupNotice_pending (s : State) (d p : Nat) (due : List (Nat × Nat)) (written : Nat) (key : Nat × Nat) : (State.groupNotice s d p due written key).2.pending = s.pending := by
  unfold State.groupNotice
  repeat' first
    | with_reducible rfl
    | intro _
    | with_reducible refine ite_snd_pending _ _ ?_ ?_
    | with_reducible refine Eq.trans (State.ringFull_pending _ _ _) ?_
    | with_reducible refine Eq.trans (State.setSkv_pending _ _ _ _) ?_
    | with_reducible refine Eq.trans (State.skvLate_pending _ _) ?_
    | with_reducible refine Eq.trans (State.writeNotice_pending _ _ _ _ _ _ _) ?_
    | with_reducible refine Eq.trans (foldl_pending _ _ _ ?_) ?_

@[simp] theorem State.notices_pending (s : State) (d p : Nat) (due : List (Nat × Nat)) : (State.notices s d p due).pending = s.pending := by
  unfold State.notices
  repeat' first
    | with_reducible rfl
    | intro _
    | with_reducible refine Eq.trans (State.groupNotice_pending _ _ _ _ _ _) ?_
    | with_reducible refine Eq.trans (foldl_snd_pending _ _ _ ?_) ?_

@[simp] theorem State.backFromRetain_pending (s : State) (d : Nat) (due : List (Nat × Nat)) : (State.backFromRetain s d due).pending = s.pending := by
  unfold State.backFromRetain
  repeat' first
    | with_reducible rfl
    | with_reducible refine Eq.trans (State.skvLate_pending _ _) ?_
    | with_reducible refine ite_pending' _ _ ?_ ?_
    | dsimp only
    | split

@[simp] theorem State.skiverPass_pending (s : State) (d : Nat) : (State.skiverPass s d).pending = s.pending := by
  unfold State.skiverPass
  repeat' first
    | with_reducible rfl
    | with_reducible refine Eq.trans (State.backFromRetain_pending _ _ _) ?_
    | with_reducible refine Eq.trans (State.count_pending _ _ _ _) ?_
    | with_reducible refine Eq.trans (State.notices_pending _ _ _ _) ?_
    | with_reducible refine Eq.trans (State.putFlag_pending _ _ _ _) ?_
    | with_reducible refine Eq.trans (State.rearmDie_pending _ _) ?_
    | with_reducible refine Eq.trans (State.resyncs_pending _ _ _) ?_
    | with_reducible refine ite_pending' _ _ ?_ ?_

@[simp] theorem State.noticeAdvance_pending (s : State) (d n rd : Nat) : (State.noticeAdvance s d n rd).pending = s.pending := by
  unfold State.noticeAdvance
  repeat' first
    | with_reducible rfl
    | with_reducible refine Eq.trans (State.put_pending _ _ _ _) ?_
    | with_reducible refine ite_pending' _ _ ?_ ?_

end Sys2Proof.Machine
end

