-- ==== Sys2Proof/Laws/KeepPendingDatapoints.lean ====
section
/-! SUPPORT. The functions of Machine/Datapoints leave the queue alone. -/

namespace Sys2Proof.Machine

@[simp] theorem State.commitStatus_pending (s : State) (issuer reason : Nat) : (State.commitStatus s issuer reason).pending = s.pending := by
  unfold State.commitStatus
  repeat' first
    | with_reducible rfl
    | with_reducible refine Eq.trans (State.engRefused_pending _ _ _ _) ?_
    | with_reducible refine Eq.trans (State.raise_pending _ _ _ _) ?_
    | with_reducible refine Eq.trans (State.setEng_pending _ _ _ _) ?_
    | with_reducible refine ite_pending' _ _ ?_ ?_

end Sys2Proof.Machine
end

