-- ==== Sys2Proof/Laws/KeepPendingAwlCluster.lean ====
section
/-! SUPPORT. The functions of Machine/AwlCluster leave the queue alone. -/

namespace Sys2Proof.Machine

@[simp] theorem answer_pending (r : Nat × State) : (answer r).pending = r.2.pending := by rfl

@[simp] theorem State.takeWaiting_pending (s : State) (d e : Nat) (inTrap : Bool) : (State.takeWaiting s d e inTrap).pending = s.pending := by
  unfold State.takeWaiting
  repeat' first
    | with_reducible rfl
    | with_reducible refine Eq.trans (State.takePend_pending _ _ _ _) ?_
    | with_reducible refine ite_pending' _ _ ?_ ?_
    | split

@[simp] theorem State.clusterUp_pending (s : State) (d c : Nat) : (State.clusterUp s d c).pending = s.pending := by
  unfold State.clusterUp
  repeat' first
    | with_reducible rfl
    | intro _
    | with_reducible refine Eq.trans (State.putFlag_pending _ _ _ _) ?_
    | with_reducible refine Eq.trans (State.setDom_pending _ _ _ _) ?_
    | with_reducible refine Eq.trans (foldl_pending _ _ _ ?_) ?_

@[simp] theorem State.engineResetDone_pending (s : State) (d e : Nat) : (State.engineResetDone s d e).pending = s.pending := by
  unfold State.engineResetDone
  repeat' first
    | with_reducible rfl
    | with_reducible refine Eq.trans (State.clrBit_pending _ _ _ _) ?_
    | with_reducible refine Eq.trans (State.clusterUp_pending _ _ _) ?_
    | with_reducible refine Eq.trans (State.engineSwitch_pending _ _ _) ?_
    | with_reducible refine Eq.trans (State.initPriv_pending _ _ _ _) ?_
    | with_reducible refine Eq.trans (State.lateUnit_pending _ _) ?_
    | with_reducible refine Eq.trans (State.modEng_pending _ _ _ _) ?_
    | with_reducible refine Eq.trans (State.putFlag_pending _ _ _ _) ?_
    | with_reducible refine Eq.trans (State.raise_pending _ _ _ _) ?_
    | with_reducible refine Eq.trans (State.setBit_pending _ _ _ _) ?_
    | with_reducible refine Eq.trans (State.setCl_pending _ _ _ _) ?_
    | with_reducible refine Eq.trans (State.unfenceUnits_pending _ _) ?_
    | with_reducible refine Eq.trans (State.unitResetDone_pending _ _ _) ?_
    | with_reducible refine ite_pending' _ _ ?_ ?_

@[simp] theorem State.ibankDone_pending (s : State) (d c : Nat) (fault : Bool) : (State.ibankDone s d c fault).pending = s.pending := by
  unfold State.ibankDone
  repeat' first
    | with_reducible rfl
    | with_reducible refine Eq.trans (State.loadBank_pending _ _ _ _ _) ?_
    | with_reducible refine Eq.trans (State.put_pending _ _ _ _) ?_
    | with_reducible refine Eq.trans (State.putFlag_pending _ _ _ _) ?_
    | with_reducible refine Eq.trans (State.setCl_pending _ _ _ _) ?_
    | with_reducible refine Eq.trans (State.writePack_pending _ _ _ _ _) ?_
    | with_reducible refine ite_pending' _ _ ?_ ?_
    | dsimp only
    | split

end Sys2Proof.Machine
end

