-- ==== Sys2Proof/Laws/KeepPendingTimeOps.lean ====
section
/-! SUPPORT. The functions of Machine/TimeOps leave the queue alone. -/

namespace Sys2Proof.Machine

@[simp] theorem State.syncTime_pending (s : State) : (State.syncTime s).pending = s.pending := by rfl

@[simp] theorem State.logRate_pending (s : State) : (State.logRate s).pending = s.pending := by
  unfold State.logRate
  repeat' first
    | with_reducible rfl
    | with_reducible refine ite_pending' _ _ ?_ ?_

@[simp] theorem State.setRate_pending (s : State) (r : Int) : (State.setRate s r).pending = s.pending := by
  unfold State.setRate
  repeat' first
    | with_reducible rfl
    | with_reducible refine Eq.trans (State.logRate_pending _) ?_
    | with_reducible refine Eq.trans (State.put_pending _ _ _ _) ?_
    | with_reducible refine Eq.trans (State.putFlag_pending _ _ _ _) ?_
    | with_reducible refine ite_pending' _ _ ?_ ?_

@[simp] theorem State.servoTo_pending (s : State) (st : Nat) : (State.servoTo s st).pending = s.pending := by
  unfold State.servoTo
  repeat' first
    | with_reducible rfl
    | with_reducible refine Eq.trans (State.logRate_pending _) ?_
    | with_reducible refine Eq.trans (State.put_pending _ _ _ _) ?_
    | with_reducible refine Eq.trans (State.putFlag_pending _ _ _ _) ?_
    | with_reducible refine Eq.trans (State.syncTime_pending _) ?_
    | with_reducible refine ite_pending' _ _ ?_ ?_

@[simp] theorem State.servoLoop_pending (s : State) (i : Nat) (ofs : Int) : (State.servoLoop s i ofs).pending = s.pending := by
  unfold State.servoLoop
  repeat' first
    | with_reducible rfl
    | with_reducible refine Eq.trans (State.setRate_pending _ _) ?_

@[simp] theorem State.servoRuns_pending (s : State) (ofs : Int) : (State.servoRuns s ofs).pending = s.pending := by
  unfold State.servoRuns
  repeat' first
    | with_reducible rfl
    | with_reducible refine Eq.trans (State.servoTo_pending _ _) ?_
    | with_reducible refine ite_pending' _ _ ?_ ?_

@[simp] theorem State.schedStep_pending (s : State) (delta : Int) (auto : Bool) : (State.schedStep s delta auto).pending = s.pending := by rfl

@[simp] theorem State.servoJump_pending (s : State) (ofs : Int) : (State.servoJump s ofs).pending = s.pending := by
  unfold State.servoJump
  repeat' first
    | with_reducible rfl
    | with_reducible refine Eq.trans (State.count_pending _ _ _ _) ?_
    | with_reducible refine Eq.trans (State.putFlag_pending _ _ _ _) ?_
    | with_reducible refine Eq.trans (State.schedStep_pending _ _ _) ?_
    | with_reducible refine Eq.trans (State.servoTo_pending _ _) ?_
    | with_reducible refine ite_pending' _ _ ?_ ?_

@[simp] theorem State.measure_pending (s : State) (i : Nat) (ofs : Int) : (State.measure s i ofs).pending = s.pending := by
  unfold State.measure
  repeat' first
    | with_reducible rfl
    | with_reducible refine Eq.trans (State.put_pending _ _ _ _) ?_
    | with_reducible refine Eq.trans (State.servoJump_pending _ _) ?_
    | with_reducible refine Eq.trans (State.servoLoop_pending _ _ _) ?_
    | with_reducible refine Eq.trans (State.servoRuns_pending _ _) ?_
    | with_reducible refine Eq.trans (State.servoTo_pending _ _) ?_
    | with_reducible refine Eq.trans (State.syncTime_pending _) ?_
    | with_reducible refine ite_pending' _ _ ?_ ?_

@[simp] theorem State.reselect_pending (s : State) : (State.reselect s).pending = s.pending := by
  unfold State.reselect
  repeat' first
    | with_reducible rfl
    | with_reducible refine Eq.trans (State.put_pending _ _ _ _) ?_
    | with_reducible refine Eq.trans (State.putFlag_pending _ _ _ _) ?_
    | with_reducible refine Eq.trans (State.servoTo_pending _ _) ?_
    | with_reducible refine Eq.trans (State.syncTime_pending _) ?_
    | with_reducible refine ite_pending' _ _ ?_ ?_

@[simp] theorem State.setSource_pending (s : State) (i : Nat) (ok : Bool) : (State.setSource s i ok).pending = s.pending := by
  unfold State.setSource
  repeat' first
    | with_reducible rfl
    | with_reducible refine Eq.trans (State.reselect_pending _) ?_

@[simp] theorem State.setPulse_pending (s : State) (d n : Nat) (p : Pulse) : (State.setPulse s d n p).pending = s.pending := by rfl

@[simp] theorem State.applyPulse_pending (s : State) (d n : Nat) : (State.applyPulse s d n).pending = s.pending := by rfl

@[simp] theorem State.startPulse_pending (s : State) (d n : Nat) : (State.startPulse s d n).pending = s.pending := by rfl

@[simp] theorem State.quietPulses_pending (s : State) : (State.quietPulses s).pending = s.pending := by
  unfold State.quietPulses
  repeat' first
    | with_reducible rfl
    | intro _
    | with_reducible refine Eq.trans (State.eachDie_pending _ _ ?_) ?_
    | with_reducible refine Eq.trans (State.setPulse_pending _ _ _ _) ?_
    | with_reducible refine Eq.trans (foldl_pending _ _ _ ?_) ?_

@[simp] theorem State.gateClk_pending (s : State) (new : Nat) : (State.gateClk s new).pending = s.pending := by rfl

@[simp] theorem State.clockTick_pending (s : State) : (State.clockTick s).pending = s.pending := by
  unfold State.clockTick
  repeat' first
    | with_reducible rfl
    | intro _
    | with_reducible refine Eq.trans (State.eachDie_pending _ _ ?_) ?_
    | with_reducible refine Eq.trans (State.put_pending _ _ _ _) ?_
    | with_reducible refine Eq.trans (State.putFlag_pending _ _ _ _) ?_
    | with_reducible refine ite_pending' _ _ ?_ ?_

@[simp] theorem State.tick_pending (s : State) : (State.tick s).pending = s.pending := by
  unfold State.tick
  repeat' first
    | with_reducible rfl
    | with_reducible refine Eq.trans (State.clockTick_pending _) ?_
    | with_reducible refine ite_pending' _ _ ?_ ?_

end Sys2Proof.Machine
end

