-- ==== Sys2Proof/Laws/KeepPendingTime.lean ====
section
/-! SUPPORT. The functions of Machine/Time leave the queue alone. -/

namespace Sys2Proof.Machine

@[simp] theorem State.timIgnore_pending (s : State) : (State.timIgnore s).pending = s.pending := by rfl

@[simp] theorem State.capture_pending (s : State) (d n : Nat) (rising : Bool) : (State.capture s d n rising).pending = s.pending := by
  unfold State.capture
  repeat' first
    | with_reducible rfl
    | with_reducible refine Eq.trans (State.count_pending _ _ _ _) ?_
    | with_reducible refine Eq.trans (State.put_pending _ _ _ _) ?_
    | with_reducible refine Eq.trans (State.putFlag_pending _ _ _ _) ?_
    | with_reducible refine Eq.trans (State.setBit_pending _ _ _ _) ?_
    | with_reducible refine ite_pending' _ _ ?_ ?_

@[simp] theorem State.measureFrom_pending (s : State) (kind d n : Nat) (ofs : Int) : (State.measureFrom s kind d n ofs).pending = s.pending := by
  unfold State.measureFrom
  repeat' first
    | with_reducible rfl
    | with_reducible refine Eq.trans (State.measure_pending _ _ _) ?_
    | split

@[simp] theorem State.nearestSecond_pending (s : State) (ns : Nat) : (State.nearestSecond s ns).2.pending = s.pending := by
  unfold State.nearestSecond
  repeat' first
    | with_reducible rfl
    | with_reducible refine ite_snd_pending _ _ ?_ ?_
    | with_reducible refine Eq.trans (State.freeVal_pending _ _) ?_

@[simp] theorem State.leap_pending (s : State) (n : Int) : (State.leap s n).pending = s.pending := by
  unfold State.leap
  repeat' first
    | with_reducible rfl
    | with_reducible refine Eq.trans (State.put_pending _ _ _ _) ?_
    | with_reducible refine Eq.trans (State.putFlag_pending _ _ _ _) ?_
    | with_reducible refine ite_pending' _ _ ?_ ?_

@[simp] theorem State.endPulse_pending (s : State) (d n : Nat) : (State.endPulse s d n).pending = s.pending := by
  unfold State.endPulse
  repeat' first
    | with_reducible rfl
    | with_reducible refine Eq.trans (State.applyPulse_pending _ _ _) ?_
    | with_reducible refine Eq.trans (State.put_pending _ _ _ _) ?_
    | with_reducible refine Eq.trans (State.setBit_pending _ _ _ _) ?_
    | with_reducible refine Eq.trans (State.setPulse_pending _ _ _ _) ?_
    | with_reducible refine ite_pending' _ _ ?_ ?_

@[simp] theorem State.clkoutFreq_pending (s : State) (freq : Nat) : (State.clkoutFreq s freq).pending = s.pending := by
  unfold State.clkoutFreq
  repeat' first
    | with_reducible rfl
    | with_reducible refine Eq.trans (State.gateClk_pending _ _) ?_
    | with_reducible refine Eq.trans (State.put_pending _ _ _ _) ?_
    | with_reducible refine ite_pending' _ _ ?_ ?_

@[simp] theorem State.runBmca_pending (s : State) : (State.runBmca s).pending = s.pending := by
  unfold State.runBmca
  repeat' first
    | with_reducible rfl
    | intro _
    | with_reducible refine Eq.trans (State.put_pending _ _ _ _) ?_
    | with_reducible refine Eq.trans (foldl_pending _ _ _ ?_) ?_

end Sys2Proof.Machine
end

