-- ==== Sys2Proof/Laws/KeepPendingEthRx.lean ====
section
/-! SUPPORT. The functions of Machine/EthRx leave the queue alone. -/

namespace Sys2Proof.Machine

@[simp] theorem State.setPause_pending (s : State) (d p i quanta : Nat) : (State.setPause s d p i quanta).pending = s.pending := by
  unfold State.setPause
  repeat' first
    | with_reducible rfl
    | with_reducible refine Eq.trans (State.clrBit_pending _ _ _ _) ?_
    | with_reducible refine Eq.trans (State.modPort_pending _ _ _ _) ?_
    | with_reducible refine Eq.trans (State.putFlag_pending _ _ _ _) ?_
    | with_reducible refine Eq.trans (State.setBit_pending _ _ _ _) ?_
    | with_reducible refine Eq.trans (State.syncCredits_pending _ _ _) ?_
    | with_reducible refine ite_pending' _ _ ?_ ?_

@[simp] theorem State.macControl_pending (s : State) (d p : Nat) (bs : List Byte) : (State.macControl s d p bs).pending = s.pending := by
  unfold State.macControl
  repeat' first
    | with_reducible rfl
    | intro _
    | with_reducible refine Eq.trans (State.count_pending _ _ _ _) ?_
    | with_reducible refine Eq.trans (State.setPause_pending _ _ _ _ _) ?_
    | with_reducible refine ite_pending' _ _ ?_ ?_
    | with_reducible refine Eq.trans (foldl_pending _ _ _ ?_) ?_

@[simp] theorem State.syncKeys_pending (s : State) (d k : Nat) : (State.syncKeys s d k).pending = s.pending := by rfl

@[simp] theorem State.insertKey_pending (s : State) (d k : Nat) (key : Nat × Nat) : (State.insertKey s d k key).pending = s.pending := by
  unfold State.insertKey
  repeat' first
    | with_reducible rfl
    | with_reducible refine Eq.trans (State.count_pending _ _ _ _) ?_
    | with_reducible refine Eq.trans (State.modPair_pending _ _ _ _) ?_
    | with_reducible refine Eq.trans (State.putFlag_pending _ _ _ _) ?_
    | with_reducible refine Eq.trans (State.syncKeys_pending _ _ _) ?_
    | with_reducible refine ite_pending' _ _ ?_ ?_

@[simp] theorem State.dupDiscard_pending (s : State) (d p sa : Nat) (r : RedTag) : (State.dupDiscard s d p sa r).2.pending = s.pending := by
  unfold State.dupDiscard
  repeat' first
    | with_reducible rfl
    | with_reducible refine ite_snd_pending _ _ ?_ ?_
    | with_reducible refine Eq.trans (State.count_pending _ _ _ _) ?_
    | with_reducible refine Eq.trans (State.insertKey_pending _ _ _ _) ?_
    | with_reducible refine ite_pending' _ _ ?_ ?_

@[simp] theorem State.hsrForward_pending (s : State) (d p : Nat) (x : Frame) (bs : List Byte) (prio : Nat) (r : RedTag) : (State.hsrForward s d p x bs prio r).pending = s.pending := by
  unfold State.hsrForward
  repeat' first
    | with_reducible rfl
    | with_reducible refine Eq.trans (State.countDrop_pending _ _ _ _) ?_
    | with_reducible refine Eq.trans (State.dropFrame_pending _ _ _ _) ?_
    | with_reducible refine Eq.trans (State.rxStore_pending _ _ _ _ _ _ _ _ _ (by with_reducible assumption)) ?_
    | with_reducible refine Eq.trans (State.takeIn_pending _ _ _ _ _ _ _ _) ?_
    | with_reducible refine ite_pending' _ _ ?_ ?_
    | dsimp only
    | split

@[simp] theorem State.ptpUtc_pending (s : State) (offset flags : Nat) : (State.ptpUtc s offset flags).pending = s.pending := by
  unfold State.ptpUtc
  repeat' first
    | with_reducible rfl
    | with_reducible refine Eq.trans (State.put_pending _ _ _ _) ?_
    | with_reducible refine Eq.trans (State.putFlag_pending _ _ _ _) ?_
    | with_reducible refine ite_pending' _ _ ?_ ?_

@[simp] theorem State.ptpRx_pending (s : State) (b : PtpBlk) (bs : List Byte) (off : Nat) : (State.ptpRx s b bs off).pending = s.pending := by
  unfold State.ptpRx
  repeat' first
    | with_reducible rfl
    | with_reducible refine Eq.trans (State.count_pending _ _ _ _) ?_
    | with_reducible refine Eq.trans (State.ptpUtc_pending _ _ _) ?_
    | with_reducible refine Eq.trans (State.runBmca_pending _) ?_
    | with_reducible refine ite_pending' _ _ ?_ ?_

@[simp] theorem State.dropLen_pending (s : State) (d p : Nat) (e : LenFail) (stamp sa : Nat) : (State.dropLen s d p e stamp sa).pending = s.pending := by
  unfold State.dropLen
  repeat' first
    | with_reducible rfl
    | with_reducible refine Eq.trans (State.count_pending _ _ _ _) ?_
    | with_reducible refine Eq.trans (State.portRec_pending _ _ _ _ _ _ _ _ _ _) ?_
    | with_reducible refine Eq.trans (State.put_pending _ _ _ _) ?_
    | with_reducible refine Eq.trans (State.putFlag_pending _ _ _ _) ?_
    | with_reducible refine ite_pending' _ _ ?_ ?_

@[simp] theorem State.rxDeliver_pending (s : State) (d p : Nat) (bs : List Byte) (ps : Parsed) (x : Frame) (red : Option RedTag) : (State.rxDeliver s d p bs ps x red).pending = s.pending := by
  unfold State.rxDeliver
  repeat' first
    | with_reducible rfl
    | with_reducible refine Eq.trans (State.bindRx_pending _ _ _ _ _ _ _ _ _ _) ?_
    | with_reducible refine Eq.trans (State.dupDiscard_pending _ _ _ _ _) ?_
    | with_reducible refine Eq.trans (State.hsrForward_pending _ _ _ _ _ _ _) ?_
    | with_reducible refine Eq.trans (State.ptpRx_pending _ _ _ _) ?_
    | with_reducible refine ite_pending' _ _ ?_ ?_
    | split

@[simp] theorem State.cutDone_pending (s : State) (d p f : Nat) (bs : List Byte) (x : Frame) : (State.cutDone s d p f bs x).pending = s.pending := by
  unfold State.cutDone
  repeat' first
    | with_reducible rfl
    | intro _
    | with_reducible refine Eq.trans (State.frameWrite_pending _ _ _ _ _ _ _) ?_
    | with_reducible refine Eq.trans (State.freeCell_pending _ _ _) ?_
    | with_reducible refine Eq.trans (State.modPort_pending _ _ _ _) ?_
    | with_reducible refine Eq.trans (State.padWords_pending _ _) ?_
    | with_reducible refine Eq.trans (State.put_pending _ _ _ _) ?_
    | with_reducible refine Eq.trans (State.setFrame_pending _ _ _) ?_
    | with_reducible refine Eq.trans (State.tshDebit_pending _ _ _ _ _) ?_
    | with_reducible refine Eq.trans (State.unchargeTenant_pending _ _ _ _) ?_
    | with_reducible refine Eq.trans (foldl_pending _ _ _ ?_) ?_

@[simp] theorem State.receive_pending (s : State) (d p : Nat) (bs : List Byte) (symErr fcsOk : Bool) (red : Option RedTag) : (State.receive s d p bs symErr fcsOk red).pending = s.pending := by
  unfold State.receive
  repeat' first
    | with_reducible rfl
    | with_reducible refine Eq.trans (State.count_pending _ _ _ _) ?_
    | with_reducible refine Eq.trans (State.cutDone_pending _ _ _ _ _ _) ?_
    | with_reducible refine Eq.trans (State.dropLen_pending _ _ _ _ _ _) ?_
    | with_reducible refine Eq.trans (State.endReception_pending _ _ _ _) ?_
    | with_reducible refine Eq.trans (State.macControl_pending _ _ _ _) ?_
    | with_reducible refine Eq.trans (State.modPort_pending _ _ _ _) ?_
    | with_reducible refine Eq.trans (State.putFlag_pending _ _ _ _) ?_
    | with_reducible refine Eq.trans (State.rxDeliver_pending _ _ _ _ _ _ _) ?_
    | with_reducible refine ite_pending' _ _ ?_ ?_
    | dsimp only
    | split

@[simp] theorem State.cutStart_pending (s : State) (d p : Nat) (bs : List Byte) : (State.cutStart s d p bs).pending = s.pending := by
  unfold State.cutStart
  repeat' first
    | with_reducible rfl
    | with_reducible refine Eq.trans (State.captureTo_pending _ _ _ _) ?_
    | with_reducible refine Eq.trans (State.count_pending _ _ _ _) ?_
    | with_reducible refine Eq.trans (State.countDrop_pending _ _ _ _) ?_
    | with_reducible refine Eq.trans (State.dropFrame_pending _ _ _ _) ?_
    | with_reducible refine Eq.trans (State.modPort_pending _ _ _ _) ?_
    | with_reducible refine Eq.trans (State.rxStore_pending _ _ _ _ _ _ _ _ _ (by with_reducible assumption)) ?_
    | with_reducible refine Eq.trans (State.setVoq_pending _ _ _) ?_
    | with_reducible refine Eq.trans (State.syncCredits_pending _ _ _) ?_
    | with_reducible refine Eq.trans (State.takeIn_pending _ _ _ _ _ _ _ _) ?_
    | with_reducible refine ite_pending' _ _ ?_ ?_
    | dsimp only
    | split

end Sys2Proof.Machine
end

