-- ==== Sys2Proof/Laws/KeepPendingEthernet.lean ====
section
/-! SUPPORT. The functions of Machine/Ethernet leave the queue alone. -/

namespace Sys2Proof.Machine

@[simp] theorem State.putPartner_pending (s : State) (d p : Nat) (r : LinkResult) : (State.putPartner s d p r).pending = s.pending := by rfl

@[simp] theorem State.headCheck_pending (s : State) (d p f : Nat) : (State.headCheck s d p f).pending = s.pending := by
  unfold State.headCheck
  repeat' first
    | with_reducible rfl
    | with_reducible refine Eq.trans (State.egressDrop_pending _ _ _ _ _) ?_
    | with_reducible refine Eq.trans (State.modPort_pending _ _ _ _) ?_
    | with_reducible refine Eq.trans (State.putFlag_pending _ _ _ _) ?_
    | with_reducible refine ite_pending' _ _ ?_ ?_

@[simp] theorem State.headArrive_pending (s : State) (d p q : Nat) (x0 : Nat) : (State.headArrive s d p q x0).pending = s.pending := by
  induction x0 generalizing s d p q with
  | zero =>
    unfold State.headArrive
    repeat' first
      | with_reducible rfl
  | succ _ ih =>
    unfold State.headArrive
    repeat' first
      | with_reducible rfl
      | with_reducible refine Eq.trans (ih _ _ _ _) ?_
      | with_reducible refine Eq.trans (State.headCheck_pending _ _ _ _) ?_
      | with_reducible refine ite_pending' _ _ ?_ ?_
      | dsimp only
      | split

@[simp] theorem State.heads_pending (s : State) (d p : Nat) : (State.heads s d p).pending = s.pending := by
  unfold State.heads
  repeat' first
    | with_reducible rfl
    | intro _
    | with_reducible refine Eq.trans (State.headArrive_pending _ _ _ _ _) ?_
    | with_reducible refine Eq.trans (foldl_pending _ _ _ ?_) ?_

@[simp] theorem State.startFrame_pending (s : State) (d p f : Nat) : (State.startFrame s d p f).pending = s.pending := by
  unfold State.startFrame
  repeat' first
    | with_reducible rfl
    | with_reducible refine Eq.trans (State.cellsAllowed_pending _ _ _ _) ?_
    | with_reducible refine Eq.trans (State.copyGone_pending _ _ _ _) ?_
    | with_reducible refine Eq.trans (State.count_pending _ _ _ _) ?_
    | with_reducible refine Eq.trans (State.countDrop_pending _ _ _ _) ?_
    | with_reducible refine Eq.trans (State.frameRead_pending _ _ _ _ _ _ _) ?_
    | with_reducible refine Eq.trans (State.modPort_pending _ _ _ _) ?_
    | with_reducible refine Eq.trans (State.setOutQueue_pending _ _ _ _) ?_
    | with_reducible refine Eq.trans (State.stomp_pending _ _ _ _) ?_
    | with_reducible refine Eq.trans (State.tshDebit_pending _ _ _ _ _) ?_
    | with_reducible refine ite_pending' _ _ ?_ ?_

@[simp] theorem State.select_pending (s : State) (d p : Nat) (x0 : Nat) : (State.select s d p x0).pending = s.pending := by
  induction x0 generalizing s d p with
  | zero =>
    unfold State.select
    repeat' first
      | with_reducible rfl
  | succ _ ih =>
    unfold State.select
    repeat' first
      | with_reducible rfl
      | with_reducible refine Eq.trans (ih _ _ _) ?_
      | with_reducible refine Eq.trans (State.egressDrop_pending _ _ _ _ _) ?_
      | with_reducible refine Eq.trans (State.heads_pending _ _ _) ?_
      | with_reducible refine Eq.trans (State.putFlag_pending _ _ _ _) ?_
      | with_reducible refine Eq.trans (State.startFrame_pending _ _ _ _) ?_
      | dsimp only
      | split

@[simp] theorem State.txEnd_pending (s : State) (d p : Nat) : (State.txEnd s d p).pending = s.pending := by
  unfold State.txEnd
  repeat' first
    | with_reducible rfl
    | with_reducible refine Eq.trans (State.copyGone_pending _ _ _ _) ?_
    | with_reducible refine Eq.trans (State.count_pending _ _ _ _) ?_
    | with_reducible refine Eq.trans (State.emptyCredit_pending _ _ _ _) ?_
    | with_reducible refine Eq.trans (State.modPort_pending _ _ _ _) ?_
    | with_reducible refine Eq.trans (State.syncCredits_pending _ _ _) ?_
    | with_reducible refine ite_pending' _ _ ?_ ?_
    | dsimp only
    | split

end Sys2Proof.Machine
end

