-- ==== Sys2Proof/Laws/KeepPendingLace.lean ====
section
/-! SUPPORT. The functions of Machine/Lace leave the queue alone. -/

namespace Sys2Proof.Machine

@[simp] theorem State.cueEdge_pending (s : State) (d : Nat) : (State.cueEdge s d).pending = s.pending := by
  unfold State.cueEdge
  repeat' first
    | with_reducible rfl
    | with_reducible refine Eq.trans (State.cueAct_pending _ _ _ _) ?_
    | with_reducible refine Eq.trans (State.putFlag_pending _ _ _ _) ?_
    | dsimp only
    | split

end Sys2Proof.Machine
end

