-- ==== Sys2Proof/Laws/KeepPendingRecorder.lean ====
section
/-! SUPPORT. The functions of Machine/Recorder leave the queue alone. -/

namespace Sys2Proof.Machine

@[simp] theorem State.markTick_pending (s : State) (d : Nat) : (State.markTick s d).pending = s.pending := by
  unfold State.markTick
  repeat' first
    | with_reducible rfl
    | with_reducible refine Eq.trans (State.markRec_pending _ _ _ _) ?_
    | with_reducible refine Eq.trans (State.putFlag_pending _ _ _ _) ?_
    | with_reducible refine Eq.trans (State.writeLosses_pending _ _) ?_
    | with_reducible refine ite_pending' _ _ ?_ ?_

@[simp] theorem State.snapFirst_pending (s : State) (d : Nat) : (State.snapFirst s d).2.pending = s.pending := by
  unfold State.snapFirst
  repeat' first
    | with_reducible rfl
    | with_reducible refine Eq.trans (State.freeVal_pending _ _) ?_
    | split

@[simp] theorem State.snapTake_pending (s : State) (d k : Nat) : (State.snapTake s d k).pending = s.pending := by
  unfold State.snapTake
  repeat' first
    | with_reducible rfl
    | with_reducible refine Eq.trans (State.put_pending _ _ _ _) ?_
    | with_reducible refine Eq.trans (State.putFlag_pending _ _ _ _) ?_
    | with_reducible refine Eq.trans (State.snapFirst_pending _ _) ?_
    | with_reducible refine Eq.trans (State.writeLosses_pending _ _) ?_

@[simp] theorem State.formSegment_pending (s : State) (d : Nat) (p : RecPart) (bs : List Nat) (sflags : Nat) : (State.formSegment s d p bs sflags).pending = s.pending := by
  unfold State.formSegment
  repeat' first
    | with_reducible rfl
    | with_reducible refine Eq.trans (State.put_pending _ _ _ _) ?_
    | with_reducible refine Eq.trans (State.putFlag_pending _ _ _ _) ?_
    | with_reducible refine Eq.trans (State.setRecDie_pending _ _ _) ?_
    | with_reducible refine ite_pending' _ _ ?_ ?_

@[simp] theorem State.closeSegment_pending (s : State) (d sflags : Nat) : (State.closeSegment s d sflags).pending = s.pending := by
  unfold State.closeSegment
  repeat' first
    | with_reducible rfl
    | with_reducible refine Eq.trans (State.closeCur_pending _ _) ?_
    | with_reducible refine Eq.trans (State.formSegment_pending _ _ _ _ _) ?_
    | with_reducible refine Eq.trans (State.syncOcc_pending _ _) ?_
    | with_reducible refine ite_pending' _ _ ?_ ?_
    | dsimp only
    | split

@[simp] theorem State.setArcIndex_pending (s : State) (d k : Nat) (p : RecPart) : (State.setArcIndex s d k p).pending = s.pending := by
  unfold State.setArcIndex
  repeat' first
    | with_reducible rfl
    | with_reducible refine Eq.trans (State.vatStore_pending _ _ _ _) ?_

@[simp] theorem State.segWritten_pending (s : State) (d : Nat) (w : SegWrite) : (State.segWritten s d w).pending = s.pending := by
  unfold State.segWritten
  repeat' first
    | with_reducible rfl
    | intro _
    | with_reducible refine Eq.trans (State.put_pending _ _ _ _) ?_
    | with_reducible refine Eq.trans (State.putFlag_pending _ _ _ _) ?_
    | with_reducible refine Eq.trans (State.setArcIndex_pending _ _ _ _) ?_
    | with_reducible refine Eq.trans (State.setRblock_pending _ _ _ _) ?_
    | with_reducible refine Eq.trans (State.setRecDie_pending _ _ _) ?_
    | with_reducible refine Eq.trans (State.syncOcc_pending _ _) ?_
    | with_reducible refine ite_pending' _ _ ?_ ?_
    | with_reducible refine Eq.trans (foldl_pending _ _ _ ?_) ?_
    | dsimp only
    | split

@[simp] theorem State.resubmit_pending (s : State) (d tag tries : Nat) : (State.resubmit s d tag tries).pending = s.pending := by rfl

@[simp] theorem State.segFailed_pending (s : State) (d : Nat) (w : SegWrite) : (State.segFailed s d w).pending = s.pending := by
  unfold State.segFailed
  repeat' first
    | with_reducible rfl
    | with_reducible refine Eq.trans (State.putFlag_pending _ _ _ _) ?_
    | with_reducible refine Eq.trans (State.resubmit_pending _ _ _ _) ?_
    | with_reducible refine ite_pending' _ _ ?_ ?_

@[simp] theorem State.retryArchive_pending (s : State) (d : Nat) : (State.retryArchive s d).pending = s.pending := by
  unfold State.retryArchive
  repeat' first
    | with_reducible rfl
    | intro _
    | with_reducible refine Eq.trans (State.resubmit_pending _ _ _ _) ?_
    | with_reducible refine ite_pending' _ _ ?_ ?_
    | with_reducible refine Eq.trans (foldl_pending _ _ _ ?_) ?_

@[simp] theorem State.gaspSegments_pending (s : State) (n : Nat) : (s.gaspSegments n).pending = s.pending := by
  induction n generalizing s with
  | zero => rfl
  | succ n ih =>
    unfold State.gaspSegments
    split
    · rw [ih, State.eachDie_pending]
      intro d a; dsimp only; repeat' split
      all_goals simp
    · rfl

@[simp] theorem State.gaspDone_pending (s : State) : (State.gaspDone s).pending = s.pending := by
  unfold State.gaspDone
  repeat' first
    | with_reducible rfl
    | intro _
    | with_reducible refine Eq.trans (State.eachDie_pending _ _ ?_) ?_
    | with_reducible refine Eq.trans (State.putFlag_pending _ _ _ _) ?_

@[simp] theorem State.gaspWith_pending (s : State) (code : Nat) : (State.gaspWith s code).pending = s.pending := by
  unfold State.gaspWith
  repeat' first
    | with_reducible rfl
    | intro _
    | with_reducible refine Eq.trans (State.closeCur_pending _ _) ?_
    | with_reducible refine Eq.trans (State.eachDie_pending _ _ ?_) ?_
    | with_reducible refine Eq.trans (State.formSegment_pending _ _ _ _ _) ?_
    | with_reducible refine Eq.trans (State.gaspDone_pending _) ?_
    | with_reducible refine Eq.trans (State.gaspSegments_pending _ _) ?_
    | with_reducible refine Eq.trans (State.putFlag_pending _ _ _ _) ?_
    | with_reducible refine Eq.trans (State.syncOcc_pending _ _) ?_
    | with_reducible refine Eq.trans (State.sysRec_pending _ _ _ _ _) ?_
    | with_reducible refine Eq.trans (State.writeLoss_pending _ _ _) ?_
    | with_reducible refine ite_pending' _ _ ?_ ?_
    | with_reducible refine Eq.trans (foldl_pending _ _ _ ?_) ?_
    | dsimp only
    | split

@[simp] theorem State.startGasp_pending (s : State) (cause : GaspCause) : (State.startGasp s cause).pending = s.pending := by
  unfold State.startGasp
  repeat' first
    | with_reducible rfl
    | with_reducible refine Eq.trans (State.gaspWith_pending _ _) ?_

@[simp] theorem State.gaspEnd_pending (s : State) (written : Nat) : (State.gaspEnd s written).pending = s.pending := by
  unfold State.gaspEnd
  repeat' first
    | with_reducible rfl
    | with_reducible refine Eq.trans (State.gaspDone_pending _) ?_
    | with_reducible refine ite_pending' _ _ ?_ ?_

@[simp] theorem State.continueStream_pending (s : State) (d : Nat) (found : Bool) (h : Nat) (missing : List MissingLoss) : (State.continueStream s d found h missing).pending = s.pending := by
  unfold State.continueStream
  repeat' first
    | with_reducible rfl
    | intro _
    | with_reducible refine Eq.trans (State.freeVal_pending _ _) ?_
    | with_reducible refine Eq.trans (State.markRec_pending _ _ _ _) ?_
    | with_reducible refine Eq.trans (State.put_pending _ _ _ _) ?_
    | with_reducible refine Eq.trans (State.sysRec_pending _ _ _ _ _) ?_
    | with_reducible refine ite_pending' _ _ ?_ ?_
    | with_reducible refine Eq.trans (foldl_pending _ _ _ ?_) ?_

@[simp] theorem State.bootContinue_pending (s : State) (missing : List MissingLoss) : (State.bootContinue s missing).pending = s.pending := by
  unfold State.bootContinue
  repeat' first
    | with_reducible rfl
    | intro _
    | with_reducible refine Eq.trans (State.continueStream_pending _ _ _ _ _) ?_
    | with_reducible refine Eq.trans (State.eachDie_pending _ _ ?_) ?_
    | with_reducible refine Eq.trans (State.put_pending _ _ _ _) ?_
    | with_reducible refine Eq.trans (State.putFlag_pending _ _ _ _) ?_
    | with_reducible refine Eq.trans (State.storeRec_pending _ _ _) ?_
    | with_reducible refine Eq.trans (foldl_pending _ _ _ ?_) ?_

@[simp] theorem State.foreignParts_pending (s : State) (dies : List Nat) : (State.foreignParts s dies).pending = s.pending := by
  unfold State.foreignParts
  repeat' first
    | with_reducible rfl
    | intro _
    | with_reducible refine Eq.trans (State.eachDie_pending _ _ ?_) ?_
    | with_reducible refine Eq.trans (State.putFlag_pending _ _ _ _) ?_
    | with_reducible refine Eq.trans (State.setRecDie_pending _ _ _) ?_
    | with_reducible refine ite_pending' _ _ ?_ ?_

@[simp] theorem State.clearStream_pending (s : State) (d upto lim : Nat) (whole : Bool) : (State.clearStream s d upto lim whole).2.2.pending = s.pending := by
  unfold State.clearStream
  repeat' first
    | with_reducible rfl
    | intro _
    | with_reducible refine Eq.trans (State.endSnaps_pending _ _ _) ?_
    | with_reducible refine Eq.trans (State.put_pending _ _ _ _) ?_
    | with_reducible refine Eq.trans (State.setArcIndex_pending _ _ _ _) ?_
    | with_reducible refine Eq.trans (State.setRblock_pending _ _ _ _) ?_
    | with_reducible refine Eq.trans (State.setRecDie_pending _ _ _) ?_
    | with_reducible refine Eq.trans (State.syncOcc_pending _ _) ?_
    | with_reducible refine Eq.trans (foldl_pending _ _ _ ?_) ?_
    | split

@[simp] theorem State.clearOne_pending (s : State) (t : List Byte) (check : Nat) (cut : Option Nat) (d : Nat) : (State.clearOne s t check cut d).pending = s.pending := by
  unfold State.clearOne
  repeat' first
    | with_reducible rfl
    | with_reducible refine Eq.trans (State.clearStream_pending _ _ _ _ _) ?_
    | with_reducible refine Eq.trans (State.putFlag_pending _ _ _ _) ?_
    | with_reducible refine Eq.trans (State.sysRec_pending _ _ _ _ _) ?_
    | split

@[simp] theorem State.clearGo_pending (s : State) (cut : Option Nat) : (State.clearGo s cut).pending = s.pending := by
  unfold State.clearGo
  repeat' first
    | with_reducible rfl
    | intro _
    | with_reducible refine Eq.trans (State.clearOne_pending _ _ _ _ _) ?_
    | with_reducible refine Eq.trans (State.put_pending _ _ _ _) ?_
    | with_reducible refine Eq.trans (State.putFlag_pending _ _ _ _) ?_
    | with_reducible refine Eq.trans (foldl_pending _ _ _ ?_) ?_

end Sys2Proof.Machine
end

