-- ==== Sys2Proof/Laws/KeepPendingRelockOps.lean ====
section
/-! SUPPORT. The functions of Machine/RelockOps leave the queue alone. -/

namespace Sys2Proof.Machine

@[simp] theorem State.serAbandon_pending (s : State) (d p : Nat) : (State.serAbandon s d p).pending = s.pending := by
  unfold State.serAbandon
  repeat' first
    | with_reducible rfl
    | with_reducible refine Eq.trans (State.modSer_pending _ _ _ _) ?_
    | with_reducible refine Eq.trans (State.putFlag_pending _ _ _ _) ?_
    | with_reducible refine Eq.trans (State.serDrop_pending _ _ _ _ _) ?_
    | split

@[simp] theorem State.abandonLines_pending (s : State) (d : Nat) : (State.abandonLines s d).pending = s.pending := by
  unfold State.abandonLines
  repeat' first
    | with_reducible rfl
    | intro _
    | with_reducible refine Eq.trans (State.modTt_pending _ _ _) ?_
    | with_reducible refine Eq.trans (State.serAbandon_pending _ _ _) ?_
    | with_reducible refine Eq.trans (foldl_pending _ _ _ ?_) ?_

@[simp] theorem State.relockBegin_pending (s : State) : (State.relockBegin s).pending = s.pending := by
  unfold State.relockBegin
  repeat' first
    | with_reducible rfl
    | intro _
    | with_reducible refine Eq.trans (State.abandonLines_pending _ _) ?_
    | with_reducible refine Eq.trans (State.eachDie_pending _ _ ?_) ?_
    | with_reducible refine Eq.trans (State.gateClk_pending _ _) ?_
    | with_reducible refine Eq.trans (State.putFlag_pending _ _ _ _) ?_
    | with_reducible refine Eq.trans (State.servoTo_pending _ _) ?_
    | with_reducible refine Eq.trans (State.syncTime_pending _) ?_
    | with_reducible refine ite_pending' _ _ ?_ ?_

@[simp] theorem State.relockEnd_pending (s : State) : (State.relockEnd s).pending = s.pending := by
  unfold State.relockEnd
  repeat' first
    | with_reducible rfl
    | intro _
    | with_reducible refine Eq.trans (State.eachDie_pending _ _ ?_) ?_
    | with_reducible refine Eq.trans (State.gateClk_pending _ _) ?_
    | with_reducible refine Eq.trans (State.putFlag_pending _ _ _ _) ?_
    | with_reducible refine Eq.trans (State.quietPulses_pending _) ?_
    | with_reducible refine Eq.trans (State.syncTime_pending _) ?_
    | with_reducible refine ite_pending' _ _ ?_ ?_

end Sys2Proof.Machine
end

