-- ==== Sys2Proof/Laws/KeepPendingSerial.lean ====
section
/-! SUPPORT. The functions of Machine/Serial leave the queue alone. -/

namespace Sys2Proof.Machine

@[simp] theorem State.ttSaw_pending (s : State) (d p ident : Nat) (ide : Bool) : (State.ttSaw s d p ident ide).pending = s.pending := by
  unfold State.ttSaw
  repeat' first
    | with_reducible rfl
    | with_reducible refine Eq.trans (State.modSer_pending _ _ _ _) ?_
    | with_reducible refine ite_pending' _ _ ?_ ?_

@[simp] theorem State.canRx_pending (s : State) (d p : Nat) (rx : SerRx) : (State.canRx s d p rx).pending = s.pending := by
  unfold State.canRx
  repeat' first
    | with_reducible rfl
    | with_reducible refine Eq.trans (State.addRec_pending _ _ _ _) ?_
    | with_reducible refine Eq.trans (State.modSer_pending _ _ _ _) ?_
    | with_reducible refine Eq.trans (State.put_pending _ _ _ _) ?_
    | with_reducible refine Eq.trans (State.subRec_pending _ _ _) ?_
    | with_reducible refine Eq.trans (State.ttSaw_pending _ _ _ _ _) ?_
    | with_reducible refine ite_pending' _ _ ?_ ?_
    | dsimp only
    | split

@[simp] theorem State.serDeliver_pending (s : State) (d p : Nat) (g : SerGood) (edgePs : Nat) : (State.serDeliver s d p g edgePs).pending = s.pending := by
  unfold State.serDeliver
  repeat' first
    | with_reducible rfl
    | with_reducible refine Eq.trans (State.bindRx_pending _ _ _ _ _ _ _ _ _ _) ?_
    | with_reducible refine Eq.trans (State.count_pending _ _ _ _) ?_
    | with_reducible refine Eq.trans (State.modSer_pending _ _ _ _) ?_
    | with_reducible refine ite_pending' _ _ ?_ ?_

@[simp] theorem State.serReceive_pending (s : State) (d p : Nat) (rx : SerRx) (edgePs : Nat) : (State.serReceive s d p rx edgePs).pending = s.pending := by
  unfold State.serReceive
  repeat' first
    | with_reducible rfl
    | with_reducible refine Eq.trans (State.canRx_pending _ _ _ _) ?_
    | with_reducible refine Eq.trans (State.count_pending _ _ _ _) ?_
    | with_reducible refine Eq.trans (State.putFlag_pending _ _ _ _) ?_
    | with_reducible refine Eq.trans (State.serDeliver_pending _ _ _ _ _) ?_
    | with_reducible refine ite_pending' _ _ ?_ ?_
    | dsimp only
    | split

@[simp] theorem State.serStart_pending (s : State) (d p f : Nat) (excl : Bool) : (State.serStart s d p f excl).pending = s.pending := by
  unfold State.serStart
  repeat' first
    | with_reducible rfl
    | with_reducible refine Eq.trans (State.cellsAllowed_pending _ _ _ _) ?_
    | with_reducible refine Eq.trans (State.dropFrame_pending _ _ _ _) ?_
    | with_reducible refine Eq.trans (State.frameRead_pending _ _ _ _ _ _ _) ?_
    | with_reducible refine Eq.trans (State.leaveOutput_pending _ _ _ _) ?_
    | with_reducible refine Eq.trans (State.modSer_pending _ _ _ _) ?_
    | with_reducible refine Eq.trans (State.putFlag_pending _ _ _ _) ?_
    | with_reducible refine Eq.trans (State.syncFifo_pending _ _ _) ?_
    | with_reducible refine Eq.trans (State.ttSaw_pending _ _ _ _ _) ?_
    | with_reducible refine ite_pending' _ _ ?_ ?_

@[simp] theorem State.enterDetect_pending (s : State) (d p : Nat) : (State.enterDetect s d p).pending = s.pending := by rfl

@[simp] theorem State.serTxEnd_pending (s : State) (d p : Nat) (out : SerTxOutcome) : (State.serTxEnd s d p out).pending = s.pending := by
  unfold State.serTxEnd
  repeat' first
    | with_reducible rfl
    | with_reducible refine Eq.trans (State.addTec_pending _ _ _ _) ?_
    | with_reducible refine Eq.trans (State.count_pending _ _ _ _) ?_
    | with_reducible refine Eq.trans (State.doneWith_pending _ _) ?_
    | with_reducible refine Eq.trans (State.enterDetect_pending _ _ _) ?_
    | with_reducible refine Eq.trans (State.leaveOutput_pending _ _ _ _) ?_
    | with_reducible refine Eq.trans (State.modSer_pending _ _ _ _) ?_
    | with_reducible refine Eq.trans (State.put_pending _ _ _ _) ?_
    | with_reducible refine Eq.trans (State.putFlag_pending _ _ _ _) ?_
    | with_reducible refine Eq.trans (State.serDrop_pending _ _ _ _ _) ?_
    | with_reducible refine Eq.trans (State.subTec_pending _ _ _) ?_
    | with_reducible refine Eq.trans (State.syncFifo_pending _ _ _) ?_
    | with_reducible refine Eq.trans (State.txDone_pending _ _) ?_
    | with_reducible refine ite_pending' _ _ ?_ ?_
    | dsimp only
    | split

@[simp] theorem State.detectResult_pending (s : State) (d p : Nat) (shortest : Option Nat) (frames : Bool) : (State.detectResult s d p shortest frames).2.pending = s.pending := by
  unfold State.detectResult
  repeat' first
    | with_reducible rfl
    | with_reducible refine ite_snd_pending _ _ ?_ ?_
    | with_reducible refine Eq.trans (State.freeVal_pending _ _) ?_
    | dsimp only
    | split

@[simp] theorem State.ttCycle_pending (s : State) (d p cycle : Nat) : (State.ttCycle s d p cycle).pending = s.pending := by rfl

@[simp] theorem State.ttMasterIs_pending (s : State) (d p prio : Nat) (me : Bool) : (State.ttMasterIs s d p prio me).pending = s.pending := by
  unfold State.ttMasterIs
  repeat' first
    | with_reducible rfl
    | with_reducible refine Eq.trans (State.count_pending _ _ _ _) ?_
    | with_reducible refine Eq.trans (State.modSer_pending _ _ _ _) ?_
    | with_reducible refine Eq.trans (State.put_pending _ _ _ _) ?_
    | with_reducible refine Eq.trans (State.putFlag_pending _ _ _ _) ?_
    | with_reducible refine Eq.trans (State.serRec_pending _ _ _ _ _ _) ?_
    | with_reducible refine ite_pending' _ _ ?_ ?_

@[simp] theorem State.ttMiss_pending (s : State) (d p : Nat) : (State.ttMiss s d p).pending = s.pending := by rfl

@[simp] theorem State.ttTrigger_pending (s : State) (d p i : Nat) (idle : Bool) : (State.ttTrigger s d p i idle).pending = s.pending := by
  unfold State.ttTrigger
  repeat' first
    | with_reducible rfl
    | with_reducible refine Eq.trans (State.modSer_pending _ _ _ _) ?_
    | with_reducible refine Eq.trans (State.serStart_pending _ _ _ _ _) ?_
    | with_reducible refine Eq.trans (State.ttMiss_pending _ _ _) ?_
    | with_reducible refine ite_pending' _ _ ?_ ?_
    | dsimp only
    | split

end Sys2Proof.Machine
end

