-- ==== Sys2Proof/Laws/KeepPendingTenOps.lean ====
section
/-! SUPPORT. The functions of Machine/TenOps leave the queue alone. -/

namespace Sys2Proof.Machine

@[simp] theorem State.violation_pending (s : State) (d p t kind detail : Nat) : (State.violation s d p t kind detail).pending = s.pending := by
  unfold State.violation
  repeat' first
    | with_reducible rfl
    | with_reducible refine Eq.trans (State.count_pending _ _ _ _) ?_
    | with_reducible refine Eq.trans (State.put_pending _ _ _ _) ?_
    | with_reducible refine Eq.trans (State.putFlag_pending _ _ _ _) ?_
    | with_reducible refine ite_pending' _ _ ?_ ?_

@[simp] theorem State.pageAccess_pending (s : State) (p t off : Nat) : (State.pageAccess s p t off).pending = s.pending := by
  unfold State.pageAccess
  repeat' first
    | with_reducible rfl
    | with_reducible refine Eq.trans (State.pputFlag_pending _ _ _ _ _) ?_
    | with_reducible refine Eq.trans (State.violation_pending _ _ _ _ _ _) ?_

@[simp] theorem State.overrunBit_pending (s : State) (t : Nat) : (State.overrunBit s t).pending = s.pending := by
  unfold State.overrunBit
  repeat' first
    | with_reducible rfl
    | with_reducible refine Eq.trans (State.putFlag_pending _ _ _ _) ?_
    | with_reducible refine Eq.trans (State.setBit_pending _ _ _ _) ?_
    | with_reducible refine ite_pending' _ _ ?_ ?_

@[simp] theorem State.denied_pending (s : State) (d : Nat) : (State.denied s d).pending = s.pending := by rfl

@[simp] theorem State.takeTokens_pending (s : State) (d t n : Nat) : (State.takeTokens s d t n).pending = s.pending := by rfl

end Sys2Proof.Machine
end

