-- ==== Sys2Proof/Laws/KeepPendingHostOps.lean ====
section
/-! SUPPORT. The functions of Machine/HostOps leave the queue alone. -/

namespace Sys2Proof.Machine

@[simp] theorem State.answered_pending (s : State) (data : List Nat) : (State.answered s data).pending = s.pending := by rfl

@[simp] theorem State.refusedReq_pending (s : State) : (State.refusedReq s).pending = s.pending := by rfl

@[simp] theorem State.pciErr_pending (s : State) (p off bar len kind : Nat) (write : Bool) : (State.pciErr s p off bar len kind write).pending = s.pending := by
  unfold State.pciErr
  repeat' first
    | with_reducible rfl
    | with_reducible refine Eq.trans (State.put_pending _ _ _ _) ?_
    | with_reducible refine Eq.trans (State.putFlag_pending _ _ _ _) ?_
    | with_reducible refine ite_pending' _ _ ?_ ?_

@[simp] theorem State.abortReq_pending (s : State) (p : Nat) : (State.abortReq s p).pending = s.pending := by rfl

@[simp] theorem State.ownerDenied_pending (s : State) (p off bar len : Nat) (write : Bool) : (State.ownerDenied s p off bar len write).pending = s.pending := by
  unfold State.ownerDenied
  repeat' first
    | with_reducible rfl
    | with_reducible refine Eq.trans (State.denied_pending _ _) ?_
    | with_reducible refine Eq.trans (State.pciErr_pending _ _ _ _ _ _ _) ?_
    | with_reducible refine Eq.trans (State.putFlag_pending _ _ _ _) ?_
    | with_reducible refine Eq.trans (State.refusedReq_pending _) ?_
    | with_reducible refine ite_pending' _ _ ?_ ?_

@[simp] theorem State.alignErr_pending (s : State) (p off bar len : Nat) (write : Bool) : (State.alignErr s p off bar len write).pending = s.pending := by
  unfold State.alignErr
  repeat' first
    | with_reducible rfl
    | with_reducible refine Eq.trans (State.answered_pending _ _) ?_
    | with_reducible refine Eq.trans (State.pciErr_pending _ _ _ _ _ _ _) ?_
    | with_reducible refine Eq.trans (State.putFlag_pending _ _ _ _) ?_

@[simp] theorem State.unboundAccess_pending (s : State) (p t off : Nat) (write : Bool) : (State.unboundAccess s p t off write).pending = s.pending := by
  unfold State.unboundAccess
  repeat' first
    | with_reducible rfl
    | with_reducible refine Eq.trans (State.answered_pending _ _) ?_
    | with_reducible refine Eq.trans (State.pageAccess_pending _ _ _ _) ?_
    | with_reducible refine Eq.trans (State.violation_pending _ _ _ _ _ _) ?_
    | with_reducible refine ite_pending' _ _ ?_ ?_

@[simp] theorem State.pageGate_pending (s : State) (p t off : Nat) (write : Bool) (pasid : Option Nat) (x : State) (h : s.pageGate p t off write pasid = some x) : x.pending = s.pending := by
  unfold State.pageGate at h; try dsimp only at h
  repeat' split at h
  all_goals try contradiction
  all_goals cases h
  all_goals first | (simp; done) | ((repeat' split) <;> simp)

@[simp] theorem State.onPage_pending (s : State) (p t off : Nat) (write : Bool) (pasid : Option Nat) (k : State) (h : k.pending = s.pending) :
    (s.onPage p t off write pasid k).pending = s.pending := by
  unfold State.onPage; split
  · exact State.pageGate_pending _ _ _ _ _ _ _ (by assumption)
  · exact h

@[simp] theorem State.syncCtx_pending (s : State) (p : Nat) : (State.syncCtx s p).pending = s.pending := by rfl

@[simp] theorem State.touchCtx_pending (s : State) (p t : Nat) : (State.touchCtx s p t).pending = s.pending := by rfl

@[simp] theorem State.takeCtx_pending (s : State) (p t : Nat) (x : State) (h : s.takeCtx p t = some x) : x.pending = s.pending := by
  unfold State.takeCtx at h; dsimp only at h
  repeat' split at h
  all_goals try contradiction
  all_goals cases h
  all_goals first | (simp; done) | ((repeat' split) <;> simp)

@[simp] theorem State.freeCtx_pending (s : State) (p t : Nat) : (State.freeCtx s p t).pending = s.pending := by rfl

@[simp] theorem State.setWin_pending (s : State) (p t off v : Nat) : (State.setWin s p t off v).pending = s.pending := by rfl

@[simp] theorem State.setWinBytes_pending (s : State) (p t off : Nat) (bs : List Byte) (x0 : Nat) : (State.setWinBytes s p t off bs x0).pending = s.pending := by
  induction x0 generalizing s p t off bs with
  | zero =>
    unfold State.setWinBytes
    repeat' first
      | with_reducible rfl
  | succ _ ih =>
    unfold State.setWinBytes
    repeat' first
      | with_reducible rfl
      | with_reducible refine Eq.trans (ih _ _ _ _ _) ?_
      | with_reducible refine Eq.trans (State.setWin_pending _ _ _ _ _) ?_

@[simp] theorem State.winWrite_pending (s : State) (p t off v : Nat) : (State.winWrite s p t off v).pending = s.pending := by
  unfold State.winWrite
  repeat' first
    | with_reducible rfl
    | with_reducible refine Eq.trans (State.pageAccess_pending _ _ _ _) ?_
    | with_reducible refine Eq.trans (State.pputFlag_pending _ _ _ _ _) ?_
    | with_reducible refine Eq.trans (State.setWin_pending _ _ _ _ _) ?_
    | with_reducible refine Eq.trans (State.takeCtx_pending _ _ _ _ (by with_reducible assumption)) ?_
    | with_reducible refine ite_pending' _ _ ?_ ?_
    | split

@[simp] theorem State.gatherElem_pending (s : State) (t idx source : Nat) : (State.gatherElem s t idx source).2.pending = s.pending := by
  unfold State.gatherElem
  repeat' first
    | with_reducible rfl
    | with_reducible refine ite_snd_pending _ _ ?_ ?_
    | with_reducible refine Eq.trans (State.portRead_pending _ _ _ _ _ _) ?_
    | with_reducible refine Eq.trans (State.putFlag_pending _ _ _ _) ?_
    | with_reducible refine Eq.trans (State.readDesc_pending _ _ _ _) ?_

@[simp] theorem State.scatterElem_pending (s : State) (d t : Nat) (bs : List Byte) : (State.scatterElem s d t bs).2.pending = s.pending := by
  unfold State.scatterElem
  repeat' first
    | with_reducible rfl
    | with_reducible refine ite_snd_pending _ _ ?_ ?_
    | with_reducible refine Eq.trans (State.substitute_pending _ _ _ _ _) ?_

@[simp] theorem State.modDma_pending (s : State) (d ch : Nat) (g : DmaCh → DmaCh) : (State.modDma s d ch g).pending = s.pending := by rfl

@[simp] theorem State.slotPut_pending (s : State) (d ch : Nat) (f : Nat → Field) (x : Nat) : (State.slotPut s d ch f x).pending = s.pending := by
  unfold State.slotPut
  repeat' first
    | with_reducible rfl
    | with_reducible refine Eq.trans (State.pput_pending _ _ _ _ _) ?_
    | with_reducible refine ite_pending' _ _ ?_ ?_

@[simp] theorem State.dmaTo_pending (s : State) (d ch st : Nat) : (State.dmaTo s d ch st).pending = s.pending := by
  unfold State.dmaTo
  repeat' first
    | with_reducible rfl
    | with_reducible refine Eq.trans (State.clrBit_pending _ _ _ _) ?_
    | with_reducible refine Eq.trans (State.put_pending _ _ _ _) ?_
    | with_reducible refine Eq.trans (State.setBit_pending _ _ _ _) ?_
    | with_reducible refine Eq.trans (State.slotPut_pending _ _ _ _ _) ?_
    | with_reducible refine ite_pending' _ _ ?_ ?_

@[simp] theorem State.dmaCode_pending (s : State) (d ch code : Nat) : (State.dmaCode s d ch code).pending = s.pending := by
  unfold State.dmaCode
  repeat' first
    | with_reducible rfl
    | with_reducible refine Eq.trans (State.put_pending _ _ _ _) ?_
    | with_reducible refine Eq.trans (State.slotPut_pending _ _ _ _ _) ?_

@[simp] theorem State.dmaFlag_pending (s : State) (d ch : Nat) (f : Nat → Field) (ev : Field) : (State.dmaFlag s d ch f ev).pending = s.pending := by
  unfold State.dmaFlag
  repeat' first
    | with_reducible rfl
    | with_reducible refine Eq.trans (State.pageEvent_pending _ _ _) ?_
    | with_reducible refine Eq.trans (State.slotPut_pending _ _ _ _ _) ?_

@[simp] theorem State.dmaStopped_pending (s : State) (d ch code : Nat) : (State.dmaStopped s d ch code).pending = s.pending := by
  unfold State.dmaStopped
  repeat' first
    | with_reducible rfl
    | with_reducible refine Eq.trans (State.dmaCode_pending _ _ _ _) ?_
    | with_reducible refine Eq.trans (State.dmaFlag_pending _ _ _ _ _) ?_
    | with_reducible refine Eq.trans (State.dmaTo_pending _ _ _ _) ?_
    | with_reducible refine Eq.trans (State.setBit_pending _ _ _ _) ?_
    | with_reducible refine Eq.trans (State.slotPut_pending _ _ _ _ _) ?_
    | with_reducible refine Eq.trans (State.violation_pending _ _ _ _ _ _) ?_
    | with_reducible refine ite_pending' _ _ ?_ ?_

@[simp] theorem State.dmaEntered_pending (s : State) (d ch : Nat) (e : HcqEntry) (irq aborted : Bool) : (State.dmaEntered s d ch e irq aborted).pending = s.pending := by
  unfold State.dmaEntered
  repeat' first
    | with_reducible rfl
    | with_reducible refine Eq.trans (State.dmaCode_pending _ _ _ _) ?_
    | with_reducible refine Eq.trans (State.dmaFlag_pending _ _ _ _ _) ?_
    | with_reducible refine Eq.trans (State.dmaStopped_pending _ _ _ _) ?_
    | with_reducible refine Eq.trans (State.dmaTo_pending _ _ _ _) ?_
    | with_reducible refine Eq.trans (State.modDma_pending _ _ _ _) ?_
    | with_reducible refine Eq.trans (State.put_pending _ _ _ _) ?_
    | with_reducible refine Eq.trans (State.putFlag_pending _ _ _ _) ?_
    | with_reducible refine Eq.trans (State.slotPut_pending _ _ _ _ _) ?_
    | with_reducible refine ite_pending' _ _ ?_ ?_

@[simp] theorem State.setHcq_pending (s : State) (d : Nat) (q : Hcq) : (State.setHcq s d q).pending = s.pending := by rfl

@[simp] theorem State.hcqEnter_pending (s : State) (d : Nat) (e : HcqEntry) : (State.hcqEnter s d e).pending = s.pending := by
  unfold State.hcqEnter
  repeat' first
    | with_reducible rfl
    | with_reducible refine Eq.trans (State.dmaEntered_pending _ _ _ _ _ _) ?_
    | with_reducible refine Eq.trans (State.pputFlag_pending _ _ _ _ _) ?_
    | with_reducible refine Eq.trans (State.put_pending _ _ _ _) ?_
    | with_reducible refine Eq.trans (State.setHcq_pending _ _ _) ?_
    | with_reducible refine Eq.trans (State.writeBytes_pending _ _ _ _) ?_
    | dsimp only
    | split

@[simp] theorem State.hcqPush_pending (s : State) (d : Nat) (e : HcqEntry) : (State.hcqPush s d e).pending = s.pending := by
  unfold State.hcqPush
  repeat' first
    | with_reducible rfl
    | with_reducible refine Eq.trans (State.count_pending _ _ _ _) ?_
    | with_reducible refine Eq.trans (State.hcqEnter_pending _ _ _) ?_
    | with_reducible refine Eq.trans (State.putFlag_pending _ _ _ _) ?_
    | with_reducible refine Eq.trans (State.setHcq_pending _ _ _) ?_
    | with_reducible refine ite_pending' _ _ ?_ ?_

@[simp] theorem State.setPageCmd_pending (s : State) (p t : Nat) (c : PageCmd) : (State.setPageCmd s p t c).pending = s.pending := by rfl

@[simp] theorem State.pageDone_pending (s : State) (p t result : Nat) : (State.pageDone s p t result).pending = s.pending := by
  unfold State.pageDone
  repeat' first
    | with_reducible rfl
    | with_reducible refine Eq.trans (State.hcqPush_pending _ _ _) ?_
    | with_reducible refine Eq.trans (State.pput_pending _ _ _ _ _) ?_

@[simp] theorem State.pageElem_pending (s : State) (p t : Nat) (c : PageCmd) : (State.pageElem s p t c).pending = s.pending := by
  unfold State.pageElem
  repeat' first
    | with_reducible rfl
    | with_reducible refine Eq.trans (State.gatherElem_pending _ _ _ _) ?_
    | with_reducible refine Eq.trans (State.pput_pending _ _ _ _ _) ?_
    | with_reducible refine Eq.trans (State.scatterElem_pending _ _ _ _) ?_
    | with_reducible refine Eq.trans (State.setPageCmd_pending _ _ _ _) ?_
    | with_reducible refine Eq.trans (State.setWin_pending _ _ _ _ _) ?_
    | with_reducible refine Eq.trans (State.setWinBytes_pending _ _ _ _ _ _) ?_
    | with_reducible refine Eq.trans (State.takeTokens_pending _ _ _ _) ?_
    | with_reducible refine ite_pending' _ _ ?_ ?_

@[simp] theorem State.pageRun_pending (s : State) (p t : Nat) (x0 : Nat) : (State.pageRun s p t x0).pending = s.pending := by
  induction x0 generalizing s p t with
  | zero =>
    unfold State.pageRun
    repeat' first
      | with_reducible rfl
  | succ _ ih =>
    unfold State.pageRun
    repeat' first
      | with_reducible rfl
      | with_reducible refine Eq.trans (ih _ _ _) ?_
      | with_reducible refine Eq.trans (State.count_pending _ _ _ _) ?_
      | with_reducible refine Eq.trans (State.pageDone_pending _ _ _ _) ?_
      | with_reducible refine Eq.trans (State.pageElem_pending _ _ _ _) ?_
      | with_reducible refine ite_pending' _ _ ?_ ?_

@[simp] theorem State.pageStart_pending (s : State) (p t op n : Nat) : (State.pageStart s p t op n).pending = s.pending := by
  unfold State.pageStart
  repeat' first
    | with_reducible rfl
    | with_reducible refine Eq.trans (State.pageAccess_pending _ _ _ _) ?_
    | with_reducible refine Eq.trans (State.pageDone_pending _ _ _ _) ?_
    | with_reducible refine Eq.trans (State.pageRun_pending _ _ _ _) ?_
    | with_reducible refine Eq.trans (State.pput_pending _ _ _ _ _) ?_
    | with_reducible refine Eq.trans (State.pputFlag_pending _ _ _ _ _) ?_
    | with_reducible refine Eq.trans (State.setPageCmd_pending _ _ _ _) ?_
    | with_reducible refine Eq.trans (State.touchCtx_pending _ _ _) ?_
    | with_reducible refine ite_pending' _ _ ?_ ?_

@[simp] theorem State.mbxWake_pending (s : State) (d e : Nat) : (State.mbxWake s d e).pending = s.pending := by
  unfold State.mbxWake
  repeat' first
    | with_reducible rfl
    | with_reducible refine Eq.trans (State.putFlag_pending _ _ _ _) ?_
    | with_reducible refine ite_pending' _ _ ?_ ?_

@[simp] theorem State.ringBell_pending (s : State) (d e : Nat) : (State.ringBell s d e).pending = s.pending := by
  unfold State.ringBell
  repeat' first
    | with_reducible rfl
    | with_reducible refine Eq.trans (State.mbxWake_pending _ _ _) ?_
    | with_reducible refine Eq.trans (State.modEng_pending _ _ _ _) ?_
    | with_reducible refine Eq.trans (State.raise_pending _ _ _ _) ?_
    | with_reducible refine ite_pending' _ _ ?_ ?_

@[simp] theorem State.mbxPush_pending (s : State) (d e : Nat) (w : W16) : (State.mbxPush s d e w).2.pending = s.pending := by
  unfold State.mbxPush
  repeat' first
    | with_reducible rfl
    | with_reducible refine ite_snd_pending _ _ ?_ ?_
    | with_reducible refine Eq.trans (State.mbxWake_pending _ _ _) ?_
    | with_reducible refine Eq.trans (State.modEng_pending _ _ _ _) ?_

@[simp] theorem State.mbxOverrun_pending (s : State) (p t i d e : Nat) : (State.mbxOverrun s p t i d e).pending = s.pending := by
  unfold State.mbxOverrun
  repeat' first
    | with_reducible rfl
    | with_reducible refine Eq.trans (State.count_pending _ _ _ _) ?_
    | with_reducible refine Eq.trans (State.overrunBit_pending _ _) ?_
    | with_reducible refine Eq.trans (State.pageEvent_pending _ _ _) ?_
    | with_reducible refine Eq.trans (State.pputFlag_pending _ _ _ _ _) ?_
    | with_reducible refine Eq.trans (State.putFlag_pending _ _ _ _) ?_
    | with_reducible refine Eq.trans (State.violation_pending _ _ _ _ _ _) ?_

@[simp] theorem State.mbxTake_pending (s : State) (d e : Nat) (w : W16) (x : State) (h : s.mbxTake d e = some (w, x)) : x.pending = s.pending := by
  unfold State.mbxTake at h; dsimp only at h
  repeat' split at h
  all_goals try contradiction
  all_goals cases h
  all_goals first | (simp; done) | ((repeat' split) <;> simp)

@[simp] theorem State.mbxEmpty_pending (s : State) (d e : Nat) : (State.mbxEmpty s d e).pending = s.pending := by
  unfold State.mbxEmpty
  repeat' first
    | with_reducible rfl
    | with_reducible refine Eq.trans (State.count_pending _ _ _ _) ?_
    | with_reducible refine Eq.trans (State.modEng_pending _ _ _ _) ?_
    | with_reducible refine Eq.trans (State.putFlag_pending _ _ _ _) ?_
    | with_reducible refine ite_pending' _ _ ?_ ?_

end Sys2Proof.Machine
end

