-- ==== Sys2Proof/Laws/KeepPendingDmaOps.lean ====
section
/-! SUPPORT. The functions of Machine/DmaOps leave the queue alone. -/

namespace Sys2Proof.Machine

@[simp] theorem State.dmaEnd_pending (s : State) (d ch code : Nat) (aborted : Bool) : (State.dmaEnd s d ch code aborted).pending = s.pending := by
  unfold State.dmaEnd
  repeat' first
    | with_reducible rfl
    | with_reducible refine Eq.trans (State.hcqPush_pending _ _ _) ?_
    | with_reducible refine Eq.trans (State.modDma_pending _ _ _ _) ?_
    | with_reducible refine Eq.trans (State.put_pending _ _ _ _) ?_
    | dsimp only
    | split

@[simp] theorem State.dmaReset_pending (s : State) (d ch : Nat) : (State.dmaReset s d ch).pending = s.pending := by
  unfold State.dmaReset
  repeat' first
    | with_reducible rfl
    | with_reducible refine Eq.trans (State.dmaEnd_pending _ _ _ _ _) ?_
    | with_reducible refine Eq.trans (State.dmaStopped_pending _ _ _ _) ?_
    | with_reducible refine ite_pending' _ _ ?_ ?_

@[simp] theorem State.dmaSetCode_pending (s : State) (d ch code : Nat) : (State.dmaSetCode s d ch code).pending = s.pending := by rfl

@[simp] theorem State.dmaHostErr_pending (s : State) (d ch : Nat) : (State.dmaHostErr s d ch).pending = s.pending := by rfl

@[simp] theorem State.dmaProgress_pending (s : State) (d ch n : Nat) : (State.dmaProgress s d ch n).pending = s.pending := by
  unfold State.dmaProgress
  repeat' first
    | with_reducible rfl
    | with_reducible refine Eq.trans (State.dmaFlag_pending _ _ _ _ _) ?_
    | with_reducible refine Eq.trans (State.modDma_pending _ _ _ _) ?_
    | with_reducible refine ite_pending' _ _ ?_ ?_
    | dsimp only
    | split

@[simp] theorem State.dmaTokens_pending (s : State) (d ch n : Nat) : (State.dmaTokens s d ch n).2.pending = s.pending := by
  unfold State.dmaTokens
  repeat' first
    | with_reducible rfl
    | with_reducible refine ite_snd_pending _ _ ?_ ?_
    | with_reducible refine Eq.trans (State.count_pending _ _ _ _) ?_
    | with_reducible refine Eq.trans (State.modDma_pending _ _ _ _) ?_
    | with_reducible refine Eq.trans (State.takeTokens_pending _ _ _ _) ?_

@[simp] theorem State.banksRefused_pending (s : State) (d o n : Nat) : (State.banksRefused s d o n).pending = s.pending := by
  unfold State.banksRefused
  repeat' first
    | with_reducible rfl
    | with_reducible refine Eq.trans (State.fenceRefused_pending _ _ _) ?_
    | split

@[simp] theorem State.dmaRead_pending (s : State) (d ch : Nat) (c : DmaDesc) (pos n : Nat) (host : Option (List Byte)) : (State.dmaRead s d ch c pos n host).2.pending = s.pending := by
  unfold State.dmaRead
  repeat' first
    | with_reducible rfl
    | with_reducible refine ite_snd_pending _ _ ?_ ?_
    | with_reducible refine Eq.trans (State.banksRefused_pending _ _ _ _) ?_
    | with_reducible refine Eq.trans (State.portRead_pending _ _ _ _ _ _) ?_
    | with_reducible refine Eq.trans (State.vatAllowed_pending _ _ _ _ _ _ _) ?_
    | dsimp only
    | split

@[simp] theorem State.dmaWrite_pending (s : State) (d ch : Nat) (c : DmaDesc) (pos : Nat) (bs : List Byte) : (State.dmaWrite s d ch c pos bs).2.pending = s.pending := by
  unfold State.dmaWrite
  repeat' first
    | with_reducible rfl
    | with_reducible refine ite_snd_pending _ _ ?_ ?_
    | with_reducible refine Eq.trans (State.answered_pending _ _) ?_
    | with_reducible refine Eq.trans (State.banksRefused_pending _ _ _ _) ?_
    | with_reducible refine Eq.trans (State.modDma_pending _ _ _ _) ?_
    | with_reducible refine Eq.trans (State.vatAllowed_pending _ _ _ _ _ _ _) ?_
    | with_reducible refine Eq.trans (State.vatWrite_pending _ _ _ _ _ _) ?_
    | dsimp only
    | split

@[simp] theorem State.dmaEgress_pending (s : State) (d ch : Nat) (buf : List Byte) : (State.dmaEgress s d ch buf).2.pending = s.pending := by
  unfold State.dmaEgress
  repeat' first
    | with_reducible rfl
    | with_reducible refine ite_snd_pending _ _ ?_ ?_
    | with_reducible refine Eq.trans (State.allocTx_pending _ _ _ _ _ _ _ (by with_reducible assumption)) ?_
    | with_reducible refine Eq.trans (State.frameWrite_pending _ _ _ _ _ _ _) ?_
    | with_reducible refine Eq.trans (State.padWords_pending _ _) ?_
    | with_reducible refine Eq.trans (State.sendFrame_pending _ _ _ _) ?_
    | with_reducible refine Eq.trans (State.setFrame_pending _ _ _) ?_
    | dsimp only
    | split

@[simp] theorem State.linearBurst_pending (s : State) (d ch : Nat) (c : DmaRun) (host : Option (List Byte)) : (State.linearBurst s d ch c host).pending = s.pending := by
  unfold State.linearBurst
  repeat' first
    | with_reducible rfl
    | with_reducible refine Eq.trans (State.dmaEgress_pending _ _ _ _) ?_
    | with_reducible refine Eq.trans (State.dmaHostErr_pending _ _ _) ?_
    | with_reducible refine Eq.trans (State.dmaProgress_pending _ _ _ _) ?_
    | with_reducible refine Eq.trans (State.dmaRead_pending _ _ _ _ _ _ _) ?_
    | with_reducible refine Eq.trans (State.dmaSetCode_pending _ _ _ _) ?_
    | with_reducible refine Eq.trans (State.dmaTokens_pending _ _ _ _) ?_
    | with_reducible refine Eq.trans (State.dmaWrite_pending _ _ _ _ _ _) ?_
    | with_reducible refine ite_pending' _ _ ?_ ?_
    | dsimp only
    | split

@[simp] theorem State.gatherBurst_pending (s : State) (d ch : Nat) (host : Option (List Byte)) : (State.gatherBurst s d ch host).pending = s.pending := by
  unfold State.gatherBurst
  repeat' first
    | with_reducible rfl
    | with_reducible refine Eq.trans (State.answered_pending _ _) ?_
    | with_reducible refine Eq.trans (State.dmaHostErr_pending _ _ _) ?_
    | with_reducible refine Eq.trans (State.dmaProgress_pending _ _ _ _) ?_
    | with_reducible refine Eq.trans (State.dmaTokens_pending _ _ _ _) ?_
    | with_reducible refine Eq.trans (State.gatherElem_pending _ _ _ _) ?_
    | with_reducible refine ite_pending' _ _ ?_ ?_
    | dsimp only
    | split

@[simp] theorem State.scatterBurst_pending (s : State) (d ch : Nat) (host : Option (List Byte)) : (State.scatterBurst s d ch host).pending = s.pending := by
  unfold State.scatterBurst
  repeat' first
    | with_reducible rfl
    | with_reducible refine Eq.trans (State.answered_pending _ _) ?_
    | with_reducible refine Eq.trans (State.dmaHostErr_pending _ _ _) ?_
    | with_reducible refine Eq.trans (State.dmaProgress_pending _ _ _ _) ?_
    | with_reducible refine Eq.trans (State.dmaTokens_pending _ _ _ _) ?_
    | with_reducible refine Eq.trans (State.scatterElem_pending _ _ _ _) ?_
    | with_reducible refine ite_pending' _ _ ?_ ?_
    | dsimp only
    | split

@[simp] theorem State.circular_pending (s : State) (d ch : Nat) (c : DmaRun) : (State.circular s d ch c).pending = s.pending := by
  unfold State.circular
  repeat' first
    | with_reducible rfl
    | with_reducible refine Eq.trans (State.answered_pending _ _) ?_
    | with_reducible refine Eq.trans (State.dmaFlag_pending _ _ _ _ _) ?_
    | with_reducible refine Eq.trans (State.dmaTo_pending _ _ _ _) ?_
    | with_reducible refine Eq.trans (State.dmaTokens_pending _ _ _ _) ?_
    | with_reducible refine Eq.trans (State.doneWith_pending _ _) ?_
    | with_reducible refine Eq.trans (State.dropFrame_pending _ _ _ _) ?_
    | with_reducible refine Eq.trans (State.frameRead_pending _ _ _ _ _ _ _) ?_
    | with_reducible refine Eq.trans (State.leaveOutput_pending _ _ _ _) ?_
    | with_reducible refine Eq.trans (State.modDma_pending _ _ _ _) ?_
    | with_reducible refine Eq.trans (State.setOutQueue_pending _ _ _ _) ?_
    | with_reducible refine Eq.trans (State.slotPut_pending _ _ _ _ _) ?_
    | with_reducible refine ite_pending' _ _ ?_ ?_
    | dsimp only
    | split

end Sys2Proof.Machine
end

