-- ==== Sys2Proof/Laws/KeepPendingHostIface.lean ====
section
/-! SUPPORT. The functions of Machine/HostIface leave the queue alone. -/

namespace Sys2Proof.Machine

@[simp] theorem State.clearPages_pending (s : State) (p : Nat) : (State.clearPages s p).pending = s.pending := by rfl

@[simp] theorem State.freeContexts_pending (s : State) (p : Nat) : (State.freeContexts s p).pending = s.pending := by
  unfold State.freeContexts
  repeat' first
    | with_reducible rfl
    | intro _
    | with_reducible refine Eq.trans (State.freeCtx_pending _ _ _) ?_
    | with_reducible refine Eq.trans (foldl_pending _ _ _ ?_) ?_

@[simp] theorem State.portReset_pending (s : State) (p : Nat) (down : Bool) : (State.portReset s p down).pending = s.pending := by
  unfold State.portReset
  repeat' first
    | with_reducible rfl
    | intro _
    | with_reducible refine Eq.trans (State.clearPages_pending _ _) ?_
    | with_reducible refine Eq.trans (State.dmaReset_pending _ _ _) ?_
    | with_reducible refine Eq.trans (State.freeContexts_pending _ _) ?_
    | with_reducible refine Eq.trans (State.putFlag_pending _ _ _ _) ?_
    | with_reducible refine ite_pending' _ _ ?_ ?_
    | with_reducible refine Eq.trans (foldl_pending _ _ _ ?_) ?_

@[simp] theorem State.bar4_pending (s : State) (p d o off len : Nat) (write : Option (List Byte)) : (State.bar4 s p d o off len write).pending = s.pending := by
  unfold State.bar4
  repeat' first
    | with_reducible rfl
    | with_reducible refine Eq.trans (State.abortReq_pending _ _) ?_
    | with_reducible refine Eq.trans (State.answered_pending _ _) ?_
    | with_reducible refine Eq.trans (State.banksRefused_pending _ _ _ _) ?_
    | with_reducible refine Eq.trans (State.pciErr_pending _ _ _ _ _ _ _) ?_
    | with_reducible refine Eq.trans (State.portRead_pending _ _ _ _ _ _) ?_
    | with_reducible refine Eq.trans (State.vatViolation_pending _ _ _ _ _ _ _) ?_
    | with_reducible refine Eq.trans (State.vatWrite_pending _ _ _ _ _ _) ?_
    | with_reducible refine ite_pending' _ _ ?_ ?_
    | dsimp only
    | split

@[simp] theorem State.pageRelease_pending (s : State) (p t : Nat) : (State.pageRelease s p t).pending = s.pending := by
  unfold State.pageRelease
  repeat' first
    | with_reducible rfl
    | with_reducible refine Eq.trans (State.freeCtx_pending _ _ _) ?_
    | with_reducible refine Eq.trans (State.pageAccess_pending _ _ _ _) ?_
    | with_reducible refine Eq.trans (State.pageDone_pending _ _ _ _) ?_
    | with_reducible refine ite_pending' _ _ ?_ ?_

@[simp] theorem State.dmaCtrl_pending (s : State) (p t j d ch v : Nat) : (State.dmaCtrl s p t j d ch v).pending = s.pending := by
  unfold State.dmaCtrl
  repeat' first
    | with_reducible rfl
    | with_reducible refine Eq.trans (State.dmaTo_pending _ _ _ _) ?_
    | with_reducible refine Eq.trans (State.pageAccess_pending _ _ _ _) ?_
    | with_reducible refine Eq.trans (State.pput_pending _ _ _ _ _) ?_
    | with_reducible refine Eq.trans (State.pputFlag_pending _ _ _ _ _) ?_
    | with_reducible refine ite_pending' _ _ ?_ ?_

@[simp] theorem State.dmaAbort_pending (s : State) (d ch : Nat) : (State.dmaAbort s d ch).pending = s.pending := by
  unfold State.dmaAbort
  repeat' first
    | with_reducible rfl
    | with_reducible refine Eq.trans (State.dmaEnd_pending _ _ _ _ _) ?_
    | with_reducible refine Eq.trans (State.putFlag_pending _ _ _ _) ?_
    | with_reducible refine Eq.trans (State.slotPut_pending _ _ _ _ _) ?_
    | dsimp only
    | split

@[simp] theorem State.dmaChReset_pending (s : State) (d ch : Nat) : (State.dmaChReset s d ch).pending = s.pending := by
  unfold State.dmaChReset
  repeat' first
    | with_reducible rfl
    | with_reducible refine Eq.trans (State.dmaReset_pending _ _ _) ?_
    | with_reducible refine Eq.trans (State.put_pending _ _ _ _) ?_
    | with_reducible refine Eq.trans (State.putFlag_pending _ _ _ _) ?_
    | with_reducible refine Eq.trans (State.slotPut_pending _ _ _ _ _) ?_

@[simp] theorem State.crdWrite_pending (s : State) (t j d ch rd : Nat) : (State.crdWrite s t j d ch rd).pending = s.pending := by
  unfold State.crdWrite
  repeat' first
    | with_reducible rfl
    | with_reducible refine Eq.trans (State.dmaTo_pending _ _ _ _) ?_
    | with_reducible refine Eq.trans (State.pput_pending _ _ _ _ _) ?_
    | with_reducible refine ite_pending' _ _ ?_ ?_
    | dsimp only
    | split

end Sys2Proof.Machine
end

