-- ==== Sys2Proof/Laws/KeepPendingTenants.lean ====
section
/-! SUPPORT. The functions of Machine/Tenants leave the queue alone. -/

namespace Sys2Proof.Machine

@[simp] theorem State.tenEnd_pending (s : State) (code : Nat) : (State.tenEnd s code).pending = s.pending := by rfl

@[simp] theorem State.tenCmd_pending (s k : State) (h : k.pending = s.pending) : (s.tenCmd k).pending = s.pending := by
  unfold State.tenCmd; split <;> simp [h]

@[simp] theorem State.syncPasid_pending (s : State) (t : Nat) : (State.syncPasid s t).pending = s.pending := by
  unfold State.syncPasid
  repeat' first
    | with_reducible rfl
    | intro _
    | with_reducible refine Eq.trans (State.put_pending _ _ _ _) ?_
    | with_reducible refine ite_pending' _ _ ?_ ?_
    | with_reducible refine Eq.trans (foldl_pending _ _ _ ?_) ?_

@[simp] theorem State.staticPasid_pending (s : State) (t : Nat) : (State.staticPasid s t).pending = s.pending := by
  unfold State.staticPasid
  repeat' first
    | with_reducible rfl
    | with_reducible refine Eq.trans (State.put_pending _ _ _ _) ?_
    | with_reducible refine Eq.trans (State.putFlag_pending _ _ _ _) ?_
    | with_reducible refine Eq.trans (State.syncPasid_pending _ _) ?_

@[simp] theorem State.setPortsToken_pending (s : State) (t mask : Nat) : (State.setPortsToken s t mask).pending = s.pending := by
  unfold State.setPortsToken
  repeat' first
    | with_reducible rfl
    | intro _
    | with_reducible refine Eq.trans (State.dmaReset_pending _ _ _) ?_
    | with_reducible refine Eq.trans (State.freeCtx_pending _ _ _) ?_
    | with_reducible refine Eq.trans (State.put_pending _ _ _ _) ?_
    | with_reducible refine ite_pending' _ _ ?_ ?_
    | with_reducible refine Eq.trans (foldl_pending _ _ _ ?_) ?_

@[simp] theorem State.bindToken_pending (s : State) : (State.bindToken s).pending = s.pending := by
  unfold State.bindToken
  repeat' first
    | with_reducible rfl
    | with_reducible refine Eq.trans (State.put_pending _ _ _ _) ?_
    | with_reducible refine Eq.trans (State.putFlag_pending _ _ _ _) ?_
    | with_reducible refine Eq.trans (State.setPortsToken_pending _ _ _) ?_
    | with_reducible refine Eq.trans (State.staticPasid_pending _ _) ?_
    | with_reducible refine Eq.trans (State.syncPasid_pending _ _) ?_
    | with_reducible refine Eq.trans (State.tenEnd_pending _ _) ?_
    | with_reducible refine ite_pending' _ _ ?_ ?_
    | dsimp only
    | split

@[simp] theorem State.unbindTenant_pending (s : State) : (State.unbindTenant s).pending = s.pending := by
  unfold State.unbindTenant
  repeat' first
    | with_reducible rfl
    | with_reducible refine Eq.trans (State.put_pending _ _ _ _) ?_
    | with_reducible refine Eq.trans (State.setPortsToken_pending _ _ _) ?_
    | with_reducible refine Eq.trans (State.staticPasid_pending _ _) ?_
    | with_reducible refine Eq.trans (State.tenEnd_pending _ _) ?_

@[simp] theorem State.raiseSec_pending (s : State) : (State.raiseSec s).pending = s.pending := by
  unfold State.raiseSec
  repeat' first
    | with_reducible rfl
    | with_reducible refine Eq.trans (State.put_pending _ _ _ _) ?_
    | with_reducible refine Eq.trans (State.putFlag_pending _ _ _ _) ?_
    | with_reducible refine Eq.trans (State.tenEnd_pending _ _) ?_
    | with_reducible refine ite_pending' _ _ ?_ ?_

@[simp] theorem State.attestReport_pending (s : State) : (State.attestReport s).pending = s.pending := by
  unfold State.attestReport
  repeat' first
    | with_reducible rfl
    | intro _
    | with_reducible refine Eq.trans (State.put_pending _ _ _ _) ?_
    | with_reducible refine Eq.trans (State.tenEnd_pending _ _) ?_
    | with_reducible refine Eq.trans (foldl_pending _ _ _ ?_) ?_

end Sys2Proof.Machine
end

