-- ==== Sys2Proof/Laws/KeepPendingTte.lean ====
section
/-! SUPPORT. The functions of Machine/Tte leave the queue alone. -/

namespace Sys2Proof.Machine

@[simp] theorem State.cellOn_pending (s : State) (d : Nat) (a : TtAssign) (full : Bool) (ch : Nat) (busy : Bool) : (State.cellOn s d a full ch busy).2.pending = s.pending := by
  unfold State.cellOn
  repeat' first
    | with_reducible rfl
    | with_reducible refine ite_snd_pending _ _ ?_ ?_
    | with_reducible refine Eq.trans (State.count_pending _ _ _ _) ?_
    | with_reducible refine Eq.trans (State.putFlag_pending _ _ _ _) ?_
    | with_reducible refine Eq.trans (State.ttSends_pending _ _ _ _) ?_

@[simp] theorem State.cellStart_pending (s : State) (d w : Nat) (busyA busyB : Bool) : (State.cellStart s d w busyA busyB).pending = s.pending := by
  unfold State.cellStart
  repeat' first
    | with_reducible rfl
    | with_reducible refine Eq.trans (State.cellOn_pending _ _ _ _ _ _) ?_
    | with_reducible refine Eq.trans (State.emptyBuf_pending _ _ _) ?_
    | with_reducible refine Eq.trans (State.latchBuf_pending _ _ _) ?_
    | with_reducible refine Eq.trans (State.ttRead_pending _ _ _) ?_
    | with_reducible refine Eq.trans (State.unlatch_pending _ _ _) ?_
    | with_reducible refine ite_pending' _ _ ?_ ?_
    | dsimp only
    | split

@[simp] theorem State.arbStart_pending (s : State) (d f ch : Nat) (w : TtWindow) : (State.arbStart s d f ch w).pending = s.pending := by
  unfold State.arbStart
  repeat' first
    | with_reducible rfl
    | with_reducible refine Eq.trans (State.count_pending _ _ _ _) ?_
    | with_reducible refine Eq.trans (State.modTt_pending _ _ _) ?_
    | with_reducible refine Eq.trans (State.syncTtBuf_pending _ _) ?_
    | with_reducible refine Eq.trans (State.ttRead_pending _ _ _) ?_
    | with_reducible refine Eq.trans (State.ttRelease_pending _ _ _) ?_
    | with_reducible refine Eq.trans (State.ttSends_pending _ _ _ _) ?_
    | with_reducible refine ite_pending' _ _ ?_ ?_

@[simp] theorem State.arbAdvance_pending (s : State) (d ch : Nat) : (State.arbAdvance s d ch).pending = s.pending := by
  unfold State.arbAdvance
  repeat' first
    | with_reducible rfl
    | with_reducible refine Eq.trans (State.arbStart_pending _ _ _ _ _) ?_
    | with_reducible refine Eq.trans (State.modTt_pending _ _ _) ?_
    | with_reducible refine ite_pending' _ _ ?_ ?_
    | dsimp only
    | split

@[simp] theorem State.ttMeasure_pending (s : State) (d : Nat) (stamp : Int) (rx : TtRx) : (State.ttMeasure s d stamp rx).pending = s.pending := by
  unfold State.ttMeasure
  repeat' first
    | with_reducible rfl
    | with_reducible refine Eq.trans (State.modTt_pending _ _ _) ?_
    | with_reducible refine ite_pending' _ _ ?_ ?_
    | dsimp only
    | split

@[simp] theorem State.ttDeliver_pending (s : State) (d ch : Nat) (stamp : Int) (n : Int) (w : TtWindow) (rx : TtRx) : (State.ttDeliver s d ch stamp n w rx).pending = s.pending := by
  unfold State.ttDeliver
  repeat' first
    | with_reducible rfl
    | with_reducible refine Eq.trans (State.bindRx_pending _ _ _ _ _ _ _ _ _ _) ?_
    | with_reducible refine Eq.trans (State.count_pending _ _ _ _) ?_
    | with_reducible refine Eq.trans (State.modTt_pending _ _ _) ?_
    | with_reducible refine ite_pending' _ _ ?_ ?_

@[simp] theorem State.ttReceive_pending (s : State) (d ch b : Nat) (rx : TtRx) : (State.ttReceive s d ch b rx).pending = s.pending := by
  unfold State.ttReceive
  repeat' first
    | with_reducible rfl
    | with_reducible refine Eq.trans (State.count_pending _ _ _ _) ?_
    | with_reducible refine Eq.trans (State.putFlag_pending _ _ _ _) ?_
    | with_reducible refine Eq.trans (State.ttDeliver_pending _ _ _ _ _ _ _) ?_
    | with_reducible refine Eq.trans (State.ttMeasure_pending _ _ _ _) ?_
    | with_reducible refine ite_pending' _ _ ?_ ?_
    | dsimp only
    | split

@[simp] theorem State.ttOffset_pending (s : State) (d : Nat) : (State.ttOffset s d).pending = s.pending := by
  unfold State.ttOffset
  repeat' first
    | with_reducible rfl
    | with_reducible refine Eq.trans (State.modTt_pending _ _ _) ?_
    | with_reducible refine Eq.trans (State.put_pending _ _ _ _) ?_
    | with_reducible refine ite_pending' _ _ ?_ ?_
    | dsimp only
    | split

@[simp] theorem State.ttRate_pending (s : State) (d : Nat) : (State.ttRate s d).pending = s.pending := by
  unfold State.ttRate
  repeat' first
    | with_reducible rfl
    | with_reducible refine Eq.trans (State.modTt_pending _ _ _) ?_
    | with_reducible refine Eq.trans (State.put_pending _ _ _ _) ?_
    | with_reducible refine ite_pending' _ _ ?_ ?_
    | dsimp only
    | split

@[simp] theorem State.ttCorrect_pending (s : State) (d : Nat) : (State.ttCorrect s d).pending = s.pending := by
  unfold State.ttCorrect
  repeat' first
    | with_reducible rfl
    | with_reducible refine Eq.trans (State.modTt_pending _ _ _) ?_
    | with_reducible refine Eq.trans (State.put_pending _ _ _ _) ?_
    | with_reducible refine Eq.trans (State.ttOffset_pending _ _) ?_
    | with_reducible refine Eq.trans (State.ttRate_pending _ _) ?_
    | with_reducible refine Eq.trans (State.ttRebase_pending _ _) ?_
    | with_reducible refine ite_pending' _ _ ?_ ?_

@[simp] theorem State.ttEvent_pending (s : State) (d : Nat) (ev : TtEvent) : (State.ttEvent s d ev).pending = s.pending := by
  unfold State.ttEvent
  repeat' first
    | with_reducible rfl
    | with_reducible refine Eq.trans (State.modTt_pending _ _ _) ?_
    | with_reducible refine Eq.trans (State.ttListen_pending _ _) ?_
    | with_reducible refine Eq.trans (State.ttTo_pending _ _ _) ?_
    | with_reducible refine ite_pending' _ _ ?_ ?_
    | dsimp only
    | split

@[simp] theorem State.branchUp_pending (s : State) (d ch b : Nat) : (State.branchUp s d ch b).pending = s.pending := by
  unfold State.branchUp
  repeat' first
    | with_reducible rfl
    | with_reducible refine Eq.trans (State.count_pending _ _ _ _) ?_
    | with_reducible refine Eq.trans (State.modTt_pending _ _ _) ?_
    | with_reducible refine Eq.trans (State.putFlag_pending _ _ _ _) ?_
    | with_reducible refine ite_pending' _ _ ?_ ?_
    | dsimp only
    | split

@[simp] theorem State.cutBranch_pending (s : State) (d ch b detail : Nat) : (State.cutBranch s d ch b detail).pending = s.pending := by
  unfold State.cutBranch
  repeat' first
    | with_reducible rfl
    | with_reducible refine Eq.trans (State.modTt_pending _ _ _) ?_
    | with_reducible refine Eq.trans (State.putFlag_pending _ _ _ _) ?_
    | with_reducible refine Eq.trans (State.ttRec_pending _ _ _ _ _ _) ?_

@[simp] theorem State.readmitBranch_pending (s : State) (d ch b detail : Nat) : (State.readmitBranch s d ch b detail).pending = s.pending := by
  unfold State.readmitBranch
  repeat' first
    | with_reducible rfl
    | with_reducible refine Eq.trans (State.putFlag_pending _ _ _ _) ?_
    | with_reducible refine Eq.trans (State.ttRec_pending _ _ _ _ _ _) ?_

@[simp] theorem State.cycleStart_pending (s : State) (d ch b : Nat) : (State.cycleStart s d ch b).pending = s.pending := by
  unfold State.cycleStart
  repeat' first
    | with_reducible rfl
    | with_reducible refine Eq.trans (State.clrBit_pending _ _ _ _) ?_
    | with_reducible refine Eq.trans (State.count_pending _ _ _ _) ?_
    | with_reducible refine Eq.trans (State.readmitBranch_pending _ _ _ _ _) ?_
    | with_reducible refine ite_pending' _ _ ?_ ?_

end Sys2Proof.Machine
end

