-- ==== Sys2Proof/Laws/KeepPendingLoad.lean ====
section
/-! SUPPORT. The functions of Machine/Load leave the queue alone. -/

namespace Sys2Proof.Machine

@[simp] theorem State.dropRegs_pending (s : State) (d lo hi : Nat) : (State.dropRegs s d lo hi).pending = s.pending := by rfl

@[simp] theorem State.loadPulse_pending (s : State) (c : HarnessCfg) (changed : Bool) (d n : Nat) : (State.loadPulse s c changed d n).pending = s.pending := by
  unfold State.loadPulse
  repeat' first
    | with_reducible rfl
    | with_reducible refine Eq.trans (State.applyPulse_pending _ _ _) ?_
    | with_reducible refine Eq.trans (State.putFlag_pending _ _ _ _) ?_
    | with_reducible refine Eq.trans (State.puts_pending _ _ _) ?_
    | with_reducible refine ite_pending' _ _ ?_ ?_
    | split

@[simp] theorem State.applyTime_pending (s : State) (c : HarnessCfg) (old : Option HarnessCfg) : (State.applyTime s c old).pending = s.pending := by
  unfold State.applyTime
  repeat' first
    | with_reducible rfl
    | intro _
    | with_reducible refine Eq.trans (State.clkoutFreq_pending _ _) ?_
    | with_reducible refine Eq.trans (State.eachDie_pending _ _ ?_) ?_
    | with_reducible refine Eq.trans (State.loadPulse_pending _ _ _ _ _) ?_
    | with_reducible refine Eq.trans (State.put_pending _ _ _ _) ?_
    | with_reducible refine Eq.trans (State.puts_pending _ _ _) ?_
    | with_reducible refine Eq.trans (State.relockBegin_pending _) ?_
    | with_reducible refine Eq.trans (State.reselect_pending _) ?_
    | with_reducible refine ite_pending' _ _ ?_ ?_
    | with_reducible refine Eq.trans (foldl_pending _ _ _ ?_) ?_
    | split

@[simp] theorem State.applyRegions_pending (s : State) (c : HarnessCfg) (d : Nat) : (State.applyRegions s c d).pending = s.pending := by
  unfold State.applyRegions
  repeat' first
    | with_reducible rfl
    | intro _
    | with_reducible refine Eq.trans (State.dropRegs_pending _ _ _ _) ?_
    | with_reducible refine Eq.trans (State.puts_pending _ _ _) ?_
    | with_reducible refine Eq.trans (State.syncPool_pending _ _) ?_
    | with_reducible refine Eq.trans (foldl_fst_pending _ _ _ ?_) ?_

@[simp] theorem State.applyTenant_pending (s : State) (e : TenantEntry) (kept : Bool) : (State.applyTenant s e kept).pending = s.pending := by
  unfold State.applyTenant
  repeat' first
    | with_reducible rfl
    | with_reducible refine Eq.trans (State.puts_pending _ _ _) ?_
    | with_reducible refine Eq.trans (State.staticPasid_pending _ _) ?_
    | with_reducible refine ite_pending' _ _ ?_ ?_

@[simp] theorem State.bindDma_pending (s : State) (c : HarnessCfg) (d ch : Nat) : (State.bindDma s c d ch).pending = s.pending := by
  unfold State.bindDma
  repeat' first
    | with_reducible rfl
    | with_reducible refine Eq.trans (State.puts_pending _ _ _) ?_
    | split

@[simp] theorem State.rebindDma_pending (s : State) (c : HarnessCfg) (old : Option HarnessCfg) (d ch : Nat) : (State.rebindDma s c old d ch).pending = s.pending := by
  unfold State.rebindDma
  repeat' first
    | with_reducible rfl
    | with_reducible refine Eq.trans (State.bindDma_pending _ _ _ _) ?_
    | with_reducible refine Eq.trans (State.dmaReset_pending _ _ _) ?_
    | with_reducible refine ite_pending' _ _ ?_ ?_
    | split

@[simp] theorem State.bindMbx_pending (s : State) (c : HarnessCfg) (old : Option HarnessCfg) (d e : Nat) : (State.bindMbx s c old d e).pending = s.pending := by
  unfold State.bindMbx
  repeat' first
    | with_reducible rfl
    | with_reducible refine Eq.trans (State.mbxEmpty_pending _ _ _) ?_
    | with_reducible refine Eq.trans (State.puts_pending _ _ _) ?_
    | with_reducible refine ite_pending' _ _ ?_ ?_
    | dsimp only
    | split

@[simp] theorem State.applyBindings_pending (s : State) (c : HarnessCfg) (old : Option HarnessCfg) : (State.applyBindings s c old).pending = s.pending := by
  unfold State.applyBindings
  repeat' first
    | with_reducible rfl
    | intro _
    | with_reducible refine Eq.trans (State.bindMbx_pending _ _ _ _ _) ?_
    | with_reducible refine Eq.trans (State.eachDie_pending _ _ ?_) ?_
    | with_reducible refine Eq.trans (State.put_pending _ _ _ _) ?_
    | with_reducible refine Eq.trans (State.rebindDma_pending _ _ _ _ _) ?_
    | with_reducible refine ite_pending' _ _ ?_ ?_
    | with_reducible refine Eq.trans (foldl_pending _ _ _ ?_) ?_

@[simp] theorem State.applyTenants_pending (s : State) (i : Image) (old : Option HarnessCfg) : (State.applyTenants s i old).pending = s.pending := by
  unfold State.applyTenants
  repeat' first
    | with_reducible rfl
    | intro _
    | with_reducible refine Eq.trans (State.applyBindings_pending _ _ _) ?_
    | with_reducible refine Eq.trans (State.applyTenant_pending _ _ _) ?_
    | with_reducible refine Eq.trans (State.put_pending _ _ _ _) ?_
    | with_reducible refine Eq.trans (State.puts_pending _ _ _) ?_
    | with_reducible refine Eq.trans (foldl_pending _ _ _ ?_) ?_

@[simp] theorem State.applyDatapoints_pending (s : State) (c : HarnessCfg) (d : Nat) : (State.applyDatapoints s c d).pending = s.pending := by
  unfold State.applyDatapoints
  repeat' first
    | with_reducible rfl
    | intro _
    | with_reducible refine Eq.trans (State.puts_pending _ _ _) ?_
    | with_reducible refine Eq.trans (State.writeBytes_pending _ _ _ _) ?_
    | with_reducible refine ite_pending' _ _ ?_ ?_
    | with_reducible refine Eq.trans (foldl_pending _ _ _ ?_) ?_

@[simp] theorem State.applyRecorder_pending (s : State) (c : HarnessCfg) (d : Nat) : (State.applyRecorder s c d).pending = s.pending := by
  unfold State.applyRecorder
  repeat' first
    | with_reducible rfl
    | with_reducible refine Eq.trans (State.closeSegment_pending _ _ _) ?_
    | with_reducible refine Eq.trans (State.putFlag_pending _ _ _ _) ?_
    | with_reducible refine Eq.trans (State.setRecDie_pending _ _ _) ?_
    | with_reducible refine Eq.trans (State.syncOcc_pending _ _) ?_
    | with_reducible refine ite_pending' _ _ ?_ ?_

@[simp] theorem State.applyPlacement_pending (s : State) (c : HarnessCfg) (d : Nat) : (State.applyPlacement s c d).pending = s.pending := by
  unfold State.applyPlacement
  repeat' first
    | with_reducible rfl
    | intro _
    | with_reducible refine Eq.trans (State.applyPlace_pending _ _ _ _) ?_
    | with_reducible refine Eq.trans (State.putFlag_pending _ _ _ _) ?_
    | with_reducible refine Eq.trans (foldl_pending _ _ _ ?_) ?_

@[simp] theorem State.copyBlocks_pending (s : State) (c : HarnessCfg) (d : Nat) : (State.copyBlocks s c d).pending = s.pending := by
  unfold State.copyBlocks
  repeat' first
    | with_reducible rfl
    | intro _
    | with_reducible refine Eq.trans (State.copyBlock_pending _ _ _) ?_
    | with_reducible refine Eq.trans (foldl_pending _ _ _ ?_) ?_

@[simp] theorem State.applySwitch_pending (s : State) (d : Nat) : (State.applySwitch s d).pending = s.pending := by
  unfold State.applySwitch
  repeat' first
    | with_reducible rfl
    | intro _
    | with_reducible refine Eq.trans (State.put_pending _ _ _ _) ?_
    | with_reducible refine Eq.trans (State.putFlag_pending _ _ _ _) ?_
    | with_reducible refine Eq.trans (State.syncPool_pending _ _) ?_
    | with_reducible refine Eq.trans (foldl_pending _ _ _ ?_) ?_

@[simp] theorem State.applyShapers_pending (s : State) (c : HarnessCfg) (old : Option HarnessCfg) (d : Nat) : (State.applyShapers s c old d).pending = s.pending := by
  unfold State.applyShapers
  repeat' first
    | with_reducible rfl
    | intro _
    | with_reducible refine Eq.trans (State.dropRegs_pending _ _ _ _) ?_
    | with_reducible refine Eq.trans (State.puts_pending _ _ _) ?_
    | with_reducible refine Eq.trans (State.setShaper_pending _ _ _ _) ?_
    | with_reducible refine Eq.trans (foldl_pending _ _ _ ?_) ?_

@[simp] theorem State.syncClamps_pending (s : State) (d : Nat) : (State.syncClamps s d).pending = s.pending := by
  unfold State.syncClamps
  repeat' first
    | with_reducible rfl
    | with_reducible refine Eq.trans (State.put_pending _ _ _ _) ?_
    | with_reducible refine Eq.trans (State.putFlag_pending _ _ _ _) ?_
    | with_reducible refine ite_pending' _ _ ?_ ?_

@[simp] theorem State.applyCalibration_pending (s : State) (c : HarnessCfg) : (State.applyCalibration s c).pending = s.pending := by
  unfold State.applyCalibration
  repeat' first
    | with_reducible rfl
    | intro _
    | with_reducible refine Eq.trans (State.count_pending _ _ _ _) ?_
    | with_reducible refine Eq.trans (State.eachDie_pending _ _ ?_) ?_
    | with_reducible refine Eq.trans (State.syncClamps_pending _ _) ?_
    | with_reducible refine Eq.trans (foldl_pending _ _ _ ?_) ?_

@[simp] theorem State.loadEthCtrl_pending (s : State) (c : HarnessCfg) (d p : Nat) : (State.loadEthCtrl s c d p).pending = s.pending := by rfl

@[simp] theorem State.loadEthPort_pending (s : State) (c : HarnessCfg) (d p : Nat) : (State.loadEthPort s c d p).pending = s.pending := by
  unfold State.loadEthPort
  repeat' first
    | with_reducible rfl
    | with_reducible refine Eq.trans (State.clrBit_pending _ _ _ _) ?_
    | with_reducible refine Eq.trans (State.loadEthCtrl_pending _ _ _ _) ?_
    | with_reducible refine Eq.trans (State.puts_pending _ _ _) ?_
    | with_reducible refine Eq.trans (State.setBit_pending _ _ _ _) ?_
    | with_reducible refine ite_pending' _ _ ?_ ?_

@[simp] theorem State.loadGates_pending (s : State) (c : HarnessCfg) (d p : Nat) : (State.loadGates s c d p).pending = s.pending := by
  unfold State.loadGates
  repeat' first
    | with_reducible rfl
    | intro _
    | with_reducible refine Eq.trans (State.dropRegs_pending _ _ _ _) ?_
    | with_reducible refine Eq.trans (State.put_pending _ _ _ _) ?_
    | with_reducible refine Eq.trans (State.puts_pending _ _ _) ?_
    | with_reducible refine Eq.trans (State.syncGate_pending _ _ _) ?_
    | with_reducible refine Eq.trans (foldl_pending _ _ _ ?_) ?_
    | dsimp only
    | split

@[simp] theorem State.loadSerRegs_pending (s : State) (c : HarnessCfg) (d p : Nat) : (State.loadSerRegs s c d p).pending = s.pending := by
  unfold State.loadSerRegs
  repeat' first
    | with_reducible rfl
    | with_reducible refine Eq.trans (State.clrBit_pending _ _ _ _) ?_
    | with_reducible refine Eq.trans (State.puts_pending _ _ _) ?_
    | with_reducible refine Eq.trans (State.setBit_pending _ _ _ _) ?_
    | with_reducible refine ite_pending' _ _ ?_ ?_

@[simp] theorem State.serCtrlReset_pending (s : State) (d p : Nat) : (State.serCtrlReset s d p).pending = s.pending := by rfl

@[simp] theorem State.loadSerPort_pending (s : State) (c : HarnessCfg) (d p : Nat) : (State.loadSerPort s c d p).pending = s.pending := by
  unfold State.loadSerPort
  repeat' first
    | with_reducible rfl
    | with_reducible refine Eq.trans (State.loadSerRegs_pending _ _ _ _) ?_
    | with_reducible refine Eq.trans (State.serCtrlReset_pending _ _ _) ?_

@[simp] theorem State.startSer_pending (s : State) (c : HarnessCfg) (d p : Nat) : (State.startSer s c d p).pending = s.pending := by
  unfold State.startSer
  repeat' first
    | with_reducible rfl
    | with_reducible refine Eq.trans (State.enterDetect_pending _ _ _) ?_
    | with_reducible refine Eq.trans (State.serTo_pending _ _ _ _) ?_
    | with_reducible refine ite_pending' _ _ ?_ ?_

@[simp] theorem State.loadTt_pending (s : State) (c : HarnessCfg) (d : Nat) : (State.loadTt s c d).pending = s.pending := by rfl

@[simp] theorem State.loadPcie_pending (s : State) (c : HarnessCfg) (d : Nat) : (State.loadPcie s c d).pending = s.pending := by rfl

@[simp] theorem State.loadPads_pending (s : State) (c : HarnessCfg) (d : Nat) : (State.loadPads s c d).pending = s.pending := by
  unfold State.loadPads
  repeat' first
    | with_reducible rfl
    | intro _
    | with_reducible refine Eq.trans (State.put_pending _ _ _ _) ?_
    | with_reducible refine Eq.trans (State.puts_pending _ _ _) ?_
    | with_reducible refine Eq.trans (foldl_pending _ _ _ ?_) ?_
    | split

end Sys2Proof.Machine
end

