-- ==== Sys2Proof/Laws/KeepPendingElec.lean ====
section
/-! SUPPORT. The functions of Machine/Elec leave the queue alone. -/

namespace Sys2Proof.Machine

@[simp] theorem State.calWrite_pending (s : State) (d : Nat) (v : Int) : (State.calWrite s d v).pending = s.pending := by
  unfold State.calWrite
  repeat' first
    | with_reducible rfl
    | with_reducible refine Eq.trans (State.syncClamps_pending _ _) ?_
    | with_reducible refine ite_pending' _ _ ?_ ?_

@[simp] theorem State.bankMv_pending (s : State) (d b mv : Nat) : (State.bankMv s d b mv).pending = s.pending := by rfl

@[simp] theorem State.idleCaps_pending (s : State) (d : Nat) : (State.idleCaps s d).pending = s.pending := by
  unfold State.idleCaps
  repeat' first
    | with_reducible rfl
    | intro _
    | with_reducible refine Eq.trans (State.capture_pending _ _ _ _) ?_
    | with_reducible refine Eq.trans (State.putFlag_pending _ _ _ _) ?_
    | with_reducible refine ite_pending' _ _ ?_ ?_
    | with_reducible refine Eq.trans (foldl_pending _ _ _ ?_) ?_

@[simp] theorem State.bankHold_pending (s : State) (d b mv : Nat) : (State.bankHold s d b mv).pending = s.pending := by
  unfold State.bankHold
  repeat' first
    | with_reducible rfl
    | with_reducible refine Eq.trans (State.bankMv_pending _ _ _ _) ?_
    | with_reducible refine Eq.trans (State.idleCaps_pending _ _) ?_
    | with_reducible refine Eq.trans (State.modTt_pending _ _ _) ?_
    | with_reducible refine Eq.trans (State.put_pending _ _ _ _) ?_
    | with_reducible refine Eq.trans (State.putFlag_pending _ _ _ _) ?_
    | with_reducible refine Eq.trans (State.setBit_pending _ _ _ _) ?_
    | with_reducible refine ite_pending' _ _ ?_ ?_

@[simp] theorem State.padWrite_pending (s : State) (d i v : Nat) : (State.padWrite s d i v).pending = s.pending := by
  unfold State.padWrite
  repeat' first
    | with_reducible rfl
    | with_reducible refine Eq.trans (State.puts_pending _ _ _) ?_
    | with_reducible refine ite_pending' _ _ ?_ ?_

end Sys2Proof.Machine
end

