-- ==== Sys2Proof/Laws/KeepPendingHarVerify.lean ====
section
/-! SUPPORT. The functions of Machine/HarVerify leave the queue alone. -/

namespace Sys2Proof.Machine

@[simp] theorem State.storeWrite_pending (s : State) (slot : Nat) : (State.storeWrite s slot).pending = s.pending := by
  unfold State.storeWrite
  repeat' first
    | with_reducible rfl
    | intro _
    | with_reducible refine Eq.trans (State.eachDie_pending _ _ ?_) ?_

end Sys2Proof.Machine
end

