-- ==== Sys2Proof/Laws/KeepPendingArcOps.lean ====
section
/-! SUPPORT. The functions of Machine/ArcOps leave the queue alone. -/

namespace Sys2Proof.Machine

@[simp] theorem State.setBound_pending (s : State) (b p : Nat) : (State.setBound s b p).pending = s.pending := by
  unfold State.setBound
  repeat' first
    | with_reducible rfl
    | intro _
    | with_reducible refine Eq.trans (State.eachDie_pending _ _ ?_) ?_
    | with_reducible refine Eq.trans (State.put_pending _ _ _ _) ?_
    | with_reducible refine Eq.trans (State.putFlag_pending _ _ _ _) ?_
    | with_reducible refine ite_pending' _ _ ?_ ?_

@[simp] theorem State.boundWindow_pending (s : State) : (State.boundWindow s).pending = s.pending := by
  unfold State.boundWindow
  repeat' first
    | with_reducible rfl
    | with_reducible refine Eq.trans (State.setBound_pending _ _ _) ?_
    | with_reducible refine ite_pending' _ _ ?_ ?_

@[simp] theorem State.paceOf_pending (s : State) (d m : Nat) (c : Int) : (State.paceOf s d m c).2.pending = s.pending := by
  unfold State.paceOf
  repeat' first
    | with_reducible rfl
    | with_reducible refine ite_snd_pending _ _ ?_ ?_
    | with_reducible refine Eq.trans (State.freeVal_pending _ _) ?_

@[simp] theorem State.paces_pending (s : State) (d m : Nat) (x0 : List Nat) : (State.paces s d m x0).2.pending = s.pending := by
  induction x0 generalizing s d m with
  | nil =>
    unfold State.paces
    repeat' first
      | with_reducible rfl
  | cons _ _ ih =>
    unfold State.paces
    repeat' first
      | with_reducible rfl
      | with_reducible refine Eq.trans (ih _ _ _) ?_
      | with_reducible refine Eq.trans (State.paceOf_pending _ _ _ _) ?_

@[simp] theorem State.preRaise_pending (s : State) (code : Nat) : (State.preRaise s code).pending = s.pending := by
  unfold State.preRaise
  repeat' first
    | with_reducible rfl
    | with_reducible refine Eq.trans (State.setBound_pending _ _ _) ?_
    | with_reducible refine ite_pending' _ _ ?_ ?_

end Sys2Proof.Machine
end

