-- ==== Sys2Proof/Laws/KeepPendingVat.lean ====
section
/-! SUPPORT. The functions of Machine/Vat leave the queue alone. -/

namespace Sys2Proof.Machine

@[simp] theorem State.scrubWord_pending (s : State) (d off : Nat) : (State.scrubWord s d off).pending = s.pending := by
  unfold State.scrubWord
  repeat' first
    | with_reducible rfl
    | with_reducible refine Eq.trans (State.setWordErr_pending _ _ _ _) ?_
    | with_reducible refine Eq.trans (State.writeBytes_pending _ _ _ _) ?_
    | with_reducible refine ite_pending' _ _ ?_ ?_

@[simp] theorem State.scrubLine_pending (s : State) (d off : Nat) : (State.scrubLine s d off).pending = s.pending := by
  unfold State.scrubLine
  repeat' first
    | with_reducible rfl
    | intro _
    | with_reducible refine Eq.trans (State.scrubWord_pending _ _ _) ?_
    | with_reducible refine Eq.trans (foldl_pending _ _ _ ?_) ?_

@[simp] theorem State.perform_pending (s : State) (d : Nat) (r : BankReq) : (State.perform s d r).pending = s.pending := by
  unfold State.perform
  repeat' first
    | with_reducible rfl
    | with_reducible refine Eq.trans (State.lineWrite_pending _ _ _ _ _) ?_
    | with_reducible refine Eq.trans (State.portRead_pending _ _ _ _ _ _) ?_
    | with_reducible refine Eq.trans (State.scrubLine_pending _ _ _) ?_
    | with_reducible refine Eq.trans (State.vatStore_pending _ _ _ _) ?_
    | dsimp only
    | split

@[simp] theorem State.grant_pending (s : State) (d b : Nat) : (State.grant s d b).pending = s.pending := by
  unfold State.grant
  repeat' first
    | with_reducible rfl
    | with_reducible refine Eq.trans (State.perform_pending _ _ _) ?_
    | with_reducible refine Eq.trans (State.scrubLine_pending _ _ _) ?_
    | with_reducible refine Eq.trans (State.setBank_pending _ _ _ _) ?_
    | with_reducible refine ite_pending' _ _ ?_ ?_
    | split

@[simp] theorem State.enqueue_pending (s : State) (d m t off lead : Nat) (write : Option (List Byte)) (n : Nat) (x0 : Nat) : (State.enqueue s d m t off lead write n x0).pending = s.pending := by
  induction x0 generalizing s d m t off lead write n with
  | zero =>
    unfold State.enqueue
    repeat' first
      | with_reducible rfl
  | succ _ ih =>
    unfold State.enqueue
    repeat' first
      | with_reducible rfl
      | with_reducible refine Eq.trans (ih _ _ _ _ _ _ _ _) ?_
      | with_reducible refine Eq.trans (State.setBank_pending _ _ _ _) ?_
      | with_reducible refine ite_pending' _ _ ?_ ?_

@[simp] theorem State.walk_pending (s : State) (d b : Nat) : (State.walk s d b).pending = s.pending := by
  unfold State.walk
  repeat' first
    | with_reducible rfl
    | with_reducible refine Eq.trans (State.count_pending _ _ _ _) ?_
    | with_reducible refine Eq.trans (State.eccWords_pending _ _ _ _ _) ?_
    | with_reducible refine Eq.trans (State.put_pending _ _ _ _) ?_
    | with_reducible refine Eq.trans (State.putFlag_pending _ _ _ _) ?_
    | with_reducible refine Eq.trans (State.setBank_pending _ _ _ _) ?_
    | with_reducible refine ite_pending' _ _ ?_ ?_

@[simp] theorem State.burnRead_pending (s : State) (d b : Nat) : (State.burnRead s d b).pending = s.pending := by
  unfold State.burnRead
  repeat' first
    | with_reducible rfl
    | with_reducible refine Eq.trans (State.putFlag_pending _ _ _ _) ?_
    | with_reducible refine Eq.trans (State.walk_pending _ _ _) ?_
    | with_reducible refine ite_pending' _ _ ?_ ?_

@[simp] theorem State.clearDone_pending (s : State) (d : Nat) : (State.clearDone s d).pending = s.pending := by rfl

@[simp] theorem State.zeroVat_pending (s : State) (d : Nat) : (State.zeroVat s d).pending = s.pending := by rfl

@[simp] theorem State.zeroBank_pending (s : State) (d b : Nat) : (State.zeroBank s d b).pending = s.pending := by rfl

@[simp] theorem State.beginClear_pending (s : State) (d cause : Nat) : (State.beginClear s d cause).pending = s.pending := by rfl

@[simp] theorem State.marchFail_pending (s : State) (d b : Nat) (f : MarchFault) : (State.marchFail s d b f).pending = s.pending := by
  unfold State.marchFail
  repeat' first
    | with_reducible rfl
    | with_reducible refine Eq.trans (State.put_pending _ _ _ _) ?_
    | with_reducible refine Eq.trans (State.putFlag_pending _ _ _ _) ?_
    | with_reducible refine ite_pending' _ _ ?_ ?_

@[simp] theorem State.bankFail_pending (s : State) (d b : Nat) (held : Bool) : (State.bankFail s d b held).pending = s.pending := by
  unfold State.bankFail
  repeat' first
    | with_reducible rfl
    | with_reducible refine Eq.trans (State.setBit_pending _ _ _ _) ?_
    | with_reducible refine ite_pending' _ _ ?_ ?_

@[simp] theorem State.marchFault_pending (s : State) (d b : Nat) (f : MarchFault) : (State.marchFault s d b f).pending = s.pending := by
  unfold State.marchFault
  repeat' first
    | with_reducible rfl
    | with_reducible refine Eq.trans (State.bankFail_pending _ _ _ _) ?_
    | with_reducible refine Eq.trans (State.marchFail_pending _ _ _ _) ?_
    | with_reducible refine Eq.trans (State.setBank_pending _ _ _ _) ?_
    | with_reducible refine Eq.trans (State.setBit_pending _ _ _ _) ?_
    | with_reducible refine ite_pending' _ _ ?_ ?_
    | split

@[simp] theorem State.marchBegin_pending (s : State) (d : Nat) (spares : List (Nat × MarchFault)) : (State.marchBegin s d spares).pending = s.pending := by
  unfold State.marchBegin
  repeat' first
    | with_reducible rfl
    | intro _
    | with_reducible refine Eq.trans (State.marchFault_pending _ _ _ _) ?_
    | with_reducible refine Eq.trans (State.put_pending _ _ _ _) ?_
    | with_reducible refine Eq.trans (State.putFlag_pending _ _ _ _) ?_
    | with_reducible refine Eq.trans (State.setBank_pending _ _ _ _) ?_
    | with_reducible refine ite_pending' _ _ ?_ ?_
    | with_reducible refine Eq.trans (foldl_pending _ _ _ ?_) ?_

@[simp] theorem State.marchRequest_pending (s : State) (d : Nat) (destructive : Bool) (banks : Nat) (spares : List (Nat × MarchFault)) : (State.marchRequest s d destructive banks spares).pending = s.pending := by
  unfold State.marchRequest
  repeat' first
    | with_reducible rfl
    | with_reducible refine Eq.trans (State.marchBegin_pending _ _ _) ?_
    | with_reducible refine Eq.trans (State.put_pending _ _ _ _) ?_
    | with_reducible refine Eq.trans (State.putFlag_pending _ _ _ _) ?_
    | with_reducible refine ite_pending' _ _ ?_ ?_

@[simp] theorem State.marchEnd_pending (s : State) (d result : Nat) : (State.marchEnd s d result).pending = s.pending := by rfl

@[simp] theorem State.marchAbort_pending (s : State) (d : Nat) : (State.marchAbort s d).pending = s.pending := by
  unfold State.marchAbort
  repeat' first
    | with_reducible rfl
    | with_reducible refine Eq.trans (State.marchEnd_pending _ _ _) ?_
    | with_reducible refine ite_pending' _ _ ?_ ?_

@[simp] theorem State.marchFinish_pending (s : State) (d : Nat) (failed : List Nat) : (State.marchFinish s d failed).pending = s.pending := by
  unfold State.marchFinish
  repeat' first
    | with_reducible rfl
    | intro _
    | with_reducible refine Eq.trans (State.clrBit_pending _ _ _ _) ?_
    | with_reducible refine Eq.trans (State.marchEnd_pending _ _ _) ?_
    | with_reducible refine Eq.trans (State.setBit_pending _ _ _ _) ?_
    | with_reducible refine Eq.trans (State.zeroBank_pending _ _ _) ?_
    | with_reducible refine ite_pending' _ _ ?_ ?_
    | with_reducible refine Eq.trans (foldl_pending _ _ _ ?_) ?_

@[simp] theorem State.startupDie_pending (s : State) (d : Nat) (faults : List (Nat × MarchFault)) : (State.startupDie s d faults).pending = s.pending := by
  unfold State.startupDie
  repeat' first
    | with_reducible rfl
    | with_reducible refine Eq.trans (State.clearDone_pending _ _) ?_
    | with_reducible refine Eq.trans (State.marchBegin_pending _ _ _) ?_
    | with_reducible refine Eq.trans (State.marchFinish_pending _ _ _) ?_
    | with_reducible refine Eq.trans (State.put_pending _ _ _ _) ?_
    | with_reducible refine Eq.trans (State.putFlag_pending _ _ _ _) ?_
    | with_reducible refine Eq.trans (State.zeroVat_pending _ _) ?_

end Sys2Proof.Machine
end

