-- ==== Sys2Proof/Laws/KeepPendingPwrOps.lean ====
section
/-! SUPPORT. The functions of Machine/PwrOps leave the queue alone. -/

namespace Sys2Proof.Machine

@[simp] theorem State.modPwr_pending (s : State) (f : Pwr → Pwr) : (State.modPwr s f).pending = s.pending := by rfl

@[simp] theorem State.laceGroupOff_pending (s : State) (d q : Nat) : (State.laceGroupOff s d q).pending = s.pending := by
  unfold State.laceGroupOff
  repeat' first
    | with_reducible rfl
    | intro _
    | with_reducible refine Eq.trans (State.safePin_pending _ _ _) ?_
    | with_reducible refine Eq.trans (State.setLce_pending _ _ _ _) ?_
    | with_reducible refine Eq.trans (State.setLceState_pending _ _ _ _) ?_
    | with_reducible refine Eq.trans (foldl_pending _ _ _ ?_) ?_

@[simp] theorem State.ttChannelOff_pending (s : State) (d ch : Nat) : (State.ttChannelOff s d ch).pending = s.pending := by
  unfold State.ttChannelOff
  repeat' first
    | with_reducible rfl
    | with_reducible refine Eq.trans (State.modTt_pending _ _ _) ?_
    | with_reducible refine Eq.trans (State.ttReleaseAll_pending _ _) ?_
    | with_reducible refine Eq.trans (State.ttTo_pending _ _ _) ?_
    | with_reducible refine ite_pending' _ _ ?_ ?_

@[simp] theorem State.fenceEffects_pending (s : State) (d n : Nat) : (State.fenceEffects s d n).pending = s.pending := by
  unfold State.fenceEffects
  repeat' first
    | with_reducible rfl
    | intro _
    | with_reducible refine Eq.trans (State.dmaReset_pending _ _ _) ?_
    | with_reducible refine Eq.trans (State.flushPort_pending _ _ _) ?_
    | with_reducible refine Eq.trans (State.laceGroupOff_pending _ _ _) ?_
    | with_reducible refine Eq.trans (State.linkDown_pending _ _ _ _) ?_
    | with_reducible refine Eq.trans (State.mbxEmpty_pending _ _ _) ?_
    | with_reducible refine Eq.trans (State.serFlush_pending _ _ _) ?_
    | with_reducible refine Eq.trans (State.serTo_pending _ _ _ _) ?_
    | with_reducible refine Eq.trans (State.ttChannelOff_pending _ _ _) ?_
    | with_reducible refine ite_pending' _ _ ?_ ?_
    | with_reducible refine Eq.trans (foldl_pending _ _ _ ?_) ?_

@[simp] theorem State.fenceDom_pending (s : State) (d n : Nat) : (State.fenceDom s d n).pending = s.pending := by
  unfold State.fenceDom
  repeat' first
    | with_reducible rfl
    | intro _
    | with_reducible refine Eq.trans (State.clearOutput_pending _ _ _) ?_
    | with_reducible refine Eq.trans (State.fenceEffects_pending _ _ _) ?_
    | with_reducible refine Eq.trans (State.setDom_pending _ _ _ _) ?_
    | with_reducible refine ite_pending' _ _ ?_ ?_
    | with_reducible refine Eq.trans (foldl_pending _ _ _ ?_) ?_

@[simp] theorem State.unready_pending (s : State) (us : List Nat) : (State.unready s us).pending = s.pending := by
  unfold State.unready
  repeat' first
    | with_reducible rfl
    | with_reducible refine Eq.trans (State.put_pending _ _ _ _) ?_
    | with_reducible refine ite_pending' _ _ ?_ ?_

@[simp] theorem State.clusterOff_pending (s : State) (d c : Nat) : (State.clusterOff s d c).pending = s.pending := by
  unfold State.clusterOff
  repeat' first
    | with_reducible rfl
    | intro _
    | with_reducible refine Eq.trans (State.clrBit_pending _ _ _ _) ?_
    | with_reducible refine Eq.trans (State.countDrop_pending _ _ _ _) ?_
    | with_reducible refine Eq.trans (State.discardTx_pending _ _ _) ?_
    | with_reducible refine Eq.trans (State.freeFrame_pending _ _) ?_
    | with_reducible refine Eq.trans (State.freeSlot_pending _ _ _ _) ?_
    | with_reducible refine Eq.trans (State.loadBank_pending _ _ _ _ _) ?_
    | with_reducible refine Eq.trans (State.modEng_pending _ _ _ _) ?_
    | with_reducible refine Eq.trans (State.put_pending _ _ _ _) ?_
    | with_reducible refine Eq.trans (State.putFlag_pending _ _ _ _) ?_
    | with_reducible refine Eq.trans (State.setCl_pending _ _ _ _) ?_
    | with_reducible refine Eq.trans (State.setEng_pending _ _ _ _) ?_
    | with_reducible refine Eq.trans (State.spadZero_pending _ _ _ _ _) ?_
    | with_reducible refine ite_pending' _ _ ?_ ?_
    | with_reducible refine Eq.trans (foldl_pending _ _ _ ?_) ?_

@[simp] theorem State.powerUp_pending (s : State) (d n : Nat) : (State.powerUp s d n).pending = s.pending := by
  unfold State.powerUp
  repeat' first
    | with_reducible rfl
    | with_reducible refine Eq.trans (State.modPwr_pending _ _) ?_
    | with_reducible refine Eq.trans (State.setDom_pending _ _ _ _) ?_
    | with_reducible refine ite_pending' _ _ ?_ ?_

@[simp] theorem State.domOff_pending (s : State) (d n : Nat) : (State.domOff s d n).pending = s.pending := by
  unfold State.domOff
  repeat' first
    | with_reducible rfl
    | intro _
    | with_reducible refine Eq.trans (State.clusterOff_pending _ _ _) ?_
    | with_reducible refine Eq.trans (State.fenceUnits_pending _ _) ?_
    | with_reducible refine Eq.trans (State.modPwr_pending _ _) ?_
    | with_reducible refine Eq.trans (State.portReset_pending _ _ _) ?_
    | with_reducible refine Eq.trans (State.powerUp_pending _ _ _) ?_
    | with_reducible refine Eq.trans (State.put_pending _ _ _ _) ?_
    | with_reducible refine Eq.trans (State.serTo_pending _ _ _ _) ?_
    | with_reducible refine Eq.trans (State.setDom_pending _ _ _ _) ?_
    | with_reducible refine Eq.trans (State.unready_pending _ _) ?_
    | with_reducible refine ite_pending' _ _ ?_ ?_
    | with_reducible refine Eq.trans (foldl_pending _ _ _ ?_) ?_

@[simp] theorem State.holdSafe_pending (s : State) (d n : Nat) : (State.holdSafe s d n).pending = s.pending := by
  unfold State.holdSafe
  repeat' first
    | with_reducible rfl
    | intro _
    | with_reducible refine Eq.trans (State.putFlag_pending _ _ _ _) ?_
    | with_reducible refine Eq.trans (State.setLceState_pending _ _ _ _) ?_
    | with_reducible refine Eq.trans (State.ttTo_pending _ _ _) ?_
    | with_reducible refine ite_pending' _ _ ?_ ?_
    | with_reducible refine Eq.trans (foldl_pending _ _ _ ?_) ?_

@[simp] theorem State.lateLoads_pending (s : State) (us : List Nat) : (State.lateLoads s us).pending = s.pending := by
  unfold State.lateLoads
  repeat' first
    | with_reducible rfl
    | intro _
    | with_reducible refine Eq.trans (State.lateUnit_pending _ _) ?_
    | with_reducible refine Eq.trans (State.unitDone_pending _ _) ?_
    | with_reducible refine ite_pending' _ _ ?_ ?_
    | with_reducible refine Eq.trans (foldl_pending _ _ _ ?_) ?_

@[simp] theorem State.domUp_pending (s : State) (d n : Nat) : (State.domUp s d n).pending = s.pending := by
  unfold State.domUp
  repeat' first
    | with_reducible rfl
    | intro _
    | with_reducible refine Eq.trans (State.autostart_pending _ _) ?_
    | with_reducible refine Eq.trans (State.clusterReset_pending _ _ _) ?_
    | with_reducible refine Eq.trans (State.holdSafe_pending _ _ _) ?_
    | with_reducible refine Eq.trans (State.lateLoads_pending _ _) ?_
    | with_reducible refine Eq.trans (State.lceLoad_pending _ _ _ _) ?_
    | with_reducible refine Eq.trans (State.loadEthPort_pending _ _ _ _) ?_
    | with_reducible refine Eq.trans (State.loadGates_pending _ _ _ _) ?_
    | with_reducible refine Eq.trans (State.loadPcie_pending _ _ _) ?_
    | with_reducible refine Eq.trans (State.loadSerPort_pending _ _ _ _) ?_
    | with_reducible refine Eq.trans (State.loadTt_pending _ _ _) ?_
    | with_reducible refine Eq.trans (State.modPwr_pending _ _) ?_
    | with_reducible refine Eq.trans (State.setDom_pending _ _ _ _) ?_
    | with_reducible refine Eq.trans (State.startSer_pending _ _ _ _) ?_
    | with_reducible refine Eq.trans (State.ttTo_pending _ _ _) ?_
    | with_reducible refine Eq.trans (State.unfenceUnits_pending _ _) ?_
    | with_reducible refine ite_pending' _ _ ?_ ?_
    | with_reducible refine Eq.trans (foldl_pending _ _ _ ?_) ?_

@[simp] theorem State.planUp_pending (s : State) : (State.planUp s).pending = s.pending := by
  unfold State.planUp
  repeat' first
    | with_reducible rfl
    | intro _
    | with_reducible refine Eq.trans (State.eachDie_pending _ _ ?_) ?_
    | with_reducible refine Eq.trans (State.powerUp_pending _ _ _) ?_
    | with_reducible refine ite_pending' _ _ ?_ ?_
    | with_reducible refine Eq.trans (foldl_pending _ _ _ ?_) ?_

@[simp] theorem State.vcoreTo_pending (s : State) (code : Nat) : (State.vcoreTo s code).pending = s.pending := by
  unfold State.vcoreTo
  repeat' first
    | with_reducible rfl
    | with_reducible refine Eq.trans (State.modPwr_pending _ _) ?_
    | with_reducible refine Eq.trans (State.preRaise_pending _ _) ?_
    | with_reducible refine ite_pending' _ _ ?_ ?_

@[simp] theorem State.codeStep_pending (s : State) : (State.codeStep s).pending = s.pending := by
  unfold State.codeStep
  repeat' first
    | with_reducible rfl
    | with_reducible refine Eq.trans (State.put_pending _ _ _ _) ?_
    | with_reducible refine ite_pending' _ _ ?_ ?_

@[simp] theorem State.beginMove_pending (s : State) (target : Nat) (phase : PwrPhase) : (State.beginMove s target phase).pending = s.pending := by rfl

@[simp] theorem State.endMove_pending (s : State) (new : Nat) (rec : Bool) : (State.endMove s new rec).pending = s.pending := by
  unfold State.endMove
  repeat' first
    | with_reducible rfl
    | intro _
    | with_reducible refine Eq.trans (State.eachDie_pending _ _ ?_) ?_
    | with_reducible refine Eq.trans (State.modPwr_pending _ _) ?_
    | with_reducible refine Eq.trans (State.powRec_pending _ _ _ _ _ _ _ _) ?_
    | with_reducible refine Eq.trans (State.put_pending _ _ _ _) ?_
    | with_reducible refine Eq.trans (State.putFlag_pending _ _ _ _) ?_
    | with_reducible refine ite_pending' _ _ ?_ ?_

@[simp] theorem State.retainEntry_pending (s : State) : (State.retainEntry s).pending = s.pending := by
  unfold State.retainEntry
  repeat' first
    | with_reducible rfl
    | intro _
    | with_reducible refine Eq.trans (State.beginMove_pending _ _ _) ?_
    | with_reducible refine Eq.trans (State.closeSegment_pending _ _ _) ?_
    | with_reducible refine Eq.trans (State.domOff_pending _ _ _) ?_
    | with_reducible refine Eq.trans (State.eachDie_pending _ _ ?_) ?_
    | with_reducible refine Eq.trans (State.fenceDom_pending _ _ _) ?_
    | with_reducible refine Eq.trans (State.powRec_pending _ _ _ _ _ _ _ _) ?_
    | with_reducible refine Eq.trans (State.putFlag_pending _ _ _ _) ?_
    | with_reducible refine ite_pending' _ _ ?_ ?_
    | with_reducible refine Eq.trans (foldl_pending _ _ _ ?_) ?_

@[simp] theorem State.offEntry_pending (s : State) (cycle : Bool) : (State.offEntry s cycle).pending = s.pending := by
  unfold State.offEntry
  repeat' first
    | with_reducible rfl
    | intro _
    | with_reducible refine Eq.trans (State.beginMove_pending _ _ _) ?_
    | with_reducible refine Eq.trans (State.closeSegment_pending _ _ _) ?_
    | with_reducible refine Eq.trans (State.domOff_pending _ _ _) ?_
    | with_reducible refine Eq.trans (State.eachDie_pending _ _ ?_) ?_
    | with_reducible refine Eq.trans (State.fenceDom_pending _ _ _) ?_
    | with_reducible refine Eq.trans (State.modPwr_pending _ _) ?_
    | with_reducible refine Eq.trans (State.powRec_pending _ _ _ _ _ _ _ _) ?_
    | with_reducible refine Eq.trans (State.putFlag_pending _ _ _ _) ?_
    | with_reducible refine Eq.trans (State.setDom_pending _ _ _ _) ?_
    | with_reducible refine ite_pending' _ _ ?_ ?_
    | with_reducible refine Eq.trans (foldl_pending _ _ _ ?_) ?_

@[simp] theorem State.retainExit_pending (s : State) : (State.retainExit s).pending = s.pending := by
  unfold State.retainExit
  repeat' first
    | with_reducible rfl
    | with_reducible refine Eq.trans (State.beginMove_pending _ _ _) ?_
    | with_reducible refine Eq.trans (State.vcoreTo_pending _ _) ?_

@[simp] theorem State.powerAct_pending (s : State) (c : Nat) : (State.powerAct s c).pending = s.pending := by
  unfold State.powerAct
  repeat' first
    | with_reducible rfl
    | with_reducible refine Eq.trans (State.beginMove_pending _ _ _) ?_
    | with_reducible refine Eq.trans (State.offEntry_pending _ _) ?_
    | with_reducible refine Eq.trans (State.putFlag_pending _ _ _ _) ?_
    | with_reducible refine Eq.trans (State.retainEntry_pending _) ?_
    | with_reducible refine Eq.trans (State.retainExit_pending _) ?_
    | with_reducible refine Eq.trans (State.vcoreTo_pending _ _) ?_
    | with_reducible refine ite_pending' _ _ ?_ ?_

@[simp] theorem State.takeHeld_pending (s : State) : (State.takeHeld s).pending = s.pending := by
  unfold State.takeHeld
  repeat' first
    | with_reducible rfl
    | with_reducible refine Eq.trans (State.modPwr_pending _ _) ?_
    | with_reducible refine Eq.trans (State.powerAct_pending _ _) ?_
    | with_reducible refine Eq.trans (State.putFlag_pending _ _ _ _) ?_
    | with_reducible refine Eq.trans (State.retainExit_pending _) ?_
    | with_reducible refine ite_pending' _ _ ?_ ?_
    | split

@[simp] theorem State.hold_pending (s : State) (h : HeldCmd) : (State.hold s h).pending = s.pending := by rfl

@[simp] theorem State.powerCmd_pending (s : State) (c : Nat) : (State.powerCmd s c).pending = s.pending := by
  unfold State.powerCmd
  repeat' first
    | with_reducible rfl
    | with_reducible refine Eq.trans (State.hold_pending _ _) ?_
    | with_reducible refine Eq.trans (State.powerAct_pending _ _) ?_
    | with_reducible refine Eq.trans (State.putFlag_pending _ _ _ _) ?_
    | with_reducible refine ite_pending' _ _ ?_ ?_

@[simp] theorem State.retainHold_pending (s : State) : (State.retainHold s).pending = s.pending := by
  unfold State.retainHold
  repeat' first
    | with_reducible rfl
    | intro _
    | with_reducible refine Eq.trans (State.eachDie_pending _ _ ?_) ?_
    | with_reducible refine Eq.trans (State.marchAbort_pending _ _) ?_
    | with_reducible refine Eq.trans (State.modPwr_pending _ _) ?_
    | with_reducible refine Eq.trans (State.putFlag_pending _ _ _ _) ?_
    | with_reducible refine Eq.trans (State.setDom_pending _ _ _ _) ?_
    | with_reducible refine Eq.trans (State.vcoreTo_pending _ _) ?_
    | with_reducible refine Eq.trans (foldl_pending _ _ _ ?_) ?_

@[simp] theorem State.retainDone_pending (s : State) : (State.retainDone s).pending = s.pending := by
  unfold State.retainDone
  repeat' first
    | with_reducible rfl
    | intro _
    | with_reducible refine Eq.trans (State.eachDie_pending _ _ ?_) ?_
    | with_reducible refine Eq.trans (State.endMove_pending _ _ _) ?_
    | with_reducible refine Eq.trans (State.markRec_pending _ _ _ _) ?_
    | with_reducible refine Eq.trans (State.planUp_pending _) ?_
    | with_reducible refine Eq.trans (State.putFlag_pending _ _ _ _) ?_
    | with_reducible refine Eq.trans (State.setBank_pending _ _ _ _) ?_
    | with_reducible refine Eq.trans (State.setDom_pending _ _ _ _) ?_
    | with_reducible refine Eq.trans (State.setShaper_pending _ _ _ _) ?_
    | with_reducible refine ite_pending' _ _ ?_ ?_
    | with_reducible refine Eq.trans (foldl_pending _ _ _ ?_) ?_

@[simp] theorem State.enterOffWake_pending (s : State) : (State.enterOffWake s).pending = s.pending := by rfl

@[simp] theorem State.powerAdvance_pending (s : State) : (State.powerAdvance s).pending = s.pending := by
  unfold State.powerAdvance
  repeat' first
    | with_reducible rfl
    | with_reducible refine Eq.trans (State.enterOffWake_pending _) ?_
    | with_reducible refine Eq.trans (State.retainHold_pending _) ?_
    | with_reducible refine ite_pending' _ _ ?_ ?_
    | split

@[simp] theorem State.vcoreReached_pending (s : State) : (State.vcoreReached s).pending = s.pending := by
  unfold State.vcoreReached
  repeat' first
    | with_reducible rfl
    | with_reducible refine Eq.trans (State.endMove_pending _ _ _) ?_
    | with_reducible refine Eq.trans (State.retainDone_pending _) ?_
    | with_reducible refine Eq.trans (State.takeHeld_pending _) ?_
    | split

@[simp] theorem State.vcoreNext_pending (s : State) : (State.vcoreNext s).pending = s.pending := by
  unfold State.vcoreNext
  repeat' first
    | with_reducible rfl
    | with_reducible refine Eq.trans (State.codeStep_pending _) ?_
    | with_reducible refine Eq.trans (State.vcoreReached_pending _) ?_
    | with_reducible refine ite_pending' _ _ ?_ ?_

@[simp] theorem State.retarget_pending (s : State) : (State.retarget s).pending = s.pending := by
  unfold State.retarget
  repeat' first
    | with_reducible rfl
    | with_reducible refine Eq.trans (State.vcoreTo_pending _ _) ?_
    | with_reducible refine ite_pending' _ _ ?_ ?_
    | split

@[simp] theorem State.applyPower_pending (s : State) (c : HarnessCfg) (boot : Bool) : (State.applyPower s c boot).pending = s.pending := by
  unfold State.applyPower
  repeat' first
    | with_reducible rfl
    | intro _
    | with_reducible refine Eq.trans (State.eachDie_pending _ _ ?_) ?_
    | with_reducible refine Eq.trans (State.put_pending _ _ _ _) ?_
    | with_reducible refine Eq.trans (State.puts_pending _ _ _) ?_
    | with_reducible refine Eq.trans (State.retarget_pending _) ?_
    | with_reducible refine ite_pending' _ _ ?_ ?_
    | with_reducible refine Eq.trans (foldl_pending _ _ _ ?_) ?_

end Sys2Proof.Machine
end

