-- ==== Sys2Proof/Laws/KeepPendingReinOps.lean ====
section
/-! SUPPORT. The functions of Machine/ReinOps leave the queue alone. -/

namespace Sys2Proof.Machine

@[simp] theorem State.setRein_pending (s : State) (r : ReinSt) : (State.setRein s r).pending = s.pending := by rfl

@[simp] theorem State.reinPut_pending (s : State) (up : Bool) (m : ReinMsg) : (State.reinPut s up m).pending = s.pending := by rfl

@[simp] theorem State.mgmtEnd_pending (s : State) (result : Nat) : (State.mgmtEnd s result).pending = s.pending := by rfl

@[simp] theorem State.mirrorLost_pending (s : State) : (State.mirrorLost s).pending = s.pending := by rfl

@[simp] theorem State.reinLost_pending (s : State) (m : ReinMsg) : (State.reinLost s m).pending = s.pending := by
  unfold State.reinLost
  repeat' first
    | with_reducible rfl
    | with_reducible refine Eq.trans (State.mgmtEnd_pending _ _) ?_
    | with_reducible refine Eq.trans (State.mirrorLost_pending _) ?_
    | with_reducible refine Eq.trans (State.reinPut_pending _ _ _) ?_
    | with_reducible refine ite_pending' _ _ ?_ ?_

@[simp] theorem State.reinSend_pending (s : State) (up : Bool) (m : ReinMsg) : (State.reinSend s up m).pending = s.pending := by
  unfold State.reinSend
  repeat' first
    | with_reducible rfl
    | with_reducible refine Eq.trans (State.reinLost_pending _ _) ?_
    | with_reducible refine Eq.trans (State.reinPut_pending _ _ _) ?_
    | with_reducible refine ite_pending' _ _ ?_ ?_

@[simp] theorem State.reinRoute_pending (s : State) (m : ReinMsg) : (State.reinRoute s m).pending = s.pending := by
  unfold State.reinRoute
  repeat' first
    | with_reducible rfl
    | with_reducible refine Eq.trans (State.reinSend_pending _ _ _) ?_
    | with_reducible refine ite_pending' _ _ ?_ ?_

@[simp] theorem State.sendEnum_pending (s : State) : (State.sendEnum s).pending = s.pending := by
  unfold State.sendEnum
  repeat' first
    | with_reducible rfl
    | with_reducible refine Eq.trans (State.reinPut_pending _ _ _) ?_
    | with_reducible refine ite_pending' _ _ ?_ ?_

@[simp] theorem State.setAddr_pending (s : State) (a : Nat) : (State.setAddr s a).pending = s.pending := by
  unfold State.setAddr
  repeat' first
    | with_reducible rfl
    | intro _
    | with_reducible refine Eq.trans (State.eachDie_pending _ _ ?_) ?_
    | with_reducible refine Eq.trans (State.put_pending _ _ _ _) ?_

@[simp] theorem State.latchAddr_pending (s : State) (a : Nat) : (State.latchAddr s a).pending = s.pending := by
  unfold State.latchAddr
  repeat' first
    | with_reducible rfl
    | with_reducible refine Eq.trans (State.putFlag_pending _ _ _ _) ?_
    | with_reducible refine Eq.trans (State.sendEnum_pending _) ?_
    | with_reducible refine Eq.trans (State.setAddr_pending _ _) ?_

@[simp] theorem State.enumRx_pending (s : State) (a : Nat) : (State.enumRx s a).pending = s.pending := by
  unfold State.enumRx
  repeat' first
    | with_reducible rfl
    | with_reducible refine Eq.trans (State.latchAddr_pending _ _) ?_
    | with_reducible refine Eq.trans (State.putFlag_pending _ _ _ _) ?_
    | with_reducible refine ite_pending' _ _ ?_ ?_

@[simp] theorem State.reinClear_pending (s : State) : (State.reinClear s).pending = s.pending := by
  unfold State.reinClear
  repeat' first
    | with_reducible rfl
    | with_reducible refine Eq.trans (State.latchAddr_pending _ _) ?_
    | with_reducible refine Eq.trans (State.putFlag_pending _ _ _ _) ?_
    | with_reducible refine Eq.trans (State.setAddr_pending _ _) ?_
    | with_reducible refine ite_pending' _ _ ?_ ?_

@[simp] theorem State.reinResetNow_pending (s : State) : (State.reinResetNow s).pending = s.pending := by
  unfold State.reinResetNow
  repeat' first
    | with_reducible rfl
    | with_reducible refine Eq.trans (State.reinClear_pending _) ?_
    | with_reducible refine Eq.trans (State.reinPut_pending _ _ _) ?_
    | with_reducible refine ite_pending' _ _ ?_ ?_

@[simp] theorem State.linkFault_pending (s : State) (d u : Nat) (new : Bool := false) : (State.linkFault s d u new).pending = s.pending := by
  unfold State.linkFault
  repeat' first
    | with_reducible rfl
    | with_reducible refine Eq.trans (State.condFault_pending _ _ _ _ _) ?_
    | with_reducible refine Eq.trans (State.latchFault_pending _ _ _ _) ?_
    | with_reducible refine ite_pending' _ _ ?_ ?_

@[simp] theorem State.reinSources_pending (s : State) (ok : Bool) : (State.reinSources s ok).pending = s.pending := by
  unfold State.reinSources
  repeat' first
    | with_reducible rfl
    | intro _
    | with_reducible refine Eq.trans (State.setSource_pending _ _ _) ?_
    | with_reducible refine ite_pending' _ _ ?_ ?_
    | with_reducible refine Eq.trans (foldl_pending _ _ _ ?_) ?_

@[simp] theorem State.reinLink_pending (s : State) (up : Bool) : (State.reinLink s up).pending = s.pending := by
  unfold State.reinLink
  repeat' first
    | with_reducible rfl
    | with_reducible refine Eq.trans (State.linkFault_pending _ _ _ _) ?_
    | with_reducible refine Eq.trans (State.putFlag_pending _ _ _ _) ?_
    | with_reducible refine Eq.trans (State.reinSources_pending _ _) ?_
    | with_reducible refine Eq.trans (State.sendEnum_pending _) ?_
    | with_reducible refine Eq.trans (State.setRein_pending _ _) ?_
    | with_reducible refine ite_pending' _ _ ?_ ?_

@[simp] theorem State.reinBroken_pending (s : State) (up : Bool) : (State.reinBroken s up).pending = s.pending := by
  unfold State.reinBroken
  repeat' first
    | with_reducible rfl
    | intro _
    | with_reducible refine Eq.trans (State.linkFault_pending _ _ _ _) ?_
    | with_reducible refine Eq.trans (State.mirrorLost_pending _) ?_
    | with_reducible refine Eq.trans (State.putFlag_pending _ _ _ _) ?_
    | with_reducible refine Eq.trans (State.reinSources_pending _ _) ?_
    | with_reducible refine Eq.trans (State.setRein_pending _ _) ?_
    | with_reducible refine ite_pending' _ _ ?_ ?_
    | with_reducible refine Eq.trans (foldl_pending _ _ _ ?_) ?_

@[simp] theorem State.sendStatus_pending (s : State) (up : Bool) : (State.sendStatus s up).pending = s.pending := by
  unfold State.sendStatus
  repeat' first
    | with_reducible rfl
    | with_reducible refine Eq.trans (State.reinPut_pending _ _ _) ?_
    | with_reducible refine ite_pending' _ _ ?_ ?_

@[simp] theorem State.statusRx_pending (s : State) (up : Bool) (x : Nat) : (State.statusRx s up x).pending = s.pending := by
  unfold State.statusRx
  repeat' first
    | with_reducible rfl
    | with_reducible refine Eq.trans (State.putFlag_pending _ _ _ _) ?_
    | with_reducible refine Eq.trans (State.syncTime_pending _) ?_
    | with_reducible refine ite_pending' _ _ ?_ ?_

@[simp] theorem State.sendSync_pending (s : State) : (State.sendSync s).pending = s.pending := by
  unfold State.sendSync
  repeat' first
    | with_reducible rfl
    | with_reducible refine Eq.trans (State.reinPut_pending _ _ _) ?_
    | with_reducible refine Eq.trans (State.setRein_pending _ _) ?_
    | with_reducible refine ite_pending' _ _ ?_ ?_

@[simp] theorem State.syncRx_pending (s : State) (up : Bool) : (State.syncRx s up).pending = s.pending := by
  unfold State.syncRx
  repeat' first
    | with_reducible rfl
    | with_reducible refine Eq.trans (State.reinPut_pending _ _ _) ?_
    | with_reducible refine ite_pending' _ _ ?_ ?_

@[simp] theorem State.wholeNs_pending (s : State) (ps : Int) : (State.wholeNs s ps).2.pending = s.pending := by
  unfold State.wholeNs
  repeat' first
    | with_reducible rfl
    | with_reducible refine ite_snd_pending _ _ ?_ ?_
    | with_reducible refine Eq.trans (State.freeVal_pending _ _) ?_

@[simp] theorem State.respRx_pending (s : State) (up : Bool) (t2 t3 : Nat) : (State.respRx s up t2 t3).pending = s.pending := by
  unfold State.respRx
  repeat' first
    | with_reducible rfl
    | with_reducible refine Eq.trans (State.measure_pending _ _ _) ?_
    | with_reducible refine Eq.trans (State.put_pending _ _ _ _) ?_
    | with_reducible refine Eq.trans (State.setRein_pending _ _) ?_
    | with_reducible refine Eq.trans (State.wholeNs_pending _ _) ?_
    | dsimp only
    | split

@[simp] theorem State.mgmtStart_pending (s : State) : (State.mgmtStart s).pending = s.pending := by
  unfold State.mgmtStart
  repeat' first
    | with_reducible rfl
    | with_reducible refine Eq.trans (State.mgmtEnd_pending _ _) ?_
    | with_reducible refine Eq.trans (State.put_pending _ _ _ _) ?_
    | with_reducible refine Eq.trans (State.putFlag_pending _ _ _ _) ?_
    | with_reducible refine Eq.trans (State.reinRoute_pending _ _) ?_
    | with_reducible refine Eq.trans (State.setRein_pending _ _) ?_
    | with_reducible refine ite_pending' _ _ ?_ ?_

@[simp] theorem State.mgmtAnswer_pending (s : State) (src result data : Nat) : (State.mgmtAnswer s src result data).pending = s.pending := by
  unfold State.mgmtAnswer
  repeat' first
    | with_reducible rfl
    | with_reducible refine Eq.trans (State.mgmtEnd_pending _ _) ?_
    | with_reducible refine Eq.trans (State.put_pending _ _ _ _) ?_
    | with_reducible refine ite_pending' _ _ ?_ ?_

@[simp] theorem State.mgmtReply_pending (s : State) (src result data : Nat) : (State.mgmtReply s src result data).pending = s.pending := by
  unfold State.mgmtReply
  repeat' first
    | with_reducible rfl
    | with_reducible refine Eq.trans (State.mgmtAnswer_pending _ _ _ _) ?_
    | with_reducible refine Eq.trans (State.reinRoute_pending _ _) ?_
    | with_reducible refine ite_pending' _ _ ?_ ?_

@[simp] theorem State.mirrorDrain_pending (s : State) : (State.mirrorDrain s).pending = s.pending := by
  unfold State.mirrorDrain
  repeat' first
    | with_reducible rfl
    | with_reducible refine Eq.trans (State.count_pending _ _ _ _) ?_
    | with_reducible refine Eq.trans (State.mirrorLost_pending _) ?_
    | with_reducible refine Eq.trans (State.reinPut_pending _ _ _) ?_
    | with_reducible refine ite_pending' _ _ ?_ ?_
    | dsimp only
    | split

@[simp] theorem State.refuseMirror_pending (s : State) (d reason dpi : Nat) : (State.refuseMirror s d reason dpi).pending = s.pending := by
  unfold State.refuseMirror
  repeat' first
    | with_reducible rfl
    | with_reducible refine Eq.trans (State.freeVal_pending _ _) ?_
    | with_reducible refine Eq.trans (State.refuseCommit_pending _ _ _ _ _ _) ?_

@[simp] theorem State.mirrorRx_pending (s : State) (src dpi type : Nat) (bytes : List Byte) : (State.mirrorRx s src dpi type bytes).pending = s.pending := by
  unfold State.mirrorRx
  repeat' first
    | with_reducible rfl
    | with_reducible refine Eq.trans (State.count_pending _ _ _ _) ?_
    | with_reducible refine Eq.trans (State.prevRec_pending _ _ _) ?_
    | with_reducible refine Eq.trans (State.readDesc_pending _ _ _ _) ?_
    | with_reducible refine Eq.trans (State.readRec_pending _ _ _ _) ?_
    | with_reducible refine Eq.trans (State.refuseMirror_pending _ _ _ _) ?_
    | with_reducible refine Eq.trans (State.updateRec_pending _ _ _ _ _) ?_
    | with_reducible refine ite_pending' _ _ ?_ ?_
    | dsimp only
    | split

@[simp] theorem State.idle_pending (s : State) : (State.idle s).pending = s.pending := by
  unfold State.idle
  repeat' first
    | with_reducible rfl
    | with_reducible refine Eq.trans (State.mirrorDrain_pending _) ?_
    | with_reducible refine Eq.trans (State.tick_pending _) ?_
    | with_reducible refine ite_pending' _ _ ?_ ?_

@[simp] theorem State.setWelt_pending (s : State) (d k : Nat) (e : WeltEnd) : (State.setWelt s d k e).pending = s.pending := by rfl

@[simp] theorem State.weltTo_pending (s : State) (d k st : Nat) : (State.weltTo s d k st).pending = s.pending := by
  unfold State.weltTo
  repeat' first
    | with_reducible rfl
    | with_reducible refine Eq.trans (State.clrBit_pending _ _ _ _) ?_
    | with_reducible refine Eq.trans (State.put_pending _ _ _ _) ?_
    | with_reducible refine Eq.trans (State.setBit_pending _ _ _ _) ?_
    | with_reducible refine ite_pending' _ _ ?_ ?_

@[simp] theorem State.bothEnds_pending (s : State) (d k : Nat) (f : State → Nat → State) (h : ∀ a x, (f a x).pending = a.pending) :
    (s.bothEnds d k f).pending = s.pending := by simp [State.bothEnds, h]

@[simp] theorem State.weltIsUp_pending (s : State) (d k : Nat) : (State.weltIsUp s d k).pending = s.pending := by
  unfold State.weltIsUp
  repeat' first
    | with_reducible rfl
    | intro _
    | with_reducible refine Eq.trans (State.bothEnds_pending _ _ _ _ ?_) ?_
    | with_reducible refine Eq.trans (State.linkFault_pending _ _ _ _) ?_
    | with_reducible refine Eq.trans (State.putFlag_pending _ _ _ _) ?_
    | with_reducible refine Eq.trans (State.setWelt_pending _ _ _ _) ?_
    | with_reducible refine Eq.trans (State.weltTo_pending _ _ _ _) ?_

@[simp] theorem State.weltIsDown_pending (s : State) (d k : Nat) : (State.weltIsDown s d k).pending = s.pending := by
  unfold State.weltIsDown
  repeat' first
    | with_reducible rfl
    | intro _
    | with_reducible refine Eq.trans (State.bothEnds_pending _ _ _ _ ?_) ?_
    | with_reducible refine Eq.trans (State.linkFault_pending _ _ _ _) ?_
    | with_reducible refine Eq.trans (State.putFlag_pending _ _ _ _) ?_
    | with_reducible refine Eq.trans (State.weltTo_pending _ _ _ _) ?_

@[simp] theorem State.weltTrain_pending (s : State) : (State.weltTrain s).pending = s.pending := by
  unfold State.weltTrain
  repeat' first
    | with_reducible rfl
    | intro _
    | with_reducible refine Eq.trans (State.eachDie_pending _ _ ?_) ?_
    | with_reducible refine Eq.trans (State.linkFault_pending _ _ _ _) ?_
    | with_reducible refine Eq.trans (State.setWelt_pending _ _ _ _) ?_
    | with_reducible refine Eq.trans (State.weltTo_pending _ _ _ _) ?_
    | with_reducible refine ite_pending' _ _ ?_ ?_
    | with_reducible refine Eq.trans (foldl_pending _ _ _ ?_) ?_

end Sys2Proof.Machine
end

