-- ==== Sys2Proof/Laws/KeepPendingHarOps.lean ====
section
/-! SUPPORT. The functions of Machine/HarOps leave the queue alone. -/

namespace Sys2Proof.Machine

@[simp] theorem State.harTo_pending (s : State) (st : Nat) : (State.harTo s st).pending = s.pending := by rfl

@[simp] theorem State.harErr_pending (s : State) (f : VFail) : (State.harErr s f).pending = s.pending := by rfl

@[simp] theorem State.harRefuse_pending (s : State) (code : Nat) : (State.harRefuse s code).pending = s.pending := by rfl

@[simp] theorem State.harBusy_pending (s : State) : (State.harBusy s).pending = s.pending := by rfl

@[simp] theorem State.modHar_pending (s : State) (f : Har → Har) : (State.modHar s f).pending = s.pending := by rfl

@[simp] theorem State.setReady_pending (s : State) (us : List Nat) : (State.setReady s us).pending = s.pending := by rfl

@[simp] theorem State.dropStaged_pending (s : State) : (State.dropStaged s).pending = s.pending := by
  unfold State.dropStaged
  repeat' first
    | with_reducible rfl
    | intro _
    | with_reducible refine Eq.trans (State.eachDie_pending _ _ ?_) ?_
    | with_reducible refine Eq.trans (State.modHar_pending _ _) ?_
    | with_reducible refine Eq.trans (State.putFlag_pending _ _ _ _) ?_
    | with_reducible refine Eq.trans (State.puts_pending _ _ _) ?_

@[simp] theorem State.stage_pending (s : State) (i : Image) (src : Nat) : (State.stage s i src).pending = s.pending := by
  unfold State.stage
  repeat' first
    | with_reducible rfl
    | intro _
    | with_reducible refine Eq.trans (State.eachDie_pending _ _ ?_) ?_
    | with_reducible refine Eq.trans (State.harTo_pending _ _) ?_
    | with_reducible refine Eq.trans (State.modHar_pending _ _) ?_
    | with_reducible refine Eq.trans (State.putFlag_pending _ _ _ _) ?_
    | with_reducible refine Eq.trans (State.puts_pending _ _ _) ?_
    | with_reducible refine Eq.trans (State.storeWrite_pending _ _) ?_

@[simp] theorem State.applySections_pending (s : State) (i : Image) : (State.applySections s i).pending = s.pending := by
  unfold State.applySections
  repeat' first
    | with_reducible rfl
    | intro _
    | with_reducible refine Eq.trans (State.applyCalibration_pending _ _) ?_
    | with_reducible refine Eq.trans (State.applyDatapoints_pending _ _ _) ?_
    | with_reducible refine Eq.trans (State.applyPlacement_pending _ _ _) ?_
    | with_reducible refine Eq.trans (State.applyPower_pending _ _ _) ?_
    | with_reducible refine Eq.trans (State.applyRecorder_pending _ _ _) ?_
    | with_reducible refine Eq.trans (State.applyRegions_pending _ _ _) ?_
    | with_reducible refine Eq.trans (State.applyShapers_pending _ _ _ _) ?_
    | with_reducible refine Eq.trans (State.applySwitch_pending _ _) ?_
    | with_reducible refine Eq.trans (State.applyTenants_pending _ _ _) ?_
    | with_reducible refine Eq.trans (State.applyTime_pending _ _ _) ?_
    | with_reducible refine Eq.trans (State.copyBlocks_pending _ _ _) ?_
    | with_reducible refine Eq.trans (State.eachDie_pending _ _ ?_) ?_
    | with_reducible refine Eq.trans (State.lcePinCfg_pending _ _ _) ?_
    | with_reducible refine Eq.trans (State.loadPads_pending _ _ _) ?_
    | with_reducible refine Eq.trans (State.loadPcie_pending _ _ _) ?_

@[simp] theorem State.imageCond_pending (s : State) (i : Image) : (State.imageCond s i).pending = s.pending := by
  unfold State.imageCond
  repeat' first
    | with_reducible rfl
    | with_reducible refine Eq.trans (State.breakCond_pending _ _) ?_
    | with_reducible refine ite_pending' _ _ ?_ ?_
    | dsimp only
    | split

@[simp] theorem State.applyImage_pending (s : State) (i : Image) (src : Nat) : (State.applyImage s i src).pending = s.pending := by
  unfold State.applyImage
  repeat' first
    | with_reducible rfl
    | intro _
    | with_reducible refine Eq.trans (State.applySections_pending _ _) ?_
    | with_reducible refine Eq.trans (State.count_pending _ _ _ _) ?_
    | with_reducible refine Eq.trans (State.eachDie_pending _ _ ?_) ?_
    | with_reducible refine Eq.trans (State.harTo_pending _ _) ?_
    | with_reducible refine Eq.trans (State.imageCond_pending _ _) ?_
    | with_reducible refine Eq.trans (State.modHar_pending _ _) ?_
    | with_reducible refine Eq.trans (State.planUp_pending _) ?_
    | with_reducible refine Eq.trans (State.putFlag_pending _ _ _ _) ?_
    | with_reducible refine Eq.trans (State.puts_pending _ _ _) ?_
    | with_reducible refine Eq.trans (State.retarget_pending _) ?_

@[simp] theorem State.loadStart_pending (s : State) (src : LoadSrc) : (State.loadStart s src).pending = s.pending := by
  unfold State.loadStart
  repeat' first
    | with_reducible rfl
    | with_reducible refine Eq.trans (State.dropStaged_pending _) ?_
    | with_reducible refine Eq.trans (State.harTo_pending _ _) ?_
    | with_reducible refine Eq.trans (State.modHar_pending _ _) ?_
    | with_reducible refine ite_pending' _ _ ?_ ?_

@[simp] theorem State.loadRefused_pending (s : State) (f : VFail) (id : Nat) : (State.loadRefused s f id).pending = s.pending := by
  unfold State.loadRefused
  repeat' first
    | with_reducible rfl
    | with_reducible refine Eq.trans (State.harErr_pending _ _) ?_
    | with_reducible refine Eq.trans (State.harRecord_pending _ _ _ _ _ _ _ _ _ _ _) ?_
    | with_reducible refine Eq.trans (State.harTo_pending _ _) ?_
    | with_reducible refine Eq.trans (State.modHar_pending _ _) ?_
    | with_reducible refine Eq.trans (State.putFlag_pending _ _ _ _) ?_

@[simp] theorem State.loadArrived_pending (s : State) (i : Image) (src : Nat) : (State.loadArrived s i src).pending = s.pending := by
  unfold State.loadArrived
  repeat' first
    | with_reducible rfl
    | with_reducible refine Eq.trans (State.applyImage_pending _ _ _) ?_
    | with_reducible refine Eq.trans (State.count_pending _ _ _ _) ?_
    | with_reducible refine Eq.trans (State.loadRefused_pending _ _ _) ?_
    | with_reducible refine Eq.trans (State.modHar_pending _ _) ?_
    | with_reducible refine Eq.trans (State.putFlag_pending _ _ _ _) ?_
    | with_reducible refine Eq.trans (State.stage_pending _ _ _) ?_
    | with_reducible refine Eq.trans (State.storeWrite_pending _ _) ?_
    | with_reducible refine ite_pending' _ _ ?_ ?_
    | dsimp only
    | split

@[simp] theorem State.harAborted_pending (s : State) (code count first : Nat) : (State.harAborted s code count first).pending = s.pending := by
  unfold State.harAborted
  repeat' first
    | with_reducible rfl
    | intro _
    | with_reducible refine Eq.trans (State.count_pending _ _ _ _) ?_
    | with_reducible refine Eq.trans (State.eachDie_pending _ _ ?_) ?_
    | with_reducible refine Eq.trans (State.harErr_pending _ _) ?_
    | with_reducible refine Eq.trans (State.harRecord_pending _ _ _ _ _ _ _ _ _ _ _) ?_
    | with_reducible refine Eq.trans (State.harTo_pending _ _) ?_
    | with_reducible refine Eq.trans (State.modHar_pending _ _) ?_
    | with_reducible refine Eq.trans (State.put_pending _ _ _ _) ?_
    | with_reducible refine Eq.trans (State.putFlag_pending _ _ _ _) ?_
    | with_reducible refine Eq.trans (State.setReady_pending _ _) ?_
    | with_reducible refine Eq.trans (foldl_pending _ _ _ ?_) ?_

@[simp] theorem State.resetAbort_pending (s : State) : (State.resetAbort s).pending = s.pending := by
  unfold State.resetAbort
  repeat' first
    | with_reducible rfl
    | with_reducible refine Eq.trans (State.harAborted_pending _ _ _ _) ?_
    | with_reducible refine ite_pending' _ _ ?_ ?_

@[simp] theorem State.checkPrepared_pending (s : State) : (State.checkPrepared s).pending = s.pending := by
  unfold State.checkPrepared
  repeat' first
    | with_reducible rfl
    | with_reducible refine Eq.trans (State.harTo_pending _ _) ?_
    | with_reducible refine Eq.trans (State.putFlag_pending _ _ _ _) ?_
    | with_reducible refine ite_pending' _ _ ?_ ?_

@[simp] theorem State.prepare_pending (s : State) : (State.prepare s).pending = s.pending := by
  unfold State.prepare
  repeat' first
    | with_reducible rfl
    | with_reducible refine Eq.trans (State.checkPrepared_pending _) ?_
    | with_reducible refine Eq.trans (State.harTo_pending _ _) ?_
    | with_reducible refine Eq.trans (State.put_pending _ _ _ _) ?_
    | with_reducible refine Eq.trans (State.setReady_pending _ _) ?_

@[simp] theorem State.shadowCluster_pending (s : State) (c : HarnessCfg) (d k : Nat) (x : State) (h : s.shadowCluster c d k = some x) : x.pending = s.pending := by
  unfold State.shadowCluster at h; (try dsimp only at h)
  repeat' split at h
  all_goals try contradiction
  all_goals cases h
  all_goals
    repeat' first
      | with_reducible rfl
      | with_reducible refine Eq.trans (State.copyBlock_pending _ _ _) ?_
      | with_reducible refine Eq.trans (State.putFlag_pending _ _ _ _) ?_
      | with_reducible refine Eq.trans (State.writePack_pending _ _ _ _ _) ?_

@[simp] theorem State.shadowReady_pending (s : State) (u : Nat) : (State.shadowReady s u).pending = s.pending := by
  unfold State.shadowReady
  repeat' first
    | with_reducible rfl
    | with_reducible refine Eq.trans (State.checkPrepared_pending _) ?_
    | with_reducible refine Eq.trans (State.setReady_pending _ _) ?_
    | with_reducible refine Eq.trans (State.shadowCluster_pending _ _ _ _ _ (by with_reducible assumption)) ?_
    | with_reducible refine ite_pending' _ _ ?_ ?_
    | split

@[simp] theorem State.switchEth_pending (s : State) (d p : Nat) : (State.switchEth s d p).pending = s.pending := by
  unfold State.switchEth
  repeat' first
    | with_reducible rfl
    | with_reducible refine Eq.trans (State.linkDown_pending _ _ _ _) ?_
    | with_reducible refine Eq.trans (State.loadEthPort_pending _ _ _ _) ?_
    | with_reducible refine Eq.trans (State.loadGates_pending _ _ _ _) ?_
    | with_reducible refine ite_pending' _ _ ?_ ?_

@[simp] theorem State.switchSer_pending (s : State) (old : HarnessCfg) (d p : Nat) : (State.switchSer s old d p).pending = s.pending := by
  unfold State.switchSer
  repeat' first
    | with_reducible rfl
    | intro _
    | with_reducible refine Eq.trans (State.loadSerRegs_pending _ _ _ _) ?_
    | with_reducible refine Eq.trans (State.serDrop_pending _ _ _ _ _) ?_
    | with_reducible refine Eq.trans (State.serFlush_pending _ _ _) ?_
    | with_reducible refine Eq.trans (State.startSer_pending _ _ _ _) ?_
    | with_reducible refine ite_pending' _ _ ?_ ?_
    | with_reducible refine Eq.trans (foldl_pending _ _ _ ?_) ?_

@[simp] theorem State.switchTt_pending (s : State) (old : HarnessCfg) (d : Nat) : (State.switchTt s old d).pending = s.pending := by
  unfold State.switchTt
  repeat' first
    | with_reducible rfl
    | intro _
    | with_reducible refine Eq.trans (State.emptyBuf_pending _ _ _) ?_
    | with_reducible refine Eq.trans (State.loadTt_pending _ _ _) ?_
    | with_reducible refine Eq.trans (State.putFlag_pending _ _ _ _) ?_
    | with_reducible refine Eq.trans (State.ttListen_pending _ _) ?_
    | with_reducible refine Eq.trans (State.ttReleaseAll_pending _ _) ?_
    | with_reducible refine Eq.trans (State.ttTo_pending _ _ _) ?_
    | with_reducible refine ite_pending' _ _ ?_ ?_
    | with_reducible refine Eq.trans (foldl_pending _ _ _ ?_) ?_

@[simp] theorem State.switchLace_pending (s : State) (d e : Nat) : (State.switchLace s d e).pending = s.pending := by
  unfold State.switchLace
  repeat' first
    | with_reducible rfl
    | with_reducible refine Eq.trans (State.lceLoad_pending _ _ _ _) ?_
    | with_reducible refine Eq.trans (State.lcePinSome_pending _ _ _ _) ?_
    | with_reducible refine Eq.trans (State.setLceState_pending _ _ _ _) ?_
    | with_reducible refine ite_pending' _ _ ?_ ?_

@[simp] theorem State.switchUnit_pending (s : State) (u : Nat) : (State.switchUnit s u).pending = s.pending := by
  unfold State.switchUnit
  repeat' first
    | with_reducible rfl
    | with_reducible refine Eq.trans (State.autostart_pending _ _) ?_
    | with_reducible refine Eq.trans (State.clusterSwitched_pending _ _ _) ?_
    | with_reducible refine Eq.trans (State.engineSwitch_pending _ _ _) ?_
    | with_reducible refine Eq.trans (State.rebindDma_pending _ _ _ _ _) ?_
    | with_reducible refine Eq.trans (State.switchEth_pending _ _ _) ?_
    | with_reducible refine Eq.trans (State.switchLace_pending _ _ _) ?_
    | with_reducible refine Eq.trans (State.switchSer_pending _ _ _ _) ?_
    | with_reducible refine Eq.trans (State.switchTt_pending _ _ _) ?_
    | with_reducible refine Eq.trans (State.unitDone_pending _ _) ?_
    | dsimp only
    | split

@[simp] theorem State.rechannel_pending (s : State) (old c : HarnessCfg) (d : Nat) : (State.rechannel s old c d).pending = s.pending := by
  unfold State.rechannel
  repeat' first
    | with_reducible rfl
    | intro _
    | with_reducible refine Eq.trans (State.putFlag_pending _ _ _ _) ?_
    | with_reducible refine Eq.trans (State.puts_pending _ _ _) ?_
    | with_reducible refine Eq.trans (State.setSkv_pending _ _ _ _) ?_
    | with_reducible refine ite_pending' _ _ ?_ ?_
    | with_reducible refine Eq.trans (foldl_pending _ _ _ ?_) ?_

@[simp] theorem State.dropContexts_pending (s : State) (c : HarnessCfg) : (State.dropContexts s c).pending = s.pending := by
  unfold State.dropContexts
  repeat' first
    | with_reducible rfl
    | intro _
    | with_reducible refine Eq.trans (State.freeCtx_pending _ _ _) ?_
    | with_reducible refine ite_pending' _ _ ?_ ?_
    | with_reducible refine Eq.trans (foldl_pending _ _ _ ?_) ?_

@[simp] theorem State.switchPcie_pending (s : State) (old c : HarnessCfg) (d : Nat) : (State.switchPcie s old c d).pending = s.pending := by
  unfold State.switchPcie
  repeat' first
    | with_reducible rfl
    | with_reducible refine Eq.trans (State.loadPcie_pending _ _ _) ?_
    | with_reducible refine Eq.trans (State.portReset_pending _ _ _) ?_
    | with_reducible refine ite_pending' _ _ ?_ ?_

@[simp] theorem State.restoreUnits_pending (s : State) (c : HarnessCfg) (d : Nat) : (State.restoreUnits s c d).pending = s.pending := by
  unfold State.restoreUnits
  repeat' first
    | with_reducible rfl
    | intro _
    | with_reducible refine Eq.trans (State.lceTunables_pending _ _) ?_
    | with_reducible refine Eq.trans (State.loadEthCtrl_pending _ _ _ _) ?_
    | with_reducible refine Eq.trans (State.serCtrlReset_pending _ _ _) ?_
    | with_reducible refine ite_pending' _ _ ?_ ?_
    | with_reducible refine Eq.trans (foldl_pending _ _ _ ?_) ?_

@[simp] theorem State.commitTables_pending (s : State) (i : Image) (old : HarnessCfg) : (State.commitTables s i old).pending = s.pending := by
  unfold State.commitTables
  repeat' first
    | with_reducible rfl
    | intro _
    | with_reducible refine Eq.trans (State.applyCalibration_pending _ _) ?_
    | with_reducible refine Eq.trans (State.applyDatapoints_pending _ _ _) ?_
    | with_reducible refine Eq.trans (State.applyPower_pending _ _ _) ?_
    | with_reducible refine Eq.trans (State.applyRecorder_pending _ _ _) ?_
    | with_reducible refine Eq.trans (State.applyRegions_pending _ _ _) ?_
    | with_reducible refine Eq.trans (State.applyShapers_pending _ _ _ _) ?_
    | with_reducible refine Eq.trans (State.applySwitch_pending _ _) ?_
    | with_reducible refine Eq.trans (State.applyTenants_pending _ _ _) ?_
    | with_reducible refine Eq.trans (State.applyTime_pending _ _ _) ?_
    | with_reducible refine Eq.trans (State.dropContexts_pending _ _) ?_
    | with_reducible refine Eq.trans (State.eachDie_pending _ _ ?_) ?_
    | with_reducible refine Eq.trans (State.lcePinSome_pending _ _ _ _) ?_
    | with_reducible refine Eq.trans (State.loadPads_pending _ _ _) ?_
    | with_reducible refine Eq.trans (State.planUp_pending _) ?_
    | with_reducible refine Eq.trans (State.rechannel_pending _ _ _ _) ?_
    | with_reducible refine Eq.trans (State.restoreUnits_pending _ _ _) ?_
    | with_reducible refine Eq.trans (State.switchPcie_pending _ _ _ _) ?_

@[simp] theorem State.commitNow_pending (s : State) (i : Image) : (State.commitNow s i).pending = s.pending := by
  unfold State.commitNow
  repeat' first
    | with_reducible rfl
    | intro _
    | with_reducible refine Eq.trans (State.commitTables_pending _ _ _) ?_
    | with_reducible refine Eq.trans (State.count_pending _ _ _ _) ?_
    | with_reducible refine Eq.trans (State.eachDie_pending _ _ ?_) ?_
    | with_reducible refine Eq.trans (State.harTo_pending _ _) ?_
    | with_reducible refine Eq.trans (State.lateUnit_pending _ _) ?_
    | with_reducible refine Eq.trans (State.modHar_pending _ _) ?_
    | with_reducible refine Eq.trans (State.put_pending _ _ _ _) ?_
    | with_reducible refine Eq.trans (State.putFlag_pending _ _ _ _) ?_
    | with_reducible refine Eq.trans (State.puts_pending _ _ _) ?_
    | with_reducible refine Eq.trans (State.switchUnit_pending _ _) ?_
    | with_reducible refine Eq.trans (State.switchingEnd_pending _) ?_
    | with_reducible refine ite_pending' _ _ ?_ ?_
    | with_reducible refine Eq.trans (foldl_pending _ _ _ ?_) ?_

@[simp] theorem State.commitInstant_pending (s : State) : (State.commitInstant s).pending = s.pending := by
  unfold State.commitInstant
  repeat' first
    | with_reducible rfl
    | with_reducible refine Eq.trans (State.commitNow_pending _ _) ?_
    | with_reducible refine ite_pending' _ _ ?_ ?_
    | split

@[simp] theorem State.groupAbort_pending (s : State) : (State.groupAbort s).pending = s.pending := by
  unfold State.groupAbort
  repeat' first
    | with_reducible rfl
    | with_reducible refine Eq.trans (State.harAborted_pending _ _ _ _) ?_
    | with_reducible refine ite_pending' _ _ ?_ ?_

@[simp] theorem State.groupReport_pending (s : State) (src : Nat) (ready : Bool) : (State.groupReport s src ready).pending = s.pending := by rfl

@[simp] theorem State.sendDecision_pending (s : State) (commit : Bool) : (State.sendDecision s commit).pending = s.pending := by
  unfold State.sendDecision
  repeat' first
    | with_reducible rfl
    | intro _
    | with_reducible refine Eq.trans (State.reinRoute_pending _ _) ?_
    | with_reducible refine Eq.trans (foldl_pending _ _ _ ?_) ?_

@[simp] theorem State.groupDecide_pending (s : State) (members : Nat) : (State.groupDecide s members).pending = s.pending := by
  unfold State.groupDecide
  repeat' first
    | with_reducible rfl
    | with_reducible refine Eq.trans (State.groupAbort_pending _) ?_
    | with_reducible refine Eq.trans (State.modHar_pending _ _) ?_
    | with_reducible refine Eq.trans (State.sendDecision_pending _ _) ?_
    | with_reducible refine ite_pending' _ _ ?_ ?_

@[simp] theorem State.guardCheck_pending (s : State) (members : Nat) : (State.guardCheck s members).pending = s.pending := by
  unfold State.guardCheck
  repeat' first
    | with_reducible rfl
    | with_reducible refine Eq.trans (State.groupDecide_pending _ _) ?_
    | with_reducible refine Eq.trans (State.groupReport_pending _ _ _) ?_
    | with_reducible refine Eq.trans (State.harAborted_pending _ _ _ _) ?_
    | with_reducible refine Eq.trans (State.harTo_pending _ _) ?_
    | with_reducible refine Eq.trans (State.puts_pending _ _ _) ?_
    | with_reducible refine Eq.trans (State.reinRoute_pending _ _) ?_
    | with_reducible refine ite_pending' _ _ ?_ ?_

@[simp] theorem State.reportRx_pending (s : State) (src : Nat) (ready : Bool) (guardUs time members : Nat) : (State.reportRx s src ready guardUs time members).pending = s.pending := by
  unfold State.reportRx
  repeat' first
    | with_reducible rfl
    | with_reducible refine Eq.trans (State.groupDecide_pending _ _) ?_
    | with_reducible refine Eq.trans (State.groupReport_pending _ _ _) ?_
    | with_reducible refine ite_pending' _ _ ?_ ?_

@[simp] theorem State.decisionRx_pending (s : State) (commit : Bool) : (State.decisionRx s commit).pending = s.pending := by
  unfold State.decisionRx
  repeat' first
    | with_reducible rfl
    | with_reducible refine Eq.trans (State.groupAbort_pending _) ?_
    | with_reducible refine Eq.trans (State.modHar_pending _ _) ?_
    | with_reducible refine ite_pending' _ _ ?_ ?_

@[simp] theorem State.groupTimeout_pending (s : State) : (State.groupTimeout s).pending = s.pending := by
  unfold State.groupTimeout
  repeat' first
    | with_reducible rfl
    | with_reducible refine Eq.trans (State.groupAbort_pending _) ?_
    | with_reducible refine Eq.trans (State.sendDecision_pending _ _) ?_
    | with_reducible refine ite_pending' _ _ ?_ ?_

end Sys2Proof.Machine
end

