-- ==== Sys2Proof/Laws/KeepPendingHarness.lean ====
section
/-! SUPPORT. The functions of Machine/Harness leave the queue alone. -/

namespace Sys2Proof.Machine

@[simp] theorem State.bootCodes_pending (s : State) (a b width : Nat) : (State.bootCodes s a b width).pending = s.pending := by rfl

@[simp] theorem State.bootWith_pending (s : State) (i : Image) (src : Nat) : (State.bootWith s i src).pending = s.pending := by
  unfold State.bootWith
  repeat' first
    | with_reducible rfl
    | with_reducible refine Eq.trans (State.applyImage_pending _ _ _) ?_
    | with_reducible refine Eq.trans (State.dropStaged_pending _) ?_
    | with_reducible refine Eq.trans (State.modHar_pending _ _) ?_
    | with_reducible refine Eq.trans (State.storeWrite_pending _ _) ?_

@[simp] theorem State.bootSeek_pending (s : State) (a b : Option Image) : (State.bootSeek s a b).pending = s.pending := by
  unfold State.bootSeek
  repeat' first
    | with_reducible rfl
    | with_reducible refine Eq.trans (State.bootCodes_pending _ _ _ _) ?_
    | with_reducible refine Eq.trans (State.bootWith_pending _ _ _) ?_
    | with_reducible refine Eq.trans (State.harErr_pending _ _) ?_
    | with_reducible refine Eq.trans (State.harTo_pending _ _) ?_
    | with_reducible refine Eq.trans (State.putFlag_pending _ _ _ _) ?_
    | with_reducible refine ite_pending' _ _ ?_ ?_
    | dsimp only
    | split

@[simp] theorem State.hostLoaded_pending (s : State) (img : Option Image) : (State.hostLoaded s img).pending = s.pending := by
  unfold State.hostLoaded
  repeat' first
    | with_reducible rfl
    | with_reducible refine Eq.trans (State.loadArrived_pending _ _ _) ?_
    | with_reducible refine Eq.trans (State.loadRefused_pending _ _ _) ?_
    | with_reducible refine ite_pending' _ _ ?_ ?_
    | split

@[simp] theorem State.arm_pending (s : State) : (State.arm s).pending = s.pending := by
  unfold State.arm
  repeat' first
    | with_reducible rfl
    | with_reducible refine Eq.trans (State.harBusy_pending _) ?_
    | with_reducible refine Eq.trans (State.harRefuse_pending _ _) ?_
    | with_reducible refine Eq.trans (State.harTo_pending _ _) ?_
    | with_reducible refine Eq.trans (State.modHar_pending _ _) ?_
    | with_reducible refine ite_pending' _ _ ?_ ?_

end Sys2Proof.Machine
end

