-- ==== Sys2Proof/Laws/KeepPendingResetOps.lean ====
section
/-! SUPPORT. The functions of Machine/ResetOps leave the queue alone. -/

namespace Sys2Proof.Machine

@[simp] theorem State.wipe_pending (s : State) (k : ResetKind) : (State.wipe s k).pending = s.pending := by rfl

end Sys2Proof.Machine
end

