-- ==== Sys2Proof/Laws/KeepPendingLadder.lean ====
section
/-! SUPPORT. The functions of Machine/Ladder leave the queue alone. -/

namespace Sys2Proof.Machine

@[simp] theorem State.modRcv_pending (s : State) (f : Rcv → Rcv) : (State.modRcv s f).pending = s.pending := by rfl

@[simp] theorem State.escalated_pending (s : State) (d rung u n : Nat) : (State.escalated s d rung u n).pending = s.pending := by
  unfold State.escalated
  repeat' first
    | with_reducible rfl
    | with_reducible refine Eq.trans (State.latchFault_pending _ _ _ _) ?_
    | with_reducible refine Eq.trans (State.putFlag_pending _ _ _ _) ?_
    | with_reducible refine Eq.trans (State.rcvRec_pending _ _ _ _ _ _ _ _ _) ?_

@[simp] theorem State.pkgStops_pending (s : State) : (State.pkgStops s).pending = s.pending := by
  unfold State.pkgStops
  repeat' first
    | with_reducible rfl
    | intro _
    | with_reducible refine Eq.trans (State.dmaReset_pending _ _ _) ?_
    | with_reducible refine Eq.trans (State.eachDie_pending _ _ ?_) ?_
    | with_reducible refine Eq.trans (State.marchAbort_pending _ _) ?_
    | with_reducible refine Eq.trans (State.resetAbort_pending _) ?_
    | with_reducible refine Eq.trans (State.servoTo_pending _ _) ?_
    | with_reducible refine ite_pending' _ _ ?_ ?_
    | with_reducible refine Eq.trans (foldl_pending _ _ _ ?_) ?_

@[simp] theorem State.pkgVcore_pending (s : State) : (State.pkgVcore s).pending = s.pending := by
  unfold State.pkgVcore
  repeat' first
    | with_reducible rfl
    | with_reducible refine Eq.trans (State.beginMove_pending _ _ _) ?_
    | with_reducible refine Eq.trans (State.endMove_pending _ _ _) ?_
    | with_reducible refine Eq.trans (State.modPwr_pending _ _) ?_
    | with_reducible refine Eq.trans (State.vcoreTo_pending _ _) ?_
    | with_reducible refine ite_pending' _ _ ?_ ?_

@[simp] theorem State.pkgHold_pending (s : State) : (State.pkgHold s).pending = s.pending := by
  unfold State.pkgHold
  repeat' first
    | with_reducible rfl
    | intro _
    | with_reducible refine Eq.trans (State.condFault_pending _ _ _ _ _) ?_
    | with_reducible refine Eq.trans (State.eachDie_pending _ _ ?_) ?_
    | with_reducible refine Eq.trans (State.markRec_pending _ _ _ _) ?_
    | with_reducible refine Eq.trans (State.mirrorLost_pending _) ?_
    | with_reducible refine Eq.trans (State.modRcv_pending _ _) ?_
    | with_reducible refine Eq.trans (State.pkgStops_pending _) ?_
    | with_reducible refine Eq.trans (State.pkgVcore_pending _) ?_
    | with_reducible refine Eq.trans (State.weltTrain_pending _) ?_
    | with_reducible refine Eq.trans (State.wipe_pending _ _) ?_
    | with_reducible refine ite_pending' _ _ ?_ ?_
    | with_reducible refine Eq.trans (foldl_pending _ _ _ ?_) ?_

@[simp] theorem State.pkgClear_pending (s : State) : (State.pkgClear s).pending = s.pending := by
  unfold State.pkgClear
  repeat' first
    | with_reducible rfl
    | intro _
    | with_reducible refine Eq.trans (State.eachDie_pending _ _ ?_) ?_
    | with_reducible refine Eq.trans (State.modRcv_pending _ _) ?_
    | with_reducible refine Eq.trans (State.put_pending _ _ _ _) ?_
    | with_reducible refine Eq.trans (State.putFlag_pending _ _ _ _) ?_

@[simp] theorem State.restage_pending (s : State) : (State.restage s).pending = s.pending := by
  unfold State.restage
  repeat' first
    | with_reducible rfl
    | intro _
    | with_reducible refine Eq.trans (State.dropStaged_pending _) ?_
    | with_reducible refine Eq.trans (State.eachDie_pending _ _ ?_) ?_
    | with_reducible refine Eq.trans (State.harTo_pending _ _) ?_
    | with_reducible refine Eq.trans (State.putFlag_pending _ _ _ _) ?_
    | with_reducible refine Eq.trans (State.puts_pending _ _ _) ?_
    | with_reducible refine ite_pending' _ _ ?_ ?_
    | split

@[simp] theorem State.reverify_pending (s : State) : (State.reverify s).pending = s.pending := by
  unfold State.reverify
  repeat' first
    | with_reducible rfl
    | with_reducible refine Eq.trans (State.applyImage_pending _ _ _) ?_
    | with_reducible refine Eq.trans (State.harErr_pending _ _) ?_
    | with_reducible refine Eq.trans (State.harTo_pending _ _) ?_
    | with_reducible refine Eq.trans (State.modHar_pending _ _) ?_
    | with_reducible refine Eq.trans (State.modRcv_pending _ _) ?_
    | with_reducible refine Eq.trans (State.putFlag_pending _ _ _ _) ?_
    | with_reducible refine Eq.trans (State.restage_pending _) ?_
    | with_reducible refine ite_pending' _ _ ?_ ?_
    | dsimp only
    | split

@[simp] theorem State.pkgApply_pending (s : State) : (State.pkgApply s).pending = s.pending := by
  unfold State.pkgApply
  repeat' first
    | with_reducible rfl
    | intro _
    | with_reducible refine Eq.trans (State.eachDie_pending _ _ ?_) ?_
    | with_reducible refine Eq.trans (State.modRcv_pending _ _) ?_
    | with_reducible refine Eq.trans (State.put_pending _ _ _ _) ?_
    | with_reducible refine Eq.trans (State.putFlag_pending _ _ _ _) ?_
    | with_reducible refine Eq.trans (State.reverify_pending _) ?_
    | with_reducible refine Eq.trans (State.takeHeld_pending _) ?_

@[simp] theorem State.rung4Off_pending (s : State) : (State.rung4Off s).pending = s.pending := by rfl

@[simp] theorem State.pkgStep_pending (s : State) : (State.pkgStep s).pending = s.pending := by
  unfold State.pkgStep
  repeat' first
    | with_reducible rfl
    | with_reducible refine Eq.trans (State.modRcv_pending _ _) ?_
    | with_reducible refine Eq.trans (State.pkgApply_pending _) ?_
    | with_reducible refine Eq.trans (State.pkgClear_pending _) ?_
    | with_reducible refine Eq.trans (State.pkgHold_pending _) ?_
    | with_reducible refine Eq.trans (State.rung4Off_pending _) ?_
    | with_reducible refine ite_pending' _ _ ?_ ?_
    | split

@[simp] theorem State.pkgAdvance_pending (s : State) : (State.pkgAdvance s).pending = s.pending := by
  unfold State.pkgAdvance
  repeat' first
    | with_reducible rfl
    | with_reducible refine Eq.trans (State.pkgStep_pending _) ?_

@[simp] theorem State.rung4_pending (s : State) (trig cls : Nat) : (State.rung4 s trig cls).pending = s.pending := by
  induction cls generalizing s trig with
  | zero =>
    unfold State.rung4
    repeat' first
      | with_reducible rfl
      | with_reducible refine Eq.trans (State.freeVal_pending _ _) ?_
      | with_reducible refine Eq.trans (State.gaspWith_pending _ _) ?_
      | with_reducible refine Eq.trans (State.modRcv_pending _ _) ?_
      | with_reducible refine Eq.trans (State.pkgAdvance_pending _) ?_
      | with_reducible refine Eq.trans (State.rungTaken_pending _ _ _ _ _ _ _) ?_
      | with_reducible refine ite_pending' _ _ ?_ ?_
  | succ _ ih =>
    unfold State.rung4
    repeat' first
      | with_reducible rfl
      | with_reducible refine Eq.trans (State.freeVal_pending _ _) ?_
      | with_reducible refine Eq.trans (State.gaspWith_pending _ _) ?_
      | with_reducible refine Eq.trans (State.modRcv_pending _ _) ?_
      | with_reducible refine Eq.trans (State.pkgAdvance_pending _) ?_
      | with_reducible refine Eq.trans (State.rungTaken_pending _ _ _ _ _ _ _) ?_
      | with_reducible refine ite_pending' _ _ ?_ ?_

@[simp] theorem State.pkgBegin_pending (s : State) (trig cls : Nat) : (State.pkgBegin s trig cls).pending = s.pending := by
  unfold State.pkgBegin
  repeat' first
    | with_reducible rfl
    | with_reducible refine Eq.trans (State.modRcv_pending _ _) ?_
    | with_reducible refine Eq.trans (State.pkgAdvance_pending _) ?_
    | with_reducible refine Eq.trans (State.rungTaken_pending _ _ _ _ _ _ _) ?_
    | with_reducible refine Eq.trans (State.startGasp_pending _ _) ?_

@[simp] theorem State.pkgDecide_pending (s : State) (trig cls : Nat) : (State.pkgDecide s trig cls).pending = s.pending := by
  unfold State.pkgDecide
  repeat' first
    | with_reducible rfl
    | with_reducible refine Eq.trans (State.escalated_pending _ _ _ _ _) ?_
    | with_reducible refine Eq.trans (State.modRcv_pending _ _) ?_
    | with_reducible refine Eq.trans (State.pkgBegin_pending _ _ _) ?_
    | with_reducible refine Eq.trans (State.put_pending _ _ _ _) ?_
    | with_reducible refine Eq.trans (State.rung4_pending _ _ _) ?_
    | with_reducible refine ite_pending' _ _ ?_ ?_

@[simp] theorem State.countAct_pending (s : State) (kind key : Nat) : (State.countAct s kind key).2.pending = s.pending := by rfl

@[simp] theorem State.portStops_pending (s : State) (d p : Nat) : (State.portStops s d p).pending = s.pending := by
  unfold State.portStops
  repeat' first
    | with_reducible rfl
    | with_reducible refine Eq.trans (State.linkDown_pending _ _ _ _) ?_

@[simp] theorem State.regionStops_pending (s : State) (d q : Nat) : (State.regionStops s d q).pending = s.pending := by
  unfold State.regionStops
  repeat' first
    | with_reducible rfl
    | intro _
    | with_reducible refine Eq.trans (State.clusterReset_pending _ _ _) ?_
    | with_reducible refine Eq.trans (State.fenceUnits_pending _ _) ?_
    | with_reducible refine Eq.trans (State.laceGroupOff_pending _ _ _) ?_
    | with_reducible refine Eq.trans (State.marchAbort_pending _ _) ?_
    | with_reducible refine Eq.trans (State.portStops_pending _ _ _) ?_
    | with_reducible refine Eq.trans (State.serFlush_pending _ _ _) ?_
    | with_reducible refine ite_pending' _ _ ?_ ?_
    | with_reducible refine Eq.trans (foldl_pending _ _ _ ?_) ?_

@[simp] theorem State.regionReset_pending (s : State) (d q trig cls : Nat) : (State.regionReset s d q trig cls).pending = s.pending := by
  unfold State.regionReset
  repeat' first
    | with_reducible rfl
    | with_reducible refine Eq.trans (State.countAct_pending _ _ _) ?_
    | with_reducible refine Eq.trans (State.escalated_pending _ _ _ _ _) ?_
    | with_reducible refine Eq.trans (State.pkgDecide_pending _ _ _) ?_
    | with_reducible refine Eq.trans (State.regionStops_pending _ _ _) ?_
    | with_reducible refine Eq.trans (State.rungTaken_pending _ _ _ _ _ _ _) ?_
    | with_reducible refine Eq.trans (State.setBit_pending _ _ _ _) ?_
    | with_reducible refine ite_pending' _ _ ?_ ?_

@[simp] theorem State.reloadEth_pending (s : State) (d p : Nat) : (State.reloadEth s d p).pending = s.pending := by
  unfold State.reloadEth
  repeat' first
    | with_reducible rfl
    | with_reducible refine Eq.trans (State.loadEthPort_pending _ _ _ _) ?_
    | with_reducible refine Eq.trans (State.loadGates_pending _ _ _ _) ?_
    | with_reducible refine Eq.trans (State.putFlag_pending _ _ _ _) ?_
    | with_reducible refine ite_pending' _ _ ?_ ?_

@[simp] theorem State.reloadSer_pending (s : State) (d p : Nat) : (State.reloadSer s d p).pending = s.pending := by
  unfold State.reloadSer
  repeat' first
    | with_reducible rfl
    | with_reducible refine Eq.trans (State.loadSerPort_pending _ _ _ _) ?_
    | with_reducible refine Eq.trans (State.serTo_pending _ _ _ _) ?_
    | with_reducible refine Eq.trans (State.startSer_pending _ _ _ _) ?_
    | with_reducible refine ite_pending' _ _ ?_ ?_

@[simp] theorem State.reloadTt_pending (s : State) (d : Nat) : (State.reloadTt s d).pending = s.pending := by
  unfold State.reloadTt
  repeat' first
    | with_reducible rfl
    | with_reducible refine Eq.trans (State.loadTt_pending _ _ _) ?_
    | with_reducible refine Eq.trans (State.ttTo_pending _ _ _) ?_
    | with_reducible refine ite_pending' _ _ ?_ ?_

@[simp] theorem State.reloadLace_pending (s : State) (d e : Nat) : (State.reloadLace s d e).pending = s.pending := by
  unfold State.reloadLace
  repeat' first
    | with_reducible rfl
    | with_reducible refine Eq.trans (State.lceLoad_pending _ _ _ _) ?_
    | with_reducible refine Eq.trans (State.setLceState_pending _ _ _ _) ?_
    | with_reducible refine ite_pending' _ _ ?_ ?_

@[simp] theorem State.regionReload_pending (s : State) (d q : Nat) : (State.regionReload s d q).pending = s.pending := by
  unfold State.regionReload
  repeat' first
    | with_reducible rfl
    | intro _
    | with_reducible refine Eq.trans (State.autostart_pending _ _) ?_
    | with_reducible refine Eq.trans (State.reloadEth_pending _ _ _) ?_
    | with_reducible refine Eq.trans (State.reloadLace_pending _ _ _) ?_
    | with_reducible refine Eq.trans (State.reloadSer_pending _ _ _) ?_
    | with_reducible refine ite_pending' _ _ ?_ ?_
    | with_reducible refine Eq.trans (foldl_pending _ _ _ ?_) ?_

@[simp] theorem State.clusterAct_pending (s : State) (d c trig cls : Nat) : (State.clusterAct s d c trig cls).pending = s.pending := by
  unfold State.clusterAct
  repeat' first
    | with_reducible rfl
    | with_reducible refine Eq.trans (State.clusterReset_pending _ _ _) ?_
    | with_reducible refine Eq.trans (State.countAct_pending _ _ _) ?_
    | with_reducible refine Eq.trans (State.escalated_pending _ _ _ _ _) ?_
    | with_reducible refine Eq.trans (State.regionReset_pending _ _ _ _ _) ?_
    | with_reducible refine Eq.trans (State.rungTaken_pending _ _ _ _ _ _ _) ?_
    | with_reducible refine ite_pending' _ _ ?_ ?_

@[simp] theorem State.engineCounted_pending (s : State) (d e : Nat) : (State.engineCounted s d e).pending = s.pending := by
  unfold State.engineCounted
  repeat' first
    | with_reducible rfl
    | with_reducible refine Eq.trans (State.clusterAct_pending _ _ _ _ _) ?_
    | with_reducible refine Eq.trans (State.countAct_pending _ _ _) ?_
    | with_reducible refine Eq.trans (State.escalated_pending _ _ _ _ _) ?_
    | with_reducible refine ite_pending' _ _ ?_ ?_

@[simp] theorem State.clusterCounted_pending (s : State) (d c : Nat) : (State.clusterCounted s d c).pending = s.pending := by
  unfold State.clusterCounted
  repeat' first
    | with_reducible rfl
    | with_reducible refine Eq.trans (State.countAct_pending _ _ _) ?_
    | with_reducible refine Eq.trans (State.escalated_pending _ _ _ _ _) ?_
    | with_reducible refine Eq.trans (State.regionReset_pending _ _ _ _ _) ?_
    | with_reducible refine ite_pending' _ _ ?_ ?_

@[simp] theorem State.reloadEscalate_pending (s : State) (d u : Nat) : (State.reloadEscalate s d u).pending = s.pending := by
  unfold State.reloadEscalate
  repeat' first
    | with_reducible rfl
    | with_reducible refine Eq.trans (State.clusterAct_pending _ _ _ _ _) ?_
    | with_reducible refine Eq.trans (State.escalated_pending _ _ _ _ _) ?_
    | with_reducible refine Eq.trans (State.freeVal_pending _ _) ?_
    | with_reducible refine Eq.trans (State.latchFault_pending _ _ _ _) ?_
    | with_reducible refine Eq.trans (State.pkgDecide_pending _ _ _) ?_
    | with_reducible refine Eq.trans (State.regionReset_pending _ _ _ _ _) ?_
    | dsimp only
    | split

@[simp] theorem State.regionFail_pending (s : State) (d q : Nat) : (State.regionFail s d q).pending = s.pending := by
  unfold State.regionFail
  repeat' first
    | with_reducible rfl
    | with_reducible refine Eq.trans (State.escalated_pending _ _ _ _ _) ?_
    | with_reducible refine Eq.trans (State.freeVal_pending _ _) ?_
    | with_reducible refine Eq.trans (State.latchFault_pending _ _ _ _) ?_
    | with_reducible refine Eq.trans (State.pkgDecide_pending _ _ _) ?_
    | with_reducible refine Eq.trans (State.setBit_pending _ _ _ _) ?_

@[simp] theorem State.regionDone_pending (s : State) (d q : Nat) : (State.regionDone s d q).pending = s.pending := by
  unfold State.regionDone
  repeat' first
    | with_reducible rfl
    | intro _
    | with_reducible refine Eq.trans (State.clrBit_pending _ _ _ _) ?_
    | with_reducible refine Eq.trans (State.putFlag_pending _ _ _ _) ?_
    | with_reducible refine Eq.trans (State.regionFail_pending _ _ _) ?_
    | with_reducible refine Eq.trans (State.regionReload_pending _ _ _) ?_
    | with_reducible refine Eq.trans (State.rung2Done_pending _ _) ?_
    | with_reducible refine Eq.trans (State.setBank_pending _ _ _ _) ?_
    | with_reducible refine Eq.trans (State.setBit_pending _ _ _ _) ?_
    | with_reducible refine Eq.trans (State.unfenceUnits_pending _ _) ?_
    | with_reducible refine ite_pending' _ _ ?_ ?_
    | with_reducible refine Eq.trans (foldl_pending _ _ _ ?_) ?_

@[simp] theorem State.unitResult_pending (s : State) (d r : Nat) : (State.unitResult s d r).pending = s.pending := by rfl

@[simp] theorem State.unitReload_pending (s : State) (d ty k : Nat) (x : State) (h : s.unitReload d ty k = some x) : x.pending = s.pending := by
  unfold State.unitReload at h; (try dsimp only at h)
  repeat' split at h
  all_goals try contradiction
  all_goals cases h
  all_goals
    repeat' first
      | with_reducible rfl
      | intro _
      | with_reducible refine Eq.trans (State.autostart_pending _ _) ?_
      | with_reducible refine Eq.trans (State.dmaReset_pending _ _ _) ?_
      | with_reducible refine Eq.trans (State.portStops_pending _ _ _) ?_
      | with_reducible refine Eq.trans (State.reloadEth_pending _ _ _) ?_
      | with_reducible refine Eq.trans (State.reloadLace_pending _ _ _) ?_
      | with_reducible refine Eq.trans (State.reloadSer_pending _ _ _) ?_
      | with_reducible refine Eq.trans (State.reloadTt_pending _ _) ?_
      | with_reducible refine Eq.trans (State.safePin_pending _ _ _) ?_
      | with_reducible refine Eq.trans (State.serFlush_pending _ _ _) ?_
      | with_reducible refine Eq.trans (State.setLce_pending _ _ _ _) ?_
      | with_reducible refine Eq.trans (State.setLceState_pending _ _ _ _) ?_
      | with_reducible refine Eq.trans (State.ttReleaseAll_pending _ _) ?_
      | with_reducible refine ite_pending' _ _ ?_ ?_
      | with_reducible refine Eq.trans (foldl_pending _ _ _ ?_) ?_

@[simp] theorem State.unitRequest_pending (s : State) (d u trig : Nat) (reg : Bool) : (State.unitRequest s d u trig reg).2.pending = s.pending := by
  unfold State.unitRequest
  repeat' first
    | with_reducible rfl
    | with_reducible refine ite_snd_pending _ _ ?_ ?_
    | with_reducible refine Eq.trans (State.clusterReset_pending _ _ _) ?_
    | with_reducible refine Eq.trans (State.engineReset_pending _ _ _) ?_
    | with_reducible refine Eq.trans (State.reloadEscalate_pending _ _ _) ?_
    | with_reducible refine Eq.trans (State.rung2Done_pending _ _) ?_
    | with_reducible refine Eq.trans (State.rungTaken_pending _ _ _ _ _ _ _) ?_
    | with_reducible refine Eq.trans (State.unitReload_pending _ _ _ _ _ (by with_reducible assumption)) ?_
    | with_reducible refine Eq.trans (State.unitResult_pending _ _ _) ?_
    | with_reducible refine ite_pending' _ _ ?_ ?_
    | dsimp only
    | split

@[simp] theorem State.beginWake_pending (s : State) (source retries : Nat) : (State.beginWake s source retries).pending = s.pending := by rfl

@[simp] theorem State.powerNext_pending (s : State) : (State.powerNext s).pending = s.pending := by
  unfold State.powerNext
  repeat' first
    | with_reducible rfl
    | with_reducible refine Eq.trans (State.beginWake_pending _ _ _) ?_
    | with_reducible refine Eq.trans (State.powerAdvance_pending _) ?_
    | with_reducible refine ite_pending' _ _ ?_ ?_

@[simp] theorem State.wakeDone_pending (s : State) : (State.wakeDone s).pending = s.pending := by
  unfold State.wakeDone
  repeat' first
    | with_reducible rfl
    | intro _
    | with_reducible refine Eq.trans (State.beginClear_pending _ _ _) ?_
    | with_reducible refine Eq.trans (State.count_pending _ _ _ _) ?_
    | with_reducible refine Eq.trans (State.eachDie_pending _ _ ?_) ?_
    | with_reducible refine Eq.trans (State.modRcv_pending _ _) ?_
    | with_reducible refine Eq.trans (State.powRec_pending _ _ _ _ _ _ _ _) ?_
    | with_reducible refine Eq.trans (State.putFlag_pending _ _ _ _) ?_
    | with_reducible refine Eq.trans (State.puts_pending _ _ _) ?_
    | with_reducible refine Eq.trans (State.reinClear_pending _) ?_
    | with_reducible refine Eq.trans (State.weltTrain_pending _) ?_
    | with_reducible refine Eq.trans (State.wipe_pending _ _) ?_
    | with_reducible refine ite_pending' _ _ ?_ ?_

@[simp] theorem State.safeDie_pending (s : State) (d : Nat) : (State.safeDie s d).pending = s.pending := by
  unfold State.safeDie
  repeat' first
    | with_reducible rfl
    | intro _
    | with_reducible refine Eq.trans (State.lceSafe_pending _ _) ?_
    | with_reducible refine Eq.trans (State.linkDown_pending _ _ _ _) ?_
    | with_reducible refine Eq.trans (State.putFlag_pending _ _ _ _) ?_
    | with_reducible refine Eq.trans (State.serFlush_pending _ _ _) ?_
    | with_reducible refine Eq.trans (State.serTo_pending _ _ _ _) ?_
    | with_reducible refine Eq.trans (State.ttReleaseAll_pending _ _) ?_
    | with_reducible refine Eq.trans (State.ttTo_pending _ _ _) ?_
    | with_reducible refine ite_pending' _ _ ?_ ?_
    | with_reducible refine Eq.trans (foldl_pending _ _ _ ?_) ?_

@[simp] theorem State.safeEnter_pending (s : State) (trig : Nat) : (State.safeEnter s trig).pending = s.pending := by
  unfold State.safeEnter
  repeat' first
    | with_reducible rfl
    | intro _
    | with_reducible refine Eq.trans (State.eachDie_pending _ _ ?_) ?_
    | with_reducible refine Eq.trans (State.putFlag_pending _ _ _ _) ?_
    | with_reducible refine Eq.trans (State.rcvRec_pending _ _ _ _ _ _ _ _ _) ?_
    | with_reducible refine Eq.trans (State.resetAbort_pending _) ?_
    | with_reducible refine Eq.trans (State.safeDie_pending _ _) ?_
    | with_reducible refine Eq.trans (State.startGasp_pending _ _) ?_
    | with_reducible refine ite_pending' _ _ ?_ ?_

@[simp] theorem State.unsafeDie_pending (s : State) (d : Nat) : (State.unsafeDie s d).pending = s.pending := by
  unfold State.unsafeDie
  repeat' first
    | with_reducible rfl
    | intro _
    | with_reducible refine Eq.trans (State.lceUnsafe_pending _ _) ?_
    | with_reducible refine Eq.trans (State.putFlag_pending _ _ _ _) ?_
    | with_reducible refine Eq.trans (State.startSer_pending _ _ _ _) ?_
    | with_reducible refine Eq.trans (State.ttListen_pending _ _) ?_
    | with_reducible refine ite_pending' _ _ ?_ ?_
    | with_reducible refine Eq.trans (foldl_pending _ _ _ ?_) ?_

@[simp] theorem State.safeExitNow_pending (s : State) (trig : Nat) : (State.safeExitNow s trig).2.pending = s.pending := by
  unfold State.safeExitNow
  repeat' first
    | with_reducible rfl
    | intro _
    | with_reducible refine ite_snd_pending _ _ ?_ ?_
    | with_reducible refine Eq.trans (State.eachDie_pending _ _ ?_) ?_
    | with_reducible refine Eq.trans (State.putFlag_pending _ _ _ _) ?_
    | with_reducible refine Eq.trans (State.rcvRec_pending _ _ _ _ _ _ _ _ _) ?_
    | with_reducible refine Eq.trans (State.unsafeDie_pending _ _) ?_

end Sys2Proof.Machine
end

