-- ==== Sys2Proof/Laws/KeepPendingPower.lean ====
section
/-! SUPPORT. The functions of Machine/Power leave the queue alone. -/

namespace Sys2Proof.Machine

@[simp] theorem State.leaveRetain_pending (s : State) : (State.leaveRetain s).pending = s.pending := by
  unfold State.leaveRetain
  repeat' first
    | with_reducible rfl
    | with_reducible refine Eq.trans (State.hold_pending _ _) ?_
    | with_reducible refine Eq.trans (State.retainExit_pending _) ?_
    | with_reducible refine ite_pending' _ _ ?_ ?_

@[simp] theorem State.putVcore_pending (s : State) (mvs : List Nat) : (State.putVcore s mvs).pending = s.pending := by
  unfold State.putVcore
  repeat' first
    | with_reducible rfl
    | intro _
    | with_reducible refine Eq.trans (State.put_pending _ _ _ _) ?_
    | with_reducible refine ite_pending' _ _ ?_ ?_
    | with_reducible refine Eq.trans (foldl_pending _ _ _ ?_) ?_

@[simp] theorem State.settled_pending (s : State) (mvs : List Nat) : (State.settled s mvs).pending = s.pending := by
  unfold State.settled
  repeat' first
    | with_reducible rfl
    | with_reducible refine Eq.trans (State.pkgAdvance_pending _) ?_
    | with_reducible refine Eq.trans (State.putVcore_pending _ _) ?_
    | with_reducible refine Eq.trans (State.vcoreNext_pending _) ?_
    | with_reducible refine ite_pending' _ _ ?_ ?_

@[simp] theorem State.slowStep_pending (s : State) (mv : Nat) : (State.slowStep s mv).pending = s.pending := by
  unfold State.slowStep
  repeat' first
    | with_reducible rfl
    | with_reducible refine Eq.trans (State.pkgAdvance_pending _) ?_
    | with_reducible refine Eq.trans (State.powRec_pending _ _ _ _ _ _ _ _) ?_
    | with_reducible refine Eq.trans (State.put_pending _ _ _ _) ?_
    | with_reducible refine Eq.trans (State.putFlag_pending _ _ _ _) ?_
    | with_reducible refine Eq.trans (State.vcoreNext_pending _) ?_
    | with_reducible refine ite_pending' _ _ ?_ ?_

@[simp] theorem State.adapt_pending (s : State) : (State.adapt s).pending = s.pending := by
  unfold State.adapt
  repeat' first
    | with_reducible rfl
    | with_reducible refine Eq.trans (State.codeStep_pending _) ?_
    | with_reducible refine Eq.trans (State.vcoreTo_pending _ _) ?_
    | with_reducible refine ite_pending' _ _ ?_ ?_

@[simp] theorem State.domainFence_pending (s : State) (d n : Nat) : (State.domainFence s d n).pending = s.pending := by
  unfold State.domainFence
  repeat' first
    | with_reducible rfl
    | with_reducible refine Eq.trans (State.domOff_pending _ _ _) ?_
    | with_reducible refine Eq.trans (State.fenceDom_pending _ _ _) ?_
    | with_reducible refine Eq.trans (State.powerNext_pending _) ?_
    | with_reducible refine ite_pending' _ _ ?_ ?_

@[simp] theorem State.drainForce_pending (s : State) (d n count : Nat) : (State.drainForce s d n count).pending = s.pending := by
  unfold State.drainForce
  repeat' first
    | with_reducible rfl
    | with_reducible refine Eq.trans (State.domOff_pending _ _ _) ?_
    | with_reducible refine Eq.trans (State.latchFault_pending _ _ _ _) ?_
    | with_reducible refine Eq.trans (State.powRec_pending _ _ _ _ _ _ _ _) ?_
    | with_reducible refine Eq.trans (State.powerNext_pending _) ?_
    | with_reducible refine Eq.trans (State.putFlag_pending _ _ _ _) ?_
    | with_reducible refine ite_pending' _ _ ?_ ?_

@[simp] theorem State.rampDone_pending (s : State) (d n : Nat) : (State.rampDone s d n).pending = s.pending := by
  unfold State.rampDone
  repeat' first
    | with_reducible rfl
    | with_reducible refine Eq.trans (State.domUp_pending _ _ _) ?_
    | with_reducible refine ite_pending' _ _ ?_ ?_

@[simp] theorem State.demandWake_pending (s : State) (d c : Nat) : (State.demandWake s d c).pending = s.pending := by
  unfold State.demandWake
  repeat' first
    | with_reducible rfl
    | with_reducible refine Eq.trans (State.leaveRetain_pending _) ?_
    | with_reducible refine Eq.trans (State.powerUp_pending _ _ _) ?_
    | with_reducible refine Eq.trans (State.putFlag_pending _ _ _ _) ?_
    | with_reducible refine ite_pending' _ _ ?_ ?_

@[simp] theorem State.storeBroken_pending (s : State) (d e : Nat) (accepted : Bool) : (State.storeBroken s d e accepted).pending = s.pending := by
  unfold State.storeBroken
  repeat' first
    | with_reducible rfl
    | with_reducible refine Eq.trans (State.drainItem_pending _ _ _ _) ?_
    | with_reducible refine Eq.trans (State.flushHead_pending _ _ _ _) ?_
    | with_reducible refine Eq.trans (State.freeVal_pending _ _) ?_
    | with_reducible refine Eq.trans (State.modEng_pending _ _ _ _) ?_
    | with_reducible refine ite_pending' _ _ ?_ ?_
    | dsimp only
    | split

@[simp] theorem State.recordBroken_pending (s : State) (d c : Nat) : (State.recordBroken s d c).pending = s.pending := by
  unfold State.recordBroken
  repeat' first
    | with_reducible rfl
    | with_reducible refine Eq.trans (State.advanceSeq_pending _ _) ?_
    | with_reducible refine Eq.trans (State.freeVal_pending _ _) ?_
    | with_reducible refine Eq.trans (State.loseRec_pending _ _ _ _ _ _) ?_
    | with_reducible refine Eq.trans (State.refuseRec_pending _ _) ?_
    | with_reducible refine ite_pending' _ _ ?_ ?_

@[simp] theorem State.commitBroken_pending (s : State) (d : Nat) (accepted : Bool) : (State.commitBroken s d accepted).pending = s.pending := by
  unfold State.commitBroken
  repeat' first
    | with_reducible rfl
    | with_reducible refine Eq.trans (State.commitStatus_pending _ _ _) ?_
    | with_reducible refine Eq.trans (State.freeVal_pending _ _) ?_
    | with_reducible refine Eq.trans (State.handleCommit_pending _ _) ?_
    | with_reducible refine Eq.trans (State.refuseCommit_pending _ _ _ _ _ _) ?_
    | with_reducible refine ite_pending' _ _ ?_ ?_
    | dsimp only
    | split

@[simp] theorem State.sentOutcome_pending (s : State) (d m : Nat) (write accepted : Bool) (obj : SentObj) : (State.sentOutcome s d m write accepted obj).pending = s.pending := by
  have h (c : Prop) [Decidable c] (a b : State) (ha : a.pending = s.pending) (hb : b.pending = s.pending) :
      (if c then a else b).pending = s.pending := by split <;> assumption
  unfold State.sentOutcome
  refine h _ _ _ ?_ (h _ _ _ ?_ (h _ _ _ ?_ (h _ _ _ ?_ (h _ _ _ ?_ (h _ _ _ ?_ rfl)))))
  · cases obj <;> dsimp only
    · exact h _ _ _ (by simp) rfl
    · simp
  · simp
  · cases obj <;> dsimp only
    simp
  · cases obj <;> dsimp only
    simp
  · cases obj <;> dsimp only
    simp
  · simp

@[simp] theorem State.sentLog_pending (s : State) (d m td dom off : Nat) (write accepted : Bool) : (State.sentLog s d m td dom off write accepted).pending = s.pending := by
  unfold State.sentLog
  repeat' first
    | with_reducible rfl
    | with_reducible refine Eq.trans (State.putFlag_pending _ _ _ _) ?_
    | with_reducible refine Eq.trans (State.puts_pending _ _ _) ?_
    | with_reducible refine ite_pending' _ _ ?_ ?_

@[simp] theorem State.sentRec_pending (s : State) (d m : Nat) : (State.sentRec s d m).pending = s.pending := by
  unfold State.sentRec
  repeat' first
    | with_reducible rfl
    | with_reducible refine Eq.trans (State.modPwr_pending _ _) ?_
    | with_reducible refine Eq.trans (State.powRec_pending _ _ _ _ _ _ _ _) ?_
    | with_reducible refine ite_pending' _ _ ?_ ?_

@[simp] theorem State.sentinel_pending (s : State) (d m td dom off : Nat) (write accepted : Bool) (origin : Option (Nat × Nat)) (obj : SentObj) : (State.sentinel s d m td dom off write accepted origin obj).pending = s.pending := by
  unfold State.sentinel
  repeat' first
    | with_reducible rfl
    | with_reducible refine Eq.trans (State.count_pending _ _ _ _) ?_
    | with_reducible refine Eq.trans (State.latchFault_pending _ _ _ _) ?_
    | with_reducible refine Eq.trans (State.putFlag_pending _ _ _ _) ?_
    | with_reducible refine Eq.trans (State.sentLog_pending _ _ _ _ _ _ _ _) ?_
    | with_reducible refine Eq.trans (State.sentOutcome_pending _ _ _ _ _ _) ?_
    | with_reducible refine Eq.trans (State.sentRec_pending _ _ _) ?_
    | with_reducible refine ite_pending' _ _ ?_ ?_
    | dsimp only
    | split

@[simp] theorem State.crossingAck_pending (s : State) (d n : Nat) (forced : Bool) : (State.crossingAck s d n forced).pending = s.pending := by
  unfold State.crossingAck
  repeat' first
    | with_reducible rfl
    | with_reducible refine Eq.trans (State.latchFault_pending _ _ _ _) ?_
    | with_reducible refine Eq.trans (State.modPwr_pending _ _) ?_
    | with_reducible refine Eq.trans (State.putFlag_pending _ _ _ _) ?_
    | with_reducible refine ite_pending' _ _ ?_ ?_

@[simp] theorem State.wakeBy_pending (s : State) (kind : Nat) : (State.wakeBy s kind).pending = s.pending := by
  unfold State.wakeBy
  repeat' first
    | with_reducible rfl
    | with_reducible refine Eq.trans (State.beginWake_pending _ _ _) ?_
    | with_reducible refine Eq.trans (State.leaveRetain_pending _) ?_
    | with_reducible refine ite_pending' _ _ ?_ ?_
    | dsimp only
    | split

@[simp] theorem State.railsGood_pending (s : State) : (State.railsGood s).pending = s.pending := by
  unfold State.railsGood
  repeat' first
    | with_reducible rfl
    | intro _
    | with_reducible refine Eq.trans (State.breakCond_pending _ _) ?_
    | with_reducible refine Eq.trans (State.condFault_pending _ _ _ _ _) ?_
    | with_reducible refine Eq.trans (State.eachDie_pending _ _ ?_) ?_
    | with_reducible refine Eq.trans (State.modPwr_pending _ _) ?_
    | with_reducible refine Eq.trans (State.wakeDone_pending _) ?_
    | with_reducible refine ite_pending' _ _ ?_ ?_

@[simp] theorem State.railsLate_pending (s : State) : (State.railsLate s).pending = s.pending := by
  unfold State.railsLate
  repeat' first
    | with_reducible rfl
    | with_reducible refine Eq.trans (State.modPwr_pending _ _) ?_
    | with_reducible refine Eq.trans (State.modRcv_pending _ _) ?_
    | with_reducible refine Eq.trans (State.puts_pending _ _ _) ?_
    | with_reducible refine ite_pending' _ _ ?_ ?_

@[simp] theorem State.railLow_pending (s : State) (d rail mv : Nat) : (State.railLow s d rail mv).pending = s.pending := by
  unfold State.railLow
  repeat' first
    | with_reducible rfl
    | with_reducible refine Eq.trans (State.condFault_pending _ _ _ _ _) ?_
    | with_reducible refine Eq.trans (State.modPwr_pending _ _) ?_
    | with_reducible refine Eq.trans (State.powRec_pending _ _ _ _ _ _ _ _) ?_
    | with_reducible refine Eq.trans (State.putFlag_pending _ _ _ _) ?_
    | with_reducible refine Eq.trans (State.setBit_pending _ _ _ _) ?_
    | with_reducible refine Eq.trans (State.startGasp_pending _ _) ?_

@[simp] theorem State.deviceKey_pending (s : State) : (State.deviceKey s).pending = s.pending := by
  unfold State.deviceKey
  repeat' first
    | with_reducible rfl
    | intro _
    | with_reducible refine Eq.trans (State.freeVal_pending _ _) ?_
    | with_reducible refine Eq.trans (State.put_pending _ _ _ _) ?_
    | with_reducible refine Eq.trans (State.putFlag_pending _ _ _ _) ?_
    | with_reducible refine ite_pending' _ _ ?_ ?_
    | with_reducible refine Eq.trans (foldl_pending _ _ _ ?_) ?_

@[simp] theorem State.powerOn_pending (s : State) : (State.powerOn s).pending = s.pending := by
  unfold State.powerOn
  repeat' first
    | with_reducible rfl
    | with_reducible refine Eq.trans (State.deviceKey_pending _) ?_
    | with_reducible refine Eq.trans (State.putFlag_pending _ _ _ _) ?_
    | with_reducible refine Eq.trans (State.wipe_pending _ _) ?_

@[simp] theorem State.pcieDown_pending (s : State) (p : Nat) : (State.pcieDown s p).pending = s.pending := by
  unfold State.pcieDown
  repeat' first
    | with_reducible rfl
    | with_reducible refine Eq.trans (State.portReset_pending _ _ _) ?_
    | with_reducible refine Eq.trans (State.putFlag_pending _ _ _ _) ?_
    | with_reducible refine ite_pending' _ _ ?_ ?_

@[simp] theorem State.pllLost_pending (s : State) (d island : Nat) : (State.pllLost s d island).pending = s.pending := by
  unfold State.pllLost
  repeat' first
    | with_reducible rfl
    | intro _
    | with_reducible refine Eq.trans (State.linkDown_pending _ _ _ _) ?_
    | with_reducible refine Eq.trans (State.modPwr_pending _ _) ?_
    | with_reducible refine Eq.trans (State.pcieDown_pending _ _) ?_
    | with_reducible refine Eq.trans (State.reinBroken_pending _ _) ?_
    | with_reducible refine ite_pending' _ _ ?_ ?_
    | with_reducible refine Eq.trans (foldl_pending _ _ _ ?_) ?_
    | dsimp only
    | split

end Sys2Proof.Machine
end

