-- ==== Sys2Proof/Laws/KeepPendingRecovery.lean ====
section
/-! SUPPORT. The functions of Machine/Recovery leave the queue alone. -/

namespace Sys2Proof.Machine

@[simp] theorem State.faultDetect_pending (s : State) (d c u : Nat) (on : Bool) : (State.faultDetect s d c u on).pending = s.pending := by
  unfold State.faultDetect
  repeat' first
    | with_reducible rfl
    | with_reducible refine Eq.trans (State.clusterCounted_pending _ _ _) ?_
    | with_reducible refine Eq.trans (State.condFault_pending _ _ _ _ _) ?_
    | with_reducible refine Eq.trans (State.engineCounted_pending _ _ _) ?_
    | with_reducible refine Eq.trans (State.latchFault_pending _ _ _ _) ?_
    | with_reducible refine Eq.trans (State.reloadEscalate_pending _ _ _) ?_
    | with_reducible refine ite_pending' _ _ ?_ ?_
    | split

@[simp] theorem State.reloadFailed_pending (s : State) (d : Nat) (x0 : ResetScope) : (State.reloadFailed s d x0).pending = s.pending := by
  induction d generalizing s with
  | zero =>
    unfold State.reloadFailed
    repeat' first
      | with_reducible rfl
      | with_reducible refine Eq.trans (State.clrBit_pending _ _ _ _) ?_
      | with_reducible refine Eq.trans (State.regionFail_pending _ _ _) ?_
      | with_reducible refine Eq.trans (State.reloadEscalate_pending _ _ _) ?_
      | with_reducible refine Eq.trans (State.unitResult_pending _ _ _) ?_
      | with_reducible refine ite_pending' _ _ ?_ ?_
      | dsimp only
      | split
  | succ _ ih =>
    unfold State.reloadFailed
    repeat' first
      | with_reducible rfl
      | with_reducible refine Eq.trans (State.clrBit_pending _ _ _ _) ?_
      | with_reducible refine Eq.trans (State.regionFail_pending _ _ _) ?_
      | with_reducible refine Eq.trans (State.reloadEscalate_pending _ _ _) ?_
      | with_reducible refine Eq.trans (State.unitResult_pending _ _ _) ?_
      | with_reducible refine ite_pending' _ _ ?_ ?_
      | dsimp only
      | split

@[simp] theorem State.unitGo_pending (s : State) (d u trig : Nat) : (State.unitGo s d u trig).pending = s.pending := by
  unfold State.unitGo
  repeat' first
    | with_reducible rfl
    | with_reducible refine Eq.trans (State.puts_pending _ _ _) ?_
    | with_reducible refine Eq.trans (State.unitRequest_pending _ _ _ _ _) ?_
    | with_reducible refine ite_pending' _ _ ?_ ?_

@[simp] theorem State.resetLow_pending (s : State) (short : Bool) : (State.resetLow s short).pending = s.pending := by
  unfold State.resetLow
  repeat' first
    | with_reducible rfl
    | with_reducible refine Eq.trans (State.breakCond_pending _ _) ?_
    | with_reducible refine Eq.trans (State.modRcv_pending _ _) ?_
    | with_reducible refine Eq.trans (State.pkgDecide_pending _ _ _) ?_
    | with_reducible refine ite_pending' _ _ ?_ ?_

@[simp] theorem State.rung4Wake_pending (s : State) : (State.rung4Wake s).pending = s.pending := by
  unfold State.rung4Wake
  repeat' first
    | with_reducible rfl
    | with_reducible refine Eq.trans (State.beginWake_pending _ _ _) ?_
    | with_reducible refine Eq.trans (State.count_pending _ _ _ _) ?_
    | with_reducible refine Eq.trans (State.modRcv_pending _ _) ?_
    | with_reducible refine ite_pending' _ _ ?_ ?_

@[simp] theorem State.wdogFire_pending (s : State) : (State.wdogFire s).pending = s.pending := by
  unfold State.wdogFire
  repeat' first
    | with_reducible rfl
    | with_reducible refine Eq.trans (State.latchFault_pending _ _ _ _) ?_
    | with_reducible refine Eq.trans (State.pkgDecide_pending _ _ _) ?_
    | with_reducible refine Eq.trans (State.putFlag_pending _ _ _ _) ?_
    | with_reducible refine Eq.trans (State.rung4_pending _ _ _) ?_
    | with_reducible refine ite_pending' _ _ ?_ ?_
    | dsimp only
    | split

@[simp] theorem State.safeRequest_pending (s : State) (on : Bool) (trig : Nat) : (State.safeRequest s on trig).pending = s.pending := by
  unfold State.safeRequest
  repeat' first
    | with_reducible rfl
    | with_reducible refine Eq.trans (State.putFlag_pending _ _ _ _) ?_
    | with_reducible refine Eq.trans (State.safeEnter_pending _ _) ?_
    | with_reducible refine ite_pending' _ _ ?_ ?_

@[simp] theorem State.alarmClear_pending (s : State) : (State.alarmClear s).pending = s.pending := by
  unfold State.alarmClear
  repeat' first
    | with_reducible rfl
    | intro _
    | with_reducible refine Eq.trans (State.eachDie_pending _ _ ?_) ?_
    | with_reducible refine Eq.trans (State.put_pending _ _ _ _) ?_
    | with_reducible refine Eq.trans (State.putFlag_pending _ _ _ _) ?_
    | with_reducible refine ite_pending' _ _ ?_ ?_

@[simp] theorem State.convert_pending (s : State) (d k : Nat) (mC : Int) : (State.convert s d k mC).pending = s.pending := by
  unfold State.convert
  repeat' first
    | with_reducible rfl
    | with_reducible refine ite_snd_pending _ _ ?_ ?_
    | with_reducible refine Eq.trans (State.condFault_pending _ _ _ _ _) ?_
    | with_reducible refine Eq.trans (State.freeVal_pending _ _) ?_
    | with_reducible refine Eq.trans (State.modRcv_pending _ _) ?_
    | with_reducible refine Eq.trans (State.put_pending _ _ _ _) ?_
    | with_reducible refine Eq.trans (State.putFlag_pending _ _ _ _) ?_
    | with_reducible refine ite_pending' _ _ ?_ ?_

@[simp] theorem State.tempCrit_pending (s : State) (d : Nat) (on : Bool) : (State.tempCrit s d on).pending = s.pending := by
  unfold State.tempCrit
  repeat' first
    | with_reducible rfl
    | with_reducible refine Eq.trans (State.condFault_pending _ _ _ _ _) ?_
    | with_reducible refine Eq.trans (State.modRcv_pending _ _) ?_
    | with_reducible refine Eq.trans (State.putFlag_pending _ _ _ _) ?_
    | with_reducible refine Eq.trans (State.safeEnter_pending _ _) ?_
    | with_reducible refine ite_pending' _ _ ?_ ?_

end Sys2Proof.Machine
end

