-- ==== Sys2Proof/Laws/KeepPendingRelock.lean ====
section
/-! SUPPORT. The functions of Machine/Relock leave the queue alone. -/

namespace Sys2Proof.Machine

@[simp] theorem State.freqInput_pending (s : State) (d n : Nat) (lost : Bool) : (State.freqInput s d n lost).pending = s.pending := by
  unfold State.freqInput
  repeat' first
    | with_reducible rfl
    | with_reducible refine Eq.trans (State.relockBegin_pending _) ?_
    | with_reducible refine ite_pending' _ _ ?_ ?_

@[simp] theorem State.stepTt_pending (s : State) (d : Nat) (delta : Int) : (State.stepTt s d delta).pending = s.pending := by rfl

@[simp] theorem State.stepPulses_pending (s : State) (d old : Nat) (delta : Int) : (State.stepPulses s d old delta).pending = s.pending := by
  unfold State.stepPulses
  repeat' first
    | with_reducible rfl
    | intro _
    | with_reducible refine Eq.trans (State.setBit_pending _ _ _ _) ?_
    | with_reducible refine Eq.trans (State.startPulse_pending _ _ _) ?_
    | with_reducible refine ite_pending' _ _ ?_ ?_
    | with_reducible refine Eq.trans (foldl_pending _ _ _ ?_) ?_

@[simp] theorem State.stepDie_pending (s : State) (d : Nat) (delta : Int) : (State.stepDie s d delta).pending = s.pending := by
  unfold State.stepDie
  repeat' first
    | with_reducible rfl
    | with_reducible refine Eq.trans (State.markRec_pending _ _ _ _) ?_
    | with_reducible refine Eq.trans (State.put_pending _ _ _ _) ?_
    | with_reducible refine Eq.trans (State.putFlag_pending _ _ _ _) ?_
    | with_reducible refine Eq.trans (State.stepPulses_pending _ _ _ _) ?_
    | with_reducible refine Eq.trans (State.stepTt_pending _ _ _) ?_

@[simp] theorem State.stepGuard_pending (s : State) (members : Nat) : (State.stepGuard s members).pending = s.pending := by
  unfold State.stepGuard
  repeat' first
    | with_reducible rfl
    | with_reducible refine Eq.trans (State.commitInstant_pending _) ?_
    | with_reducible refine Eq.trans (State.guardCheck_pending _ _) ?_
    | with_reducible refine ite_pending' _ _ ?_ ?_

@[simp] theorem State.stepAll_pending (s : State) (members : Nat) : (State.stepAll s members).pending = s.pending := by
  unfold State.stepAll
  repeat' first
    | with_reducible rfl
    | intro _
    | with_reducible refine Eq.trans (State.eachDie_pending _ _ ?_) ?_
    | with_reducible refine Eq.trans (State.gateClk_pending _ _) ?_
    | with_reducible refine Eq.trans (State.putFlag_pending _ _ _ _) ?_
    | with_reducible refine Eq.trans (State.quietPulses_pending _) ?_
    | with_reducible refine Eq.trans (State.servoTo_pending _ _) ?_
    | with_reducible refine Eq.trans (State.stepDie_pending _ _ _) ?_
    | with_reducible refine Eq.trans (State.stepGuard_pending _ _) ?_
    | with_reducible refine Eq.trans (State.syncTime_pending _) ?_
    | with_reducible refine ite_pending' _ _ ?_ ?_

end Sys2Proof.Machine
end

