-- ==== Sys2Proof/Laws/KeepPendingSwitch.lean ====
section
/-! SUPPORT. The functions of Machine/Switch leave the queue alone. -/

namespace Sys2Proof.Machine

@[simp] theorem State.movePtrs_pending (s : State) (d : Nat) (m : Match) : (State.movePtrs s d m).pending = s.pending := by rfl

@[simp] theorem State.matching_pending (s : State) (d : Nat) : (State.matching s d).2.pending = s.pending := by
  unfold State.matching
  repeat' first
    | with_reducible rfl
    | intro _
    | with_reducible refine Eq.trans (State.movePtrs_pending _ _ _) ?_
    | with_reducible refine Eq.trans (foldl_pending _ _ _ ?_) ?_

@[simp] theorem State.toDest_pending (s : State) (d o f : Nat) : (State.toDest s d o f).pending = s.pending := by
  unfold State.toDest
  repeat' first
    | with_reducible rfl
    | with_reducible refine Eq.trans (State.fillSlot_pending _ _ _ _ _) ?_
    | with_reducible refine Eq.trans (State.setOutQueue_pending _ _ _ _) ?_
    | with_reducible refine Eq.trans (State.toEthernet_pending _ _ _ _) ?_
    | with_reducible refine ite_pending' _ _ ?_ ?_

@[simp] theorem State.moveHead_pending (s : State) (d : Nat) (m : Match) : (State.moveHead s d m).pending = s.pending := by
  unfold State.moveHead
  repeat' first
    | with_reducible rfl
    | with_reducible refine Eq.trans (State.setVoq_pending _ _ _) ?_
    | with_reducible refine Eq.trans (State.toDest_pending _ _ _ _) ?_
    | with_reducible refine ite_pending' _ _ ?_ ?_
    | split

@[simp] theorem State.recorderDone_pending (s : State) (d f : Nat) : (State.recorderDone s d f).pending = s.pending := by
  unfold State.recorderDone
  repeat' first
    | with_reducible rfl
    | with_reducible refine Eq.trans (State.doneWith_pending _ _) ?_
    | with_reducible refine Eq.trans (State.leaveOutput_pending _ _ _ _) ?_
    | with_reducible refine Eq.trans (State.setOutQueue_pending _ _ _ _) ?_

@[simp] theorem State.submit_pending (s : State) (d c fmt source tid : Nat) (body : List Byte) : (State.submit s d c fmt source tid body).pending = s.pending := by
  unfold State.submit
  repeat' first
    | with_reducible rfl
    | with_reducible refine Eq.trans (State.refuseRec_pending _ _) ?_
    | with_reducible refine Eq.trans (State.submitRec_pending _ _ _ _ _ _ _) ?_
    | with_reducible refine ite_pending' _ _ ?_ ?_

@[simp] theorem State.submitFrame_pending (s : State) (d f : Nat) : (State.submitFrame s d f).pending = s.pending := by
  unfold State.submitFrame
  repeat' first
    | with_reducible rfl
    | with_reducible refine Eq.trans (State.countDrop_pending _ _ _ _) ?_
    | with_reducible refine Eq.trans (State.frameRead_pending _ _ _ _ _ _ _) ?_
    | with_reducible refine Eq.trans (State.recorderDone_pending _ _ _) ?_
    | with_reducible refine Eq.trans (State.submit_pending _ _ _ _ _ _ _) ?_
    | with_reducible refine Eq.trans (State.txDone_pending _ _) ?_
    | with_reducible refine ite_pending' _ _ ?_ ?_

@[simp] theorem State.syncCq_pending (s : State) (d : Nat) : (State.syncCq s d).pending = s.pending := by rfl

@[simp] theorem State.leakLog_pending (s : State) (d owner cells first : Nat) (only : Bool) : (State.leakLog s d owner cells first only).pending = s.pending := by
  unfold State.leakLog
  repeat' first
    | with_reducible rfl
    | with_reducible refine Eq.trans (State.put_pending _ _ _ _) ?_
    | with_reducible refine Eq.trans (State.putFlag_pending _ _ _ _) ?_
    | with_reducible refine ite_pending' _ _ ?_ ?_

@[simp] theorem State.leakRec_pending (s : State) (d kind fixed owner cells first before after tid : Nat) : (State.leakRec s d kind fixed owner cells first before after tid).pending = s.pending := by
  unfold State.leakRec
  repeat' first
    | with_reducible rfl
    | with_reducible refine Eq.trans (State.partRec_pending _ _ _ _ _ _) ?_

@[simp] theorem State.leakFinding_pending (s : State) (d owner : Nat) (tid : Option Nat) (cs : List Nat) : (State.leakFinding s d owner tid cs).pending = s.pending := by
  unfold State.leakFinding
  repeat' first
    | with_reducible rfl
    | intro _
    | with_reducible refine Eq.trans (State.count_pending _ _ _ _) ?_
    | with_reducible refine Eq.trans (State.freeCell_pending _ _ _) ?_
    | with_reducible refine Eq.trans (State.leakLog_pending _ _ _ _ _ _) ?_
    | with_reducible refine Eq.trans (State.leakRec_pending _ _ _ _ _ _ _ _ _ _) ?_
    | with_reducible refine Eq.trans (State.put_pending _ _ _ _) ?_
    | with_reducible refine Eq.trans (State.putFlag_pending _ _ _ _) ?_
    | with_reducible refine Eq.trans (State.setOwnerCount_pending _ _ _ _) ?_
    | with_reducible refine Eq.trans (State.unchargeTenant_pending _ _ _ _) ?_
    | with_reducible refine ite_pending' _ _ ?_ ?_
    | with_reducible refine Eq.trans (foldl_pending _ _ _ ?_) ?_
    | split

@[simp] theorem State.countFinding_pending (s : State) (d owner : Nat) (diff : Int) : (State.countFinding s d owner diff).pending = s.pending := by
  unfold State.countFinding
  repeat' first
    | with_reducible rfl
    | with_reducible refine Eq.trans (State.leakLog_pending _ _ _ _ _ _) ?_
    | with_reducible refine Eq.trans (State.leakRec_pending _ _ _ _ _ _ _ _ _ _) ?_
    | with_reducible refine Eq.trans (State.putFlag_pending _ _ _ _) ?_
    | with_reducible refine Eq.trans (State.setOwnerCount_pending _ _ _ _) ?_
    | with_reducible refine ite_pending' _ _ ?_ ?_

@[simp] theorem State.audit_pending (s : State) (d : Nat) : (State.audit s d).pending = s.pending := by
  unfold State.audit
  repeat' first
    | with_reducible rfl
    | intro _
    | with_reducible refine Eq.trans (State.countFinding_pending _ _ _ _) ?_
    | with_reducible refine Eq.trans (State.leakFinding_pending _ _ _ _ _) ?_
    | with_reducible refine ite_pending' _ _ ?_ ?_
    | with_reducible refine Eq.trans (foldl_pending _ _ _ ?_) ?_
    | dsimp only
    | split

end Sys2Proof.Machine
end

