-- ==== Sys2Proof/Laws/KeepPendingAccess.lean ====
section
/-! SUPPORT. The functions of Machine/Access leave the queue alone. -/

namespace Sys2Proof.Machine

@[simp] theorem execAccept_did_pending  (s : State) : (s.did execAccept).pending = s.pending := by
  unfold State.did execAccept
  refine onPkg_did_pending _ _ ?_
  repeat' first
    | with_reducible rfl
    | with_reducible refine Eq.trans (State.schedStep_pending _ _ _) ?_
    | with_reducible refine Eq.trans (State.timIgnore_pending _) ?_
    | with_reducible refine ite_pending' _ _ ?_ ?_

@[simp] theorem execAdminDown_did_pending (d : Die) (p : Unit8) (v : Bool) (s : State) : (s.did (execAdminDown d p v)).pending = s.pending := by
  unfold State.did execAdminDown
  refine onDie_did_pending _ _ _ ?_
  repeat' first
    | with_reducible rfl
    | with_reducible refine Eq.trans (State.linkDown_pending _ _ _ _) ?_
    | with_reducible refine Eq.trans (State.putFlag_pending _ _ _ _) ?_
    | with_reducible refine ite_pending' _ _ ?_ ?_

@[simp] theorem execArcAdopt_did_pending (d : Die) (s : State) : (s.did (execArcAdopt d)).pending = s.pending := by
  unfold State.did execArcAdopt
  refine onDie_did_pending _ _ _ ?_
  repeat' first
    | with_reducible rfl
    | with_reducible refine Eq.trans (State.put_pending _ _ _ _) ?_
    | with_reducible refine Eq.trans (State.putFlag_pending _ _ _ _) ?_
    | with_reducible refine Eq.trans (State.setRecDie_pending _ _ _) ?_
    | with_reducible refine ite_pending' _ _ ?_ ?_

@[simp] theorem execAttest_did_pending  (s : State) : (s.did execAttest).pending = s.pending := by
  unfold State.did execAttest
  refine onPkg_did_pending _ _ ?_
  repeat' first
    | with_reducible rfl
    | with_reducible refine Eq.trans (State.attestReport_pending _) ?_
    | with_reducible refine Eq.trans (State.tenCmd_pending _ _ ?_) ?_

@[simp] theorem execBind_did_pending  (s : State) : (s.did execBind).pending = s.pending := by
  unfold State.did execBind
  refine onPkg_did_pending _ _ ?_
  repeat' first
    | with_reducible rfl
    | with_reducible refine Eq.trans (State.bindToken_pending _) ?_
    | with_reducible refine Eq.trans (State.tenCmd_pending _ _ ?_) ?_

@[simp] theorem execClrNonce_did_pending  (s : State) : (s.did execClrNonce).pending = s.pending := by
  unfold State.did execClrNonce
  refine onPkg_did_pending _ _ ?_
  repeat' first
    | with_reducible rfl
    | with_reducible refine Eq.trans (State.freeVal_pending _ _) ?_

@[simp] theorem execClusterReset_did_pending (d : Die) (k : Unit8) (conns : List (Nat × Nat × Nat)) (s : State) : (s.did (execClusterReset d k conns)).pending = s.pending := by
  unfold State.did execClusterReset
  refine onDie_did_pending _ _ _ ?_
  repeat' first
    | with_reducible rfl
    | with_reducible refine Eq.trans (State.clusterReset_pending _ _ _) ?_
    | with_reducible refine Eq.trans (State.lossNotices_pending _ _ _) ?_
    | with_reducible refine Eq.trans (State.rungTaken_pending _ _ _ _ _ _ _) ?_
    | with_reducible refine ite_pending' _ _ ?_ ?_

@[simp] theorem execCmdActive_did_pending  (s : State) : (s.did execCmdActive).pending = s.pending := by
  unfold State.did execCmdActive
  refine onPkg_did_pending _ _ ?_
  repeat' first
    | with_reducible rfl
    | with_reducible refine Eq.trans (State.powerCmd_pending _ _) ?_

@[simp] theorem execCmdCycle_did_pending  (s : State) : (s.did execCmdCycle).pending = s.pending := by
  unfold State.did execCmdCycle
  refine onPkg_did_pending _ _ ?_
  repeat' first
    | with_reducible rfl
    | with_reducible refine Eq.trans (State.powerCmd_pending _ _) ?_
    | with_reducible refine Eq.trans (State.powerNext_pending _) ?_

@[simp] theorem execCmdOffWake_did_pending  (s : State) : (s.did execCmdOffWake).pending = s.pending := by
  unfold State.did execCmdOffWake
  refine onPkg_did_pending _ _ ?_
  repeat' first
    | with_reducible rfl
    | with_reducible refine Eq.trans (State.powerCmd_pending _ _) ?_
    | with_reducible refine Eq.trans (State.powerNext_pending _) ?_

@[simp] theorem execCmdRetain_did_pending  (s : State) : (s.did execCmdRetain).pending = s.pending := by
  unfold State.did execCmdRetain
  refine onPkg_did_pending _ _ ?_
  repeat' first
    | with_reducible rfl
    | with_reducible refine Eq.trans (State.powerCmd_pending _ _) ?_
    | with_reducible refine Eq.trans (State.powerNext_pending _) ?_

@[simp] theorem execCmdTrim_did_pending  (s : State) : (s.did execCmdTrim).pending = s.pending := by
  unfold State.did execCmdTrim
  refine onPkg_did_pending _ _ ?_
  repeat' first
    | with_reducible rfl
    | with_reducible refine Eq.trans (State.powerCmd_pending _ _) ?_

@[simp] theorem execCondClr_did_pending  (s : State) : (s.did execCondClr).pending = s.pending := by
  unfold State.did execCondClr
  refine onPkg_did_pending _ _ ?_
  repeat' first
    | with_reducible rfl
    | with_reducible refine Eq.trans (State.put_pending _ _ _ _) ?_

@[simp] theorem execDetectStart_did_pending (d : Die) (p : Unit8) (s : State) : (s.did (execDetectStart d p)).pending = s.pending := by
  unfold State.did execDetectStart
  refine onDie_did_pending _ _ _ ?_
  repeat' first
    | with_reducible rfl
    | with_reducible refine Eq.trans (State.enterDetect_pending _ _ _) ?_
    | with_reducible refine Eq.trans (State.putFlag_pending _ _ _ _) ?_
    | with_reducible refine ite_pending' _ _ ?_ ?_

@[simp] theorem execEngineReset_did_pending (d : Die) (e : Engine) (s : State) : (s.did (execEngineReset d e)).pending = s.pending := by
  unfold State.did execEngineReset
  refine onDie_did_pending _ _ _ ?_
  repeat' first
    | with_reducible rfl
    | with_reducible refine Eq.trans (State.engineReset_pending _ _ _) ?_
    | with_reducible refine Eq.trans (State.rungTaken_pending _ _ _ _ _ _ _) ?_

@[simp] theorem execErcAlarmClr_did_pending (d : Die) (s : State) : (s.did (execErcAlarmClr d)).pending = s.pending := by
  unfold State.did execErcAlarmClr
  refine onDie_did_pending _ _ _ ?_
  repeat' first
    | with_reducible rfl
    | with_reducible refine Eq.trans (State.putFlag_pending _ _ _ _) ?_
    | with_reducible refine ite_pending' _ _ ?_ ?_

@[simp] theorem execFlush_did_pending (d : Die) (s : State) : (s.did (execFlush d)).pending = s.pending := by
  unfold State.did execFlush
  refine onDie_did_pending _ _ _ ?_
  repeat' first
    | with_reducible rfl
    | with_reducible refine Eq.trans (State.closeCur_pending _ _) ?_
    | with_reducible refine Eq.trans (State.closeSegment_pending _ _ _) ?_
    | with_reducible refine Eq.trans (State.putFlag_pending _ _ _ _) ?_
    | with_reducible refine Eq.trans (State.syncOcc_pending _ _) ?_

@[simp] theorem execGo_did_pending (d : Die) (p : Unit8) (s : State) : (s.did (execGo d p)).pending = s.pending := by
  unfold State.did execGo
  refine onDie_did_pending _ _ _ ?_
  repeat' first
    | with_reducible rfl
    | with_reducible refine Eq.trans (State.serTo_pending _ _ _ _) ?_
    | with_reducible refine ite_pending' _ _ ?_ ?_

@[simp] theorem execHarAbort_did_pending  (s : State) : (s.did execHarAbort).pending = s.pending := by
  unfold State.did execHarAbort
  refine onPkg_did_pending _ _ ?_
  repeat' first
    | with_reducible rfl
    | with_reducible refine Eq.trans (State.harAborted_pending _ _ _ _) ?_
    | with_reducible refine Eq.trans (State.harBusy_pending _) ?_
    | with_reducible refine ite_pending' _ _ ?_ ?_

@[simp] theorem execHarDiscard_did_pending  (s : State) : (s.did execHarDiscard).pending = s.pending := by
  unfold State.did execHarDiscard
  refine onPkg_did_pending _ _ ?_
  repeat' first
    | with_reducible rfl
    | with_reducible refine Eq.trans (State.dropStaged_pending _) ?_
    | with_reducible refine Eq.trans (State.harBusy_pending _) ?_
    | with_reducible refine Eq.trans (State.harTo_pending _ _) ?_
    | with_reducible refine ite_pending' _ _ ?_ ?_

@[simp] theorem execHarLoad_did_pending  (s : State) : (s.did execHarLoad).pending = s.pending := by
  unfold State.did execHarLoad
  refine onPkg_did_pending _ _ ?_
  repeat' first
    | with_reducible rfl
    | with_reducible refine Eq.trans (State.harBusy_pending _) ?_
    | with_reducible refine Eq.trans (State.loadStart_pending _ _) ?_
    | with_reducible refine ite_pending' _ _ ?_ ?_

@[simp] theorem execHarPrepare_did_pending  (s : State) : (s.did execHarPrepare).pending = s.pending := by
  unfold State.did execHarPrepare
  refine onPkg_did_pending _ _ ?_
  repeat' first
    | with_reducible rfl
    | with_reducible refine Eq.trans (State.harBusy_pending _) ?_
    | with_reducible refine Eq.trans (State.prepare_pending _) ?_
    | with_reducible refine ite_pending' _ _ ?_ ?_

@[simp] theorem execMarchStart_did_pending (d : Die) (destructive : Bool) (banks : Nat) (spares : List (Nat × MarchFault)) (s : State) : (s.did (execMarchStart d destructive banks spares)).pending = s.pending := by
  unfold State.did execMarchStart
  refine onDie_did_pending _ _ _ ?_
  repeat' first
    | with_reducible rfl
    | with_reducible refine Eq.trans (State.marchRequest_pending _ _ _ _ _) ?_

@[simp] theorem execPulseArm_did_pending (d : Die) (n : Fin 4) (s : State) : (s.did (execPulseArm d n)).pending = s.pending := by
  unfold State.did execPulseArm
  refine onDie_did_pending _ _ _ ?_
  repeat' first
    | with_reducible rfl
    | with_reducible refine Eq.trans (State.applyPulse_pending _ _ _) ?_
    | with_reducible refine Eq.trans (State.putFlag_pending _ _ _ _) ?_
    | with_reducible refine ite_pending' _ _ ?_ ?_

@[simp] theorem execRaiseSec_did_pending  (s : State) : (s.did execRaiseSec).pending = s.pending := by
  unfold State.did execRaiseSec
  refine onPkg_did_pending _ _ ?_
  repeat' first
    | with_reducible rfl
    | with_reducible refine Eq.trans (State.raiseSec_pending _) ?_
    | with_reducible refine Eq.trans (State.tenCmd_pending _ _ ?_) ?_

@[simp] theorem execRecover_did_pending (d : Die) (p : Unit8) (s : State) : (s.did (execRecover d p)).pending = s.pending := by
  unfold State.did execRecover
  refine onDie_did_pending _ _ _ ?_
  repeat' first
    | with_reducible rfl
    | with_reducible refine Eq.trans (State.modSer_pending _ _ _ _) ?_
    | with_reducible refine ite_pending' _ _ ?_ ?_

@[simp] theorem execRestartAn_did_pending (d : Die) (p : Unit8) (s : State) : (s.did (execRestartAn d p)).pending = s.pending := by
  unfold State.did execRestartAn
  refine onDie_did_pending _ _ _ ?_
  repeat' first
    | with_reducible rfl
    | with_reducible refine Eq.trans (State.linkDown_pending _ _ _ _) ?_
    | with_reducible refine Eq.trans (State.putFlag_pending _ _ _ _) ?_
    | with_reducible refine ite_pending' _ _ ?_ ?_

@[simp] theorem execSnapRelease_did_pending (d : Die) (k : Fin 4) (s : State) : (s.did (execSnapRelease d k)).pending = s.pending := by
  unfold State.did execSnapRelease
  refine onDie_did_pending _ _ _ ?_
  repeat' first
    | with_reducible rfl
    | with_reducible refine Eq.trans (State.putFlag_pending _ _ _ _) ?_

@[simp] theorem execStep_did_pending  (s : State) : (s.did execStep).pending = s.pending := by
  unfold State.did execStep
  refine onPkg_did_pending _ _ ?_
  repeat' first
    | with_reducible rfl
    | with_reducible refine Eq.trans (State.schedStep_pending _ _ _) ?_
    | with_reducible refine Eq.trans (State.timIgnore_pending _) ?_
    | with_reducible refine ite_pending' _ _ ?_ ?_

@[simp] theorem execTtCut_did_pending (d : Die) (ch : Fin 2) (b : Fin 4) (s : State) : (s.did (execTtCut d ch b)).pending = s.pending := by
  unfold State.did execTtCut
  refine onDie_did_pending _ _ _ ?_
  repeat' first
    | with_reducible rfl
    | with_reducible refine Eq.trans (State.cutBranch_pending _ _ _ _ _) ?_
    | with_reducible refine Eq.trans (State.putFlag_pending _ _ _ _) ?_
    | with_reducible refine ite_pending' _ _ ?_ ?_

@[simp] theorem execTtReadmit_did_pending (d : Die) (ch : Fin 2) (b : Fin 4) (s : State) : (s.did (execTtReadmit d ch b)).pending = s.pending := by
  unfold State.did execTtReadmit
  refine onDie_did_pending _ _ _ ?_
  repeat' first
    | with_reducible rfl
    | with_reducible refine Eq.trans (State.setBit_pending _ _ _ _) ?_
    | with_reducible refine ite_pending' _ _ ?_ ?_

@[simp] theorem execTtRestart_did_pending (d : Die) (s : State) : (s.did (execTtRestart d)).pending = s.pending := by
  unfold State.did execTtRestart
  refine onDie_did_pending _ _ _ ?_
  repeat' first
    | with_reducible rfl
    | with_reducible refine Eq.trans (State.ttListen_pending _ _) ?_
    | with_reducible refine ite_pending' _ _ ?_ ?_

@[simp] theorem execUnbind_did_pending  (s : State) : (s.did execUnbind).pending = s.pending := by
  unfold State.did execUnbind
  refine onPkg_did_pending _ _ ?_
  repeat' first
    | with_reducible rfl
    | with_reducible refine Eq.trans (State.tenCmd_pending _ _ ?_) ?_
    | with_reducible refine Eq.trans (State.unbindTenant_pending _) ?_

@[simp] theorem execVcoreTargetWrite_did_pending (v : BitVec 32) (s : State) : (s.did (execVcoreTargetWrite v)).pending = s.pending := by
  unfold State.did execVcoreTargetWrite
  refine onPkg_did_pending _ _ ?_
  repeat' first
    | with_reducible rfl
    | with_reducible refine Eq.trans (State.puts_pending _ _ _) ?_
    | with_reducible refine Eq.trans (State.retarget_pending _) ?_

@[simp] theorem execWdogKick_did_pending (key : BitVec 16) (s : State) : (s.did (execWdogKick key)).pending = s.pending := by
  unfold State.did execWdogKick
  refine onPkg_did_pending _ _ ?_
  repeat' first
    | with_reducible rfl
    | with_reducible refine Eq.trans (State.put_pending _ _ _ _) ?_
    | with_reducible refine Eq.trans (State.wdogFire_pending _) ?_
    | with_reducible refine ite_pending' _ _ ?_ ?_

@[simp] theorem State.eachBit_pending (s : State) (n mask : Nat) (f : Nat → State → State) (h : ∀ i a, (f i a).pending = a.pending) :
    (s.eachBit n mask f).pending = s.pending := by
  unfold State.eachBit; exact foldl_pending _ _ _ (fun a x => h x a)

@[simp] theorem State.ethWrite_pending (s : State) (d off v : Nat) : (State.ethWrite s d off v).pending = s.pending := by
  unfold State.ethWrite
  repeat' first
    | with_reducible rfl
    | simp only [execAdminDown_did_pending, execRestartAn_did_pending]
    | with_reducible refine Eq.trans (State.rawWrite_pending _ _ _ _) ?_
    | with_reducible refine ite_pending' _ _ ?_ ?_

@[simp] theorem State.serAdmin_pending (s : State) (d p : Nat) (down : Bool) : (State.serAdmin s d p down).pending = s.pending := by
  unfold State.serAdmin
  repeat' first
    | with_reducible rfl
    | with_reducible refine Eq.trans (State.modSer_pending _ _ _ _) ?_
    | with_reducible refine Eq.trans (State.putFlag_pending _ _ _ _) ?_
    | with_reducible refine ite_pending' _ _ ?_ ?_

@[simp] theorem State.serWrite_pending (s : State) (d off v : Nat) : (State.serWrite s d off v).pending = s.pending := by
  unfold State.serWrite
  repeat' first
    | with_reducible rfl
    | with_reducible refine Eq.trans (State.abortHead_pending _ _ _) ?_
    | with_reducible refine Eq.trans (execDetectStart_did_pending _ _ _) ?_
    | with_reducible refine Eq.trans (execGo_did_pending _ _ _) ?_
    | with_reducible refine Eq.trans (execRecover_did_pending _ _ _) ?_
    | with_reducible refine Eq.trans (State.rawWrite_pending _ _ _ _) ?_
    | with_reducible refine Eq.trans (State.serAdmin_pending _ _ _ _) ?_
    | with_reducible refine ite_pending' _ _ ?_ ?_

@[simp] theorem State.ttAdmin_pending (s : State) (d : Nat) (down : Bool) : (State.ttAdmin s d down).pending = s.pending := by
  unfold State.ttAdmin
  repeat' first
    | with_reducible rfl
    | with_reducible refine Eq.trans (State.putFlag_pending _ _ _ _) ?_
    | with_reducible refine Eq.trans (State.ttEvent_pending _ _ _) ?_
    | with_reducible refine Eq.trans (State.ttHold_pending _ _) ?_
    | with_reducible refine ite_pending' _ _ ?_ ?_

@[simp] theorem State.tteWrite_pending (s : State) (d off v : Nat) : (State.tteWrite s d off v).pending = s.pending := by
  unfold State.tteWrite
  repeat' first
    | with_reducible rfl
    | intro _
    | simp only [execTtCut_did_pending, execTtReadmit_did_pending, execTtRestart_did_pending]
    | with_reducible refine Eq.trans (State.eachBit_pending _ _ _ _ ?_) ?_
    | with_reducible refine Eq.trans (State.rawWrite_pending _ _ _ _) ?_
    | with_reducible refine Eq.trans (State.ttAdmin_pending _ _ _) ?_
    | with_reducible refine ite_pending' _ _ ?_ ?_

@[simp] theorem State.timWrite_pending (s : State) (d off v : Nat) : (State.timWrite s d off v).pending = s.pending := by
  unfold State.timWrite
  repeat' first
    | with_reducible rfl
    | with_reducible refine Eq.trans (State.clkoutFreq_pending _ _) ?_
    | with_reducible refine Eq.trans (execAccept_did_pending _) ?_
    | with_reducible refine Eq.trans (execPulseArm_did_pending _ _ _) ?_
    | with_reducible refine Eq.trans (execStep_did_pending _) ?_
    | with_reducible refine Eq.trans (State.rawWrite_pending _ _ _ _) ?_
    | with_reducible refine Eq.trans (State.relockBegin_pending _) ?_
    | with_reducible refine ite_pending' _ _ ?_ ?_
    | dsimp only
    | split

@[simp] theorem State.lceWrite_pending (s : State) (d off v : Nat) : (State.lceWrite s d off v).pending = s.pending := by
  unfold State.lceWrite
  repeat' first
    | with_reducible rfl
    | with_reducible refine Eq.trans (State.cue_pending _ _ _ _ _) ?_
    | with_reducible refine Eq.trans (State.divWrite_pending _ _ _ _) ?_
    | with_reducible refine Eq.trans (State.lcePush_pending _ _ _ _) ?_
    | with_reducible refine Eq.trans (State.loopDef_pending _ _ _ _ _ _) ?_
    | with_reducible refine Eq.trans (State.rawWrite_pending _ _ _ _) ?_
    | with_reducible refine ite_pending' _ _ ?_ ?_

@[simp] theorem State.dmaWrite'_pending (s : State) (d off v : Nat) : (State.dmaWrite' s d off v).pending = s.pending := by
  unfold State.dmaWrite'
  repeat' first
    | with_reducible rfl
    | with_reducible refine Eq.trans (State.dmaAbort_pending _ _ _) ?_
    | with_reducible refine Eq.trans (State.dmaChReset_pending _ _ _) ?_
    | with_reducible refine Eq.trans (State.rawWrite_pending _ _ _ _) ?_
    | with_reducible refine ite_pending' _ _ ?_ ?_

@[simp] theorem State.ercWrite_pending (s : State) (d off v : Nat) (env : WriteEnv) : (State.ercWrite s d off v env).pending = s.pending := by
  unfold State.ercWrite
  repeat' first
    | with_reducible rfl
    | with_reducible refine Eq.trans (State.clearGo_pending _ _) ?_
    | with_reducible refine Eq.trans (execArcAdopt_did_pending _ _) ?_
    | with_reducible refine Eq.trans (execErcAlarmClr_did_pending _ _) ?_
    | with_reducible refine Eq.trans (execFlush_did_pending _ _) ?_
    | with_reducible refine Eq.trans (execSnapRelease_did_pending _ _ _) ?_
    | with_reducible refine Eq.trans (State.rawWrite_pending _ _ _ _) ?_
    | with_reducible refine Eq.trans (State.retryArchive_pending _ _) ?_
    | with_reducible refine Eq.trans (State.snapTake_pending _ _ _) ?_
    | with_reducible refine ite_pending' _ _ ?_ ?_

@[simp] theorem State.dptWrite_pending (s : State) (d off v : Nat) : (State.dptWrite s d off v).pending = s.pending := by
  unfold State.dptWrite
  repeat' first
    | with_reducible rfl
    | with_reducible refine Eq.trans (State.noticeAdvance_pending _ _ _ _) ?_
    | with_reducible refine Eq.trans (State.putFlag_pending _ _ _ _) ?_
    | with_reducible refine Eq.trans (State.rawWrite_pending _ _ _ _) ?_
    | with_reducible refine ite_pending' _ _ ?_ ?_

@[simp] theorem State.vatWrite'_pending (s : State) (d off v : Nat) (env : WriteEnv) : (State.vatWrite' s d off v env).pending = s.pending := by
  unfold State.vatWrite'
  repeat' first
    | with_reducible rfl
    | with_reducible refine Eq.trans (execMarchStart_did_pending _ _ _ _ _) ?_
    | with_reducible refine Eq.trans (State.marchAbort_pending _ _) ?_
    | with_reducible refine Eq.trans (State.rawWrite_pending _ _ _ _) ?_
    | with_reducible refine ite_pending' _ _ ?_ ?_

@[simp] theorem State.awlWrite_pending (s : State) (d off v : Nat) (env : WriteEnv) : (State.awlWrite s d off v env).pending = s.pending := by
  unfold State.awlWrite
  repeat' first
    | with_reducible rfl
    | simp only [execClusterReset_did_pending, execEngineReset_did_pending]
    | with_reducible refine Eq.trans (State.ibankStart_pending _ _ _ _ _) ?_
    | with_reducible refine Eq.trans (State.rawWrite_pending _ _ _ _) ?_
    | with_reducible refine ite_pending' _ _ ?_ ?_

@[simp] theorem State.harWrite_pending (s : State) (d off v : Nat) : (State.harWrite s d off v).pending = s.pending := by
  unfold State.harWrite
  repeat' first
    | with_reducible rfl
    | with_reducible refine Eq.trans (State.arm_pending _) ?_
    | with_reducible refine Eq.trans (execHarAbort_did_pending _) ?_
    | with_reducible refine Eq.trans (execHarDiscard_did_pending _) ?_
    | with_reducible refine Eq.trans (execHarLoad_did_pending _) ?_
    | with_reducible refine Eq.trans (execHarPrepare_did_pending _) ?_
    | with_reducible refine Eq.trans (State.rawWrite_pending _ _ _ _) ?_
    | with_reducible refine ite_pending' _ _ ?_ ?_
    | dsimp only
    | split

@[simp] theorem State.tenWrite_pending (s : State) (d off v : Nat) : (State.tenWrite s d off v).pending = s.pending := by
  unfold State.tenWrite
  repeat' first
    | with_reducible rfl
    | simp only [execAttest_did_pending, execBind_did_pending, execRaiseSec_did_pending, execUnbind_did_pending]
    | with_reducible refine Eq.trans (State.rawWrite_pending _ _ _ _) ?_
    | with_reducible refine ite_pending' _ _ ?_ ?_
    | split

@[simp] theorem State.pwrWrite_pending (s : State) (d off v : Nat) : (State.pwrWrite s d off v).pending = s.pending := by
  unfold State.pwrWrite
  repeat' first
    | with_reducible rfl
    | with_reducible refine Eq.trans (execCmdActive_did_pending _) ?_
    | with_reducible refine Eq.trans (execCmdCycle_did_pending _) ?_
    | with_reducible refine Eq.trans (execCmdOffWake_did_pending _) ?_
    | with_reducible refine Eq.trans (execCmdRetain_did_pending _) ?_
    | with_reducible refine Eq.trans (execCmdTrim_did_pending _) ?_
    | with_reducible refine Eq.trans (execVcoreTargetWrite_did_pending _ _) ?_
    | with_reducible refine Eq.trans (State.rawWrite_pending _ _ _ _) ?_
    | with_reducible refine ite_pending' _ _ ?_ ?_
    | dsimp only
    | split

@[simp] theorem State.rcvWrite_pending (s : State) (d off v trig : Nat) : (State.rcvWrite s d off v trig).pending = s.pending := by
  unfold State.rcvWrite
  repeat' first
    | with_reducible rfl
    | with_reducible refine Eq.trans (State.alarmClear_pending _) ?_
    | with_reducible refine Eq.trans (execCondClr_did_pending _) ?_
    | with_reducible refine Eq.trans (execWdogKick_did_pending _ _) ?_
    | with_reducible refine Eq.trans (State.pkgDecide_pending _ _ _) ?_
    | with_reducible refine Eq.trans (State.rawWrite_pending _ _ _ _) ?_
    | with_reducible refine Eq.trans (State.rung4_pending _ _ _) ?_
    | with_reducible refine Eq.trans (State.safeExitNow_pending _ _) ?_
    | with_reducible refine Eq.trans (State.safeRequest_pending _ _ _) ?_
    | with_reducible refine Eq.trans (State.unitGo_pending _ _ _ _) ?_
    | with_reducible refine ite_pending' _ _ ?_ ?_
    | dsimp only
    | split

@[simp] theorem State.reiWrite_pending (s : State) (d off v : Nat) : (State.reiWrite s d off v).pending = s.pending := by
  unfold State.reiWrite
  repeat' first
    | with_reducible rfl
    | with_reducible refine Eq.trans (State.mgmtStart_pending _) ?_
    | with_reducible refine Eq.trans (State.rawWrite_pending _ _ _ _) ?_
    | with_reducible refine Eq.trans (State.reinResetNow_pending _) ?_
    | with_reducible refine ite_pending' _ _ ?_ ?_

@[simp] theorem State.arcWrite_pending (s : State) (d off v trig : Nat) : (State.arcWrite s d off v trig).pending = s.pending := by
  unfold State.arcWrite
  repeat' first
    | with_reducible rfl
    | intro _
    | with_reducible refine Eq.trans (State.condFault_pending _ _ _ _ _) ?_
    | with_reducible refine Eq.trans (State.eachBit_pending _ _ _ _ ?_) ?_
    | with_reducible refine Eq.trans (State.rawWrite_pending _ _ _ _) ?_
    | with_reducible refine Eq.trans (State.regionReset_pending _ _ _ _ _) ?_
    | with_reducible refine ite_pending' _ _ ?_ ?_

@[simp] theorem State.regWrite_pending (s : State) (d off v trig : Nat) (env : WriteEnv) : (State.regWrite s d off v trig env).pending = s.pending := by
  unfold State.regWrite
  repeat' first
    | with_reducible rfl
    | with_reducible refine Eq.trans (State.arcWrite_pending _ _ _ _ _) ?_
    | with_reducible refine Eq.trans (State.awlWrite_pending _ _ _ _ _) ?_
    | with_reducible refine Eq.trans (State.calWrite_pending _ _ _) ?_
    | with_reducible refine Eq.trans (State.dmaWrite'_pending _ _ _ _) ?_
    | with_reducible refine Eq.trans (State.dptWrite_pending _ _ _ _) ?_
    | with_reducible refine Eq.trans (State.ercWrite_pending _ _ _ _ _) ?_
    | with_reducible refine Eq.trans (State.ethWrite_pending _ _ _ _) ?_
    | with_reducible refine Eq.trans (State.harWrite_pending _ _ _ _) ?_
    | with_reducible refine Eq.trans (State.lceWrite_pending _ _ _ _) ?_
    | with_reducible refine Eq.trans (State.padWrite_pending _ _ _ _) ?_
    | with_reducible refine Eq.trans (State.pwrWrite_pending _ _ _ _) ?_
    | with_reducible refine Eq.trans (State.rawWrite_pending _ _ _ _) ?_
    | with_reducible refine Eq.trans (State.rcvWrite_pending _ _ _ _ _) ?_
    | with_reducible refine Eq.trans (State.reiWrite_pending _ _ _ _) ?_
    | with_reducible refine Eq.trans (State.serWrite_pending _ _ _ _) ?_
    | with_reducible refine Eq.trans (State.tenWrite_pending _ _ _ _) ?_
    | with_reducible refine Eq.trans (State.timWrite_pending _ _ _ _) ?_
    | with_reducible refine Eq.trans (State.tshWrite_pending _ _ _ _) ?_
    | with_reducible refine Eq.trans (State.tteWrite_pending _ _ _ _) ?_
    | with_reducible refine Eq.trans (State.vatWrite'_pending _ _ _ _ _) ?_
    | with_reducible refine ite_pending' _ _ ?_ ?_
    | split

@[simp] theorem State.ctlRead_pending (s : State) (d off : Nat) : (State.ctlRead s d off).2.pending = s.pending := by
  unfold State.ctlRead
  repeat' first
    | with_reducible rfl
    | with_reducible refine ite_snd_pending _ _ ?_ ?_
    | with_reducible refine Eq.trans (execClrNonce_did_pending _) ?_
    | with_reducible refine Eq.trans (State.fenceRefused_pending _ _ _) ?_
    | with_reducible refine Eq.trans (State.fullView_pending _ _ _) ?_
    | with_reducible refine Eq.trans (State.lcePop_pending _ _ _) ?_
    | with_reducible refine Eq.trans (State.msixScan_pending _) ?_
    | with_reducible refine Eq.trans (State.rawRead_pending _ _ _ _) ?_
    | with_reducible refine Eq.trans (State.wr_pending _ _ _ _) ?_
    | dsimp only
    | split

@[simp] theorem State.ctlRead64_pending (s : State) (d off : Nat) : (State.ctlRead64 s d off).2.pending = s.pending := by
  unfold State.ctlRead64
  repeat' first
    | with_reducible rfl
    | with_reducible refine ite_snd_pending _ _ ?_ ?_
    | with_reducible refine Eq.trans (execClrNonce_did_pending _) ?_
    | with_reducible refine Eq.trans (State.fenceRefused_pending _ _ _) ?_
    | with_reducible refine Eq.trans (State.fullView_pending _ _ _) ?_
    | with_reducible refine Eq.trans (State.msixScan_pending _) ?_
    | with_reducible refine Eq.trans (State.rawRead64_pending _ _ _ _) ?_
    | with_reducible refine Eq.trans (State.wr_pending _ _ _ _) ?_
    | dsimp only
    | split

@[simp] theorem State.ctlPut_pending (s : State) (d off v trig : Nat) (env : WriteEnv) : (State.ctlPut s d off v trig env).2.pending = s.pending := by
  unfold State.ctlPut
  repeat' first
    | with_reducible rfl
    | with_reducible refine ite_snd_pending _ _ ?_ ?_
    | with_reducible refine Eq.trans (State.fenceRefused_pending _ _ _) ?_
    | with_reducible refine Eq.trans (State.msixAgain_pending _ _) ?_
    | with_reducible refine Eq.trans (State.msixScan_pending _) ?_
    | with_reducible refine Eq.trans (State.msixWrite_pending _ _ _ _) ?_
    | with_reducible refine Eq.trans (State.regWrite_pending _ _ _ _ _ _) ?_
    | with_reducible refine ite_pending' _ _ ?_ ?_
    | dsimp only
    | split

end Sys2Proof.Machine
end

