-- ==== Sys2Proof/Laws/KeepPendingArch.lean ====
section
/-! SUPPORT. The functions of Machine/Arch leave the queue alone. -/

namespace Sys2Proof.Machine

@[simp] theorem State.paceWindow_pending (s : State) (d : Nat) (counts : List Nat) : (State.paceWindow s d counts).pending = s.pending := by
  unfold State.paceWindow
  repeat' first
    | with_reducible rfl
    | with_reducible refine Eq.trans (State.boundWindow_pending _) ?_
    | with_reducible refine Eq.trans (State.paces_pending _ _ _ _) ?_
    | with_reducible refine Eq.trans (State.put_pending _ _ _ _) ?_

@[simp] theorem State.boundHold_pending (s : State) : (State.boundHold s).pending = s.pending := by
  unfold State.boundHold
  repeat' first
    | with_reducible rfl
    | with_reducible refine Eq.trans (State.setBound_pending _ _ _) ?_
    | with_reducible refine ite_pending' _ _ ?_ ?_
    | split

@[simp] theorem State.skew_pending (s : State) (d : Nat) (ps : Int) : (State.skew s d ps).pending = s.pending := by
  unfold State.skew
  repeat' first
    | with_reducible rfl
    | with_reducible refine Eq.trans (State.condFault_pending _ _ _ _ _) ?_
    | with_reducible refine Eq.trans (State.put_pending _ _ _ _) ?_
    | with_reducible refine Eq.trans (State.putFlag_pending _ _ _ _) ?_
    | with_reducible refine ite_pending' _ _ ?_ ?_

end Sys2Proof.Machine
end

