-- ==== Sys2Proof/Laws/KeepPendingAwl.lean ====
section
/-! SUPPORT. The functions of Machine/Awl leave the queue alone. -/

namespace Sys2Proof.Machine

@[simp] theorem mulBody_pending (d e : Nat) (f : Eng → W16 → W16 → Nat) (s : State) : (mulBody d e f s).state.pending = s.pending := by
  unfold mulBody
  repeat' first
    | with_reducible rfl
    | intro _
    | with_reducible refine next_pending _ _ ?_
    | with_reducible refine Eq.trans (checked_pending _ _ _ _ _ _ _ _ ?_) ?_
    | with_reducible refine Eq.trans (State.setEng_pending _ _ _ _) ?_

@[simp] theorem fmtBody_pending (fmt : Nat) (k : State → AwlOut) (s : State) (h : (k s).state.pending = s.pending) :
    (fmtBody fmt k s).state.pending = s.pending := by
  unfold fmtBody; split <;> simp [h]

@[simp] theorem crcBody_pending (d e fmt : Nat) (s : State) : (crcBody d e fmt s).state.pending = s.pending := by
  unfold crcBody
  repeat' first
    | with_reducible rfl
    | with_reducible refine trap_pending _ _ _ _ _ ?_
    | with_reducible refine ite_awl_pending _ _ ?_ ?_
    | with_reducible refine Eq.trans (aluBody_pending _ _ _ _ _ _) ?_

end Sys2Proof.Machine
end

