-- ==== Sys2Proof/Laws/KeepPendingBar.lean ====
section
/-! SUPPORT. The functions of Machine/Bar leave the queue alone. -/

namespace Sys2Proof.Machine

@[simp] theorem State.windowRead_pending (s : State) (p t off : Nat) : (State.windowRead s p t off).2.pending = s.pending := by
  unfold State.windowRead
  repeat' first
    | with_reducible rfl
    | with_reducible refine ite_snd_pending _ _ ?_ ?_
    | with_reducible refine Eq.trans (State.pageAccess_pending _ _ _ _) ?_

@[simp] theorem State.slotRead_pending (s : State) (p t off : Nat) : (State.slotRead s p t off).2.pending = s.pending := by
  unfold State.slotRead
  repeat' first
    | with_reducible rfl
    | with_reducible refine Eq.trans (State.mbxTake_pending _ _ _ _ _ (by with_reducible assumption)) ?_
    | with_reducible refine Eq.trans (State.violation_pending _ _ _ _ _ _) ?_
    | dsimp only
    | split

@[simp] theorem State.dmaSlotRead_pending (s : State) (p t off : Nat) : (State.dmaSlotRead s p t off).2.pending = s.pending := by
  unfold State.dmaSlotRead
  repeat' first
    | with_reducible rfl
    | with_reducible refine Eq.trans (State.violation_pending _ _ _ _ _ _) ?_
    | dsimp only
    | split

@[simp] theorem State.pageRead_pending (s : State) (p t off : Nat) : (State.pageRead s p t off).2.pending = s.pending := by
  unfold State.pageRead
  repeat' first
    | with_reducible rfl
    | with_reducible refine ite_snd_pending _ _ ?_ ?_
    | with_reducible refine Eq.trans (State.dmaSlotRead_pending _ _ _ _) ?_
    | with_reducible refine Eq.trans (State.slotRead_pending _ _ _ _) ?_
    | with_reducible refine Eq.trans (State.touchCtx_pending _ _ _) ?_
    | with_reducible refine Eq.trans (State.windowRead_pending _ _ _ _) ?_

@[simp] theorem State.pageRegWrite_pending (s : State) (p t off v : Nat) : (State.pageRegWrite s p t off v).pending = s.pending := by
  unfold State.pageRegWrite
  repeat' first
    | with_reducible rfl
    | dsimp only
    | split

@[simp] theorem State.pageCommand_pending (s : State) (p t v : Nat) : (State.pageCommand s p t v).pending = s.pending := by
  unfold State.pageCommand
  repeat' first
    | with_reducible rfl
    | with_reducible refine Eq.trans (State.pageAccess_pending _ _ _ _) ?_
    | with_reducible refine Eq.trans (State.pageRelease_pending _ _ _) ?_
    | with_reducible refine Eq.trans (State.pageStart_pending _ _ _ _ _) ?_
    | with_reducible refine ite_pending' _ _ ?_ ?_
    | split

@[simp] theorem State.slotWrite_pending (s : State) (p t off v : Nat) : (State.slotWrite s p t off v).pending = s.pending := by
  unfold State.slotWrite
  repeat' first
    | with_reducible rfl
    | with_reducible refine Eq.trans (State.mbxOverrun_pending _ _ _ _ _ _) ?_
    | with_reducible refine Eq.trans (State.mbxPush_pending _ _ _ _) ?_
    | with_reducible refine Eq.trans (State.pageAccess_pending _ _ _ _) ?_
    | with_reducible refine Eq.trans (State.pageRegWrite_pending _ _ _ _ _) ?_
    | with_reducible refine Eq.trans (State.ringBell_pending _ _ _) ?_
    | with_reducible refine ite_pending' _ _ ?_ ?_
    | dsimp only
    | split

@[simp] theorem State.dmaSlotWrite_pending (s : State) (p t off v : Nat) : (State.dmaSlotWrite s p t off v).pending = s.pending := by
  unfold State.dmaSlotWrite
  repeat' first
    | with_reducible rfl
    | with_reducible refine Eq.trans (State.crdWrite_pending _ _ _ _ _ _) ?_
    | with_reducible refine Eq.trans (State.dmaAbort_pending _ _ _) ?_
    | with_reducible refine Eq.trans (State.dmaCtrl_pending _ _ _ _ _ _ _) ?_
    | with_reducible refine Eq.trans (State.pageAccess_pending _ _ _ _) ?_
    | with_reducible refine Eq.trans (State.pageRegWrite_pending _ _ _ _ _) ?_
    | with_reducible refine ite_pending' _ _ ?_ ?_
    | dsimp only
    | split

@[simp] theorem State.pageWrite_pending (s : State) (p t off v : Nat) : (State.pageWrite s p t off v).pending = s.pending := by
  unfold State.pageWrite
  repeat' first
    | with_reducible rfl
    | with_reducible refine Eq.trans (State.dmaSlotWrite_pending _ _ _ _ _) ?_
    | with_reducible refine Eq.trans (State.msixAgain_pending _ _) ?_
    | with_reducible refine Eq.trans (State.noticeAdvance_pending _ _ _ _) ?_
    | with_reducible refine Eq.trans (State.pageAccess_pending _ _ _ _) ?_
    | with_reducible refine Eq.trans (State.pageCommand_pending _ _ _ _) ?_
    | with_reducible refine Eq.trans (State.pageRegWrite_pending _ _ _ _ _) ?_
    | with_reducible refine Eq.trans (State.slotWrite_pending _ _ _ _ _) ?_
    | with_reducible refine Eq.trans (State.winWrite_pending _ _ _ _ _) ?_
    | with_reducible refine ite_pending' _ _ ?_ ?_

@[simp] theorem State.bar2_pending (s : State) (p : Nat) (r : HostReq) : (State.bar2 s p r).pending = s.pending := by
  unfold State.bar2
  repeat' first
    | with_reducible rfl
    | with_reducible refine Eq.trans (State.alignErr_pending _ _ _ _ _ _) ?_
    | with_reducible refine Eq.trans (State.answered_pending _ _) ?_
    | with_reducible refine Eq.trans (State.msixScan_pending _) ?_
    | with_reducible refine Eq.trans (State.onPage_pending _ _ _ _ _ _ _ ?_) ?_
    | with_reducible refine Eq.trans (State.pageRead_pending _ _ _ _) ?_
    | with_reducible refine Eq.trans (State.pageWrite_pending _ _ _ _ _) ?_
    | with_reducible refine ite_pending' _ _ ?_ ?_
    | dsimp only
    | split

@[simp] theorem State.bar0_pending (s : State) (p : Nat) (r : HostReq) (env : WriteEnv) : (State.bar0 s p r env).pending = s.pending := by
  unfold State.bar0
  repeat' first
    | with_reducible rfl
    | with_reducible refine ite_snd_pending _ _ ?_ ?_
    | with_reducible refine Eq.trans (State.abortReq_pending _ _) ?_
    | with_reducible refine Eq.trans (State.alignErr_pending _ _ _ _ _ _) ?_
    | with_reducible refine Eq.trans (State.answered_pending _ _) ?_
    | with_reducible refine Eq.trans (State.ctlPut_pending _ _ _ _ _ _) ?_
    | with_reducible refine Eq.trans (State.ctlRead_pending _ _ _) ?_
    | with_reducible refine Eq.trans (State.ctlRead64_pending _ _ _) ?_
    | with_reducible refine Eq.trans (State.pciErr_pending _ _ _ _ _ _ _) ?_
    | with_reducible refine Eq.trans (State.refusedReq_pending _) ?_
    | with_reducible refine ite_pending' _ _ ?_ ?_
    | dsimp only
    | split

end Sys2Proof.Machine
end

