-- ==== Sys2Proof/Laws/KeepPendingPacks.lean ====
section
/-! SUPPORT. The functions of Machine/Packs leave the queue alone. -/

namespace Sys2Proof.Machine

@[simp] theorem State.pduDeliver_pending (s : State) (d c q : Nat) (p : Pdu) : (State.pduDeliver s d c q p).pending = s.pending := by
  unfold State.pduDeliver
  repeat' first
    | with_reducible rfl
    | with_reducible refine Eq.trans (State.countDrop_pending _ _ _ _) ?_
    | with_reducible refine Eq.trans (State.dropFrame_pending _ _ _ _) ?_
    | with_reducible refine Eq.trans (State.rxStore_pending _ _ _ _ _ _ _ _ _ (by with_reducible assumption)) ?_
    | with_reducible refine Eq.trans (State.takeIn_pending _ _ _ _ _ _ _ _) ?_
    | with_reducible refine ite_pending' _ _ ?_ ?_
    | dsimp only
    | split

@[simp] theorem State.resultMsg_pending (s : State) (pack dpi code token : Nat) : (State.resultMsg s pack dpi code token).2.pending = s.pending := by rfl

@[simp] theorem State.ptpTx_pending (s : State) (b : PtpBlk) (msg : List Byte) : (State.ptpTx s b msg).pending = s.pending := by
  unfold State.ptpTx
  repeat' first
    | with_reducible rfl
    | with_reducible refine Eq.trans (State.allocTx_pending _ _ _ _ _ _ _ (by with_reducible assumption)) ?_
    | with_reducible refine Eq.trans (State.arriveEgress_pending _ _ _ _) ?_
    | with_reducible refine Eq.trans (State.frameWrite_pending _ _ _ _ _ _ _) ?_
    | with_reducible refine Eq.trans (State.padWords_pending _ _) ?_
    | with_reducible refine Eq.trans (State.setFrame_pending _ _ _) ?_
    | dsimp only
    | split

end Sys2Proof.Machine
end

