-- ==== Sys2Proof/Laws/KeepPendingPommel.lean ====
section
/-! SUPPORT. The functions of Machine/Pommel leave the queue alone. -/

namespace Sys2Proof.Machine

@[simp] theorem State.pomReply_pending (s : State) (cmd status : Nat) (bytes : List Byte) : (State.pomReply s cmd status bytes).pending = s.pending := by rfl

@[simp] theorem State.pommel_pending (s : State) (cmd : Nat) (req : List Byte) (crc : BitVec 8) (served : Bool) (k : State → PomAns)
    (h : (k s).2.2.pending = s.pending) : (s.pommel cmd req crc served k).pending = s.pending := by
  unfold State.pommel; dsimp only; (repeat' split) <;> simp [h]

@[simp] theorem State.pomReg_pending (s : State) (die off : Nat) (k : PomAns) (h : k.2.2.pending = s.pending) :
    (s.pomReg die off k).2.2.pending = s.pending := by
  unfold State.pomReg; repeat' split
  all_goals simp [h]

@[simp] theorem State.pomMbx_pending (s : State) (die engine : Nat) (k : Nat × List Byte × Nat × Bool × State) (h : k.2.2.2.2.pending = s.pending) :
    (s.pomMbx die engine k).2.2.pending = s.pending := by
  unfold State.pomMbx; repeat' split
  all_goals simp [h]

@[simp] theorem State.pomLoad_pending (s : State) (k : PomAns) (h : k.2.2.pending = s.pending) : (s.pomLoad k).2.2.pending = s.pending := by
  unfold State.pomLoad; split <;> simp [h]

@[simp] theorem State.pomLoadTo_pending (s : State) (next : Nat) (on : Bool) : (State.pomLoadTo s next on).pending = s.pending := by rfl

@[simp] theorem State.pomLoadEnd_pending (s : State) (img : Option Image) (inOrder : Bool) : (State.pomLoadEnd s img inOrder).2.2.pending = s.pending := by
  unfold State.pomLoadEnd
  repeat' first
    | with_reducible rfl
    | with_reducible refine Eq.trans (State.loadArrived_pending _ _ _) ?_
    | with_reducible refine Eq.trans (State.loadRefused_pending _ _ _) ?_
    | with_reducible refine Eq.trans (State.pomLoadTo_pending _ _ _) ?_
    | dsimp only
    | split

@[simp] theorem State.pomReset_pending (s : State) (rung u : Nat) : (State.pomReset s rung u).2.2.pending = s.pending := by
  unfold State.pomReset
  repeat' first
    | with_reducible rfl
    | with_reducible refine Eq.trans (State.pkgDecide_pending _ _ _) ?_
    | with_reducible refine Eq.trans (State.rung4_pending _ _ _) ?_
    | with_reducible refine Eq.trans (State.unitRequest_pending _ _ _ _ _) ?_
    | dsimp only
    | split

end Sys2Proof.Machine
end

