-- ==== Sys2Proof/Laws/KeepPendingWelt.lean ====
section
/-! SUPPORT. The functions of Machine/Welt leave the queue alone. -/

namespace Sys2Proof.Machine

@[simp] theorem State.weltPacket_pending (s : State) (d k seq : Nat) (good : Bool) : (State.weltPacket s d k seq good).pending = s.pending := by
  unfold State.weltPacket
  repeat' first
    | with_reducible rfl
    | with_reducible refine Eq.trans (State.count_pending _ _ _ _) ?_
    | with_reducible refine Eq.trans (State.putFlag_pending _ _ _ _) ?_
    | with_reducible refine Eq.trans (State.setWelt_pending _ _ _ _) ?_
    | with_reducible refine ite_pending' _ _ ?_ ?_

@[simp] theorem State.weltLost_pending (s : State) (d k : Nat) : (State.weltLost s d k).pending = s.pending := by
  unfold State.weltLost
  repeat' first
    | with_reducible rfl
    | with_reducible refine Eq.trans (State.pkgDecide_pending _ _ _) ?_
    | with_reducible refine Eq.trans (State.weltIsDown_pending _ _ _) ?_

@[simp] theorem State.retrainEnd_pending (s : State) (k d : Nat) : (State.retrainEnd s k d).pending = s.pending := by rfl

@[simp] theorem State.weltRetrain_pending (s : State) (d k : Nat) : (State.weltRetrain s d k).pending = s.pending := by
  unfold State.weltRetrain
  repeat' first
    | with_reducible rfl
    | intro _
    | with_reducible refine Eq.trans (State.bothEnds_pending _ _ _ _ ?_) ?_
    | with_reducible refine Eq.trans (State.retrainEnd_pending _ _ _) ?_
    | with_reducible refine Eq.trans (State.weltLost_pending _ _ _) ?_
    | with_reducible refine ite_pending' _ _ ?_ ?_

@[simp] theorem State.retrainDone_pending (s : State) (d k : Nat) (ok : Bool) : (State.retrainDone s d k ok).pending = s.pending := by
  unfold State.retrainDone
  repeat' first
    | with_reducible rfl
    | intro _
    | with_reducible refine Eq.trans (State.bothEnds_pending _ _ _ _ ?_) ?_
    | with_reducible refine Eq.trans (State.linkFault_pending _ _ _ _) ?_
    | with_reducible refine Eq.trans (State.putFlag_pending _ _ _ _) ?_
    | with_reducible refine Eq.trans (State.weltLost_pending _ _ _) ?_
    | with_reducible refine Eq.trans (State.weltTo_pending _ _ _ _) ?_
    | with_reducible refine ite_pending' _ _ ?_ ?_

@[simp] theorem State.weltTrained_pending (s : State) (d k : Nat) (ok : Bool) : (State.weltTrained s d k ok).pending = s.pending := by
  unfold State.weltTrained
  repeat' first
    | with_reducible rfl
    | with_reducible refine Eq.trans (State.weltIsDown_pending _ _ _) ?_
    | with_reducible refine Eq.trans (State.weltIsUp_pending _ _ _) ?_
    | with_reducible refine ite_pending' _ _ ?_ ?_

@[simp] theorem State.creditWait_pending (s : State) (d k ns : Nat) : (State.creditWait s d k ns).pending = s.pending := by
  unfold State.creditWait
  repeat' first
    | with_reducible rfl
    | with_reducible refine Eq.trans (State.count_pending _ _ _ _) ?_
    | with_reducible refine ite_pending' _ _ ?_ ?_

@[simp] theorem State.timeMessage_pending (s : State) (d mag : Nat) : (State.timeMessage s d mag).pending = s.pending := by
  unfold State.timeMessage
  repeat' first
    | with_reducible rfl
    | with_reducible refine Eq.trans (State.setRein_pending _ _) ?_
    | with_reducible refine ite_pending' _ _ ?_ ?_

end Sys2Proof.Machine
end

