-- ==== Sys2Proof/Laws/KeepPendingRein.lean ====
section
/-! SUPPORT. The functions of Machine/Rein leave the queue alone. -/

namespace Sys2Proof.Machine

@[simp] theorem State.reinComesUp_pending (s : State) (up : Bool) : (State.reinComesUp s up).pending = s.pending := by
  unfold State.reinComesUp
  repeat' first
    | with_reducible rfl
    | with_reducible refine Eq.trans (State.reinLink_pending _ _) ?_
    | with_reducible refine ite_pending' _ _ ?_ ?_

@[simp] theorem State.mgmtPerform_pending (s : State) (src g data : Nat) (wr : Bool) (env : WriteEnv) : (State.mgmtPerform s src g data wr env).pending = s.pending := by
  unfold State.mgmtPerform
  repeat' first
    | with_reducible rfl
    | with_reducible refine Eq.trans (State.ctlPut_pending _ _ _ _ _ _) ?_
    | with_reducible refine Eq.trans (State.ctlRead_pending _ _ _) ?_
    | with_reducible refine Eq.trans (State.mgmtReply_pending _ _ _ _) ?_
    | with_reducible refine ite_pending' _ _ ?_ ?_

@[simp] theorem State.mgmtRequest_pending (s : State) (src g data : Nat) (wr : Bool) (env : WriteEnv) : (State.mgmtRequest s src g data wr env).pending = s.pending := by
  unfold State.mgmtRequest
  repeat' first
    | with_reducible rfl
    | with_reducible refine Eq.trans (State.count_pending _ _ _ _) ?_
    | with_reducible refine Eq.trans (State.mgmtPerform_pending _ _ _ _ _ _) ?_
    | with_reducible refine Eq.trans (State.mgmtReply_pending _ _ _ _) ?_
    | with_reducible refine ite_pending' _ _ ?_ ?_

@[simp] theorem State.mgmtResponse_pending (s : State) (src result data : Nat) : (State.mgmtResponse s src result data).pending = s.pending := by
  unfold State.mgmtResponse
  repeat' first
    | with_reducible rfl
    | with_reducible refine Eq.trans (State.mgmtAnswer_pending _ _ _ _) ?_
    | with_reducible refine ite_pending' _ _ ?_ ?_

@[simp] theorem State.mirrorMessage_pending (s : State) (src dpi type : Nat) (bytes : List Byte) : (State.mirrorMessage s src dpi type bytes).pending = s.pending := by
  unfold State.mirrorMessage
  repeat' first
    | with_reducible rfl
    | with_reducible refine Eq.trans (State.mirrorRx_pending _ _ _ _ _) ?_
    | with_reducible refine ite_pending' _ _ ?_ ?_

@[simp] theorem State.reinConsume_pending (s : State) (up : Bool) (m : ReinMsg) (members : Nat) (env : WriteEnv) : (State.reinConsume s up m members env).pending = s.pending := by
  unfold State.reinConsume
  repeat' first
    | with_reducible rfl
    | with_reducible refine Eq.trans (State.decisionRx_pending _ _) ?_
    | with_reducible refine Eq.trans (State.enumRx_pending _ _) ?_
    | with_reducible refine Eq.trans (State.mgmtRequest_pending _ _ _ _ _ _) ?_
    | with_reducible refine Eq.trans (State.mgmtResponse_pending _ _ _ _) ?_
    | with_reducible refine Eq.trans (State.mirrorMessage_pending _ _ _ _ _) ?_
    | with_reducible refine Eq.trans (State.reinResetNow_pending _) ?_
    | with_reducible refine Eq.trans (State.reportRx_pending _ _ _ _ _ _) ?_
    | with_reducible refine Eq.trans (State.respRx_pending _ _ _ _) ?_
    | with_reducible refine Eq.trans (State.statusRx_pending _ _ _) ?_
    | with_reducible refine Eq.trans (State.syncRx_pending _ _) ?_
    | with_reducible refine ite_pending' _ _ ?_ ?_
    | split

@[simp] theorem State.reinReceive_pending (s : State) (up : Bool) (m : ReinMsg) (members : Nat) (env : WriteEnv) : (State.reinReceive s up m members env).pending = s.pending := by
  unfold State.reinReceive
  repeat' first
    | with_reducible rfl
    | with_reducible refine Eq.trans (State.reinConsume_pending _ _ _ _ _) ?_
    | with_reducible refine Eq.trans (State.reinSend_pending _ _ _) ?_
    | with_reducible refine ite_pending' _ _ ?_ ?_

@[simp] theorem State.reinArrive_pending (s : State) (up good : Bool) (m : ReinMsg) (members : Nat) (env : WriteEnv) : (State.reinArrive s up good m members env).pending = s.pending := by
  unfold State.reinArrive
  repeat' first
    | with_reducible rfl
    | with_reducible refine Eq.trans (State.count_pending _ _ _ _) ?_
    | with_reducible refine Eq.trans (State.reinReceive_pending _ _ _ _ _) ?_
    | with_reducible refine ite_pending' _ _ ?_ ?_

end Sys2Proof.Machine
end

