-- ==== Sys2Proof/Laws/Regs.lean ====
section
/-! SUPPORT. The laws of register fields, Vat bytes and the per-unit records: a read after a write gives what was written, and a
write leaves every other field, byte and unit alone. -/

namespace Sys2Proof.Machine

/-! ## Bit fields -/

theorem maskBits_getLsbD (hi lo i : Nat) (h : hi < 64) (hl : lo ≤ hi) :
    (maskBits hi lo).getLsbD i = (decide (lo ≤ i) && decide (i ≤ hi)) := by
  unfold maskBits
  rw [BitVec.getLsbD_ofNat, Nat.testBit_mul_two_pow, Nat.testBit_two_pow_sub_one]
  by_cases h1 : lo ≤ i <;> by_cases h2 : i ≤ hi <;> simp [h1, h2] <;> omega

theorem putBits_getLsbD (v : Word64) (hi lo x i : Nat) (h : hi < 64) (hl : lo ≤ hi) (hi64 : i < 64) :
    (putBits v hi lo x).getLsbD i = if lo ≤ i ∧ i ≤ hi then x.testBit (i - lo) else v.getLsbD i := by
  unfold putBits
  simp only [BitVec.getLsbD_or, BitVec.getLsbD_and, BitVec.getLsbD_not, BitVec.getLsbD_shiftLeft, maskBits_getLsbD hi lo i h hl,
    BitVec.getLsbD_ofNat]
  by_cases h1 : lo ≤ i <;> by_cases h2 : i ≤ hi <;> simp [h1, h2, hi64, show i - lo < 64 by omega]

theorem bits_testBit {n : Nat} (v : BitVec n) (hi lo i : Nat) :
    (bits v hi lo).testBit i = (decide (i < hi + 1 - lo) && v.getLsbD (lo + i)) := by
  unfold bits
  rw [Nat.testBit_mod_two_pow, BitVec.testBit_toNat, BitVec.getLsbD_ushiftRight]

/-- A field read after it was written holds the low bits of what was written. -/
theorem bits_putBits_same (v : Word64) (hi lo x : Nat) (h : hi < 64) (hl : lo ≤ hi) :
    bits (putBits v hi lo x) hi lo = x % 2 ^ (hi + 1 - lo) := by
  apply Nat.eq_of_testBit_eq
  intro i
  rw [bits_testBit, Nat.testBit_mod_two_pow]
  by_cases hi' : i < hi + 1 - lo
  · rw [putBits_getLsbD v hi lo x (lo + i) h hl (by omega)]
    simp [hi', show lo + i ≤ hi by omega]
  · simp [hi']

/-- A field apart from the one written reads as before. -/
theorem bits_putBits_ne (v : Word64) (hi lo x hi' lo' : Nat) (h : hi < 64) (hl : lo ≤ hi) (h' : hi' < 64)
    (hd : hi' < lo ∨ hi < lo') : bits (putBits v hi lo x) hi' lo' = bits v hi' lo' := by
  apply Nat.eq_of_testBit_eq
  intro i
  rw [bits_testBit, bits_testBit]
  by_cases c : i < hi' + 1 - lo'
  · rw [putBits_getLsbD v hi lo x (lo' + i) h hl (by omega)]
    have : ¬ (lo ≤ lo' + i ∧ lo' + i ≤ hi) := by omega
    simp [this]
  · simp [c]

/-! ## Registers -/

@[simp] theorem State.rd_wr_same (s : State) (d : Nat) (r : Reg) (v : Word64) : (s.wr d r v).rd d r = v := by
  simp [State.rd, State.wr]

theorem State.rd_wr_ne (s : State) (d d' : Nat) (r r' : Reg) (v : Word64) (h : regKey d' r' ≠ regKey d r) :
    (s.wr d r v).rd d' r' = s.rd d' r' := by
  unfold State.rd State.wr
  exact tblGet_tblSet_ne _ _ _ _ _ _ h

theorem State.rd_put_ne (s : State) (d d' : Nat) (f : Field) (r : Reg) (x : Nat) (h : regKey d' r ≠ regKey d f.reg) :
    (s.put d f x).rd d' r = s.rd d' r := State.rd_wr_ne s d d' f.reg r _ h

/-- A field read back. -/
theorem State.get_put_same (s : State) (d : Nat) (f : Field) (x : Nat) (h : f.hi < 64) (hl : f.lo ≤ f.hi) :
    (s.put d f x).get d f = x % 2 ^ (f.hi + 1 - f.lo) := by
  unfold State.get State.put
  rw [State.rd_wr_same, bits_putBits_same _ _ _ _ h hl]

/-- A field of another register. -/
theorem State.get_put_reg_ne (s : State) (d d' : Nat) (f g : Field) (x : Nat) (h : regKey d' g.reg ≠ regKey d f.reg) :
    (s.put d f x).get d' g = s.get d' g := by
  unfold State.get
  rw [State.rd_put_ne s d d' f g.reg x h]

/-- Another field of the same register. -/
theorem State.get_put_field_ne (s : State) (d : Nat) (f g : Field) (x : Nat) (hr : g.reg = f.reg) (h : f.hi < 64) (hl : f.lo ≤ f.hi)
    (hg : g.hi < 64) (hd : g.hi < f.lo ∨ f.hi < g.lo) : (s.put d f x).get d g = s.get d g := by
  unfold State.get State.put
  rw [hr, State.rd_wr_same, bits_putBits_ne _ _ _ _ _ _ h hl hg hd]

theorem State.flag_putFlag_same (s : State) (d : Nat) (f : Field) (b : Bool) (h : f.hi < 64) (hl : f.lo ≤ f.hi) :
    (s.putFlag d f b).flag d f = b := by
  unfold State.flag State.putFlag
  rw [State.get_put_same s d f _ h hl]
  have h2 : 2 ≤ 2 ^ (f.hi + 1 - f.lo) := by
    calc 2 = 2 ^ 1 := rfl
      _ ≤ 2 ^ (f.hi + 1 - f.lo) := Nat.pow_le_pow_right (by omega) (by omega)
  cases b
  · simp [bit]
  · rw [show bit true = 1 from rfl, Nat.mod_eq_of_lt (by omega)]; rfl

theorem State.flag_putFlag_reg_ne (s : State) (d d' : Nat) (f g : Field) (b : Bool) (h : regKey d' g.reg ≠ regKey d f.reg) :
    (s.putFlag d f b).flag d' g = s.flag d' g := by
  unfold State.flag State.putFlag
  rw [State.get_put_reg_ne s d d' f g _ h]

/-- A counter after it counted (R13). -/
theorem State.get_count_same (s : State) (d : Nat) (f : Field) (k : Nat) (h : f.hi < 64) (hl : f.lo ≤ f.hi) :
    (s.count d f k).get d f = min (s.get d f + k) (2 ^ (f.hi + 1 - f.lo) - 1) := by
  unfold State.count satAdd
  rw [State.get_put_same s d f _ h hl, Nat.mod_eq_of_lt]
  have : 0 < 2 ^ (f.hi + 1 - f.lo) := Nat.two_pow_pos _
  omega

/-! ## Vat bytes -/

@[simp] theorem State.byte_setByte_same (s : State) (d off : Nat) (v : Byte) : (s.setByte d off v).byte d off = v := by
  unfold State.byte State.setByte
  exact tblGet_tblSet_same _ _ _ _

theorem State.byte_setByte_ne (s : State) (d d' off off' : Nat) (v : Byte) (h : vatKey d' off' ≠ vatKey d off) :
    (s.setByte d off v).byte d' off' = s.byte d' off' := by
  unfold State.byte State.setByte
  exact tblGet_tblSet_ne _ _ _ _ _ _ h

/-- Bytes written elsewhere leave a byte alone. -/
theorem State.byte_writeBytes_ne (s : State) (d d' off off' : Nat) (bs : List Byte)
    (h : ∀ i, i < bs.length → vatKey d' off' ≠ vatKey d (off + i)) : (s.writeBytes d off bs).byte d' off' = s.byte d' off' := by
  induction bs generalizing s off with
  | nil => rfl
  | cons b r ih =>
    rw [State.writeBytes, ih]
    · exact State.byte_setByte_ne _ _ _ _ _ _ (by have := h 0 (by simp); simpa using this)
    · intro i hi
      have := h (i + 1) (by simp; omega)
      rwa [show off + (i + 1) = off + 1 + i by omega] at this

/-! ## The per-unit records -/

@[simp] theorem State.eng_setEng_same (s : State) (d e : Nat) (g : Eng) : (s.setEng d e g).eng d e = g := by
  simp [State.eng, State.setEng]
theorem State.eng_setEng_ne (s : State) (d e d' e' : Nat) (g : Eng) (h : d' * 64 + e' ≠ d * 64 + e) :
    (s.setEng d e g).eng d' e' = s.eng d' e' := tblGet_tblSet_ne _ _ _ _ _ _ h
@[simp] theorem State.eng_modEng_same (s : State) (d e : Nat) (f : Eng → Eng) : (s.modEng d e f).eng d e = f (s.eng d e) := by
  simp [State.modEng]
@[simp] theorem State.cl_setCl_same (s : State) (d c : Nat) (k : Cl) : (s.setCl d c k).cl d c = k := by simp [State.cl, State.setCl]
@[simp] theorem State.frame_setFrame_same (s : State) (f : Nat) (x : Frame) : (s.setFrame f x).frame f = x := by
  simp [State.frame, State.setFrame]
@[simp] theorem State.bank_setBank_same (s : State) (d b : Nat) (k : Bank) : (s.setBank d b k).bank d b = k := by
  simp [State.bank, State.setBank]
@[simp] theorem State.recDie_setRecDie_same (s : State) (d : Nat) (r : RecDie) : (s.setRecDie d r).recDie d = r := by
  simp [State.recDie, State.setRecDie]
@[simp] theorem State.lce_setLce_same (s : State) (d e : Nat) (x : LaceEng) : (s.setLce d e x).lce d e = x := by
  simp [State.lce, State.setLce]
@[simp] theorem State.weltEnd_setWelt_same (s : State) (d k : Nat) (e : WeltEnd) : (s.setWelt d k e).weltEnd d k = e := by
  simp [State.weltEnd, State.setWelt]
@[simp] theorem State.ser_modSer_same (s : State) (d p : Nat) (g : SerPort → SerPort) : (s.modSer d p g).ser d p = g (s.ser d p) := by
  simp [State.ser, State.modSer]
@[simp] theorem State.ttg_modTt_same (s : State) (d : Nat) (g : TtGroup → TtGroup) : (s.modTt d g).ttg d = g (s.ttg d) := by
  simp [State.ttg, State.modTt]
@[simp] theorem State.ethPort_modPort_same (s : State) (d p : Nat) (g : EthPort → EthPort) :
    (s.modPort d p g).ethPort d p = g (s.ethPort d p) := by simp [State.ethPort, State.modPort]
@[simp] theorem State.outQueue_setOutQueue_same (s : State) (d o : Nat) (q : List Nat) : (s.setOutQueue d o q).outQueue d o = q := by
  simp [State.outQueue, State.setOutQueue]

end Sys2Proof.Machine
end

