-- ==== Sys2Proof/Laws/State.lean ====
section
/-! SUPPORT. What each update of the state leaves alone, field by field; the queue's and the Vat's share stand in KeepPending and
KeepVat. -/

namespace Sys2Proof.Machine

@[simp] theorem State.wr_latch (s : State) (d : Nat) (r : Reg) (v : Word64) : (State.wr s d r v).latch = s.latch := rfl
@[simp] theorem State.wr_errs (s : State) (d : Nat) (r : Reg) (v : Word64) : (State.wr s d r v).errs = s.errs := rfl
@[simp] theorem State.wr_pages (s : State) (d : Nat) (r : Reg) (v : Word64) : (State.wr s d r v).pages = s.pages := rfl
@[simp] theorem State.wr_fresh (s : State) (d : Nat) (r : Reg) (v : Word64) : (State.wr s d r v).fresh = s.fresh := rfl
@[simp] theorem State.wr_resp (s : State) (d : Nat) (r : Reg) (v : Word64) : (State.wr s d r v).resp = s.resp := rfl
@[simp] theorem State.wr_har (s : State) (d : Nat) (r : Reg) (v : Word64) : (State.wr s d r v).har = s.har := rfl
@[simp] theorem State.wr_servo (s : State) (d : Nat) (r : Reg) (v : Word64) : (State.wr s d r v).servo = s.servo := rfl
@[simp] theorem State.wr_frac (s : State) (d : Nat) (r : Reg) (v : Word64) : (State.wr s d r v).frac = s.frac := rfl
@[simp] theorem State.wr_monoFrac (s : State) (d : Nat) (r : Reg) (v : Word64) : (State.wr s d r v).monoFrac = s.monoFrac := rfl
@[simp] theorem State.wr_pulses (s : State) (d : Nat) (r : Reg) (v : Word64) : (State.wr s d r v).pulses = s.pulses := rfl
@[simp] theorem State.wr_clkout (s : State) (d : Nat) (r : Reg) (v : Word64) : (State.wr s d r v).clkout = s.clkout := rfl
@[simp] theorem State.wr_recD (s : State) (d : Nat) (r : Reg) (v : Word64) : (State.wr s d r v).recD = s.recD := rfl
@[simp] theorem State.wr_recP (s : State) (d : Nat) (r : Reg) (v : Word64) : (State.wr s d r v).recP = s.recP := rfl
@[simp] theorem State.wr_calFact (s : State) (d : Nat) (r : Reg) (v : Word64) : (State.wr s d r v).calFact = s.calFact := rfl
@[simp] theorem State.wr_calUser (s : State) (d : Nat) (r : Reg) (v : Word64) : (State.wr s d r v).calUser = s.calUser := rfl
@[simp] theorem State.wr_banks (s : State) (d : Nat) (r : Reg) (v : Word64) : (State.wr s d r v).banks = s.banks := rfl
@[simp] theorem State.wr_skv (s : State) (d : Nat) (r : Reg) (v : Word64) : (State.wr s d r v).skv = s.skv := rfl
@[simp] theorem State.wr_resync (s : State) (d : Nat) (r : Reg) (v : Word64) : (State.wr s d r v).resync = s.resync := rfl
@[simp] theorem State.wr_rearm (s : State) (d : Nat) (r : Reg) (v : Word64) : (State.wr s d r v).rearm = s.rearm := rfl
@[simp] theorem State.wr_skvBack (s : State) (d : Nat) (r : Reg) (v : Word64) : (State.wr s d r v).skvBack = s.skvBack := rfl
@[simp] theorem State.wr_fenced (s : State) (d : Nat) (r : Reg) (v : Word64) : (State.wr s d r v).fenced = s.fenced := rfl
@[simp] theorem State.wr_commitQ (s : State) (d : Nat) (r : Reg) (v : Word64) : (State.wr s d r v).commitQ = s.commitQ := rfl
@[simp] theorem State.wr_boundLog (s : State) (d : Nat) (r : Reg) (v : Word64) : (State.wr s d r v).boundLog = s.boundLog := rfl
@[simp] theorem State.wr_mirrorQ (s : State) (d : Nat) (r : Reg) (v : Word64) : (State.wr s d r v).mirrorQ = s.mirrorQ := rfl
@[simp] theorem State.wr_frames (s : State) (d : Nat) (r : Reg) (v : Word64) : (State.wr s d r v).frames = s.frames := rfl
@[simp] theorem State.wr_cells (s : State) (d : Nat) (r : Reg) (v : Word64) : (State.wr s d r v).cells = s.cells := rfl
@[simp] theorem State.wr_owners (s : State) (d : Nat) (r : Reg) (v : Word64) : (State.wr s d r v).owners = s.owners := rfl
@[simp] theorem State.wr_tenCells (s : State) (d : Nat) (r : Reg) (v : Word64) : (State.wr s d r v).tenCells = s.tenCells := rfl
@[simp] theorem State.wr_tenDrops (s : State) (d : Nat) (r : Reg) (v : Word64) : (State.wr s d r v).tenDrops = s.tenDrops := rfl
@[simp] theorem State.wr_voq (s : State) (d : Nat) (r : Reg) (v : Word64) : (State.wr s d r v).voq = s.voq := rfl
@[simp] theorem State.wr_grantPtr (s : State) (d : Nat) (r : Reg) (v : Word64) : (State.wr s d r v).grantPtr = s.grantPtr := rfl
@[simp] theorem State.wr_acceptPtr (s : State) (d : Nat) (r : Reg) (v : Word64) : (State.wr s d r v).acceptPtr = s.acceptPtr := rfl
@[simp] theorem State.wr_outQ (s : State) (d : Nat) (r : Reg) (v : Word64) : (State.wr s d r v).outQ = s.outQ := rfl
@[simp] theorem State.wr_slots (s : State) (d : Nat) (r : Reg) (v : Word64) : (State.wr s d r v).slots = s.slots := rfl
@[simp] theorem State.wr_clq (s : State) (d : Nat) (r : Reg) (v : Word64) : (State.wr s d r v).clq = s.clq := rfl
@[simp] theorem State.wr_shapers (s : State) (d : Nat) (r : Reg) (v : Word64) : (State.wr s d r v).shapers = s.shapers := rfl
@[simp] theorem State.wr_suspects (s : State) (d : Nat) (r : Reg) (v : Word64) : (State.wr s d r v).suspects = s.suspects := rfl
@[simp] theorem State.wr_engs (s : State) (d : Nat) (r : Reg) (v : Word64) : (State.wr s d r v).engs = s.engs := rfl
@[simp] theorem State.wr_cls (s : State) (d : Nat) (r : Reg) (v : Word64) : (State.wr s d r v).cls = s.cls := rfl
@[simp] theorem State.wr_imem (s : State) (d : Nat) (r : Reg) (v : Word64) : (State.wr s d r v).imem = s.imem := rfl
@[simp] theorem State.wr_imemErr (s : State) (d : Nat) (r : Reg) (v : Word64) : (State.wr s d r v).imemErr = s.imemErr := rfl
@[simp] theorem State.wr_spad (s : State) (d : Nat) (r : Reg) (v : Word64) : (State.wr s d r v).spad = s.spad := rfl
@[simp] theorem State.wr_spadErr (s : State) (d : Nat) (r : Reg) (v : Word64) : (State.wr s d r v).spadErr = s.spadErr := rfl
@[simp] theorem State.wr_lace (s : State) (d : Nat) (r : Reg) (v : Word64) : (State.wr s d r v).lace = s.lace := rfl
@[simp] theorem State.wr_cues (s : State) (d : Nat) (r : Reg) (v : Word64) : (State.wr s d r v).cues = s.cues := rfl
@[simp] theorem State.wr_ethPorts (s : State) (d : Nat) (r : Reg) (v : Word64) : (State.wr s d r v).ethPorts = s.ethPorts := rfl
@[simp] theorem State.wr_ethPairs (s : State) (d : Nat) (r : Reg) (v : Word64) : (State.wr s d r v).ethPairs = s.ethPairs := rfl
@[simp] theorem State.wr_serPorts (s : State) (d : Nat) (r : Reg) (v : Word64) : (State.wr s d r v).serPorts = s.serPorts := rfl
@[simp] theorem State.wr_ttGroups (s : State) (d : Nat) (r : Reg) (v : Word64) : (State.wr s d r v).ttGroups = s.ttGroups := rfl
@[simp] theorem State.wr_host (s : State) (d : Nat) (r : Reg) (v : Word64) : (State.wr s d r v).host = s.host := rfl
@[simp] theorem State.wr_pwr (s : State) (d : Nat) (r : Reg) (v : Word64) : (State.wr s d r v).pwr = s.pwr := rfl
@[simp] theorem State.wr_rcv (s : State) (d : Nat) (r : Reg) (v : Word64) : (State.wr s d r v).rcv = s.rcv := rfl
@[simp] theorem State.wr_arc (s : State) (d : Nat) (r : Reg) (v : Word64) : (State.wr s d r v).arc = s.arc := rfl
@[simp] theorem State.wr_welt (s : State) (d : Nat) (r : Reg) (v : Word64) : (State.wr s d r v).welt = s.welt := rfl
@[simp] theorem State.wr_rein (s : State) (d : Nat) (r : Reg) (v : Word64) : (State.wr s d r v).rein = s.rein := rfl
@[simp] theorem State.setByte_regs (s : State) (d off : Nat) (v : Byte) : (State.setByte s d off v).regs = s.regs := rfl
@[simp] theorem State.setByte_latch (s : State) (d off : Nat) (v : Byte) : (State.setByte s d off v).latch = s.latch := rfl
@[simp] theorem State.setByte_errs (s : State) (d off : Nat) (v : Byte) : (State.setByte s d off v).errs = s.errs := rfl
@[simp] theorem State.setByte_pages (s : State) (d off : Nat) (v : Byte) : (State.setByte s d off v).pages = s.pages := rfl
@[simp] theorem State.setByte_fresh (s : State) (d off : Nat) (v : Byte) : (State.setByte s d off v).fresh = s.fresh := rfl
@[simp] theorem State.setByte_resp (s : State) (d off : Nat) (v : Byte) : (State.setByte s d off v).resp = s.resp := rfl
@[simp] theorem State.setByte_har (s : State) (d off : Nat) (v : Byte) : (State.setByte s d off v).har = s.har := rfl
@[simp] theorem State.setByte_servo (s : State) (d off : Nat) (v : Byte) : (State.setByte s d off v).servo = s.servo := rfl
@[simp] theorem State.setByte_frac (s : State) (d off : Nat) (v : Byte) : (State.setByte s d off v).frac = s.frac := rfl
@[simp] theorem State.setByte_monoFrac (s : State) (d off : Nat) (v : Byte) : (State.setByte s d off v).monoFrac = s.monoFrac := rfl
@[simp] theorem State.setByte_pulses (s : State) (d off : Nat) (v : Byte) : (State.setByte s d off v).pulses = s.pulses := rfl
@[simp] theorem State.setByte_clkout (s : State) (d off : Nat) (v : Byte) : (State.setByte s d off v).clkout = s.clkout := rfl
@[simp] theorem State.setByte_recD (s : State) (d off : Nat) (v : Byte) : (State.setByte s d off v).recD = s.recD := rfl
@[simp] theorem State.setByte_recP (s : State) (d off : Nat) (v : Byte) : (State.setByte s d off v).recP = s.recP := rfl
@[simp] theorem State.setByte_calFact (s : State) (d off : Nat) (v : Byte) : (State.setByte s d off v).calFact = s.calFact := rfl
@[simp] theorem State.setByte_calUser (s : State) (d off : Nat) (v : Byte) : (State.setByte s d off v).calUser = s.calUser := rfl
@[simp] theorem State.setByte_banks (s : State) (d off : Nat) (v : Byte) : (State.setByte s d off v).banks = s.banks := rfl
@[simp] theorem State.setByte_skv (s : State) (d off : Nat) (v : Byte) : (State.setByte s d off v).skv = s.skv := rfl
@[simp] theorem State.setByte_resync (s : State) (d off : Nat) (v : Byte) : (State.setByte s d off v).resync = s.resync := rfl
@[simp] theorem State.setByte_rearm (s : State) (d off : Nat) (v : Byte) : (State.setByte s d off v).rearm = s.rearm := rfl
@[simp] theorem State.setByte_skvBack (s : State) (d off : Nat) (v : Byte) : (State.setByte s d off v).skvBack = s.skvBack := rfl
@[simp] theorem State.setByte_fenced (s : State) (d off : Nat) (v : Byte) : (State.setByte s d off v).fenced = s.fenced := rfl
@[simp] theorem State.setByte_commitQ (s : State) (d off : Nat) (v : Byte) : (State.setByte s d off v).commitQ = s.commitQ := rfl
@[simp] theorem State.setByte_boundLog (s : State) (d off : Nat) (v : Byte) : (State.setByte s d off v).boundLog = s.boundLog := rfl
@[simp] theorem State.setByte_mirrorQ (s : State) (d off : Nat) (v : Byte) : (State.setByte s d off v).mirrorQ = s.mirrorQ := rfl
@[simp] theorem State.setByte_frames (s : State) (d off : Nat) (v : Byte) : (State.setByte s d off v).frames = s.frames := rfl
@[simp] theorem State.setByte_cells (s : State) (d off : Nat) (v : Byte) : (State.setByte s d off v).cells = s.cells := rfl
@[simp] theorem State.setByte_owners (s : State) (d off : Nat) (v : Byte) : (State.setByte s d off v).owners = s.owners := rfl
@[simp] theorem State.setByte_tenCells (s : State) (d off : Nat) (v : Byte) : (State.setByte s d off v).tenCells = s.tenCells := rfl
@[simp] theorem State.setByte_tenDrops (s : State) (d off : Nat) (v : Byte) : (State.setByte s d off v).tenDrops = s.tenDrops := rfl
@[simp] theorem State.setByte_voq (s : State) (d off : Nat) (v : Byte) : (State.setByte s d off v).voq = s.voq := rfl
@[simp] theorem State.setByte_grantPtr (s : State) (d off : Nat) (v : Byte) : (State.setByte s d off v).grantPtr = s.grantPtr := rfl
@[simp] theorem State.setByte_acceptPtr (s : State) (d off : Nat) (v : Byte) : (State.setByte s d off v).acceptPtr = s.acceptPtr := rfl
@[simp] theorem State.setByte_outQ (s : State) (d off : Nat) (v : Byte) : (State.setByte s d off v).outQ = s.outQ := rfl
@[simp] theorem State.setByte_slots (s : State) (d off : Nat) (v : Byte) : (State.setByte s d off v).slots = s.slots := rfl
@[simp] theorem State.setByte_clq (s : State) (d off : Nat) (v : Byte) : (State.setByte s d off v).clq = s.clq := rfl
@[simp] theorem State.setByte_shapers (s : State) (d off : Nat) (v : Byte) : (State.setByte s d off v).shapers = s.shapers := rfl
@[simp] theorem State.setByte_suspects (s : State) (d off : Nat) (v : Byte) : (State.setByte s d off v).suspects = s.suspects := rfl
@[simp] theorem State.setByte_engs (s : State) (d off : Nat) (v : Byte) : (State.setByte s d off v).engs = s.engs := rfl
@[simp] theorem State.setByte_cls (s : State) (d off : Nat) (v : Byte) : (State.setByte s d off v).cls = s.cls := rfl
@[simp] theorem State.setByte_imem (s : State) (d off : Nat) (v : Byte) : (State.setByte s d off v).imem = s.imem := rfl
@[simp] theorem State.setByte_imemErr (s : State) (d off : Nat) (v : Byte) : (State.setByte s d off v).imemErr = s.imemErr := rfl
@[simp] theorem State.setByte_spad (s : State) (d off : Nat) (v : Byte) : (State.setByte s d off v).spad = s.spad := rfl
@[simp] theorem State.setByte_spadErr (s : State) (d off : Nat) (v : Byte) : (State.setByte s d off v).spadErr = s.spadErr := rfl
@[simp] theorem State.setByte_lace (s : State) (d off : Nat) (v : Byte) : (State.setByte s d off v).lace = s.lace := rfl
@[simp] theorem State.setByte_cues (s : State) (d off : Nat) (v : Byte) : (State.setByte s d off v).cues = s.cues := rfl
@[simp] theorem State.setByte_ethPorts (s : State) (d off : Nat) (v : Byte) : (State.setByte s d off v).ethPorts = s.ethPorts := rfl
@[simp] theorem State.setByte_ethPairs (s : State) (d off : Nat) (v : Byte) : (State.setByte s d off v).ethPairs = s.ethPairs := rfl
@[simp] theorem State.setByte_serPorts (s : State) (d off : Nat) (v : Byte) : (State.setByte s d off v).serPorts = s.serPorts := rfl
@[simp] theorem State.setByte_ttGroups (s : State) (d off : Nat) (v : Byte) : (State.setByte s d off v).ttGroups = s.ttGroups := rfl
@[simp] theorem State.setByte_host (s : State) (d off : Nat) (v : Byte) : (State.setByte s d off v).host = s.host := rfl
@[simp] theorem State.setByte_pwr (s : State) (d off : Nat) (v : Byte) : (State.setByte s d off v).pwr = s.pwr := rfl
@[simp] theorem State.setByte_rcv (s : State) (d off : Nat) (v : Byte) : (State.setByte s d off v).rcv = s.rcv := rfl
@[simp] theorem State.setByte_arc (s : State) (d off : Nat) (v : Byte) : (State.setByte s d off v).arc = s.arc := rfl
@[simp] theorem State.setByte_welt (s : State) (d off : Nat) (v : Byte) : (State.setByte s d off v).welt = s.welt := rfl
@[simp] theorem State.setByte_rein (s : State) (d off : Nat) (v : Byte) : (State.setByte s d off v).rein = s.rein := rfl
@[simp] theorem State.setEng_regs (s : State) (d e : Nat) (g : Eng) : (State.setEng s d e g).regs = s.regs := rfl
@[simp] theorem State.setEng_latch (s : State) (d e : Nat) (g : Eng) : (State.setEng s d e g).latch = s.latch := rfl
@[simp] theorem State.setEng_errs (s : State) (d e : Nat) (g : Eng) : (State.setEng s d e g).errs = s.errs := rfl
@[simp] theorem State.setEng_pages (s : State) (d e : Nat) (g : Eng) : (State.setEng s d e g).pages = s.pages := rfl
@[simp] theorem State.setEng_fresh (s : State) (d e : Nat) (g : Eng) : (State.setEng s d e g).fresh = s.fresh := rfl
@[simp] theorem State.setEng_resp (s : State) (d e : Nat) (g : Eng) : (State.setEng s d e g).resp = s.resp := rfl
@[simp] theorem State.setEng_har (s : State) (d e : Nat) (g : Eng) : (State.setEng s d e g).har = s.har := rfl
@[simp] theorem State.setEng_servo (s : State) (d e : Nat) (g : Eng) : (State.setEng s d e g).servo = s.servo := rfl
@[simp] theorem State.setEng_frac (s : State) (d e : Nat) (g : Eng) : (State.setEng s d e g).frac = s.frac := rfl
@[simp] theorem State.setEng_monoFrac (s : State) (d e : Nat) (g : Eng) : (State.setEng s d e g).monoFrac = s.monoFrac := rfl
@[simp] theorem State.setEng_pulses (s : State) (d e : Nat) (g : Eng) : (State.setEng s d e g).pulses = s.pulses := rfl
@[simp] theorem State.setEng_clkout (s : State) (d e : Nat) (g : Eng) : (State.setEng s d e g).clkout = s.clkout := rfl
@[simp] theorem State.setEng_recD (s : State) (d e : Nat) (g : Eng) : (State.setEng s d e g).recD = s.recD := rfl
@[simp] theorem State.setEng_recP (s : State) (d e : Nat) (g : Eng) : (State.setEng s d e g).recP = s.recP := rfl
@[simp] theorem State.setEng_calFact (s : State) (d e : Nat) (g : Eng) : (State.setEng s d e g).calFact = s.calFact := rfl
@[simp] theorem State.setEng_calUser (s : State) (d e : Nat) (g : Eng) : (State.setEng s d e g).calUser = s.calUser := rfl
@[simp] theorem State.setEng_banks (s : State) (d e : Nat) (g : Eng) : (State.setEng s d e g).banks = s.banks := rfl
@[simp] theorem State.setEng_skv (s : State) (d e : Nat) (g : Eng) : (State.setEng s d e g).skv = s.skv := rfl
@[simp] theorem State.setEng_resync (s : State) (d e : Nat) (g : Eng) : (State.setEng s d e g).resync = s.resync := rfl
@[simp] theorem State.setEng_rearm (s : State) (d e : Nat) (g : Eng) : (State.setEng s d e g).rearm = s.rearm := rfl
@[simp] theorem State.setEng_skvBack (s : State) (d e : Nat) (g : Eng) : (State.setEng s d e g).skvBack = s.skvBack := rfl
@[simp] theorem State.setEng_fenced (s : State) (d e : Nat) (g : Eng) : (State.setEng s d e g).fenced = s.fenced := rfl
@[simp] theorem State.setEng_commitQ (s : State) (d e : Nat) (g : Eng) : (State.setEng s d e g).commitQ = s.commitQ := rfl
@[simp] theorem State.setEng_boundLog (s : State) (d e : Nat) (g : Eng) : (State.setEng s d e g).boundLog = s.boundLog := rfl
@[simp] theorem State.setEng_mirrorQ (s : State) (d e : Nat) (g : Eng) : (State.setEng s d e g).mirrorQ = s.mirrorQ := rfl
@[simp] theorem State.setEng_frames (s : State) (d e : Nat) (g : Eng) : (State.setEng s d e g).frames = s.frames := rfl
@[simp] theorem State.setEng_cells (s : State) (d e : Nat) (g : Eng) : (State.setEng s d e g).cells = s.cells := rfl
@[simp] theorem State.setEng_owners (s : State) (d e : Nat) (g : Eng) : (State.setEng s d e g).owners = s.owners := rfl
@[simp] theorem State.setEng_tenCells (s : State) (d e : Nat) (g : Eng) : (State.setEng s d e g).tenCells = s.tenCells := rfl
@[simp] theorem State.setEng_tenDrops (s : State) (d e : Nat) (g : Eng) : (State.setEng s d e g).tenDrops = s.tenDrops := rfl
@[simp] theorem State.setEng_voq (s : State) (d e : Nat) (g : Eng) : (State.setEng s d e g).voq = s.voq := rfl
@[simp] theorem State.setEng_grantPtr (s : State) (d e : Nat) (g : Eng) : (State.setEng s d e g).grantPtr = s.grantPtr := rfl
@[simp] theorem State.setEng_acceptPtr (s : State) (d e : Nat) (g : Eng) : (State.setEng s d e g).acceptPtr = s.acceptPtr := rfl
@[simp] theorem State.setEng_outQ (s : State) (d e : Nat) (g : Eng) : (State.setEng s d e g).outQ = s.outQ := rfl
@[simp] theorem State.setEng_slots (s : State) (d e : Nat) (g : Eng) : (State.setEng s d e g).slots = s.slots := rfl
@[simp] theorem State.setEng_clq (s : State) (d e : Nat) (g : Eng) : (State.setEng s d e g).clq = s.clq := rfl
@[simp] theorem State.setEng_shapers (s : State) (d e : Nat) (g : Eng) : (State.setEng s d e g).shapers = s.shapers := rfl
@[simp] theorem State.setEng_suspects (s : State) (d e : Nat) (g : Eng) : (State.setEng s d e g).suspects = s.suspects := rfl
@[simp] theorem State.setEng_cls (s : State) (d e : Nat) (g : Eng) : (State.setEng s d e g).cls = s.cls := rfl
@[simp] theorem State.setEng_imem (s : State) (d e : Nat) (g : Eng) : (State.setEng s d e g).imem = s.imem := rfl
@[simp] theorem State.setEng_imemErr (s : State) (d e : Nat) (g : Eng) : (State.setEng s d e g).imemErr = s.imemErr := rfl
@[simp] theorem State.setEng_spad (s : State) (d e : Nat) (g : Eng) : (State.setEng s d e g).spad = s.spad := rfl
@[simp] theorem State.setEng_spadErr (s : State) (d e : Nat) (g : Eng) : (State.setEng s d e g).spadErr = s.spadErr := rfl
@[simp] theorem State.setEng_lace (s : State) (d e : Nat) (g : Eng) : (State.setEng s d e g).lace = s.lace := rfl
@[simp] theorem State.setEng_cues (s : State) (d e : Nat) (g : Eng) : (State.setEng s d e g).cues = s.cues := rfl
@[simp] theorem State.setEng_ethPorts (s : State) (d e : Nat) (g : Eng) : (State.setEng s d e g).ethPorts = s.ethPorts := rfl
@[simp] theorem State.setEng_ethPairs (s : State) (d e : Nat) (g : Eng) : (State.setEng s d e g).ethPairs = s.ethPairs := rfl
@[simp] theorem State.setEng_serPorts (s : State) (d e : Nat) (g : Eng) : (State.setEng s d e g).serPorts = s.serPorts := rfl
@[simp] theorem State.setEng_ttGroups (s : State) (d e : Nat) (g : Eng) : (State.setEng s d e g).ttGroups = s.ttGroups := rfl
@[simp] theorem State.setEng_host (s : State) (d e : Nat) (g : Eng) : (State.setEng s d e g).host = s.host := rfl
@[simp] theorem State.setEng_pwr (s : State) (d e : Nat) (g : Eng) : (State.setEng s d e g).pwr = s.pwr := rfl
@[simp] theorem State.setEng_rcv (s : State) (d e : Nat) (g : Eng) : (State.setEng s d e g).rcv = s.rcv := rfl
@[simp] theorem State.setEng_arc (s : State) (d e : Nat) (g : Eng) : (State.setEng s d e g).arc = s.arc := rfl
@[simp] theorem State.setEng_welt (s : State) (d e : Nat) (g : Eng) : (State.setEng s d e g).welt = s.welt := rfl
@[simp] theorem State.setEng_rein (s : State) (d e : Nat) (g : Eng) : (State.setEng s d e g).rein = s.rein := rfl
@[simp] theorem State.setCl_regs (s : State) (d c : Nat) (k : Cl) : (State.setCl s d c k).regs = s.regs := rfl
@[simp] theorem State.setCl_latch (s : State) (d c : Nat) (k : Cl) : (State.setCl s d c k).latch = s.latch := rfl
@[simp] theorem State.setCl_errs (s : State) (d c : Nat) (k : Cl) : (State.setCl s d c k).errs = s.errs := rfl
@[simp] theorem State.setCl_pages (s : State) (d c : Nat) (k : Cl) : (State.setCl s d c k).pages = s.pages := rfl
@[simp] theorem State.setCl_fresh (s : State) (d c : Nat) (k : Cl) : (State.setCl s d c k).fresh = s.fresh := rfl
@[simp] theorem State.setCl_resp (s : State) (d c : Nat) (k : Cl) : (State.setCl s d c k).resp = s.resp := rfl
@[simp] theorem State.setCl_har (s : State) (d c : Nat) (k : Cl) : (State.setCl s d c k).har = s.har := rfl
@[simp] theorem State.setCl_servo (s : State) (d c : Nat) (k : Cl) : (State.setCl s d c k).servo = s.servo := rfl
@[simp] theorem State.setCl_frac (s : State) (d c : Nat) (k : Cl) : (State.setCl s d c k).frac = s.frac := rfl
@[simp] theorem State.setCl_monoFrac (s : State) (d c : Nat) (k : Cl) : (State.setCl s d c k).monoFrac = s.monoFrac := rfl
@[simp] theorem State.setCl_pulses (s : State) (d c : Nat) (k : Cl) : (State.setCl s d c k).pulses = s.pulses := rfl
@[simp] theorem State.setCl_clkout (s : State) (d c : Nat) (k : Cl) : (State.setCl s d c k).clkout = s.clkout := rfl
@[simp] theorem State.setCl_recD (s : State) (d c : Nat) (k : Cl) : (State.setCl s d c k).recD = s.recD := rfl
@[simp] theorem State.setCl_recP (s : State) (d c : Nat) (k : Cl) : (State.setCl s d c k).recP = s.recP := rfl
@[simp] theorem State.setCl_calFact (s : State) (d c : Nat) (k : Cl) : (State.setCl s d c k).calFact = s.calFact := rfl
@[simp] theorem State.setCl_calUser (s : State) (d c : Nat) (k : Cl) : (State.setCl s d c k).calUser = s.calUser := rfl
@[simp] theorem State.setCl_banks (s : State) (d c : Nat) (k : Cl) : (State.setCl s d c k).banks = s.banks := rfl
@[simp] theorem State.setCl_skv (s : State) (d c : Nat) (k : Cl) : (State.setCl s d c k).skv = s.skv := rfl
@[simp] theorem State.setCl_resync (s : State) (d c : Nat) (k : Cl) : (State.setCl s d c k).resync = s.resync := rfl
@[simp] theorem State.setCl_rearm (s : State) (d c : Nat) (k : Cl) : (State.setCl s d c k).rearm = s.rearm := rfl
@[simp] theorem State.setCl_skvBack (s : State) (d c : Nat) (k : Cl) : (State.setCl s d c k).skvBack = s.skvBack := rfl
@[simp] theorem State.setCl_fenced (s : State) (d c : Nat) (k : Cl) : (State.setCl s d c k).fenced = s.fenced := rfl
@[simp] theorem State.setCl_commitQ (s : State) (d c : Nat) (k : Cl) : (State.setCl s d c k).commitQ = s.commitQ := rfl
@[simp] theorem State.setCl_boundLog (s : State) (d c : Nat) (k : Cl) : (State.setCl s d c k).boundLog = s.boundLog := rfl
@[simp] theorem State.setCl_mirrorQ (s : State) (d c : Nat) (k : Cl) : (State.setCl s d c k).mirrorQ = s.mirrorQ := rfl
@[simp] theorem State.setCl_frames (s : State) (d c : Nat) (k : Cl) : (State.setCl s d c k).frames = s.frames := rfl
@[simp] theorem State.setCl_cells (s : State) (d c : Nat) (k : Cl) : (State.setCl s d c k).cells = s.cells := rfl
@[simp] theorem State.setCl_owners (s : State) (d c : Nat) (k : Cl) : (State.setCl s d c k).owners = s.owners := rfl
@[simp] theorem State.setCl_tenCells (s : State) (d c : Nat) (k : Cl) : (State.setCl s d c k).tenCells = s.tenCells := rfl
@[simp] theorem State.setCl_tenDrops (s : State) (d c : Nat) (k : Cl) : (State.setCl s d c k).tenDrops = s.tenDrops := rfl
@[simp] theorem State.setCl_voq (s : State) (d c : Nat) (k : Cl) : (State.setCl s d c k).voq = s.voq := rfl
@[simp] theorem State.setCl_grantPtr (s : State) (d c : Nat) (k : Cl) : (State.setCl s d c k).grantPtr = s.grantPtr := rfl
@[simp] theorem State.setCl_acceptPtr (s : State) (d c : Nat) (k : Cl) : (State.setCl s d c k).acceptPtr = s.acceptPtr := rfl
@[simp] theorem State.setCl_outQ (s : State) (d c : Nat) (k : Cl) : (State.setCl s d c k).outQ = s.outQ := rfl
@[simp] theorem State.setCl_slots (s : State) (d c : Nat) (k : Cl) : (State.setCl s d c k).slots = s.slots := rfl
@[simp] theorem State.setCl_clq (s : State) (d c : Nat) (k : Cl) : (State.setCl s d c k).clq = s.clq := rfl
@[simp] theorem State.setCl_shapers (s : State) (d c : Nat) (k : Cl) : (State.setCl s d c k).shapers = s.shapers := rfl
@[simp] theorem State.setCl_suspects (s : State) (d c : Nat) (k : Cl) : (State.setCl s d c k).suspects = s.suspects := rfl
@[simp] theorem State.setCl_engs (s : State) (d c : Nat) (k : Cl) : (State.setCl s d c k).engs = s.engs := rfl
@[simp] theorem State.setCl_imem (s : State) (d c : Nat) (k : Cl) : (State.setCl s d c k).imem = s.imem := rfl
@[simp] theorem State.setCl_imemErr (s : State) (d c : Nat) (k : Cl) : (State.setCl s d c k).imemErr = s.imemErr := rfl
@[simp] theorem State.setCl_spad (s : State) (d c : Nat) (k : Cl) : (State.setCl s d c k).spad = s.spad := rfl
@[simp] theorem State.setCl_spadErr (s : State) (d c : Nat) (k : Cl) : (State.setCl s d c k).spadErr = s.spadErr := rfl
@[simp] theorem State.setCl_lace (s : State) (d c : Nat) (k : Cl) : (State.setCl s d c k).lace = s.lace := rfl
@[simp] theorem State.setCl_cues (s : State) (d c : Nat) (k : Cl) : (State.setCl s d c k).cues = s.cues := rfl
@[simp] theorem State.setCl_ethPorts (s : State) (d c : Nat) (k : Cl) : (State.setCl s d c k).ethPorts = s.ethPorts := rfl
@[simp] theorem State.setCl_ethPairs (s : State) (d c : Nat) (k : Cl) : (State.setCl s d c k).ethPairs = s.ethPairs := rfl
@[simp] theorem State.setCl_serPorts (s : State) (d c : Nat) (k : Cl) : (State.setCl s d c k).serPorts = s.serPorts := rfl
@[simp] theorem State.setCl_ttGroups (s : State) (d c : Nat) (k : Cl) : (State.setCl s d c k).ttGroups = s.ttGroups := rfl
@[simp] theorem State.setCl_host (s : State) (d c : Nat) (k : Cl) : (State.setCl s d c k).host = s.host := rfl
@[simp] theorem State.setCl_pwr (s : State) (d c : Nat) (k : Cl) : (State.setCl s d c k).pwr = s.pwr := rfl
@[simp] theorem State.setCl_rcv (s : State) (d c : Nat) (k : Cl) : (State.setCl s d c k).rcv = s.rcv := rfl
@[simp] theorem State.setCl_arc (s : State) (d c : Nat) (k : Cl) : (State.setCl s d c k).arc = s.arc := rfl
@[simp] theorem State.setCl_welt (s : State) (d c : Nat) (k : Cl) : (State.setCl s d c k).welt = s.welt := rfl
@[simp] theorem State.setCl_rein (s : State) (d c : Nat) (k : Cl) : (State.setCl s d c k).rein = s.rein := rfl
@[simp] theorem State.spadSet_regs (s : State) (d c w : Nat) (v : W16) : (State.spadSet s d c w v).regs = s.regs := rfl
@[simp] theorem State.spadSet_latch (s : State) (d c w : Nat) (v : W16) : (State.spadSet s d c w v).latch = s.latch := rfl
@[simp] theorem State.spadSet_errs (s : State) (d c w : Nat) (v : W16) : (State.spadSet s d c w v).errs = s.errs := rfl
@[simp] theorem State.spadSet_pages (s : State) (d c w : Nat) (v : W16) : (State.spadSet s d c w v).pages = s.pages := rfl
@[simp] theorem State.spadSet_fresh (s : State) (d c w : Nat) (v : W16) : (State.spadSet s d c w v).fresh = s.fresh := rfl
@[simp] theorem State.spadSet_resp (s : State) (d c w : Nat) (v : W16) : (State.spadSet s d c w v).resp = s.resp := rfl
@[simp] theorem State.spadSet_har (s : State) (d c w : Nat) (v : W16) : (State.spadSet s d c w v).har = s.har := rfl
@[simp] theorem State.spadSet_servo (s : State) (d c w : Nat) (v : W16) : (State.spadSet s d c w v).servo = s.servo := rfl
@[simp] theorem State.spadSet_frac (s : State) (d c w : Nat) (v : W16) : (State.spadSet s d c w v).frac = s.frac := rfl
@[simp] theorem State.spadSet_monoFrac (s : State) (d c w : Nat) (v : W16) : (State.spadSet s d c w v).monoFrac = s.monoFrac := rfl
@[simp] theorem State.spadSet_pulses (s : State) (d c w : Nat) (v : W16) : (State.spadSet s d c w v).pulses = s.pulses := rfl
@[simp] theorem State.spadSet_clkout (s : State) (d c w : Nat) (v : W16) : (State.spadSet s d c w v).clkout = s.clkout := rfl
@[simp] theorem State.spadSet_recD (s : State) (d c w : Nat) (v : W16) : (State.spadSet s d c w v).recD = s.recD := rfl
@[simp] theorem State.spadSet_recP (s : State) (d c w : Nat) (v : W16) : (State.spadSet s d c w v).recP = s.recP := rfl
@[simp] theorem State.spadSet_calFact (s : State) (d c w : Nat) (v : W16) : (State.spadSet s d c w v).calFact = s.calFact := rfl
@[simp] theorem State.spadSet_calUser (s : State) (d c w : Nat) (v : W16) : (State.spadSet s d c w v).calUser = s.calUser := rfl
@[simp] theorem State.spadSet_banks (s : State) (d c w : Nat) (v : W16) : (State.spadSet s d c w v).banks = s.banks := rfl
@[simp] theorem State.spadSet_skv (s : State) (d c w : Nat) (v : W16) : (State.spadSet s d c w v).skv = s.skv := rfl
@[simp] theorem State.spadSet_resync (s : State) (d c w : Nat) (v : W16) : (State.spadSet s d c w v).resync = s.resync := rfl
@[simp] theorem State.spadSet_rearm (s : State) (d c w : Nat) (v : W16) : (State.spadSet s d c w v).rearm = s.rearm := rfl
@[simp] theorem State.spadSet_skvBack (s : State) (d c w : Nat) (v : W16) : (State.spadSet s d c w v).skvBack = s.skvBack := rfl
@[simp] theorem State.spadSet_fenced (s : State) (d c w : Nat) (v : W16) : (State.spadSet s d c w v).fenced = s.fenced := rfl
@[simp] theorem State.spadSet_commitQ (s : State) (d c w : Nat) (v : W16) : (State.spadSet s d c w v).commitQ = s.commitQ := rfl
@[simp] theorem State.spadSet_boundLog (s : State) (d c w : Nat) (v : W16) : (State.spadSet s d c w v).boundLog = s.boundLog := rfl
@[simp] theorem State.spadSet_mirrorQ (s : State) (d c w : Nat) (v : W16) : (State.spadSet s d c w v).mirrorQ = s.mirrorQ := rfl
@[simp] theorem State.spadSet_frames (s : State) (d c w : Nat) (v : W16) : (State.spadSet s d c w v).frames = s.frames := rfl
@[simp] theorem State.spadSet_cells (s : State) (d c w : Nat) (v : W16) : (State.spadSet s d c w v).cells = s.cells := rfl
@[simp] theorem State.spadSet_owners (s : State) (d c w : Nat) (v : W16) : (State.spadSet s d c w v).owners = s.owners := rfl
@[simp] theorem State.spadSet_tenCells (s : State) (d c w : Nat) (v : W16) : (State.spadSet s d c w v).tenCells = s.tenCells := rfl
@[simp] theorem State.spadSet_tenDrops (s : State) (d c w : Nat) (v : W16) : (State.spadSet s d c w v).tenDrops = s.tenDrops := rfl
@[simp] theorem State.spadSet_voq (s : State) (d c w : Nat) (v : W16) : (State.spadSet s d c w v).voq = s.voq := rfl
@[simp] theorem State.spadSet_grantPtr (s : State) (d c w : Nat) (v : W16) : (State.spadSet s d c w v).grantPtr = s.grantPtr := rfl
@[simp] theorem State.spadSet_acceptPtr (s : State) (d c w : Nat) (v : W16) : (State.spadSet s d c w v).acceptPtr = s.acceptPtr := rfl
@[simp] theorem State.spadSet_outQ (s : State) (d c w : Nat) (v : W16) : (State.spadSet s d c w v).outQ = s.outQ := rfl
@[simp] theorem State.spadSet_slots (s : State) (d c w : Nat) (v : W16) : (State.spadSet s d c w v).slots = s.slots := rfl
@[simp] theorem State.spadSet_clq (s : State) (d c w : Nat) (v : W16) : (State.spadSet s d c w v).clq = s.clq := rfl
@[simp] theorem State.spadSet_shapers (s : State) (d c w : Nat) (v : W16) : (State.spadSet s d c w v).shapers = s.shapers := rfl
@[simp] theorem State.spadSet_suspects (s : State) (d c w : Nat) (v : W16) : (State.spadSet s d c w v).suspects = s.suspects := rfl
@[simp] theorem State.spadSet_engs (s : State) (d c w : Nat) (v : W16) : (State.spadSet s d c w v).engs = s.engs := rfl
@[simp] theorem State.spadSet_cls (s : State) (d c w : Nat) (v : W16) : (State.spadSet s d c w v).cls = s.cls := rfl
@[simp] theorem State.spadSet_imem (s : State) (d c w : Nat) (v : W16) : (State.spadSet s d c w v).imem = s.imem := rfl
@[simp] theorem State.spadSet_imemErr (s : State) (d c w : Nat) (v : W16) : (State.spadSet s d c w v).imemErr = s.imemErr := rfl
@[simp] theorem State.spadSet_lace (s : State) (d c w : Nat) (v : W16) : (State.spadSet s d c w v).lace = s.lace := rfl
@[simp] theorem State.spadSet_cues (s : State) (d c w : Nat) (v : W16) : (State.spadSet s d c w v).cues = s.cues := rfl
@[simp] theorem State.spadSet_ethPorts (s : State) (d c w : Nat) (v : W16) : (State.spadSet s d c w v).ethPorts = s.ethPorts := rfl
@[simp] theorem State.spadSet_ethPairs (s : State) (d c w : Nat) (v : W16) : (State.spadSet s d c w v).ethPairs = s.ethPairs := rfl
@[simp] theorem State.spadSet_serPorts (s : State) (d c w : Nat) (v : W16) : (State.spadSet s d c w v).serPorts = s.serPorts := rfl
@[simp] theorem State.spadSet_ttGroups (s : State) (d c w : Nat) (v : W16) : (State.spadSet s d c w v).ttGroups = s.ttGroups := rfl
@[simp] theorem State.spadSet_host (s : State) (d c w : Nat) (v : W16) : (State.spadSet s d c w v).host = s.host := rfl
@[simp] theorem State.spadSet_pwr (s : State) (d c w : Nat) (v : W16) : (State.spadSet s d c w v).pwr = s.pwr := rfl
@[simp] theorem State.spadSet_rcv (s : State) (d c w : Nat) (v : W16) : (State.spadSet s d c w v).rcv = s.rcv := rfl
@[simp] theorem State.spadSet_arc (s : State) (d c w : Nat) (v : W16) : (State.spadSet s d c w v).arc = s.arc := rfl
@[simp] theorem State.spadSet_welt (s : State) (d c w : Nat) (v : W16) : (State.spadSet s d c w v).welt = s.welt := rfl
@[simp] theorem State.spadSet_rein (s : State) (d c w : Nat) (v : W16) : (State.spadSet s d c w v).rein = s.rein := rfl
@[simp] theorem State.setFrame_regs (s : State) (f : Nat) (x : Frame) : (State.setFrame s f x).regs = s.regs := rfl
@[simp] theorem State.setFrame_latch (s : State) (f : Nat) (x : Frame) : (State.setFrame s f x).latch = s.latch := rfl
@[simp] theorem State.setFrame_errs (s : State) (f : Nat) (x : Frame) : (State.setFrame s f x).errs = s.errs := rfl
@[simp] theorem State.setFrame_pages (s : State) (f : Nat) (x : Frame) : (State.setFrame s f x).pages = s.pages := rfl
@[simp] theorem State.setFrame_fresh (s : State) (f : Nat) (x : Frame) : (State.setFrame s f x).fresh = s.fresh := rfl
@[simp] theorem State.setFrame_resp (s : State) (f : Nat) (x : Frame) : (State.setFrame s f x).resp = s.resp := rfl
@[simp] theorem State.setFrame_har (s : State) (f : Nat) (x : Frame) : (State.setFrame s f x).har = s.har := rfl
@[simp] theorem State.setFrame_servo (s : State) (f : Nat) (x : Frame) : (State.setFrame s f x).servo = s.servo := rfl
@[simp] theorem State.setFrame_frac (s : State) (f : Nat) (x : Frame) : (State.setFrame s f x).frac = s.frac := rfl
@[simp] theorem State.setFrame_monoFrac (s : State) (f : Nat) (x : Frame) : (State.setFrame s f x).monoFrac = s.monoFrac := rfl
@[simp] theorem State.setFrame_pulses (s : State) (f : Nat) (x : Frame) : (State.setFrame s f x).pulses = s.pulses := rfl
@[simp] theorem State.setFrame_clkout (s : State) (f : Nat) (x : Frame) : (State.setFrame s f x).clkout = s.clkout := rfl
@[simp] theorem State.setFrame_recD (s : State) (f : Nat) (x : Frame) : (State.setFrame s f x).recD = s.recD := rfl
@[simp] theorem State.setFrame_recP (s : State) (f : Nat) (x : Frame) : (State.setFrame s f x).recP = s.recP := rfl
@[simp] theorem State.setFrame_calFact (s : State) (f : Nat) (x : Frame) : (State.setFrame s f x).calFact = s.calFact := rfl
@[simp] theorem State.setFrame_calUser (s : State) (f : Nat) (x : Frame) : (State.setFrame s f x).calUser = s.calUser := rfl
@[simp] theorem State.setFrame_banks (s : State) (f : Nat) (x : Frame) : (State.setFrame s f x).banks = s.banks := rfl
@[simp] theorem State.setFrame_skv (s : State) (f : Nat) (x : Frame) : (State.setFrame s f x).skv = s.skv := rfl
@[simp] theorem State.setFrame_resync (s : State) (f : Nat) (x : Frame) : (State.setFrame s f x).resync = s.resync := rfl
@[simp] theorem State.setFrame_rearm (s : State) (f : Nat) (x : Frame) : (State.setFrame s f x).rearm = s.rearm := rfl
@[simp] theorem State.setFrame_skvBack (s : State) (f : Nat) (x : Frame) : (State.setFrame s f x).skvBack = s.skvBack := rfl
@[simp] theorem State.setFrame_fenced (s : State) (f : Nat) (x : Frame) : (State.setFrame s f x).fenced = s.fenced := rfl
@[simp] theorem State.setFrame_commitQ (s : State) (f : Nat) (x : Frame) : (State.setFrame s f x).commitQ = s.commitQ := rfl
@[simp] theorem State.setFrame_boundLog (s : State) (f : Nat) (x : Frame) : (State.setFrame s f x).boundLog = s.boundLog := rfl
@[simp] theorem State.setFrame_mirrorQ (s : State) (f : Nat) (x : Frame) : (State.setFrame s f x).mirrorQ = s.mirrorQ := rfl
@[simp] theorem State.setFrame_cells (s : State) (f : Nat) (x : Frame) : (State.setFrame s f x).cells = s.cells := rfl
@[simp] theorem State.setFrame_owners (s : State) (f : Nat) (x : Frame) : (State.setFrame s f x).owners = s.owners := rfl
@[simp] theorem State.setFrame_tenCells (s : State) (f : Nat) (x : Frame) : (State.setFrame s f x).tenCells = s.tenCells := rfl
@[simp] theorem State.setFrame_tenDrops (s : State) (f : Nat) (x : Frame) : (State.setFrame s f x).tenDrops = s.tenDrops := rfl
@[simp] theorem State.setFrame_voq (s : State) (f : Nat) (x : Frame) : (State.setFrame s f x).voq = s.voq := rfl
@[simp] theorem State.setFrame_grantPtr (s : State) (f : Nat) (x : Frame) : (State.setFrame s f x).grantPtr = s.grantPtr := rfl
@[simp] theorem State.setFrame_acceptPtr (s : State) (f : Nat) (x : Frame) : (State.setFrame s f x).acceptPtr = s.acceptPtr := rfl
@[simp] theorem State.setFrame_outQ (s : State) (f : Nat) (x : Frame) : (State.setFrame s f x).outQ = s.outQ := rfl
@[simp] theorem State.setFrame_slots (s : State) (f : Nat) (x : Frame) : (State.setFrame s f x).slots = s.slots := rfl
@[simp] theorem State.setFrame_clq (s : State) (f : Nat) (x : Frame) : (State.setFrame s f x).clq = s.clq := rfl
@[simp] theorem State.setFrame_shapers (s : State) (f : Nat) (x : Frame) : (State.setFrame s f x).shapers = s.shapers := rfl
@[simp] theorem State.setFrame_suspects (s : State) (f : Nat) (x : Frame) : (State.setFrame s f x).suspects = s.suspects := rfl
@[simp] theorem State.setFrame_engs (s : State) (f : Nat) (x : Frame) : (State.setFrame s f x).engs = s.engs := rfl
@[simp] theorem State.setFrame_cls (s : State) (f : Nat) (x : Frame) : (State.setFrame s f x).cls = s.cls := rfl
@[simp] theorem State.setFrame_imem (s : State) (f : Nat) (x : Frame) : (State.setFrame s f x).imem = s.imem := rfl
@[simp] theorem State.setFrame_imemErr (s : State) (f : Nat) (x : Frame) : (State.setFrame s f x).imemErr = s.imemErr := rfl
@[simp] theorem State.setFrame_spad (s : State) (f : Nat) (x : Frame) : (State.setFrame s f x).spad = s.spad := rfl
@[simp] theorem State.setFrame_spadErr (s : State) (f : Nat) (x : Frame) : (State.setFrame s f x).spadErr = s.spadErr := rfl
@[simp] theorem State.setFrame_lace (s : State) (f : Nat) (x : Frame) : (State.setFrame s f x).lace = s.lace := rfl
@[simp] theorem State.setFrame_cues (s : State) (f : Nat) (x : Frame) : (State.setFrame s f x).cues = s.cues := rfl
@[simp] theorem State.setFrame_ethPorts (s : State) (f : Nat) (x : Frame) : (State.setFrame s f x).ethPorts = s.ethPorts := rfl
@[simp] theorem State.setFrame_ethPairs (s : State) (f : Nat) (x : Frame) : (State.setFrame s f x).ethPairs = s.ethPairs := rfl
@[simp] theorem State.setFrame_serPorts (s : State) (f : Nat) (x : Frame) : (State.setFrame s f x).serPorts = s.serPorts := rfl
@[simp] theorem State.setFrame_ttGroups (s : State) (f : Nat) (x : Frame) : (State.setFrame s f x).ttGroups = s.ttGroups := rfl
@[simp] theorem State.setFrame_host (s : State) (f : Nat) (x : Frame) : (State.setFrame s f x).host = s.host := rfl
@[simp] theorem State.setFrame_pwr (s : State) (f : Nat) (x : Frame) : (State.setFrame s f x).pwr = s.pwr := rfl
@[simp] theorem State.setFrame_rcv (s : State) (f : Nat) (x : Frame) : (State.setFrame s f x).rcv = s.rcv := rfl
@[simp] theorem State.setFrame_arc (s : State) (f : Nat) (x : Frame) : (State.setFrame s f x).arc = s.arc := rfl
@[simp] theorem State.setFrame_welt (s : State) (f : Nat) (x : Frame) : (State.setFrame s f x).welt = s.welt := rfl
@[simp] theorem State.setFrame_rein (s : State) (f : Nat) (x : Frame) : (State.setFrame s f x).rein = s.rein := rfl
@[simp] theorem State.setBank_regs (s : State) (d b : Nat) (k : Bank) : (State.setBank s d b k).regs = s.regs := rfl
@[simp] theorem State.setBank_latch (s : State) (d b : Nat) (k : Bank) : (State.setBank s d b k).latch = s.latch := rfl
@[simp] theorem State.setBank_errs (s : State) (d b : Nat) (k : Bank) : (State.setBank s d b k).errs = s.errs := rfl
@[simp] theorem State.setBank_pages (s : State) (d b : Nat) (k : Bank) : (State.setBank s d b k).pages = s.pages := rfl
@[simp] theorem State.setBank_fresh (s : State) (d b : Nat) (k : Bank) : (State.setBank s d b k).fresh = s.fresh := rfl
@[simp] theorem State.setBank_resp (s : State) (d b : Nat) (k : Bank) : (State.setBank s d b k).resp = s.resp := rfl
@[simp] theorem State.setBank_har (s : State) (d b : Nat) (k : Bank) : (State.setBank s d b k).har = s.har := rfl
@[simp] theorem State.setBank_servo (s : State) (d b : Nat) (k : Bank) : (State.setBank s d b k).servo = s.servo := rfl
@[simp] theorem State.setBank_frac (s : State) (d b : Nat) (k : Bank) : (State.setBank s d b k).frac = s.frac := rfl
@[simp] theorem State.setBank_monoFrac (s : State) (d b : Nat) (k : Bank) : (State.setBank s d b k).monoFrac = s.monoFrac := rfl
@[simp] theorem State.setBank_pulses (s : State) (d b : Nat) (k : Bank) : (State.setBank s d b k).pulses = s.pulses := rfl
@[simp] theorem State.setBank_clkout (s : State) (d b : Nat) (k : Bank) : (State.setBank s d b k).clkout = s.clkout := rfl
@[simp] theorem State.setBank_recD (s : State) (d b : Nat) (k : Bank) : (State.setBank s d b k).recD = s.recD := rfl
@[simp] theorem State.setBank_recP (s : State) (d b : Nat) (k : Bank) : (State.setBank s d b k).recP = s.recP := rfl
@[simp] theorem State.setBank_calFact (s : State) (d b : Nat) (k : Bank) : (State.setBank s d b k).calFact = s.calFact := rfl
@[simp] theorem State.setBank_calUser (s : State) (d b : Nat) (k : Bank) : (State.setBank s d b k).calUser = s.calUser := rfl
@[simp] theorem State.setBank_skv (s : State) (d b : Nat) (k : Bank) : (State.setBank s d b k).skv = s.skv := rfl
@[simp] theorem State.setBank_resync (s : State) (d b : Nat) (k : Bank) : (State.setBank s d b k).resync = s.resync := rfl
@[simp] theorem State.setBank_rearm (s : State) (d b : Nat) (k : Bank) : (State.setBank s d b k).rearm = s.rearm := rfl
@[simp] theorem State.setBank_skvBack (s : State) (d b : Nat) (k : Bank) : (State.setBank s d b k).skvBack = s.skvBack := rfl
@[simp] theorem State.setBank_fenced (s : State) (d b : Nat) (k : Bank) : (State.setBank s d b k).fenced = s.fenced := rfl
@[simp] theorem State.setBank_commitQ (s : State) (d b : Nat) (k : Bank) : (State.setBank s d b k).commitQ = s.commitQ := rfl
@[simp] theorem State.setBank_boundLog (s : State) (d b : Nat) (k : Bank) : (State.setBank s d b k).boundLog = s.boundLog := rfl
@[simp] theorem State.setBank_mirrorQ (s : State) (d b : Nat) (k : Bank) : (State.setBank s d b k).mirrorQ = s.mirrorQ := rfl
@[simp] theorem State.setBank_frames (s : State) (d b : Nat) (k : Bank) : (State.setBank s d b k).frames = s.frames := rfl
@[simp] theorem State.setBank_cells (s : State) (d b : Nat) (k : Bank) : (State.setBank s d b k).cells = s.cells := rfl
@[simp] theorem State.setBank_owners (s : State) (d b : Nat) (k : Bank) : (State.setBank s d b k).owners = s.owners := rfl
@[simp] theorem State.setBank_tenCells (s : State) (d b : Nat) (k : Bank) : (State.setBank s d b k).tenCells = s.tenCells := rfl
@[simp] theorem State.setBank_tenDrops (s : State) (d b : Nat) (k : Bank) : (State.setBank s d b k).tenDrops = s.tenDrops := rfl
@[simp] theorem State.setBank_voq (s : State) (d b : Nat) (k : Bank) : (State.setBank s d b k).voq = s.voq := rfl
@[simp] theorem State.setBank_grantPtr (s : State) (d b : Nat) (k : Bank) : (State.setBank s d b k).grantPtr = s.grantPtr := rfl
@[simp] theorem State.setBank_acceptPtr (s : State) (d b : Nat) (k : Bank) : (State.setBank s d b k).acceptPtr = s.acceptPtr := rfl
@[simp] theorem State.setBank_outQ (s : State) (d b : Nat) (k : Bank) : (State.setBank s d b k).outQ = s.outQ := rfl
@[simp] theorem State.setBank_slots (s : State) (d b : Nat) (k : Bank) : (State.setBank s d b k).slots = s.slots := rfl
@[simp] theorem State.setBank_clq (s : State) (d b : Nat) (k : Bank) : (State.setBank s d b k).clq = s.clq := rfl
@[simp] theorem State.setBank_shapers (s : State) (d b : Nat) (k : Bank) : (State.setBank s d b k).shapers = s.shapers := rfl
@[simp] theorem State.setBank_suspects (s : State) (d b : Nat) (k : Bank) : (State.setBank s d b k).suspects = s.suspects := rfl
@[simp] theorem State.setBank_engs (s : State) (d b : Nat) (k : Bank) : (State.setBank s d b k).engs = s.engs := rfl
@[simp] theorem State.setBank_cls (s : State) (d b : Nat) (k : Bank) : (State.setBank s d b k).cls = s.cls := rfl
@[simp] theorem State.setBank_imem (s : State) (d b : Nat) (k : Bank) : (State.setBank s d b k).imem = s.imem := rfl
@[simp] theorem State.setBank_imemErr (s : State) (d b : Nat) (k : Bank) : (State.setBank s d b k).imemErr = s.imemErr := rfl
@[simp] theorem State.setBank_spad (s : State) (d b : Nat) (k : Bank) : (State.setBank s d b k).spad = s.spad := rfl
@[simp] theorem State.setBank_spadErr (s : State) (d b : Nat) (k : Bank) : (State.setBank s d b k).spadErr = s.spadErr := rfl
@[simp] theorem State.setBank_lace (s : State) (d b : Nat) (k : Bank) : (State.setBank s d b k).lace = s.lace := rfl
@[simp] theorem State.setBank_cues (s : State) (d b : Nat) (k : Bank) : (State.setBank s d b k).cues = s.cues := rfl
@[simp] theorem State.setBank_ethPorts (s : State) (d b : Nat) (k : Bank) : (State.setBank s d b k).ethPorts = s.ethPorts := rfl
@[simp] theorem State.setBank_ethPairs (s : State) (d b : Nat) (k : Bank) : (State.setBank s d b k).ethPairs = s.ethPairs := rfl
@[simp] theorem State.setBank_serPorts (s : State) (d b : Nat) (k : Bank) : (State.setBank s d b k).serPorts = s.serPorts := rfl
@[simp] theorem State.setBank_ttGroups (s : State) (d b : Nat) (k : Bank) : (State.setBank s d b k).ttGroups = s.ttGroups := rfl
@[simp] theorem State.setBank_host (s : State) (d b : Nat) (k : Bank) : (State.setBank s d b k).host = s.host := rfl
@[simp] theorem State.setBank_pwr (s : State) (d b : Nat) (k : Bank) : (State.setBank s d b k).pwr = s.pwr := rfl
@[simp] theorem State.setBank_rcv (s : State) (d b : Nat) (k : Bank) : (State.setBank s d b k).rcv = s.rcv := rfl
@[simp] theorem State.setBank_arc (s : State) (d b : Nat) (k : Bank) : (State.setBank s d b k).arc = s.arc := rfl
@[simp] theorem State.setBank_welt (s : State) (d b : Nat) (k : Bank) : (State.setBank s d b k).welt = s.welt := rfl
@[simp] theorem State.setBank_rein (s : State) (d b : Nat) (k : Bank) : (State.setBank s d b k).rein = s.rein := rfl
@[simp] theorem State.setWordErr_regs (s : State) (d off m : Nat) : (State.setWordErr s d off m).regs = s.regs := rfl
@[simp] theorem State.setWordErr_latch (s : State) (d off m : Nat) : (State.setWordErr s d off m).latch = s.latch := rfl
@[simp] theorem State.setWordErr_pages (s : State) (d off m : Nat) : (State.setWordErr s d off m).pages = s.pages := rfl
@[simp] theorem State.setWordErr_fresh (s : State) (d off m : Nat) : (State.setWordErr s d off m).fresh = s.fresh := rfl
@[simp] theorem State.setWordErr_resp (s : State) (d off m : Nat) : (State.setWordErr s d off m).resp = s.resp := rfl
@[simp] theorem State.setWordErr_har (s : State) (d off m : Nat) : (State.setWordErr s d off m).har = s.har := rfl
@[simp] theorem State.setWordErr_servo (s : State) (d off m : Nat) : (State.setWordErr s d off m).servo = s.servo := rfl
@[simp] theorem State.setWordErr_frac (s : State) (d off m : Nat) : (State.setWordErr s d off m).frac = s.frac := rfl
@[simp] theorem State.setWordErr_monoFrac (s : State) (d off m : Nat) : (State.setWordErr s d off m).monoFrac = s.monoFrac := rfl
@[simp] theorem State.setWordErr_pulses (s : State) (d off m : Nat) : (State.setWordErr s d off m).pulses = s.pulses := rfl
@[simp] theorem State.setWordErr_clkout (s : State) (d off m : Nat) : (State.setWordErr s d off m).clkout = s.clkout := rfl
@[simp] theorem State.setWordErr_recD (s : State) (d off m : Nat) : (State.setWordErr s d off m).recD = s.recD := rfl
@[simp] theorem State.setWordErr_recP (s : State) (d off m : Nat) : (State.setWordErr s d off m).recP = s.recP := rfl
@[simp] theorem State.setWordErr_calFact (s : State) (d off m : Nat) : (State.setWordErr s d off m).calFact = s.calFact := rfl
@[simp] theorem State.setWordErr_calUser (s : State) (d off m : Nat) : (State.setWordErr s d off m).calUser = s.calUser := rfl
@[simp] theorem State.setWordErr_banks (s : State) (d off m : Nat) : (State.setWordErr s d off m).banks = s.banks := rfl
@[simp] theorem State.setWordErr_skv (s : State) (d off m : Nat) : (State.setWordErr s d off m).skv = s.skv := rfl
@[simp] theorem State.setWordErr_resync (s : State) (d off m : Nat) : (State.setWordErr s d off m).resync = s.resync := rfl
@[simp] theorem State.setWordErr_rearm (s : State) (d off m : Nat) : (State.setWordErr s d off m).rearm = s.rearm := rfl
@[simp] theorem State.setWordErr_skvBack (s : State) (d off m : Nat) : (State.setWordErr s d off m).skvBack = s.skvBack := rfl
@[simp] theorem State.setWordErr_fenced (s : State) (d off m : Nat) : (State.setWordErr s d off m).fenced = s.fenced := rfl
@[simp] theorem State.setWordErr_commitQ (s : State) (d off m : Nat) : (State.setWordErr s d off m).commitQ = s.commitQ := rfl
@[simp] theorem State.setWordErr_boundLog (s : State) (d off m : Nat) : (State.setWordErr s d off m).boundLog = s.boundLog := rfl
@[simp] theorem State.setWordErr_mirrorQ (s : State) (d off m : Nat) : (State.setWordErr s d off m).mirrorQ = s.mirrorQ := rfl
@[simp] theorem State.setWordErr_frames (s : State) (d off m : Nat) : (State.setWordErr s d off m).frames = s.frames := rfl
@[simp] theorem State.setWordErr_cells (s : State) (d off m : Nat) : (State.setWordErr s d off m).cells = s.cells := rfl
@[simp] theorem State.setWordErr_owners (s : State) (d off m : Nat) : (State.setWordErr s d off m).owners = s.owners := rfl
@[simp] theorem State.setWordErr_tenCells (s : State) (d off m : Nat) : (State.setWordErr s d off m).tenCells = s.tenCells := rfl
@[simp] theorem State.setWordErr_tenDrops (s : State) (d off m : Nat) : (State.setWordErr s d off m).tenDrops = s.tenDrops := rfl
@[simp] theorem State.setWordErr_voq (s : State) (d off m : Nat) : (State.setWordErr s d off m).voq = s.voq := rfl
@[simp] theorem State.setWordErr_grantPtr (s : State) (d off m : Nat) : (State.setWordErr s d off m).grantPtr = s.grantPtr := rfl
@[simp] theorem State.setWordErr_acceptPtr (s : State) (d off m : Nat) : (State.setWordErr s d off m).acceptPtr = s.acceptPtr := rfl
@[simp] theorem State.setWordErr_outQ (s : State) (d off m : Nat) : (State.setWordErr s d off m).outQ = s.outQ := rfl
@[simp] theorem State.setWordErr_slots (s : State) (d off m : Nat) : (State.setWordErr s d off m).slots = s.slots := rfl
@[simp] theorem State.setWordErr_clq (s : State) (d off m : Nat) : (State.setWordErr s d off m).clq = s.clq := rfl
@[simp] theorem State.setWordErr_shapers (s : State) (d off m : Nat) : (State.setWordErr s d off m).shapers = s.shapers := rfl
@[simp] theorem State.setWordErr_suspects (s : State) (d off m : Nat) : (State.setWordErr s d off m).suspects = s.suspects := rfl
@[simp] theorem State.setWordErr_engs (s : State) (d off m : Nat) : (State.setWordErr s d off m).engs = s.engs := rfl
@[simp] theorem State.setWordErr_cls (s : State) (d off m : Nat) : (State.setWordErr s d off m).cls = s.cls := rfl
@[simp] theorem State.setWordErr_imem (s : State) (d off m : Nat) : (State.setWordErr s d off m).imem = s.imem := rfl
@[simp] theorem State.setWordErr_imemErr (s : State) (d off m : Nat) : (State.setWordErr s d off m).imemErr = s.imemErr := rfl
@[simp] theorem State.setWordErr_spad (s : State) (d off m : Nat) : (State.setWordErr s d off m).spad = s.spad := rfl
@[simp] theorem State.setWordErr_spadErr (s : State) (d off m : Nat) : (State.setWordErr s d off m).spadErr = s.spadErr := rfl
@[simp] theorem State.setWordErr_lace (s : State) (d off m : Nat) : (State.setWordErr s d off m).lace = s.lace := rfl
@[simp] theorem State.setWordErr_cues (s : State) (d off m : Nat) : (State.setWordErr s d off m).cues = s.cues := rfl
@[simp] theorem State.setWordErr_ethPorts (s : State) (d off m : Nat) : (State.setWordErr s d off m).ethPorts = s.ethPorts := rfl
@[simp] theorem State.setWordErr_ethPairs (s : State) (d off m : Nat) : (State.setWordErr s d off m).ethPairs = s.ethPairs := rfl
@[simp] theorem State.setWordErr_serPorts (s : State) (d off m : Nat) : (State.setWordErr s d off m).serPorts = s.serPorts := rfl
@[simp] theorem State.setWordErr_ttGroups (s : State) (d off m : Nat) : (State.setWordErr s d off m).ttGroups = s.ttGroups := rfl
@[simp] theorem State.setWordErr_host (s : State) (d off m : Nat) : (State.setWordErr s d off m).host = s.host := rfl
@[simp] theorem State.setWordErr_pwr (s : State) (d off m : Nat) : (State.setWordErr s d off m).pwr = s.pwr := rfl
@[simp] theorem State.setWordErr_rcv (s : State) (d off m : Nat) : (State.setWordErr s d off m).rcv = s.rcv := rfl
@[simp] theorem State.setWordErr_arc (s : State) (d off m : Nat) : (State.setWordErr s d off m).arc = s.arc := rfl
@[simp] theorem State.setWordErr_welt (s : State) (d off m : Nat) : (State.setWordErr s d off m).welt = s.welt := rfl
@[simp] theorem State.setWordErr_rein (s : State) (d off m : Nat) : (State.setWordErr s d off m).rein = s.rein := rfl
@[simp] theorem State.setRecDie_regs (s : State) (d : Nat) (r : RecDie) : (State.setRecDie s d r).regs = s.regs := rfl
@[simp] theorem State.setRecDie_latch (s : State) (d : Nat) (r : RecDie) : (State.setRecDie s d r).latch = s.latch := rfl
@[simp] theorem State.setRecDie_errs (s : State) (d : Nat) (r : RecDie) : (State.setRecDie s d r).errs = s.errs := rfl
@[simp] theorem State.setRecDie_pages (s : State) (d : Nat) (r : RecDie) : (State.setRecDie s d r).pages = s.pages := rfl
@[simp] theorem State.setRecDie_fresh (s : State) (d : Nat) (r : RecDie) : (State.setRecDie s d r).fresh = s.fresh := rfl
@[simp] theorem State.setRecDie_resp (s : State) (d : Nat) (r : RecDie) : (State.setRecDie s d r).resp = s.resp := rfl
@[simp] theorem State.setRecDie_har (s : State) (d : Nat) (r : RecDie) : (State.setRecDie s d r).har = s.har := rfl
@[simp] theorem State.setRecDie_servo (s : State) (d : Nat) (r : RecDie) : (State.setRecDie s d r).servo = s.servo := rfl
@[simp] theorem State.setRecDie_frac (s : State) (d : Nat) (r : RecDie) : (State.setRecDie s d r).frac = s.frac := rfl
@[simp] theorem State.setRecDie_monoFrac (s : State) (d : Nat) (r : RecDie) : (State.setRecDie s d r).monoFrac = s.monoFrac := rfl
@[simp] theorem State.setRecDie_pulses (s : State) (d : Nat) (r : RecDie) : (State.setRecDie s d r).pulses = s.pulses := rfl
@[simp] theorem State.setRecDie_clkout (s : State) (d : Nat) (r : RecDie) : (State.setRecDie s d r).clkout = s.clkout := rfl
@[simp] theorem State.setRecDie_recP (s : State) (d : Nat) (r : RecDie) : (State.setRecDie s d r).recP = s.recP := rfl
@[simp] theorem State.setRecDie_calFact (s : State) (d : Nat) (r : RecDie) : (State.setRecDie s d r).calFact = s.calFact := rfl
@[simp] theorem State.setRecDie_calUser (s : State) (d : Nat) (r : RecDie) : (State.setRecDie s d r).calUser = s.calUser := rfl
@[simp] theorem State.setRecDie_banks (s : State) (d : Nat) (r : RecDie) : (State.setRecDie s d r).banks = s.banks := rfl
@[simp] theorem State.setRecDie_skv (s : State) (d : Nat) (r : RecDie) : (State.setRecDie s d r).skv = s.skv := rfl
@[simp] theorem State.setRecDie_resync (s : State) (d : Nat) (r : RecDie) : (State.setRecDie s d r).resync = s.resync := rfl
@[simp] theorem State.setRecDie_rearm (s : State) (d : Nat) (r : RecDie) : (State.setRecDie s d r).rearm = s.rearm := rfl
@[simp] theorem State.setRecDie_skvBack (s : State) (d : Nat) (r : RecDie) : (State.setRecDie s d r).skvBack = s.skvBack := rfl
@[simp] theorem State.setRecDie_fenced (s : State) (d : Nat) (r : RecDie) : (State.setRecDie s d r).fenced = s.fenced := rfl
@[simp] theorem State.setRecDie_commitQ (s : State) (d : Nat) (r : RecDie) : (State.setRecDie s d r).commitQ = s.commitQ := rfl
@[simp] theorem State.setRecDie_boundLog (s : State) (d : Nat) (r : RecDie) : (State.setRecDie s d r).boundLog = s.boundLog := rfl
@[simp] theorem State.setRecDie_mirrorQ (s : State) (d : Nat) (r : RecDie) : (State.setRecDie s d r).mirrorQ = s.mirrorQ := rfl
@[simp] theorem State.setRecDie_frames (s : State) (d : Nat) (r : RecDie) : (State.setRecDie s d r).frames = s.frames := rfl
@[simp] theorem State.setRecDie_cells (s : State) (d : Nat) (r : RecDie) : (State.setRecDie s d r).cells = s.cells := rfl
@[simp] theorem State.setRecDie_owners (s : State) (d : Nat) (r : RecDie) : (State.setRecDie s d r).owners = s.owners := rfl
@[simp] theorem State.setRecDie_tenCells (s : State) (d : Nat) (r : RecDie) : (State.setRecDie s d r).tenCells = s.tenCells := rfl
@[simp] theorem State.setRecDie_tenDrops (s : State) (d : Nat) (r : RecDie) : (State.setRecDie s d r).tenDrops = s.tenDrops := rfl
@[simp] theorem State.setRecDie_voq (s : State) (d : Nat) (r : RecDie) : (State.setRecDie s d r).voq = s.voq := rfl
@[simp] theorem State.setRecDie_grantPtr (s : State) (d : Nat) (r : RecDie) : (State.setRecDie s d r).grantPtr = s.grantPtr := rfl
@[simp] theorem State.setRecDie_acceptPtr (s : State) (d : Nat) (r : RecDie) : (State.setRecDie s d r).acceptPtr = s.acceptPtr := rfl
@[simp] theorem State.setRecDie_outQ (s : State) (d : Nat) (r : RecDie) : (State.setRecDie s d r).outQ = s.outQ := rfl
@[simp] theorem State.setRecDie_slots (s : State) (d : Nat) (r : RecDie) : (State.setRecDie s d r).slots = s.slots := rfl
@[simp] theorem State.setRecDie_clq (s : State) (d : Nat) (r : RecDie) : (State.setRecDie s d r).clq = s.clq := rfl
@[simp] theorem State.setRecDie_shapers (s : State) (d : Nat) (r : RecDie) : (State.setRecDie s d r).shapers = s.shapers := rfl
@[simp] theorem State.setRecDie_suspects (s : State) (d : Nat) (r : RecDie) : (State.setRecDie s d r).suspects = s.suspects := rfl
@[simp] theorem State.setRecDie_engs (s : State) (d : Nat) (r : RecDie) : (State.setRecDie s d r).engs = s.engs := rfl
@[simp] theorem State.setRecDie_cls (s : State) (d : Nat) (r : RecDie) : (State.setRecDie s d r).cls = s.cls := rfl
@[simp] theorem State.setRecDie_imem (s : State) (d : Nat) (r : RecDie) : (State.setRecDie s d r).imem = s.imem := rfl
@[simp] theorem State.setRecDie_imemErr (s : State) (d : Nat) (r : RecDie) : (State.setRecDie s d r).imemErr = s.imemErr := rfl
@[simp] theorem State.setRecDie_spad (s : State) (d : Nat) (r : RecDie) : (State.setRecDie s d r).spad = s.spad := rfl
@[simp] theorem State.setRecDie_spadErr (s : State) (d : Nat) (r : RecDie) : (State.setRecDie s d r).spadErr = s.spadErr := rfl
@[simp] theorem State.setRecDie_lace (s : State) (d : Nat) (r : RecDie) : (State.setRecDie s d r).lace = s.lace := rfl
@[simp] theorem State.setRecDie_cues (s : State) (d : Nat) (r : RecDie) : (State.setRecDie s d r).cues = s.cues := rfl
@[simp] theorem State.setRecDie_ethPorts (s : State) (d : Nat) (r : RecDie) : (State.setRecDie s d r).ethPorts = s.ethPorts := rfl
@[simp] theorem State.setRecDie_ethPairs (s : State) (d : Nat) (r : RecDie) : (State.setRecDie s d r).ethPairs = s.ethPairs := rfl
@[simp] theorem State.setRecDie_serPorts (s : State) (d : Nat) (r : RecDie) : (State.setRecDie s d r).serPorts = s.serPorts := rfl
@[simp] theorem State.setRecDie_ttGroups (s : State) (d : Nat) (r : RecDie) : (State.setRecDie s d r).ttGroups = s.ttGroups := rfl
@[simp] theorem State.setRecDie_host (s : State) (d : Nat) (r : RecDie) : (State.setRecDie s d r).host = s.host := rfl
@[simp] theorem State.setRecDie_pwr (s : State) (d : Nat) (r : RecDie) : (State.setRecDie s d r).pwr = s.pwr := rfl
@[simp] theorem State.setRecDie_rcv (s : State) (d : Nat) (r : RecDie) : (State.setRecDie s d r).rcv = s.rcv := rfl
@[simp] theorem State.setRecDie_arc (s : State) (d : Nat) (r : RecDie) : (State.setRecDie s d r).arc = s.arc := rfl
@[simp] theorem State.setRecDie_welt (s : State) (d : Nat) (r : RecDie) : (State.setRecDie s d r).welt = s.welt := rfl
@[simp] theorem State.setRecDie_rein (s : State) (d : Nat) (r : RecDie) : (State.setRecDie s d r).rein = s.rein := rfl
@[simp] theorem State.setPulse_regs (s : State) (d n : Nat) (p : Pulse) : (State.setPulse s d n p).regs = s.regs := rfl
@[simp] theorem State.setPulse_latch (s : State) (d n : Nat) (p : Pulse) : (State.setPulse s d n p).latch = s.latch := rfl
@[simp] theorem State.setPulse_errs (s : State) (d n : Nat) (p : Pulse) : (State.setPulse s d n p).errs = s.errs := rfl
@[simp] theorem State.setPulse_pages (s : State) (d n : Nat) (p : Pulse) : (State.setPulse s d n p).pages = s.pages := rfl
@[simp] theorem State.setPulse_fresh (s : State) (d n : Nat) (p : Pulse) : (State.setPulse s d n p).fresh = s.fresh := rfl
@[simp] theorem State.setPulse_resp (s : State) (d n : Nat) (p : Pulse) : (State.setPulse s d n p).resp = s.resp := rfl
@[simp] theorem State.setPulse_har (s : State) (d n : Nat) (p : Pulse) : (State.setPulse s d n p).har = s.har := rfl
@[simp] theorem State.setPulse_servo (s : State) (d n : Nat) (p : Pulse) : (State.setPulse s d n p).servo = s.servo := rfl
@[simp] theorem State.setPulse_frac (s : State) (d n : Nat) (p : Pulse) : (State.setPulse s d n p).frac = s.frac := rfl
@[simp] theorem State.setPulse_monoFrac (s : State) (d n : Nat) (p : Pulse) : (State.setPulse s d n p).monoFrac = s.monoFrac := rfl
@[simp] theorem State.setPulse_clkout (s : State) (d n : Nat) (p : Pulse) : (State.setPulse s d n p).clkout = s.clkout := rfl
@[simp] theorem State.setPulse_recD (s : State) (d n : Nat) (p : Pulse) : (State.setPulse s d n p).recD = s.recD := rfl
@[simp] theorem State.setPulse_recP (s : State) (d n : Nat) (p : Pulse) : (State.setPulse s d n p).recP = s.recP := rfl
@[simp] theorem State.setPulse_calFact (s : State) (d n : Nat) (p : Pulse) : (State.setPulse s d n p).calFact = s.calFact := rfl
@[simp] theorem State.setPulse_calUser (s : State) (d n : Nat) (p : Pulse) : (State.setPulse s d n p).calUser = s.calUser := rfl
@[simp] theorem State.setPulse_banks (s : State) (d n : Nat) (p : Pulse) : (State.setPulse s d n p).banks = s.banks := rfl
@[simp] theorem State.setPulse_skv (s : State) (d n : Nat) (p : Pulse) : (State.setPulse s d n p).skv = s.skv := rfl
@[simp] theorem State.setPulse_resync (s : State) (d n : Nat) (p : Pulse) : (State.setPulse s d n p).resync = s.resync := rfl
@[simp] theorem State.setPulse_rearm (s : State) (d n : Nat) (p : Pulse) : (State.setPulse s d n p).rearm = s.rearm := rfl
@[simp] theorem State.setPulse_skvBack (s : State) (d n : Nat) (p : Pulse) : (State.setPulse s d n p).skvBack = s.skvBack := rfl
@[simp] theorem State.setPulse_fenced (s : State) (d n : Nat) (p : Pulse) : (State.setPulse s d n p).fenced = s.fenced := rfl
@[simp] theorem State.setPulse_commitQ (s : State) (d n : Nat) (p : Pulse) : (State.setPulse s d n p).commitQ = s.commitQ := rfl
@[simp] theorem State.setPulse_boundLog (s : State) (d n : Nat) (p : Pulse) : (State.setPulse s d n p).boundLog = s.boundLog := rfl
@[simp] theorem State.setPulse_mirrorQ (s : State) (d n : Nat) (p : Pulse) : (State.setPulse s d n p).mirrorQ = s.mirrorQ := rfl
@[simp] theorem State.setPulse_frames (s : State) (d n : Nat) (p : Pulse) : (State.setPulse s d n p).frames = s.frames := rfl
@[simp] theorem State.setPulse_cells (s : State) (d n : Nat) (p : Pulse) : (State.setPulse s d n p).cells = s.cells := rfl
@[simp] theorem State.setPulse_owners (s : State) (d n : Nat) (p : Pulse) : (State.setPulse s d n p).owners = s.owners := rfl
@[simp] theorem State.setPulse_tenCells (s : State) (d n : Nat) (p : Pulse) : (State.setPulse s d n p).tenCells = s.tenCells := rfl
@[simp] theorem State.setPulse_tenDrops (s : State) (d n : Nat) (p : Pulse) : (State.setPulse s d n p).tenDrops = s.tenDrops := rfl
@[simp] theorem State.setPulse_voq (s : State) (d n : Nat) (p : Pulse) : (State.setPulse s d n p).voq = s.voq := rfl
@[simp] theorem State.setPulse_grantPtr (s : State) (d n : Nat) (p : Pulse) : (State.setPulse s d n p).grantPtr = s.grantPtr := rfl
@[simp] theorem State.setPulse_acceptPtr (s : State) (d n : Nat) (p : Pulse) : (State.setPulse s d n p).acceptPtr = s.acceptPtr := rfl
@[simp] theorem State.setPulse_outQ (s : State) (d n : Nat) (p : Pulse) : (State.setPulse s d n p).outQ = s.outQ := rfl
@[simp] theorem State.setPulse_slots (s : State) (d n : Nat) (p : Pulse) : (State.setPulse s d n p).slots = s.slots := rfl
@[simp] theorem State.setPulse_clq (s : State) (d n : Nat) (p : Pulse) : (State.setPulse s d n p).clq = s.clq := rfl
@[simp] theorem State.setPulse_shapers (s : State) (d n : Nat) (p : Pulse) : (State.setPulse s d n p).shapers = s.shapers := rfl
@[simp] theorem State.setPulse_suspects (s : State) (d n : Nat) (p : Pulse) : (State.setPulse s d n p).suspects = s.suspects := rfl
@[simp] theorem State.setPulse_engs (s : State) (d n : Nat) (p : Pulse) : (State.setPulse s d n p).engs = s.engs := rfl
@[simp] theorem State.setPulse_cls (s : State) (d n : Nat) (p : Pulse) : (State.setPulse s d n p).cls = s.cls := rfl
@[simp] theorem State.setPulse_imem (s : State) (d n : Nat) (p : Pulse) : (State.setPulse s d n p).imem = s.imem := rfl
@[simp] theorem State.setPulse_imemErr (s : State) (d n : Nat) (p : Pulse) : (State.setPulse s d n p).imemErr = s.imemErr := rfl
@[simp] theorem State.setPulse_spad (s : State) (d n : Nat) (p : Pulse) : (State.setPulse s d n p).spad = s.spad := rfl
@[simp] theorem State.setPulse_spadErr (s : State) (d n : Nat) (p : Pulse) : (State.setPulse s d n p).spadErr = s.spadErr := rfl
@[simp] theorem State.setPulse_lace (s : State) (d n : Nat) (p : Pulse) : (State.setPulse s d n p).lace = s.lace := rfl
@[simp] theorem State.setPulse_cues (s : State) (d n : Nat) (p : Pulse) : (State.setPulse s d n p).cues = s.cues := rfl
@[simp] theorem State.setPulse_ethPorts (s : State) (d n : Nat) (p : Pulse) : (State.setPulse s d n p).ethPorts = s.ethPorts := rfl
@[simp] theorem State.setPulse_ethPairs (s : State) (d n : Nat) (p : Pulse) : (State.setPulse s d n p).ethPairs = s.ethPairs := rfl
@[simp] theorem State.setPulse_serPorts (s : State) (d n : Nat) (p : Pulse) : (State.setPulse s d n p).serPorts = s.serPorts := rfl
@[simp] theorem State.setPulse_ttGroups (s : State) (d n : Nat) (p : Pulse) : (State.setPulse s d n p).ttGroups = s.ttGroups := rfl
@[simp] theorem State.setPulse_host (s : State) (d n : Nat) (p : Pulse) : (State.setPulse s d n p).host = s.host := rfl
@[simp] theorem State.setPulse_pwr (s : State) (d n : Nat) (p : Pulse) : (State.setPulse s d n p).pwr = s.pwr := rfl
@[simp] theorem State.setPulse_rcv (s : State) (d n : Nat) (p : Pulse) : (State.setPulse s d n p).rcv = s.rcv := rfl
@[simp] theorem State.setPulse_arc (s : State) (d n : Nat) (p : Pulse) : (State.setPulse s d n p).arc = s.arc := rfl
@[simp] theorem State.setPulse_welt (s : State) (d n : Nat) (p : Pulse) : (State.setPulse s d n p).welt = s.welt := rfl
@[simp] theorem State.setPulse_rein (s : State) (d n : Nat) (p : Pulse) : (State.setPulse s d n p).rein = s.rein := rfl
@[simp] theorem State.modPwr_regs (s : State) (f : Pwr → Pwr) : (State.modPwr s f).regs = s.regs := rfl
@[simp] theorem State.modPwr_latch (s : State) (f : Pwr → Pwr) : (State.modPwr s f).latch = s.latch := rfl
@[simp] theorem State.modPwr_errs (s : State) (f : Pwr → Pwr) : (State.modPwr s f).errs = s.errs := rfl
@[simp] theorem State.modPwr_pages (s : State) (f : Pwr → Pwr) : (State.modPwr s f).pages = s.pages := rfl
@[simp] theorem State.modPwr_fresh (s : State) (f : Pwr → Pwr) : (State.modPwr s f).fresh = s.fresh := rfl
@[simp] theorem State.modPwr_resp (s : State) (f : Pwr → Pwr) : (State.modPwr s f).resp = s.resp := rfl
@[simp] theorem State.modPwr_har (s : State) (f : Pwr → Pwr) : (State.modPwr s f).har = s.har := rfl
@[simp] theorem State.modPwr_servo (s : State) (f : Pwr → Pwr) : (State.modPwr s f).servo = s.servo := rfl
@[simp] theorem State.modPwr_frac (s : State) (f : Pwr → Pwr) : (State.modPwr s f).frac = s.frac := rfl
@[simp] theorem State.modPwr_monoFrac (s : State) (f : Pwr → Pwr) : (State.modPwr s f).monoFrac = s.monoFrac := rfl
@[simp] theorem State.modPwr_pulses (s : State) (f : Pwr → Pwr) : (State.modPwr s f).pulses = s.pulses := rfl
@[simp] theorem State.modPwr_clkout (s : State) (f : Pwr → Pwr) : (State.modPwr s f).clkout = s.clkout := rfl
@[simp] theorem State.modPwr_recD (s : State) (f : Pwr → Pwr) : (State.modPwr s f).recD = s.recD := rfl
@[simp] theorem State.modPwr_recP (s : State) (f : Pwr → Pwr) : (State.modPwr s f).recP = s.recP := rfl
@[simp] theorem State.modPwr_calFact (s : State) (f : Pwr → Pwr) : (State.modPwr s f).calFact = s.calFact := rfl
@[simp] theorem State.modPwr_calUser (s : State) (f : Pwr → Pwr) : (State.modPwr s f).calUser = s.calUser := rfl
@[simp] theorem State.modPwr_banks (s : State) (f : Pwr → Pwr) : (State.modPwr s f).banks = s.banks := rfl
@[simp] theorem State.modPwr_skv (s : State) (f : Pwr → Pwr) : (State.modPwr s f).skv = s.skv := rfl
@[simp] theorem State.modPwr_resync (s : State) (f : Pwr → Pwr) : (State.modPwr s f).resync = s.resync := rfl
@[simp] theorem State.modPwr_rearm (s : State) (f : Pwr → Pwr) : (State.modPwr s f).rearm = s.rearm := rfl
@[simp] theorem State.modPwr_skvBack (s : State) (f : Pwr → Pwr) : (State.modPwr s f).skvBack = s.skvBack := rfl
@[simp] theorem State.modPwr_fenced (s : State) (f : Pwr → Pwr) : (State.modPwr s f).fenced = s.fenced := rfl
@[simp] theorem State.modPwr_commitQ (s : State) (f : Pwr → Pwr) : (State.modPwr s f).commitQ = s.commitQ := rfl
@[simp] theorem State.modPwr_boundLog (s : State) (f : Pwr → Pwr) : (State.modPwr s f).boundLog = s.boundLog := rfl
@[simp] theorem State.modPwr_mirrorQ (s : State) (f : Pwr → Pwr) : (State.modPwr s f).mirrorQ = s.mirrorQ := rfl
@[simp] theorem State.modPwr_frames (s : State) (f : Pwr → Pwr) : (State.modPwr s f).frames = s.frames := rfl
@[simp] theorem State.modPwr_cells (s : State) (f : Pwr → Pwr) : (State.modPwr s f).cells = s.cells := rfl
@[simp] theorem State.modPwr_owners (s : State) (f : Pwr → Pwr) : (State.modPwr s f).owners = s.owners := rfl
@[simp] theorem State.modPwr_tenCells (s : State) (f : Pwr → Pwr) : (State.modPwr s f).tenCells = s.tenCells := rfl
@[simp] theorem State.modPwr_tenDrops (s : State) (f : Pwr → Pwr) : (State.modPwr s f).tenDrops = s.tenDrops := rfl
@[simp] theorem State.modPwr_voq (s : State) (f : Pwr → Pwr) : (State.modPwr s f).voq = s.voq := rfl
@[simp] theorem State.modPwr_grantPtr (s : State) (f : Pwr → Pwr) : (State.modPwr s f).grantPtr = s.grantPtr := rfl
@[simp] theorem State.modPwr_acceptPtr (s : State) (f : Pwr → Pwr) : (State.modPwr s f).acceptPtr = s.acceptPtr := rfl
@[simp] theorem State.modPwr_outQ (s : State) (f : Pwr → Pwr) : (State.modPwr s f).outQ = s.outQ := rfl
@[simp] theorem State.modPwr_slots (s : State) (f : Pwr → Pwr) : (State.modPwr s f).slots = s.slots := rfl
@[simp] theorem State.modPwr_clq (s : State) (f : Pwr → Pwr) : (State.modPwr s f).clq = s.clq := rfl
@[simp] theorem State.modPwr_shapers (s : State) (f : Pwr → Pwr) : (State.modPwr s f).shapers = s.shapers := rfl
@[simp] theorem State.modPwr_suspects (s : State) (f : Pwr → Pwr) : (State.modPwr s f).suspects = s.suspects := rfl
@[simp] theorem State.modPwr_engs (s : State) (f : Pwr → Pwr) : (State.modPwr s f).engs = s.engs := rfl
@[simp] theorem State.modPwr_cls (s : State) (f : Pwr → Pwr) : (State.modPwr s f).cls = s.cls := rfl
@[simp] theorem State.modPwr_imem (s : State) (f : Pwr → Pwr) : (State.modPwr s f).imem = s.imem := rfl
@[simp] theorem State.modPwr_imemErr (s : State) (f : Pwr → Pwr) : (State.modPwr s f).imemErr = s.imemErr := rfl
@[simp] theorem State.modPwr_spad (s : State) (f : Pwr → Pwr) : (State.modPwr s f).spad = s.spad := rfl
@[simp] theorem State.modPwr_spadErr (s : State) (f : Pwr → Pwr) : (State.modPwr s f).spadErr = s.spadErr := rfl
@[simp] theorem State.modPwr_lace (s : State) (f : Pwr → Pwr) : (State.modPwr s f).lace = s.lace := rfl
@[simp] theorem State.modPwr_cues (s : State) (f : Pwr → Pwr) : (State.modPwr s f).cues = s.cues := rfl
@[simp] theorem State.modPwr_ethPorts (s : State) (f : Pwr → Pwr) : (State.modPwr s f).ethPorts = s.ethPorts := rfl
@[simp] theorem State.modPwr_ethPairs (s : State) (f : Pwr → Pwr) : (State.modPwr s f).ethPairs = s.ethPairs := rfl
@[simp] theorem State.modPwr_serPorts (s : State) (f : Pwr → Pwr) : (State.modPwr s f).serPorts = s.serPorts := rfl
@[simp] theorem State.modPwr_ttGroups (s : State) (f : Pwr → Pwr) : (State.modPwr s f).ttGroups = s.ttGroups := rfl
@[simp] theorem State.modPwr_host (s : State) (f : Pwr → Pwr) : (State.modPwr s f).host = s.host := rfl
@[simp] theorem State.modPwr_rcv (s : State) (f : Pwr → Pwr) : (State.modPwr s f).rcv = s.rcv := rfl
@[simp] theorem State.modPwr_arc (s : State) (f : Pwr → Pwr) : (State.modPwr s f).arc = s.arc := rfl
@[simp] theorem State.modPwr_welt (s : State) (f : Pwr → Pwr) : (State.modPwr s f).welt = s.welt := rfl
@[simp] theorem State.modPwr_rein (s : State) (f : Pwr → Pwr) : (State.modPwr s f).rein = s.rein := rfl
@[simp] theorem State.modRcv_regs (s : State) (f : Rcv → Rcv) : (State.modRcv s f).regs = s.regs := rfl
@[simp] theorem State.modRcv_latch (s : State) (f : Rcv → Rcv) : (State.modRcv s f).latch = s.latch := rfl
@[simp] theorem State.modRcv_errs (s : State) (f : Rcv → Rcv) : (State.modRcv s f).errs = s.errs := rfl
@[simp] theorem State.modRcv_pages (s : State) (f : Rcv → Rcv) : (State.modRcv s f).pages = s.pages := rfl
@[simp] theorem State.modRcv_fresh (s : State) (f : Rcv → Rcv) : (State.modRcv s f).fresh = s.fresh := rfl
@[simp] theorem State.modRcv_resp (s : State) (f : Rcv → Rcv) : (State.modRcv s f).resp = s.resp := rfl
@[simp] theorem State.modRcv_har (s : State) (f : Rcv → Rcv) : (State.modRcv s f).har = s.har := rfl
@[simp] theorem State.modRcv_servo (s : State) (f : Rcv → Rcv) : (State.modRcv s f).servo = s.servo := rfl
@[simp] theorem State.modRcv_frac (s : State) (f : Rcv → Rcv) : (State.modRcv s f).frac = s.frac := rfl
@[simp] theorem State.modRcv_monoFrac (s : State) (f : Rcv → Rcv) : (State.modRcv s f).monoFrac = s.monoFrac := rfl
@[simp] theorem State.modRcv_pulses (s : State) (f : Rcv → Rcv) : (State.modRcv s f).pulses = s.pulses := rfl
@[simp] theorem State.modRcv_clkout (s : State) (f : Rcv → Rcv) : (State.modRcv s f).clkout = s.clkout := rfl
@[simp] theorem State.modRcv_recD (s : State) (f : Rcv → Rcv) : (State.modRcv s f).recD = s.recD := rfl
@[simp] theorem State.modRcv_recP (s : State) (f : Rcv → Rcv) : (State.modRcv s f).recP = s.recP := rfl
@[simp] theorem State.modRcv_calFact (s : State) (f : Rcv → Rcv) : (State.modRcv s f).calFact = s.calFact := rfl
@[simp] theorem State.modRcv_calUser (s : State) (f : Rcv → Rcv) : (State.modRcv s f).calUser = s.calUser := rfl
@[simp] theorem State.modRcv_banks (s : State) (f : Rcv → Rcv) : (State.modRcv s f).banks = s.banks := rfl
@[simp] theorem State.modRcv_skv (s : State) (f : Rcv → Rcv) : (State.modRcv s f).skv = s.skv := rfl
@[simp] theorem State.modRcv_resync (s : State) (f : Rcv → Rcv) : (State.modRcv s f).resync = s.resync := rfl
@[simp] theorem State.modRcv_rearm (s : State) (f : Rcv → Rcv) : (State.modRcv s f).rearm = s.rearm := rfl
@[simp] theorem State.modRcv_skvBack (s : State) (f : Rcv → Rcv) : (State.modRcv s f).skvBack = s.skvBack := rfl
@[simp] theorem State.modRcv_fenced (s : State) (f : Rcv → Rcv) : (State.modRcv s f).fenced = s.fenced := rfl
@[simp] theorem State.modRcv_commitQ (s : State) (f : Rcv → Rcv) : (State.modRcv s f).commitQ = s.commitQ := rfl
@[simp] theorem State.modRcv_boundLog (s : State) (f : Rcv → Rcv) : (State.modRcv s f).boundLog = s.boundLog := rfl
@[simp] theorem State.modRcv_mirrorQ (s : State) (f : Rcv → Rcv) : (State.modRcv s f).mirrorQ = s.mirrorQ := rfl
@[simp] theorem State.modRcv_frames (s : State) (f : Rcv → Rcv) : (State.modRcv s f).frames = s.frames := rfl
@[simp] theorem State.modRcv_cells (s : State) (f : Rcv → Rcv) : (State.modRcv s f).cells = s.cells := rfl
@[simp] theorem State.modRcv_owners (s : State) (f : Rcv → Rcv) : (State.modRcv s f).owners = s.owners := rfl
@[simp] theorem State.modRcv_tenCells (s : State) (f : Rcv → Rcv) : (State.modRcv s f).tenCells = s.tenCells := rfl
@[simp] theorem State.modRcv_tenDrops (s : State) (f : Rcv → Rcv) : (State.modRcv s f).tenDrops = s.tenDrops := rfl
@[simp] theorem State.modRcv_voq (s : State) (f : Rcv → Rcv) : (State.modRcv s f).voq = s.voq := rfl
@[simp] theorem State.modRcv_grantPtr (s : State) (f : Rcv → Rcv) : (State.modRcv s f).grantPtr = s.grantPtr := rfl
@[simp] theorem State.modRcv_acceptPtr (s : State) (f : Rcv → Rcv) : (State.modRcv s f).acceptPtr = s.acceptPtr := rfl
@[simp] theorem State.modRcv_outQ (s : State) (f : Rcv → Rcv) : (State.modRcv s f).outQ = s.outQ := rfl
@[simp] theorem State.modRcv_slots (s : State) (f : Rcv → Rcv) : (State.modRcv s f).slots = s.slots := rfl
@[simp] theorem State.modRcv_clq (s : State) (f : Rcv → Rcv) : (State.modRcv s f).clq = s.clq := rfl
@[simp] theorem State.modRcv_shapers (s : State) (f : Rcv → Rcv) : (State.modRcv s f).shapers = s.shapers := rfl
@[simp] theorem State.modRcv_suspects (s : State) (f : Rcv → Rcv) : (State.modRcv s f).suspects = s.suspects := rfl
@[simp] theorem State.modRcv_engs (s : State) (f : Rcv → Rcv) : (State.modRcv s f).engs = s.engs := rfl
@[simp] theorem State.modRcv_cls (s : State) (f : Rcv → Rcv) : (State.modRcv s f).cls = s.cls := rfl
@[simp] theorem State.modRcv_imem (s : State) (f : Rcv → Rcv) : (State.modRcv s f).imem = s.imem := rfl
@[simp] theorem State.modRcv_imemErr (s : State) (f : Rcv → Rcv) : (State.modRcv s f).imemErr = s.imemErr := rfl
@[simp] theorem State.modRcv_spad (s : State) (f : Rcv → Rcv) : (State.modRcv s f).spad = s.spad := rfl
@[simp] theorem State.modRcv_spadErr (s : State) (f : Rcv → Rcv) : (State.modRcv s f).spadErr = s.spadErr := rfl
@[simp] theorem State.modRcv_lace (s : State) (f : Rcv → Rcv) : (State.modRcv s f).lace = s.lace := rfl
@[simp] theorem State.modRcv_cues (s : State) (f : Rcv → Rcv) : (State.modRcv s f).cues = s.cues := rfl
@[simp] theorem State.modRcv_ethPorts (s : State) (f : Rcv → Rcv) : (State.modRcv s f).ethPorts = s.ethPorts := rfl
@[simp] theorem State.modRcv_ethPairs (s : State) (f : Rcv → Rcv) : (State.modRcv s f).ethPairs = s.ethPairs := rfl
@[simp] theorem State.modRcv_serPorts (s : State) (f : Rcv → Rcv) : (State.modRcv s f).serPorts = s.serPorts := rfl
@[simp] theorem State.modRcv_ttGroups (s : State) (f : Rcv → Rcv) : (State.modRcv s f).ttGroups = s.ttGroups := rfl
@[simp] theorem State.modRcv_host (s : State) (f : Rcv → Rcv) : (State.modRcv s f).host = s.host := rfl
@[simp] theorem State.modRcv_pwr (s : State) (f : Rcv → Rcv) : (State.modRcv s f).pwr = s.pwr := rfl
@[simp] theorem State.modRcv_arc (s : State) (f : Rcv → Rcv) : (State.modRcv s f).arc = s.arc := rfl
@[simp] theorem State.modRcv_welt (s : State) (f : Rcv → Rcv) : (State.modRcv s f).welt = s.welt := rfl
@[simp] theorem State.modRcv_rein (s : State) (f : Rcv → Rcv) : (State.modRcv s f).rein = s.rein := rfl
@[simp] theorem State.modHar_regs (s : State) (f : Har → Har) : (State.modHar s f).regs = s.regs := rfl
@[simp] theorem State.modHar_latch (s : State) (f : Har → Har) : (State.modHar s f).latch = s.latch := rfl
@[simp] theorem State.modHar_errs (s : State) (f : Har → Har) : (State.modHar s f).errs = s.errs := rfl
@[simp] theorem State.modHar_pages (s : State) (f : Har → Har) : (State.modHar s f).pages = s.pages := rfl
@[simp] theorem State.modHar_fresh (s : State) (f : Har → Har) : (State.modHar s f).fresh = s.fresh := rfl
@[simp] theorem State.modHar_resp (s : State) (f : Har → Har) : (State.modHar s f).resp = s.resp := rfl
@[simp] theorem State.modHar_servo (s : State) (f : Har → Har) : (State.modHar s f).servo = s.servo := rfl
@[simp] theorem State.modHar_frac (s : State) (f : Har → Har) : (State.modHar s f).frac = s.frac := rfl
@[simp] theorem State.modHar_monoFrac (s : State) (f : Har → Har) : (State.modHar s f).monoFrac = s.monoFrac := rfl
@[simp] theorem State.modHar_pulses (s : State) (f : Har → Har) : (State.modHar s f).pulses = s.pulses := rfl
@[simp] theorem State.modHar_clkout (s : State) (f : Har → Har) : (State.modHar s f).clkout = s.clkout := rfl
@[simp] theorem State.modHar_recD (s : State) (f : Har → Har) : (State.modHar s f).recD = s.recD := rfl
@[simp] theorem State.modHar_recP (s : State) (f : Har → Har) : (State.modHar s f).recP = s.recP := rfl
@[simp] theorem State.modHar_calFact (s : State) (f : Har → Har) : (State.modHar s f).calFact = s.calFact := rfl
@[simp] theorem State.modHar_calUser (s : State) (f : Har → Har) : (State.modHar s f).calUser = s.calUser := rfl
@[simp] theorem State.modHar_banks (s : State) (f : Har → Har) : (State.modHar s f).banks = s.banks := rfl
@[simp] theorem State.modHar_skv (s : State) (f : Har → Har) : (State.modHar s f).skv = s.skv := rfl
@[simp] theorem State.modHar_resync (s : State) (f : Har → Har) : (State.modHar s f).resync = s.resync := rfl
@[simp] theorem State.modHar_rearm (s : State) (f : Har → Har) : (State.modHar s f).rearm = s.rearm := rfl
@[simp] theorem State.modHar_skvBack (s : State) (f : Har → Har) : (State.modHar s f).skvBack = s.skvBack := rfl
@[simp] theorem State.modHar_fenced (s : State) (f : Har → Har) : (State.modHar s f).fenced = s.fenced := rfl
@[simp] theorem State.modHar_commitQ (s : State) (f : Har → Har) : (State.modHar s f).commitQ = s.commitQ := rfl
@[simp] theorem State.modHar_boundLog (s : State) (f : Har → Har) : (State.modHar s f).boundLog = s.boundLog := rfl
@[simp] theorem State.modHar_mirrorQ (s : State) (f : Har → Har) : (State.modHar s f).mirrorQ = s.mirrorQ := rfl
@[simp] theorem State.modHar_frames (s : State) (f : Har → Har) : (State.modHar s f).frames = s.frames := rfl
@[simp] theorem State.modHar_cells (s : State) (f : Har → Har) : (State.modHar s f).cells = s.cells := rfl
@[simp] theorem State.modHar_owners (s : State) (f : Har → Har) : (State.modHar s f).owners = s.owners := rfl
@[simp] theorem State.modHar_tenCells (s : State) (f : Har → Har) : (State.modHar s f).tenCells = s.tenCells := rfl
@[simp] theorem State.modHar_tenDrops (s : State) (f : Har → Har) : (State.modHar s f).tenDrops = s.tenDrops := rfl
@[simp] theorem State.modHar_voq (s : State) (f : Har → Har) : (State.modHar s f).voq = s.voq := rfl
@[simp] theorem State.modHar_grantPtr (s : State) (f : Har → Har) : (State.modHar s f).grantPtr = s.grantPtr := rfl
@[simp] theorem State.modHar_acceptPtr (s : State) (f : Har → Har) : (State.modHar s f).acceptPtr = s.acceptPtr := rfl
@[simp] theorem State.modHar_outQ (s : State) (f : Har → Har) : (State.modHar s f).outQ = s.outQ := rfl
@[simp] theorem State.modHar_slots (s : State) (f : Har → Har) : (State.modHar s f).slots = s.slots := rfl
@[simp] theorem State.modHar_clq (s : State) (f : Har → Har) : (State.modHar s f).clq = s.clq := rfl
@[simp] theorem State.modHar_shapers (s : State) (f : Har → Har) : (State.modHar s f).shapers = s.shapers := rfl
@[simp] theorem State.modHar_suspects (s : State) (f : Har → Har) : (State.modHar s f).suspects = s.suspects := rfl
@[simp] theorem State.modHar_engs (s : State) (f : Har → Har) : (State.modHar s f).engs = s.engs := rfl
@[simp] theorem State.modHar_cls (s : State) (f : Har → Har) : (State.modHar s f).cls = s.cls := rfl
@[simp] theorem State.modHar_imem (s : State) (f : Har → Har) : (State.modHar s f).imem = s.imem := rfl
@[simp] theorem State.modHar_imemErr (s : State) (f : Har → Har) : (State.modHar s f).imemErr = s.imemErr := rfl
@[simp] theorem State.modHar_spad (s : State) (f : Har → Har) : (State.modHar s f).spad = s.spad := rfl
@[simp] theorem State.modHar_spadErr (s : State) (f : Har → Har) : (State.modHar s f).spadErr = s.spadErr := rfl
@[simp] theorem State.modHar_lace (s : State) (f : Har → Har) : (State.modHar s f).lace = s.lace := rfl
@[simp] theorem State.modHar_cues (s : State) (f : Har → Har) : (State.modHar s f).cues = s.cues := rfl
@[simp] theorem State.modHar_ethPorts (s : State) (f : Har → Har) : (State.modHar s f).ethPorts = s.ethPorts := rfl
@[simp] theorem State.modHar_ethPairs (s : State) (f : Har → Har) : (State.modHar s f).ethPairs = s.ethPairs := rfl
@[simp] theorem State.modHar_serPorts (s : State) (f : Har → Har) : (State.modHar s f).serPorts = s.serPorts := rfl
@[simp] theorem State.modHar_ttGroups (s : State) (f : Har → Har) : (State.modHar s f).ttGroups = s.ttGroups := rfl
@[simp] theorem State.modHar_host (s : State) (f : Har → Har) : (State.modHar s f).host = s.host := rfl
@[simp] theorem State.modHar_pwr (s : State) (f : Har → Har) : (State.modHar s f).pwr = s.pwr := rfl
@[simp] theorem State.modHar_rcv (s : State) (f : Har → Har) : (State.modHar s f).rcv = s.rcv := rfl
@[simp] theorem State.modHar_arc (s : State) (f : Har → Har) : (State.modHar s f).arc = s.arc := rfl
@[simp] theorem State.modHar_welt (s : State) (f : Har → Har) : (State.modHar s f).welt = s.welt := rfl
@[simp] theorem State.modHar_rein (s : State) (f : Har → Har) : (State.modHar s f).rein = s.rein := rfl
@[simp] theorem State.setRein_regs (s : State) (r : ReinSt) : (State.setRein s r).regs = s.regs := rfl
@[simp] theorem State.setRein_latch (s : State) (r : ReinSt) : (State.setRein s r).latch = s.latch := rfl
@[simp] theorem State.setRein_errs (s : State) (r : ReinSt) : (State.setRein s r).errs = s.errs := rfl
@[simp] theorem State.setRein_pages (s : State) (r : ReinSt) : (State.setRein s r).pages = s.pages := rfl
@[simp] theorem State.setRein_fresh (s : State) (r : ReinSt) : (State.setRein s r).fresh = s.fresh := rfl
@[simp] theorem State.setRein_resp (s : State) (r : ReinSt) : (State.setRein s r).resp = s.resp := rfl
@[simp] theorem State.setRein_har (s : State) (r : ReinSt) : (State.setRein s r).har = s.har := rfl
@[simp] theorem State.setRein_servo (s : State) (r : ReinSt) : (State.setRein s r).servo = s.servo := rfl
@[simp] theorem State.setRein_frac (s : State) (r : ReinSt) : (State.setRein s r).frac = s.frac := rfl
@[simp] theorem State.setRein_monoFrac (s : State) (r : ReinSt) : (State.setRein s r).monoFrac = s.monoFrac := rfl
@[simp] theorem State.setRein_pulses (s : State) (r : ReinSt) : (State.setRein s r).pulses = s.pulses := rfl
@[simp] theorem State.setRein_clkout (s : State) (r : ReinSt) : (State.setRein s r).clkout = s.clkout := rfl
@[simp] theorem State.setRein_recD (s : State) (r : ReinSt) : (State.setRein s r).recD = s.recD := rfl
@[simp] theorem State.setRein_recP (s : State) (r : ReinSt) : (State.setRein s r).recP = s.recP := rfl
@[simp] theorem State.setRein_calFact (s : State) (r : ReinSt) : (State.setRein s r).calFact = s.calFact := rfl
@[simp] theorem State.setRein_calUser (s : State) (r : ReinSt) : (State.setRein s r).calUser = s.calUser := rfl
@[simp] theorem State.setRein_banks (s : State) (r : ReinSt) : (State.setRein s r).banks = s.banks := rfl
@[simp] theorem State.setRein_skv (s : State) (r : ReinSt) : (State.setRein s r).skv = s.skv := rfl
@[simp] theorem State.setRein_resync (s : State) (r : ReinSt) : (State.setRein s r).resync = s.resync := rfl
@[simp] theorem State.setRein_rearm (s : State) (r : ReinSt) : (State.setRein s r).rearm = s.rearm := rfl
@[simp] theorem State.setRein_skvBack (s : State) (r : ReinSt) : (State.setRein s r).skvBack = s.skvBack := rfl
@[simp] theorem State.setRein_fenced (s : State) (r : ReinSt) : (State.setRein s r).fenced = s.fenced := rfl
@[simp] theorem State.setRein_commitQ (s : State) (r : ReinSt) : (State.setRein s r).commitQ = s.commitQ := rfl
@[simp] theorem State.setRein_boundLog (s : State) (r : ReinSt) : (State.setRein s r).boundLog = s.boundLog := rfl
@[simp] theorem State.setRein_mirrorQ (s : State) (r : ReinSt) : (State.setRein s r).mirrorQ = s.mirrorQ := rfl
@[simp] theorem State.setRein_frames (s : State) (r : ReinSt) : (State.setRein s r).frames = s.frames := rfl
@[simp] theorem State.setRein_cells (s : State) (r : ReinSt) : (State.setRein s r).cells = s.cells := rfl
@[simp] theorem State.setRein_owners (s : State) (r : ReinSt) : (State.setRein s r).owners = s.owners := rfl
@[simp] theorem State.setRein_tenCells (s : State) (r : ReinSt) : (State.setRein s r).tenCells = s.tenCells := rfl
@[simp] theorem State.setRein_tenDrops (s : State) (r : ReinSt) : (State.setRein s r).tenDrops = s.tenDrops := rfl
@[simp] theorem State.setRein_voq (s : State) (r : ReinSt) : (State.setRein s r).voq = s.voq := rfl
@[simp] theorem State.setRein_grantPtr (s : State) (r : ReinSt) : (State.setRein s r).grantPtr = s.grantPtr := rfl
@[simp] theorem State.setRein_acceptPtr (s : State) (r : ReinSt) : (State.setRein s r).acceptPtr = s.acceptPtr := rfl
@[simp] theorem State.setRein_outQ (s : State) (r : ReinSt) : (State.setRein s r).outQ = s.outQ := rfl
@[simp] theorem State.setRein_slots (s : State) (r : ReinSt) : (State.setRein s r).slots = s.slots := rfl
@[simp] theorem State.setRein_clq (s : State) (r : ReinSt) : (State.setRein s r).clq = s.clq := rfl
@[simp] theorem State.setRein_shapers (s : State) (r : ReinSt) : (State.setRein s r).shapers = s.shapers := rfl
@[simp] theorem State.setRein_suspects (s : State) (r : ReinSt) : (State.setRein s r).suspects = s.suspects := rfl
@[simp] theorem State.setRein_engs (s : State) (r : ReinSt) : (State.setRein s r).engs = s.engs := rfl
@[simp] theorem State.setRein_cls (s : State) (r : ReinSt) : (State.setRein s r).cls = s.cls := rfl
@[simp] theorem State.setRein_imem (s : State) (r : ReinSt) : (State.setRein s r).imem = s.imem := rfl
@[simp] theorem State.setRein_imemErr (s : State) (r : ReinSt) : (State.setRein s r).imemErr = s.imemErr := rfl
@[simp] theorem State.setRein_spad (s : State) (r : ReinSt) : (State.setRein s r).spad = s.spad := rfl
@[simp] theorem State.setRein_spadErr (s : State) (r : ReinSt) : (State.setRein s r).spadErr = s.spadErr := rfl
@[simp] theorem State.setRein_lace (s : State) (r : ReinSt) : (State.setRein s r).lace = s.lace := rfl
@[simp] theorem State.setRein_cues (s : State) (r : ReinSt) : (State.setRein s r).cues = s.cues := rfl
@[simp] theorem State.setRein_ethPorts (s : State) (r : ReinSt) : (State.setRein s r).ethPorts = s.ethPorts := rfl
@[simp] theorem State.setRein_ethPairs (s : State) (r : ReinSt) : (State.setRein s r).ethPairs = s.ethPairs := rfl
@[simp] theorem State.setRein_serPorts (s : State) (r : ReinSt) : (State.setRein s r).serPorts = s.serPorts := rfl
@[simp] theorem State.setRein_ttGroups (s : State) (r : ReinSt) : (State.setRein s r).ttGroups = s.ttGroups := rfl
@[simp] theorem State.setRein_host (s : State) (r : ReinSt) : (State.setRein s r).host = s.host := rfl
@[simp] theorem State.setRein_pwr (s : State) (r : ReinSt) : (State.setRein s r).pwr = s.pwr := rfl
@[simp] theorem State.setRein_rcv (s : State) (r : ReinSt) : (State.setRein s r).rcv = s.rcv := rfl
@[simp] theorem State.setRein_arc (s : State) (r : ReinSt) : (State.setRein s r).arc = s.arc := rfl
@[simp] theorem State.setRein_welt (s : State) (r : ReinSt) : (State.setRein s r).welt = s.welt := rfl
@[simp] theorem State.setWelt_regs (s : State) (d k : Nat) (e : WeltEnd) : (State.setWelt s d k e).regs = s.regs := rfl
@[simp] theorem State.setWelt_latch (s : State) (d k : Nat) (e : WeltEnd) : (State.setWelt s d k e).latch = s.latch := rfl
@[simp] theorem State.setWelt_errs (s : State) (d k : Nat) (e : WeltEnd) : (State.setWelt s d k e).errs = s.errs := rfl
@[simp] theorem State.setWelt_pages (s : State) (d k : Nat) (e : WeltEnd) : (State.setWelt s d k e).pages = s.pages := rfl
@[simp] theorem State.setWelt_fresh (s : State) (d k : Nat) (e : WeltEnd) : (State.setWelt s d k e).fresh = s.fresh := rfl
@[simp] theorem State.setWelt_resp (s : State) (d k : Nat) (e : WeltEnd) : (State.setWelt s d k e).resp = s.resp := rfl
@[simp] theorem State.setWelt_har (s : State) (d k : Nat) (e : WeltEnd) : (State.setWelt s d k e).har = s.har := rfl
@[simp] theorem State.setWelt_servo (s : State) (d k : Nat) (e : WeltEnd) : (State.setWelt s d k e).servo = s.servo := rfl
@[simp] theorem State.setWelt_frac (s : State) (d k : Nat) (e : WeltEnd) : (State.setWelt s d k e).frac = s.frac := rfl
@[simp] theorem State.setWelt_monoFrac (s : State) (d k : Nat) (e : WeltEnd) : (State.setWelt s d k e).monoFrac = s.monoFrac := rfl
@[simp] theorem State.setWelt_pulses (s : State) (d k : Nat) (e : WeltEnd) : (State.setWelt s d k e).pulses = s.pulses := rfl
@[simp] theorem State.setWelt_clkout (s : State) (d k : Nat) (e : WeltEnd) : (State.setWelt s d k e).clkout = s.clkout := rfl
@[simp] theorem State.setWelt_recD (s : State) (d k : Nat) (e : WeltEnd) : (State.setWelt s d k e).recD = s.recD := rfl
@[simp] theorem State.setWelt_recP (s : State) (d k : Nat) (e : WeltEnd) : (State.setWelt s d k e).recP = s.recP := rfl
@[simp] theorem State.setWelt_calFact (s : State) (d k : Nat) (e : WeltEnd) : (State.setWelt s d k e).calFact = s.calFact := rfl
@[simp] theorem State.setWelt_calUser (s : State) (d k : Nat) (e : WeltEnd) : (State.setWelt s d k e).calUser = s.calUser := rfl
@[simp] theorem State.setWelt_banks (s : State) (d k : Nat) (e : WeltEnd) : (State.setWelt s d k e).banks = s.banks := rfl
@[simp] theorem State.setWelt_skv (s : State) (d k : Nat) (e : WeltEnd) : (State.setWelt s d k e).skv = s.skv := rfl
@[simp] theorem State.setWelt_resync (s : State) (d k : Nat) (e : WeltEnd) : (State.setWelt s d k e).resync = s.resync := rfl
@[simp] theorem State.setWelt_rearm (s : State) (d k : Nat) (e : WeltEnd) : (State.setWelt s d k e).rearm = s.rearm := rfl
@[simp] theorem State.setWelt_skvBack (s : State) (d k : Nat) (e : WeltEnd) : (State.setWelt s d k e).skvBack = s.skvBack := rfl
@[simp] theorem State.setWelt_fenced (s : State) (d k : Nat) (e : WeltEnd) : (State.setWelt s d k e).fenced = s.fenced := rfl
@[simp] theorem State.setWelt_commitQ (s : State) (d k : Nat) (e : WeltEnd) : (State.setWelt s d k e).commitQ = s.commitQ := rfl
@[simp] theorem State.setWelt_boundLog (s : State) (d k : Nat) (e : WeltEnd) : (State.setWelt s d k e).boundLog = s.boundLog := rfl
@[simp] theorem State.setWelt_mirrorQ (s : State) (d k : Nat) (e : WeltEnd) : (State.setWelt s d k e).mirrorQ = s.mirrorQ := rfl
@[simp] theorem State.setWelt_frames (s : State) (d k : Nat) (e : WeltEnd) : (State.setWelt s d k e).frames = s.frames := rfl
@[simp] theorem State.setWelt_cells (s : State) (d k : Nat) (e : WeltEnd) : (State.setWelt s d k e).cells = s.cells := rfl
@[simp] theorem State.setWelt_owners (s : State) (d k : Nat) (e : WeltEnd) : (State.setWelt s d k e).owners = s.owners := rfl
@[simp] theorem State.setWelt_tenCells (s : State) (d k : Nat) (e : WeltEnd) : (State.setWelt s d k e).tenCells = s.tenCells := rfl
@[simp] theorem State.setWelt_tenDrops (s : State) (d k : Nat) (e : WeltEnd) : (State.setWelt s d k e).tenDrops = s.tenDrops := rfl
@[simp] theorem State.setWelt_voq (s : State) (d k : Nat) (e : WeltEnd) : (State.setWelt s d k e).voq = s.voq := rfl
@[simp] theorem State.setWelt_grantPtr (s : State) (d k : Nat) (e : WeltEnd) : (State.setWelt s d k e).grantPtr = s.grantPtr := rfl
@[simp] theorem State.setWelt_acceptPtr (s : State) (d k : Nat) (e : WeltEnd) : (State.setWelt s d k e).acceptPtr = s.acceptPtr := rfl
@[simp] theorem State.setWelt_outQ (s : State) (d k : Nat) (e : WeltEnd) : (State.setWelt s d k e).outQ = s.outQ := rfl
@[simp] theorem State.setWelt_slots (s : State) (d k : Nat) (e : WeltEnd) : (State.setWelt s d k e).slots = s.slots := rfl
@[simp] theorem State.setWelt_clq (s : State) (d k : Nat) (e : WeltEnd) : (State.setWelt s d k e).clq = s.clq := rfl
@[simp] theorem State.setWelt_shapers (s : State) (d k : Nat) (e : WeltEnd) : (State.setWelt s d k e).shapers = s.shapers := rfl
@[simp] theorem State.setWelt_suspects (s : State) (d k : Nat) (e : WeltEnd) : (State.setWelt s d k e).suspects = s.suspects := rfl
@[simp] theorem State.setWelt_engs (s : State) (d k : Nat) (e : WeltEnd) : (State.setWelt s d k e).engs = s.engs := rfl
@[simp] theorem State.setWelt_cls (s : State) (d k : Nat) (e : WeltEnd) : (State.setWelt s d k e).cls = s.cls := rfl
@[simp] theorem State.setWelt_imem (s : State) (d k : Nat) (e : WeltEnd) : (State.setWelt s d k e).imem = s.imem := rfl
@[simp] theorem State.setWelt_imemErr (s : State) (d k : Nat) (e : WeltEnd) : (State.setWelt s d k e).imemErr = s.imemErr := rfl
@[simp] theorem State.setWelt_spad (s : State) (d k : Nat) (e : WeltEnd) : (State.setWelt s d k e).spad = s.spad := rfl
@[simp] theorem State.setWelt_spadErr (s : State) (d k : Nat) (e : WeltEnd) : (State.setWelt s d k e).spadErr = s.spadErr := rfl
@[simp] theorem State.setWelt_lace (s : State) (d k : Nat) (e : WeltEnd) : (State.setWelt s d k e).lace = s.lace := rfl
@[simp] theorem State.setWelt_cues (s : State) (d k : Nat) (e : WeltEnd) : (State.setWelt s d k e).cues = s.cues := rfl
@[simp] theorem State.setWelt_ethPorts (s : State) (d k : Nat) (e : WeltEnd) : (State.setWelt s d k e).ethPorts = s.ethPorts := rfl
@[simp] theorem State.setWelt_ethPairs (s : State) (d k : Nat) (e : WeltEnd) : (State.setWelt s d k e).ethPairs = s.ethPairs := rfl
@[simp] theorem State.setWelt_serPorts (s : State) (d k : Nat) (e : WeltEnd) : (State.setWelt s d k e).serPorts = s.serPorts := rfl
@[simp] theorem State.setWelt_ttGroups (s : State) (d k : Nat) (e : WeltEnd) : (State.setWelt s d k e).ttGroups = s.ttGroups := rfl
@[simp] theorem State.setWelt_host (s : State) (d k : Nat) (e : WeltEnd) : (State.setWelt s d k e).host = s.host := rfl
@[simp] theorem State.setWelt_pwr (s : State) (d k : Nat) (e : WeltEnd) : (State.setWelt s d k e).pwr = s.pwr := rfl
@[simp] theorem State.setWelt_rcv (s : State) (d k : Nat) (e : WeltEnd) : (State.setWelt s d k e).rcv = s.rcv := rfl
@[simp] theorem State.setWelt_arc (s : State) (d k : Nat) (e : WeltEnd) : (State.setWelt s d k e).arc = s.arc := rfl
@[simp] theorem State.setWelt_rein (s : State) (d k : Nat) (e : WeltEnd) : (State.setWelt s d k e).rein = s.rein := rfl
@[simp] theorem State.setLce_regs (s : State) (d e : Nat) (x : LaceEng) : (State.setLce s d e x).regs = s.regs := rfl
@[simp] theorem State.setLce_latch (s : State) (d e : Nat) (x : LaceEng) : (State.setLce s d e x).latch = s.latch := rfl
@[simp] theorem State.setLce_errs (s : State) (d e : Nat) (x : LaceEng) : (State.setLce s d e x).errs = s.errs := rfl
@[simp] theorem State.setLce_pages (s : State) (d e : Nat) (x : LaceEng) : (State.setLce s d e x).pages = s.pages := rfl
@[simp] theorem State.setLce_fresh (s : State) (d e : Nat) (x : LaceEng) : (State.setLce s d e x).fresh = s.fresh := rfl
@[simp] theorem State.setLce_resp (s : State) (d e : Nat) (x : LaceEng) : (State.setLce s d e x).resp = s.resp := rfl
@[simp] theorem State.setLce_har (s : State) (d e : Nat) (x : LaceEng) : (State.setLce s d e x).har = s.har := rfl
@[simp] theorem State.setLce_servo (s : State) (d e : Nat) (x : LaceEng) : (State.setLce s d e x).servo = s.servo := rfl
@[simp] theorem State.setLce_frac (s : State) (d e : Nat) (x : LaceEng) : (State.setLce s d e x).frac = s.frac := rfl
@[simp] theorem State.setLce_monoFrac (s : State) (d e : Nat) (x : LaceEng) : (State.setLce s d e x).monoFrac = s.monoFrac := rfl
@[simp] theorem State.setLce_pulses (s : State) (d e : Nat) (x : LaceEng) : (State.setLce s d e x).pulses = s.pulses := rfl
@[simp] theorem State.setLce_clkout (s : State) (d e : Nat) (x : LaceEng) : (State.setLce s d e x).clkout = s.clkout := rfl
@[simp] theorem State.setLce_recD (s : State) (d e : Nat) (x : LaceEng) : (State.setLce s d e x).recD = s.recD := rfl
@[simp] theorem State.setLce_recP (s : State) (d e : Nat) (x : LaceEng) : (State.setLce s d e x).recP = s.recP := rfl
@[simp] theorem State.setLce_calFact (s : State) (d e : Nat) (x : LaceEng) : (State.setLce s d e x).calFact = s.calFact := rfl
@[simp] theorem State.setLce_calUser (s : State) (d e : Nat) (x : LaceEng) : (State.setLce s d e x).calUser = s.calUser := rfl
@[simp] theorem State.setLce_banks (s : State) (d e : Nat) (x : LaceEng) : (State.setLce s d e x).banks = s.banks := rfl
@[simp] theorem State.setLce_skv (s : State) (d e : Nat) (x : LaceEng) : (State.setLce s d e x).skv = s.skv := rfl
@[simp] theorem State.setLce_resync (s : State) (d e : Nat) (x : LaceEng) : (State.setLce s d e x).resync = s.resync := rfl
@[simp] theorem State.setLce_rearm (s : State) (d e : Nat) (x : LaceEng) : (State.setLce s d e x).rearm = s.rearm := rfl
@[simp] theorem State.setLce_skvBack (s : State) (d e : Nat) (x : LaceEng) : (State.setLce s d e x).skvBack = s.skvBack := rfl
@[simp] theorem State.setLce_fenced (s : State) (d e : Nat) (x : LaceEng) : (State.setLce s d e x).fenced = s.fenced := rfl
@[simp] theorem State.setLce_commitQ (s : State) (d e : Nat) (x : LaceEng) : (State.setLce s d e x).commitQ = s.commitQ := rfl
@[simp] theorem State.setLce_boundLog (s : State) (d e : Nat) (x : LaceEng) : (State.setLce s d e x).boundLog = s.boundLog := rfl
@[simp] theorem State.setLce_mirrorQ (s : State) (d e : Nat) (x : LaceEng) : (State.setLce s d e x).mirrorQ = s.mirrorQ := rfl
@[simp] theorem State.setLce_frames (s : State) (d e : Nat) (x : LaceEng) : (State.setLce s d e x).frames = s.frames := rfl
@[simp] theorem State.setLce_cells (s : State) (d e : Nat) (x : LaceEng) : (State.setLce s d e x).cells = s.cells := rfl
@[simp] theorem State.setLce_owners (s : State) (d e : Nat) (x : LaceEng) : (State.setLce s d e x).owners = s.owners := rfl
@[simp] theorem State.setLce_tenCells (s : State) (d e : Nat) (x : LaceEng) : (State.setLce s d e x).tenCells = s.tenCells := rfl
@[simp] theorem State.setLce_tenDrops (s : State) (d e : Nat) (x : LaceEng) : (State.setLce s d e x).tenDrops = s.tenDrops := rfl
@[simp] theorem State.setLce_voq (s : State) (d e : Nat) (x : LaceEng) : (State.setLce s d e x).voq = s.voq := rfl
@[simp] theorem State.setLce_grantPtr (s : State) (d e : Nat) (x : LaceEng) : (State.setLce s d e x).grantPtr = s.grantPtr := rfl
@[simp] theorem State.setLce_acceptPtr (s : State) (d e : Nat) (x : LaceEng) : (State.setLce s d e x).acceptPtr = s.acceptPtr := rfl
@[simp] theorem State.setLce_outQ (s : State) (d e : Nat) (x : LaceEng) : (State.setLce s d e x).outQ = s.outQ := rfl
@[simp] theorem State.setLce_slots (s : State) (d e : Nat) (x : LaceEng) : (State.setLce s d e x).slots = s.slots := rfl
@[simp] theorem State.setLce_clq (s : State) (d e : Nat) (x : LaceEng) : (State.setLce s d e x).clq = s.clq := rfl
@[simp] theorem State.setLce_shapers (s : State) (d e : Nat) (x : LaceEng) : (State.setLce s d e x).shapers = s.shapers := rfl
@[simp] theorem State.setLce_suspects (s : State) (d e : Nat) (x : LaceEng) : (State.setLce s d e x).suspects = s.suspects := rfl
@[simp] theorem State.setLce_engs (s : State) (d e : Nat) (x : LaceEng) : (State.setLce s d e x).engs = s.engs := rfl
@[simp] theorem State.setLce_cls (s : State) (d e : Nat) (x : LaceEng) : (State.setLce s d e x).cls = s.cls := rfl
@[simp] theorem State.setLce_imem (s : State) (d e : Nat) (x : LaceEng) : (State.setLce s d e x).imem = s.imem := rfl
@[simp] theorem State.setLce_imemErr (s : State) (d e : Nat) (x : LaceEng) : (State.setLce s d e x).imemErr = s.imemErr := rfl
@[simp] theorem State.setLce_spad (s : State) (d e : Nat) (x : LaceEng) : (State.setLce s d e x).spad = s.spad := rfl
@[simp] theorem State.setLce_spadErr (s : State) (d e : Nat) (x : LaceEng) : (State.setLce s d e x).spadErr = s.spadErr := rfl
@[simp] theorem State.setLce_cues (s : State) (d e : Nat) (x : LaceEng) : (State.setLce s d e x).cues = s.cues := rfl
@[simp] theorem State.setLce_ethPorts (s : State) (d e : Nat) (x : LaceEng) : (State.setLce s d e x).ethPorts = s.ethPorts := rfl
@[simp] theorem State.setLce_ethPairs (s : State) (d e : Nat) (x : LaceEng) : (State.setLce s d e x).ethPairs = s.ethPairs := rfl
@[simp] theorem State.setLce_serPorts (s : State) (d e : Nat) (x : LaceEng) : (State.setLce s d e x).serPorts = s.serPorts := rfl
@[simp] theorem State.setLce_ttGroups (s : State) (d e : Nat) (x : LaceEng) : (State.setLce s d e x).ttGroups = s.ttGroups := rfl
@[simp] theorem State.setLce_host (s : State) (d e : Nat) (x : LaceEng) : (State.setLce s d e x).host = s.host := rfl
@[simp] theorem State.setLce_pwr (s : State) (d e : Nat) (x : LaceEng) : (State.setLce s d e x).pwr = s.pwr := rfl
@[simp] theorem State.setLce_rcv (s : State) (d e : Nat) (x : LaceEng) : (State.setLce s d e x).rcv = s.rcv := rfl
@[simp] theorem State.setLce_arc (s : State) (d e : Nat) (x : LaceEng) : (State.setLce s d e x).arc = s.arc := rfl
@[simp] theorem State.setLce_welt (s : State) (d e : Nat) (x : LaceEng) : (State.setLce s d e x).welt = s.welt := rfl
@[simp] theorem State.setLce_rein (s : State) (d e : Nat) (x : LaceEng) : (State.setLce s d e x).rein = s.rein := rfl
@[simp] theorem State.modPort_regs (s : State) (d p : Nat) (g : EthPort → EthPort) : (State.modPort s d p g).regs = s.regs := rfl
@[simp] theorem State.modPort_latch (s : State) (d p : Nat) (g : EthPort → EthPort) : (State.modPort s d p g).latch = s.latch := rfl
@[simp] theorem State.modPort_errs (s : State) (d p : Nat) (g : EthPort → EthPort) : (State.modPort s d p g).errs = s.errs := rfl
@[simp] theorem State.modPort_pages (s : State) (d p : Nat) (g : EthPort → EthPort) : (State.modPort s d p g).pages = s.pages := rfl
@[simp] theorem State.modPort_fresh (s : State) (d p : Nat) (g : EthPort → EthPort) : (State.modPort s d p g).fresh = s.fresh := rfl
@[simp] theorem State.modPort_resp (s : State) (d p : Nat) (g : EthPort → EthPort) : (State.modPort s d p g).resp = s.resp := rfl
@[simp] theorem State.modPort_har (s : State) (d p : Nat) (g : EthPort → EthPort) : (State.modPort s d p g).har = s.har := rfl
@[simp] theorem State.modPort_servo (s : State) (d p : Nat) (g : EthPort → EthPort) : (State.modPort s d p g).servo = s.servo := rfl
@[simp] theorem State.modPort_frac (s : State) (d p : Nat) (g : EthPort → EthPort) : (State.modPort s d p g).frac = s.frac := rfl
@[simp] theorem State.modPort_monoFrac (s : State) (d p : Nat) (g : EthPort → EthPort) : (State.modPort s d p g).monoFrac = s.monoFrac := rfl
@[simp] theorem State.modPort_pulses (s : State) (d p : Nat) (g : EthPort → EthPort) : (State.modPort s d p g).pulses = s.pulses := rfl
@[simp] theorem State.modPort_clkout (s : State) (d p : Nat) (g : EthPort → EthPort) : (State.modPort s d p g).clkout = s.clkout := rfl
@[simp] theorem State.modPort_recD (s : State) (d p : Nat) (g : EthPort → EthPort) : (State.modPort s d p g).recD = s.recD := rfl
@[simp] theorem State.modPort_recP (s : State) (d p : Nat) (g : EthPort → EthPort) : (State.modPort s d p g).recP = s.recP := rfl
@[simp] theorem State.modPort_calFact (s : State) (d p : Nat) (g : EthPort → EthPort) : (State.modPort s d p g).calFact = s.calFact := rfl
@[simp] theorem State.modPort_calUser (s : State) (d p : Nat) (g : EthPort → EthPort) : (State.modPort s d p g).calUser = s.calUser := rfl
@[simp] theorem State.modPort_banks (s : State) (d p : Nat) (g : EthPort → EthPort) : (State.modPort s d p g).banks = s.banks := rfl
@[simp] theorem State.modPort_skv (s : State) (d p : Nat) (g : EthPort → EthPort) : (State.modPort s d p g).skv = s.skv := rfl
@[simp] theorem State.modPort_resync (s : State) (d p : Nat) (g : EthPort → EthPort) : (State.modPort s d p g).resync = s.resync := rfl
@[simp] theorem State.modPort_rearm (s : State) (d p : Nat) (g : EthPort → EthPort) : (State.modPort s d p g).rearm = s.rearm := rfl
@[simp] theorem State.modPort_skvBack (s : State) (d p : Nat) (g : EthPort → EthPort) : (State.modPort s d p g).skvBack = s.skvBack := rfl
@[simp] theorem State.modPort_fenced (s : State) (d p : Nat) (g : EthPort → EthPort) : (State.modPort s d p g).fenced = s.fenced := rfl
@[simp] theorem State.modPort_commitQ (s : State) (d p : Nat) (g : EthPort → EthPort) : (State.modPort s d p g).commitQ = s.commitQ := rfl
@[simp] theorem State.modPort_boundLog (s : State) (d p : Nat) (g : EthPort → EthPort) : (State.modPort s d p g).boundLog = s.boundLog := rfl
@[simp] theorem State.modPort_mirrorQ (s : State) (d p : Nat) (g : EthPort → EthPort) : (State.modPort s d p g).mirrorQ = s.mirrorQ := rfl
@[simp] theorem State.modPort_frames (s : State) (d p : Nat) (g : EthPort → EthPort) : (State.modPort s d p g).frames = s.frames := rfl
@[simp] theorem State.modPort_cells (s : State) (d p : Nat) (g : EthPort → EthPort) : (State.modPort s d p g).cells = s.cells := rfl
@[simp] theorem State.modPort_owners (s : State) (d p : Nat) (g : EthPort → EthPort) : (State.modPort s d p g).owners = s.owners := rfl
@[simp] theorem State.modPort_tenCells (s : State) (d p : Nat) (g : EthPort → EthPort) : (State.modPort s d p g).tenCells = s.tenCells := rfl
@[simp] theorem State.modPort_tenDrops (s : State) (d p : Nat) (g : EthPort → EthPort) : (State.modPort s d p g).tenDrops = s.tenDrops := rfl
@[simp] theorem State.modPort_voq (s : State) (d p : Nat) (g : EthPort → EthPort) : (State.modPort s d p g).voq = s.voq := rfl
@[simp] theorem State.modPort_grantPtr (s : State) (d p : Nat) (g : EthPort → EthPort) : (State.modPort s d p g).grantPtr = s.grantPtr := rfl
@[simp] theorem State.modPort_acceptPtr (s : State) (d p : Nat) (g : EthPort → EthPort) : (State.modPort s d p g).acceptPtr = s.acceptPtr := rfl
@[simp] theorem State.modPort_outQ (s : State) (d p : Nat) (g : EthPort → EthPort) : (State.modPort s d p g).outQ = s.outQ := rfl
@[simp] theorem State.modPort_slots (s : State) (d p : Nat) (g : EthPort → EthPort) : (State.modPort s d p g).slots = s.slots := rfl
@[simp] theorem State.modPort_clq (s : State) (d p : Nat) (g : EthPort → EthPort) : (State.modPort s d p g).clq = s.clq := rfl
@[simp] theorem State.modPort_shapers (s : State) (d p : Nat) (g : EthPort → EthPort) : (State.modPort s d p g).shapers = s.shapers := rfl
@[simp] theorem State.modPort_suspects (s : State) (d p : Nat) (g : EthPort → EthPort) : (State.modPort s d p g).suspects = s.suspects := rfl
@[simp] theorem State.modPort_engs (s : State) (d p : Nat) (g : EthPort → EthPort) : (State.modPort s d p g).engs = s.engs := rfl
@[simp] theorem State.modPort_cls (s : State) (d p : Nat) (g : EthPort → EthPort) : (State.modPort s d p g).cls = s.cls := rfl
@[simp] theorem State.modPort_imem (s : State) (d p : Nat) (g : EthPort → EthPort) : (State.modPort s d p g).imem = s.imem := rfl
@[simp] theorem State.modPort_imemErr (s : State) (d p : Nat) (g : EthPort → EthPort) : (State.modPort s d p g).imemErr = s.imemErr := rfl
@[simp] theorem State.modPort_spad (s : State) (d p : Nat) (g : EthPort → EthPort) : (State.modPort s d p g).spad = s.spad := rfl
@[simp] theorem State.modPort_spadErr (s : State) (d p : Nat) (g : EthPort → EthPort) : (State.modPort s d p g).spadErr = s.spadErr := rfl
@[simp] theorem State.modPort_lace (s : State) (d p : Nat) (g : EthPort → EthPort) : (State.modPort s d p g).lace = s.lace := rfl
@[simp] theorem State.modPort_cues (s : State) (d p : Nat) (g : EthPort → EthPort) : (State.modPort s d p g).cues = s.cues := rfl
@[simp] theorem State.modPort_ethPairs (s : State) (d p : Nat) (g : EthPort → EthPort) : (State.modPort s d p g).ethPairs = s.ethPairs := rfl
@[simp] theorem State.modPort_serPorts (s : State) (d p : Nat) (g : EthPort → EthPort) : (State.modPort s d p g).serPorts = s.serPorts := rfl
@[simp] theorem State.modPort_ttGroups (s : State) (d p : Nat) (g : EthPort → EthPort) : (State.modPort s d p g).ttGroups = s.ttGroups := rfl
@[simp] theorem State.modPort_host (s : State) (d p : Nat) (g : EthPort → EthPort) : (State.modPort s d p g).host = s.host := rfl
@[simp] theorem State.modPort_pwr (s : State) (d p : Nat) (g : EthPort → EthPort) : (State.modPort s d p g).pwr = s.pwr := rfl
@[simp] theorem State.modPort_rcv (s : State) (d p : Nat) (g : EthPort → EthPort) : (State.modPort s d p g).rcv = s.rcv := rfl
@[simp] theorem State.modPort_arc (s : State) (d p : Nat) (g : EthPort → EthPort) : (State.modPort s d p g).arc = s.arc := rfl
@[simp] theorem State.modPort_welt (s : State) (d p : Nat) (g : EthPort → EthPort) : (State.modPort s d p g).welt = s.welt := rfl
@[simp] theorem State.modPort_rein (s : State) (d p : Nat) (g : EthPort → EthPort) : (State.modPort s d p g).rein = s.rein := rfl
@[simp] theorem State.modPair_regs (s : State) (d k : Nat) (g : EthPair → EthPair) : (State.modPair s d k g).regs = s.regs := rfl
@[simp] theorem State.modPair_latch (s : State) (d k : Nat) (g : EthPair → EthPair) : (State.modPair s d k g).latch = s.latch := rfl
@[simp] theorem State.modPair_errs (s : State) (d k : Nat) (g : EthPair → EthPair) : (State.modPair s d k g).errs = s.errs := rfl
@[simp] theorem State.modPair_pages (s : State) (d k : Nat) (g : EthPair → EthPair) : (State.modPair s d k g).pages = s.pages := rfl
@[simp] theorem State.modPair_fresh (s : State) (d k : Nat) (g : EthPair → EthPair) : (State.modPair s d k g).fresh = s.fresh := rfl
@[simp] theorem State.modPair_resp (s : State) (d k : Nat) (g : EthPair → EthPair) : (State.modPair s d k g).resp = s.resp := rfl
@[simp] theorem State.modPair_har (s : State) (d k : Nat) (g : EthPair → EthPair) : (State.modPair s d k g).har = s.har := rfl
@[simp] theorem State.modPair_servo (s : State) (d k : Nat) (g : EthPair → EthPair) : (State.modPair s d k g).servo = s.servo := rfl
@[simp] theorem State.modPair_frac (s : State) (d k : Nat) (g : EthPair → EthPair) : (State.modPair s d k g).frac = s.frac := rfl
@[simp] theorem State.modPair_monoFrac (s : State) (d k : Nat) (g : EthPair → EthPair) : (State.modPair s d k g).monoFrac = s.monoFrac := rfl
@[simp] theorem State.modPair_pulses (s : State) (d k : Nat) (g : EthPair → EthPair) : (State.modPair s d k g).pulses = s.pulses := rfl
@[simp] theorem State.modPair_clkout (s : State) (d k : Nat) (g : EthPair → EthPair) : (State.modPair s d k g).clkout = s.clkout := rfl
@[simp] theorem State.modPair_recD (s : State) (d k : Nat) (g : EthPair → EthPair) : (State.modPair s d k g).recD = s.recD := rfl
@[simp] theorem State.modPair_recP (s : State) (d k : Nat) (g : EthPair → EthPair) : (State.modPair s d k g).recP = s.recP := rfl
@[simp] theorem State.modPair_calFact (s : State) (d k : Nat) (g : EthPair → EthPair) : (State.modPair s d k g).calFact = s.calFact := rfl
@[simp] theorem State.modPair_calUser (s : State) (d k : Nat) (g : EthPair → EthPair) : (State.modPair s d k g).calUser = s.calUser := rfl
@[simp] theorem State.modPair_banks (s : State) (d k : Nat) (g : EthPair → EthPair) : (State.modPair s d k g).banks = s.banks := rfl
@[simp] theorem State.modPair_skv (s : State) (d k : Nat) (g : EthPair → EthPair) : (State.modPair s d k g).skv = s.skv := rfl
@[simp] theorem State.modPair_resync (s : State) (d k : Nat) (g : EthPair → EthPair) : (State.modPair s d k g).resync = s.resync := rfl
@[simp] theorem State.modPair_rearm (s : State) (d k : Nat) (g : EthPair → EthPair) : (State.modPair s d k g).rearm = s.rearm := rfl
@[simp] theorem State.modPair_skvBack (s : State) (d k : Nat) (g : EthPair → EthPair) : (State.modPair s d k g).skvBack = s.skvBack := rfl
@[simp] theorem State.modPair_fenced (s : State) (d k : Nat) (g : EthPair → EthPair) : (State.modPair s d k g).fenced = s.fenced := rfl
@[simp] theorem State.modPair_commitQ (s : State) (d k : Nat) (g : EthPair → EthPair) : (State.modPair s d k g).commitQ = s.commitQ := rfl
@[simp] theorem State.modPair_boundLog (s : State) (d k : Nat) (g : EthPair → EthPair) : (State.modPair s d k g).boundLog = s.boundLog := rfl
@[simp] theorem State.modPair_mirrorQ (s : State) (d k : Nat) (g : EthPair → EthPair) : (State.modPair s d k g).mirrorQ = s.mirrorQ := rfl
@[simp] theorem State.modPair_frames (s : State) (d k : Nat) (g : EthPair → EthPair) : (State.modPair s d k g).frames = s.frames := rfl
@[simp] theorem State.modPair_cells (s : State) (d k : Nat) (g : EthPair → EthPair) : (State.modPair s d k g).cells = s.cells := rfl
@[simp] theorem State.modPair_owners (s : State) (d k : Nat) (g : EthPair → EthPair) : (State.modPair s d k g).owners = s.owners := rfl
@[simp] theorem State.modPair_tenCells (s : State) (d k : Nat) (g : EthPair → EthPair) : (State.modPair s d k g).tenCells = s.tenCells := rfl
@[simp] theorem State.modPair_tenDrops (s : State) (d k : Nat) (g : EthPair → EthPair) : (State.modPair s d k g).tenDrops = s.tenDrops := rfl
@[simp] theorem State.modPair_voq (s : State) (d k : Nat) (g : EthPair → EthPair) : (State.modPair s d k g).voq = s.voq := rfl
@[simp] theorem State.modPair_grantPtr (s : State) (d k : Nat) (g : EthPair → EthPair) : (State.modPair s d k g).grantPtr = s.grantPtr := rfl
@[simp] theorem State.modPair_acceptPtr (s : State) (d k : Nat) (g : EthPair → EthPair) : (State.modPair s d k g).acceptPtr = s.acceptPtr := rfl
@[simp] theorem State.modPair_outQ (s : State) (d k : Nat) (g : EthPair → EthPair) : (State.modPair s d k g).outQ = s.outQ := rfl
@[simp] theorem State.modPair_slots (s : State) (d k : Nat) (g : EthPair → EthPair) : (State.modPair s d k g).slots = s.slots := rfl
@[simp] theorem State.modPair_clq (s : State) (d k : Nat) (g : EthPair → EthPair) : (State.modPair s d k g).clq = s.clq := rfl
@[simp] theorem State.modPair_shapers (s : State) (d k : Nat) (g : EthPair → EthPair) : (State.modPair s d k g).shapers = s.shapers := rfl
@[simp] theorem State.modPair_suspects (s : State) (d k : Nat) (g : EthPair → EthPair) : (State.modPair s d k g).suspects = s.suspects := rfl
@[simp] theorem State.modPair_engs (s : State) (d k : Nat) (g : EthPair → EthPair) : (State.modPair s d k g).engs = s.engs := rfl
@[simp] theorem State.modPair_cls (s : State) (d k : Nat) (g : EthPair → EthPair) : (State.modPair s d k g).cls = s.cls := rfl
@[simp] theorem State.modPair_imem (s : State) (d k : Nat) (g : EthPair → EthPair) : (State.modPair s d k g).imem = s.imem := rfl
@[simp] theorem State.modPair_imemErr (s : State) (d k : Nat) (g : EthPair → EthPair) : (State.modPair s d k g).imemErr = s.imemErr := rfl
@[simp] theorem State.modPair_spad (s : State) (d k : Nat) (g : EthPair → EthPair) : (State.modPair s d k g).spad = s.spad := rfl
@[simp] theorem State.modPair_spadErr (s : State) (d k : Nat) (g : EthPair → EthPair) : (State.modPair s d k g).spadErr = s.spadErr := rfl
@[simp] theorem State.modPair_lace (s : State) (d k : Nat) (g : EthPair → EthPair) : (State.modPair s d k g).lace = s.lace := rfl
@[simp] theorem State.modPair_cues (s : State) (d k : Nat) (g : EthPair → EthPair) : (State.modPair s d k g).cues = s.cues := rfl
@[simp] theorem State.modPair_ethPorts (s : State) (d k : Nat) (g : EthPair → EthPair) : (State.modPair s d k g).ethPorts = s.ethPorts := rfl
@[simp] theorem State.modPair_serPorts (s : State) (d k : Nat) (g : EthPair → EthPair) : (State.modPair s d k g).serPorts = s.serPorts := rfl
@[simp] theorem State.modPair_ttGroups (s : State) (d k : Nat) (g : EthPair → EthPair) : (State.modPair s d k g).ttGroups = s.ttGroups := rfl
@[simp] theorem State.modPair_host (s : State) (d k : Nat) (g : EthPair → EthPair) : (State.modPair s d k g).host = s.host := rfl
@[simp] theorem State.modPair_pwr (s : State) (d k : Nat) (g : EthPair → EthPair) : (State.modPair s d k g).pwr = s.pwr := rfl
@[simp] theorem State.modPair_rcv (s : State) (d k : Nat) (g : EthPair → EthPair) : (State.modPair s d k g).rcv = s.rcv := rfl
@[simp] theorem State.modPair_arc (s : State) (d k : Nat) (g : EthPair → EthPair) : (State.modPair s d k g).arc = s.arc := rfl
@[simp] theorem State.modPair_welt (s : State) (d k : Nat) (g : EthPair → EthPair) : (State.modPair s d k g).welt = s.welt := rfl
@[simp] theorem State.modPair_rein (s : State) (d k : Nat) (g : EthPair → EthPair) : (State.modPair s d k g).rein = s.rein := rfl
@[simp] theorem State.modSer_regs (s : State) (d p : Nat) (g : SerPort → SerPort) : (State.modSer s d p g).regs = s.regs := rfl
@[simp] theorem State.modSer_latch (s : State) (d p : Nat) (g : SerPort → SerPort) : (State.modSer s d p g).latch = s.latch := rfl
@[simp] theorem State.modSer_errs (s : State) (d p : Nat) (g : SerPort → SerPort) : (State.modSer s d p g).errs = s.errs := rfl
@[simp] theorem State.modSer_pages (s : State) (d p : Nat) (g : SerPort → SerPort) : (State.modSer s d p g).pages = s.pages := rfl
@[simp] theorem State.modSer_fresh (s : State) (d p : Nat) (g : SerPort → SerPort) : (State.modSer s d p g).fresh = s.fresh := rfl
@[simp] theorem State.modSer_resp (s : State) (d p : Nat) (g : SerPort → SerPort) : (State.modSer s d p g).resp = s.resp := rfl
@[simp] theorem State.modSer_har (s : State) (d p : Nat) (g : SerPort → SerPort) : (State.modSer s d p g).har = s.har := rfl
@[simp] theorem State.modSer_servo (s : State) (d p : Nat) (g : SerPort → SerPort) : (State.modSer s d p g).servo = s.servo := rfl
@[simp] theorem State.modSer_frac (s : State) (d p : Nat) (g : SerPort → SerPort) : (State.modSer s d p g).frac = s.frac := rfl
@[simp] theorem State.modSer_monoFrac (s : State) (d p : Nat) (g : SerPort → SerPort) : (State.modSer s d p g).monoFrac = s.monoFrac := rfl
@[simp] theorem State.modSer_pulses (s : State) (d p : Nat) (g : SerPort → SerPort) : (State.modSer s d p g).pulses = s.pulses := rfl
@[simp] theorem State.modSer_clkout (s : State) (d p : Nat) (g : SerPort → SerPort) : (State.modSer s d p g).clkout = s.clkout := rfl
@[simp] theorem State.modSer_recD (s : State) (d p : Nat) (g : SerPort → SerPort) : (State.modSer s d p g).recD = s.recD := rfl
@[simp] theorem State.modSer_recP (s : State) (d p : Nat) (g : SerPort → SerPort) : (State.modSer s d p g).recP = s.recP := rfl
@[simp] theorem State.modSer_calFact (s : State) (d p : Nat) (g : SerPort → SerPort) : (State.modSer s d p g).calFact = s.calFact := rfl
@[simp] theorem State.modSer_calUser (s : State) (d p : Nat) (g : SerPort → SerPort) : (State.modSer s d p g).calUser = s.calUser := rfl
@[simp] theorem State.modSer_banks (s : State) (d p : Nat) (g : SerPort → SerPort) : (State.modSer s d p g).banks = s.banks := rfl
@[simp] theorem State.modSer_skv (s : State) (d p : Nat) (g : SerPort → SerPort) : (State.modSer s d p g).skv = s.skv := rfl
@[simp] theorem State.modSer_resync (s : State) (d p : Nat) (g : SerPort → SerPort) : (State.modSer s d p g).resync = s.resync := rfl
@[simp] theorem State.modSer_rearm (s : State) (d p : Nat) (g : SerPort → SerPort) : (State.modSer s d p g).rearm = s.rearm := rfl
@[simp] theorem State.modSer_skvBack (s : State) (d p : Nat) (g : SerPort → SerPort) : (State.modSer s d p g).skvBack = s.skvBack := rfl
@[simp] theorem State.modSer_fenced (s : State) (d p : Nat) (g : SerPort → SerPort) : (State.modSer s d p g).fenced = s.fenced := rfl
@[simp] theorem State.modSer_commitQ (s : State) (d p : Nat) (g : SerPort → SerPort) : (State.modSer s d p g).commitQ = s.commitQ := rfl
@[simp] theorem State.modSer_boundLog (s : State) (d p : Nat) (g : SerPort → SerPort) : (State.modSer s d p g).boundLog = s.boundLog := rfl
@[simp] theorem State.modSer_mirrorQ (s : State) (d p : Nat) (g : SerPort → SerPort) : (State.modSer s d p g).mirrorQ = s.mirrorQ := rfl
@[simp] theorem State.modSer_frames (s : State) (d p : Nat) (g : SerPort → SerPort) : (State.modSer s d p g).frames = s.frames := rfl
@[simp] theorem State.modSer_cells (s : State) (d p : Nat) (g : SerPort → SerPort) : (State.modSer s d p g).cells = s.cells := rfl
@[simp] theorem State.modSer_owners (s : State) (d p : Nat) (g : SerPort → SerPort) : (State.modSer s d p g).owners = s.owners := rfl
@[simp] theorem State.modSer_tenCells (s : State) (d p : Nat) (g : SerPort → SerPort) : (State.modSer s d p g).tenCells = s.tenCells := rfl
@[simp] theorem State.modSer_tenDrops (s : State) (d p : Nat) (g : SerPort → SerPort) : (State.modSer s d p g).tenDrops = s.tenDrops := rfl
@[simp] theorem State.modSer_voq (s : State) (d p : Nat) (g : SerPort → SerPort) : (State.modSer s d p g).voq = s.voq := rfl
@[simp] theorem State.modSer_grantPtr (s : State) (d p : Nat) (g : SerPort → SerPort) : (State.modSer s d p g).grantPtr = s.grantPtr := rfl
@[simp] theorem State.modSer_acceptPtr (s : State) (d p : Nat) (g : SerPort → SerPort) : (State.modSer s d p g).acceptPtr = s.acceptPtr := rfl
@[simp] theorem State.modSer_outQ (s : State) (d p : Nat) (g : SerPort → SerPort) : (State.modSer s d p g).outQ = s.outQ := rfl
@[simp] theorem State.modSer_slots (s : State) (d p : Nat) (g : SerPort → SerPort) : (State.modSer s d p g).slots = s.slots := rfl
@[simp] theorem State.modSer_clq (s : State) (d p : Nat) (g : SerPort → SerPort) : (State.modSer s d p g).clq = s.clq := rfl
@[simp] theorem State.modSer_shapers (s : State) (d p : Nat) (g : SerPort → SerPort) : (State.modSer s d p g).shapers = s.shapers := rfl
@[simp] theorem State.modSer_suspects (s : State) (d p : Nat) (g : SerPort → SerPort) : (State.modSer s d p g).suspects = s.suspects := rfl
@[simp] theorem State.modSer_engs (s : State) (d p : Nat) (g : SerPort → SerPort) : (State.modSer s d p g).engs = s.engs := rfl
@[simp] theorem State.modSer_cls (s : State) (d p : Nat) (g : SerPort → SerPort) : (State.modSer s d p g).cls = s.cls := rfl
@[simp] theorem State.modSer_imem (s : State) (d p : Nat) (g : SerPort → SerPort) : (State.modSer s d p g).imem = s.imem := rfl
@[simp] theorem State.modSer_imemErr (s : State) (d p : Nat) (g : SerPort → SerPort) : (State.modSer s d p g).imemErr = s.imemErr := rfl
@[simp] theorem State.modSer_spad (s : State) (d p : Nat) (g : SerPort → SerPort) : (State.modSer s d p g).spad = s.spad := rfl
@[simp] theorem State.modSer_spadErr (s : State) (d p : Nat) (g : SerPort → SerPort) : (State.modSer s d p g).spadErr = s.spadErr := rfl
@[simp] theorem State.modSer_lace (s : State) (d p : Nat) (g : SerPort → SerPort) : (State.modSer s d p g).lace = s.lace := rfl
@[simp] theorem State.modSer_cues (s : State) (d p : Nat) (g : SerPort → SerPort) : (State.modSer s d p g).cues = s.cues := rfl
@[simp] theorem State.modSer_ethPorts (s : State) (d p : Nat) (g : SerPort → SerPort) : (State.modSer s d p g).ethPorts = s.ethPorts := rfl
@[simp] theorem State.modSer_ethPairs (s : State) (d p : Nat) (g : SerPort → SerPort) : (State.modSer s d p g).ethPairs = s.ethPairs := rfl
@[simp] theorem State.modSer_ttGroups (s : State) (d p : Nat) (g : SerPort → SerPort) : (State.modSer s d p g).ttGroups = s.ttGroups := rfl
@[simp] theorem State.modSer_host (s : State) (d p : Nat) (g : SerPort → SerPort) : (State.modSer s d p g).host = s.host := rfl
@[simp] theorem State.modSer_pwr (s : State) (d p : Nat) (g : SerPort → SerPort) : (State.modSer s d p g).pwr = s.pwr := rfl
@[simp] theorem State.modSer_rcv (s : State) (d p : Nat) (g : SerPort → SerPort) : (State.modSer s d p g).rcv = s.rcv := rfl
@[simp] theorem State.modSer_arc (s : State) (d p : Nat) (g : SerPort → SerPort) : (State.modSer s d p g).arc = s.arc := rfl
@[simp] theorem State.modSer_welt (s : State) (d p : Nat) (g : SerPort → SerPort) : (State.modSer s d p g).welt = s.welt := rfl
@[simp] theorem State.modSer_rein (s : State) (d p : Nat) (g : SerPort → SerPort) : (State.modSer s d p g).rein = s.rein := rfl
@[simp] theorem State.modTt_regs (s : State) (d : Nat) (g : TtGroup → TtGroup) : (State.modTt s d g).regs = s.regs := rfl
@[simp] theorem State.modTt_latch (s : State) (d : Nat) (g : TtGroup → TtGroup) : (State.modTt s d g).latch = s.latch := rfl
@[simp] theorem State.modTt_errs (s : State) (d : Nat) (g : TtGroup → TtGroup) : (State.modTt s d g).errs = s.errs := rfl
@[simp] theorem State.modTt_pages (s : State) (d : Nat) (g : TtGroup → TtGroup) : (State.modTt s d g).pages = s.pages := rfl
@[simp] theorem State.modTt_fresh (s : State) (d : Nat) (g : TtGroup → TtGroup) : (State.modTt s d g).fresh = s.fresh := rfl
@[simp] theorem State.modTt_resp (s : State) (d : Nat) (g : TtGroup → TtGroup) : (State.modTt s d g).resp = s.resp := rfl
@[simp] theorem State.modTt_har (s : State) (d : Nat) (g : TtGroup → TtGroup) : (State.modTt s d g).har = s.har := rfl
@[simp] theorem State.modTt_servo (s : State) (d : Nat) (g : TtGroup → TtGroup) : (State.modTt s d g).servo = s.servo := rfl
@[simp] theorem State.modTt_frac (s : State) (d : Nat) (g : TtGroup → TtGroup) : (State.modTt s d g).frac = s.frac := rfl
@[simp] theorem State.modTt_monoFrac (s : State) (d : Nat) (g : TtGroup → TtGroup) : (State.modTt s d g).monoFrac = s.monoFrac := rfl
@[simp] theorem State.modTt_pulses (s : State) (d : Nat) (g : TtGroup → TtGroup) : (State.modTt s d g).pulses = s.pulses := rfl
@[simp] theorem State.modTt_clkout (s : State) (d : Nat) (g : TtGroup → TtGroup) : (State.modTt s d g).clkout = s.clkout := rfl
@[simp] theorem State.modTt_recD (s : State) (d : Nat) (g : TtGroup → TtGroup) : (State.modTt s d g).recD = s.recD := rfl
@[simp] theorem State.modTt_recP (s : State) (d : Nat) (g : TtGroup → TtGroup) : (State.modTt s d g).recP = s.recP := rfl
@[simp] theorem State.modTt_calFact (s : State) (d : Nat) (g : TtGroup → TtGroup) : (State.modTt s d g).calFact = s.calFact := rfl
@[simp] theorem State.modTt_calUser (s : State) (d : Nat) (g : TtGroup → TtGroup) : (State.modTt s d g).calUser = s.calUser := rfl
@[simp] theorem State.modTt_banks (s : State) (d : Nat) (g : TtGroup → TtGroup) : (State.modTt s d g).banks = s.banks := rfl
@[simp] theorem State.modTt_skv (s : State) (d : Nat) (g : TtGroup → TtGroup) : (State.modTt s d g).skv = s.skv := rfl
@[simp] theorem State.modTt_resync (s : State) (d : Nat) (g : TtGroup → TtGroup) : (State.modTt s d g).resync = s.resync := rfl
@[simp] theorem State.modTt_rearm (s : State) (d : Nat) (g : TtGroup → TtGroup) : (State.modTt s d g).rearm = s.rearm := rfl
@[simp] theorem State.modTt_skvBack (s : State) (d : Nat) (g : TtGroup → TtGroup) : (State.modTt s d g).skvBack = s.skvBack := rfl
@[simp] theorem State.modTt_fenced (s : State) (d : Nat) (g : TtGroup → TtGroup) : (State.modTt s d g).fenced = s.fenced := rfl
@[simp] theorem State.modTt_commitQ (s : State) (d : Nat) (g : TtGroup → TtGroup) : (State.modTt s d g).commitQ = s.commitQ := rfl
@[simp] theorem State.modTt_boundLog (s : State) (d : Nat) (g : TtGroup → TtGroup) : (State.modTt s d g).boundLog = s.boundLog := rfl
@[simp] theorem State.modTt_mirrorQ (s : State) (d : Nat) (g : TtGroup → TtGroup) : (State.modTt s d g).mirrorQ = s.mirrorQ := rfl
@[simp] theorem State.modTt_frames (s : State) (d : Nat) (g : TtGroup → TtGroup) : (State.modTt s d g).frames = s.frames := rfl
@[simp] theorem State.modTt_cells (s : State) (d : Nat) (g : TtGroup → TtGroup) : (State.modTt s d g).cells = s.cells := rfl
@[simp] theorem State.modTt_owners (s : State) (d : Nat) (g : TtGroup → TtGroup) : (State.modTt s d g).owners = s.owners := rfl
@[simp] theorem State.modTt_tenCells (s : State) (d : Nat) (g : TtGroup → TtGroup) : (State.modTt s d g).tenCells = s.tenCells := rfl
@[simp] theorem State.modTt_tenDrops (s : State) (d : Nat) (g : TtGroup → TtGroup) : (State.modTt s d g).tenDrops = s.tenDrops := rfl
@[simp] theorem State.modTt_voq (s : State) (d : Nat) (g : TtGroup → TtGroup) : (State.modTt s d g).voq = s.voq := rfl
@[simp] theorem State.modTt_grantPtr (s : State) (d : Nat) (g : TtGroup → TtGroup) : (State.modTt s d g).grantPtr = s.grantPtr := rfl
@[simp] theorem State.modTt_acceptPtr (s : State) (d : Nat) (g : TtGroup → TtGroup) : (State.modTt s d g).acceptPtr = s.acceptPtr := rfl
@[simp] theorem State.modTt_outQ (s : State) (d : Nat) (g : TtGroup → TtGroup) : (State.modTt s d g).outQ = s.outQ := rfl
@[simp] theorem State.modTt_slots (s : State) (d : Nat) (g : TtGroup → TtGroup) : (State.modTt s d g).slots = s.slots := rfl
@[simp] theorem State.modTt_clq (s : State) (d : Nat) (g : TtGroup → TtGroup) : (State.modTt s d g).clq = s.clq := rfl
@[simp] theorem State.modTt_shapers (s : State) (d : Nat) (g : TtGroup → TtGroup) : (State.modTt s d g).shapers = s.shapers := rfl
@[simp] theorem State.modTt_suspects (s : State) (d : Nat) (g : TtGroup → TtGroup) : (State.modTt s d g).suspects = s.suspects := rfl
@[simp] theorem State.modTt_engs (s : State) (d : Nat) (g : TtGroup → TtGroup) : (State.modTt s d g).engs = s.engs := rfl
@[simp] theorem State.modTt_cls (s : State) (d : Nat) (g : TtGroup → TtGroup) : (State.modTt s d g).cls = s.cls := rfl
@[simp] theorem State.modTt_imem (s : State) (d : Nat) (g : TtGroup → TtGroup) : (State.modTt s d g).imem = s.imem := rfl
@[simp] theorem State.modTt_imemErr (s : State) (d : Nat) (g : TtGroup → TtGroup) : (State.modTt s d g).imemErr = s.imemErr := rfl
@[simp] theorem State.modTt_spad (s : State) (d : Nat) (g : TtGroup → TtGroup) : (State.modTt s d g).spad = s.spad := rfl
@[simp] theorem State.modTt_spadErr (s : State) (d : Nat) (g : TtGroup → TtGroup) : (State.modTt s d g).spadErr = s.spadErr := rfl
@[simp] theorem State.modTt_lace (s : State) (d : Nat) (g : TtGroup → TtGroup) : (State.modTt s d g).lace = s.lace := rfl
@[simp] theorem State.modTt_cues (s : State) (d : Nat) (g : TtGroup → TtGroup) : (State.modTt s d g).cues = s.cues := rfl
@[simp] theorem State.modTt_ethPorts (s : State) (d : Nat) (g : TtGroup → TtGroup) : (State.modTt s d g).ethPorts = s.ethPorts := rfl
@[simp] theorem State.modTt_ethPairs (s : State) (d : Nat) (g : TtGroup → TtGroup) : (State.modTt s d g).ethPairs = s.ethPairs := rfl
@[simp] theorem State.modTt_serPorts (s : State) (d : Nat) (g : TtGroup → TtGroup) : (State.modTt s d g).serPorts = s.serPorts := rfl
@[simp] theorem State.modTt_host (s : State) (d : Nat) (g : TtGroup → TtGroup) : (State.modTt s d g).host = s.host := rfl
@[simp] theorem State.modTt_pwr (s : State) (d : Nat) (g : TtGroup → TtGroup) : (State.modTt s d g).pwr = s.pwr := rfl
@[simp] theorem State.modTt_rcv (s : State) (d : Nat) (g : TtGroup → TtGroup) : (State.modTt s d g).rcv = s.rcv := rfl
@[simp] theorem State.modTt_arc (s : State) (d : Nat) (g : TtGroup → TtGroup) : (State.modTt s d g).arc = s.arc := rfl
@[simp] theorem State.modTt_welt (s : State) (d : Nat) (g : TtGroup → TtGroup) : (State.modTt s d g).welt = s.welt := rfl
@[simp] theorem State.modTt_rein (s : State) (d : Nat) (g : TtGroup → TtGroup) : (State.modTt s d g).rein = s.rein := rfl
@[simp] theorem State.setVoq_regs (s : State) (d : Nat) (q : List VEntry) : (State.setVoq s d q).regs = s.regs := rfl
@[simp] theorem State.setVoq_latch (s : State) (d : Nat) (q : List VEntry) : (State.setVoq s d q).latch = s.latch := rfl
@[simp] theorem State.setVoq_errs (s : State) (d : Nat) (q : List VEntry) : (State.setVoq s d q).errs = s.errs := rfl
@[simp] theorem State.setVoq_pages (s : State) (d : Nat) (q : List VEntry) : (State.setVoq s d q).pages = s.pages := rfl
@[simp] theorem State.setVoq_fresh (s : State) (d : Nat) (q : List VEntry) : (State.setVoq s d q).fresh = s.fresh := rfl
@[simp] theorem State.setVoq_resp (s : State) (d : Nat) (q : List VEntry) : (State.setVoq s d q).resp = s.resp := rfl
@[simp] theorem State.setVoq_har (s : State) (d : Nat) (q : List VEntry) : (State.setVoq s d q).har = s.har := rfl
@[simp] theorem State.setVoq_servo (s : State) (d : Nat) (q : List VEntry) : (State.setVoq s d q).servo = s.servo := rfl
@[simp] theorem State.setVoq_frac (s : State) (d : Nat) (q : List VEntry) : (State.setVoq s d q).frac = s.frac := rfl
@[simp] theorem State.setVoq_monoFrac (s : State) (d : Nat) (q : List VEntry) : (State.setVoq s d q).monoFrac = s.monoFrac := rfl
@[simp] theorem State.setVoq_pulses (s : State) (d : Nat) (q : List VEntry) : (State.setVoq s d q).pulses = s.pulses := rfl
@[simp] theorem State.setVoq_clkout (s : State) (d : Nat) (q : List VEntry) : (State.setVoq s d q).clkout = s.clkout := rfl
@[simp] theorem State.setVoq_recD (s : State) (d : Nat) (q : List VEntry) : (State.setVoq s d q).recD = s.recD := rfl
@[simp] theorem State.setVoq_recP (s : State) (d : Nat) (q : List VEntry) : (State.setVoq s d q).recP = s.recP := rfl
@[simp] theorem State.setVoq_calFact (s : State) (d : Nat) (q : List VEntry) : (State.setVoq s d q).calFact = s.calFact := rfl
@[simp] theorem State.setVoq_calUser (s : State) (d : Nat) (q : List VEntry) : (State.setVoq s d q).calUser = s.calUser := rfl
@[simp] theorem State.setVoq_banks (s : State) (d : Nat) (q : List VEntry) : (State.setVoq s d q).banks = s.banks := rfl
@[simp] theorem State.setVoq_skv (s : State) (d : Nat) (q : List VEntry) : (State.setVoq s d q).skv = s.skv := rfl
@[simp] theorem State.setVoq_resync (s : State) (d : Nat) (q : List VEntry) : (State.setVoq s d q).resync = s.resync := rfl
@[simp] theorem State.setVoq_rearm (s : State) (d : Nat) (q : List VEntry) : (State.setVoq s d q).rearm = s.rearm := rfl
@[simp] theorem State.setVoq_skvBack (s : State) (d : Nat) (q : List VEntry) : (State.setVoq s d q).skvBack = s.skvBack := rfl
@[simp] theorem State.setVoq_fenced (s : State) (d : Nat) (q : List VEntry) : (State.setVoq s d q).fenced = s.fenced := rfl
@[simp] theorem State.setVoq_commitQ (s : State) (d : Nat) (q : List VEntry) : (State.setVoq s d q).commitQ = s.commitQ := rfl
@[simp] theorem State.setVoq_boundLog (s : State) (d : Nat) (q : List VEntry) : (State.setVoq s d q).boundLog = s.boundLog := rfl
@[simp] theorem State.setVoq_mirrorQ (s : State) (d : Nat) (q : List VEntry) : (State.setVoq s d q).mirrorQ = s.mirrorQ := rfl
@[simp] theorem State.setVoq_frames (s : State) (d : Nat) (q : List VEntry) : (State.setVoq s d q).frames = s.frames := rfl
@[simp] theorem State.setVoq_cells (s : State) (d : Nat) (q : List VEntry) : (State.setVoq s d q).cells = s.cells := rfl
@[simp] theorem State.setVoq_owners (s : State) (d : Nat) (q : List VEntry) : (State.setVoq s d q).owners = s.owners := rfl
@[simp] theorem State.setVoq_tenCells (s : State) (d : Nat) (q : List VEntry) : (State.setVoq s d q).tenCells = s.tenCells := rfl
@[simp] theorem State.setVoq_tenDrops (s : State) (d : Nat) (q : List VEntry) : (State.setVoq s d q).tenDrops = s.tenDrops := rfl
@[simp] theorem State.setVoq_grantPtr (s : State) (d : Nat) (q : List VEntry) : (State.setVoq s d q).grantPtr = s.grantPtr := rfl
@[simp] theorem State.setVoq_acceptPtr (s : State) (d : Nat) (q : List VEntry) : (State.setVoq s d q).acceptPtr = s.acceptPtr := rfl
@[simp] theorem State.setVoq_outQ (s : State) (d : Nat) (q : List VEntry) : (State.setVoq s d q).outQ = s.outQ := rfl
@[simp] theorem State.setVoq_slots (s : State) (d : Nat) (q : List VEntry) : (State.setVoq s d q).slots = s.slots := rfl
@[simp] theorem State.setVoq_clq (s : State) (d : Nat) (q : List VEntry) : (State.setVoq s d q).clq = s.clq := rfl
@[simp] theorem State.setVoq_shapers (s : State) (d : Nat) (q : List VEntry) : (State.setVoq s d q).shapers = s.shapers := rfl
@[simp] theorem State.setVoq_suspects (s : State) (d : Nat) (q : List VEntry) : (State.setVoq s d q).suspects = s.suspects := rfl
@[simp] theorem State.setVoq_engs (s : State) (d : Nat) (q : List VEntry) : (State.setVoq s d q).engs = s.engs := rfl
@[simp] theorem State.setVoq_cls (s : State) (d : Nat) (q : List VEntry) : (State.setVoq s d q).cls = s.cls := rfl
@[simp] theorem State.setVoq_imem (s : State) (d : Nat) (q : List VEntry) : (State.setVoq s d q).imem = s.imem := rfl
@[simp] theorem State.setVoq_imemErr (s : State) (d : Nat) (q : List VEntry) : (State.setVoq s d q).imemErr = s.imemErr := rfl
@[simp] theorem State.setVoq_spad (s : State) (d : Nat) (q : List VEntry) : (State.setVoq s d q).spad = s.spad := rfl
@[simp] theorem State.setVoq_spadErr (s : State) (d : Nat) (q : List VEntry) : (State.setVoq s d q).spadErr = s.spadErr := rfl
@[simp] theorem State.setVoq_lace (s : State) (d : Nat) (q : List VEntry) : (State.setVoq s d q).lace = s.lace := rfl
@[simp] theorem State.setVoq_cues (s : State) (d : Nat) (q : List VEntry) : (State.setVoq s d q).cues = s.cues := rfl
@[simp] theorem State.setVoq_ethPorts (s : State) (d : Nat) (q : List VEntry) : (State.setVoq s d q).ethPorts = s.ethPorts := rfl
@[simp] theorem State.setVoq_ethPairs (s : State) (d : Nat) (q : List VEntry) : (State.setVoq s d q).ethPairs = s.ethPairs := rfl
@[simp] theorem State.setVoq_serPorts (s : State) (d : Nat) (q : List VEntry) : (State.setVoq s d q).serPorts = s.serPorts := rfl
@[simp] theorem State.setVoq_ttGroups (s : State) (d : Nat) (q : List VEntry) : (State.setVoq s d q).ttGroups = s.ttGroups := rfl
@[simp] theorem State.setVoq_host (s : State) (d : Nat) (q : List VEntry) : (State.setVoq s d q).host = s.host := rfl
@[simp] theorem State.setVoq_pwr (s : State) (d : Nat) (q : List VEntry) : (State.setVoq s d q).pwr = s.pwr := rfl
@[simp] theorem State.setVoq_rcv (s : State) (d : Nat) (q : List VEntry) : (State.setVoq s d q).rcv = s.rcv := rfl
@[simp] theorem State.setVoq_arc (s : State) (d : Nat) (q : List VEntry) : (State.setVoq s d q).arc = s.arc := rfl
@[simp] theorem State.setVoq_welt (s : State) (d : Nat) (q : List VEntry) : (State.setVoq s d q).welt = s.welt := rfl
@[simp] theorem State.setVoq_rein (s : State) (d : Nat) (q : List VEntry) : (State.setVoq s d q).rein = s.rein := rfl
@[simp] theorem State.setOutQueue_regs (s : State) (d o : Nat) (q : List Nat) : (State.setOutQueue s d o q).regs = s.regs := rfl
@[simp] theorem State.setOutQueue_latch (s : State) (d o : Nat) (q : List Nat) : (State.setOutQueue s d o q).latch = s.latch := rfl
@[simp] theorem State.setOutQueue_errs (s : State) (d o : Nat) (q : List Nat) : (State.setOutQueue s d o q).errs = s.errs := rfl
@[simp] theorem State.setOutQueue_pages (s : State) (d o : Nat) (q : List Nat) : (State.setOutQueue s d o q).pages = s.pages := rfl
@[simp] theorem State.setOutQueue_fresh (s : State) (d o : Nat) (q : List Nat) : (State.setOutQueue s d o q).fresh = s.fresh := rfl
@[simp] theorem State.setOutQueue_resp (s : State) (d o : Nat) (q : List Nat) : (State.setOutQueue s d o q).resp = s.resp := rfl
@[simp] theorem State.setOutQueue_har (s : State) (d o : Nat) (q : List Nat) : (State.setOutQueue s d o q).har = s.har := rfl
@[simp] theorem State.setOutQueue_servo (s : State) (d o : Nat) (q : List Nat) : (State.setOutQueue s d o q).servo = s.servo := rfl
@[simp] theorem State.setOutQueue_frac (s : State) (d o : Nat) (q : List Nat) : (State.setOutQueue s d o q).frac = s.frac := rfl
@[simp] theorem State.setOutQueue_monoFrac (s : State) (d o : Nat) (q : List Nat) : (State.setOutQueue s d o q).monoFrac = s.monoFrac := rfl
@[simp] theorem State.setOutQueue_pulses (s : State) (d o : Nat) (q : List Nat) : (State.setOutQueue s d o q).pulses = s.pulses := rfl
@[simp] theorem State.setOutQueue_clkout (s : State) (d o : Nat) (q : List Nat) : (State.setOutQueue s d o q).clkout = s.clkout := rfl
@[simp] theorem State.setOutQueue_recD (s : State) (d o : Nat) (q : List Nat) : (State.setOutQueue s d o q).recD = s.recD := rfl
@[simp] theorem State.setOutQueue_recP (s : State) (d o : Nat) (q : List Nat) : (State.setOutQueue s d o q).recP = s.recP := rfl
@[simp] theorem State.setOutQueue_calFact (s : State) (d o : Nat) (q : List Nat) : (State.setOutQueue s d o q).calFact = s.calFact := rfl
@[simp] theorem State.setOutQueue_calUser (s : State) (d o : Nat) (q : List Nat) : (State.setOutQueue s d o q).calUser = s.calUser := rfl
@[simp] theorem State.setOutQueue_banks (s : State) (d o : Nat) (q : List Nat) : (State.setOutQueue s d o q).banks = s.banks := rfl
@[simp] theorem State.setOutQueue_skv (s : State) (d o : Nat) (q : List Nat) : (State.setOutQueue s d o q).skv = s.skv := rfl
@[simp] theorem State.setOutQueue_resync (s : State) (d o : Nat) (q : List Nat) : (State.setOutQueue s d o q).resync = s.resync := rfl
@[simp] theorem State.setOutQueue_rearm (s : State) (d o : Nat) (q : List Nat) : (State.setOutQueue s d o q).rearm = s.rearm := rfl
@[simp] theorem State.setOutQueue_skvBack (s : State) (d o : Nat) (q : List Nat) : (State.setOutQueue s d o q).skvBack = s.skvBack := rfl
@[simp] theorem State.setOutQueue_fenced (s : State) (d o : Nat) (q : List Nat) : (State.setOutQueue s d o q).fenced = s.fenced := rfl
@[simp] theorem State.setOutQueue_commitQ (s : State) (d o : Nat) (q : List Nat) : (State.setOutQueue s d o q).commitQ = s.commitQ := rfl
@[simp] theorem State.setOutQueue_boundLog (s : State) (d o : Nat) (q : List Nat) : (State.setOutQueue s d o q).boundLog = s.boundLog := rfl
@[simp] theorem State.setOutQueue_mirrorQ (s : State) (d o : Nat) (q : List Nat) : (State.setOutQueue s d o q).mirrorQ = s.mirrorQ := rfl
@[simp] theorem State.setOutQueue_frames (s : State) (d o : Nat) (q : List Nat) : (State.setOutQueue s d o q).frames = s.frames := rfl
@[simp] theorem State.setOutQueue_cells (s : State) (d o : Nat) (q : List Nat) : (State.setOutQueue s d o q).cells = s.cells := rfl
@[simp] theorem State.setOutQueue_owners (s : State) (d o : Nat) (q : List Nat) : (State.setOutQueue s d o q).owners = s.owners := rfl
@[simp] theorem State.setOutQueue_tenCells (s : State) (d o : Nat) (q : List Nat) : (State.setOutQueue s d o q).tenCells = s.tenCells := rfl
@[simp] theorem State.setOutQueue_tenDrops (s : State) (d o : Nat) (q : List Nat) : (State.setOutQueue s d o q).tenDrops = s.tenDrops := rfl
@[simp] theorem State.setOutQueue_voq (s : State) (d o : Nat) (q : List Nat) : (State.setOutQueue s d o q).voq = s.voq := rfl
@[simp] theorem State.setOutQueue_grantPtr (s : State) (d o : Nat) (q : List Nat) : (State.setOutQueue s d o q).grantPtr = s.grantPtr := rfl
@[simp] theorem State.setOutQueue_acceptPtr (s : State) (d o : Nat) (q : List Nat) : (State.setOutQueue s d o q).acceptPtr = s.acceptPtr := rfl
@[simp] theorem State.setOutQueue_slots (s : State) (d o : Nat) (q : List Nat) : (State.setOutQueue s d o q).slots = s.slots := rfl
@[simp] theorem State.setOutQueue_clq (s : State) (d o : Nat) (q : List Nat) : (State.setOutQueue s d o q).clq = s.clq := rfl
@[simp] theorem State.setOutQueue_shapers (s : State) (d o : Nat) (q : List Nat) : (State.setOutQueue s d o q).shapers = s.shapers := rfl
@[simp] theorem State.setOutQueue_suspects (s : State) (d o : Nat) (q : List Nat) : (State.setOutQueue s d o q).suspects = s.suspects := rfl
@[simp] theorem State.setOutQueue_engs (s : State) (d o : Nat) (q : List Nat) : (State.setOutQueue s d o q).engs = s.engs := rfl
@[simp] theorem State.setOutQueue_cls (s : State) (d o : Nat) (q : List Nat) : (State.setOutQueue s d o q).cls = s.cls := rfl
@[simp] theorem State.setOutQueue_imem (s : State) (d o : Nat) (q : List Nat) : (State.setOutQueue s d o q).imem = s.imem := rfl
@[simp] theorem State.setOutQueue_imemErr (s : State) (d o : Nat) (q : List Nat) : (State.setOutQueue s d o q).imemErr = s.imemErr := rfl
@[simp] theorem State.setOutQueue_spad (s : State) (d o : Nat) (q : List Nat) : (State.setOutQueue s d o q).spad = s.spad := rfl
@[simp] theorem State.setOutQueue_spadErr (s : State) (d o : Nat) (q : List Nat) : (State.setOutQueue s d o q).spadErr = s.spadErr := rfl
@[simp] theorem State.setOutQueue_lace (s : State) (d o : Nat) (q : List Nat) : (State.setOutQueue s d o q).lace = s.lace := rfl
@[simp] theorem State.setOutQueue_cues (s : State) (d o : Nat) (q : List Nat) : (State.setOutQueue s d o q).cues = s.cues := rfl
@[simp] theorem State.setOutQueue_ethPorts (s : State) (d o : Nat) (q : List Nat) : (State.setOutQueue s d o q).ethPorts = s.ethPorts := rfl
@[simp] theorem State.setOutQueue_ethPairs (s : State) (d o : Nat) (q : List Nat) : (State.setOutQueue s d o q).ethPairs = s.ethPairs := rfl
@[simp] theorem State.setOutQueue_serPorts (s : State) (d o : Nat) (q : List Nat) : (State.setOutQueue s d o q).serPorts = s.serPorts := rfl
@[simp] theorem State.setOutQueue_ttGroups (s : State) (d o : Nat) (q : List Nat) : (State.setOutQueue s d o q).ttGroups = s.ttGroups := rfl
@[simp] theorem State.setOutQueue_host (s : State) (d o : Nat) (q : List Nat) : (State.setOutQueue s d o q).host = s.host := rfl
@[simp] theorem State.setOutQueue_pwr (s : State) (d o : Nat) (q : List Nat) : (State.setOutQueue s d o q).pwr = s.pwr := rfl
@[simp] theorem State.setOutQueue_rcv (s : State) (d o : Nat) (q : List Nat) : (State.setOutQueue s d o q).rcv = s.rcv := rfl
@[simp] theorem State.setOutQueue_arc (s : State) (d o : Nat) (q : List Nat) : (State.setOutQueue s d o q).arc = s.arc := rfl
@[simp] theorem State.setOutQueue_welt (s : State) (d o : Nat) (q : List Nat) : (State.setOutQueue s d o q).welt = s.welt := rfl
@[simp] theorem State.setOutQueue_rein (s : State) (d o : Nat) (q : List Nat) : (State.setOutQueue s d o q).rein = s.rein := rfl
@[simp] theorem State.setSlot_regs (s : State) (d c i : Nat) (h : HeadSlot) : (State.setSlot s d c i h).regs = s.regs := rfl
@[simp] theorem State.setSlot_latch (s : State) (d c i : Nat) (h : HeadSlot) : (State.setSlot s d c i h).latch = s.latch := rfl
@[simp] theorem State.setSlot_errs (s : State) (d c i : Nat) (h : HeadSlot) : (State.setSlot s d c i h).errs = s.errs := rfl
@[simp] theorem State.setSlot_pages (s : State) (d c i : Nat) (h : HeadSlot) : (State.setSlot s d c i h).pages = s.pages := rfl
@[simp] theorem State.setSlot_fresh (s : State) (d c i : Nat) (h : HeadSlot) : (State.setSlot s d c i h).fresh = s.fresh := rfl
@[simp] theorem State.setSlot_resp (s : State) (d c i : Nat) (h : HeadSlot) : (State.setSlot s d c i h).resp = s.resp := rfl
@[simp] theorem State.setSlot_har (s : State) (d c i : Nat) (h : HeadSlot) : (State.setSlot s d c i h).har = s.har := rfl
@[simp] theorem State.setSlot_servo (s : State) (d c i : Nat) (h : HeadSlot) : (State.setSlot s d c i h).servo = s.servo := rfl
@[simp] theorem State.setSlot_frac (s : State) (d c i : Nat) (h : HeadSlot) : (State.setSlot s d c i h).frac = s.frac := rfl
@[simp] theorem State.setSlot_monoFrac (s : State) (d c i : Nat) (h : HeadSlot) : (State.setSlot s d c i h).monoFrac = s.monoFrac := rfl
@[simp] theorem State.setSlot_pulses (s : State) (d c i : Nat) (h : HeadSlot) : (State.setSlot s d c i h).pulses = s.pulses := rfl
@[simp] theorem State.setSlot_clkout (s : State) (d c i : Nat) (h : HeadSlot) : (State.setSlot s d c i h).clkout = s.clkout := rfl
@[simp] theorem State.setSlot_recD (s : State) (d c i : Nat) (h : HeadSlot) : (State.setSlot s d c i h).recD = s.recD := rfl
@[simp] theorem State.setSlot_recP (s : State) (d c i : Nat) (h : HeadSlot) : (State.setSlot s d c i h).recP = s.recP := rfl
@[simp] theorem State.setSlot_calFact (s : State) (d c i : Nat) (h : HeadSlot) : (State.setSlot s d c i h).calFact = s.calFact := rfl
@[simp] theorem State.setSlot_calUser (s : State) (d c i : Nat) (h : HeadSlot) : (State.setSlot s d c i h).calUser = s.calUser := rfl
@[simp] theorem State.setSlot_banks (s : State) (d c i : Nat) (h : HeadSlot) : (State.setSlot s d c i h).banks = s.banks := rfl
@[simp] theorem State.setSlot_skv (s : State) (d c i : Nat) (h : HeadSlot) : (State.setSlot s d c i h).skv = s.skv := rfl
@[simp] theorem State.setSlot_resync (s : State) (d c i : Nat) (h : HeadSlot) : (State.setSlot s d c i h).resync = s.resync := rfl
@[simp] theorem State.setSlot_rearm (s : State) (d c i : Nat) (h : HeadSlot) : (State.setSlot s d c i h).rearm = s.rearm := rfl
@[simp] theorem State.setSlot_skvBack (s : State) (d c i : Nat) (h : HeadSlot) : (State.setSlot s d c i h).skvBack = s.skvBack := rfl
@[simp] theorem State.setSlot_fenced (s : State) (d c i : Nat) (h : HeadSlot) : (State.setSlot s d c i h).fenced = s.fenced := rfl
@[simp] theorem State.setSlot_commitQ (s : State) (d c i : Nat) (h : HeadSlot) : (State.setSlot s d c i h).commitQ = s.commitQ := rfl
@[simp] theorem State.setSlot_boundLog (s : State) (d c i : Nat) (h : HeadSlot) : (State.setSlot s d c i h).boundLog = s.boundLog := rfl
@[simp] theorem State.setSlot_mirrorQ (s : State) (d c i : Nat) (h : HeadSlot) : (State.setSlot s d c i h).mirrorQ = s.mirrorQ := rfl
@[simp] theorem State.setSlot_frames (s : State) (d c i : Nat) (h : HeadSlot) : (State.setSlot s d c i h).frames = s.frames := rfl
@[simp] theorem State.setSlot_cells (s : State) (d c i : Nat) (h : HeadSlot) : (State.setSlot s d c i h).cells = s.cells := rfl
@[simp] theorem State.setSlot_owners (s : State) (d c i : Nat) (h : HeadSlot) : (State.setSlot s d c i h).owners = s.owners := rfl
@[simp] theorem State.setSlot_tenCells (s : State) (d c i : Nat) (h : HeadSlot) : (State.setSlot s d c i h).tenCells = s.tenCells := rfl
@[simp] theorem State.setSlot_tenDrops (s : State) (d c i : Nat) (h : HeadSlot) : (State.setSlot s d c i h).tenDrops = s.tenDrops := rfl
@[simp] theorem State.setSlot_voq (s : State) (d c i : Nat) (h : HeadSlot) : (State.setSlot s d c i h).voq = s.voq := rfl
@[simp] theorem State.setSlot_grantPtr (s : State) (d c i : Nat) (h : HeadSlot) : (State.setSlot s d c i h).grantPtr = s.grantPtr := rfl
@[simp] theorem State.setSlot_acceptPtr (s : State) (d c i : Nat) (h : HeadSlot) : (State.setSlot s d c i h).acceptPtr = s.acceptPtr := rfl
@[simp] theorem State.setSlot_outQ (s : State) (d c i : Nat) (h : HeadSlot) : (State.setSlot s d c i h).outQ = s.outQ := rfl
@[simp] theorem State.setSlot_clq (s : State) (d c i : Nat) (h : HeadSlot) : (State.setSlot s d c i h).clq = s.clq := rfl
@[simp] theorem State.setSlot_shapers (s : State) (d c i : Nat) (h : HeadSlot) : (State.setSlot s d c i h).shapers = s.shapers := rfl
@[simp] theorem State.setSlot_suspects (s : State) (d c i : Nat) (h : HeadSlot) : (State.setSlot s d c i h).suspects = s.suspects := rfl
@[simp] theorem State.setSlot_engs (s : State) (d c i : Nat) (h : HeadSlot) : (State.setSlot s d c i h).engs = s.engs := rfl
@[simp] theorem State.setSlot_cls (s : State) (d c i : Nat) (h : HeadSlot) : (State.setSlot s d c i h).cls = s.cls := rfl
@[simp] theorem State.setSlot_imem (s : State) (d c i : Nat) (h : HeadSlot) : (State.setSlot s d c i h).imem = s.imem := rfl
@[simp] theorem State.setSlot_imemErr (s : State) (d c i : Nat) (h : HeadSlot) : (State.setSlot s d c i h).imemErr = s.imemErr := rfl
@[simp] theorem State.setSlot_spad (s : State) (d c i : Nat) (h : HeadSlot) : (State.setSlot s d c i h).spad = s.spad := rfl
@[simp] theorem State.setSlot_spadErr (s : State) (d c i : Nat) (h : HeadSlot) : (State.setSlot s d c i h).spadErr = s.spadErr := rfl
@[simp] theorem State.setSlot_lace (s : State) (d c i : Nat) (h : HeadSlot) : (State.setSlot s d c i h).lace = s.lace := rfl
@[simp] theorem State.setSlot_cues (s : State) (d c i : Nat) (h : HeadSlot) : (State.setSlot s d c i h).cues = s.cues := rfl
@[simp] theorem State.setSlot_ethPorts (s : State) (d c i : Nat) (h : HeadSlot) : (State.setSlot s d c i h).ethPorts = s.ethPorts := rfl
@[simp] theorem State.setSlot_ethPairs (s : State) (d c i : Nat) (h : HeadSlot) : (State.setSlot s d c i h).ethPairs = s.ethPairs := rfl
@[simp] theorem State.setSlot_serPorts (s : State) (d c i : Nat) (h : HeadSlot) : (State.setSlot s d c i h).serPorts = s.serPorts := rfl
@[simp] theorem State.setSlot_ttGroups (s : State) (d c i : Nat) (h : HeadSlot) : (State.setSlot s d c i h).ttGroups = s.ttGroups := rfl
@[simp] theorem State.setSlot_host (s : State) (d c i : Nat) (h : HeadSlot) : (State.setSlot s d c i h).host = s.host := rfl
@[simp] theorem State.setSlot_pwr (s : State) (d c i : Nat) (h : HeadSlot) : (State.setSlot s d c i h).pwr = s.pwr := rfl
@[simp] theorem State.setSlot_rcv (s : State) (d c i : Nat) (h : HeadSlot) : (State.setSlot s d c i h).rcv = s.rcv := rfl
@[simp] theorem State.setSlot_arc (s : State) (d c i : Nat) (h : HeadSlot) : (State.setSlot s d c i h).arc = s.arc := rfl
@[simp] theorem State.setSlot_welt (s : State) (d c i : Nat) (h : HeadSlot) : (State.setSlot s d c i h).welt = s.welt := rfl
@[simp] theorem State.setSlot_rein (s : State) (d c i : Nat) (h : HeadSlot) : (State.setSlot s d c i h).rein = s.rein := rfl
@[simp] theorem State.setQueued_regs (s : State) (d c q : Nat) (l : List Nat) : (State.setQueued s d c q l).regs = s.regs := rfl
@[simp] theorem State.setQueued_latch (s : State) (d c q : Nat) (l : List Nat) : (State.setQueued s d c q l).latch = s.latch := rfl
@[simp] theorem State.setQueued_errs (s : State) (d c q : Nat) (l : List Nat) : (State.setQueued s d c q l).errs = s.errs := rfl
@[simp] theorem State.setQueued_pages (s : State) (d c q : Nat) (l : List Nat) : (State.setQueued s d c q l).pages = s.pages := rfl
@[simp] theorem State.setQueued_fresh (s : State) (d c q : Nat) (l : List Nat) : (State.setQueued s d c q l).fresh = s.fresh := rfl
@[simp] theorem State.setQueued_resp (s : State) (d c q : Nat) (l : List Nat) : (State.setQueued s d c q l).resp = s.resp := rfl
@[simp] theorem State.setQueued_har (s : State) (d c q : Nat) (l : List Nat) : (State.setQueued s d c q l).har = s.har := rfl
@[simp] theorem State.setQueued_servo (s : State) (d c q : Nat) (l : List Nat) : (State.setQueued s d c q l).servo = s.servo := rfl
@[simp] theorem State.setQueued_frac (s : State) (d c q : Nat) (l : List Nat) : (State.setQueued s d c q l).frac = s.frac := rfl
@[simp] theorem State.setQueued_monoFrac (s : State) (d c q : Nat) (l : List Nat) : (State.setQueued s d c q l).monoFrac = s.monoFrac := rfl
@[simp] theorem State.setQueued_pulses (s : State) (d c q : Nat) (l : List Nat) : (State.setQueued s d c q l).pulses = s.pulses := rfl
@[simp] theorem State.setQueued_clkout (s : State) (d c q : Nat) (l : List Nat) : (State.setQueued s d c q l).clkout = s.clkout := rfl
@[simp] theorem State.setQueued_recD (s : State) (d c q : Nat) (l : List Nat) : (State.setQueued s d c q l).recD = s.recD := rfl
@[simp] theorem State.setQueued_recP (s : State) (d c q : Nat) (l : List Nat) : (State.setQueued s d c q l).recP = s.recP := rfl
@[simp] theorem State.setQueued_calFact (s : State) (d c q : Nat) (l : List Nat) : (State.setQueued s d c q l).calFact = s.calFact := rfl
@[simp] theorem State.setQueued_calUser (s : State) (d c q : Nat) (l : List Nat) : (State.setQueued s d c q l).calUser = s.calUser := rfl
@[simp] theorem State.setQueued_banks (s : State) (d c q : Nat) (l : List Nat) : (State.setQueued s d c q l).banks = s.banks := rfl
@[simp] theorem State.setQueued_skv (s : State) (d c q : Nat) (l : List Nat) : (State.setQueued s d c q l).skv = s.skv := rfl
@[simp] theorem State.setQueued_resync (s : State) (d c q : Nat) (l : List Nat) : (State.setQueued s d c q l).resync = s.resync := rfl
@[simp] theorem State.setQueued_rearm (s : State) (d c q : Nat) (l : List Nat) : (State.setQueued s d c q l).rearm = s.rearm := rfl
@[simp] theorem State.setQueued_skvBack (s : State) (d c q : Nat) (l : List Nat) : (State.setQueued s d c q l).skvBack = s.skvBack := rfl
@[simp] theorem State.setQueued_fenced (s : State) (d c q : Nat) (l : List Nat) : (State.setQueued s d c q l).fenced = s.fenced := rfl
@[simp] theorem State.setQueued_commitQ (s : State) (d c q : Nat) (l : List Nat) : (State.setQueued s d c q l).commitQ = s.commitQ := rfl
@[simp] theorem State.setQueued_boundLog (s : State) (d c q : Nat) (l : List Nat) : (State.setQueued s d c q l).boundLog = s.boundLog := rfl
@[simp] theorem State.setQueued_mirrorQ (s : State) (d c q : Nat) (l : List Nat) : (State.setQueued s d c q l).mirrorQ = s.mirrorQ := rfl
@[simp] theorem State.setQueued_frames (s : State) (d c q : Nat) (l : List Nat) : (State.setQueued s d c q l).frames = s.frames := rfl
@[simp] theorem State.setQueued_cells (s : State) (d c q : Nat) (l : List Nat) : (State.setQueued s d c q l).cells = s.cells := rfl
@[simp] theorem State.setQueued_owners (s : State) (d c q : Nat) (l : List Nat) : (State.setQueued s d c q l).owners = s.owners := rfl
@[simp] theorem State.setQueued_tenCells (s : State) (d c q : Nat) (l : List Nat) : (State.setQueued s d c q l).tenCells = s.tenCells := rfl
@[simp] theorem State.setQueued_tenDrops (s : State) (d c q : Nat) (l : List Nat) : (State.setQueued s d c q l).tenDrops = s.tenDrops := rfl
@[simp] theorem State.setQueued_voq (s : State) (d c q : Nat) (l : List Nat) : (State.setQueued s d c q l).voq = s.voq := rfl
@[simp] theorem State.setQueued_grantPtr (s : State) (d c q : Nat) (l : List Nat) : (State.setQueued s d c q l).grantPtr = s.grantPtr := rfl
@[simp] theorem State.setQueued_acceptPtr (s : State) (d c q : Nat) (l : List Nat) : (State.setQueued s d c q l).acceptPtr = s.acceptPtr := rfl
@[simp] theorem State.setQueued_outQ (s : State) (d c q : Nat) (l : List Nat) : (State.setQueued s d c q l).outQ = s.outQ := rfl
@[simp] theorem State.setQueued_slots (s : State) (d c q : Nat) (l : List Nat) : (State.setQueued s d c q l).slots = s.slots := rfl
@[simp] theorem State.setQueued_shapers (s : State) (d c q : Nat) (l : List Nat) : (State.setQueued s d c q l).shapers = s.shapers := rfl
@[simp] theorem State.setQueued_suspects (s : State) (d c q : Nat) (l : List Nat) : (State.setQueued s d c q l).suspects = s.suspects := rfl
@[simp] theorem State.setQueued_engs (s : State) (d c q : Nat) (l : List Nat) : (State.setQueued s d c q l).engs = s.engs := rfl
@[simp] theorem State.setQueued_cls (s : State) (d c q : Nat) (l : List Nat) : (State.setQueued s d c q l).cls = s.cls := rfl
@[simp] theorem State.setQueued_imem (s : State) (d c q : Nat) (l : List Nat) : (State.setQueued s d c q l).imem = s.imem := rfl
@[simp] theorem State.setQueued_imemErr (s : State) (d c q : Nat) (l : List Nat) : (State.setQueued s d c q l).imemErr = s.imemErr := rfl
@[simp] theorem State.setQueued_spad (s : State) (d c q : Nat) (l : List Nat) : (State.setQueued s d c q l).spad = s.spad := rfl
@[simp] theorem State.setQueued_spadErr (s : State) (d c q : Nat) (l : List Nat) : (State.setQueued s d c q l).spadErr = s.spadErr := rfl
@[simp] theorem State.setQueued_lace (s : State) (d c q : Nat) (l : List Nat) : (State.setQueued s d c q l).lace = s.lace := rfl
@[simp] theorem State.setQueued_cues (s : State) (d c q : Nat) (l : List Nat) : (State.setQueued s d c q l).cues = s.cues := rfl
@[simp] theorem State.setQueued_ethPorts (s : State) (d c q : Nat) (l : List Nat) : (State.setQueued s d c q l).ethPorts = s.ethPorts := rfl
@[simp] theorem State.setQueued_ethPairs (s : State) (d c q : Nat) (l : List Nat) : (State.setQueued s d c q l).ethPairs = s.ethPairs := rfl
@[simp] theorem State.setQueued_serPorts (s : State) (d c q : Nat) (l : List Nat) : (State.setQueued s d c q l).serPorts = s.serPorts := rfl
@[simp] theorem State.setQueued_ttGroups (s : State) (d c q : Nat) (l : List Nat) : (State.setQueued s d c q l).ttGroups = s.ttGroups := rfl
@[simp] theorem State.setQueued_host (s : State) (d c q : Nat) (l : List Nat) : (State.setQueued s d c q l).host = s.host := rfl
@[simp] theorem State.setQueued_pwr (s : State) (d c q : Nat) (l : List Nat) : (State.setQueued s d c q l).pwr = s.pwr := rfl
@[simp] theorem State.setQueued_rcv (s : State) (d c q : Nat) (l : List Nat) : (State.setQueued s d c q l).rcv = s.rcv := rfl
@[simp] theorem State.setQueued_arc (s : State) (d c q : Nat) (l : List Nat) : (State.setQueued s d c q l).arc = s.arc := rfl
@[simp] theorem State.setQueued_welt (s : State) (d c q : Nat) (l : List Nat) : (State.setQueued s d c q l).welt = s.welt := rfl
@[simp] theorem State.setQueued_rein (s : State) (d c q : Nat) (l : List Nat) : (State.setQueued s d c q l).rein = s.rein := rfl
@[simp] theorem State.setLatch_regs (s : State) (k : Nat) (v : Option Nat) : (State.setLatch s k v).regs = s.regs := rfl
@[simp] theorem State.setLatch_errs (s : State) (k : Nat) (v : Option Nat) : (State.setLatch s k v).errs = s.errs := rfl
@[simp] theorem State.setLatch_pages (s : State) (k : Nat) (v : Option Nat) : (State.setLatch s k v).pages = s.pages := rfl
@[simp] theorem State.setLatch_fresh (s : State) (k : Nat) (v : Option Nat) : (State.setLatch s k v).fresh = s.fresh := rfl
@[simp] theorem State.setLatch_resp (s : State) (k : Nat) (v : Option Nat) : (State.setLatch s k v).resp = s.resp := rfl
@[simp] theorem State.setLatch_har (s : State) (k : Nat) (v : Option Nat) : (State.setLatch s k v).har = s.har := rfl
@[simp] theorem State.setLatch_servo (s : State) (k : Nat) (v : Option Nat) : (State.setLatch s k v).servo = s.servo := rfl
@[simp] theorem State.setLatch_frac (s : State) (k : Nat) (v : Option Nat) : (State.setLatch s k v).frac = s.frac := rfl
@[simp] theorem State.setLatch_monoFrac (s : State) (k : Nat) (v : Option Nat) : (State.setLatch s k v).monoFrac = s.monoFrac := rfl
@[simp] theorem State.setLatch_pulses (s : State) (k : Nat) (v : Option Nat) : (State.setLatch s k v).pulses = s.pulses := rfl
@[simp] theorem State.setLatch_clkout (s : State) (k : Nat) (v : Option Nat) : (State.setLatch s k v).clkout = s.clkout := rfl
@[simp] theorem State.setLatch_recD (s : State) (k : Nat) (v : Option Nat) : (State.setLatch s k v).recD = s.recD := rfl
@[simp] theorem State.setLatch_recP (s : State) (k : Nat) (v : Option Nat) : (State.setLatch s k v).recP = s.recP := rfl
@[simp] theorem State.setLatch_calFact (s : State) (k : Nat) (v : Option Nat) : (State.setLatch s k v).calFact = s.calFact := rfl
@[simp] theorem State.setLatch_calUser (s : State) (k : Nat) (v : Option Nat) : (State.setLatch s k v).calUser = s.calUser := rfl
@[simp] theorem State.setLatch_banks (s : State) (k : Nat) (v : Option Nat) : (State.setLatch s k v).banks = s.banks := rfl
@[simp] theorem State.setLatch_skv (s : State) (k : Nat) (v : Option Nat) : (State.setLatch s k v).skv = s.skv := rfl
@[simp] theorem State.setLatch_resync (s : State) (k : Nat) (v : Option Nat) : (State.setLatch s k v).resync = s.resync := rfl
@[simp] theorem State.setLatch_rearm (s : State) (k : Nat) (v : Option Nat) : (State.setLatch s k v).rearm = s.rearm := rfl
@[simp] theorem State.setLatch_skvBack (s : State) (k : Nat) (v : Option Nat) : (State.setLatch s k v).skvBack = s.skvBack := rfl
@[simp] theorem State.setLatch_fenced (s : State) (k : Nat) (v : Option Nat) : (State.setLatch s k v).fenced = s.fenced := rfl
@[simp] theorem State.setLatch_commitQ (s : State) (k : Nat) (v : Option Nat) : (State.setLatch s k v).commitQ = s.commitQ := rfl
@[simp] theorem State.setLatch_boundLog (s : State) (k : Nat) (v : Option Nat) : (State.setLatch s k v).boundLog = s.boundLog := rfl
@[simp] theorem State.setLatch_mirrorQ (s : State) (k : Nat) (v : Option Nat) : (State.setLatch s k v).mirrorQ = s.mirrorQ := rfl
@[simp] theorem State.setLatch_frames (s : State) (k : Nat) (v : Option Nat) : (State.setLatch s k v).frames = s.frames := rfl
@[simp] theorem State.setLatch_cells (s : State) (k : Nat) (v : Option Nat) : (State.setLatch s k v).cells = s.cells := rfl
@[simp] theorem State.setLatch_owners (s : State) (k : Nat) (v : Option Nat) : (State.setLatch s k v).owners = s.owners := rfl
@[simp] theorem State.setLatch_tenCells (s : State) (k : Nat) (v : Option Nat) : (State.setLatch s k v).tenCells = s.tenCells := rfl
@[simp] theorem State.setLatch_tenDrops (s : State) (k : Nat) (v : Option Nat) : (State.setLatch s k v).tenDrops = s.tenDrops := rfl
@[simp] theorem State.setLatch_voq (s : State) (k : Nat) (v : Option Nat) : (State.setLatch s k v).voq = s.voq := rfl
@[simp] theorem State.setLatch_grantPtr (s : State) (k : Nat) (v : Option Nat) : (State.setLatch s k v).grantPtr = s.grantPtr := rfl
@[simp] theorem State.setLatch_acceptPtr (s : State) (k : Nat) (v : Option Nat) : (State.setLatch s k v).acceptPtr = s.acceptPtr := rfl
@[simp] theorem State.setLatch_outQ (s : State) (k : Nat) (v : Option Nat) : (State.setLatch s k v).outQ = s.outQ := rfl
@[simp] theorem State.setLatch_slots (s : State) (k : Nat) (v : Option Nat) : (State.setLatch s k v).slots = s.slots := rfl
@[simp] theorem State.setLatch_clq (s : State) (k : Nat) (v : Option Nat) : (State.setLatch s k v).clq = s.clq := rfl
@[simp] theorem State.setLatch_shapers (s : State) (k : Nat) (v : Option Nat) : (State.setLatch s k v).shapers = s.shapers := rfl
@[simp] theorem State.setLatch_suspects (s : State) (k : Nat) (v : Option Nat) : (State.setLatch s k v).suspects = s.suspects := rfl
@[simp] theorem State.setLatch_engs (s : State) (k : Nat) (v : Option Nat) : (State.setLatch s k v).engs = s.engs := rfl
@[simp] theorem State.setLatch_cls (s : State) (k : Nat) (v : Option Nat) : (State.setLatch s k v).cls = s.cls := rfl
@[simp] theorem State.setLatch_imem (s : State) (k : Nat) (v : Option Nat) : (State.setLatch s k v).imem = s.imem := rfl
@[simp] theorem State.setLatch_imemErr (s : State) (k : Nat) (v : Option Nat) : (State.setLatch s k v).imemErr = s.imemErr := rfl
@[simp] theorem State.setLatch_spad (s : State) (k : Nat) (v : Option Nat) : (State.setLatch s k v).spad = s.spad := rfl
@[simp] theorem State.setLatch_spadErr (s : State) (k : Nat) (v : Option Nat) : (State.setLatch s k v).spadErr = s.spadErr := rfl
@[simp] theorem State.setLatch_lace (s : State) (k : Nat) (v : Option Nat) : (State.setLatch s k v).lace = s.lace := rfl
@[simp] theorem State.setLatch_cues (s : State) (k : Nat) (v : Option Nat) : (State.setLatch s k v).cues = s.cues := rfl
@[simp] theorem State.setLatch_ethPorts (s : State) (k : Nat) (v : Option Nat) : (State.setLatch s k v).ethPorts = s.ethPorts := rfl
@[simp] theorem State.setLatch_ethPairs (s : State) (k : Nat) (v : Option Nat) : (State.setLatch s k v).ethPairs = s.ethPairs := rfl
@[simp] theorem State.setLatch_serPorts (s : State) (k : Nat) (v : Option Nat) : (State.setLatch s k v).serPorts = s.serPorts := rfl
@[simp] theorem State.setLatch_ttGroups (s : State) (k : Nat) (v : Option Nat) : (State.setLatch s k v).ttGroups = s.ttGroups := rfl
@[simp] theorem State.setLatch_host (s : State) (k : Nat) (v : Option Nat) : (State.setLatch s k v).host = s.host := rfl
@[simp] theorem State.setLatch_pwr (s : State) (k : Nat) (v : Option Nat) : (State.setLatch s k v).pwr = s.pwr := rfl
@[simp] theorem State.setLatch_rcv (s : State) (k : Nat) (v : Option Nat) : (State.setLatch s k v).rcv = s.rcv := rfl
@[simp] theorem State.setLatch_arc (s : State) (k : Nat) (v : Option Nat) : (State.setLatch s k v).arc = s.arc := rfl
@[simp] theorem State.setLatch_welt (s : State) (k : Nat) (v : Option Nat) : (State.setLatch s k v).welt = s.welt := rfl
@[simp] theorem State.setLatch_rein (s : State) (k : Nat) (v : Option Nat) : (State.setLatch s k v).rein = s.rein := rfl
@[simp] theorem State.answered_regs (s : State) (data : List Nat) : (State.answered s data).regs = s.regs := rfl
@[simp] theorem State.answered_latch (s : State) (data : List Nat) : (State.answered s data).latch = s.latch := rfl
@[simp] theorem State.answered_errs (s : State) (data : List Nat) : (State.answered s data).errs = s.errs := rfl
@[simp] theorem State.answered_pages (s : State) (data : List Nat) : (State.answered s data).pages = s.pages := rfl
@[simp] theorem State.answered_fresh (s : State) (data : List Nat) : (State.answered s data).fresh = s.fresh := rfl
@[simp] theorem State.answered_har (s : State) (data : List Nat) : (State.answered s data).har = s.har := rfl
@[simp] theorem State.answered_servo (s : State) (data : List Nat) : (State.answered s data).servo = s.servo := rfl
@[simp] theorem State.answered_frac (s : State) (data : List Nat) : (State.answered s data).frac = s.frac := rfl
@[simp] theorem State.answered_monoFrac (s : State) (data : List Nat) : (State.answered s data).monoFrac = s.monoFrac := rfl
@[simp] theorem State.answered_pulses (s : State) (data : List Nat) : (State.answered s data).pulses = s.pulses := rfl
@[simp] theorem State.answered_clkout (s : State) (data : List Nat) : (State.answered s data).clkout = s.clkout := rfl
@[simp] theorem State.answered_recD (s : State) (data : List Nat) : (State.answered s data).recD = s.recD := rfl
@[simp] theorem State.answered_recP (s : State) (data : List Nat) : (State.answered s data).recP = s.recP := rfl
@[simp] theorem State.answered_calFact (s : State) (data : List Nat) : (State.answered s data).calFact = s.calFact := rfl
@[simp] theorem State.answered_calUser (s : State) (data : List Nat) : (State.answered s data).calUser = s.calUser := rfl
@[simp] theorem State.answered_banks (s : State) (data : List Nat) : (State.answered s data).banks = s.banks := rfl
@[simp] theorem State.answered_skv (s : State) (data : List Nat) : (State.answered s data).skv = s.skv := rfl
@[simp] theorem State.answered_resync (s : State) (data : List Nat) : (State.answered s data).resync = s.resync := rfl
@[simp] theorem State.answered_rearm (s : State) (data : List Nat) : (State.answered s data).rearm = s.rearm := rfl
@[simp] theorem State.answered_skvBack (s : State) (data : List Nat) : (State.answered s data).skvBack = s.skvBack := rfl
@[simp] theorem State.answered_fenced (s : State) (data : List Nat) : (State.answered s data).fenced = s.fenced := rfl
@[simp] theorem State.answered_commitQ (s : State) (data : List Nat) : (State.answered s data).commitQ = s.commitQ := rfl
@[simp] theorem State.answered_boundLog (s : State) (data : List Nat) : (State.answered s data).boundLog = s.boundLog := rfl
@[simp] theorem State.answered_mirrorQ (s : State) (data : List Nat) : (State.answered s data).mirrorQ = s.mirrorQ := rfl
@[simp] theorem State.answered_frames (s : State) (data : List Nat) : (State.answered s data).frames = s.frames := rfl
@[simp] theorem State.answered_cells (s : State) (data : List Nat) : (State.answered s data).cells = s.cells := rfl
@[simp] theorem State.answered_owners (s : State) (data : List Nat) : (State.answered s data).owners = s.owners := rfl
@[simp] theorem State.answered_tenCells (s : State) (data : List Nat) : (State.answered s data).tenCells = s.tenCells := rfl
@[simp] theorem State.answered_tenDrops (s : State) (data : List Nat) : (State.answered s data).tenDrops = s.tenDrops := rfl
@[simp] theorem State.answered_voq (s : State) (data : List Nat) : (State.answered s data).voq = s.voq := rfl
@[simp] theorem State.answered_grantPtr (s : State) (data : List Nat) : (State.answered s data).grantPtr = s.grantPtr := rfl
@[simp] theorem State.answered_acceptPtr (s : State) (data : List Nat) : (State.answered s data).acceptPtr = s.acceptPtr := rfl
@[simp] theorem State.answered_outQ (s : State) (data : List Nat) : (State.answered s data).outQ = s.outQ := rfl
@[simp] theorem State.answered_slots (s : State) (data : List Nat) : (State.answered s data).slots = s.slots := rfl
@[simp] theorem State.answered_clq (s : State) (data : List Nat) : (State.answered s data).clq = s.clq := rfl
@[simp] theorem State.answered_shapers (s : State) (data : List Nat) : (State.answered s data).shapers = s.shapers := rfl
@[simp] theorem State.answered_suspects (s : State) (data : List Nat) : (State.answered s data).suspects = s.suspects := rfl
@[simp] theorem State.answered_engs (s : State) (data : List Nat) : (State.answered s data).engs = s.engs := rfl
@[simp] theorem State.answered_cls (s : State) (data : List Nat) : (State.answered s data).cls = s.cls := rfl
@[simp] theorem State.answered_imem (s : State) (data : List Nat) : (State.answered s data).imem = s.imem := rfl
@[simp] theorem State.answered_imemErr (s : State) (data : List Nat) : (State.answered s data).imemErr = s.imemErr := rfl
@[simp] theorem State.answered_spad (s : State) (data : List Nat) : (State.answered s data).spad = s.spad := rfl
@[simp] theorem State.answered_spadErr (s : State) (data : List Nat) : (State.answered s data).spadErr = s.spadErr := rfl
@[simp] theorem State.answered_lace (s : State) (data : List Nat) : (State.answered s data).lace = s.lace := rfl
@[simp] theorem State.answered_cues (s : State) (data : List Nat) : (State.answered s data).cues = s.cues := rfl
@[simp] theorem State.answered_ethPorts (s : State) (data : List Nat) : (State.answered s data).ethPorts = s.ethPorts := rfl
@[simp] theorem State.answered_ethPairs (s : State) (data : List Nat) : (State.answered s data).ethPairs = s.ethPairs := rfl
@[simp] theorem State.answered_serPorts (s : State) (data : List Nat) : (State.answered s data).serPorts = s.serPorts := rfl
@[simp] theorem State.answered_ttGroups (s : State) (data : List Nat) : (State.answered s data).ttGroups = s.ttGroups := rfl
@[simp] theorem State.answered_host (s : State) (data : List Nat) : (State.answered s data).host = s.host := rfl
@[simp] theorem State.answered_pwr (s : State) (data : List Nat) : (State.answered s data).pwr = s.pwr := rfl
@[simp] theorem State.answered_rcv (s : State) (data : List Nat) : (State.answered s data).rcv = s.rcv := rfl
@[simp] theorem State.answered_arc (s : State) (data : List Nat) : (State.answered s data).arc = s.arc := rfl
@[simp] theorem State.answered_welt (s : State) (data : List Nat) : (State.answered s data).welt = s.welt := rfl
@[simp] theorem State.answered_rein (s : State) (data : List Nat) : (State.answered s data).rein = s.rein := rfl
@[simp] theorem State.refusedReq_regs (s : State) : (State.refusedReq s).regs = s.regs := rfl
@[simp] theorem State.refusedReq_latch (s : State) : (State.refusedReq s).latch = s.latch := rfl
@[simp] theorem State.refusedReq_errs (s : State) : (State.refusedReq s).errs = s.errs := rfl
@[simp] theorem State.refusedReq_pages (s : State) : (State.refusedReq s).pages = s.pages := rfl
@[simp] theorem State.refusedReq_fresh (s : State) : (State.refusedReq s).fresh = s.fresh := rfl
@[simp] theorem State.refusedReq_har (s : State) : (State.refusedReq s).har = s.har := rfl
@[simp] theorem State.refusedReq_servo (s : State) : (State.refusedReq s).servo = s.servo := rfl
@[simp] theorem State.refusedReq_frac (s : State) : (State.refusedReq s).frac = s.frac := rfl
@[simp] theorem State.refusedReq_monoFrac (s : State) : (State.refusedReq s).monoFrac = s.monoFrac := rfl
@[simp] theorem State.refusedReq_pulses (s : State) : (State.refusedReq s).pulses = s.pulses := rfl
@[simp] theorem State.refusedReq_clkout (s : State) : (State.refusedReq s).clkout = s.clkout := rfl
@[simp] theorem State.refusedReq_recD (s : State) : (State.refusedReq s).recD = s.recD := rfl
@[simp] theorem State.refusedReq_recP (s : State) : (State.refusedReq s).recP = s.recP := rfl
@[simp] theorem State.refusedReq_calFact (s : State) : (State.refusedReq s).calFact = s.calFact := rfl
@[simp] theorem State.refusedReq_calUser (s : State) : (State.refusedReq s).calUser = s.calUser := rfl
@[simp] theorem State.refusedReq_banks (s : State) : (State.refusedReq s).banks = s.banks := rfl
@[simp] theorem State.refusedReq_skv (s : State) : (State.refusedReq s).skv = s.skv := rfl
@[simp] theorem State.refusedReq_resync (s : State) : (State.refusedReq s).resync = s.resync := rfl
@[simp] theorem State.refusedReq_rearm (s : State) : (State.refusedReq s).rearm = s.rearm := rfl
@[simp] theorem State.refusedReq_skvBack (s : State) : (State.refusedReq s).skvBack = s.skvBack := rfl
@[simp] theorem State.refusedReq_fenced (s : State) : (State.refusedReq s).fenced = s.fenced := rfl
@[simp] theorem State.refusedReq_commitQ (s : State) : (State.refusedReq s).commitQ = s.commitQ := rfl
@[simp] theorem State.refusedReq_boundLog (s : State) : (State.refusedReq s).boundLog = s.boundLog := rfl
@[simp] theorem State.refusedReq_mirrorQ (s : State) : (State.refusedReq s).mirrorQ = s.mirrorQ := rfl
@[simp] theorem State.refusedReq_frames (s : State) : (State.refusedReq s).frames = s.frames := rfl
@[simp] theorem State.refusedReq_cells (s : State) : (State.refusedReq s).cells = s.cells := rfl
@[simp] theorem State.refusedReq_owners (s : State) : (State.refusedReq s).owners = s.owners := rfl
@[simp] theorem State.refusedReq_tenCells (s : State) : (State.refusedReq s).tenCells = s.tenCells := rfl
@[simp] theorem State.refusedReq_tenDrops (s : State) : (State.refusedReq s).tenDrops = s.tenDrops := rfl
@[simp] theorem State.refusedReq_voq (s : State) : (State.refusedReq s).voq = s.voq := rfl
@[simp] theorem State.refusedReq_grantPtr (s : State) : (State.refusedReq s).grantPtr = s.grantPtr := rfl
@[simp] theorem State.refusedReq_acceptPtr (s : State) : (State.refusedReq s).acceptPtr = s.acceptPtr := rfl
@[simp] theorem State.refusedReq_outQ (s : State) : (State.refusedReq s).outQ = s.outQ := rfl
@[simp] theorem State.refusedReq_slots (s : State) : (State.refusedReq s).slots = s.slots := rfl
@[simp] theorem State.refusedReq_clq (s : State) : (State.refusedReq s).clq = s.clq := rfl
@[simp] theorem State.refusedReq_shapers (s : State) : (State.refusedReq s).shapers = s.shapers := rfl
@[simp] theorem State.refusedReq_suspects (s : State) : (State.refusedReq s).suspects = s.suspects := rfl
@[simp] theorem State.refusedReq_engs (s : State) : (State.refusedReq s).engs = s.engs := rfl
@[simp] theorem State.refusedReq_cls (s : State) : (State.refusedReq s).cls = s.cls := rfl
@[simp] theorem State.refusedReq_imem (s : State) : (State.refusedReq s).imem = s.imem := rfl
@[simp] theorem State.refusedReq_imemErr (s : State) : (State.refusedReq s).imemErr = s.imemErr := rfl
@[simp] theorem State.refusedReq_spad (s : State) : (State.refusedReq s).spad = s.spad := rfl
@[simp] theorem State.refusedReq_spadErr (s : State) : (State.refusedReq s).spadErr = s.spadErr := rfl
@[simp] theorem State.refusedReq_lace (s : State) : (State.refusedReq s).lace = s.lace := rfl
@[simp] theorem State.refusedReq_cues (s : State) : (State.refusedReq s).cues = s.cues := rfl
@[simp] theorem State.refusedReq_ethPorts (s : State) : (State.refusedReq s).ethPorts = s.ethPorts := rfl
@[simp] theorem State.refusedReq_ethPairs (s : State) : (State.refusedReq s).ethPairs = s.ethPairs := rfl
@[simp] theorem State.refusedReq_serPorts (s : State) : (State.refusedReq s).serPorts = s.serPorts := rfl
@[simp] theorem State.refusedReq_ttGroups (s : State) : (State.refusedReq s).ttGroups = s.ttGroups := rfl
@[simp] theorem State.refusedReq_host (s : State) : (State.refusedReq s).host = s.host := rfl
@[simp] theorem State.refusedReq_pwr (s : State) : (State.refusedReq s).pwr = s.pwr := rfl
@[simp] theorem State.refusedReq_rcv (s : State) : (State.refusedReq s).rcv = s.rcv := rfl
@[simp] theorem State.refusedReq_arc (s : State) : (State.refusedReq s).arc = s.arc := rfl
@[simp] theorem State.refusedReq_welt (s : State) : (State.refusedReq s).welt = s.welt := rfl
@[simp] theorem State.refusedReq_rein (s : State) : (State.refusedReq s).rein = s.rein := rfl
@[simp] theorem State.put_latch (s : State) (d : Nat) (f : Field) (x : Nat) : (State.put s d f x).latch = s.latch := rfl
@[simp] theorem State.put_errs (s : State) (d : Nat) (f : Field) (x : Nat) : (State.put s d f x).errs = s.errs := rfl
@[simp] theorem State.put_pages (s : State) (d : Nat) (f : Field) (x : Nat) : (State.put s d f x).pages = s.pages := rfl
@[simp] theorem State.put_fresh (s : State) (d : Nat) (f : Field) (x : Nat) : (State.put s d f x).fresh = s.fresh := rfl
@[simp] theorem State.put_resp (s : State) (d : Nat) (f : Field) (x : Nat) : (State.put s d f x).resp = s.resp := rfl
@[simp] theorem State.put_har (s : State) (d : Nat) (f : Field) (x : Nat) : (State.put s d f x).har = s.har := rfl
@[simp] theorem State.put_servo (s : State) (d : Nat) (f : Field) (x : Nat) : (State.put s d f x).servo = s.servo := rfl
@[simp] theorem State.put_frac (s : State) (d : Nat) (f : Field) (x : Nat) : (State.put s d f x).frac = s.frac := rfl
@[simp] theorem State.put_monoFrac (s : State) (d : Nat) (f : Field) (x : Nat) : (State.put s d f x).monoFrac = s.monoFrac := rfl
@[simp] theorem State.put_pulses (s : State) (d : Nat) (f : Field) (x : Nat) : (State.put s d f x).pulses = s.pulses := rfl
@[simp] theorem State.put_clkout (s : State) (d : Nat) (f : Field) (x : Nat) : (State.put s d f x).clkout = s.clkout := rfl
@[simp] theorem State.put_recD (s : State) (d : Nat) (f : Field) (x : Nat) : (State.put s d f x).recD = s.recD := rfl
@[simp] theorem State.put_recP (s : State) (d : Nat) (f : Field) (x : Nat) : (State.put s d f x).recP = s.recP := rfl
@[simp] theorem State.put_calFact (s : State) (d : Nat) (f : Field) (x : Nat) : (State.put s d f x).calFact = s.calFact := rfl
@[simp] theorem State.put_calUser (s : State) (d : Nat) (f : Field) (x : Nat) : (State.put s d f x).calUser = s.calUser := rfl
@[simp] theorem State.put_banks (s : State) (d : Nat) (f : Field) (x : Nat) : (State.put s d f x).banks = s.banks := rfl
@[simp] theorem State.put_skv (s : State) (d : Nat) (f : Field) (x : Nat) : (State.put s d f x).skv = s.skv := rfl
@[simp] theorem State.put_resync (s : State) (d : Nat) (f : Field) (x : Nat) : (State.put s d f x).resync = s.resync := rfl
@[simp] theorem State.put_rearm (s : State) (d : Nat) (f : Field) (x : Nat) : (State.put s d f x).rearm = s.rearm := rfl
@[simp] theorem State.put_skvBack (s : State) (d : Nat) (f : Field) (x : Nat) : (State.put s d f x).skvBack = s.skvBack := rfl
@[simp] theorem State.put_fenced (s : State) (d : Nat) (f : Field) (x : Nat) : (State.put s d f x).fenced = s.fenced := rfl
@[simp] theorem State.put_commitQ (s : State) (d : Nat) (f : Field) (x : Nat) : (State.put s d f x).commitQ = s.commitQ := rfl
@[simp] theorem State.put_boundLog (s : State) (d : Nat) (f : Field) (x : Nat) : (State.put s d f x).boundLog = s.boundLog := rfl
@[simp] theorem State.put_mirrorQ (s : State) (d : Nat) (f : Field) (x : Nat) : (State.put s d f x).mirrorQ = s.mirrorQ := rfl
@[simp] theorem State.put_frames (s : State) (d : Nat) (f : Field) (x : Nat) : (State.put s d f x).frames = s.frames := rfl
@[simp] theorem State.put_cells (s : State) (d : Nat) (f : Field) (x : Nat) : (State.put s d f x).cells = s.cells := rfl
@[simp] theorem State.put_owners (s : State) (d : Nat) (f : Field) (x : Nat) : (State.put s d f x).owners = s.owners := rfl
@[simp] theorem State.put_tenCells (s : State) (d : Nat) (f : Field) (x : Nat) : (State.put s d f x).tenCells = s.tenCells := rfl
@[simp] theorem State.put_tenDrops (s : State) (d : Nat) (f : Field) (x : Nat) : (State.put s d f x).tenDrops = s.tenDrops := rfl
@[simp] theorem State.put_voq (s : State) (d : Nat) (f : Field) (x : Nat) : (State.put s d f x).voq = s.voq := rfl
@[simp] theorem State.put_grantPtr (s : State) (d : Nat) (f : Field) (x : Nat) : (State.put s d f x).grantPtr = s.grantPtr := rfl
@[simp] theorem State.put_acceptPtr (s : State) (d : Nat) (f : Field) (x : Nat) : (State.put s d f x).acceptPtr = s.acceptPtr := rfl
@[simp] theorem State.put_outQ (s : State) (d : Nat) (f : Field) (x : Nat) : (State.put s d f x).outQ = s.outQ := rfl
@[simp] theorem State.put_slots (s : State) (d : Nat) (f : Field) (x : Nat) : (State.put s d f x).slots = s.slots := rfl
@[simp] theorem State.put_clq (s : State) (d : Nat) (f : Field) (x : Nat) : (State.put s d f x).clq = s.clq := rfl
@[simp] theorem State.put_shapers (s : State) (d : Nat) (f : Field) (x : Nat) : (State.put s d f x).shapers = s.shapers := rfl
@[simp] theorem State.put_suspects (s : State) (d : Nat) (f : Field) (x : Nat) : (State.put s d f x).suspects = s.suspects := rfl
@[simp] theorem State.put_engs (s : State) (d : Nat) (f : Field) (x : Nat) : (State.put s d f x).engs = s.engs := rfl
@[simp] theorem State.put_cls (s : State) (d : Nat) (f : Field) (x : Nat) : (State.put s d f x).cls = s.cls := rfl
@[simp] theorem State.put_imem (s : State) (d : Nat) (f : Field) (x : Nat) : (State.put s d f x).imem = s.imem := rfl
@[simp] theorem State.put_imemErr (s : State) (d : Nat) (f : Field) (x : Nat) : (State.put s d f x).imemErr = s.imemErr := rfl
@[simp] theorem State.put_spad (s : State) (d : Nat) (f : Field) (x : Nat) : (State.put s d f x).spad = s.spad := rfl
@[simp] theorem State.put_spadErr (s : State) (d : Nat) (f : Field) (x : Nat) : (State.put s d f x).spadErr = s.spadErr := rfl
@[simp] theorem State.put_lace (s : State) (d : Nat) (f : Field) (x : Nat) : (State.put s d f x).lace = s.lace := rfl
@[simp] theorem State.put_cues (s : State) (d : Nat) (f : Field) (x : Nat) : (State.put s d f x).cues = s.cues := rfl
@[simp] theorem State.put_ethPorts (s : State) (d : Nat) (f : Field) (x : Nat) : (State.put s d f x).ethPorts = s.ethPorts := rfl
@[simp] theorem State.put_ethPairs (s : State) (d : Nat) (f : Field) (x : Nat) : (State.put s d f x).ethPairs = s.ethPairs := rfl
@[simp] theorem State.put_serPorts (s : State) (d : Nat) (f : Field) (x : Nat) : (State.put s d f x).serPorts = s.serPorts := rfl
@[simp] theorem State.put_ttGroups (s : State) (d : Nat) (f : Field) (x : Nat) : (State.put s d f x).ttGroups = s.ttGroups := rfl
@[simp] theorem State.put_host (s : State) (d : Nat) (f : Field) (x : Nat) : (State.put s d f x).host = s.host := rfl
@[simp] theorem State.put_pwr (s : State) (d : Nat) (f : Field) (x : Nat) : (State.put s d f x).pwr = s.pwr := rfl
@[simp] theorem State.put_rcv (s : State) (d : Nat) (f : Field) (x : Nat) : (State.put s d f x).rcv = s.rcv := rfl
@[simp] theorem State.put_arc (s : State) (d : Nat) (f : Field) (x : Nat) : (State.put s d f x).arc = s.arc := rfl
@[simp] theorem State.put_welt (s : State) (d : Nat) (f : Field) (x : Nat) : (State.put s d f x).welt = s.welt := rfl
@[simp] theorem State.put_rein (s : State) (d : Nat) (f : Field) (x : Nat) : (State.put s d f x).rein = s.rein := rfl
@[simp] theorem State.putFlag_latch (s : State) (d : Nat) (f : Field) (b : Bool) : (State.putFlag s d f b).latch = s.latch := rfl
@[simp] theorem State.putFlag_errs (s : State) (d : Nat) (f : Field) (b : Bool) : (State.putFlag s d f b).errs = s.errs := rfl
@[simp] theorem State.putFlag_pages (s : State) (d : Nat) (f : Field) (b : Bool) : (State.putFlag s d f b).pages = s.pages := rfl
@[simp] theorem State.putFlag_fresh (s : State) (d : Nat) (f : Field) (b : Bool) : (State.putFlag s d f b).fresh = s.fresh := rfl
@[simp] theorem State.putFlag_resp (s : State) (d : Nat) (f : Field) (b : Bool) : (State.putFlag s d f b).resp = s.resp := rfl
@[simp] theorem State.putFlag_har (s : State) (d : Nat) (f : Field) (b : Bool) : (State.putFlag s d f b).har = s.har := rfl
@[simp] theorem State.putFlag_servo (s : State) (d : Nat) (f : Field) (b : Bool) : (State.putFlag s d f b).servo = s.servo := rfl
@[simp] theorem State.putFlag_frac (s : State) (d : Nat) (f : Field) (b : Bool) : (State.putFlag s d f b).frac = s.frac := rfl
@[simp] theorem State.putFlag_monoFrac (s : State) (d : Nat) (f : Field) (b : Bool) : (State.putFlag s d f b).monoFrac = s.monoFrac := rfl
@[simp] theorem State.putFlag_pulses (s : State) (d : Nat) (f : Field) (b : Bool) : (State.putFlag s d f b).pulses = s.pulses := rfl
@[simp] theorem State.putFlag_clkout (s : State) (d : Nat) (f : Field) (b : Bool) : (State.putFlag s d f b).clkout = s.clkout := rfl
@[simp] theorem State.putFlag_recD (s : State) (d : Nat) (f : Field) (b : Bool) : (State.putFlag s d f b).recD = s.recD := rfl
@[simp] theorem State.putFlag_recP (s : State) (d : Nat) (f : Field) (b : Bool) : (State.putFlag s d f b).recP = s.recP := rfl
@[simp] theorem State.putFlag_calFact (s : State) (d : Nat) (f : Field) (b : Bool) : (State.putFlag s d f b).calFact = s.calFact := rfl
@[simp] theorem State.putFlag_calUser (s : State) (d : Nat) (f : Field) (b : Bool) : (State.putFlag s d f b).calUser = s.calUser := rfl
@[simp] theorem State.putFlag_banks (s : State) (d : Nat) (f : Field) (b : Bool) : (State.putFlag s d f b).banks = s.banks := rfl
@[simp] theorem State.putFlag_skv (s : State) (d : Nat) (f : Field) (b : Bool) : (State.putFlag s d f b).skv = s.skv := rfl
@[simp] theorem State.putFlag_resync (s : State) (d : Nat) (f : Field) (b : Bool) : (State.putFlag s d f b).resync = s.resync := rfl
@[simp] theorem State.putFlag_rearm (s : State) (d : Nat) (f : Field) (b : Bool) : (State.putFlag s d f b).rearm = s.rearm := rfl
@[simp] theorem State.putFlag_skvBack (s : State) (d : Nat) (f : Field) (b : Bool) : (State.putFlag s d f b).skvBack = s.skvBack := rfl
@[simp] theorem State.putFlag_fenced (s : State) (d : Nat) (f : Field) (b : Bool) : (State.putFlag s d f b).fenced = s.fenced := rfl
@[simp] theorem State.putFlag_commitQ (s : State) (d : Nat) (f : Field) (b : Bool) : (State.putFlag s d f b).commitQ = s.commitQ := rfl
@[simp] theorem State.putFlag_boundLog (s : State) (d : Nat) (f : Field) (b : Bool) : (State.putFlag s d f b).boundLog = s.boundLog := rfl
@[simp] theorem State.putFlag_mirrorQ (s : State) (d : Nat) (f : Field) (b : Bool) : (State.putFlag s d f b).mirrorQ = s.mirrorQ := rfl
@[simp] theorem State.putFlag_frames (s : State) (d : Nat) (f : Field) (b : Bool) : (State.putFlag s d f b).frames = s.frames := rfl
@[simp] theorem State.putFlag_cells (s : State) (d : Nat) (f : Field) (b : Bool) : (State.putFlag s d f b).cells = s.cells := rfl
@[simp] theorem State.putFlag_owners (s : State) (d : Nat) (f : Field) (b : Bool) : (State.putFlag s d f b).owners = s.owners := rfl
@[simp] theorem State.putFlag_tenCells (s : State) (d : Nat) (f : Field) (b : Bool) : (State.putFlag s d f b).tenCells = s.tenCells := rfl
@[simp] theorem State.putFlag_tenDrops (s : State) (d : Nat) (f : Field) (b : Bool) : (State.putFlag s d f b).tenDrops = s.tenDrops := rfl
@[simp] theorem State.putFlag_voq (s : State) (d : Nat) (f : Field) (b : Bool) : (State.putFlag s d f b).voq = s.voq := rfl
@[simp] theorem State.putFlag_grantPtr (s : State) (d : Nat) (f : Field) (b : Bool) : (State.putFlag s d f b).grantPtr = s.grantPtr := rfl
@[simp] theorem State.putFlag_acceptPtr (s : State) (d : Nat) (f : Field) (b : Bool) : (State.putFlag s d f b).acceptPtr = s.acceptPtr := rfl
@[simp] theorem State.putFlag_outQ (s : State) (d : Nat) (f : Field) (b : Bool) : (State.putFlag s d f b).outQ = s.outQ := rfl
@[simp] theorem State.putFlag_slots (s : State) (d : Nat) (f : Field) (b : Bool) : (State.putFlag s d f b).slots = s.slots := rfl
@[simp] theorem State.putFlag_clq (s : State) (d : Nat) (f : Field) (b : Bool) : (State.putFlag s d f b).clq = s.clq := rfl
@[simp] theorem State.putFlag_shapers (s : State) (d : Nat) (f : Field) (b : Bool) : (State.putFlag s d f b).shapers = s.shapers := rfl
@[simp] theorem State.putFlag_suspects (s : State) (d : Nat) (f : Field) (b : Bool) : (State.putFlag s d f b).suspects = s.suspects := rfl
@[simp] theorem State.putFlag_engs (s : State) (d : Nat) (f : Field) (b : Bool) : (State.putFlag s d f b).engs = s.engs := rfl
@[simp] theorem State.putFlag_cls (s : State) (d : Nat) (f : Field) (b : Bool) : (State.putFlag s d f b).cls = s.cls := rfl
@[simp] theorem State.putFlag_imem (s : State) (d : Nat) (f : Field) (b : Bool) : (State.putFlag s d f b).imem = s.imem := rfl
@[simp] theorem State.putFlag_imemErr (s : State) (d : Nat) (f : Field) (b : Bool) : (State.putFlag s d f b).imemErr = s.imemErr := rfl
@[simp] theorem State.putFlag_spad (s : State) (d : Nat) (f : Field) (b : Bool) : (State.putFlag s d f b).spad = s.spad := rfl
@[simp] theorem State.putFlag_spadErr (s : State) (d : Nat) (f : Field) (b : Bool) : (State.putFlag s d f b).spadErr = s.spadErr := rfl
@[simp] theorem State.putFlag_lace (s : State) (d : Nat) (f : Field) (b : Bool) : (State.putFlag s d f b).lace = s.lace := rfl
@[simp] theorem State.putFlag_cues (s : State) (d : Nat) (f : Field) (b : Bool) : (State.putFlag s d f b).cues = s.cues := rfl
@[simp] theorem State.putFlag_ethPorts (s : State) (d : Nat) (f : Field) (b : Bool) : (State.putFlag s d f b).ethPorts = s.ethPorts := rfl
@[simp] theorem State.putFlag_ethPairs (s : State) (d : Nat) (f : Field) (b : Bool) : (State.putFlag s d f b).ethPairs = s.ethPairs := rfl
@[simp] theorem State.putFlag_serPorts (s : State) (d : Nat) (f : Field) (b : Bool) : (State.putFlag s d f b).serPorts = s.serPorts := rfl
@[simp] theorem State.putFlag_ttGroups (s : State) (d : Nat) (f : Field) (b : Bool) : (State.putFlag s d f b).ttGroups = s.ttGroups := rfl
@[simp] theorem State.putFlag_host (s : State) (d : Nat) (f : Field) (b : Bool) : (State.putFlag s d f b).host = s.host := rfl
@[simp] theorem State.putFlag_pwr (s : State) (d : Nat) (f : Field) (b : Bool) : (State.putFlag s d f b).pwr = s.pwr := rfl
@[simp] theorem State.putFlag_rcv (s : State) (d : Nat) (f : Field) (b : Bool) : (State.putFlag s d f b).rcv = s.rcv := rfl
@[simp] theorem State.putFlag_arc (s : State) (d : Nat) (f : Field) (b : Bool) : (State.putFlag s d f b).arc = s.arc := rfl
@[simp] theorem State.putFlag_welt (s : State) (d : Nat) (f : Field) (b : Bool) : (State.putFlag s d f b).welt = s.welt := rfl
@[simp] theorem State.putFlag_rein (s : State) (d : Nat) (f : Field) (b : Bool) : (State.putFlag s d f b).rein = s.rein := rfl
@[simp] theorem State.count_latch (s : State) (d : Nat) (f : Field) (k : Nat) : (State.count s d f k).latch = s.latch := rfl
@[simp] theorem State.count_errs (s : State) (d : Nat) (f : Field) (k : Nat) : (State.count s d f k).errs = s.errs := rfl
@[simp] theorem State.count_pages (s : State) (d : Nat) (f : Field) (k : Nat) : (State.count s d f k).pages = s.pages := rfl
@[simp] theorem State.count_fresh (s : State) (d : Nat) (f : Field) (k : Nat) : (State.count s d f k).fresh = s.fresh := rfl
@[simp] theorem State.count_resp (s : State) (d : Nat) (f : Field) (k : Nat) : (State.count s d f k).resp = s.resp := rfl
@[simp] theorem State.count_har (s : State) (d : Nat) (f : Field) (k : Nat) : (State.count s d f k).har = s.har := rfl
@[simp] theorem State.count_servo (s : State) (d : Nat) (f : Field) (k : Nat) : (State.count s d f k).servo = s.servo := rfl
@[simp] theorem State.count_frac (s : State) (d : Nat) (f : Field) (k : Nat) : (State.count s d f k).frac = s.frac := rfl
@[simp] theorem State.count_monoFrac (s : State) (d : Nat) (f : Field) (k : Nat) : (State.count s d f k).monoFrac = s.monoFrac := rfl
@[simp] theorem State.count_pulses (s : State) (d : Nat) (f : Field) (k : Nat) : (State.count s d f k).pulses = s.pulses := rfl
@[simp] theorem State.count_clkout (s : State) (d : Nat) (f : Field) (k : Nat) : (State.count s d f k).clkout = s.clkout := rfl
@[simp] theorem State.count_recD (s : State) (d : Nat) (f : Field) (k : Nat) : (State.count s d f k).recD = s.recD := rfl
@[simp] theorem State.count_recP (s : State) (d : Nat) (f : Field) (k : Nat) : (State.count s d f k).recP = s.recP := rfl
@[simp] theorem State.count_calFact (s : State) (d : Nat) (f : Field) (k : Nat) : (State.count s d f k).calFact = s.calFact := rfl
@[simp] theorem State.count_calUser (s : State) (d : Nat) (f : Field) (k : Nat) : (State.count s d f k).calUser = s.calUser := rfl
@[simp] theorem State.count_banks (s : State) (d : Nat) (f : Field) (k : Nat) : (State.count s d f k).banks = s.banks := rfl
@[simp] theorem State.count_skv (s : State) (d : Nat) (f : Field) (k : Nat) : (State.count s d f k).skv = s.skv := rfl
@[simp] theorem State.count_resync (s : State) (d : Nat) (f : Field) (k : Nat) : (State.count s d f k).resync = s.resync := rfl
@[simp] theorem State.count_rearm (s : State) (d : Nat) (f : Field) (k : Nat) : (State.count s d f k).rearm = s.rearm := rfl
@[simp] theorem State.count_skvBack (s : State) (d : Nat) (f : Field) (k : Nat) : (State.count s d f k).skvBack = s.skvBack := rfl
@[simp] theorem State.count_fenced (s : State) (d : Nat) (f : Field) (k : Nat) : (State.count s d f k).fenced = s.fenced := rfl
@[simp] theorem State.count_commitQ (s : State) (d : Nat) (f : Field) (k : Nat) : (State.count s d f k).commitQ = s.commitQ := rfl
@[simp] theorem State.count_boundLog (s : State) (d : Nat) (f : Field) (k : Nat) : (State.count s d f k).boundLog = s.boundLog := rfl
@[simp] theorem State.count_mirrorQ (s : State) (d : Nat) (f : Field) (k : Nat) : (State.count s d f k).mirrorQ = s.mirrorQ := rfl
@[simp] theorem State.count_frames (s : State) (d : Nat) (f : Field) (k : Nat) : (State.count s d f k).frames = s.frames := rfl
@[simp] theorem State.count_cells (s : State) (d : Nat) (f : Field) (k : Nat) : (State.count s d f k).cells = s.cells := rfl
@[simp] theorem State.count_owners (s : State) (d : Nat) (f : Field) (k : Nat) : (State.count s d f k).owners = s.owners := rfl
@[simp] theorem State.count_tenCells (s : State) (d : Nat) (f : Field) (k : Nat) : (State.count s d f k).tenCells = s.tenCells := rfl
@[simp] theorem State.count_tenDrops (s : State) (d : Nat) (f : Field) (k : Nat) : (State.count s d f k).tenDrops = s.tenDrops := rfl
@[simp] theorem State.count_voq (s : State) (d : Nat) (f : Field) (k : Nat) : (State.count s d f k).voq = s.voq := rfl
@[simp] theorem State.count_grantPtr (s : State) (d : Nat) (f : Field) (k : Nat) : (State.count s d f k).grantPtr = s.grantPtr := rfl
@[simp] theorem State.count_acceptPtr (s : State) (d : Nat) (f : Field) (k : Nat) : (State.count s d f k).acceptPtr = s.acceptPtr := rfl
@[simp] theorem State.count_outQ (s : State) (d : Nat) (f : Field) (k : Nat) : (State.count s d f k).outQ = s.outQ := rfl
@[simp] theorem State.count_slots (s : State) (d : Nat) (f : Field) (k : Nat) : (State.count s d f k).slots = s.slots := rfl
@[simp] theorem State.count_clq (s : State) (d : Nat) (f : Field) (k : Nat) : (State.count s d f k).clq = s.clq := rfl
@[simp] theorem State.count_shapers (s : State) (d : Nat) (f : Field) (k : Nat) : (State.count s d f k).shapers = s.shapers := rfl
@[simp] theorem State.count_suspects (s : State) (d : Nat) (f : Field) (k : Nat) : (State.count s d f k).suspects = s.suspects := rfl
@[simp] theorem State.count_engs (s : State) (d : Nat) (f : Field) (k : Nat) : (State.count s d f k).engs = s.engs := rfl
@[simp] theorem State.count_cls (s : State) (d : Nat) (f : Field) (k : Nat) : (State.count s d f k).cls = s.cls := rfl
@[simp] theorem State.count_imem (s : State) (d : Nat) (f : Field) (k : Nat) : (State.count s d f k).imem = s.imem := rfl
@[simp] theorem State.count_imemErr (s : State) (d : Nat) (f : Field) (k : Nat) : (State.count s d f k).imemErr = s.imemErr := rfl
@[simp] theorem State.count_spad (s : State) (d : Nat) (f : Field) (k : Nat) : (State.count s d f k).spad = s.spad := rfl
@[simp] theorem State.count_spadErr (s : State) (d : Nat) (f : Field) (k : Nat) : (State.count s d f k).spadErr = s.spadErr := rfl
@[simp] theorem State.count_lace (s : State) (d : Nat) (f : Field) (k : Nat) : (State.count s d f k).lace = s.lace := rfl
@[simp] theorem State.count_cues (s : State) (d : Nat) (f : Field) (k : Nat) : (State.count s d f k).cues = s.cues := rfl
@[simp] theorem State.count_ethPorts (s : State) (d : Nat) (f : Field) (k : Nat) : (State.count s d f k).ethPorts = s.ethPorts := rfl
@[simp] theorem State.count_ethPairs (s : State) (d : Nat) (f : Field) (k : Nat) : (State.count s d f k).ethPairs = s.ethPairs := rfl
@[simp] theorem State.count_serPorts (s : State) (d : Nat) (f : Field) (k : Nat) : (State.count s d f k).serPorts = s.serPorts := rfl
@[simp] theorem State.count_ttGroups (s : State) (d : Nat) (f : Field) (k : Nat) : (State.count s d f k).ttGroups = s.ttGroups := rfl
@[simp] theorem State.count_host (s : State) (d : Nat) (f : Field) (k : Nat) : (State.count s d f k).host = s.host := rfl
@[simp] theorem State.count_pwr (s : State) (d : Nat) (f : Field) (k : Nat) : (State.count s d f k).pwr = s.pwr := rfl
@[simp] theorem State.count_rcv (s : State) (d : Nat) (f : Field) (k : Nat) : (State.count s d f k).rcv = s.rcv := rfl
@[simp] theorem State.count_arc (s : State) (d : Nat) (f : Field) (k : Nat) : (State.count s d f k).arc = s.arc := rfl
@[simp] theorem State.count_welt (s : State) (d : Nat) (f : Field) (k : Nat) : (State.count s d f k).welt = s.welt := rfl
@[simp] theorem State.count_rein (s : State) (d : Nat) (f : Field) (k : Nat) : (State.count s d f k).rein = s.rein := rfl
@[simp] theorem State.setBit_latch (s : State) (d : Nat) (f : Field) (i : Nat) : (State.setBit s d f i).latch = s.latch := rfl
@[simp] theorem State.setBit_errs (s : State) (d : Nat) (f : Field) (i : Nat) : (State.setBit s d f i).errs = s.errs := rfl
@[simp] theorem State.setBit_pages (s : State) (d : Nat) (f : Field) (i : Nat) : (State.setBit s d f i).pages = s.pages := rfl
@[simp] theorem State.setBit_fresh (s : State) (d : Nat) (f : Field) (i : Nat) : (State.setBit s d f i).fresh = s.fresh := rfl
@[simp] theorem State.setBit_resp (s : State) (d : Nat) (f : Field) (i : Nat) : (State.setBit s d f i).resp = s.resp := rfl
@[simp] theorem State.setBit_har (s : State) (d : Nat) (f : Field) (i : Nat) : (State.setBit s d f i).har = s.har := rfl
@[simp] theorem State.setBit_servo (s : State) (d : Nat) (f : Field) (i : Nat) : (State.setBit s d f i).servo = s.servo := rfl
@[simp] theorem State.setBit_frac (s : State) (d : Nat) (f : Field) (i : Nat) : (State.setBit s d f i).frac = s.frac := rfl
@[simp] theorem State.setBit_monoFrac (s : State) (d : Nat) (f : Field) (i : Nat) : (State.setBit s d f i).monoFrac = s.monoFrac := rfl
@[simp] theorem State.setBit_pulses (s : State) (d : Nat) (f : Field) (i : Nat) : (State.setBit s d f i).pulses = s.pulses := rfl
@[simp] theorem State.setBit_clkout (s : State) (d : Nat) (f : Field) (i : Nat) : (State.setBit s d f i).clkout = s.clkout := rfl
@[simp] theorem State.setBit_recD (s : State) (d : Nat) (f : Field) (i : Nat) : (State.setBit s d f i).recD = s.recD := rfl
@[simp] theorem State.setBit_recP (s : State) (d : Nat) (f : Field) (i : Nat) : (State.setBit s d f i).recP = s.recP := rfl
@[simp] theorem State.setBit_calFact (s : State) (d : Nat) (f : Field) (i : Nat) : (State.setBit s d f i).calFact = s.calFact := rfl
@[simp] theorem State.setBit_calUser (s : State) (d : Nat) (f : Field) (i : Nat) : (State.setBit s d f i).calUser = s.calUser := rfl
@[simp] theorem State.setBit_banks (s : State) (d : Nat) (f : Field) (i : Nat) : (State.setBit s d f i).banks = s.banks := rfl
@[simp] theorem State.setBit_skv (s : State) (d : Nat) (f : Field) (i : Nat) : (State.setBit s d f i).skv = s.skv := rfl
@[simp] theorem State.setBit_resync (s : State) (d : Nat) (f : Field) (i : Nat) : (State.setBit s d f i).resync = s.resync := rfl
@[simp] theorem State.setBit_rearm (s : State) (d : Nat) (f : Field) (i : Nat) : (State.setBit s d f i).rearm = s.rearm := rfl
@[simp] theorem State.setBit_skvBack (s : State) (d : Nat) (f : Field) (i : Nat) : (State.setBit s d f i).skvBack = s.skvBack := rfl
@[simp] theorem State.setBit_fenced (s : State) (d : Nat) (f : Field) (i : Nat) : (State.setBit s d f i).fenced = s.fenced := rfl
@[simp] theorem State.setBit_commitQ (s : State) (d : Nat) (f : Field) (i : Nat) : (State.setBit s d f i).commitQ = s.commitQ := rfl
@[simp] theorem State.setBit_boundLog (s : State) (d : Nat) (f : Field) (i : Nat) : (State.setBit s d f i).boundLog = s.boundLog := rfl
@[simp] theorem State.setBit_mirrorQ (s : State) (d : Nat) (f : Field) (i : Nat) : (State.setBit s d f i).mirrorQ = s.mirrorQ := rfl
@[simp] theorem State.setBit_frames (s : State) (d : Nat) (f : Field) (i : Nat) : (State.setBit s d f i).frames = s.frames := rfl
@[simp] theorem State.setBit_cells (s : State) (d : Nat) (f : Field) (i : Nat) : (State.setBit s d f i).cells = s.cells := rfl
@[simp] theorem State.setBit_owners (s : State) (d : Nat) (f : Field) (i : Nat) : (State.setBit s d f i).owners = s.owners := rfl
@[simp] theorem State.setBit_tenCells (s : State) (d : Nat) (f : Field) (i : Nat) : (State.setBit s d f i).tenCells = s.tenCells := rfl
@[simp] theorem State.setBit_tenDrops (s : State) (d : Nat) (f : Field) (i : Nat) : (State.setBit s d f i).tenDrops = s.tenDrops := rfl
@[simp] theorem State.setBit_voq (s : State) (d : Nat) (f : Field) (i : Nat) : (State.setBit s d f i).voq = s.voq := rfl
@[simp] theorem State.setBit_grantPtr (s : State) (d : Nat) (f : Field) (i : Nat) : (State.setBit s d f i).grantPtr = s.grantPtr := rfl
@[simp] theorem State.setBit_acceptPtr (s : State) (d : Nat) (f : Field) (i : Nat) : (State.setBit s d f i).acceptPtr = s.acceptPtr := rfl
@[simp] theorem State.setBit_outQ (s : State) (d : Nat) (f : Field) (i : Nat) : (State.setBit s d f i).outQ = s.outQ := rfl
@[simp] theorem State.setBit_slots (s : State) (d : Nat) (f : Field) (i : Nat) : (State.setBit s d f i).slots = s.slots := rfl
@[simp] theorem State.setBit_clq (s : State) (d : Nat) (f : Field) (i : Nat) : (State.setBit s d f i).clq = s.clq := rfl
@[simp] theorem State.setBit_shapers (s : State) (d : Nat) (f : Field) (i : Nat) : (State.setBit s d f i).shapers = s.shapers := rfl
@[simp] theorem State.setBit_suspects (s : State) (d : Nat) (f : Field) (i : Nat) : (State.setBit s d f i).suspects = s.suspects := rfl
@[simp] theorem State.setBit_engs (s : State) (d : Nat) (f : Field) (i : Nat) : (State.setBit s d f i).engs = s.engs := rfl
@[simp] theorem State.setBit_cls (s : State) (d : Nat) (f : Field) (i : Nat) : (State.setBit s d f i).cls = s.cls := rfl
@[simp] theorem State.setBit_imem (s : State) (d : Nat) (f : Field) (i : Nat) : (State.setBit s d f i).imem = s.imem := rfl
@[simp] theorem State.setBit_imemErr (s : State) (d : Nat) (f : Field) (i : Nat) : (State.setBit s d f i).imemErr = s.imemErr := rfl
@[simp] theorem State.setBit_spad (s : State) (d : Nat) (f : Field) (i : Nat) : (State.setBit s d f i).spad = s.spad := rfl
@[simp] theorem State.setBit_spadErr (s : State) (d : Nat) (f : Field) (i : Nat) : (State.setBit s d f i).spadErr = s.spadErr := rfl
@[simp] theorem State.setBit_lace (s : State) (d : Nat) (f : Field) (i : Nat) : (State.setBit s d f i).lace = s.lace := rfl
@[simp] theorem State.setBit_cues (s : State) (d : Nat) (f : Field) (i : Nat) : (State.setBit s d f i).cues = s.cues := rfl
@[simp] theorem State.setBit_ethPorts (s : State) (d : Nat) (f : Field) (i : Nat) : (State.setBit s d f i).ethPorts = s.ethPorts := rfl
@[simp] theorem State.setBit_ethPairs (s : State) (d : Nat) (f : Field) (i : Nat) : (State.setBit s d f i).ethPairs = s.ethPairs := rfl
@[simp] theorem State.setBit_serPorts (s : State) (d : Nat) (f : Field) (i : Nat) : (State.setBit s d f i).serPorts = s.serPorts := rfl
@[simp] theorem State.setBit_ttGroups (s : State) (d : Nat) (f : Field) (i : Nat) : (State.setBit s d f i).ttGroups = s.ttGroups := rfl
@[simp] theorem State.setBit_host (s : State) (d : Nat) (f : Field) (i : Nat) : (State.setBit s d f i).host = s.host := rfl
@[simp] theorem State.setBit_pwr (s : State) (d : Nat) (f : Field) (i : Nat) : (State.setBit s d f i).pwr = s.pwr := rfl
@[simp] theorem State.setBit_rcv (s : State) (d : Nat) (f : Field) (i : Nat) : (State.setBit s d f i).rcv = s.rcv := rfl
@[simp] theorem State.setBit_arc (s : State) (d : Nat) (f : Field) (i : Nat) : (State.setBit s d f i).arc = s.arc := rfl
@[simp] theorem State.setBit_welt (s : State) (d : Nat) (f : Field) (i : Nat) : (State.setBit s d f i).welt = s.welt := rfl
@[simp] theorem State.setBit_rein (s : State) (d : Nat) (f : Field) (i : Nat) : (State.setBit s d f i).rein = s.rein := rfl
@[simp] theorem State.clrBit_latch (s : State) (d : Nat) (f : Field) (i : Nat) : (State.clrBit s d f i).latch = s.latch := rfl
@[simp] theorem State.clrBit_errs (s : State) (d : Nat) (f : Field) (i : Nat) : (State.clrBit s d f i).errs = s.errs := rfl
@[simp] theorem State.clrBit_pages (s : State) (d : Nat) (f : Field) (i : Nat) : (State.clrBit s d f i).pages = s.pages := rfl
@[simp] theorem State.clrBit_fresh (s : State) (d : Nat) (f : Field) (i : Nat) : (State.clrBit s d f i).fresh = s.fresh := rfl
@[simp] theorem State.clrBit_resp (s : State) (d : Nat) (f : Field) (i : Nat) : (State.clrBit s d f i).resp = s.resp := rfl
@[simp] theorem State.clrBit_har (s : State) (d : Nat) (f : Field) (i : Nat) : (State.clrBit s d f i).har = s.har := rfl
@[simp] theorem State.clrBit_servo (s : State) (d : Nat) (f : Field) (i : Nat) : (State.clrBit s d f i).servo = s.servo := rfl
@[simp] theorem State.clrBit_frac (s : State) (d : Nat) (f : Field) (i : Nat) : (State.clrBit s d f i).frac = s.frac := rfl
@[simp] theorem State.clrBit_monoFrac (s : State) (d : Nat) (f : Field) (i : Nat) : (State.clrBit s d f i).monoFrac = s.monoFrac := rfl
@[simp] theorem State.clrBit_pulses (s : State) (d : Nat) (f : Field) (i : Nat) : (State.clrBit s d f i).pulses = s.pulses := rfl
@[simp] theorem State.clrBit_clkout (s : State) (d : Nat) (f : Field) (i : Nat) : (State.clrBit s d f i).clkout = s.clkout := rfl
@[simp] theorem State.clrBit_recD (s : State) (d : Nat) (f : Field) (i : Nat) : (State.clrBit s d f i).recD = s.recD := rfl
@[simp] theorem State.clrBit_recP (s : State) (d : Nat) (f : Field) (i : Nat) : (State.clrBit s d f i).recP = s.recP := rfl
@[simp] theorem State.clrBit_calFact (s : State) (d : Nat) (f : Field) (i : Nat) : (State.clrBit s d f i).calFact = s.calFact := rfl
@[simp] theorem State.clrBit_calUser (s : State) (d : Nat) (f : Field) (i : Nat) : (State.clrBit s d f i).calUser = s.calUser := rfl
@[simp] theorem State.clrBit_banks (s : State) (d : Nat) (f : Field) (i : Nat) : (State.clrBit s d f i).banks = s.banks := rfl
@[simp] theorem State.clrBit_skv (s : State) (d : Nat) (f : Field) (i : Nat) : (State.clrBit s d f i).skv = s.skv := rfl
@[simp] theorem State.clrBit_resync (s : State) (d : Nat) (f : Field) (i : Nat) : (State.clrBit s d f i).resync = s.resync := rfl
@[simp] theorem State.clrBit_rearm (s : State) (d : Nat) (f : Field) (i : Nat) : (State.clrBit s d f i).rearm = s.rearm := rfl
@[simp] theorem State.clrBit_skvBack (s : State) (d : Nat) (f : Field) (i : Nat) : (State.clrBit s d f i).skvBack = s.skvBack := rfl
@[simp] theorem State.clrBit_fenced (s : State) (d : Nat) (f : Field) (i : Nat) : (State.clrBit s d f i).fenced = s.fenced := rfl
@[simp] theorem State.clrBit_commitQ (s : State) (d : Nat) (f : Field) (i : Nat) : (State.clrBit s d f i).commitQ = s.commitQ := rfl
@[simp] theorem State.clrBit_boundLog (s : State) (d : Nat) (f : Field) (i : Nat) : (State.clrBit s d f i).boundLog = s.boundLog := rfl
@[simp] theorem State.clrBit_mirrorQ (s : State) (d : Nat) (f : Field) (i : Nat) : (State.clrBit s d f i).mirrorQ = s.mirrorQ := rfl
@[simp] theorem State.clrBit_frames (s : State) (d : Nat) (f : Field) (i : Nat) : (State.clrBit s d f i).frames = s.frames := rfl
@[simp] theorem State.clrBit_cells (s : State) (d : Nat) (f : Field) (i : Nat) : (State.clrBit s d f i).cells = s.cells := rfl
@[simp] theorem State.clrBit_owners (s : State) (d : Nat) (f : Field) (i : Nat) : (State.clrBit s d f i).owners = s.owners := rfl
@[simp] theorem State.clrBit_tenCells (s : State) (d : Nat) (f : Field) (i : Nat) : (State.clrBit s d f i).tenCells = s.tenCells := rfl
@[simp] theorem State.clrBit_tenDrops (s : State) (d : Nat) (f : Field) (i : Nat) : (State.clrBit s d f i).tenDrops = s.tenDrops := rfl
@[simp] theorem State.clrBit_voq (s : State) (d : Nat) (f : Field) (i : Nat) : (State.clrBit s d f i).voq = s.voq := rfl
@[simp] theorem State.clrBit_grantPtr (s : State) (d : Nat) (f : Field) (i : Nat) : (State.clrBit s d f i).grantPtr = s.grantPtr := rfl
@[simp] theorem State.clrBit_acceptPtr (s : State) (d : Nat) (f : Field) (i : Nat) : (State.clrBit s d f i).acceptPtr = s.acceptPtr := rfl
@[simp] theorem State.clrBit_outQ (s : State) (d : Nat) (f : Field) (i : Nat) : (State.clrBit s d f i).outQ = s.outQ := rfl
@[simp] theorem State.clrBit_slots (s : State) (d : Nat) (f : Field) (i : Nat) : (State.clrBit s d f i).slots = s.slots := rfl
@[simp] theorem State.clrBit_clq (s : State) (d : Nat) (f : Field) (i : Nat) : (State.clrBit s d f i).clq = s.clq := rfl
@[simp] theorem State.clrBit_shapers (s : State) (d : Nat) (f : Field) (i : Nat) : (State.clrBit s d f i).shapers = s.shapers := rfl
@[simp] theorem State.clrBit_suspects (s : State) (d : Nat) (f : Field) (i : Nat) : (State.clrBit s d f i).suspects = s.suspects := rfl
@[simp] theorem State.clrBit_engs (s : State) (d : Nat) (f : Field) (i : Nat) : (State.clrBit s d f i).engs = s.engs := rfl
@[simp] theorem State.clrBit_cls (s : State) (d : Nat) (f : Field) (i : Nat) : (State.clrBit s d f i).cls = s.cls := rfl
@[simp] theorem State.clrBit_imem (s : State) (d : Nat) (f : Field) (i : Nat) : (State.clrBit s d f i).imem = s.imem := rfl
@[simp] theorem State.clrBit_imemErr (s : State) (d : Nat) (f : Field) (i : Nat) : (State.clrBit s d f i).imemErr = s.imemErr := rfl
@[simp] theorem State.clrBit_spad (s : State) (d : Nat) (f : Field) (i : Nat) : (State.clrBit s d f i).spad = s.spad := rfl
@[simp] theorem State.clrBit_spadErr (s : State) (d : Nat) (f : Field) (i : Nat) : (State.clrBit s d f i).spadErr = s.spadErr := rfl
@[simp] theorem State.clrBit_lace (s : State) (d : Nat) (f : Field) (i : Nat) : (State.clrBit s d f i).lace = s.lace := rfl
@[simp] theorem State.clrBit_cues (s : State) (d : Nat) (f : Field) (i : Nat) : (State.clrBit s d f i).cues = s.cues := rfl
@[simp] theorem State.clrBit_ethPorts (s : State) (d : Nat) (f : Field) (i : Nat) : (State.clrBit s d f i).ethPorts = s.ethPorts := rfl
@[simp] theorem State.clrBit_ethPairs (s : State) (d : Nat) (f : Field) (i : Nat) : (State.clrBit s d f i).ethPairs = s.ethPairs := rfl
@[simp] theorem State.clrBit_serPorts (s : State) (d : Nat) (f : Field) (i : Nat) : (State.clrBit s d f i).serPorts = s.serPorts := rfl
@[simp] theorem State.clrBit_ttGroups (s : State) (d : Nat) (f : Field) (i : Nat) : (State.clrBit s d f i).ttGroups = s.ttGroups := rfl
@[simp] theorem State.clrBit_host (s : State) (d : Nat) (f : Field) (i : Nat) : (State.clrBit s d f i).host = s.host := rfl
@[simp] theorem State.clrBit_pwr (s : State) (d : Nat) (f : Field) (i : Nat) : (State.clrBit s d f i).pwr = s.pwr := rfl
@[simp] theorem State.clrBit_rcv (s : State) (d : Nat) (f : Field) (i : Nat) : (State.clrBit s d f i).rcv = s.rcv := rfl
@[simp] theorem State.clrBit_arc (s : State) (d : Nat) (f : Field) (i : Nat) : (State.clrBit s d f i).arc = s.arc := rfl
@[simp] theorem State.clrBit_welt (s : State) (d : Nat) (f : Field) (i : Nat) : (State.clrBit s d f i).welt = s.welt := rfl
@[simp] theorem State.clrBit_rein (s : State) (d : Nat) (f : Field) (i : Nat) : (State.clrBit s d f i).rein = s.rein := rfl

end Sys2Proof.Machine
end

