-- ==== Sys2Proof/Laws/Views.lean ====
section
/-! SUPPORT. What each reading of the state gives after an update that does not concern it. -/

namespace Sys2Proof.Machine

@[simp] theorem State.byte_wr (s : State) (d : Nat) (r : Reg) (v : Word64) (d0 o0 : Nat) :
    (State.wr s d r v).byte d0 o0 = s.byte d0 o0 := rfl
@[simp] theorem State.powered_wr (s : State) (d : Nat) (r : Reg) (v : Word64) :
    (State.wr s d r v).powered = s.powered := rfl
@[simp] theorem State.cfg_wr (s : State) (d : Nat) (r : Reg) (v : Word64) :
    (State.wr s d r v).cfg = s.cfg := rfl
@[simp] theorem State.eng_wr (s : State) (d : Nat) (r : Reg) (v : Word64) (d0 e0 : Nat) :
    (State.wr s d r v).eng d0 e0 = s.eng d0 e0 := rfl
@[simp] theorem State.cl_wr (s : State) (d : Nat) (r : Reg) (v : Word64) (d0 e0 : Nat) :
    (State.wr s d r v).cl d0 e0 = s.cl d0 e0 := rfl
@[simp] theorem State.frame_wr (s : State) (d : Nat) (r : Reg) (v : Word64) (f0 : Nat) :
    (State.wr s d r v).frame f0 = s.frame f0 := rfl
@[simp] theorem State.bank_wr (s : State) (d : Nat) (r : Reg) (v : Word64) (d0 b0 : Nat) :
    (State.wr s d r v).bank d0 b0 = s.bank d0 b0 := rfl
@[simp] theorem State.recDie_wr (s : State) (d : Nat) (r : Reg) (v : Word64) (d0 : Nat) :
    (State.wr s d r v).recDie d0 = s.recDie d0 := rfl
@[simp] theorem State.pulse_wr (s : State) (d : Nat) (r : Reg) (v : Word64) (d0 n0 : Nat) :
    (State.wr s d r v).pulse d0 n0 = s.pulse d0 n0 := rfl
@[simp] theorem State.lce_wr (s : State) (d : Nat) (r : Reg) (v : Word64) (d0 e0 : Nat) :
    (State.wr s d r v).lce d0 e0 = s.lce d0 e0 := rfl
@[simp] theorem State.ethPort_wr (s : State) (d : Nat) (r : Reg) (v : Word64) (d0 p0 : Nat) :
    (State.wr s d r v).ethPort d0 p0 = s.ethPort d0 p0 := rfl
@[simp] theorem State.ethPair_wr (s : State) (d : Nat) (r : Reg) (v : Word64) (d0 p0 : Nat) :
    (State.wr s d r v).ethPair d0 p0 = s.ethPair d0 p0 := rfl
@[simp] theorem State.ser_wr (s : State) (d : Nat) (r : Reg) (v : Word64) (d0 p0 : Nat) :
    (State.wr s d r v).ser d0 p0 = s.ser d0 p0 := rfl
@[simp] theorem State.ttg_wr (s : State) (d : Nat) (r : Reg) (v : Word64) (d0 : Nat) :
    (State.wr s d r v).ttg d0 = s.ttg d0 := rfl
@[simp] theorem State.voqOf_wr (s : State) (d : Nat) (r : Reg) (v : Word64) (d0 : Nat) :
    (State.wr s d r v).voqOf d0 = s.voqOf d0 := rfl
@[simp] theorem State.outQueue_wr (s : State) (d : Nat) (r : Reg) (v : Word64) (d0 o0 : Nat) :
    (State.wr s d r v).outQueue d0 o0 = s.outQueue d0 o0 := rfl
@[simp] theorem State.slot_wr (s : State) (d : Nat) (r : Reg) (v : Word64) (d0 c0 i0 : Nat) :
    (State.wr s d r v).slot d0 c0 i0 = s.slot d0 c0 i0 := rfl
@[simp] theorem State.queued_wr (s : State) (d : Nat) (r : Reg) (v : Word64) (d0 c0 q0 : Nat) :
    (State.wr s d r v).queued d0 c0 q0 = s.queued d0 c0 q0 := rfl
@[simp] theorem State.weltEnd_wr (s : State) (d : Nat) (r : Reg) (v : Word64) (d0 k0 : Nat) :
    (State.wr s d r v).weltEnd d0 k0 = s.weltEnd d0 k0 := rfl
@[simp] theorem State.wordErr_wr (s : State) (d : Nat) (r : Reg) (v : Word64) (d0 o0 : Nat) :
    (State.wr s d r v).wordErr d0 o0 = s.wordErr d0 o0 := rfl
@[simp] theorem State.spadGet_wr (s : State) (d : Nat) (r : Reg) (v : Word64) (d0 c0 w0 : Nat) :
    (State.wr s d r v).spadGet d0 c0 w0 = s.spadGet d0 c0 w0 := rfl
@[simp] theorem State.rd_setByte (s : State) (d off : Nat) (v : Byte) (d0 : Nat) (r0 : Reg) :
    (State.setByte s d off v).rd d0 r0 = s.rd d0 r0 := rfl
@[simp] theorem State.get_setByte (s : State) (d off : Nat) (v : Byte) (d0 : Nat) (f0 : Field) :
    (State.setByte s d off v).get d0 f0 = s.get d0 f0 := rfl
@[simp] theorem State.flag_setByte (s : State) (d off : Nat) (v : Byte) (d0 : Nat) (f0 : Field) :
    (State.setByte s d off v).flag d0 f0 = s.flag d0 f0 := rfl
@[simp] theorem State.now_setByte (s : State) (d off : Nat) (v : Byte) (d0 : Nat) :
    (State.setByte s d off v).now d0 = s.now d0 := rfl
@[simp] theorem State.mono_setByte (s : State) (d off : Nat) (v : Byte) (d0 : Nat) :
    (State.setByte s d off v).mono d0 = s.mono d0 := rfl
@[simp] theorem State.dieCount_setByte (s : State) (d off : Nat) (v : Byte) :
    (State.setByte s d off v).dieCount = s.dieCount := rfl
@[simp] theorem State.powered_setByte (s : State) (d off : Nat) (v : Byte) :
    (State.setByte s d off v).powered = s.powered := rfl
@[simp] theorem State.cfg_setByte (s : State) (d off : Nat) (v : Byte) :
    (State.setByte s d off v).cfg = s.cfg := rfl
@[simp] theorem State.eng_setByte (s : State) (d off : Nat) (v : Byte) (d0 e0 : Nat) :
    (State.setByte s d off v).eng d0 e0 = s.eng d0 e0 := rfl
@[simp] theorem State.cl_setByte (s : State) (d off : Nat) (v : Byte) (d0 e0 : Nat) :
    (State.setByte s d off v).cl d0 e0 = s.cl d0 e0 := rfl
@[simp] theorem State.frame_setByte (s : State) (d off : Nat) (v : Byte) (f0 : Nat) :
    (State.setByte s d off v).frame f0 = s.frame f0 := rfl
@[simp] theorem State.bank_setByte (s : State) (d off : Nat) (v : Byte) (d0 b0 : Nat) :
    (State.setByte s d off v).bank d0 b0 = s.bank d0 b0 := rfl
@[simp] theorem State.recDie_setByte (s : State) (d off : Nat) (v : Byte) (d0 : Nat) :
    (State.setByte s d off v).recDie d0 = s.recDie d0 := rfl
@[simp] theorem State.pulse_setByte (s : State) (d off : Nat) (v : Byte) (d0 n0 : Nat) :
    (State.setByte s d off v).pulse d0 n0 = s.pulse d0 n0 := rfl
@[simp] theorem State.lce_setByte (s : State) (d off : Nat) (v : Byte) (d0 e0 : Nat) :
    (State.setByte s d off v).lce d0 e0 = s.lce d0 e0 := rfl
@[simp] theorem State.ethPort_setByte (s : State) (d off : Nat) (v : Byte) (d0 p0 : Nat) :
    (State.setByte s d off v).ethPort d0 p0 = s.ethPort d0 p0 := rfl
@[simp] theorem State.ethPair_setByte (s : State) (d off : Nat) (v : Byte) (d0 p0 : Nat) :
    (State.setByte s d off v).ethPair d0 p0 = s.ethPair d0 p0 := rfl
@[simp] theorem State.ser_setByte (s : State) (d off : Nat) (v : Byte) (d0 p0 : Nat) :
    (State.setByte s d off v).ser d0 p0 = s.ser d0 p0 := rfl
@[simp] theorem State.ttg_setByte (s : State) (d off : Nat) (v : Byte) (d0 : Nat) :
    (State.setByte s d off v).ttg d0 = s.ttg d0 := rfl
@[simp] theorem State.voqOf_setByte (s : State) (d off : Nat) (v : Byte) (d0 : Nat) :
    (State.setByte s d off v).voqOf d0 = s.voqOf d0 := rfl
@[simp] theorem State.outQueue_setByte (s : State) (d off : Nat) (v : Byte) (d0 o0 : Nat) :
    (State.setByte s d off v).outQueue d0 o0 = s.outQueue d0 o0 := rfl
@[simp] theorem State.slot_setByte (s : State) (d off : Nat) (v : Byte) (d0 c0 i0 : Nat) :
    (State.setByte s d off v).slot d0 c0 i0 = s.slot d0 c0 i0 := rfl
@[simp] theorem State.queued_setByte (s : State) (d off : Nat) (v : Byte) (d0 c0 q0 : Nat) :
    (State.setByte s d off v).queued d0 c0 q0 = s.queued d0 c0 q0 := rfl
@[simp] theorem State.weltEnd_setByte (s : State) (d off : Nat) (v : Byte) (d0 k0 : Nat) :
    (State.setByte s d off v).weltEnd d0 k0 = s.weltEnd d0 k0 := rfl
@[simp] theorem State.wordErr_setByte (s : State) (d off : Nat) (v : Byte) (d0 o0 : Nat) :
    (State.setByte s d off v).wordErr d0 o0 = s.wordErr d0 o0 := rfl
@[simp] theorem State.spadGet_setByte (s : State) (d off : Nat) (v : Byte) (d0 c0 w0 : Nat) :
    (State.setByte s d off v).spadGet d0 c0 w0 = s.spadGet d0 c0 w0 := rfl
@[simp] theorem State.rd_setEng (s : State) (d e : Nat) (g : Eng) (d0 : Nat) (r0 : Reg) :
    (State.setEng s d e g).rd d0 r0 = s.rd d0 r0 := rfl
@[simp] theorem State.get_setEng (s : State) (d e : Nat) (g : Eng) (d0 : Nat) (f0 : Field) :
    (State.setEng s d e g).get d0 f0 = s.get d0 f0 := rfl
@[simp] theorem State.flag_setEng (s : State) (d e : Nat) (g : Eng) (d0 : Nat) (f0 : Field) :
    (State.setEng s d e g).flag d0 f0 = s.flag d0 f0 := rfl
@[simp] theorem State.now_setEng (s : State) (d e : Nat) (g : Eng) (d0 : Nat) :
    (State.setEng s d e g).now d0 = s.now d0 := rfl
@[simp] theorem State.mono_setEng (s : State) (d e : Nat) (g : Eng) (d0 : Nat) :
    (State.setEng s d e g).mono d0 = s.mono d0 := rfl
@[simp] theorem State.dieCount_setEng (s : State) (d e : Nat) (g : Eng) :
    (State.setEng s d e g).dieCount = s.dieCount := rfl
@[simp] theorem State.byte_setEng (s : State) (d e : Nat) (g : Eng) (d0 o0 : Nat) :
    (State.setEng s d e g).byte d0 o0 = s.byte d0 o0 := rfl
@[simp] theorem State.powered_setEng (s : State) (d e : Nat) (g : Eng) :
    (State.setEng s d e g).powered = s.powered := rfl
@[simp] theorem State.cfg_setEng (s : State) (d e : Nat) (g : Eng) :
    (State.setEng s d e g).cfg = s.cfg := rfl
@[simp] theorem State.cl_setEng (s : State) (d e : Nat) (g : Eng) (d0 e0 : Nat) :
    (State.setEng s d e g).cl d0 e0 = s.cl d0 e0 := rfl
@[simp] theorem State.frame_setEng (s : State) (d e : Nat) (g : Eng) (f0 : Nat) :
    (State.setEng s d e g).frame f0 = s.frame f0 := rfl
@[simp] theorem State.bank_setEng (s : State) (d e : Nat) (g : Eng) (d0 b0 : Nat) :
    (State.setEng s d e g).bank d0 b0 = s.bank d0 b0 := rfl
@[simp] theorem State.recDie_setEng (s : State) (d e : Nat) (g : Eng) (d0 : Nat) :
    (State.setEng s d e g).recDie d0 = s.recDie d0 := rfl
@[simp] theorem State.pulse_setEng (s : State) (d e : Nat) (g : Eng) (d0 n0 : Nat) :
    (State.setEng s d e g).pulse d0 n0 = s.pulse d0 n0 := rfl
@[simp] theorem State.lce_setEng (s : State) (d e : Nat) (g : Eng) (d0 e0 : Nat) :
    (State.setEng s d e g).lce d0 e0 = s.lce d0 e0 := rfl
@[simp] theorem State.ethPort_setEng (s : State) (d e : Nat) (g : Eng) (d0 p0 : Nat) :
    (State.setEng s d e g).ethPort d0 p0 = s.ethPort d0 p0 := rfl
@[simp] theorem State.ethPair_setEng (s : State) (d e : Nat) (g : Eng) (d0 p0 : Nat) :
    (State.setEng s d e g).ethPair d0 p0 = s.ethPair d0 p0 := rfl
@[simp] theorem State.ser_setEng (s : State) (d e : Nat) (g : Eng) (d0 p0 : Nat) :
    (State.setEng s d e g).ser d0 p0 = s.ser d0 p0 := rfl
@[simp] theorem State.ttg_setEng (s : State) (d e : Nat) (g : Eng) (d0 : Nat) :
    (State.setEng s d e g).ttg d0 = s.ttg d0 := rfl
@[simp] theorem State.voqOf_setEng (s : State) (d e : Nat) (g : Eng) (d0 : Nat) :
    (State.setEng s d e g).voqOf d0 = s.voqOf d0 := rfl
@[simp] theorem State.outQueue_setEng (s : State) (d e : Nat) (g : Eng) (d0 o0 : Nat) :
    (State.setEng s d e g).outQueue d0 o0 = s.outQueue d0 o0 := rfl
@[simp] theorem State.slot_setEng (s : State) (d e : Nat) (g : Eng) (d0 c0 i0 : Nat) :
    (State.setEng s d e g).slot d0 c0 i0 = s.slot d0 c0 i0 := rfl
@[simp] theorem State.queued_setEng (s : State) (d e : Nat) (g : Eng) (d0 c0 q0 : Nat) :
    (State.setEng s d e g).queued d0 c0 q0 = s.queued d0 c0 q0 := rfl
@[simp] theorem State.weltEnd_setEng (s : State) (d e : Nat) (g : Eng) (d0 k0 : Nat) :
    (State.setEng s d e g).weltEnd d0 k0 = s.weltEnd d0 k0 := rfl
@[simp] theorem State.wordErr_setEng (s : State) (d e : Nat) (g : Eng) (d0 o0 : Nat) :
    (State.setEng s d e g).wordErr d0 o0 = s.wordErr d0 o0 := rfl
@[simp] theorem State.spadGet_setEng (s : State) (d e : Nat) (g : Eng) (d0 c0 w0 : Nat) :
    (State.setEng s d e g).spadGet d0 c0 w0 = s.spadGet d0 c0 w0 := rfl
@[simp] theorem State.rd_setCl (s : State) (d c : Nat) (k : Cl) (d0 : Nat) (r0 : Reg) :
    (State.setCl s d c k).rd d0 r0 = s.rd d0 r0 := rfl
@[simp] theorem State.get_setCl (s : State) (d c : Nat) (k : Cl) (d0 : Nat) (f0 : Field) :
    (State.setCl s d c k).get d0 f0 = s.get d0 f0 := rfl
@[simp] theorem State.flag_setCl (s : State) (d c : Nat) (k : Cl) (d0 : Nat) (f0 : Field) :
    (State.setCl s d c k).flag d0 f0 = s.flag d0 f0 := rfl
@[simp] theorem State.now_setCl (s : State) (d c : Nat) (k : Cl) (d0 : Nat) :
    (State.setCl s d c k).now d0 = s.now d0 := rfl
@[simp] theorem State.mono_setCl (s : State) (d c : Nat) (k : Cl) (d0 : Nat) :
    (State.setCl s d c k).mono d0 = s.mono d0 := rfl
@[simp] theorem State.dieCount_setCl (s : State) (d c : Nat) (k : Cl) :
    (State.setCl s d c k).dieCount = s.dieCount := rfl
@[simp] theorem State.byte_setCl (s : State) (d c : Nat) (k : Cl) (d0 o0 : Nat) :
    (State.setCl s d c k).byte d0 o0 = s.byte d0 o0 := rfl
@[simp] theorem State.powered_setCl (s : State) (d c : Nat) (k : Cl) :
    (State.setCl s d c k).powered = s.powered := rfl
@[simp] theorem State.cfg_setCl (s : State) (d c : Nat) (k : Cl) :
    (State.setCl s d c k).cfg = s.cfg := rfl
@[simp] theorem State.eng_setCl (s : State) (d c : Nat) (k : Cl) (d0 e0 : Nat) :
    (State.setCl s d c k).eng d0 e0 = s.eng d0 e0 := rfl
@[simp] theorem State.frame_setCl (s : State) (d c : Nat) (k : Cl) (f0 : Nat) :
    (State.setCl s d c k).frame f0 = s.frame f0 := rfl
@[simp] theorem State.bank_setCl (s : State) (d c : Nat) (k : Cl) (d0 b0 : Nat) :
    (State.setCl s d c k).bank d0 b0 = s.bank d0 b0 := rfl
@[simp] theorem State.recDie_setCl (s : State) (d c : Nat) (k : Cl) (d0 : Nat) :
    (State.setCl s d c k).recDie d0 = s.recDie d0 := rfl
@[simp] theorem State.pulse_setCl (s : State) (d c : Nat) (k : Cl) (d0 n0 : Nat) :
    (State.setCl s d c k).pulse d0 n0 = s.pulse d0 n0 := rfl
@[simp] theorem State.lce_setCl (s : State) (d c : Nat) (k : Cl) (d0 e0 : Nat) :
    (State.setCl s d c k).lce d0 e0 = s.lce d0 e0 := rfl
@[simp] theorem State.ethPort_setCl (s : State) (d c : Nat) (k : Cl) (d0 p0 : Nat) :
    (State.setCl s d c k).ethPort d0 p0 = s.ethPort d0 p0 := rfl
@[simp] theorem State.ethPair_setCl (s : State) (d c : Nat) (k : Cl) (d0 p0 : Nat) :
    (State.setCl s d c k).ethPair d0 p0 = s.ethPair d0 p0 := rfl
@[simp] theorem State.ser_setCl (s : State) (d c : Nat) (k : Cl) (d0 p0 : Nat) :
    (State.setCl s d c k).ser d0 p0 = s.ser d0 p0 := rfl
@[simp] theorem State.ttg_setCl (s : State) (d c : Nat) (k : Cl) (d0 : Nat) :
    (State.setCl s d c k).ttg d0 = s.ttg d0 := rfl
@[simp] theorem State.voqOf_setCl (s : State) (d c : Nat) (k : Cl) (d0 : Nat) :
    (State.setCl s d c k).voqOf d0 = s.voqOf d0 := rfl
@[simp] theorem State.outQueue_setCl (s : State) (d c : Nat) (k : Cl) (d0 o0 : Nat) :
    (State.setCl s d c k).outQueue d0 o0 = s.outQueue d0 o0 := rfl
@[simp] theorem State.slot_setCl (s : State) (d c : Nat) (k : Cl) (d0 c0 i0 : Nat) :
    (State.setCl s d c k).slot d0 c0 i0 = s.slot d0 c0 i0 := rfl
@[simp] theorem State.queued_setCl (s : State) (d c : Nat) (k : Cl) (d0 c0 q0 : Nat) :
    (State.setCl s d c k).queued d0 c0 q0 = s.queued d0 c0 q0 := rfl
@[simp] theorem State.weltEnd_setCl (s : State) (d c : Nat) (k : Cl) (d0 k0 : Nat) :
    (State.setCl s d c k).weltEnd d0 k0 = s.weltEnd d0 k0 := rfl
@[simp] theorem State.wordErr_setCl (s : State) (d c : Nat) (k : Cl) (d0 o0 : Nat) :
    (State.setCl s d c k).wordErr d0 o0 = s.wordErr d0 o0 := rfl
@[simp] theorem State.spadGet_setCl (s : State) (d c : Nat) (k : Cl) (d0 c0 w0 : Nat) :
    (State.setCl s d c k).spadGet d0 c0 w0 = s.spadGet d0 c0 w0 := rfl
@[simp] theorem State.rd_spadSet (s : State) (d c w : Nat) (v : W16) (d0 : Nat) (r0 : Reg) :
    (State.spadSet s d c w v).rd d0 r0 = s.rd d0 r0 := rfl
@[simp] theorem State.get_spadSet (s : State) (d c w : Nat) (v : W16) (d0 : Nat) (f0 : Field) :
    (State.spadSet s d c w v).get d0 f0 = s.get d0 f0 := rfl
@[simp] theorem State.flag_spadSet (s : State) (d c w : Nat) (v : W16) (d0 : Nat) (f0 : Field) :
    (State.spadSet s d c w v).flag d0 f0 = s.flag d0 f0 := rfl
@[simp] theorem State.now_spadSet (s : State) (d c w : Nat) (v : W16) (d0 : Nat) :
    (State.spadSet s d c w v).now d0 = s.now d0 := rfl
@[simp] theorem State.mono_spadSet (s : State) (d c w : Nat) (v : W16) (d0 : Nat) :
    (State.spadSet s d c w v).mono d0 = s.mono d0 := rfl
@[simp] theorem State.dieCount_spadSet (s : State) (d c w : Nat) (v : W16) :
    (State.spadSet s d c w v).dieCount = s.dieCount := rfl
@[simp] theorem State.byte_spadSet (s : State) (d c w : Nat) (v : W16) (d0 o0 : Nat) :
    (State.spadSet s d c w v).byte d0 o0 = s.byte d0 o0 := rfl
@[simp] theorem State.powered_spadSet (s : State) (d c w : Nat) (v : W16) :
    (State.spadSet s d c w v).powered = s.powered := rfl
@[simp] theorem State.cfg_spadSet (s : State) (d c w : Nat) (v : W16) :
    (State.spadSet s d c w v).cfg = s.cfg := rfl
@[simp] theorem State.eng_spadSet (s : State) (d c w : Nat) (v : W16) (d0 e0 : Nat) :
    (State.spadSet s d c w v).eng d0 e0 = s.eng d0 e0 := rfl
@[simp] theorem State.cl_spadSet (s : State) (d c w : Nat) (v : W16) (d0 e0 : Nat) :
    (State.spadSet s d c w v).cl d0 e0 = s.cl d0 e0 := rfl
@[simp] theorem State.frame_spadSet (s : State) (d c w : Nat) (v : W16) (f0 : Nat) :
    (State.spadSet s d c w v).frame f0 = s.frame f0 := rfl
@[simp] theorem State.bank_spadSet (s : State) (d c w : Nat) (v : W16) (d0 b0 : Nat) :
    (State.spadSet s d c w v).bank d0 b0 = s.bank d0 b0 := rfl
@[simp] theorem State.recDie_spadSet (s : State) (d c w : Nat) (v : W16) (d0 : Nat) :
    (State.spadSet s d c w v).recDie d0 = s.recDie d0 := rfl
@[simp] theorem State.pulse_spadSet (s : State) (d c w : Nat) (v : W16) (d0 n0 : Nat) :
    (State.spadSet s d c w v).pulse d0 n0 = s.pulse d0 n0 := rfl
@[simp] theorem State.lce_spadSet (s : State) (d c w : Nat) (v : W16) (d0 e0 : Nat) :
    (State.spadSet s d c w v).lce d0 e0 = s.lce d0 e0 := rfl
@[simp] theorem State.ethPort_spadSet (s : State) (d c w : Nat) (v : W16) (d0 p0 : Nat) :
    (State.spadSet s d c w v).ethPort d0 p0 = s.ethPort d0 p0 := rfl
@[simp] theorem State.ethPair_spadSet (s : State) (d c w : Nat) (v : W16) (d0 p0 : Nat) :
    (State.spadSet s d c w v).ethPair d0 p0 = s.ethPair d0 p0 := rfl
@[simp] theorem State.ser_spadSet (s : State) (d c w : Nat) (v : W16) (d0 p0 : Nat) :
    (State.spadSet s d c w v).ser d0 p0 = s.ser d0 p0 := rfl
@[simp] theorem State.ttg_spadSet (s : State) (d c w : Nat) (v : W16) (d0 : Nat) :
    (State.spadSet s d c w v).ttg d0 = s.ttg d0 := rfl
@[simp] theorem State.voqOf_spadSet (s : State) (d c w : Nat) (v : W16) (d0 : Nat) :
    (State.spadSet s d c w v).voqOf d0 = s.voqOf d0 := rfl
@[simp] theorem State.outQueue_spadSet (s : State) (d c w : Nat) (v : W16) (d0 o0 : Nat) :
    (State.spadSet s d c w v).outQueue d0 o0 = s.outQueue d0 o0 := rfl
@[simp] theorem State.slot_spadSet (s : State) (d c w : Nat) (v : W16) (d0 c0 i0 : Nat) :
    (State.spadSet s d c w v).slot d0 c0 i0 = s.slot d0 c0 i0 := rfl
@[simp] theorem State.queued_spadSet (s : State) (d c w : Nat) (v : W16) (d0 c0 q0 : Nat) :
    (State.spadSet s d c w v).queued d0 c0 q0 = s.queued d0 c0 q0 := rfl
@[simp] theorem State.weltEnd_spadSet (s : State) (d c w : Nat) (v : W16) (d0 k0 : Nat) :
    (State.spadSet s d c w v).weltEnd d0 k0 = s.weltEnd d0 k0 := rfl
@[simp] theorem State.wordErr_spadSet (s : State) (d c w : Nat) (v : W16) (d0 o0 : Nat) :
    (State.spadSet s d c w v).wordErr d0 o0 = s.wordErr d0 o0 := rfl
@[simp] theorem State.rd_setFrame (s : State) (f : Nat) (x : Frame) (d0 : Nat) (r0 : Reg) :
    (State.setFrame s f x).rd d0 r0 = s.rd d0 r0 := rfl
@[simp] theorem State.get_setFrame (s : State) (f : Nat) (x : Frame) (d0 : Nat) (f0 : Field) :
    (State.setFrame s f x).get d0 f0 = s.get d0 f0 := rfl
@[simp] theorem State.flag_setFrame (s : State) (f : Nat) (x : Frame) (d0 : Nat) (f0 : Field) :
    (State.setFrame s f x).flag d0 f0 = s.flag d0 f0 := rfl
@[simp] theorem State.now_setFrame (s : State) (f : Nat) (x : Frame) (d0 : Nat) :
    (State.setFrame s f x).now d0 = s.now d0 := rfl
@[simp] theorem State.mono_setFrame (s : State) (f : Nat) (x : Frame) (d0 : Nat) :
    (State.setFrame s f x).mono d0 = s.mono d0 := rfl
@[simp] theorem State.dieCount_setFrame (s : State) (f : Nat) (x : Frame) :
    (State.setFrame s f x).dieCount = s.dieCount := rfl
@[simp] theorem State.byte_setFrame (s : State) (f : Nat) (x : Frame) (d0 o0 : Nat) :
    (State.setFrame s f x).byte d0 o0 = s.byte d0 o0 := rfl
@[simp] theorem State.powered_setFrame (s : State) (f : Nat) (x : Frame) :
    (State.setFrame s f x).powered = s.powered := rfl
@[simp] theorem State.cfg_setFrame (s : State) (f : Nat) (x : Frame) :
    (State.setFrame s f x).cfg = s.cfg := rfl
@[simp] theorem State.eng_setFrame (s : State) (f : Nat) (x : Frame) (d0 e0 : Nat) :
    (State.setFrame s f x).eng d0 e0 = s.eng d0 e0 := rfl
@[simp] theorem State.cl_setFrame (s : State) (f : Nat) (x : Frame) (d0 e0 : Nat) :
    (State.setFrame s f x).cl d0 e0 = s.cl d0 e0 := rfl
@[simp] theorem State.bank_setFrame (s : State) (f : Nat) (x : Frame) (d0 b0 : Nat) :
    (State.setFrame s f x).bank d0 b0 = s.bank d0 b0 := rfl
@[simp] theorem State.recDie_setFrame (s : State) (f : Nat) (x : Frame) (d0 : Nat) :
    (State.setFrame s f x).recDie d0 = s.recDie d0 := rfl
@[simp] theorem State.pulse_setFrame (s : State) (f : Nat) (x : Frame) (d0 n0 : Nat) :
    (State.setFrame s f x).pulse d0 n0 = s.pulse d0 n0 := rfl
@[simp] theorem State.lce_setFrame (s : State) (f : Nat) (x : Frame) (d0 e0 : Nat) :
    (State.setFrame s f x).lce d0 e0 = s.lce d0 e0 := rfl
@[simp] theorem State.ethPort_setFrame (s : State) (f : Nat) (x : Frame) (d0 p0 : Nat) :
    (State.setFrame s f x).ethPort d0 p0 = s.ethPort d0 p0 := rfl
@[simp] theorem State.ethPair_setFrame (s : State) (f : Nat) (x : Frame) (d0 p0 : Nat) :
    (State.setFrame s f x).ethPair d0 p0 = s.ethPair d0 p0 := rfl
@[simp] theorem State.ser_setFrame (s : State) (f : Nat) (x : Frame) (d0 p0 : Nat) :
    (State.setFrame s f x).ser d0 p0 = s.ser d0 p0 := rfl
@[simp] theorem State.ttg_setFrame (s : State) (f : Nat) (x : Frame) (d0 : Nat) :
    (State.setFrame s f x).ttg d0 = s.ttg d0 := rfl
@[simp] theorem State.voqOf_setFrame (s : State) (f : Nat) (x : Frame) (d0 : Nat) :
    (State.setFrame s f x).voqOf d0 = s.voqOf d0 := rfl
@[simp] theorem State.outQueue_setFrame (s : State) (f : Nat) (x : Frame) (d0 o0 : Nat) :
    (State.setFrame s f x).outQueue d0 o0 = s.outQueue d0 o0 := rfl
@[simp] theorem State.slot_setFrame (s : State) (f : Nat) (x : Frame) (d0 c0 i0 : Nat) :
    (State.setFrame s f x).slot d0 c0 i0 = s.slot d0 c0 i0 := rfl
@[simp] theorem State.queued_setFrame (s : State) (f : Nat) (x : Frame) (d0 c0 q0 : Nat) :
    (State.setFrame s f x).queued d0 c0 q0 = s.queued d0 c0 q0 := rfl
@[simp] theorem State.weltEnd_setFrame (s : State) (f : Nat) (x : Frame) (d0 k0 : Nat) :
    (State.setFrame s f x).weltEnd d0 k0 = s.weltEnd d0 k0 := rfl
@[simp] theorem State.wordErr_setFrame (s : State) (f : Nat) (x : Frame) (d0 o0 : Nat) :
    (State.setFrame s f x).wordErr d0 o0 = s.wordErr d0 o0 := rfl
@[simp] theorem State.spadGet_setFrame (s : State) (f : Nat) (x : Frame) (d0 c0 w0 : Nat) :
    (State.setFrame s f x).spadGet d0 c0 w0 = s.spadGet d0 c0 w0 := rfl
@[simp] theorem State.rd_setBank (s : State) (d b : Nat) (k : Bank) (d0 : Nat) (r0 : Reg) :
    (State.setBank s d b k).rd d0 r0 = s.rd d0 r0 := rfl
@[simp] theorem State.get_setBank (s : State) (d b : Nat) (k : Bank) (d0 : Nat) (f0 : Field) :
    (State.setBank s d b k).get d0 f0 = s.get d0 f0 := rfl
@[simp] theorem State.flag_setBank (s : State) (d b : Nat) (k : Bank) (d0 : Nat) (f0 : Field) :
    (State.setBank s d b k).flag d0 f0 = s.flag d0 f0 := rfl
@[simp] theorem State.now_setBank (s : State) (d b : Nat) (k : Bank) (d0 : Nat) :
    (State.setBank s d b k).now d0 = s.now d0 := rfl
@[simp] theorem State.mono_setBank (s : State) (d b : Nat) (k : Bank) (d0 : Nat) :
    (State.setBank s d b k).mono d0 = s.mono d0 := rfl
@[simp] theorem State.dieCount_setBank (s : State) (d b : Nat) (k : Bank) :
    (State.setBank s d b k).dieCount = s.dieCount := rfl
@[simp] theorem State.byte_setBank (s : State) (d b : Nat) (k : Bank) (d0 o0 : Nat) :
    (State.setBank s d b k).byte d0 o0 = s.byte d0 o0 := rfl
@[simp] theorem State.powered_setBank (s : State) (d b : Nat) (k : Bank) :
    (State.setBank s d b k).powered = s.powered := rfl
@[simp] theorem State.cfg_setBank (s : State) (d b : Nat) (k : Bank) :
    (State.setBank s d b k).cfg = s.cfg := rfl
@[simp] theorem State.eng_setBank (s : State) (d b : Nat) (k : Bank) (d0 e0 : Nat) :
    (State.setBank s d b k).eng d0 e0 = s.eng d0 e0 := rfl
@[simp] theorem State.cl_setBank (s : State) (d b : Nat) (k : Bank) (d0 e0 : Nat) :
    (State.setBank s d b k).cl d0 e0 = s.cl d0 e0 := rfl
@[simp] theorem State.frame_setBank (s : State) (d b : Nat) (k : Bank) (f0 : Nat) :
    (State.setBank s d b k).frame f0 = s.frame f0 := rfl
@[simp] theorem State.recDie_setBank (s : State) (d b : Nat) (k : Bank) (d0 : Nat) :
    (State.setBank s d b k).recDie d0 = s.recDie d0 := rfl
@[simp] theorem State.pulse_setBank (s : State) (d b : Nat) (k : Bank) (d0 n0 : Nat) :
    (State.setBank s d b k).pulse d0 n0 = s.pulse d0 n0 := rfl
@[simp] theorem State.lce_setBank (s : State) (d b : Nat) (k : Bank) (d0 e0 : Nat) :
    (State.setBank s d b k).lce d0 e0 = s.lce d0 e0 := rfl
@[simp] theorem State.ethPort_setBank (s : State) (d b : Nat) (k : Bank) (d0 p0 : Nat) :
    (State.setBank s d b k).ethPort d0 p0 = s.ethPort d0 p0 := rfl
@[simp] theorem State.ethPair_setBank (s : State) (d b : Nat) (k : Bank) (d0 p0 : Nat) :
    (State.setBank s d b k).ethPair d0 p0 = s.ethPair d0 p0 := rfl
@[simp] theorem State.ser_setBank (s : State) (d b : Nat) (k : Bank) (d0 p0 : Nat) :
    (State.setBank s d b k).ser d0 p0 = s.ser d0 p0 := rfl
@[simp] theorem State.ttg_setBank (s : State) (d b : Nat) (k : Bank) (d0 : Nat) :
    (State.setBank s d b k).ttg d0 = s.ttg d0 := rfl
@[simp] theorem State.voqOf_setBank (s : State) (d b : Nat) (k : Bank) (d0 : Nat) :
    (State.setBank s d b k).voqOf d0 = s.voqOf d0 := rfl
@[simp] theorem State.outQueue_setBank (s : State) (d b : Nat) (k : Bank) (d0 o0 : Nat) :
    (State.setBank s d b k).outQueue d0 o0 = s.outQueue d0 o0 := rfl
@[simp] theorem State.slot_setBank (s : State) (d b : Nat) (k : Bank) (d0 c0 i0 : Nat) :
    (State.setBank s d b k).slot d0 c0 i0 = s.slot d0 c0 i0 := rfl
@[simp] theorem State.queued_setBank (s : State) (d b : Nat) (k : Bank) (d0 c0 q0 : Nat) :
    (State.setBank s d b k).queued d0 c0 q0 = s.queued d0 c0 q0 := rfl
@[simp] theorem State.weltEnd_setBank (s : State) (d b : Nat) (k : Bank) (d0 k0 : Nat) :
    (State.setBank s d b k).weltEnd d0 k0 = s.weltEnd d0 k0 := rfl
@[simp] theorem State.wordErr_setBank (s : State) (d b : Nat) (k : Bank) (d0 o0 : Nat) :
    (State.setBank s d b k).wordErr d0 o0 = s.wordErr d0 o0 := rfl
@[simp] theorem State.spadGet_setBank (s : State) (d b : Nat) (k : Bank) (d0 c0 w0 : Nat) :
    (State.setBank s d b k).spadGet d0 c0 w0 = s.spadGet d0 c0 w0 := rfl
@[simp] theorem State.rd_setWordErr (s : State) (d off m : Nat) (d0 : Nat) (r0 : Reg) :
    (State.setWordErr s d off m).rd d0 r0 = s.rd d0 r0 := rfl
@[simp] theorem State.get_setWordErr (s : State) (d off m : Nat) (d0 : Nat) (f0 : Field) :
    (State.setWordErr s d off m).get d0 f0 = s.get d0 f0 := rfl
@[simp] theorem State.flag_setWordErr (s : State) (d off m : Nat) (d0 : Nat) (f0 : Field) :
    (State.setWordErr s d off m).flag d0 f0 = s.flag d0 f0 := rfl
@[simp] theorem State.now_setWordErr (s : State) (d off m : Nat) (d0 : Nat) :
    (State.setWordErr s d off m).now d0 = s.now d0 := rfl
@[simp] theorem State.mono_setWordErr (s : State) (d off m : Nat) (d0 : Nat) :
    (State.setWordErr s d off m).mono d0 = s.mono d0 := rfl
@[simp] theorem State.dieCount_setWordErr (s : State) (d off m : Nat) :
    (State.setWordErr s d off m).dieCount = s.dieCount := rfl
@[simp] theorem State.byte_setWordErr (s : State) (d off m : Nat) (d0 o0 : Nat) :
    (State.setWordErr s d off m).byte d0 o0 = s.byte d0 o0 := rfl
@[simp] theorem State.powered_setWordErr (s : State) (d off m : Nat) :
    (State.setWordErr s d off m).powered = s.powered := rfl
@[simp] theorem State.cfg_setWordErr (s : State) (d off m : Nat) :
    (State.setWordErr s d off m).cfg = s.cfg := rfl
@[simp] theorem State.eng_setWordErr (s : State) (d off m : Nat) (d0 e0 : Nat) :
    (State.setWordErr s d off m).eng d0 e0 = s.eng d0 e0 := rfl
@[simp] theorem State.cl_setWordErr (s : State) (d off m : Nat) (d0 e0 : Nat) :
    (State.setWordErr s d off m).cl d0 e0 = s.cl d0 e0 := rfl
@[simp] theorem State.frame_setWordErr (s : State) (d off m : Nat) (f0 : Nat) :
    (State.setWordErr s d off m).frame f0 = s.frame f0 := rfl
@[simp] theorem State.bank_setWordErr (s : State) (d off m : Nat) (d0 b0 : Nat) :
    (State.setWordErr s d off m).bank d0 b0 = s.bank d0 b0 := rfl
@[simp] theorem State.recDie_setWordErr (s : State) (d off m : Nat) (d0 : Nat) :
    (State.setWordErr s d off m).recDie d0 = s.recDie d0 := rfl
@[simp] theorem State.pulse_setWordErr (s : State) (d off m : Nat) (d0 n0 : Nat) :
    (State.setWordErr s d off m).pulse d0 n0 = s.pulse d0 n0 := rfl
@[simp] theorem State.lce_setWordErr (s : State) (d off m : Nat) (d0 e0 : Nat) :
    (State.setWordErr s d off m).lce d0 e0 = s.lce d0 e0 := rfl
@[simp] theorem State.ethPort_setWordErr (s : State) (d off m : Nat) (d0 p0 : Nat) :
    (State.setWordErr s d off m).ethPort d0 p0 = s.ethPort d0 p0 := rfl
@[simp] theorem State.ethPair_setWordErr (s : State) (d off m : Nat) (d0 p0 : Nat) :
    (State.setWordErr s d off m).ethPair d0 p0 = s.ethPair d0 p0 := rfl
@[simp] theorem State.ser_setWordErr (s : State) (d off m : Nat) (d0 p0 : Nat) :
    (State.setWordErr s d off m).ser d0 p0 = s.ser d0 p0 := rfl
@[simp] theorem State.ttg_setWordErr (s : State) (d off m : Nat) (d0 : Nat) :
    (State.setWordErr s d off m).ttg d0 = s.ttg d0 := rfl
@[simp] theorem State.voqOf_setWordErr (s : State) (d off m : Nat) (d0 : Nat) :
    (State.setWordErr s d off m).voqOf d0 = s.voqOf d0 := rfl
@[simp] theorem State.outQueue_setWordErr (s : State) (d off m : Nat) (d0 o0 : Nat) :
    (State.setWordErr s d off m).outQueue d0 o0 = s.outQueue d0 o0 := rfl
@[simp] theorem State.slot_setWordErr (s : State) (d off m : Nat) (d0 c0 i0 : Nat) :
    (State.setWordErr s d off m).slot d0 c0 i0 = s.slot d0 c0 i0 := rfl
@[simp] theorem State.queued_setWordErr (s : State) (d off m : Nat) (d0 c0 q0 : Nat) :
    (State.setWordErr s d off m).queued d0 c0 q0 = s.queued d0 c0 q0 := rfl
@[simp] theorem State.weltEnd_setWordErr (s : State) (d off m : Nat) (d0 k0 : Nat) :
    (State.setWordErr s d off m).weltEnd d0 k0 = s.weltEnd d0 k0 := rfl
@[simp] theorem State.spadGet_setWordErr (s : State) (d off m : Nat) (d0 c0 w0 : Nat) :
    (State.setWordErr s d off m).spadGet d0 c0 w0 = s.spadGet d0 c0 w0 := rfl
@[simp] theorem State.rd_setRecDie (s : State) (d : Nat) (r : RecDie) (d0 : Nat) (r0 : Reg) :
    (State.setRecDie s d r).rd d0 r0 = s.rd d0 r0 := rfl
@[simp] theorem State.get_setRecDie (s : State) (d : Nat) (r : RecDie) (d0 : Nat) (f0 : Field) :
    (State.setRecDie s d r).get d0 f0 = s.get d0 f0 := rfl
@[simp] theorem State.flag_setRecDie (s : State) (d : Nat) (r : RecDie) (d0 : Nat) (f0 : Field) :
    (State.setRecDie s d r).flag d0 f0 = s.flag d0 f0 := rfl
@[simp] theorem State.now_setRecDie (s : State) (d : Nat) (r : RecDie) (d0 : Nat) :
    (State.setRecDie s d r).now d0 = s.now d0 := rfl
@[simp] theorem State.mono_setRecDie (s : State) (d : Nat) (r : RecDie) (d0 : Nat) :
    (State.setRecDie s d r).mono d0 = s.mono d0 := rfl
@[simp] theorem State.dieCount_setRecDie (s : State) (d : Nat) (r : RecDie) :
    (State.setRecDie s d r).dieCount = s.dieCount := rfl
@[simp] theorem State.byte_setRecDie (s : State) (d : Nat) (r : RecDie) (d0 o0 : Nat) :
    (State.setRecDie s d r).byte d0 o0 = s.byte d0 o0 := rfl
@[simp] theorem State.powered_setRecDie (s : State) (d : Nat) (r : RecDie) :
    (State.setRecDie s d r).powered = s.powered := rfl
@[simp] theorem State.cfg_setRecDie (s : State) (d : Nat) (r : RecDie) :
    (State.setRecDie s d r).cfg = s.cfg := rfl
@[simp] theorem State.eng_setRecDie (s : State) (d : Nat) (r : RecDie) (d0 e0 : Nat) :
    (State.setRecDie s d r).eng d0 e0 = s.eng d0 e0 := rfl
@[simp] theorem State.cl_setRecDie (s : State) (d : Nat) (r : RecDie) (d0 e0 : Nat) :
    (State.setRecDie s d r).cl d0 e0 = s.cl d0 e0 := rfl
@[simp] theorem State.frame_setRecDie (s : State) (d : Nat) (r : RecDie) (f0 : Nat) :
    (State.setRecDie s d r).frame f0 = s.frame f0 := rfl
@[simp] theorem State.bank_setRecDie (s : State) (d : Nat) (r : RecDie) (d0 b0 : Nat) :
    (State.setRecDie s d r).bank d0 b0 = s.bank d0 b0 := rfl
@[simp] theorem State.pulse_setRecDie (s : State) (d : Nat) (r : RecDie) (d0 n0 : Nat) :
    (State.setRecDie s d r).pulse d0 n0 = s.pulse d0 n0 := rfl
@[simp] theorem State.lce_setRecDie (s : State) (d : Nat) (r : RecDie) (d0 e0 : Nat) :
    (State.setRecDie s d r).lce d0 e0 = s.lce d0 e0 := rfl
@[simp] theorem State.ethPort_setRecDie (s : State) (d : Nat) (r : RecDie) (d0 p0 : Nat) :
    (State.setRecDie s d r).ethPort d0 p0 = s.ethPort d0 p0 := rfl
@[simp] theorem State.ethPair_setRecDie (s : State) (d : Nat) (r : RecDie) (d0 p0 : Nat) :
    (State.setRecDie s d r).ethPair d0 p0 = s.ethPair d0 p0 := rfl
@[simp] theorem State.ser_setRecDie (s : State) (d : Nat) (r : RecDie) (d0 p0 : Nat) :
    (State.setRecDie s d r).ser d0 p0 = s.ser d0 p0 := rfl
@[simp] theorem State.ttg_setRecDie (s : State) (d : Nat) (r : RecDie) (d0 : Nat) :
    (State.setRecDie s d r).ttg d0 = s.ttg d0 := rfl
@[simp] theorem State.voqOf_setRecDie (s : State) (d : Nat) (r : RecDie) (d0 : Nat) :
    (State.setRecDie s d r).voqOf d0 = s.voqOf d0 := rfl
@[simp] theorem State.outQueue_setRecDie (s : State) (d : Nat) (r : RecDie) (d0 o0 : Nat) :
    (State.setRecDie s d r).outQueue d0 o0 = s.outQueue d0 o0 := rfl
@[simp] theorem State.slot_setRecDie (s : State) (d : Nat) (r : RecDie) (d0 c0 i0 : Nat) :
    (State.setRecDie s d r).slot d0 c0 i0 = s.slot d0 c0 i0 := rfl
@[simp] theorem State.queued_setRecDie (s : State) (d : Nat) (r : RecDie) (d0 c0 q0 : Nat) :
    (State.setRecDie s d r).queued d0 c0 q0 = s.queued d0 c0 q0 := rfl
@[simp] theorem State.weltEnd_setRecDie (s : State) (d : Nat) (r : RecDie) (d0 k0 : Nat) :
    (State.setRecDie s d r).weltEnd d0 k0 = s.weltEnd d0 k0 := rfl
@[simp] theorem State.wordErr_setRecDie (s : State) (d : Nat) (r : RecDie) (d0 o0 : Nat) :
    (State.setRecDie s d r).wordErr d0 o0 = s.wordErr d0 o0 := rfl
@[simp] theorem State.spadGet_setRecDie (s : State) (d : Nat) (r : RecDie) (d0 c0 w0 : Nat) :
    (State.setRecDie s d r).spadGet d0 c0 w0 = s.spadGet d0 c0 w0 := rfl
@[simp] theorem State.rd_setPulse (s : State) (d n : Nat) (p : Pulse) (d0 : Nat) (r0 : Reg) :
    (State.setPulse s d n p).rd d0 r0 = s.rd d0 r0 := rfl
@[simp] theorem State.get_setPulse (s : State) (d n : Nat) (p : Pulse) (d0 : Nat) (f0 : Field) :
    (State.setPulse s d n p).get d0 f0 = s.get d0 f0 := rfl
@[simp] theorem State.flag_setPulse (s : State) (d n : Nat) (p : Pulse) (d0 : Nat) (f0 : Field) :
    (State.setPulse s d n p).flag d0 f0 = s.flag d0 f0 := rfl
@[simp] theorem State.now_setPulse (s : State) (d n : Nat) (p : Pulse) (d0 : Nat) :
    (State.setPulse s d n p).now d0 = s.now d0 := rfl
@[simp] theorem State.mono_setPulse (s : State) (d n : Nat) (p : Pulse) (d0 : Nat) :
    (State.setPulse s d n p).mono d0 = s.mono d0 := rfl
@[simp] theorem State.dieCount_setPulse (s : State) (d n : Nat) (p : Pulse) :
    (State.setPulse s d n p).dieCount = s.dieCount := rfl
@[simp] theorem State.byte_setPulse (s : State) (d n : Nat) (p : Pulse) (d0 o0 : Nat) :
    (State.setPulse s d n p).byte d0 o0 = s.byte d0 o0 := rfl
@[simp] theorem State.powered_setPulse (s : State) (d n : Nat) (p : Pulse) :
    (State.setPulse s d n p).powered = s.powered := rfl
@[simp] theorem State.cfg_setPulse (s : State) (d n : Nat) (p : Pulse) :
    (State.setPulse s d n p).cfg = s.cfg := rfl
@[simp] theorem State.eng_setPulse (s : State) (d n : Nat) (p : Pulse) (d0 e0 : Nat) :
    (State.setPulse s d n p).eng d0 e0 = s.eng d0 e0 := rfl
@[simp] theorem State.cl_setPulse (s : State) (d n : Nat) (p : Pulse) (d0 e0 : Nat) :
    (State.setPulse s d n p).cl d0 e0 = s.cl d0 e0 := rfl
@[simp] theorem State.frame_setPulse (s : State) (d n : Nat) (p : Pulse) (f0 : Nat) :
    (State.setPulse s d n p).frame f0 = s.frame f0 := rfl
@[simp] theorem State.bank_setPulse (s : State) (d n : Nat) (p : Pulse) (d0 b0 : Nat) :
    (State.setPulse s d n p).bank d0 b0 = s.bank d0 b0 := rfl
@[simp] theorem State.recDie_setPulse (s : State) (d n : Nat) (p : Pulse) (d0 : Nat) :
    (State.setPulse s d n p).recDie d0 = s.recDie d0 := rfl
@[simp] theorem State.lce_setPulse (s : State) (d n : Nat) (p : Pulse) (d0 e0 : Nat) :
    (State.setPulse s d n p).lce d0 e0 = s.lce d0 e0 := rfl
@[simp] theorem State.ethPort_setPulse (s : State) (d n : Nat) (p : Pulse) (d0 p0 : Nat) :
    (State.setPulse s d n p).ethPort d0 p0 = s.ethPort d0 p0 := rfl
@[simp] theorem State.ethPair_setPulse (s : State) (d n : Nat) (p : Pulse) (d0 p0 : Nat) :
    (State.setPulse s d n p).ethPair d0 p0 = s.ethPair d0 p0 := rfl
@[simp] theorem State.ser_setPulse (s : State) (d n : Nat) (p : Pulse) (d0 p0 : Nat) :
    (State.setPulse s d n p).ser d0 p0 = s.ser d0 p0 := rfl
@[simp] theorem State.ttg_setPulse (s : State) (d n : Nat) (p : Pulse) (d0 : Nat) :
    (State.setPulse s d n p).ttg d0 = s.ttg d0 := rfl
@[simp] theorem State.voqOf_setPulse (s : State) (d n : Nat) (p : Pulse) (d0 : Nat) :
    (State.setPulse s d n p).voqOf d0 = s.voqOf d0 := rfl
@[simp] theorem State.outQueue_setPulse (s : State) (d n : Nat) (p : Pulse) (d0 o0 : Nat) :
    (State.setPulse s d n p).outQueue d0 o0 = s.outQueue d0 o0 := rfl
@[simp] theorem State.slot_setPulse (s : State) (d n : Nat) (p : Pulse) (d0 c0 i0 : Nat) :
    (State.setPulse s d n p).slot d0 c0 i0 = s.slot d0 c0 i0 := rfl
@[simp] theorem State.queued_setPulse (s : State) (d n : Nat) (p : Pulse) (d0 c0 q0 : Nat) :
    (State.setPulse s d n p).queued d0 c0 q0 = s.queued d0 c0 q0 := rfl
@[simp] theorem State.weltEnd_setPulse (s : State) (d n : Nat) (p : Pulse) (d0 k0 : Nat) :
    (State.setPulse s d n p).weltEnd d0 k0 = s.weltEnd d0 k0 := rfl
@[simp] theorem State.wordErr_setPulse (s : State) (d n : Nat) (p : Pulse) (d0 o0 : Nat) :
    (State.setPulse s d n p).wordErr d0 o0 = s.wordErr d0 o0 := rfl
@[simp] theorem State.spadGet_setPulse (s : State) (d n : Nat) (p : Pulse) (d0 c0 w0 : Nat) :
    (State.setPulse s d n p).spadGet d0 c0 w0 = s.spadGet d0 c0 w0 := rfl
@[simp] theorem State.rd_modPwr (s : State) (f : Pwr → Pwr) (d0 : Nat) (r0 : Reg) :
    (State.modPwr s f).rd d0 r0 = s.rd d0 r0 := rfl
@[simp] theorem State.get_modPwr (s : State) (f : Pwr → Pwr) (d0 : Nat) (f0 : Field) :
    (State.modPwr s f).get d0 f0 = s.get d0 f0 := rfl
@[simp] theorem State.flag_modPwr (s : State) (f : Pwr → Pwr) (d0 : Nat) (f0 : Field) :
    (State.modPwr s f).flag d0 f0 = s.flag d0 f0 := rfl
@[simp] theorem State.now_modPwr (s : State) (f : Pwr → Pwr) (d0 : Nat) :
    (State.modPwr s f).now d0 = s.now d0 := rfl
@[simp] theorem State.mono_modPwr (s : State) (f : Pwr → Pwr) (d0 : Nat) :
    (State.modPwr s f).mono d0 = s.mono d0 := rfl
@[simp] theorem State.dieCount_modPwr (s : State) (f : Pwr → Pwr) :
    (State.modPwr s f).dieCount = s.dieCount := rfl
@[simp] theorem State.byte_modPwr (s : State) (f : Pwr → Pwr) (d0 o0 : Nat) :
    (State.modPwr s f).byte d0 o0 = s.byte d0 o0 := rfl
@[simp] theorem State.cfg_modPwr (s : State) (f : Pwr → Pwr) :
    (State.modPwr s f).cfg = s.cfg := rfl
@[simp] theorem State.eng_modPwr (s : State) (f : Pwr → Pwr) (d0 e0 : Nat) :
    (State.modPwr s f).eng d0 e0 = s.eng d0 e0 := rfl
@[simp] theorem State.cl_modPwr (s : State) (f : Pwr → Pwr) (d0 e0 : Nat) :
    (State.modPwr s f).cl d0 e0 = s.cl d0 e0 := rfl
@[simp] theorem State.frame_modPwr (s : State) (f : Pwr → Pwr) (f0 : Nat) :
    (State.modPwr s f).frame f0 = s.frame f0 := rfl
@[simp] theorem State.bank_modPwr (s : State) (f : Pwr → Pwr) (d0 b0 : Nat) :
    (State.modPwr s f).bank d0 b0 = s.bank d0 b0 := rfl
@[simp] theorem State.recDie_modPwr (s : State) (f : Pwr → Pwr) (d0 : Nat) :
    (State.modPwr s f).recDie d0 = s.recDie d0 := rfl
@[simp] theorem State.pulse_modPwr (s : State) (f : Pwr → Pwr) (d0 n0 : Nat) :
    (State.modPwr s f).pulse d0 n0 = s.pulse d0 n0 := rfl
@[simp] theorem State.lce_modPwr (s : State) (f : Pwr → Pwr) (d0 e0 : Nat) :
    (State.modPwr s f).lce d0 e0 = s.lce d0 e0 := rfl
@[simp] theorem State.ethPort_modPwr (s : State) (f : Pwr → Pwr) (d0 p0 : Nat) :
    (State.modPwr s f).ethPort d0 p0 = s.ethPort d0 p0 := rfl
@[simp] theorem State.ethPair_modPwr (s : State) (f : Pwr → Pwr) (d0 p0 : Nat) :
    (State.modPwr s f).ethPair d0 p0 = s.ethPair d0 p0 := rfl
@[simp] theorem State.ser_modPwr (s : State) (f : Pwr → Pwr) (d0 p0 : Nat) :
    (State.modPwr s f).ser d0 p0 = s.ser d0 p0 := rfl
@[simp] theorem State.ttg_modPwr (s : State) (f : Pwr → Pwr) (d0 : Nat) :
    (State.modPwr s f).ttg d0 = s.ttg d0 := rfl
@[simp] theorem State.voqOf_modPwr (s : State) (f : Pwr → Pwr) (d0 : Nat) :
    (State.modPwr s f).voqOf d0 = s.voqOf d0 := rfl
@[simp] theorem State.outQueue_modPwr (s : State) (f : Pwr → Pwr) (d0 o0 : Nat) :
    (State.modPwr s f).outQueue d0 o0 = s.outQueue d0 o0 := rfl
@[simp] theorem State.slot_modPwr (s : State) (f : Pwr → Pwr) (d0 c0 i0 : Nat) :
    (State.modPwr s f).slot d0 c0 i0 = s.slot d0 c0 i0 := rfl
@[simp] theorem State.queued_modPwr (s : State) (f : Pwr → Pwr) (d0 c0 q0 : Nat) :
    (State.modPwr s f).queued d0 c0 q0 = s.queued d0 c0 q0 := rfl
@[simp] theorem State.weltEnd_modPwr (s : State) (f : Pwr → Pwr) (d0 k0 : Nat) :
    (State.modPwr s f).weltEnd d0 k0 = s.weltEnd d0 k0 := rfl
@[simp] theorem State.wordErr_modPwr (s : State) (f : Pwr → Pwr) (d0 o0 : Nat) :
    (State.modPwr s f).wordErr d0 o0 = s.wordErr d0 o0 := rfl
@[simp] theorem State.spadGet_modPwr (s : State) (f : Pwr → Pwr) (d0 c0 w0 : Nat) :
    (State.modPwr s f).spadGet d0 c0 w0 = s.spadGet d0 c0 w0 := rfl
@[simp] theorem State.rd_modRcv (s : State) (f : Rcv → Rcv) (d0 : Nat) (r0 : Reg) :
    (State.modRcv s f).rd d0 r0 = s.rd d0 r0 := rfl
@[simp] theorem State.get_modRcv (s : State) (f : Rcv → Rcv) (d0 : Nat) (f0 : Field) :
    (State.modRcv s f).get d0 f0 = s.get d0 f0 := rfl
@[simp] theorem State.flag_modRcv (s : State) (f : Rcv → Rcv) (d0 : Nat) (f0 : Field) :
    (State.modRcv s f).flag d0 f0 = s.flag d0 f0 := rfl
@[simp] theorem State.now_modRcv (s : State) (f : Rcv → Rcv) (d0 : Nat) :
    (State.modRcv s f).now d0 = s.now d0 := rfl
@[simp] theorem State.mono_modRcv (s : State) (f : Rcv → Rcv) (d0 : Nat) :
    (State.modRcv s f).mono d0 = s.mono d0 := rfl
@[simp] theorem State.dieCount_modRcv (s : State) (f : Rcv → Rcv) :
    (State.modRcv s f).dieCount = s.dieCount := rfl
@[simp] theorem State.byte_modRcv (s : State) (f : Rcv → Rcv) (d0 o0 : Nat) :
    (State.modRcv s f).byte d0 o0 = s.byte d0 o0 := rfl
@[simp] theorem State.powered_modRcv (s : State) (f : Rcv → Rcv) :
    (State.modRcv s f).powered = s.powered := rfl
@[simp] theorem State.cfg_modRcv (s : State) (f : Rcv → Rcv) :
    (State.modRcv s f).cfg = s.cfg := rfl
@[simp] theorem State.eng_modRcv (s : State) (f : Rcv → Rcv) (d0 e0 : Nat) :
    (State.modRcv s f).eng d0 e0 = s.eng d0 e0 := rfl
@[simp] theorem State.cl_modRcv (s : State) (f : Rcv → Rcv) (d0 e0 : Nat) :
    (State.modRcv s f).cl d0 e0 = s.cl d0 e0 := rfl
@[simp] theorem State.frame_modRcv (s : State) (f : Rcv → Rcv) (f0 : Nat) :
    (State.modRcv s f).frame f0 = s.frame f0 := rfl
@[simp] theorem State.bank_modRcv (s : State) (f : Rcv → Rcv) (d0 b0 : Nat) :
    (State.modRcv s f).bank d0 b0 = s.bank d0 b0 := rfl
@[simp] theorem State.recDie_modRcv (s : State) (f : Rcv → Rcv) (d0 : Nat) :
    (State.modRcv s f).recDie d0 = s.recDie d0 := rfl
@[simp] theorem State.pulse_modRcv (s : State) (f : Rcv → Rcv) (d0 n0 : Nat) :
    (State.modRcv s f).pulse d0 n0 = s.pulse d0 n0 := rfl
@[simp] theorem State.lce_modRcv (s : State) (f : Rcv → Rcv) (d0 e0 : Nat) :
    (State.modRcv s f).lce d0 e0 = s.lce d0 e0 := rfl
@[simp] theorem State.ethPort_modRcv (s : State) (f : Rcv → Rcv) (d0 p0 : Nat) :
    (State.modRcv s f).ethPort d0 p0 = s.ethPort d0 p0 := rfl
@[simp] theorem State.ethPair_modRcv (s : State) (f : Rcv → Rcv) (d0 p0 : Nat) :
    (State.modRcv s f).ethPair d0 p0 = s.ethPair d0 p0 := rfl
@[simp] theorem State.ser_modRcv (s : State) (f : Rcv → Rcv) (d0 p0 : Nat) :
    (State.modRcv s f).ser d0 p0 = s.ser d0 p0 := rfl
@[simp] theorem State.ttg_modRcv (s : State) (f : Rcv → Rcv) (d0 : Nat) :
    (State.modRcv s f).ttg d0 = s.ttg d0 := rfl
@[simp] theorem State.voqOf_modRcv (s : State) (f : Rcv → Rcv) (d0 : Nat) :
    (State.modRcv s f).voqOf d0 = s.voqOf d0 := rfl
@[simp] theorem State.outQueue_modRcv (s : State) (f : Rcv → Rcv) (d0 o0 : Nat) :
    (State.modRcv s f).outQueue d0 o0 = s.outQueue d0 o0 := rfl
@[simp] theorem State.slot_modRcv (s : State) (f : Rcv → Rcv) (d0 c0 i0 : Nat) :
    (State.modRcv s f).slot d0 c0 i0 = s.slot d0 c0 i0 := rfl
@[simp] theorem State.queued_modRcv (s : State) (f : Rcv → Rcv) (d0 c0 q0 : Nat) :
    (State.modRcv s f).queued d0 c0 q0 = s.queued d0 c0 q0 := rfl
@[simp] theorem State.weltEnd_modRcv (s : State) (f : Rcv → Rcv) (d0 k0 : Nat) :
    (State.modRcv s f).weltEnd d0 k0 = s.weltEnd d0 k0 := rfl
@[simp] theorem State.wordErr_modRcv (s : State) (f : Rcv → Rcv) (d0 o0 : Nat) :
    (State.modRcv s f).wordErr d0 o0 = s.wordErr d0 o0 := rfl
@[simp] theorem State.spadGet_modRcv (s : State) (f : Rcv → Rcv) (d0 c0 w0 : Nat) :
    (State.modRcv s f).spadGet d0 c0 w0 = s.spadGet d0 c0 w0 := rfl
@[simp] theorem State.rd_modHar (s : State) (f : Har → Har) (d0 : Nat) (r0 : Reg) :
    (State.modHar s f).rd d0 r0 = s.rd d0 r0 := rfl
@[simp] theorem State.get_modHar (s : State) (f : Har → Har) (d0 : Nat) (f0 : Field) :
    (State.modHar s f).get d0 f0 = s.get d0 f0 := rfl
@[simp] theorem State.flag_modHar (s : State) (f : Har → Har) (d0 : Nat) (f0 : Field) :
    (State.modHar s f).flag d0 f0 = s.flag d0 f0 := rfl
@[simp] theorem State.now_modHar (s : State) (f : Har → Har) (d0 : Nat) :
    (State.modHar s f).now d0 = s.now d0 := rfl
@[simp] theorem State.mono_modHar (s : State) (f : Har → Har) (d0 : Nat) :
    (State.modHar s f).mono d0 = s.mono d0 := rfl
@[simp] theorem State.dieCount_modHar (s : State) (f : Har → Har) :
    (State.modHar s f).dieCount = s.dieCount := rfl
@[simp] theorem State.byte_modHar (s : State) (f : Har → Har) (d0 o0 : Nat) :
    (State.modHar s f).byte d0 o0 = s.byte d0 o0 := rfl
@[simp] theorem State.powered_modHar (s : State) (f : Har → Har) :
    (State.modHar s f).powered = s.powered := rfl
@[simp] theorem State.eng_modHar (s : State) (f : Har → Har) (d0 e0 : Nat) :
    (State.modHar s f).eng d0 e0 = s.eng d0 e0 := rfl
@[simp] theorem State.cl_modHar (s : State) (f : Har → Har) (d0 e0 : Nat) :
    (State.modHar s f).cl d0 e0 = s.cl d0 e0 := rfl
@[simp] theorem State.frame_modHar (s : State) (f : Har → Har) (f0 : Nat) :
    (State.modHar s f).frame f0 = s.frame f0 := rfl
@[simp] theorem State.bank_modHar (s : State) (f : Har → Har) (d0 b0 : Nat) :
    (State.modHar s f).bank d0 b0 = s.bank d0 b0 := rfl
@[simp] theorem State.recDie_modHar (s : State) (f : Har → Har) (d0 : Nat) :
    (State.modHar s f).recDie d0 = s.recDie d0 := rfl
@[simp] theorem State.pulse_modHar (s : State) (f : Har → Har) (d0 n0 : Nat) :
    (State.modHar s f).pulse d0 n0 = s.pulse d0 n0 := rfl
@[simp] theorem State.lce_modHar (s : State) (f : Har → Har) (d0 e0 : Nat) :
    (State.modHar s f).lce d0 e0 = s.lce d0 e0 := rfl
@[simp] theorem State.ethPort_modHar (s : State) (f : Har → Har) (d0 p0 : Nat) :
    (State.modHar s f).ethPort d0 p0 = s.ethPort d0 p0 := rfl
@[simp] theorem State.ethPair_modHar (s : State) (f : Har → Har) (d0 p0 : Nat) :
    (State.modHar s f).ethPair d0 p0 = s.ethPair d0 p0 := rfl
@[simp] theorem State.ser_modHar (s : State) (f : Har → Har) (d0 p0 : Nat) :
    (State.modHar s f).ser d0 p0 = s.ser d0 p0 := rfl
@[simp] theorem State.ttg_modHar (s : State) (f : Har → Har) (d0 : Nat) :
    (State.modHar s f).ttg d0 = s.ttg d0 := rfl
@[simp] theorem State.voqOf_modHar (s : State) (f : Har → Har) (d0 : Nat) :
    (State.modHar s f).voqOf d0 = s.voqOf d0 := rfl
@[simp] theorem State.outQueue_modHar (s : State) (f : Har → Har) (d0 o0 : Nat) :
    (State.modHar s f).outQueue d0 o0 = s.outQueue d0 o0 := rfl
@[simp] theorem State.slot_modHar (s : State) (f : Har → Har) (d0 c0 i0 : Nat) :
    (State.modHar s f).slot d0 c0 i0 = s.slot d0 c0 i0 := rfl
@[simp] theorem State.queued_modHar (s : State) (f : Har → Har) (d0 c0 q0 : Nat) :
    (State.modHar s f).queued d0 c0 q0 = s.queued d0 c0 q0 := rfl
@[simp] theorem State.weltEnd_modHar (s : State) (f : Har → Har) (d0 k0 : Nat) :
    (State.modHar s f).weltEnd d0 k0 = s.weltEnd d0 k0 := rfl
@[simp] theorem State.wordErr_modHar (s : State) (f : Har → Har) (d0 o0 : Nat) :
    (State.modHar s f).wordErr d0 o0 = s.wordErr d0 o0 := rfl
@[simp] theorem State.spadGet_modHar (s : State) (f : Har → Har) (d0 c0 w0 : Nat) :
    (State.modHar s f).spadGet d0 c0 w0 = s.spadGet d0 c0 w0 := rfl
@[simp] theorem State.rd_setRein (s : State) (r : ReinSt) (d0 : Nat) (r0 : Reg) :
    (State.setRein s r).rd d0 r0 = s.rd d0 r0 := rfl
@[simp] theorem State.get_setRein (s : State) (r : ReinSt) (d0 : Nat) (f0 : Field) :
    (State.setRein s r).get d0 f0 = s.get d0 f0 := rfl
@[simp] theorem State.flag_setRein (s : State) (r : ReinSt) (d0 : Nat) (f0 : Field) :
    (State.setRein s r).flag d0 f0 = s.flag d0 f0 := rfl
@[simp] theorem State.now_setRein (s : State) (r : ReinSt) (d0 : Nat) :
    (State.setRein s r).now d0 = s.now d0 := rfl
@[simp] theorem State.mono_setRein (s : State) (r : ReinSt) (d0 : Nat) :
    (State.setRein s r).mono d0 = s.mono d0 := rfl
@[simp] theorem State.dieCount_setRein (s : State) (r : ReinSt) :
    (State.setRein s r).dieCount = s.dieCount := rfl
@[simp] theorem State.byte_setRein (s : State) (r : ReinSt) (d0 o0 : Nat) :
    (State.setRein s r).byte d0 o0 = s.byte d0 o0 := rfl
@[simp] theorem State.powered_setRein (s : State) (r : ReinSt) :
    (State.setRein s r).powered = s.powered := rfl
@[simp] theorem State.cfg_setRein (s : State) (r : ReinSt) :
    (State.setRein s r).cfg = s.cfg := rfl
@[simp] theorem State.eng_setRein (s : State) (r : ReinSt) (d0 e0 : Nat) :
    (State.setRein s r).eng d0 e0 = s.eng d0 e0 := rfl
@[simp] theorem State.cl_setRein (s : State) (r : ReinSt) (d0 e0 : Nat) :
    (State.setRein s r).cl d0 e0 = s.cl d0 e0 := rfl
@[simp] theorem State.frame_setRein (s : State) (r : ReinSt) (f0 : Nat) :
    (State.setRein s r).frame f0 = s.frame f0 := rfl
@[simp] theorem State.bank_setRein (s : State) (r : ReinSt) (d0 b0 : Nat) :
    (State.setRein s r).bank d0 b0 = s.bank d0 b0 := rfl
@[simp] theorem State.recDie_setRein (s : State) (r : ReinSt) (d0 : Nat) :
    (State.setRein s r).recDie d0 = s.recDie d0 := rfl
@[simp] theorem State.pulse_setRein (s : State) (r : ReinSt) (d0 n0 : Nat) :
    (State.setRein s r).pulse d0 n0 = s.pulse d0 n0 := rfl
@[simp] theorem State.lce_setRein (s : State) (r : ReinSt) (d0 e0 : Nat) :
    (State.setRein s r).lce d0 e0 = s.lce d0 e0 := rfl
@[simp] theorem State.ethPort_setRein (s : State) (r : ReinSt) (d0 p0 : Nat) :
    (State.setRein s r).ethPort d0 p0 = s.ethPort d0 p0 := rfl
@[simp] theorem State.ethPair_setRein (s : State) (r : ReinSt) (d0 p0 : Nat) :
    (State.setRein s r).ethPair d0 p0 = s.ethPair d0 p0 := rfl
@[simp] theorem State.ser_setRein (s : State) (r : ReinSt) (d0 p0 : Nat) :
    (State.setRein s r).ser d0 p0 = s.ser d0 p0 := rfl
@[simp] theorem State.ttg_setRein (s : State) (r : ReinSt) (d0 : Nat) :
    (State.setRein s r).ttg d0 = s.ttg d0 := rfl
@[simp] theorem State.voqOf_setRein (s : State) (r : ReinSt) (d0 : Nat) :
    (State.setRein s r).voqOf d0 = s.voqOf d0 := rfl
@[simp] theorem State.outQueue_setRein (s : State) (r : ReinSt) (d0 o0 : Nat) :
    (State.setRein s r).outQueue d0 o0 = s.outQueue d0 o0 := rfl
@[simp] theorem State.slot_setRein (s : State) (r : ReinSt) (d0 c0 i0 : Nat) :
    (State.setRein s r).slot d0 c0 i0 = s.slot d0 c0 i0 := rfl
@[simp] theorem State.queued_setRein (s : State) (r : ReinSt) (d0 c0 q0 : Nat) :
    (State.setRein s r).queued d0 c0 q0 = s.queued d0 c0 q0 := rfl
@[simp] theorem State.weltEnd_setRein (s : State) (r : ReinSt) (d0 k0 : Nat) :
    (State.setRein s r).weltEnd d0 k0 = s.weltEnd d0 k0 := rfl
@[simp] theorem State.wordErr_setRein (s : State) (r : ReinSt) (d0 o0 : Nat) :
    (State.setRein s r).wordErr d0 o0 = s.wordErr d0 o0 := rfl
@[simp] theorem State.spadGet_setRein (s : State) (r : ReinSt) (d0 c0 w0 : Nat) :
    (State.setRein s r).spadGet d0 c0 w0 = s.spadGet d0 c0 w0 := rfl
@[simp] theorem State.rd_setWelt (s : State) (d k : Nat) (e : WeltEnd) (d0 : Nat) (r0 : Reg) :
    (State.setWelt s d k e).rd d0 r0 = s.rd d0 r0 := rfl
@[simp] theorem State.get_setWelt (s : State) (d k : Nat) (e : WeltEnd) (d0 : Nat) (f0 : Field) :
    (State.setWelt s d k e).get d0 f0 = s.get d0 f0 := rfl
@[simp] theorem State.flag_setWelt (s : State) (d k : Nat) (e : WeltEnd) (d0 : Nat) (f0 : Field) :
    (State.setWelt s d k e).flag d0 f0 = s.flag d0 f0 := rfl
@[simp] theorem State.now_setWelt (s : State) (d k : Nat) (e : WeltEnd) (d0 : Nat) :
    (State.setWelt s d k e).now d0 = s.now d0 := rfl
@[simp] theorem State.mono_setWelt (s : State) (d k : Nat) (e : WeltEnd) (d0 : Nat) :
    (State.setWelt s d k e).mono d0 = s.mono d0 := rfl
@[simp] theorem State.dieCount_setWelt (s : State) (d k : Nat) (e : WeltEnd) :
    (State.setWelt s d k e).dieCount = s.dieCount := rfl
@[simp] theorem State.byte_setWelt (s : State) (d k : Nat) (e : WeltEnd) (d0 o0 : Nat) :
    (State.setWelt s d k e).byte d0 o0 = s.byte d0 o0 := rfl
@[simp] theorem State.powered_setWelt (s : State) (d k : Nat) (e : WeltEnd) :
    (State.setWelt s d k e).powered = s.powered := rfl
@[simp] theorem State.cfg_setWelt (s : State) (d k : Nat) (e : WeltEnd) :
    (State.setWelt s d k e).cfg = s.cfg := rfl
@[simp] theorem State.eng_setWelt (s : State) (d k : Nat) (e : WeltEnd) (d0 e0 : Nat) :
    (State.setWelt s d k e).eng d0 e0 = s.eng d0 e0 := rfl
@[simp] theorem State.cl_setWelt (s : State) (d k : Nat) (e : WeltEnd) (d0 e0 : Nat) :
    (State.setWelt s d k e).cl d0 e0 = s.cl d0 e0 := rfl
@[simp] theorem State.frame_setWelt (s : State) (d k : Nat) (e : WeltEnd) (f0 : Nat) :
    (State.setWelt s d k e).frame f0 = s.frame f0 := rfl
@[simp] theorem State.bank_setWelt (s : State) (d k : Nat) (e : WeltEnd) (d0 b0 : Nat) :
    (State.setWelt s d k e).bank d0 b0 = s.bank d0 b0 := rfl
@[simp] theorem State.recDie_setWelt (s : State) (d k : Nat) (e : WeltEnd) (d0 : Nat) :
    (State.setWelt s d k e).recDie d0 = s.recDie d0 := rfl
@[simp] theorem State.pulse_setWelt (s : State) (d k : Nat) (e : WeltEnd) (d0 n0 : Nat) :
    (State.setWelt s d k e).pulse d0 n0 = s.pulse d0 n0 := rfl
@[simp] theorem State.lce_setWelt (s : State) (d k : Nat) (e : WeltEnd) (d0 e0 : Nat) :
    (State.setWelt s d k e).lce d0 e0 = s.lce d0 e0 := rfl
@[simp] theorem State.ethPort_setWelt (s : State) (d k : Nat) (e : WeltEnd) (d0 p0 : Nat) :
    (State.setWelt s d k e).ethPort d0 p0 = s.ethPort d0 p0 := rfl
@[simp] theorem State.ethPair_setWelt (s : State) (d k : Nat) (e : WeltEnd) (d0 p0 : Nat) :
    (State.setWelt s d k e).ethPair d0 p0 = s.ethPair d0 p0 := rfl
@[simp] theorem State.ser_setWelt (s : State) (d k : Nat) (e : WeltEnd) (d0 p0 : Nat) :
    (State.setWelt s d k e).ser d0 p0 = s.ser d0 p0 := rfl
@[simp] theorem State.ttg_setWelt (s : State) (d k : Nat) (e : WeltEnd) (d0 : Nat) :
    (State.setWelt s d k e).ttg d0 = s.ttg d0 := rfl
@[simp] theorem State.voqOf_setWelt (s : State) (d k : Nat) (e : WeltEnd) (d0 : Nat) :
    (State.setWelt s d k e).voqOf d0 = s.voqOf d0 := rfl
@[simp] theorem State.outQueue_setWelt (s : State) (d k : Nat) (e : WeltEnd) (d0 o0 : Nat) :
    (State.setWelt s d k e).outQueue d0 o0 = s.outQueue d0 o0 := rfl
@[simp] theorem State.slot_setWelt (s : State) (d k : Nat) (e : WeltEnd) (d0 c0 i0 : Nat) :
    (State.setWelt s d k e).slot d0 c0 i0 = s.slot d0 c0 i0 := rfl
@[simp] theorem State.queued_setWelt (s : State) (d k : Nat) (e : WeltEnd) (d0 c0 q0 : Nat) :
    (State.setWelt s d k e).queued d0 c0 q0 = s.queued d0 c0 q0 := rfl
@[simp] theorem State.wordErr_setWelt (s : State) (d k : Nat) (e : WeltEnd) (d0 o0 : Nat) :
    (State.setWelt s d k e).wordErr d0 o0 = s.wordErr d0 o0 := rfl
@[simp] theorem State.spadGet_setWelt (s : State) (d k : Nat) (e : WeltEnd) (d0 c0 w0 : Nat) :
    (State.setWelt s d k e).spadGet d0 c0 w0 = s.spadGet d0 c0 w0 := rfl
@[simp] theorem State.rd_setLce (s : State) (d e : Nat) (x : LaceEng) (d0 : Nat) (r0 : Reg) :
    (State.setLce s d e x).rd d0 r0 = s.rd d0 r0 := rfl
@[simp] theorem State.get_setLce (s : State) (d e : Nat) (x : LaceEng) (d0 : Nat) (f0 : Field) :
    (State.setLce s d e x).get d0 f0 = s.get d0 f0 := rfl
@[simp] theorem State.flag_setLce (s : State) (d e : Nat) (x : LaceEng) (d0 : Nat) (f0 : Field) :
    (State.setLce s d e x).flag d0 f0 = s.flag d0 f0 := rfl
@[simp] theorem State.now_setLce (s : State) (d e : Nat) (x : LaceEng) (d0 : Nat) :
    (State.setLce s d e x).now d0 = s.now d0 := rfl
@[simp] theorem State.mono_setLce (s : State) (d e : Nat) (x : LaceEng) (d0 : Nat) :
    (State.setLce s d e x).mono d0 = s.mono d0 := rfl
@[simp] theorem State.dieCount_setLce (s : State) (d e : Nat) (x : LaceEng) :
    (State.setLce s d e x).dieCount = s.dieCount := rfl
@[simp] theorem State.byte_setLce (s : State) (d e : Nat) (x : LaceEng) (d0 o0 : Nat) :
    (State.setLce s d e x).byte d0 o0 = s.byte d0 o0 := rfl
@[simp] theorem State.powered_setLce (s : State) (d e : Nat) (x : LaceEng) :
    (State.setLce s d e x).powered = s.powered := rfl
@[simp] theorem State.cfg_setLce (s : State) (d e : Nat) (x : LaceEng) :
    (State.setLce s d e x).cfg = s.cfg := rfl
@[simp] theorem State.eng_setLce (s : State) (d e : Nat) (x : LaceEng) (d0 e0 : Nat) :
    (State.setLce s d e x).eng d0 e0 = s.eng d0 e0 := rfl
@[simp] theorem State.cl_setLce (s : State) (d e : Nat) (x : LaceEng) (d0 e0 : Nat) :
    (State.setLce s d e x).cl d0 e0 = s.cl d0 e0 := rfl
@[simp] theorem State.frame_setLce (s : State) (d e : Nat) (x : LaceEng) (f0 : Nat) :
    (State.setLce s d e x).frame f0 = s.frame f0 := rfl
@[simp] theorem State.bank_setLce (s : State) (d e : Nat) (x : LaceEng) (d0 b0 : Nat) :
    (State.setLce s d e x).bank d0 b0 = s.bank d0 b0 := rfl
@[simp] theorem State.recDie_setLce (s : State) (d e : Nat) (x : LaceEng) (d0 : Nat) :
    (State.setLce s d e x).recDie d0 = s.recDie d0 := rfl
@[simp] theorem State.pulse_setLce (s : State) (d e : Nat) (x : LaceEng) (d0 n0 : Nat) :
    (State.setLce s d e x).pulse d0 n0 = s.pulse d0 n0 := rfl
@[simp] theorem State.ethPort_setLce (s : State) (d e : Nat) (x : LaceEng) (d0 p0 : Nat) :
    (State.setLce s d e x).ethPort d0 p0 = s.ethPort d0 p0 := rfl
@[simp] theorem State.ethPair_setLce (s : State) (d e : Nat) (x : LaceEng) (d0 p0 : Nat) :
    (State.setLce s d e x).ethPair d0 p0 = s.ethPair d0 p0 := rfl
@[simp] theorem State.ser_setLce (s : State) (d e : Nat) (x : LaceEng) (d0 p0 : Nat) :
    (State.setLce s d e x).ser d0 p0 = s.ser d0 p0 := rfl
@[simp] theorem State.ttg_setLce (s : State) (d e : Nat) (x : LaceEng) (d0 : Nat) :
    (State.setLce s d e x).ttg d0 = s.ttg d0 := rfl
@[simp] theorem State.voqOf_setLce (s : State) (d e : Nat) (x : LaceEng) (d0 : Nat) :
    (State.setLce s d e x).voqOf d0 = s.voqOf d0 := rfl
@[simp] theorem State.outQueue_setLce (s : State) (d e : Nat) (x : LaceEng) (d0 o0 : Nat) :
    (State.setLce s d e x).outQueue d0 o0 = s.outQueue d0 o0 := rfl
@[simp] theorem State.slot_setLce (s : State) (d e : Nat) (x : LaceEng) (d0 c0 i0 : Nat) :
    (State.setLce s d e x).slot d0 c0 i0 = s.slot d0 c0 i0 := rfl
@[simp] theorem State.queued_setLce (s : State) (d e : Nat) (x : LaceEng) (d0 c0 q0 : Nat) :
    (State.setLce s d e x).queued d0 c0 q0 = s.queued d0 c0 q0 := rfl
@[simp] theorem State.weltEnd_setLce (s : State) (d e : Nat) (x : LaceEng) (d0 k0 : Nat) :
    (State.setLce s d e x).weltEnd d0 k0 = s.weltEnd d0 k0 := rfl
@[simp] theorem State.wordErr_setLce (s : State) (d e : Nat) (x : LaceEng) (d0 o0 : Nat) :
    (State.setLce s d e x).wordErr d0 o0 = s.wordErr d0 o0 := rfl
@[simp] theorem State.spadGet_setLce (s : State) (d e : Nat) (x : LaceEng) (d0 c0 w0 : Nat) :
    (State.setLce s d e x).spadGet d0 c0 w0 = s.spadGet d0 c0 w0 := rfl
@[simp] theorem State.rd_modPort (s : State) (d p : Nat) (g : EthPort → EthPort) (d0 : Nat) (r0 : Reg) :
    (State.modPort s d p g).rd d0 r0 = s.rd d0 r0 := rfl
@[simp] theorem State.get_modPort (s : State) (d p : Nat) (g : EthPort → EthPort) (d0 : Nat) (f0 : Field) :
    (State.modPort s d p g).get d0 f0 = s.get d0 f0 := rfl
@[simp] theorem State.flag_modPort (s : State) (d p : Nat) (g : EthPort → EthPort) (d0 : Nat) (f0 : Field) :
    (State.modPort s d p g).flag d0 f0 = s.flag d0 f0 := rfl
@[simp] theorem State.now_modPort (s : State) (d p : Nat) (g : EthPort → EthPort) (d0 : Nat) :
    (State.modPort s d p g).now d0 = s.now d0 := rfl
@[simp] theorem State.mono_modPort (s : State) (d p : Nat) (g : EthPort → EthPort) (d0 : Nat) :
    (State.modPort s d p g).mono d0 = s.mono d0 := rfl
@[simp] theorem State.dieCount_modPort (s : State) (d p : Nat) (g : EthPort → EthPort) :
    (State.modPort s d p g).dieCount = s.dieCount := rfl
@[simp] theorem State.byte_modPort (s : State) (d p : Nat) (g : EthPort → EthPort) (d0 o0 : Nat) :
    (State.modPort s d p g).byte d0 o0 = s.byte d0 o0 := rfl
@[simp] theorem State.powered_modPort (s : State) (d p : Nat) (g : EthPort → EthPort) :
    (State.modPort s d p g).powered = s.powered := rfl
@[simp] theorem State.cfg_modPort (s : State) (d p : Nat) (g : EthPort → EthPort) :
    (State.modPort s d p g).cfg = s.cfg := rfl
@[simp] theorem State.eng_modPort (s : State) (d p : Nat) (g : EthPort → EthPort) (d0 e0 : Nat) :
    (State.modPort s d p g).eng d0 e0 = s.eng d0 e0 := rfl
@[simp] theorem State.cl_modPort (s : State) (d p : Nat) (g : EthPort → EthPort) (d0 e0 : Nat) :
    (State.modPort s d p g).cl d0 e0 = s.cl d0 e0 := rfl
@[simp] theorem State.frame_modPort (s : State) (d p : Nat) (g : EthPort → EthPort) (f0 : Nat) :
    (State.modPort s d p g).frame f0 = s.frame f0 := rfl
@[simp] theorem State.bank_modPort (s : State) (d p : Nat) (g : EthPort → EthPort) (d0 b0 : Nat) :
    (State.modPort s d p g).bank d0 b0 = s.bank d0 b0 := rfl
@[simp] theorem State.recDie_modPort (s : State) (d p : Nat) (g : EthPort → EthPort) (d0 : Nat) :
    (State.modPort s d p g).recDie d0 = s.recDie d0 := rfl
@[simp] theorem State.pulse_modPort (s : State) (d p : Nat) (g : EthPort → EthPort) (d0 n0 : Nat) :
    (State.modPort s d p g).pulse d0 n0 = s.pulse d0 n0 := rfl
@[simp] theorem State.lce_modPort (s : State) (d p : Nat) (g : EthPort → EthPort) (d0 e0 : Nat) :
    (State.modPort s d p g).lce d0 e0 = s.lce d0 e0 := rfl
@[simp] theorem State.ethPair_modPort (s : State) (d p : Nat) (g : EthPort → EthPort) (d0 p0 : Nat) :
    (State.modPort s d p g).ethPair d0 p0 = s.ethPair d0 p0 := rfl
@[simp] theorem State.ser_modPort (s : State) (d p : Nat) (g : EthPort → EthPort) (d0 p0 : Nat) :
    (State.modPort s d p g).ser d0 p0 = s.ser d0 p0 := rfl
@[simp] theorem State.ttg_modPort (s : State) (d p : Nat) (g : EthPort → EthPort) (d0 : Nat) :
    (State.modPort s d p g).ttg d0 = s.ttg d0 := rfl
@[simp] theorem State.voqOf_modPort (s : State) (d p : Nat) (g : EthPort → EthPort) (d0 : Nat) :
    (State.modPort s d p g).voqOf d0 = s.voqOf d0 := rfl
@[simp] theorem State.outQueue_modPort (s : State) (d p : Nat) (g : EthPort → EthPort) (d0 o0 : Nat) :
    (State.modPort s d p g).outQueue d0 o0 = s.outQueue d0 o0 := rfl
@[simp] theorem State.slot_modPort (s : State) (d p : Nat) (g : EthPort → EthPort) (d0 c0 i0 : Nat) :
    (State.modPort s d p g).slot d0 c0 i0 = s.slot d0 c0 i0 := rfl
@[simp] theorem State.queued_modPort (s : State) (d p : Nat) (g : EthPort → EthPort) (d0 c0 q0 : Nat) :
    (State.modPort s d p g).queued d0 c0 q0 = s.queued d0 c0 q0 := rfl
@[simp] theorem State.weltEnd_modPort (s : State) (d p : Nat) (g : EthPort → EthPort) (d0 k0 : Nat) :
    (State.modPort s d p g).weltEnd d0 k0 = s.weltEnd d0 k0 := rfl
@[simp] theorem State.wordErr_modPort (s : State) (d p : Nat) (g : EthPort → EthPort) (d0 o0 : Nat) :
    (State.modPort s d p g).wordErr d0 o0 = s.wordErr d0 o0 := rfl
@[simp] theorem State.spadGet_modPort (s : State) (d p : Nat) (g : EthPort → EthPort) (d0 c0 w0 : Nat) :
    (State.modPort s d p g).spadGet d0 c0 w0 = s.spadGet d0 c0 w0 := rfl
@[simp] theorem State.rd_modPair (s : State) (d k : Nat) (g : EthPair → EthPair) (d0 : Nat) (r0 : Reg) :
    (State.modPair s d k g).rd d0 r0 = s.rd d0 r0 := rfl
@[simp] theorem State.get_modPair (s : State) (d k : Nat) (g : EthPair → EthPair) (d0 : Nat) (f0 : Field) :
    (State.modPair s d k g).get d0 f0 = s.get d0 f0 := rfl
@[simp] theorem State.flag_modPair (s : State) (d k : Nat) (g : EthPair → EthPair) (d0 : Nat) (f0 : Field) :
    (State.modPair s d k g).flag d0 f0 = s.flag d0 f0 := rfl
@[simp] theorem State.now_modPair (s : State) (d k : Nat) (g : EthPair → EthPair) (d0 : Nat) :
    (State.modPair s d k g).now d0 = s.now d0 := rfl
@[simp] theorem State.mono_modPair (s : State) (d k : Nat) (g : EthPair → EthPair) (d0 : Nat) :
    (State.modPair s d k g).mono d0 = s.mono d0 := rfl
@[simp] theorem State.dieCount_modPair (s : State) (d k : Nat) (g : EthPair → EthPair) :
    (State.modPair s d k g).dieCount = s.dieCount := rfl
@[simp] theorem State.byte_modPair (s : State) (d k : Nat) (g : EthPair → EthPair) (d0 o0 : Nat) :
    (State.modPair s d k g).byte d0 o0 = s.byte d0 o0 := rfl
@[simp] theorem State.powered_modPair (s : State) (d k : Nat) (g : EthPair → EthPair) :
    (State.modPair s d k g).powered = s.powered := rfl
@[simp] theorem State.cfg_modPair (s : State) (d k : Nat) (g : EthPair → EthPair) :
    (State.modPair s d k g).cfg = s.cfg := rfl
@[simp] theorem State.eng_modPair (s : State) (d k : Nat) (g : EthPair → EthPair) (d0 e0 : Nat) :
    (State.modPair s d k g).eng d0 e0 = s.eng d0 e0 := rfl
@[simp] theorem State.cl_modPair (s : State) (d k : Nat) (g : EthPair → EthPair) (d0 e0 : Nat) :
    (State.modPair s d k g).cl d0 e0 = s.cl d0 e0 := rfl
@[simp] theorem State.frame_modPair (s : State) (d k : Nat) (g : EthPair → EthPair) (f0 : Nat) :
    (State.modPair s d k g).frame f0 = s.frame f0 := rfl
@[simp] theorem State.bank_modPair (s : State) (d k : Nat) (g : EthPair → EthPair) (d0 b0 : Nat) :
    (State.modPair s d k g).bank d0 b0 = s.bank d0 b0 := rfl
@[simp] theorem State.recDie_modPair (s : State) (d k : Nat) (g : EthPair → EthPair) (d0 : Nat) :
    (State.modPair s d k g).recDie d0 = s.recDie d0 := rfl
@[simp] theorem State.pulse_modPair (s : State) (d k : Nat) (g : EthPair → EthPair) (d0 n0 : Nat) :
    (State.modPair s d k g).pulse d0 n0 = s.pulse d0 n0 := rfl
@[simp] theorem State.lce_modPair (s : State) (d k : Nat) (g : EthPair → EthPair) (d0 e0 : Nat) :
    (State.modPair s d k g).lce d0 e0 = s.lce d0 e0 := rfl
@[simp] theorem State.ethPort_modPair (s : State) (d k : Nat) (g : EthPair → EthPair) (d0 p0 : Nat) :
    (State.modPair s d k g).ethPort d0 p0 = s.ethPort d0 p0 := rfl
@[simp] theorem State.ser_modPair (s : State) (d k : Nat) (g : EthPair → EthPair) (d0 p0 : Nat) :
    (State.modPair s d k g).ser d0 p0 = s.ser d0 p0 := rfl
@[simp] theorem State.ttg_modPair (s : State) (d k : Nat) (g : EthPair → EthPair) (d0 : Nat) :
    (State.modPair s d k g).ttg d0 = s.ttg d0 := rfl
@[simp] theorem State.voqOf_modPair (s : State) (d k : Nat) (g : EthPair → EthPair) (d0 : Nat) :
    (State.modPair s d k g).voqOf d0 = s.voqOf d0 := rfl
@[simp] theorem State.outQueue_modPair (s : State) (d k : Nat) (g : EthPair → EthPair) (d0 o0 : Nat) :
    (State.modPair s d k g).outQueue d0 o0 = s.outQueue d0 o0 := rfl
@[simp] theorem State.slot_modPair (s : State) (d k : Nat) (g : EthPair → EthPair) (d0 c0 i0 : Nat) :
    (State.modPair s d k g).slot d0 c0 i0 = s.slot d0 c0 i0 := rfl
@[simp] theorem State.queued_modPair (s : State) (d k : Nat) (g : EthPair → EthPair) (d0 c0 q0 : Nat) :
    (State.modPair s d k g).queued d0 c0 q0 = s.queued d0 c0 q0 := rfl
@[simp] theorem State.weltEnd_modPair (s : State) (d k : Nat) (g : EthPair → EthPair) (d0 k0 : Nat) :
    (State.modPair s d k g).weltEnd d0 k0 = s.weltEnd d0 k0 := rfl
@[simp] theorem State.wordErr_modPair (s : State) (d k : Nat) (g : EthPair → EthPair) (d0 o0 : Nat) :
    (State.modPair s d k g).wordErr d0 o0 = s.wordErr d0 o0 := rfl
@[simp] theorem State.spadGet_modPair (s : State) (d k : Nat) (g : EthPair → EthPair) (d0 c0 w0 : Nat) :
    (State.modPair s d k g).spadGet d0 c0 w0 = s.spadGet d0 c0 w0 := rfl
@[simp] theorem State.rd_modSer (s : State) (d p : Nat) (g : SerPort → SerPort) (d0 : Nat) (r0 : Reg) :
    (State.modSer s d p g).rd d0 r0 = s.rd d0 r0 := rfl
@[simp] theorem State.get_modSer (s : State) (d p : Nat) (g : SerPort → SerPort) (d0 : Nat) (f0 : Field) :
    (State.modSer s d p g).get d0 f0 = s.get d0 f0 := rfl
@[simp] theorem State.flag_modSer (s : State) (d p : Nat) (g : SerPort → SerPort) (d0 : Nat) (f0 : Field) :
    (State.modSer s d p g).flag d0 f0 = s.flag d0 f0 := rfl
@[simp] theorem State.now_modSer (s : State) (d p : Nat) (g : SerPort → SerPort) (d0 : Nat) :
    (State.modSer s d p g).now d0 = s.now d0 := rfl
@[simp] theorem State.mono_modSer (s : State) (d p : Nat) (g : SerPort → SerPort) (d0 : Nat) :
    (State.modSer s d p g).mono d0 = s.mono d0 := rfl
@[simp] theorem State.dieCount_modSer (s : State) (d p : Nat) (g : SerPort → SerPort) :
    (State.modSer s d p g).dieCount = s.dieCount := rfl
@[simp] theorem State.byte_modSer (s : State) (d p : Nat) (g : SerPort → SerPort) (d0 o0 : Nat) :
    (State.modSer s d p g).byte d0 o0 = s.byte d0 o0 := rfl
@[simp] theorem State.powered_modSer (s : State) (d p : Nat) (g : SerPort → SerPort) :
    (State.modSer s d p g).powered = s.powered := rfl
@[simp] theorem State.cfg_modSer (s : State) (d p : Nat) (g : SerPort → SerPort) :
    (State.modSer s d p g).cfg = s.cfg := rfl
@[simp] theorem State.eng_modSer (s : State) (d p : Nat) (g : SerPort → SerPort) (d0 e0 : Nat) :
    (State.modSer s d p g).eng d0 e0 = s.eng d0 e0 := rfl
@[simp] theorem State.cl_modSer (s : State) (d p : Nat) (g : SerPort → SerPort) (d0 e0 : Nat) :
    (State.modSer s d p g).cl d0 e0 = s.cl d0 e0 := rfl
@[simp] theorem State.frame_modSer (s : State) (d p : Nat) (g : SerPort → SerPort) (f0 : Nat) :
    (State.modSer s d p g).frame f0 = s.frame f0 := rfl
@[simp] theorem State.bank_modSer (s : State) (d p : Nat) (g : SerPort → SerPort) (d0 b0 : Nat) :
    (State.modSer s d p g).bank d0 b0 = s.bank d0 b0 := rfl
@[simp] theorem State.recDie_modSer (s : State) (d p : Nat) (g : SerPort → SerPort) (d0 : Nat) :
    (State.modSer s d p g).recDie d0 = s.recDie d0 := rfl
@[simp] theorem State.pulse_modSer (s : State) (d p : Nat) (g : SerPort → SerPort) (d0 n0 : Nat) :
    (State.modSer s d p g).pulse d0 n0 = s.pulse d0 n0 := rfl
@[simp] theorem State.lce_modSer (s : State) (d p : Nat) (g : SerPort → SerPort) (d0 e0 : Nat) :
    (State.modSer s d p g).lce d0 e0 = s.lce d0 e0 := rfl
@[simp] theorem State.ethPort_modSer (s : State) (d p : Nat) (g : SerPort → SerPort) (d0 p0 : Nat) :
    (State.modSer s d p g).ethPort d0 p0 = s.ethPort d0 p0 := rfl
@[simp] theorem State.ethPair_modSer (s : State) (d p : Nat) (g : SerPort → SerPort) (d0 p0 : Nat) :
    (State.modSer s d p g).ethPair d0 p0 = s.ethPair d0 p0 := rfl
@[simp] theorem State.ttg_modSer (s : State) (d p : Nat) (g : SerPort → SerPort) (d0 : Nat) :
    (State.modSer s d p g).ttg d0 = s.ttg d0 := rfl
@[simp] theorem State.voqOf_modSer (s : State) (d p : Nat) (g : SerPort → SerPort) (d0 : Nat) :
    (State.modSer s d p g).voqOf d0 = s.voqOf d0 := rfl
@[simp] theorem State.outQueue_modSer (s : State) (d p : Nat) (g : SerPort → SerPort) (d0 o0 : Nat) :
    (State.modSer s d p g).outQueue d0 o0 = s.outQueue d0 o0 := rfl
@[simp] theorem State.slot_modSer (s : State) (d p : Nat) (g : SerPort → SerPort) (d0 c0 i0 : Nat) :
    (State.modSer s d p g).slot d0 c0 i0 = s.slot d0 c0 i0 := rfl
@[simp] theorem State.queued_modSer (s : State) (d p : Nat) (g : SerPort → SerPort) (d0 c0 q0 : Nat) :
    (State.modSer s d p g).queued d0 c0 q0 = s.queued d0 c0 q0 := rfl
@[simp] theorem State.weltEnd_modSer (s : State) (d p : Nat) (g : SerPort → SerPort) (d0 k0 : Nat) :
    (State.modSer s d p g).weltEnd d0 k0 = s.weltEnd d0 k0 := rfl
@[simp] theorem State.wordErr_modSer (s : State) (d p : Nat) (g : SerPort → SerPort) (d0 o0 : Nat) :
    (State.modSer s d p g).wordErr d0 o0 = s.wordErr d0 o0 := rfl
@[simp] theorem State.spadGet_modSer (s : State) (d p : Nat) (g : SerPort → SerPort) (d0 c0 w0 : Nat) :
    (State.modSer s d p g).spadGet d0 c0 w0 = s.spadGet d0 c0 w0 := rfl
@[simp] theorem State.rd_modTt (s : State) (d : Nat) (g : TtGroup → TtGroup) (d0 : Nat) (r0 : Reg) :
    (State.modTt s d g).rd d0 r0 = s.rd d0 r0 := rfl
@[simp] theorem State.get_modTt (s : State) (d : Nat) (g : TtGroup → TtGroup) (d0 : Nat) (f0 : Field) :
    (State.modTt s d g).get d0 f0 = s.get d0 f0 := rfl
@[simp] theorem State.flag_modTt (s : State) (d : Nat) (g : TtGroup → TtGroup) (d0 : Nat) (f0 : Field) :
    (State.modTt s d g).flag d0 f0 = s.flag d0 f0 := rfl
@[simp] theorem State.now_modTt (s : State) (d : Nat) (g : TtGroup → TtGroup) (d0 : Nat) :
    (State.modTt s d g).now d0 = s.now d0 := rfl
@[simp] theorem State.mono_modTt (s : State) (d : Nat) (g : TtGroup → TtGroup) (d0 : Nat) :
    (State.modTt s d g).mono d0 = s.mono d0 := rfl
@[simp] theorem State.dieCount_modTt (s : State) (d : Nat) (g : TtGroup → TtGroup) :
    (State.modTt s d g).dieCount = s.dieCount := rfl
@[simp] theorem State.byte_modTt (s : State) (d : Nat) (g : TtGroup → TtGroup) (d0 o0 : Nat) :
    (State.modTt s d g).byte d0 o0 = s.byte d0 o0 := rfl
@[simp] theorem State.powered_modTt (s : State) (d : Nat) (g : TtGroup → TtGroup) :
    (State.modTt s d g).powered = s.powered := rfl
@[simp] theorem State.cfg_modTt (s : State) (d : Nat) (g : TtGroup → TtGroup) :
    (State.modTt s d g).cfg = s.cfg := rfl
@[simp] theorem State.eng_modTt (s : State) (d : Nat) (g : TtGroup → TtGroup) (d0 e0 : Nat) :
    (State.modTt s d g).eng d0 e0 = s.eng d0 e0 := rfl
@[simp] theorem State.cl_modTt (s : State) (d : Nat) (g : TtGroup → TtGroup) (d0 e0 : Nat) :
    (State.modTt s d g).cl d0 e0 = s.cl d0 e0 := rfl
@[simp] theorem State.frame_modTt (s : State) (d : Nat) (g : TtGroup → TtGroup) (f0 : Nat) :
    (State.modTt s d g).frame f0 = s.frame f0 := rfl
@[simp] theorem State.bank_modTt (s : State) (d : Nat) (g : TtGroup → TtGroup) (d0 b0 : Nat) :
    (State.modTt s d g).bank d0 b0 = s.bank d0 b0 := rfl
@[simp] theorem State.recDie_modTt (s : State) (d : Nat) (g : TtGroup → TtGroup) (d0 : Nat) :
    (State.modTt s d g).recDie d0 = s.recDie d0 := rfl
@[simp] theorem State.pulse_modTt (s : State) (d : Nat) (g : TtGroup → TtGroup) (d0 n0 : Nat) :
    (State.modTt s d g).pulse d0 n0 = s.pulse d0 n0 := rfl
@[simp] theorem State.lce_modTt (s : State) (d : Nat) (g : TtGroup → TtGroup) (d0 e0 : Nat) :
    (State.modTt s d g).lce d0 e0 = s.lce d0 e0 := rfl
@[simp] theorem State.ethPort_modTt (s : State) (d : Nat) (g : TtGroup → TtGroup) (d0 p0 : Nat) :
    (State.modTt s d g).ethPort d0 p0 = s.ethPort d0 p0 := rfl
@[simp] theorem State.ethPair_modTt (s : State) (d : Nat) (g : TtGroup → TtGroup) (d0 p0 : Nat) :
    (State.modTt s d g).ethPair d0 p0 = s.ethPair d0 p0 := rfl
@[simp] theorem State.ser_modTt (s : State) (d : Nat) (g : TtGroup → TtGroup) (d0 p0 : Nat) :
    (State.modTt s d g).ser d0 p0 = s.ser d0 p0 := rfl
@[simp] theorem State.voqOf_modTt (s : State) (d : Nat) (g : TtGroup → TtGroup) (d0 : Nat) :
    (State.modTt s d g).voqOf d0 = s.voqOf d0 := rfl
@[simp] theorem State.outQueue_modTt (s : State) (d : Nat) (g : TtGroup → TtGroup) (d0 o0 : Nat) :
    (State.modTt s d g).outQueue d0 o0 = s.outQueue d0 o0 := rfl
@[simp] theorem State.slot_modTt (s : State) (d : Nat) (g : TtGroup → TtGroup) (d0 c0 i0 : Nat) :
    (State.modTt s d g).slot d0 c0 i0 = s.slot d0 c0 i0 := rfl
@[simp] theorem State.queued_modTt (s : State) (d : Nat) (g : TtGroup → TtGroup) (d0 c0 q0 : Nat) :
    (State.modTt s d g).queued d0 c0 q0 = s.queued d0 c0 q0 := rfl
@[simp] theorem State.weltEnd_modTt (s : State) (d : Nat) (g : TtGroup → TtGroup) (d0 k0 : Nat) :
    (State.modTt s d g).weltEnd d0 k0 = s.weltEnd d0 k0 := rfl
@[simp] theorem State.wordErr_modTt (s : State) (d : Nat) (g : TtGroup → TtGroup) (d0 o0 : Nat) :
    (State.modTt s d g).wordErr d0 o0 = s.wordErr d0 o0 := rfl
@[simp] theorem State.spadGet_modTt (s : State) (d : Nat) (g : TtGroup → TtGroup) (d0 c0 w0 : Nat) :
    (State.modTt s d g).spadGet d0 c0 w0 = s.spadGet d0 c0 w0 := rfl
@[simp] theorem State.rd_setVoq (s : State) (d : Nat) (q : List VEntry) (d0 : Nat) (r0 : Reg) :
    (State.setVoq s d q).rd d0 r0 = s.rd d0 r0 := rfl
@[simp] theorem State.get_setVoq (s : State) (d : Nat) (q : List VEntry) (d0 : Nat) (f0 : Field) :
    (State.setVoq s d q).get d0 f0 = s.get d0 f0 := rfl
@[simp] theorem State.flag_setVoq (s : State) (d : Nat) (q : List VEntry) (d0 : Nat) (f0 : Field) :
    (State.setVoq s d q).flag d0 f0 = s.flag d0 f0 := rfl
@[simp] theorem State.now_setVoq (s : State) (d : Nat) (q : List VEntry) (d0 : Nat) :
    (State.setVoq s d q).now d0 = s.now d0 := rfl
@[simp] theorem State.mono_setVoq (s : State) (d : Nat) (q : List VEntry) (d0 : Nat) :
    (State.setVoq s d q).mono d0 = s.mono d0 := rfl
@[simp] theorem State.dieCount_setVoq (s : State) (d : Nat) (q : List VEntry) :
    (State.setVoq s d q).dieCount = s.dieCount := rfl
@[simp] theorem State.byte_setVoq (s : State) (d : Nat) (q : List VEntry) (d0 o0 : Nat) :
    (State.setVoq s d q).byte d0 o0 = s.byte d0 o0 := rfl
@[simp] theorem State.powered_setVoq (s : State) (d : Nat) (q : List VEntry) :
    (State.setVoq s d q).powered = s.powered := rfl
@[simp] theorem State.cfg_setVoq (s : State) (d : Nat) (q : List VEntry) :
    (State.setVoq s d q).cfg = s.cfg := rfl
@[simp] theorem State.eng_setVoq (s : State) (d : Nat) (q : List VEntry) (d0 e0 : Nat) :
    (State.setVoq s d q).eng d0 e0 = s.eng d0 e0 := rfl
@[simp] theorem State.cl_setVoq (s : State) (d : Nat) (q : List VEntry) (d0 e0 : Nat) :
    (State.setVoq s d q).cl d0 e0 = s.cl d0 e0 := rfl
@[simp] theorem State.frame_setVoq (s : State) (d : Nat) (q : List VEntry) (f0 : Nat) :
    (State.setVoq s d q).frame f0 = s.frame f0 := rfl
@[simp] theorem State.bank_setVoq (s : State) (d : Nat) (q : List VEntry) (d0 b0 : Nat) :
    (State.setVoq s d q).bank d0 b0 = s.bank d0 b0 := rfl
@[simp] theorem State.recDie_setVoq (s : State) (d : Nat) (q : List VEntry) (d0 : Nat) :
    (State.setVoq s d q).recDie d0 = s.recDie d0 := rfl
@[simp] theorem State.pulse_setVoq (s : State) (d : Nat) (q : List VEntry) (d0 n0 : Nat) :
    (State.setVoq s d q).pulse d0 n0 = s.pulse d0 n0 := rfl
@[simp] theorem State.lce_setVoq (s : State) (d : Nat) (q : List VEntry) (d0 e0 : Nat) :
    (State.setVoq s d q).lce d0 e0 = s.lce d0 e0 := rfl
@[simp] theorem State.ethPort_setVoq (s : State) (d : Nat) (q : List VEntry) (d0 p0 : Nat) :
    (State.setVoq s d q).ethPort d0 p0 = s.ethPort d0 p0 := rfl
@[simp] theorem State.ethPair_setVoq (s : State) (d : Nat) (q : List VEntry) (d0 p0 : Nat) :
    (State.setVoq s d q).ethPair d0 p0 = s.ethPair d0 p0 := rfl
@[simp] theorem State.ser_setVoq (s : State) (d : Nat) (q : List VEntry) (d0 p0 : Nat) :
    (State.setVoq s d q).ser d0 p0 = s.ser d0 p0 := rfl
@[simp] theorem State.ttg_setVoq (s : State) (d : Nat) (q : List VEntry) (d0 : Nat) :
    (State.setVoq s d q).ttg d0 = s.ttg d0 := rfl
@[simp] theorem State.outQueue_setVoq (s : State) (d : Nat) (q : List VEntry) (d0 o0 : Nat) :
    (State.setVoq s d q).outQueue d0 o0 = s.outQueue d0 o0 := rfl
@[simp] theorem State.slot_setVoq (s : State) (d : Nat) (q : List VEntry) (d0 c0 i0 : Nat) :
    (State.setVoq s d q).slot d0 c0 i0 = s.slot d0 c0 i0 := rfl
@[simp] theorem State.queued_setVoq (s : State) (d : Nat) (q : List VEntry) (d0 c0 q0 : Nat) :
    (State.setVoq s d q).queued d0 c0 q0 = s.queued d0 c0 q0 := rfl
@[simp] theorem State.weltEnd_setVoq (s : State) (d : Nat) (q : List VEntry) (d0 k0 : Nat) :
    (State.setVoq s d q).weltEnd d0 k0 = s.weltEnd d0 k0 := rfl
@[simp] theorem State.wordErr_setVoq (s : State) (d : Nat) (q : List VEntry) (d0 o0 : Nat) :
    (State.setVoq s d q).wordErr d0 o0 = s.wordErr d0 o0 := rfl
@[simp] theorem State.spadGet_setVoq (s : State) (d : Nat) (q : List VEntry) (d0 c0 w0 : Nat) :
    (State.setVoq s d q).spadGet d0 c0 w0 = s.spadGet d0 c0 w0 := rfl
@[simp] theorem State.rd_setOutQueue (s : State) (d o : Nat) (q : List Nat) (d0 : Nat) (r0 : Reg) :
    (State.setOutQueue s d o q).rd d0 r0 = s.rd d0 r0 := rfl
@[simp] theorem State.get_setOutQueue (s : State) (d o : Nat) (q : List Nat) (d0 : Nat) (f0 : Field) :
    (State.setOutQueue s d o q).get d0 f0 = s.get d0 f0 := rfl
@[simp] theorem State.flag_setOutQueue (s : State) (d o : Nat) (q : List Nat) (d0 : Nat) (f0 : Field) :
    (State.setOutQueue s d o q).flag d0 f0 = s.flag d0 f0 := rfl
@[simp] theorem State.now_setOutQueue (s : State) (d o : Nat) (q : List Nat) (d0 : Nat) :
    (State.setOutQueue s d o q).now d0 = s.now d0 := rfl
@[simp] theorem State.mono_setOutQueue (s : State) (d o : Nat) (q : List Nat) (d0 : Nat) :
    (State.setOutQueue s d o q).mono d0 = s.mono d0 := rfl
@[simp] theorem State.dieCount_setOutQueue (s : State) (d o : Nat) (q : List Nat) :
    (State.setOutQueue s d o q).dieCount = s.dieCount := rfl
@[simp] theorem State.byte_setOutQueue (s : State) (d o : Nat) (q : List Nat) (d0 o0 : Nat) :
    (State.setOutQueue s d o q).byte d0 o0 = s.byte d0 o0 := rfl
@[simp] theorem State.powered_setOutQueue (s : State) (d o : Nat) (q : List Nat) :
    (State.setOutQueue s d o q).powered = s.powered := rfl
@[simp] theorem State.cfg_setOutQueue (s : State) (d o : Nat) (q : List Nat) :
    (State.setOutQueue s d o q).cfg = s.cfg := rfl
@[simp] theorem State.eng_setOutQueue (s : State) (d o : Nat) (q : List Nat) (d0 e0 : Nat) :
    (State.setOutQueue s d o q).eng d0 e0 = s.eng d0 e0 := rfl
@[simp] theorem State.cl_setOutQueue (s : State) (d o : Nat) (q : List Nat) (d0 e0 : Nat) :
    (State.setOutQueue s d o q).cl d0 e0 = s.cl d0 e0 := rfl
@[simp] theorem State.frame_setOutQueue (s : State) (d o : Nat) (q : List Nat) (f0 : Nat) :
    (State.setOutQueue s d o q).frame f0 = s.frame f0 := rfl
@[simp] theorem State.bank_setOutQueue (s : State) (d o : Nat) (q : List Nat) (d0 b0 : Nat) :
    (State.setOutQueue s d o q).bank d0 b0 = s.bank d0 b0 := rfl
@[simp] theorem State.recDie_setOutQueue (s : State) (d o : Nat) (q : List Nat) (d0 : Nat) :
    (State.setOutQueue s d o q).recDie d0 = s.recDie d0 := rfl
@[simp] theorem State.pulse_setOutQueue (s : State) (d o : Nat) (q : List Nat) (d0 n0 : Nat) :
    (State.setOutQueue s d o q).pulse d0 n0 = s.pulse d0 n0 := rfl
@[simp] theorem State.lce_setOutQueue (s : State) (d o : Nat) (q : List Nat) (d0 e0 : Nat) :
    (State.setOutQueue s d o q).lce d0 e0 = s.lce d0 e0 := rfl
@[simp] theorem State.ethPort_setOutQueue (s : State) (d o : Nat) (q : List Nat) (d0 p0 : Nat) :
    (State.setOutQueue s d o q).ethPort d0 p0 = s.ethPort d0 p0 := rfl
@[simp] theorem State.ethPair_setOutQueue (s : State) (d o : Nat) (q : List Nat) (d0 p0 : Nat) :
    (State.setOutQueue s d o q).ethPair d0 p0 = s.ethPair d0 p0 := rfl
@[simp] theorem State.ser_setOutQueue (s : State) (d o : Nat) (q : List Nat) (d0 p0 : Nat) :
    (State.setOutQueue s d o q).ser d0 p0 = s.ser d0 p0 := rfl
@[simp] theorem State.ttg_setOutQueue (s : State) (d o : Nat) (q : List Nat) (d0 : Nat) :
    (State.setOutQueue s d o q).ttg d0 = s.ttg d0 := rfl
@[simp] theorem State.voqOf_setOutQueue (s : State) (d o : Nat) (q : List Nat) (d0 : Nat) :
    (State.setOutQueue s d o q).voqOf d0 = s.voqOf d0 := rfl
@[simp] theorem State.slot_setOutQueue (s : State) (d o : Nat) (q : List Nat) (d0 c0 i0 : Nat) :
    (State.setOutQueue s d o q).slot d0 c0 i0 = s.slot d0 c0 i0 := rfl
@[simp] theorem State.queued_setOutQueue (s : State) (d o : Nat) (q : List Nat) (d0 c0 q0 : Nat) :
    (State.setOutQueue s d o q).queued d0 c0 q0 = s.queued d0 c0 q0 := rfl
@[simp] theorem State.weltEnd_setOutQueue (s : State) (d o : Nat) (q : List Nat) (d0 k0 : Nat) :
    (State.setOutQueue s d o q).weltEnd d0 k0 = s.weltEnd d0 k0 := rfl
@[simp] theorem State.wordErr_setOutQueue (s : State) (d o : Nat) (q : List Nat) (d0 o0 : Nat) :
    (State.setOutQueue s d o q).wordErr d0 o0 = s.wordErr d0 o0 := rfl
@[simp] theorem State.spadGet_setOutQueue (s : State) (d o : Nat) (q : List Nat) (d0 c0 w0 : Nat) :
    (State.setOutQueue s d o q).spadGet d0 c0 w0 = s.spadGet d0 c0 w0 := rfl
@[simp] theorem State.rd_setSlot (s : State) (d c i : Nat) (h : HeadSlot) (d0 : Nat) (r0 : Reg) :
    (State.setSlot s d c i h).rd d0 r0 = s.rd d0 r0 := rfl
@[simp] theorem State.get_setSlot (s : State) (d c i : Nat) (h : HeadSlot) (d0 : Nat) (f0 : Field) :
    (State.setSlot s d c i h).get d0 f0 = s.get d0 f0 := rfl
@[simp] theorem State.flag_setSlot (s : State) (d c i : Nat) (h : HeadSlot) (d0 : Nat) (f0 : Field) :
    (State.setSlot s d c i h).flag d0 f0 = s.flag d0 f0 := rfl
@[simp] theorem State.now_setSlot (s : State) (d c i : Nat) (h : HeadSlot) (d0 : Nat) :
    (State.setSlot s d c i h).now d0 = s.now d0 := rfl
@[simp] theorem State.mono_setSlot (s : State) (d c i : Nat) (h : HeadSlot) (d0 : Nat) :
    (State.setSlot s d c i h).mono d0 = s.mono d0 := rfl
@[simp] theorem State.dieCount_setSlot (s : State) (d c i : Nat) (h : HeadSlot) :
    (State.setSlot s d c i h).dieCount = s.dieCount := rfl
@[simp] theorem State.byte_setSlot (s : State) (d c i : Nat) (h : HeadSlot) (d0 o0 : Nat) :
    (State.setSlot s d c i h).byte d0 o0 = s.byte d0 o0 := rfl
@[simp] theorem State.powered_setSlot (s : State) (d c i : Nat) (h : HeadSlot) :
    (State.setSlot s d c i h).powered = s.powered := rfl
@[simp] theorem State.cfg_setSlot (s : State) (d c i : Nat) (h : HeadSlot) :
    (State.setSlot s d c i h).cfg = s.cfg := rfl
@[simp] theorem State.eng_setSlot (s : State) (d c i : Nat) (h : HeadSlot) (d0 e0 : Nat) :
    (State.setSlot s d c i h).eng d0 e0 = s.eng d0 e0 := rfl
@[simp] theorem State.cl_setSlot (s : State) (d c i : Nat) (h : HeadSlot) (d0 e0 : Nat) :
    (State.setSlot s d c i h).cl d0 e0 = s.cl d0 e0 := rfl
@[simp] theorem State.frame_setSlot (s : State) (d c i : Nat) (h : HeadSlot) (f0 : Nat) :
    (State.setSlot s d c i h).frame f0 = s.frame f0 := rfl
@[simp] theorem State.bank_setSlot (s : State) (d c i : Nat) (h : HeadSlot) (d0 b0 : Nat) :
    (State.setSlot s d c i h).bank d0 b0 = s.bank d0 b0 := rfl
@[simp] theorem State.recDie_setSlot (s : State) (d c i : Nat) (h : HeadSlot) (d0 : Nat) :
    (State.setSlot s d c i h).recDie d0 = s.recDie d0 := rfl
@[simp] theorem State.pulse_setSlot (s : State) (d c i : Nat) (h : HeadSlot) (d0 n0 : Nat) :
    (State.setSlot s d c i h).pulse d0 n0 = s.pulse d0 n0 := rfl
@[simp] theorem State.lce_setSlot (s : State) (d c i : Nat) (h : HeadSlot) (d0 e0 : Nat) :
    (State.setSlot s d c i h).lce d0 e0 = s.lce d0 e0 := rfl
@[simp] theorem State.ethPort_setSlot (s : State) (d c i : Nat) (h : HeadSlot) (d0 p0 : Nat) :
    (State.setSlot s d c i h).ethPort d0 p0 = s.ethPort d0 p0 := rfl
@[simp] theorem State.ethPair_setSlot (s : State) (d c i : Nat) (h : HeadSlot) (d0 p0 : Nat) :
    (State.setSlot s d c i h).ethPair d0 p0 = s.ethPair d0 p0 := rfl
@[simp] theorem State.ser_setSlot (s : State) (d c i : Nat) (h : HeadSlot) (d0 p0 : Nat) :
    (State.setSlot s d c i h).ser d0 p0 = s.ser d0 p0 := rfl
@[simp] theorem State.ttg_setSlot (s : State) (d c i : Nat) (h : HeadSlot) (d0 : Nat) :
    (State.setSlot s d c i h).ttg d0 = s.ttg d0 := rfl
@[simp] theorem State.voqOf_setSlot (s : State) (d c i : Nat) (h : HeadSlot) (d0 : Nat) :
    (State.setSlot s d c i h).voqOf d0 = s.voqOf d0 := rfl
@[simp] theorem State.outQueue_setSlot (s : State) (d c i : Nat) (h : HeadSlot) (d0 o0 : Nat) :
    (State.setSlot s d c i h).outQueue d0 o0 = s.outQueue d0 o0 := rfl
@[simp] theorem State.queued_setSlot (s : State) (d c i : Nat) (h : HeadSlot) (d0 c0 q0 : Nat) :
    (State.setSlot s d c i h).queued d0 c0 q0 = s.queued d0 c0 q0 := rfl
@[simp] theorem State.weltEnd_setSlot (s : State) (d c i : Nat) (h : HeadSlot) (d0 k0 : Nat) :
    (State.setSlot s d c i h).weltEnd d0 k0 = s.weltEnd d0 k0 := rfl
@[simp] theorem State.wordErr_setSlot (s : State) (d c i : Nat) (h : HeadSlot) (d0 o0 : Nat) :
    (State.setSlot s d c i h).wordErr d0 o0 = s.wordErr d0 o0 := rfl
@[simp] theorem State.spadGet_setSlot (s : State) (d c i : Nat) (h : HeadSlot) (d0 c0 w0 : Nat) :
    (State.setSlot s d c i h).spadGet d0 c0 w0 = s.spadGet d0 c0 w0 := rfl
@[simp] theorem State.rd_setQueued (s : State) (d c q : Nat) (l : List Nat) (d0 : Nat) (r0 : Reg) :
    (State.setQueued s d c q l).rd d0 r0 = s.rd d0 r0 := rfl
@[simp] theorem State.get_setQueued (s : State) (d c q : Nat) (l : List Nat) (d0 : Nat) (f0 : Field) :
    (State.setQueued s d c q l).get d0 f0 = s.get d0 f0 := rfl
@[simp] theorem State.flag_setQueued (s : State) (d c q : Nat) (l : List Nat) (d0 : Nat) (f0 : Field) :
    (State.setQueued s d c q l).flag d0 f0 = s.flag d0 f0 := rfl
@[simp] theorem State.now_setQueued (s : State) (d c q : Nat) (l : List Nat) (d0 : Nat) :
    (State.setQueued s d c q l).now d0 = s.now d0 := rfl
@[simp] theorem State.mono_setQueued (s : State) (d c q : Nat) (l : List Nat) (d0 : Nat) :
    (State.setQueued s d c q l).mono d0 = s.mono d0 := rfl
@[simp] theorem State.dieCount_setQueued (s : State) (d c q : Nat) (l : List Nat) :
    (State.setQueued s d c q l).dieCount = s.dieCount := rfl
@[simp] theorem State.byte_setQueued (s : State) (d c q : Nat) (l : List Nat) (d0 o0 : Nat) :
    (State.setQueued s d c q l).byte d0 o0 = s.byte d0 o0 := rfl
@[simp] theorem State.powered_setQueued (s : State) (d c q : Nat) (l : List Nat) :
    (State.setQueued s d c q l).powered = s.powered := rfl
@[simp] theorem State.cfg_setQueued (s : State) (d c q : Nat) (l : List Nat) :
    (State.setQueued s d c q l).cfg = s.cfg := rfl
@[simp] theorem State.eng_setQueued (s : State) (d c q : Nat) (l : List Nat) (d0 e0 : Nat) :
    (State.setQueued s d c q l).eng d0 e0 = s.eng d0 e0 := rfl
@[simp] theorem State.cl_setQueued (s : State) (d c q : Nat) (l : List Nat) (d0 e0 : Nat) :
    (State.setQueued s d c q l).cl d0 e0 = s.cl d0 e0 := rfl
@[simp] theorem State.frame_setQueued (s : State) (d c q : Nat) (l : List Nat) (f0 : Nat) :
    (State.setQueued s d c q l).frame f0 = s.frame f0 := rfl
@[simp] theorem State.bank_setQueued (s : State) (d c q : Nat) (l : List Nat) (d0 b0 : Nat) :
    (State.setQueued s d c q l).bank d0 b0 = s.bank d0 b0 := rfl
@[simp] theorem State.recDie_setQueued (s : State) (d c q : Nat) (l : List Nat) (d0 : Nat) :
    (State.setQueued s d c q l).recDie d0 = s.recDie d0 := rfl
@[simp] theorem State.pulse_setQueued (s : State) (d c q : Nat) (l : List Nat) (d0 n0 : Nat) :
    (State.setQueued s d c q l).pulse d0 n0 = s.pulse d0 n0 := rfl
@[simp] theorem State.lce_setQueued (s : State) (d c q : Nat) (l : List Nat) (d0 e0 : Nat) :
    (State.setQueued s d c q l).lce d0 e0 = s.lce d0 e0 := rfl
@[simp] theorem State.ethPort_setQueued (s : State) (d c q : Nat) (l : List Nat) (d0 p0 : Nat) :
    (State.setQueued s d c q l).ethPort d0 p0 = s.ethPort d0 p0 := rfl
@[simp] theorem State.ethPair_setQueued (s : State) (d c q : Nat) (l : List Nat) (d0 p0 : Nat) :
    (State.setQueued s d c q l).ethPair d0 p0 = s.ethPair d0 p0 := rfl
@[simp] theorem State.ser_setQueued (s : State) (d c q : Nat) (l : List Nat) (d0 p0 : Nat) :
    (State.setQueued s d c q l).ser d0 p0 = s.ser d0 p0 := rfl
@[simp] theorem State.ttg_setQueued (s : State) (d c q : Nat) (l : List Nat) (d0 : Nat) :
    (State.setQueued s d c q l).ttg d0 = s.ttg d0 := rfl
@[simp] theorem State.voqOf_setQueued (s : State) (d c q : Nat) (l : List Nat) (d0 : Nat) :
    (State.setQueued s d c q l).voqOf d0 = s.voqOf d0 := rfl
@[simp] theorem State.outQueue_setQueued (s : State) (d c q : Nat) (l : List Nat) (d0 o0 : Nat) :
    (State.setQueued s d c q l).outQueue d0 o0 = s.outQueue d0 o0 := rfl
@[simp] theorem State.slot_setQueued (s : State) (d c q : Nat) (l : List Nat) (d0 c0 i0 : Nat) :
    (State.setQueued s d c q l).slot d0 c0 i0 = s.slot d0 c0 i0 := rfl
@[simp] theorem State.weltEnd_setQueued (s : State) (d c q : Nat) (l : List Nat) (d0 k0 : Nat) :
    (State.setQueued s d c q l).weltEnd d0 k0 = s.weltEnd d0 k0 := rfl
@[simp] theorem State.wordErr_setQueued (s : State) (d c q : Nat) (l : List Nat) (d0 o0 : Nat) :
    (State.setQueued s d c q l).wordErr d0 o0 = s.wordErr d0 o0 := rfl
@[simp] theorem State.spadGet_setQueued (s : State) (d c q : Nat) (l : List Nat) (d0 c0 w0 : Nat) :
    (State.setQueued s d c q l).spadGet d0 c0 w0 = s.spadGet d0 c0 w0 := rfl
@[simp] theorem State.rd_setLatch (s : State) (k : Nat) (v : Option Nat) (d0 : Nat) (r0 : Reg) :
    (State.setLatch s k v).rd d0 r0 = s.rd d0 r0 := rfl
@[simp] theorem State.get_setLatch (s : State) (k : Nat) (v : Option Nat) (d0 : Nat) (f0 : Field) :
    (State.setLatch s k v).get d0 f0 = s.get d0 f0 := rfl
@[simp] theorem State.flag_setLatch (s : State) (k : Nat) (v : Option Nat) (d0 : Nat) (f0 : Field) :
    (State.setLatch s k v).flag d0 f0 = s.flag d0 f0 := rfl
@[simp] theorem State.now_setLatch (s : State) (k : Nat) (v : Option Nat) (d0 : Nat) :
    (State.setLatch s k v).now d0 = s.now d0 := rfl
@[simp] theorem State.mono_setLatch (s : State) (k : Nat) (v : Option Nat) (d0 : Nat) :
    (State.setLatch s k v).mono d0 = s.mono d0 := rfl
@[simp] theorem State.dieCount_setLatch (s : State) (k : Nat) (v : Option Nat) :
    (State.setLatch s k v).dieCount = s.dieCount := rfl
@[simp] theorem State.byte_setLatch (s : State) (k : Nat) (v : Option Nat) (d0 o0 : Nat) :
    (State.setLatch s k v).byte d0 o0 = s.byte d0 o0 := rfl
@[simp] theorem State.powered_setLatch (s : State) (k : Nat) (v : Option Nat) :
    (State.setLatch s k v).powered = s.powered := rfl
@[simp] theorem State.cfg_setLatch (s : State) (k : Nat) (v : Option Nat) :
    (State.setLatch s k v).cfg = s.cfg := rfl
@[simp] theorem State.eng_setLatch (s : State) (k : Nat) (v : Option Nat) (d0 e0 : Nat) :
    (State.setLatch s k v).eng d0 e0 = s.eng d0 e0 := rfl
@[simp] theorem State.cl_setLatch (s : State) (k : Nat) (v : Option Nat) (d0 e0 : Nat) :
    (State.setLatch s k v).cl d0 e0 = s.cl d0 e0 := rfl
@[simp] theorem State.frame_setLatch (s : State) (k : Nat) (v : Option Nat) (f0 : Nat) :
    (State.setLatch s k v).frame f0 = s.frame f0 := rfl
@[simp] theorem State.bank_setLatch (s : State) (k : Nat) (v : Option Nat) (d0 b0 : Nat) :
    (State.setLatch s k v).bank d0 b0 = s.bank d0 b0 := rfl
@[simp] theorem State.recDie_setLatch (s : State) (k : Nat) (v : Option Nat) (d0 : Nat) :
    (State.setLatch s k v).recDie d0 = s.recDie d0 := rfl
@[simp] theorem State.pulse_setLatch (s : State) (k : Nat) (v : Option Nat) (d0 n0 : Nat) :
    (State.setLatch s k v).pulse d0 n0 = s.pulse d0 n0 := rfl
@[simp] theorem State.lce_setLatch (s : State) (k : Nat) (v : Option Nat) (d0 e0 : Nat) :
    (State.setLatch s k v).lce d0 e0 = s.lce d0 e0 := rfl
@[simp] theorem State.ethPort_setLatch (s : State) (k : Nat) (v : Option Nat) (d0 p0 : Nat) :
    (State.setLatch s k v).ethPort d0 p0 = s.ethPort d0 p0 := rfl
@[simp] theorem State.ethPair_setLatch (s : State) (k : Nat) (v : Option Nat) (d0 p0 : Nat) :
    (State.setLatch s k v).ethPair d0 p0 = s.ethPair d0 p0 := rfl
@[simp] theorem State.ser_setLatch (s : State) (k : Nat) (v : Option Nat) (d0 p0 : Nat) :
    (State.setLatch s k v).ser d0 p0 = s.ser d0 p0 := rfl
@[simp] theorem State.ttg_setLatch (s : State) (k : Nat) (v : Option Nat) (d0 : Nat) :
    (State.setLatch s k v).ttg d0 = s.ttg d0 := rfl
@[simp] theorem State.voqOf_setLatch (s : State) (k : Nat) (v : Option Nat) (d0 : Nat) :
    (State.setLatch s k v).voqOf d0 = s.voqOf d0 := rfl
@[simp] theorem State.outQueue_setLatch (s : State) (k : Nat) (v : Option Nat) (d0 o0 : Nat) :
    (State.setLatch s k v).outQueue d0 o0 = s.outQueue d0 o0 := rfl
@[simp] theorem State.slot_setLatch (s : State) (k : Nat) (v : Option Nat) (d0 c0 i0 : Nat) :
    (State.setLatch s k v).slot d0 c0 i0 = s.slot d0 c0 i0 := rfl
@[simp] theorem State.queued_setLatch (s : State) (k : Nat) (v : Option Nat) (d0 c0 q0 : Nat) :
    (State.setLatch s k v).queued d0 c0 q0 = s.queued d0 c0 q0 := rfl
@[simp] theorem State.weltEnd_setLatch (s : State) (k : Nat) (v : Option Nat) (d0 k0 : Nat) :
    (State.setLatch s k v).weltEnd d0 k0 = s.weltEnd d0 k0 := rfl
@[simp] theorem State.wordErr_setLatch (s : State) (k : Nat) (v : Option Nat) (d0 o0 : Nat) :
    (State.setLatch s k v).wordErr d0 o0 = s.wordErr d0 o0 := rfl
@[simp] theorem State.spadGet_setLatch (s : State) (k : Nat) (v : Option Nat) (d0 c0 w0 : Nat) :
    (State.setLatch s k v).spadGet d0 c0 w0 = s.spadGet d0 c0 w0 := rfl
@[simp] theorem State.rd_answered (s : State) (data : List Nat) (d0 : Nat) (r0 : Reg) :
    (State.answered s data).rd d0 r0 = s.rd d0 r0 := rfl
@[simp] theorem State.get_answered (s : State) (data : List Nat) (d0 : Nat) (f0 : Field) :
    (State.answered s data).get d0 f0 = s.get d0 f0 := rfl
@[simp] theorem State.flag_answered (s : State) (data : List Nat) (d0 : Nat) (f0 : Field) :
    (State.answered s data).flag d0 f0 = s.flag d0 f0 := rfl
@[simp] theorem State.now_answered (s : State) (data : List Nat) (d0 : Nat) :
    (State.answered s data).now d0 = s.now d0 := rfl
@[simp] theorem State.mono_answered (s : State) (data : List Nat) (d0 : Nat) :
    (State.answered s data).mono d0 = s.mono d0 := rfl
@[simp] theorem State.dieCount_answered (s : State) (data : List Nat) :
    (State.answered s data).dieCount = s.dieCount := rfl
@[simp] theorem State.byte_answered (s : State) (data : List Nat) (d0 o0 : Nat) :
    (State.answered s data).byte d0 o0 = s.byte d0 o0 := rfl
@[simp] theorem State.powered_answered (s : State) (data : List Nat) :
    (State.answered s data).powered = s.powered := rfl
@[simp] theorem State.cfg_answered (s : State) (data : List Nat) :
    (State.answered s data).cfg = s.cfg := rfl
@[simp] theorem State.eng_answered (s : State) (data : List Nat) (d0 e0 : Nat) :
    (State.answered s data).eng d0 e0 = s.eng d0 e0 := rfl
@[simp] theorem State.cl_answered (s : State) (data : List Nat) (d0 e0 : Nat) :
    (State.answered s data).cl d0 e0 = s.cl d0 e0 := rfl
@[simp] theorem State.frame_answered (s : State) (data : List Nat) (f0 : Nat) :
    (State.answered s data).frame f0 = s.frame f0 := rfl
@[simp] theorem State.bank_answered (s : State) (data : List Nat) (d0 b0 : Nat) :
    (State.answered s data).bank d0 b0 = s.bank d0 b0 := rfl
@[simp] theorem State.recDie_answered (s : State) (data : List Nat) (d0 : Nat) :
    (State.answered s data).recDie d0 = s.recDie d0 := rfl
@[simp] theorem State.pulse_answered (s : State) (data : List Nat) (d0 n0 : Nat) :
    (State.answered s data).pulse d0 n0 = s.pulse d0 n0 := rfl
@[simp] theorem State.lce_answered (s : State) (data : List Nat) (d0 e0 : Nat) :
    (State.answered s data).lce d0 e0 = s.lce d0 e0 := rfl
@[simp] theorem State.ethPort_answered (s : State) (data : List Nat) (d0 p0 : Nat) :
    (State.answered s data).ethPort d0 p0 = s.ethPort d0 p0 := rfl
@[simp] theorem State.ethPair_answered (s : State) (data : List Nat) (d0 p0 : Nat) :
    (State.answered s data).ethPair d0 p0 = s.ethPair d0 p0 := rfl
@[simp] theorem State.ser_answered (s : State) (data : List Nat) (d0 p0 : Nat) :
    (State.answered s data).ser d0 p0 = s.ser d0 p0 := rfl
@[simp] theorem State.ttg_answered (s : State) (data : List Nat) (d0 : Nat) :
    (State.answered s data).ttg d0 = s.ttg d0 := rfl
@[simp] theorem State.voqOf_answered (s : State) (data : List Nat) (d0 : Nat) :
    (State.answered s data).voqOf d0 = s.voqOf d0 := rfl
@[simp] theorem State.outQueue_answered (s : State) (data : List Nat) (d0 o0 : Nat) :
    (State.answered s data).outQueue d0 o0 = s.outQueue d0 o0 := rfl
@[simp] theorem State.slot_answered (s : State) (data : List Nat) (d0 c0 i0 : Nat) :
    (State.answered s data).slot d0 c0 i0 = s.slot d0 c0 i0 := rfl
@[simp] theorem State.queued_answered (s : State) (data : List Nat) (d0 c0 q0 : Nat) :
    (State.answered s data).queued d0 c0 q0 = s.queued d0 c0 q0 := rfl
@[simp] theorem State.weltEnd_answered (s : State) (data : List Nat) (d0 k0 : Nat) :
    (State.answered s data).weltEnd d0 k0 = s.weltEnd d0 k0 := rfl
@[simp] theorem State.wordErr_answered (s : State) (data : List Nat) (d0 o0 : Nat) :
    (State.answered s data).wordErr d0 o0 = s.wordErr d0 o0 := rfl
@[simp] theorem State.spadGet_answered (s : State) (data : List Nat) (d0 c0 w0 : Nat) :
    (State.answered s data).spadGet d0 c0 w0 = s.spadGet d0 c0 w0 := rfl
@[simp] theorem State.rd_refusedReq (s : State) (d0 : Nat) (r0 : Reg) :
    (State.refusedReq s).rd d0 r0 = s.rd d0 r0 := rfl
@[simp] theorem State.get_refusedReq (s : State) (d0 : Nat) (f0 : Field) :
    (State.refusedReq s).get d0 f0 = s.get d0 f0 := rfl
@[simp] theorem State.flag_refusedReq (s : State) (d0 : Nat) (f0 : Field) :
    (State.refusedReq s).flag d0 f0 = s.flag d0 f0 := rfl
@[simp] theorem State.now_refusedReq (s : State) (d0 : Nat) :
    (State.refusedReq s).now d0 = s.now d0 := rfl
@[simp] theorem State.mono_refusedReq (s : State) (d0 : Nat) :
    (State.refusedReq s).mono d0 = s.mono d0 := rfl
@[simp] theorem State.dieCount_refusedReq (s : State) :
    (State.refusedReq s).dieCount = s.dieCount := rfl
@[simp] theorem State.byte_refusedReq (s : State) (d0 o0 : Nat) :
    (State.refusedReq s).byte d0 o0 = s.byte d0 o0 := rfl
@[simp] theorem State.powered_refusedReq (s : State) :
    (State.refusedReq s).powered = s.powered := rfl
@[simp] theorem State.cfg_refusedReq (s : State) :
    (State.refusedReq s).cfg = s.cfg := rfl
@[simp] theorem State.eng_refusedReq (s : State) (d0 e0 : Nat) :
    (State.refusedReq s).eng d0 e0 = s.eng d0 e0 := rfl
@[simp] theorem State.cl_refusedReq (s : State) (d0 e0 : Nat) :
    (State.refusedReq s).cl d0 e0 = s.cl d0 e0 := rfl
@[simp] theorem State.frame_refusedReq (s : State) (f0 : Nat) :
    (State.refusedReq s).frame f0 = s.frame f0 := rfl
@[simp] theorem State.bank_refusedReq (s : State) (d0 b0 : Nat) :
    (State.refusedReq s).bank d0 b0 = s.bank d0 b0 := rfl
@[simp] theorem State.recDie_refusedReq (s : State) (d0 : Nat) :
    (State.refusedReq s).recDie d0 = s.recDie d0 := rfl
@[simp] theorem State.pulse_refusedReq (s : State) (d0 n0 : Nat) :
    (State.refusedReq s).pulse d0 n0 = s.pulse d0 n0 := rfl
@[simp] theorem State.lce_refusedReq (s : State) (d0 e0 : Nat) :
    (State.refusedReq s).lce d0 e0 = s.lce d0 e0 := rfl
@[simp] theorem State.ethPort_refusedReq (s : State) (d0 p0 : Nat) :
    (State.refusedReq s).ethPort d0 p0 = s.ethPort d0 p0 := rfl
@[simp] theorem State.ethPair_refusedReq (s : State) (d0 p0 : Nat) :
    (State.refusedReq s).ethPair d0 p0 = s.ethPair d0 p0 := rfl
@[simp] theorem State.ser_refusedReq (s : State) (d0 p0 : Nat) :
    (State.refusedReq s).ser d0 p0 = s.ser d0 p0 := rfl
@[simp] theorem State.ttg_refusedReq (s : State) (d0 : Nat) :
    (State.refusedReq s).ttg d0 = s.ttg d0 := rfl
@[simp] theorem State.voqOf_refusedReq (s : State) (d0 : Nat) :
    (State.refusedReq s).voqOf d0 = s.voqOf d0 := rfl
@[simp] theorem State.outQueue_refusedReq (s : State) (d0 o0 : Nat) :
    (State.refusedReq s).outQueue d0 o0 = s.outQueue d0 o0 := rfl
@[simp] theorem State.slot_refusedReq (s : State) (d0 c0 i0 : Nat) :
    (State.refusedReq s).slot d0 c0 i0 = s.slot d0 c0 i0 := rfl
@[simp] theorem State.queued_refusedReq (s : State) (d0 c0 q0 : Nat) :
    (State.refusedReq s).queued d0 c0 q0 = s.queued d0 c0 q0 := rfl
@[simp] theorem State.weltEnd_refusedReq (s : State) (d0 k0 : Nat) :
    (State.refusedReq s).weltEnd d0 k0 = s.weltEnd d0 k0 := rfl
@[simp] theorem State.wordErr_refusedReq (s : State) (d0 o0 : Nat) :
    (State.refusedReq s).wordErr d0 o0 = s.wordErr d0 o0 := rfl
@[simp] theorem State.spadGet_refusedReq (s : State) (d0 c0 w0 : Nat) :
    (State.refusedReq s).spadGet d0 c0 w0 = s.spadGet d0 c0 w0 := rfl
@[simp] theorem State.byte_put (s : State) (d : Nat) (f : Field) (x : Nat) (d0 o0 : Nat) :
    (State.put s d f x).byte d0 o0 = s.byte d0 o0 := rfl
@[simp] theorem State.powered_put (s : State) (d : Nat) (f : Field) (x : Nat) :
    (State.put s d f x).powered = s.powered := rfl
@[simp] theorem State.cfg_put (s : State) (d : Nat) (f : Field) (x : Nat) :
    (State.put s d f x).cfg = s.cfg := rfl
@[simp] theorem State.eng_put (s : State) (d : Nat) (f : Field) (x : Nat) (d0 e0 : Nat) :
    (State.put s d f x).eng d0 e0 = s.eng d0 e0 := rfl
@[simp] theorem State.cl_put (s : State) (d : Nat) (f : Field) (x : Nat) (d0 e0 : Nat) :
    (State.put s d f x).cl d0 e0 = s.cl d0 e0 := rfl
@[simp] theorem State.frame_put (s : State) (d : Nat) (f : Field) (x : Nat) (f0 : Nat) :
    (State.put s d f x).frame f0 = s.frame f0 := rfl
@[simp] theorem State.bank_put (s : State) (d : Nat) (f : Field) (x : Nat) (d0 b0 : Nat) :
    (State.put s d f x).bank d0 b0 = s.bank d0 b0 := rfl
@[simp] theorem State.recDie_put (s : State) (d : Nat) (f : Field) (x : Nat) (d0 : Nat) :
    (State.put s d f x).recDie d0 = s.recDie d0 := rfl
@[simp] theorem State.pulse_put (s : State) (d : Nat) (f : Field) (x : Nat) (d0 n0 : Nat) :
    (State.put s d f x).pulse d0 n0 = s.pulse d0 n0 := rfl
@[simp] theorem State.lce_put (s : State) (d : Nat) (f : Field) (x : Nat) (d0 e0 : Nat) :
    (State.put s d f x).lce d0 e0 = s.lce d0 e0 := rfl
@[simp] theorem State.ethPort_put (s : State) (d : Nat) (f : Field) (x : Nat) (d0 p0 : Nat) :
    (State.put s d f x).ethPort d0 p0 = s.ethPort d0 p0 := rfl
@[simp] theorem State.ethPair_put (s : State) (d : Nat) (f : Field) (x : Nat) (d0 p0 : Nat) :
    (State.put s d f x).ethPair d0 p0 = s.ethPair d0 p0 := rfl
@[simp] theorem State.ser_put (s : State) (d : Nat) (f : Field) (x : Nat) (d0 p0 : Nat) :
    (State.put s d f x).ser d0 p0 = s.ser d0 p0 := rfl
@[simp] theorem State.ttg_put (s : State) (d : Nat) (f : Field) (x : Nat) (d0 : Nat) :
    (State.put s d f x).ttg d0 = s.ttg d0 := rfl
@[simp] theorem State.voqOf_put (s : State) (d : Nat) (f : Field) (x : Nat) (d0 : Nat) :
    (State.put s d f x).voqOf d0 = s.voqOf d0 := rfl
@[simp] theorem State.outQueue_put (s : State) (d : Nat) (f : Field) (x : Nat) (d0 o0 : Nat) :
    (State.put s d f x).outQueue d0 o0 = s.outQueue d0 o0 := rfl
@[simp] theorem State.slot_put (s : State) (d : Nat) (f : Field) (x : Nat) (d0 c0 i0 : Nat) :
    (State.put s d f x).slot d0 c0 i0 = s.slot d0 c0 i0 := rfl
@[simp] theorem State.queued_put (s : State) (d : Nat) (f : Field) (x : Nat) (d0 c0 q0 : Nat) :
    (State.put s d f x).queued d0 c0 q0 = s.queued d0 c0 q0 := rfl
@[simp] theorem State.weltEnd_put (s : State) (d : Nat) (f : Field) (x : Nat) (d0 k0 : Nat) :
    (State.put s d f x).weltEnd d0 k0 = s.weltEnd d0 k0 := rfl
@[simp] theorem State.wordErr_put (s : State) (d : Nat) (f : Field) (x : Nat) (d0 o0 : Nat) :
    (State.put s d f x).wordErr d0 o0 = s.wordErr d0 o0 := rfl
@[simp] theorem State.spadGet_put (s : State) (d : Nat) (f : Field) (x : Nat) (d0 c0 w0 : Nat) :
    (State.put s d f x).spadGet d0 c0 w0 = s.spadGet d0 c0 w0 := rfl
@[simp] theorem State.byte_putFlag (s : State) (d : Nat) (f : Field) (b : Bool) (d0 o0 : Nat) :
    (State.putFlag s d f b).byte d0 o0 = s.byte d0 o0 := rfl
@[simp] theorem State.powered_putFlag (s : State) (d : Nat) (f : Field) (b : Bool) :
    (State.putFlag s d f b).powered = s.powered := rfl
@[simp] theorem State.cfg_putFlag (s : State) (d : Nat) (f : Field) (b : Bool) :
    (State.putFlag s d f b).cfg = s.cfg := rfl
@[simp] theorem State.eng_putFlag (s : State) (d : Nat) (f : Field) (b : Bool) (d0 e0 : Nat) :
    (State.putFlag s d f b).eng d0 e0 = s.eng d0 e0 := rfl
@[simp] theorem State.cl_putFlag (s : State) (d : Nat) (f : Field) (b : Bool) (d0 e0 : Nat) :
    (State.putFlag s d f b).cl d0 e0 = s.cl d0 e0 := rfl
@[simp] theorem State.frame_putFlag (s : State) (d : Nat) (f : Field) (b : Bool) (f0 : Nat) :
    (State.putFlag s d f b).frame f0 = s.frame f0 := rfl
@[simp] theorem State.bank_putFlag (s : State) (d : Nat) (f : Field) (b : Bool) (d0 b0 : Nat) :
    (State.putFlag s d f b).bank d0 b0 = s.bank d0 b0 := rfl
@[simp] theorem State.recDie_putFlag (s : State) (d : Nat) (f : Field) (b : Bool) (d0 : Nat) :
    (State.putFlag s d f b).recDie d0 = s.recDie d0 := rfl
@[simp] theorem State.pulse_putFlag (s : State) (d : Nat) (f : Field) (b : Bool) (d0 n0 : Nat) :
    (State.putFlag s d f b).pulse d0 n0 = s.pulse d0 n0 := rfl
@[simp] theorem State.lce_putFlag (s : State) (d : Nat) (f : Field) (b : Bool) (d0 e0 : Nat) :
    (State.putFlag s d f b).lce d0 e0 = s.lce d0 e0 := rfl
@[simp] theorem State.ethPort_putFlag (s : State) (d : Nat) (f : Field) (b : Bool) (d0 p0 : Nat) :
    (State.putFlag s d f b).ethPort d0 p0 = s.ethPort d0 p0 := rfl
@[simp] theorem State.ethPair_putFlag (s : State) (d : Nat) (f : Field) (b : Bool) (d0 p0 : Nat) :
    (State.putFlag s d f b).ethPair d0 p0 = s.ethPair d0 p0 := rfl
@[simp] theorem State.ser_putFlag (s : State) (d : Nat) (f : Field) (b : Bool) (d0 p0 : Nat) :
    (State.putFlag s d f b).ser d0 p0 = s.ser d0 p0 := rfl
@[simp] theorem State.ttg_putFlag (s : State) (d : Nat) (f : Field) (b : Bool) (d0 : Nat) :
    (State.putFlag s d f b).ttg d0 = s.ttg d0 := rfl
@[simp] theorem State.voqOf_putFlag (s : State) (d : Nat) (f : Field) (b : Bool) (d0 : Nat) :
    (State.putFlag s d f b).voqOf d0 = s.voqOf d0 := rfl
@[simp] theorem State.outQueue_putFlag (s : State) (d : Nat) (f : Field) (b : Bool) (d0 o0 : Nat) :
    (State.putFlag s d f b).outQueue d0 o0 = s.outQueue d0 o0 := rfl
@[simp] theorem State.slot_putFlag (s : State) (d : Nat) (f : Field) (b : Bool) (d0 c0 i0 : Nat) :
    (State.putFlag s d f b).slot d0 c0 i0 = s.slot d0 c0 i0 := rfl
@[simp] theorem State.queued_putFlag (s : State) (d : Nat) (f : Field) (b : Bool) (d0 c0 q0 : Nat) :
    (State.putFlag s d f b).queued d0 c0 q0 = s.queued d0 c0 q0 := rfl
@[simp] theorem State.weltEnd_putFlag (s : State) (d : Nat) (f : Field) (b : Bool) (d0 k0 : Nat) :
    (State.putFlag s d f b).weltEnd d0 k0 = s.weltEnd d0 k0 := rfl
@[simp] theorem State.wordErr_putFlag (s : State) (d : Nat) (f : Field) (b : Bool) (d0 o0 : Nat) :
    (State.putFlag s d f b).wordErr d0 o0 = s.wordErr d0 o0 := rfl
@[simp] theorem State.spadGet_putFlag (s : State) (d : Nat) (f : Field) (b : Bool) (d0 c0 w0 : Nat) :
    (State.putFlag s d f b).spadGet d0 c0 w0 = s.spadGet d0 c0 w0 := rfl
@[simp] theorem State.byte_count (s : State) (d : Nat) (f : Field) (k : Nat) (d0 o0 : Nat) :
    (State.count s d f k).byte d0 o0 = s.byte d0 o0 := rfl
@[simp] theorem State.powered_count (s : State) (d : Nat) (f : Field) (k : Nat) :
    (State.count s d f k).powered = s.powered := rfl
@[simp] theorem State.cfg_count (s : State) (d : Nat) (f : Field) (k : Nat) :
    (State.count s d f k).cfg = s.cfg := rfl
@[simp] theorem State.eng_count (s : State) (d : Nat) (f : Field) (k : Nat) (d0 e0 : Nat) :
    (State.count s d f k).eng d0 e0 = s.eng d0 e0 := rfl
@[simp] theorem State.cl_count (s : State) (d : Nat) (f : Field) (k : Nat) (d0 e0 : Nat) :
    (State.count s d f k).cl d0 e0 = s.cl d0 e0 := rfl
@[simp] theorem State.frame_count (s : State) (d : Nat) (f : Field) (k : Nat) (f0 : Nat) :
    (State.count s d f k).frame f0 = s.frame f0 := rfl
@[simp] theorem State.bank_count (s : State) (d : Nat) (f : Field) (k : Nat) (d0 b0 : Nat) :
    (State.count s d f k).bank d0 b0 = s.bank d0 b0 := rfl
@[simp] theorem State.recDie_count (s : State) (d : Nat) (f : Field) (k : Nat) (d0 : Nat) :
    (State.count s d f k).recDie d0 = s.recDie d0 := rfl
@[simp] theorem State.pulse_count (s : State) (d : Nat) (f : Field) (k : Nat) (d0 n0 : Nat) :
    (State.count s d f k).pulse d0 n0 = s.pulse d0 n0 := rfl
@[simp] theorem State.lce_count (s : State) (d : Nat) (f : Field) (k : Nat) (d0 e0 : Nat) :
    (State.count s d f k).lce d0 e0 = s.lce d0 e0 := rfl
@[simp] theorem State.ethPort_count (s : State) (d : Nat) (f : Field) (k : Nat) (d0 p0 : Nat) :
    (State.count s d f k).ethPort d0 p0 = s.ethPort d0 p0 := rfl
@[simp] theorem State.ethPair_count (s : State) (d : Nat) (f : Field) (k : Nat) (d0 p0 : Nat) :
    (State.count s d f k).ethPair d0 p0 = s.ethPair d0 p0 := rfl
@[simp] theorem State.ser_count (s : State) (d : Nat) (f : Field) (k : Nat) (d0 p0 : Nat) :
    (State.count s d f k).ser d0 p0 = s.ser d0 p0 := rfl
@[simp] theorem State.ttg_count (s : State) (d : Nat) (f : Field) (k : Nat) (d0 : Nat) :
    (State.count s d f k).ttg d0 = s.ttg d0 := rfl
@[simp] theorem State.voqOf_count (s : State) (d : Nat) (f : Field) (k : Nat) (d0 : Nat) :
    (State.count s d f k).voqOf d0 = s.voqOf d0 := rfl
@[simp] theorem State.outQueue_count (s : State) (d : Nat) (f : Field) (k : Nat) (d0 o0 : Nat) :
    (State.count s d f k).outQueue d0 o0 = s.outQueue d0 o0 := rfl
@[simp] theorem State.slot_count (s : State) (d : Nat) (f : Field) (k : Nat) (d0 c0 i0 : Nat) :
    (State.count s d f k).slot d0 c0 i0 = s.slot d0 c0 i0 := rfl
@[simp] theorem State.queued_count (s : State) (d : Nat) (f : Field) (k : Nat) (d0 c0 q0 : Nat) :
    (State.count s d f k).queued d0 c0 q0 = s.queued d0 c0 q0 := rfl
@[simp] theorem State.weltEnd_count (s : State) (d : Nat) (f : Field) (k : Nat) (d0 k0 : Nat) :
    (State.count s d f k).weltEnd d0 k0 = s.weltEnd d0 k0 := rfl
@[simp] theorem State.wordErr_count (s : State) (d : Nat) (f : Field) (k : Nat) (d0 o0 : Nat) :
    (State.count s d f k).wordErr d0 o0 = s.wordErr d0 o0 := rfl
@[simp] theorem State.spadGet_count (s : State) (d : Nat) (f : Field) (k : Nat) (d0 c0 w0 : Nat) :
    (State.count s d f k).spadGet d0 c0 w0 = s.spadGet d0 c0 w0 := rfl
@[simp] theorem State.byte_setBit (s : State) (d : Nat) (f : Field) (i : Nat) (d0 o0 : Nat) :
    (State.setBit s d f i).byte d0 o0 = s.byte d0 o0 := rfl
@[simp] theorem State.powered_setBit (s : State) (d : Nat) (f : Field) (i : Nat) :
    (State.setBit s d f i).powered = s.powered := rfl
@[simp] theorem State.cfg_setBit (s : State) (d : Nat) (f : Field) (i : Nat) :
    (State.setBit s d f i).cfg = s.cfg := rfl
@[simp] theorem State.eng_setBit (s : State) (d : Nat) (f : Field) (i : Nat) (d0 e0 : Nat) :
    (State.setBit s d f i).eng d0 e0 = s.eng d0 e0 := rfl
@[simp] theorem State.cl_setBit (s : State) (d : Nat) (f : Field) (i : Nat) (d0 e0 : Nat) :
    (State.setBit s d f i).cl d0 e0 = s.cl d0 e0 := rfl
@[simp] theorem State.frame_setBit (s : State) (d : Nat) (f : Field) (i : Nat) (f0 : Nat) :
    (State.setBit s d f i).frame f0 = s.frame f0 := rfl
@[simp] theorem State.bank_setBit (s : State) (d : Nat) (f : Field) (i : Nat) (d0 b0 : Nat) :
    (State.setBit s d f i).bank d0 b0 = s.bank d0 b0 := rfl
@[simp] theorem State.recDie_setBit (s : State) (d : Nat) (f : Field) (i : Nat) (d0 : Nat) :
    (State.setBit s d f i).recDie d0 = s.recDie d0 := rfl
@[simp] theorem State.pulse_setBit (s : State) (d : Nat) (f : Field) (i : Nat) (d0 n0 : Nat) :
    (State.setBit s d f i).pulse d0 n0 = s.pulse d0 n0 := rfl
@[simp] theorem State.lce_setBit (s : State) (d : Nat) (f : Field) (i : Nat) (d0 e0 : Nat) :
    (State.setBit s d f i).lce d0 e0 = s.lce d0 e0 := rfl
@[simp] theorem State.ethPort_setBit (s : State) (d : Nat) (f : Field) (i : Nat) (d0 p0 : Nat) :
    (State.setBit s d f i).ethPort d0 p0 = s.ethPort d0 p0 := rfl
@[simp] theorem State.ethPair_setBit (s : State) (d : Nat) (f : Field) (i : Nat) (d0 p0 : Nat) :
    (State.setBit s d f i).ethPair d0 p0 = s.ethPair d0 p0 := rfl
@[simp] theorem State.ser_setBit (s : State) (d : Nat) (f : Field) (i : Nat) (d0 p0 : Nat) :
    (State.setBit s d f i).ser d0 p0 = s.ser d0 p0 := rfl
@[simp] theorem State.ttg_setBit (s : State) (d : Nat) (f : Field) (i : Nat) (d0 : Nat) :
    (State.setBit s d f i).ttg d0 = s.ttg d0 := rfl
@[simp] theorem State.voqOf_setBit (s : State) (d : Nat) (f : Field) (i : Nat) (d0 : Nat) :
    (State.setBit s d f i).voqOf d0 = s.voqOf d0 := rfl
@[simp] theorem State.outQueue_setBit (s : State) (d : Nat) (f : Field) (i : Nat) (d0 o0 : Nat) :
    (State.setBit s d f i).outQueue d0 o0 = s.outQueue d0 o0 := rfl
@[simp] theorem State.slot_setBit (s : State) (d : Nat) (f : Field) (i : Nat) (d0 c0 i0 : Nat) :
    (State.setBit s d f i).slot d0 c0 i0 = s.slot d0 c0 i0 := rfl
@[simp] theorem State.queued_setBit (s : State) (d : Nat) (f : Field) (i : Nat) (d0 c0 q0 : Nat) :
    (State.setBit s d f i).queued d0 c0 q0 = s.queued d0 c0 q0 := rfl
@[simp] theorem State.weltEnd_setBit (s : State) (d : Nat) (f : Field) (i : Nat) (d0 k0 : Nat) :
    (State.setBit s d f i).weltEnd d0 k0 = s.weltEnd d0 k0 := rfl
@[simp] theorem State.wordErr_setBit (s : State) (d : Nat) (f : Field) (i : Nat) (d0 o0 : Nat) :
    (State.setBit s d f i).wordErr d0 o0 = s.wordErr d0 o0 := rfl
@[simp] theorem State.spadGet_setBit (s : State) (d : Nat) (f : Field) (i : Nat) (d0 c0 w0 : Nat) :
    (State.setBit s d f i).spadGet d0 c0 w0 = s.spadGet d0 c0 w0 := rfl
@[simp] theorem State.byte_clrBit (s : State) (d : Nat) (f : Field) (i : Nat) (d0 o0 : Nat) :
    (State.clrBit s d f i).byte d0 o0 = s.byte d0 o0 := rfl
@[simp] theorem State.powered_clrBit (s : State) (d : Nat) (f : Field) (i : Nat) :
    (State.clrBit s d f i).powered = s.powered := rfl
@[simp] theorem State.cfg_clrBit (s : State) (d : Nat) (f : Field) (i : Nat) :
    (State.clrBit s d f i).cfg = s.cfg := rfl
@[simp] theorem State.eng_clrBit (s : State) (d : Nat) (f : Field) (i : Nat) (d0 e0 : Nat) :
    (State.clrBit s d f i).eng d0 e0 = s.eng d0 e0 := rfl
@[simp] theorem State.cl_clrBit (s : State) (d : Nat) (f : Field) (i : Nat) (d0 e0 : Nat) :
    (State.clrBit s d f i).cl d0 e0 = s.cl d0 e0 := rfl
@[simp] theorem State.frame_clrBit (s : State) (d : Nat) (f : Field) (i : Nat) (f0 : Nat) :
    (State.clrBit s d f i).frame f0 = s.frame f0 := rfl
@[simp] theorem State.bank_clrBit (s : State) (d : Nat) (f : Field) (i : Nat) (d0 b0 : Nat) :
    (State.clrBit s d f i).bank d0 b0 = s.bank d0 b0 := rfl
@[simp] theorem State.recDie_clrBit (s : State) (d : Nat) (f : Field) (i : Nat) (d0 : Nat) :
    (State.clrBit s d f i).recDie d0 = s.recDie d0 := rfl
@[simp] theorem State.pulse_clrBit (s : State) (d : Nat) (f : Field) (i : Nat) (d0 n0 : Nat) :
    (State.clrBit s d f i).pulse d0 n0 = s.pulse d0 n0 := rfl
@[simp] theorem State.lce_clrBit (s : State) (d : Nat) (f : Field) (i : Nat) (d0 e0 : Nat) :
    (State.clrBit s d f i).lce d0 e0 = s.lce d0 e0 := rfl
@[simp] theorem State.ethPort_clrBit (s : State) (d : Nat) (f : Field) (i : Nat) (d0 p0 : Nat) :
    (State.clrBit s d f i).ethPort d0 p0 = s.ethPort d0 p0 := rfl
@[simp] theorem State.ethPair_clrBit (s : State) (d : Nat) (f : Field) (i : Nat) (d0 p0 : Nat) :
    (State.clrBit s d f i).ethPair d0 p0 = s.ethPair d0 p0 := rfl
@[simp] theorem State.ser_clrBit (s : State) (d : Nat) (f : Field) (i : Nat) (d0 p0 : Nat) :
    (State.clrBit s d f i).ser d0 p0 = s.ser d0 p0 := rfl
@[simp] theorem State.ttg_clrBit (s : State) (d : Nat) (f : Field) (i : Nat) (d0 : Nat) :
    (State.clrBit s d f i).ttg d0 = s.ttg d0 := rfl
@[simp] theorem State.voqOf_clrBit (s : State) (d : Nat) (f : Field) (i : Nat) (d0 : Nat) :
    (State.clrBit s d f i).voqOf d0 = s.voqOf d0 := rfl
@[simp] theorem State.outQueue_clrBit (s : State) (d : Nat) (f : Field) (i : Nat) (d0 o0 : Nat) :
    (State.clrBit s d f i).outQueue d0 o0 = s.outQueue d0 o0 := rfl
@[simp] theorem State.slot_clrBit (s : State) (d : Nat) (f : Field) (i : Nat) (d0 c0 i0 : Nat) :
    (State.clrBit s d f i).slot d0 c0 i0 = s.slot d0 c0 i0 := rfl
@[simp] theorem State.queued_clrBit (s : State) (d : Nat) (f : Field) (i : Nat) (d0 c0 q0 : Nat) :
    (State.clrBit s d f i).queued d0 c0 q0 = s.queued d0 c0 q0 := rfl
@[simp] theorem State.weltEnd_clrBit (s : State) (d : Nat) (f : Field) (i : Nat) (d0 k0 : Nat) :
    (State.clrBit s d f i).weltEnd d0 k0 = s.weltEnd d0 k0 := rfl
@[simp] theorem State.wordErr_clrBit (s : State) (d : Nat) (f : Field) (i : Nat) (d0 o0 : Nat) :
    (State.clrBit s d f i).wordErr d0 o0 = s.wordErr d0 o0 := rfl
@[simp] theorem State.spadGet_clrBit (s : State) (d : Nat) (f : Field) (i : Nat) (d0 c0 w0 : Nat) :
    (State.clrBit s d f i).spadGet d0 c0 w0 = s.spadGet d0 c0 w0 := rfl
@[simp] theorem State.rd_modEng (s : State) (d e : Nat) (f : Eng → Eng) (d0 : Nat) (r0 : Reg) :
    (State.modEng s d e f).rd d0 r0 = s.rd d0 r0 := rfl
@[simp] theorem State.get_modEng (s : State) (d e : Nat) (f : Eng → Eng) (d0 : Nat) (f0 : Field) :
    (State.modEng s d e f).get d0 f0 = s.get d0 f0 := rfl
@[simp] theorem State.flag_modEng (s : State) (d e : Nat) (f : Eng → Eng) (d0 : Nat) (f0 : Field) :
    (State.modEng s d e f).flag d0 f0 = s.flag d0 f0 := rfl
@[simp] theorem State.now_modEng (s : State) (d e : Nat) (f : Eng → Eng) (d0 : Nat) :
    (State.modEng s d e f).now d0 = s.now d0 := rfl
@[simp] theorem State.mono_modEng (s : State) (d e : Nat) (f : Eng → Eng) (d0 : Nat) :
    (State.modEng s d e f).mono d0 = s.mono d0 := rfl
@[simp] theorem State.dieCount_modEng (s : State) (d e : Nat) (f : Eng → Eng) :
    (State.modEng s d e f).dieCount = s.dieCount := rfl
@[simp] theorem State.byte_modEng (s : State) (d e : Nat) (f : Eng → Eng) (d0 o0 : Nat) :
    (State.modEng s d e f).byte d0 o0 = s.byte d0 o0 := rfl
@[simp] theorem State.powered_modEng (s : State) (d e : Nat) (f : Eng → Eng) :
    (State.modEng s d e f).powered = s.powered := rfl
@[simp] theorem State.cfg_modEng (s : State) (d e : Nat) (f : Eng → Eng) :
    (State.modEng s d e f).cfg = s.cfg := rfl
@[simp] theorem State.cl_modEng (s : State) (d e : Nat) (f : Eng → Eng) (d0 e0 : Nat) :
    (State.modEng s d e f).cl d0 e0 = s.cl d0 e0 := rfl
@[simp] theorem State.frame_modEng (s : State) (d e : Nat) (f : Eng → Eng) (f0 : Nat) :
    (State.modEng s d e f).frame f0 = s.frame f0 := rfl
@[simp] theorem State.bank_modEng (s : State) (d e : Nat) (f : Eng → Eng) (d0 b0 : Nat) :
    (State.modEng s d e f).bank d0 b0 = s.bank d0 b0 := rfl
@[simp] theorem State.recDie_modEng (s : State) (d e : Nat) (f : Eng → Eng) (d0 : Nat) :
    (State.modEng s d e f).recDie d0 = s.recDie d0 := rfl
@[simp] theorem State.pulse_modEng (s : State) (d e : Nat) (f : Eng → Eng) (d0 n0 : Nat) :
    (State.modEng s d e f).pulse d0 n0 = s.pulse d0 n0 := rfl
@[simp] theorem State.lce_modEng (s : State) (d e : Nat) (f : Eng → Eng) (d0 e0 : Nat) :
    (State.modEng s d e f).lce d0 e0 = s.lce d0 e0 := rfl
@[simp] theorem State.ethPort_modEng (s : State) (d e : Nat) (f : Eng → Eng) (d0 p0 : Nat) :
    (State.modEng s d e f).ethPort d0 p0 = s.ethPort d0 p0 := rfl
@[simp] theorem State.ethPair_modEng (s : State) (d e : Nat) (f : Eng → Eng) (d0 p0 : Nat) :
    (State.modEng s d e f).ethPair d0 p0 = s.ethPair d0 p0 := rfl
@[simp] theorem State.ser_modEng (s : State) (d e : Nat) (f : Eng → Eng) (d0 p0 : Nat) :
    (State.modEng s d e f).ser d0 p0 = s.ser d0 p0 := rfl
@[simp] theorem State.ttg_modEng (s : State) (d e : Nat) (f : Eng → Eng) (d0 : Nat) :
    (State.modEng s d e f).ttg d0 = s.ttg d0 := rfl
@[simp] theorem State.voqOf_modEng (s : State) (d e : Nat) (f : Eng → Eng) (d0 : Nat) :
    (State.modEng s d e f).voqOf d0 = s.voqOf d0 := rfl
@[simp] theorem State.outQueue_modEng (s : State) (d e : Nat) (f : Eng → Eng) (d0 o0 : Nat) :
    (State.modEng s d e f).outQueue d0 o0 = s.outQueue d0 o0 := rfl
@[simp] theorem State.slot_modEng (s : State) (d e : Nat) (f : Eng → Eng) (d0 c0 i0 : Nat) :
    (State.modEng s d e f).slot d0 c0 i0 = s.slot d0 c0 i0 := rfl
@[simp] theorem State.queued_modEng (s : State) (d e : Nat) (f : Eng → Eng) (d0 c0 q0 : Nat) :
    (State.modEng s d e f).queued d0 c0 q0 = s.queued d0 c0 q0 := rfl
@[simp] theorem State.weltEnd_modEng (s : State) (d e : Nat) (f : Eng → Eng) (d0 k0 : Nat) :
    (State.modEng s d e f).weltEnd d0 k0 = s.weltEnd d0 k0 := rfl
@[simp] theorem State.wordErr_modEng (s : State) (d e : Nat) (f : Eng → Eng) (d0 o0 : Nat) :
    (State.modEng s d e f).wordErr d0 o0 = s.wordErr d0 o0 := rfl
@[simp] theorem State.spadGet_modEng (s : State) (d e : Nat) (f : Eng → Eng) (d0 c0 w0 : Nat) :
    (State.modEng s d e f).spadGet d0 c0 w0 = s.spadGet d0 c0 w0 := rfl

end Sys2Proof.Machine
end

