-- ==== Sys2Proof/WellFormed.lean ====
section
/-! DEFINITION. The operands that a command can carry: the widths and lengths that the registers, buses and messages of its rules
have, where the operand's type does not say them. -/

namespace Sys2Proof

/-- Write data, where there are any, has the length of the access. -/
def sized (w : Option (List Byte)) (n : Nat) : Bool :=
  match w with
  | none => true
  | some b => b.length == n

/-- Whether the operands of a command lie in their ranges. -/
def Instr.wellFormed (i : Instr) : Bool :=
  match i with
  | .paceWindowEnd _ _ _ _ _ _ => true
  | .boundHoldExpire => true
  | .skewMeasure _ _ => true
  | .regionResetReq _ _ => true
  | .regionResetDone _ _ => true
  | .bootSeek _ _ => true
  | .flashReadTimeout _ => true
  | .harLoad => true
  | .loadComplete _ => true
  | .harPrepare => true
  | .shadowReady _ => true
  | .harArm => true
  | .harAbort => true
  | .harDiscard => true
  | .guardCheck _ => true
  | .commitInstant => true
  | .unitSwitch _ => true
  | .laceSwitchTimeout _ _ => true
  | .groupReportRx _ _ _ _ _ => true
  | .groupDecisionRx _ => true
  | .groupDecisionTimeout => true
  | .bankGrant _ _ => true
  | .vatByteAccess _ _ _ off n write => decide (1 ≤ n) && decide (off + n ≤ 0x1000000) && sized write n
  | .classBStarve _ => true
  | .maintPromote _ _ => true
  | .scrubWrite _ _ => true
  | .burnisherRead _ _ => true
  | .vatClearDone _ => true
  | .marchStart _ _ banks _ => decide (banks < 2 ^ 16)
  | .marchAbort _ => true
  | .marchLineDone _ _ _ => true
  | .marchDone _ _ => true
  | .startupRun _ => true
  | .commitApply _ => true
  | .force _ tid _ => decide (tid < 4096)
  | .release _ tid _ => decide (tid < 4096)
  | .fenceMarkDone _ => true
  | .skiverPass _ => true
  | .noticeRdAdvance _ _ rd => decide (rd < 2 ^ 16)
  | .leadWrite _ _ => true
  | .awlNop _ _ _ => true
  | .awlDrop _ _ _ => true
  | .awlDup _ _ _ => true
  | .awlSwap _ _ _ => true
  | .awlOver _ _ _ => true
  | .awlRot _ _ _ => true
  | .awlNip _ _ _ => true
  | .awlTuck _ _ _ => true
  | .awlDrop2 _ _ _ => true
  | .awlDup2 _ _ _ => true
  | .awlOver2 _ _ _ => true
  | .awlSwap2 _ _ _ => true
  | .awlTor _ _ _ => true
  | .awlFromr _ _ _ => true
  | .awlRfetch _ _ _ => true
  | .awlPick _ _ _ _ => true
  | .awlAdd _ _ _ => true
  | .awlAdc _ _ _ => true
  | .awlSub _ _ _ => true
  | .awlSbc _ _ _ => true
  | .awlAnd _ _ _ => true
  | .awlOr _ _ _ => true
  | .awlXor _ _ _ => true
  | .awlNot _ _ _ => true
  | .awlNeg _ _ _ => true
  | .awlInc _ _ _ => true
  | .awlDec _ _ _ => true
  | .awlCmp _ _ _ => true
  | .awlAdd2 _ _ _ => true
  | .awlSub2 _ _ _ => true
  | .awlCmp2 _ _ _ => true
  | .awlSwab _ _ _ => true
  | .awlSext8 _ _ _ => true
  | .awlZext8 _ _ _ => true
  | .awlShl _ _ _ _ => true
  | .awlShr _ _ _ _ => true
  | .awlSar _ _ _ _ => true
  | .awlRol _ _ _ _ => true
  | .awlShlv _ _ _ => true
  | .awlShrv _ _ _ => true
  | .awlSarv _ _ _ => true
  | .awlRolv _ _ _ => true
  | .awlMul _ _ _ => true
  | .awlMuls _ _ _ => true
  | .awlMacc _ _ _ => true
  | .awlMaccs _ _ _ => true
  | .awlMclr _ _ _ => true
  | .awlLit _ _ _ _ => true
  | .awlLitx _ _ _ _ => true
  | .awlBtst _ _ _ _ => true
  | .awlTeq _ _ _ => true
  | .awlTne _ _ _ => true
  | .awlTltu _ _ _ => true
  | .awlTlts _ _ _ => true
  | .awlTgeu _ _ _ => true
  | .awlTges _ _ _ => true
  | .awlTz _ _ _ => true
  | .awlTt _ _ _ => true
  | .awlTeq2 _ _ _ => true
  | .awlTltu2 _ _ _ => true
  | .awlTin _ _ _ => true
  | .awlTset _ _ _ => true
  | .awlTclr _ _ _ => true
  | .awlRet _ _ _ => true
  | .awlCalls _ _ _ => true
  | .awlJmps _ _ _ => true
  | .awlBr _ _ _ _ => true
  | .awlCall _ _ _ => true
  | .awlWait _ _ _ => true
  | .engineWake _ _ => true
  | .awlRett _ _ _ => true
  | .awlTrap _ _ _ => true
  | .awlSync _ _ _ => true
  | .awlMrx _ _ _ => true
  | .awlMtx _ _ _ => true
  | .awlLd _ _ _ _ => true
  | .awlSt _ _ _ _ => true
  | .awlLd2 _ _ _ _ => true
  | .awlSt2 _ _ _ _ => true
  | .awlLdz _ _ _ _ => true
  | .awlStz _ _ _ _ => true
  | .awlLds _ _ _ _ => true
  | .awlSts _ _ _ _ => true
  | .awlFld _ _ _ _ => true
  | .awlFst _ _ _ _ => true
  | .awlVld _ _ _ _ => true
  | .awlVst _ _ _ _ => true
  | .awlCrc _ _ _ _ => true
  | .awlCommit _ _ _ _ => true
  | .awlRdrec _ _ _ _ => true
  | .awlBfx _ _ _ _ _ => true
  | .awlBfi _ _ _ _ _ => true
  | .illegalWord _ _ => true
  | .fwRelease _ _ => true
  | .fwHold _ _ => true
  | .fwRequeue _ _ _ => true
  | .fwAlloc _ _ => true
  | .fwSend _ _ => true
  | .fwDiscard _ _ => true
  | .signal _ _ mask => decide (mask < 2 ^ 16)
  | .tmrWrite _ _ _ => true
  | .timerExpire _ _ => true
  | .mbxRx _ _ => true
  | .mbxTx _ _ _ => true
  | .crefused _ _ => true
  | .nowLatch _ _ => true
  | .trapPcWrite _ _ _ => true
  | .storeDrain _ _ => true
  | .trapEntry _ _ => true
  | .fatalTrap _ _ => true
  | .runLimit _ _ => true
  | .fetchUe _ _ => true
  | .engineReset _ _ => true
  | .clusterReset _ _ _ => true
  | .engineResetDone _ _ => true
  | .ibankTest _ _ _ => true
  | .ibankClear _ _ _ => true
  | .ibankReload _ _ _ => true
  | .ibankDone _ _ _ => true
  | .pduDeliver _ _ _ _ => true
  | .framingErr _ => true
  | .tcpSynRefused _ => true
  | .commandTimeout _ _ _ _ => true
  | .partialMessageTimeout _ _ => true
  | .frameReceive _ _ _ _ _ _ => true
  | .pauseExpire _ _ _ => true
  | .pauseWatchdog _ _ _ => true
  | .pauseHoldoffEnd _ _ => true
  | .dupKeyExpire _ _ sa seq => decide (sa < 2 ^ 48) && decide (seq < 2 ^ 16)
  | .supervisionSend _ _ => true
  | .linkUp _ _ _ => true
  | .linkDown _ _ => true
  | .restartAn _ _ => true
  | .adminDown _ _ _ => true
  | .egressSelect _ _ => true
  | .queueHeadArrive _ _ _ => true
  | .txEnd _ _ => true
  | .gateEntryChange _ _ => true
  | .cutThroughStart _ _ _ => true
  | .serialFrameReceive _ _ _ _ => true
  | .uartFrameEnd _ _ _ _ _ _ => true
  | .serialTxStart _ _ => true
  | .serialTxEnd _ _ _ => true
  | .serialFifoEnter _ _ => true
  | .busOff _ _ => true
  | .recover _ _ => true
  | .busOffRecoveryDone _ _ => true
  | .abortHead _ _ => true
  | .invLong _ _ => true
  | .detectStart _ _ => true
  | .detectDone _ _ _ _ => true
  | .go _ _ => true
  | .ttcanReferenceSend _ _ => true
  | .ttcanReferenceRx _ _ _ _ => true
  | .ttcanWatchExpire _ _ _ => true
  | .ttcanTrigger _ _ _ _ => true
  | .ttcanSyncLoss _ _ => true
  | .ttBufferLatch _ _ => true
  | .ttCellStart _ _ _ _ => true
  | .ttArbStep _ _ _ => true
  | .ttFrameReceive _ _ _ rx => decide (rx.frameId < 2048) && decide (rx.cycle < 64) && rx.payload.length == 2 * rx.words
  | .ttClockCorrection _ => true
  | .ttStateChange _ _ => true
  | .ttListenTimeout _ => true
  | .bridleViolation _ _ _ _ => true
  | .bridleReadmit _ => true
  | .ttCut _ _ _ => true
  | .ttReadmit _ _ _ => true
  | .ttRestart _ => true
  | .ttSend _ => true
  | .schedulerRound _ => true
  | .captureRecord _ => true
  | .ctUnderrun _ _ => true
  | .commitQueueWaitEnd _ _ => true
  | .hcqWaitEnd _ => true
  | .leakAudit _ => true
  | .tshRateWrite _ _ _ => true
  | .servoMeasurement _ _ => true
  | .sourceSelect _ _ => true
  | .accept => true
  | .step => true
  | .relock => true
  | .relockDone => true
  | .stepInstant _ => true
  | .ptpMessageTx _ _ => true
  | .captureEdge _ _ _ => true
  | .ppsEdge _ _ => true
  | .irigFrame _ _ _ => true
  | .freqInputLoss _ _ => true
  | .sourceLossTimeout _ => true
  | .pulseStart _ _ => true
  | .pulseEnd _ _ => true
  | .pulseArm _ _ => true
  | .clkoutFreqWrite _ => true
  | .laceStep _ engines pins caps => engines.all (fun e => decide (e < 16)) && decide (pins < 2 ^ 32) && decide (caps < 16)
  | .cueStart _ mask _ => decide (mask < 2 ^ 16)
  | .cueRephase _ mask _ => decide (mask < 2 ^ 16)
  | .cueStartRephase _ mask _ => decide (mask < 2 ^ 16)
  | .cueStop _ mask _ => decide (mask < 2 ^ 16)
  | .cueReset _ mask _ => decide (mask < 2 ^ 16)
  | .cueEdge _ => true
  | .laceAutostart _ => true
  | .lceInFifo _ _ word => decide (word < 2 ^ 32)
  | .lceOutFifo _ _ => true
  | .lceLoopWrite _ _ _ _ => true
  | .lceDivWrite _ _ div => decide (div < 2 ^ 24)
  | .lceFlagsWrite _ flags => decide (flags < 2 ^ 32)
  | .bar0Access _ r _ => (r.len == 4 || r.len == 8) && ((r.write.map (fun v => decide (v < 2 ^ (8 * r.len)))).getD true)
  | .bar4Access _ _ len write => decide (1 ≤ len) && sized write len
  | .portReset _ _ => true
  | .pageGather _ _ _ _ => true
  | .pageScatter _ _ _ _ => true
  | .pageRelease _ _ _ => true
  | .contextAllocate _ _ _ _ _ => true
  | .contextIdleExpire _ _ => true
  | .noticeWindowRd _ _ _ _ => true
  | .mbxPgTx _ _ _ _ _ => true
  | .mbxPgRx _ _ _ _ => true
  | .mbxPgBell _ _ _ _ => true
  | .dmaPiWrite _ _ _ _ _ => true
  | .dmaDescriptorStart _ _ _ => true
  | .dmaBurst _ _ _ => true
  | .dmaDescriptorEnd _ _ => true
  | .dmaAbort _ _ => true
  | .dmaChReset _ _ => true
  | .dmaEnable _ _ _ _ _ => true
  | .circularRecord _ _ => true
  | .circularCrdWrite _ _ _ rd _ => decide (rd < 2 ^ 32)
  | .hcqDrain _ => true
  | .storeBucketWaitEnd _ _ => true
  | .recordSubmit _ _ => true
  | .markTick _ => true
  | .timeEventMark _ _ => true
  | .snapTake _ _ => true
  | .snapRelease _ _ => true
  | .segmentClose _ => true
  | .flush _ => true
  | .nvmeWriteDone _ _ _ => true
  | .nvmeWriteTimeout _ _ => true
  | .archiveRetryTimer _ => true
  | .arcRetry _ => true
  | .arcAdopt _ => true
  | .ercAlarmClr _ => true
  | .lastGasp _ => true
  | .lastGaspEnd _ => true
  | .bootContinuation _ _ => true
  | .clrNonce => true
  | .nonceExpire => true
  | .clearGo _ => true
  | .bind => true
  | .unbind => true
  | .raiseSec => true
  | .attest => true
  | .cmdActive => true
  | .cmdTrim => true
  | .cmdRetain => true
  | .cmdOffWake => true
  | .cmdCycle => true
  | .retainExit => true
  | .vcoreCodeStep _ => true
  | .vcoreSlow _ => true
  | .adaptStep => true
  | .vcoreTargetWrite _ => true
  | .domainFence _ _ => true
  | .domainDrainEnd _ _ => true
  | .drainForced _ _ _ => true
  | .domainRampDone _ _ => true
  | .demandWake _ _ => true
  | .demandIdleExpire _ _ => true
  | .sentinelExpire _ _ _ _ _ _ _ _ _ => true
  | .crossingResetAck _ _ _ => true
  | .wakeSource _ => true
  | .railsGood => true
  | .railGoodTimeout => true
  | .railUndervoltage _ _ _ => true
  | .railUvTimeout => true
  | .xinLoss _ => true
  | .powerOnReset => true
  | .vaonLoss => true
  | .faultDetect _ _ _ _ => true
  | .reloadFail _ _ => true
  | .pkgReset => true
  | .resetNAssert _ => true
  | .resetNRelease => true
  | .rung4 => true
  | .rung4OffExpire => true
  | .unitRstGo _ _ => true
  | .wdogEn => true
  | .wdogKick _ => true
  | .wdogExpire => true
  | .qstall _ _ => true
  | .safeNAssert => true
  | .safeSet => true
  | .safeClr => true
  | .safeExit => true
  | .alarmClr => true
  | .condClr => true
  | .tempConversion _ _ _ => true
  | .tempCrit _ _ => true
  | .pommelStatus _ => true
  | .pommelFaults _ _ => true
  | .pommelRead _ _ _ => true
  | .pommelWrite _ _ _ _ _ => true
  | .pommelMbxPut _ _ _ _ => true
  | .pommelMbxGet _ _ _ => true
  | .pommelLoadBegin _ _ => true
  | .pommelLoadData _ data _ => data.length == 256
  | .pommelLoadEnd _ _ _ => true
  | .pommelLoadTimeout => true
  | .pommelSafe _ _ => true
  | .pommelSafeExit _ => true
  | .pommelReset _ _ _ => true
  | .pommelAlarmClr _ => true
  | .weltPacketRx _ _ _ _ => true
  | .weltRetrain _ _ => true
  | .weltRetrainDone _ _ _ => true
  | .weltTraining _ _ _ => true
  | .weltCreditWaitEnd _ _ _ => true
  | .timeMessage _ _ => true
  | .reinMessageRx _ _ _ _ _ payload _ _ => decide (payload.length ≤ 64)
  | .reinReset _ => true
  | .reinLinkUp _ => true
  | .reinBreak _ => true
  | .reinStatusSend => true
  | .timeSyncExchange => true
  | .mgmtGo => true
  | .mgmtReq _ _ _ _ _ => true
  | .mgmtRsp _ _ _ => true
  | .mgmtTimeout => true
  | .mirror _ _ _ bytes => bytes.length == 32
  | .calUserWrite _ _ => true
  | .bankHold _ _ _ => true
  | .bankHoldRelease _ _ _ => true
  | .elxPadWrite _ _ _ => true
  | .registerWrite _ off _ => decide (off < 0x800000) && off % 4 == 0
  | .readClear _ off wide => decide (off < 0x800000) && off % (if wide then 8 else 4) == 0
  | .pcieLinkUp _ _ _ => true
  | .safeNRelease => true
  | .islandPllUnlock _ _ => true
  | .islandPllRelock _ _ => true
  | .freqInputReturn _ _ => true
  | .announceReceiptTimeout _ => true
  | .autoNegotiationFail _ _ _ => true
  | .railRetry => true
  | .reassemblyTimeout _ => true
  | .branchActivity _ _ _ _ => true

end Sys2Proof
end

