-- ==== Sys2Proof/Tests/Slice0.lean ====
section
/-! SUPPORT. Tests: an ill-formed term for each check of WellFormed, steps whose results the spec's worked examples and tables give, and
for each statement concrete states and operands that meet its hypotheses together. -/

set_option maxRecDepth 100000

namespace Sys2Proof.Tests

open Sys2Proof Sys2Proof.Machine

/-! ## Ill-formed operands -/

def noElem : ScatterElem := default
def ttBad : TtRx := ⟨true, true, true, false, false, false, 2048, 0, 0, [], [], 0⟩

theorem test_ill_formed_vat : (Instr.vatByteAccess 0 0 0 0 0 none).wellFormed = false ∧
    (Instr.vatByteAccess 0 0 0 0xFFFFFF 2 none).wellFormed = false ∧
    (Instr.vatByteAccess 0 0 0 0 2 (some [1])).wellFormed = false ∧ (Instr.marchStart 0 true 65536 []).wellFormed = false := by decide
theorem test_ill_formed_datapoints : (Instr.force 0 4096 noElem).wellFormed = false ∧ (Instr.release 0 4096 noElem).wellFormed = false ∧
    (Instr.noticeRdAdvance 0 0 65536).wellFormed = false := by decide
theorem test_ill_formed_engines : (Instr.signal 0 0 65536).wellFormed = false := by decide
theorem test_ill_formed_dup : (Instr.dupKeyExpire 0 0 (2 ^ 48) 0).wellFormed = false ∧
    (Instr.dupKeyExpire 0 0 0 65536).wellFormed = false := by decide
theorem test_ill_formed_tt : (Instr.ttFrameReceive 0 0 0 ttBad).wellFormed = false ∧
    (Instr.ttFrameReceive 0 0 0 { ttBad with frameId := 1, cycle := 64 }).wellFormed = false ∧
    (Instr.ttFrameReceive 0 0 0 { ttBad with frameId := 1, words := 1 }).wellFormed = false := by decide
theorem test_ill_formed_lace : (Instr.laceStep 0 [16] 0 0).wellFormed = false ∧ (Instr.laceStep 0 [] (2 ^ 32) 0).wellFormed = false ∧
    (Instr.laceStep 0 [] 0 16).wellFormed = false ∧ (Instr.lceInFifo 0 0 (2 ^ 32)).wellFormed = false ∧
    (Instr.lceDivWrite 0 0 (2 ^ 24)).wellFormed = false ∧ (Instr.lceFlagsWrite 0 (2 ^ 32)).wellFormed = false := by decide
theorem test_ill_formed_cues : (Instr.cueStart 0 65536 0).wellFormed = false ∧ (Instr.cueRephase 0 65536 0).wellFormed = false ∧
    (Instr.cueStartRephase 0 65536 0).wellFormed = false ∧ (Instr.cueStop 0 65536 0).wellFormed = false ∧
    (Instr.cueReset 0 65536 0).wellFormed = false := by decide
theorem test_ill_formed_host : (Instr.bar0Access 0 ⟨false, 0, 2, none, none⟩ ⟨[], [], none⟩).wellFormed = false ∧
    (Instr.bar0Access 0 ⟨false, 0, 4, some (2 ^ 32), none⟩ ⟨[], [], none⟩).wellFormed = false ∧
    (Instr.bar4Access 0 0 0 none).wellFormed = false ∧ (Instr.bar4Access 0 0 2 (some [1])).wellFormed = false ∧
    (Instr.circularCrdWrite 0 0 0 (2 ^ 32) none).wellFormed = false := by decide
theorem test_ill_formed_bus : (Instr.pommelLoadData 0 [1] 0).wellFormed = false ∧
    (Instr.reinMessageRx true true 0 0 0 (List.replicate 65 0) 0 ⟨[], [], none⟩).wellFormed = false ∧
    (Instr.mirror 0 0 0 [1]).wellFormed = false := by decide
theorem test_ill_formed_registers : (Instr.registerWrite 0 0x800000 0).wellFormed = false ∧ (Instr.registerWrite 0 2 0).wellFormed = false ∧
    (Instr.readClear 0 0x800000 false).wellFormed = false ∧ (Instr.readClear 0 4 true).wellFormed = false := by decide

/-! ## Words of the table -/

theorem test_no_row_has_bits : decodeTableWord 0 0 = none ∧ State.reset.withFetchWord 0 0 = State.reset := by decide

end Sys2Proof.Tests
end

/-! PROOFS. Host requests (O38): the bound `o + len ≤ 0x1000000` of its BAR4 write clause admits the first offset of the recorder
buffer with no byte, where the port refuses every write (R626). -/

namespace Sys2Proof.Machine

/-- The package after reset with the PCIe port of die 0 set up as a HOST port that holds the OWNER flag (R624). -/
def ownerPortAtReset : State := (State.reset.put 0 F.PCI_PORT_CFG_ROLE 1).putFlag 0 F.PCI_PORT_CFG_OWNER true

theorem ownerPortAtReset_live : Live ownerPortAtReset (0 : Die) := by decide

theorem ownerPortAtReset_owns : ownerPortAtReset.isHost (0 : Die) = true ∧
    ownerPortAtReset.flag (0 : Die) F.PCI_STATUS_BOOT = false ∧ ownerPortAtReset.flag (0 : Die) F.PCI_PORT_CFG_OWNER = true := by decide

/-- A BAR4 request of the owner's HOST port reaches the window of the die that its offset names (R624, R626). -/
theorem exec_bar4Access_of_owner (s : State) (p : Die) (off len : Nat) (w : Option (List Byte)) (hp : Live s p)
    (hhost : s.isHost p = true) (hboot : s.flag p F.PCI_STATUS_BOOT = false) (hown : s.flag p F.PCI_PORT_CFG_OWNER = true) :
    exec (.bar4Access p off len w) s =
      .next (s.bar4 p (off / 0x2000000) (off % 0x2000000) off ((w.map List.length).getD len) w) := by
  obtain ⟨hd, hpow⟩ := hp
  change execBar4Access p off len w s = _
  simp [execBar4Access, onDie, hd, hpow, hhost, hboot, hown]

/-- A write from the recorder buffer's first offset on is refused with KIND RANGE, whatever its length (R626). -/
theorem State.bar4_write_recorder (s : State) (p d o off len : Nat) (bs : List Byte) (ho : 0x1000000 ≤ o) :
    s.bar4 p d o off len (some bs) = (s.pciErr p off 2 len 4 true).abortReq p := by
  unfold State.bar4
  exact if_pos (.inr (.inr (.inr ⟨ho, rfl⟩)))

@[simp] theorem State.abortReq_resp (s : State) (p : Nat) : (s.abortReq p).resp = ⟨[], false⟩ := rfl

/-! An access of no byte touches no line: no fenced bank and no region register stops it, and writing it fails nowhere. -/

theorem State.banksDown_zero (s : State) (d o : Nat) : s.banksDown d o 0 = false := rfl
theorem State.firstRefused_zero (s : State) (d m t off : Nat) (write : Bool) : s.firstRefused d m t off 0 write = none := rfl
theorem State.vatWrite_nil (s : State) (d off source fuel : Nat) : s.vatWrite d off source [] fuel = (false, s) := by
  cases fuel <;> rfl

/-- Refutes O38: a BAR4 write of no byte at the first offset of the recorder buffer meets every hypothesis of the write clause
(`o = 0x1000000`, `len = 0`), and the port answers it with Completer Abort, not with success (R626). -/
theorem not_hostRequests : ¬ Obligations.HostRequests := by
  unfold Obligations.HostRequests
  intro h
  obtain ⟨hhost, hboot, hown⟩ := ownerPortAtReset_owns
  obtain ⟨hbar4, -⟩ := h ownerPortAtReset 0 ownerPortAtReset_live
  obtain ⟨hwrite, -⟩ := hbar4 0 0x1000000 0 ⟨⟨hhost, hboot, hown⟩, ownerPortAtReset_live.1, by decide, State.banksDown_zero _ _ _⟩
  obtain ⟨t, hexec, hresp, -⟩ := hwrite [] ⟨rfl, State.firstRefused_zero _ _ _ _ _ _, by rw [State.vatWrite_nil]⟩
  rw [exec_bar4Access_of_owner _ 0 _ _ _ ownerPortAtReset_live hhost hboot hown,
    State.bar4_write_recorder _ _ _ _ _ _ _ (by simp)] at hexec
  injection hexec with ht
  rw [← ht, State.abortReq_resp] at hresp
  exact absurd hresp (by decide)

end Sys2Proof.Machine

/-! PROOFS. The state after power-on reset (O5): a register that no strap gives reads its Reset value on every die (log entry 133),
and a table without an entry reads its unit's reset value. -/

namespace Sys2Proof.Machine

/-! ## Registers at reset -/

theorem tblGet_of_unlisted {α : Type} (t : List (Nat × α)) (d : α) (k : Nat) (h : ∀ e ∈ t, e.1 ≠ k) : tblGet t d k = d := by
  induction t with
  | nil => rfl
  | cons e r ih =>
    obtain ⟨he, hr⟩ := List.forall_mem_cons.mp h
    rw [tblGet, if_neg he.symm, ih hr]

/-- A register that no fuse, variant or pin gives on any die: no key of `strapRegs` has its offset. -/
abbrev Unstrapped (r : Reg) : Prop := r.off < 0x800000 ∧ ∀ e ∈ strapRegs, e.1 % 0x800000 ≠ r.off

theorem State.reset_rd_of_unstrapped (d : Nat) (r : Reg) (h : Unstrapped r) : State.reset.rd d r = r.rst := by
  obtain ⟨hoff, hkeys⟩ := h
  refine tblGet_of_unlisted strapRegs r.rst (regKey d r) fun e he hkey => hkeys e he ?_
  simp only [hkey, regKey]
  omega

theorem State.reset_get_of_unstrapped (d : Nat) (f : Field) (h : Unstrapped f.reg) :
    State.reset.get d f = bits f.reg.rst f.hi f.lo := by
  rw [State.get, State.reset_rd_of_unstrapped d f.reg h]

theorem State.reset_dieCount : State.reset.dieCount = 8 := by decide

theorem State.reset_dieId : ∀ d : Die, State.reset.get d F.ARC_CONFIG_DIE_ID = d := by decide

theorem State.reset_harState : State.reset.get 0 F.HAR_STATUS_STATE = 0 :=
  State.reset_get_of_unstrapped 0 F.HAR_STATUS_STATE (by decide)

theorem State.reset_bound : State.reset.get 0 F.ARC_LAT_BOUND_BOUND_NS = 0xFFFF :=
  State.reset_get_of_unstrapped 0 F.ARC_LAT_BOUND_BOUND_NS (by decide)

theorem State.reset_boundValid : State.reset.flag 0 F.ARC_LAT_BOUND_VALID = false := by
  rw [State.flag, State.reset_get_of_unstrapped 0 F.ARC_LAT_BOUND_VALID (by decide)]
  rfl

theorem State.reset_pwrState : State.reset.get 0 F.PWR_STATUS_STATE = 0 :=
  State.reset_get_of_unstrapped 0 F.PWR_STATUS_STATE (by decide)

theorem State.reset_now (d : Nat) : State.reset.now d = 0 := by
  rw [State.now, State.reset_rd_of_unstrapped d R.TIM_NOW (by decide)]
  rfl

theorem State.reset_mono (d : Nat) : State.reset.mono d = 0 := by
  rw [State.mono, State.reset_rd_of_unstrapped d R.TIM_MONO (by decide)]
  rfl

theorem unstrapped_lceEngStatus : ∀ e : Unit16, Unstrapped (R.LCE_ENG_STATUS e) := by decide

theorem State.reset_lceState (d : Nat) (e : Unit16) : lceState State.reset d e = 0 :=
  State.reset_get_of_unstrapped d (F.LCE_ENG_STATUS_STATE e) (unstrapped_lceEngStatus e)

/-! ## Units at reset -/

theorem State.reset_eng (d e : Nat) : State.reset.eng d e = Eng.power := rfl
theorem State.reset_lce (d e : Nat) : State.reset.lce d e = LaceEng.reset := rfl
theorem State.reset_ser (d p : Nat) : State.reset.ser d p = SerPort.reset := rfl
theorem State.reset_outQueue (d o : Nat) : State.reset.outQueue d o = [] := rfl
theorem State.reset_hcqOf (d : Nat) : State.reset.hcqOf d = default := rfl

theorem State.reset_msixWord (p w : Nat) : State.reset.msixWord p w = if w % 4 = 3 then 1 else 0 := rfl

/-- The fourth word of every entry of the MSI-X table holds the mask bit (R629). -/
theorem State.reset_msixMask (p v : Nat) : State.reset.msixWord p (4 * v + 3) = 1 := by
  rw [State.reset_msixWord, if_pos (by omega)]

/-- An engine at power-on is off with the cause 0xFF, and its stacks and its group are empty. -/
theorem Eng.power_fields : Eng.power.st = .off ∧ Eng.power.evCause = 0xFF ∧ Eng.power.ds = [] ∧ Eng.power.rs = [] ∧
    Eng.power.group = [] := ⟨rfl, rfl, rfl, rfl, rfl⟩

/-- Settles O5: the package's fields and registers, then the registers and the units of each die. -/
theorem resetState : Obligations.ResetState := by
  unfold Obligations.ResetState
  refine ⟨rfl, State.reset_dieCount, rfl, rfl, State.reset_harState, State.reset_bound, State.reset_boundValid,
    State.reset_pwrState, fun d => ⟨State.reset_dieId d, State.reset_now d, State.reset_mono d, fun e => ?engine,
      fun e => ?lace, State.reset_ser d 0, fun v => State.reset_msixMask d v, State.reset_outQueue d 0, State.reset_hcqOf d⟩⟩
  case engine => simpa only [State.reset_eng] using Eng.power_fields
  case lace => exact ⟨State.reset_lceState d e, State.reset_lce d e⟩

end Sys2Proof.Machine

/-! PROOFS. The canonical form of the Vat (O3, O4): each command keeps it by the lemma of its family (Laws/ExecVat*), an idle step
leaves the Vat alone, and the reset Vat lists no byte. -/

namespace Sys2Proof.Machine

theorem exec_wf (i : Instr) (s t : State) (h : exec i s = .next t) (hw : Memory.wf s.mem = true) : Memory.wf t.mem = true := by
  cases i with
  | paceWindowEnd => exact execPaceWindowEnd_wf (h := h) (hw := hw) ..
  | boundHoldExpire => exact execBoundHoldExpire_wf (h := h) (hw := hw) ..
  | skewMeasure => exact execSkewMeasure_wf (h := h) (hw := hw) ..
  | regionResetReq => exact execRegionResetReq_wf (h := h) (hw := hw) ..
  | regionResetDone => exact execRegionResetDone_wf (h := h) (hw := hw) ..
  | bootSeek => exact execBootSeek_wf (h := h) (hw := hw) ..
  | flashReadTimeout => exact execFlashReadTimeout_wf (h := h) (hw := hw) ..
  | harLoad => exact execHarLoad_wf (h := h) (hw := hw) ..
  | loadComplete => exact execLoadComplete_wf (h := h) (hw := hw) ..
  | harPrepare => exact execHarPrepare_wf (h := h) (hw := hw) ..
  | shadowReady => exact execShadowReady_wf (h := h) (hw := hw) ..
  | harArm => exact execHarArm_wf (h := h) (hw := hw) ..
  | harAbort => exact execHarAbort_wf (h := h) (hw := hw) ..
  | harDiscard => exact execHarDiscard_wf (h := h) (hw := hw) ..
  | guardCheck => exact execGuardCheck_wf (h := h) (hw := hw) ..
  | commitInstant => exact execCommitInstant_wf (h := h) (hw := hw) ..
  | unitSwitch => exact execUnitSwitch_wf (h := h) (hw := hw) ..
  | laceSwitchTimeout => exact execLaceSwitchTimeout_wf (h := h) (hw := hw) ..
  | groupReportRx => exact execGroupReportRx_wf (h := h) (hw := hw) ..
  | groupDecisionRx => exact execGroupDecisionRx_wf (h := h) (hw := hw) ..
  | groupDecisionTimeout => exact execGroupDecisionTimeout_wf (h := h) (hw := hw) ..
  | bankGrant => exact execBankGrant_wf (h := h) (hw := hw) ..
  | vatByteAccess => exact execVatByteAccess_wf (h := h) (hw := hw) ..
  | classBStarve => exact execClassBStarve_wf (h := h) (hw := hw) ..
  | maintPromote => exact execMaintPromote_wf (h := h) (hw := hw) ..
  | scrubWrite => exact execScrubWrite_wf (h := h) (hw := hw) ..
  | burnisherRead => exact execBurnisherRead_wf (h := h) (hw := hw) ..
  | vatClearDone => exact execVatClearDone_wf (h := h) (hw := hw) ..
  | marchStart => exact execMarchStart_wf (h := h) (hw := hw) ..
  | marchAbort => exact execMarchAbort_wf (h := h) (hw := hw) ..
  | marchLineDone => exact execMarchLineDone_wf (h := h) (hw := hw) ..
  | marchDone => exact execMarchDone_wf (h := h) (hw := hw) ..
  | startupRun => exact execStartupRun_wf (h := h) (hw := hw) ..
  | commitApply => exact execCommitApply_wf (h := h) (hw := hw) ..
  | force => exact execForce_wf (h := h) (hw := hw) ..
  | release => exact execRelease_wf (h := h) (hw := hw) ..
  | fenceMarkDone => exact execFenceMarkDone_wf (h := h) (hw := hw) ..
  | skiverPass => exact execSkiverPass_wf (h := h) (hw := hw) ..
  | noticeRdAdvance => exact execNoticeRdAdvance_wf (h := h) (hw := hw) ..
  | leadWrite => exact execLeadWrite_wf (h := h) (hw := hw) ..
  | awlNop => exact execAwlNop_wf (h := h) (hw := hw) ..
  | awlDrop => exact execAwlDrop_wf (h := h) (hw := hw) ..
  | awlDup => exact execAwlDup_wf (h := h) (hw := hw) ..
  | awlSwap => exact execAwlSwap_wf (h := h) (hw := hw) ..
  | awlOver => exact execAwlOver_wf (h := h) (hw := hw) ..
  | awlRot => exact execAwlRot_wf (h := h) (hw := hw) ..
  | awlNip => exact execAwlNip_wf (h := h) (hw := hw) ..
  | awlTuck => exact execAwlTuck_wf (h := h) (hw := hw) ..
  | awlDrop2 => exact execAwlDrop2_wf (h := h) (hw := hw) ..
  | awlDup2 => exact execAwlDup2_wf (h := h) (hw := hw) ..
  | awlOver2 => exact execAwlOver2_wf (h := h) (hw := hw) ..
  | awlSwap2 => exact execAwlSwap2_wf (h := h) (hw := hw) ..
  | awlTor => exact execAwlTor_wf (h := h) (hw := hw) ..
  | awlFromr => exact execAwlFromr_wf (h := h) (hw := hw) ..
  | awlRfetch => exact execAwlRfetch_wf (h := h) (hw := hw) ..
  | awlPick => exact execAwlPick_wf (h := h) (hw := hw) ..
  | awlAdd => exact execAwlAdd_wf (h := h) (hw := hw) ..
  | awlAdc => exact execAwlAdc_wf (h := h) (hw := hw) ..
  | awlSub => exact execAwlSub_wf (h := h) (hw := hw) ..
  | awlSbc => exact execAwlSbc_wf (h := h) (hw := hw) ..
  | awlAnd => exact execAwlAnd_wf (h := h) (hw := hw) ..
  | awlOr => exact execAwlOr_wf (h := h) (hw := hw) ..
  | awlXor => exact execAwlXor_wf (h := h) (hw := hw) ..
  | awlNot => exact execAwlNot_wf (h := h) (hw := hw) ..
  | awlNeg => exact execAwlNeg_wf (h := h) (hw := hw) ..
  | awlInc => exact execAwlInc_wf (h := h) (hw := hw) ..
  | awlDec => exact execAwlDec_wf (h := h) (hw := hw) ..
  | awlCmp => exact execAwlCmp_wf (h := h) (hw := hw) ..
  | awlAdd2 => exact execAwlAdd2_wf (h := h) (hw := hw) ..
  | awlSub2 => exact execAwlSub2_wf (h := h) (hw := hw) ..
  | awlCmp2 => exact execAwlCmp2_wf (h := h) (hw := hw) ..
  | awlSwab => exact execAwlSwab_wf (h := h) (hw := hw) ..
  | awlSext8 => exact execAwlSext8_wf (h := h) (hw := hw) ..
  | awlZext8 => exact execAwlZext8_wf (h := h) (hw := hw) ..
  | awlShl => exact execAwlShl_wf (h := h) (hw := hw) ..
  | awlShr => exact execAwlShr_wf (h := h) (hw := hw) ..
  | awlSar => exact execAwlSar_wf (h := h) (hw := hw) ..
  | awlRol => exact execAwlRol_wf (h := h) (hw := hw) ..
  | awlShlv => exact execAwlShlv_wf (h := h) (hw := hw) ..
  | awlShrv => exact execAwlShrv_wf (h := h) (hw := hw) ..
  | awlSarv => exact execAwlSarv_wf (h := h) (hw := hw) ..
  | awlRolv => exact execAwlRolv_wf (h := h) (hw := hw) ..
  | awlMul => exact execAwlMul_wf (h := h) (hw := hw) ..
  | awlMuls => exact execAwlMuls_wf (h := h) (hw := hw) ..
  | awlMacc => exact execAwlMacc_wf (h := h) (hw := hw) ..
  | awlMaccs => exact execAwlMaccs_wf (h := h) (hw := hw) ..
  | awlMclr => exact execAwlMclr_wf (h := h) (hw := hw) ..
  | awlLit => exact execAwlLit_wf (h := h) (hw := hw) ..
  | awlLitx => exact execAwlLitx_wf (h := h) (hw := hw) ..
  | awlBtst => exact execAwlBtst_wf (h := h) (hw := hw) ..
  | awlTeq => exact execAwlTeq_wf (h := h) (hw := hw) ..
  | awlTne => exact execAwlTne_wf (h := h) (hw := hw) ..
  | awlTltu => exact execAwlTltu_wf (h := h) (hw := hw) ..
  | awlTlts => exact execAwlTlts_wf (h := h) (hw := hw) ..
  | awlTgeu => exact execAwlTgeu_wf (h := h) (hw := hw) ..
  | awlTges => exact execAwlTges_wf (h := h) (hw := hw) ..
  | awlTz => exact execAwlTz_wf (h := h) (hw := hw) ..
  | awlTt => exact execAwlTt_wf (h := h) (hw := hw) ..
  | awlTeq2 => exact execAwlTeq2_wf (h := h) (hw := hw) ..
  | awlTltu2 => exact execAwlTltu2_wf (h := h) (hw := hw) ..
  | awlTin => exact execAwlTin_wf (h := h) (hw := hw) ..
  | awlTset => exact execAwlTset_wf (h := h) (hw := hw) ..
  | awlTclr => exact execAwlTclr_wf (h := h) (hw := hw) ..
  | awlRet => exact execAwlRet_wf (h := h) (hw := hw) ..
  | awlCalls => exact execAwlCalls_wf (h := h) (hw := hw) ..
  | awlJmps => exact execAwlJmps_wf (h := h) (hw := hw) ..
  | awlBr => exact execAwlBr_wf (h := h) (hw := hw) ..
  | awlCall => exact execAwlCall_wf (h := h) (hw := hw) ..
  | awlWait => exact execAwlWait_wf (h := h) (hw := hw) ..
  | engineWake => exact execEngineWake_wf (h := h) (hw := hw) ..
  | awlRett => exact execAwlRett_wf (h := h) (hw := hw) ..
  | awlTrap => exact execAwlTrap_wf (h := h) (hw := hw) ..
  | awlSync => exact execAwlSync_wf (h := h) (hw := hw) ..
  | awlMrx => exact execAwlMrx_wf (h := h) (hw := hw) ..
  | awlMtx => exact execAwlMtx_wf (h := h) (hw := hw) ..
  | awlLd => exact execAwlLd_wf (h := h) (hw := hw) ..
  | awlSt => exact execAwlSt_wf (h := h) (hw := hw) ..
  | awlLd2 => exact execAwlLd2_wf (h := h) (hw := hw) ..
  | awlSt2 => exact execAwlSt2_wf (h := h) (hw := hw) ..
  | awlLdz => exact execAwlLdz_wf (h := h) (hw := hw) ..
  | awlStz => exact execAwlStz_wf (h := h) (hw := hw) ..
  | awlLds => exact execAwlLds_wf (h := h) (hw := hw) ..
  | awlSts => exact execAwlSts_wf (h := h) (hw := hw) ..
  | awlFld => exact execAwlFld_wf (h := h) (hw := hw) ..
  | awlFst => exact execAwlFst_wf (h := h) (hw := hw) ..
  | awlVld => exact execAwlVld_wf (h := h) (hw := hw) ..
  | awlVst => exact execAwlVst_wf (h := h) (hw := hw) ..
  | awlCrc => exact execAwlCrc_wf (h := h) (hw := hw) ..
  | awlCommit => exact execAwlCommit_wf (h := h) (hw := hw) ..
  | awlRdrec => exact execAwlRdrec_wf (h := h) (hw := hw) ..
  | awlBfx => exact execAwlBfx_wf (h := h) (hw := hw) ..
  | awlBfi => exact execAwlBfi_wf (h := h) (hw := hw) ..
  | illegalWord => exact execIllegalWord_wf (h := h) (hw := hw) ..
  | fwRelease => exact execFwRelease_wf (h := h) (hw := hw) ..
  | fwHold => exact execFwHold_wf (h := h) (hw := hw) ..
  | fwRequeue => exact execFwRequeue_wf (h := h) (hw := hw) ..
  | fwAlloc => exact execFwAlloc_wf (h := h) (hw := hw) ..
  | fwSend => exact execFwSend_wf (h := h) (hw := hw) ..
  | fwDiscard => exact execFwDiscard_wf (h := h) (hw := hw) ..
  | signal => exact execSignal_wf (h := h) (hw := hw) ..
  | tmrWrite => exact execTmrWrite_wf (h := h) (hw := hw) ..
  | timerExpire => exact execTimerExpire_wf (h := h) (hw := hw) ..
  | mbxRx => exact execMbxRx_wf (h := h) (hw := hw) ..
  | mbxTx => exact execMbxTx_wf (h := h) (hw := hw) ..
  | crefused => exact execCrefused_wf (h := h) (hw := hw) ..
  | nowLatch => exact execNowLatch_wf (h := h) (hw := hw) ..
  | trapPcWrite => exact execTrapPcWrite_wf (h := h) (hw := hw) ..
  | storeDrain => exact execStoreDrain_wf (h := h) (hw := hw) ..
  | trapEntry => exact execTrapEntry_wf (h := h) (hw := hw) ..
  | fatalTrap => exact execFatalTrap_wf (h := h) (hw := hw) ..
  | runLimit => exact execRunLimit_wf (h := h) (hw := hw) ..
  | fetchUe => exact execFetchUe_wf (h := h) (hw := hw) ..
  | engineReset => exact execEngineReset_wf (h := h) (hw := hw) ..
  | clusterReset => exact execClusterReset_wf (h := h) (hw := hw) ..
  | engineResetDone => exact execEngineResetDone_wf (h := h) (hw := hw) ..
  | ibankTest => exact execIbankTest_wf (h := h) (hw := hw) ..
  | ibankClear => exact execIbankClear_wf (h := h) (hw := hw) ..
  | ibankReload => exact execIbankReload_wf (h := h) (hw := hw) ..
  | ibankDone => exact execIbankDone_wf (h := h) (hw := hw) ..
  | pduDeliver => exact execPduDeliver_wf (h := h) (hw := hw) ..
  | framingErr => exact execFramingErr_wf (h := h) (hw := hw) ..
  | tcpSynRefused => exact execTcpSynRefused_wf (h := h) (hw := hw) ..
  | commandTimeout => exact execCommandTimeout_wf (h := h) (hw := hw) ..
  | partialMessageTimeout => exact execPartialMessageTimeout_wf (h := h) (hw := hw) ..
  | frameReceive => exact execFrameReceive_wf (h := h) (hw := hw) ..
  | pauseExpire => exact execPauseExpire_wf (h := h) (hw := hw) ..
  | pauseWatchdog => exact execPauseWatchdog_wf (h := h) (hw := hw) ..
  | pauseHoldoffEnd => exact execPauseHoldoffEnd_wf (h := h) (hw := hw) ..
  | dupKeyExpire => exact execDupKeyExpire_wf (h := h) (hw := hw) ..
  | supervisionSend => exact execSupervisionSend_wf (h := h) (hw := hw) ..
  | linkUp => exact execLinkUp_wf (h := h) (hw := hw) ..
  | linkDown => exact execLinkDown_wf (h := h) (hw := hw) ..
  | restartAn => exact execRestartAn_wf (h := h) (hw := hw) ..
  | adminDown => exact execAdminDown_wf (h := h) (hw := hw) ..
  | egressSelect => exact execEgressSelect_wf (h := h) (hw := hw) ..
  | queueHeadArrive => exact execQueueHeadArrive_wf (h := h) (hw := hw) ..
  | txEnd => exact execTxEnd_wf (h := h) (hw := hw) ..
  | gateEntryChange => exact execGateEntryChange_wf (h := h) (hw := hw) ..
  | cutThroughStart => exact execCutThroughStart_wf (h := h) (hw := hw) ..
  | serialFrameReceive => exact execSerialFrameReceive_wf (h := h) (hw := hw) ..
  | uartFrameEnd => exact execUartFrameEnd_wf (h := h) (hw := hw) ..
  | serialTxStart => exact execSerialTxStart_wf (h := h) (hw := hw) ..
  | serialTxEnd => exact execSerialTxEnd_wf (h := h) (hw := hw) ..
  | serialFifoEnter => exact execSerialFifoEnter_wf (h := h) (hw := hw) ..
  | busOff => exact execBusOff_wf (h := h) (hw := hw) ..
  | recover => exact execRecover_wf (h := h) (hw := hw) ..
  | busOffRecoveryDone => exact execBusOffRecoveryDone_wf (h := h) (hw := hw) ..
  | abortHead => exact execAbortHead_wf (h := h) (hw := hw) ..
  | invLong => exact execInvLong_wf (h := h) (hw := hw) ..
  | detectStart => exact execDetectStart_wf (h := h) (hw := hw) ..
  | detectDone => exact execDetectDone_wf (h := h) (hw := hw) ..
  | go => exact execGo_wf (h := h) (hw := hw) ..
  | ttcanReferenceSend => exact execTtcanReferenceSend_wf (h := h) (hw := hw) ..
  | ttcanReferenceRx => exact execTtcanReferenceRx_wf (h := h) (hw := hw) ..
  | ttcanWatchExpire => exact execTtcanWatchExpire_wf (h := h) (hw := hw) ..
  | ttcanTrigger => exact execTtcanTrigger_wf (h := h) (hw := hw) ..
  | ttcanSyncLoss => exact execTtcanSyncLoss_wf (h := h) (hw := hw) ..
  | ttBufferLatch => exact execTtBufferLatch_wf (h := h) (hw := hw) ..
  | ttCellStart => exact execTtCellStart_wf (h := h) (hw := hw) ..
  | ttArbStep => exact execTtArbStep_wf (h := h) (hw := hw) ..
  | ttFrameReceive => exact execTtFrameReceive_wf (h := h) (hw := hw) ..
  | ttClockCorrection => exact execTtClockCorrection_wf (h := h) (hw := hw) ..
  | ttStateChange => exact execTtStateChange_wf (h := h) (hw := hw) ..
  | ttListenTimeout => exact execTtListenTimeout_wf (h := h) (hw := hw) ..
  | bridleViolation => exact execBridleViolation_wf (h := h) (hw := hw) ..
  | bridleReadmit => exact execBridleReadmit_wf (h := h) (hw := hw) ..
  | ttCut => exact execTtCut_wf (h := h) (hw := hw) ..
  | ttReadmit => exact execTtReadmit_wf (h := h) (hw := hw) ..
  | ttRestart => exact execTtRestart_wf (h := h) (hw := hw) ..
  | ttSend => exact execTtSend_wf (h := h) (hw := hw) ..
  | schedulerRound => exact execSchedulerRound_wf (h := h) (hw := hw) ..
  | captureRecord => exact execCaptureRecord_wf (h := h) (hw := hw) ..
  | ctUnderrun => exact execCtUnderrun_wf (h := h) (hw := hw) ..
  | commitQueueWaitEnd => exact execCommitQueueWaitEnd_wf (h := h) (hw := hw) ..
  | hcqWaitEnd => exact execHcqWaitEnd_wf (h := h) (hw := hw) ..
  | leakAudit => exact execLeakAudit_wf (h := h) (hw := hw) ..
  | tshRateWrite => exact execTshRateWrite_wf (h := h) (hw := hw) ..
  | servoMeasurement => exact execServoMeasurement_wf (h := h) (hw := hw) ..
  | sourceSelect => exact execSourceSelect_wf (h := h) (hw := hw) ..
  | accept => exact execAccept_wf (h := h) (hw := hw) ..
  | step => exact execStep_wf (h := h) (hw := hw) ..
  | relock => exact execRelock_wf (h := h) (hw := hw) ..
  | relockDone => exact execRelockDone_wf (h := h) (hw := hw) ..
  | stepInstant => exact execStepInstant_wf (h := h) (hw := hw) ..
  | ptpMessageTx => exact execPtpMessageTx_wf (h := h) (hw := hw) ..
  | captureEdge => exact execCaptureEdge_wf (h := h) (hw := hw) ..
  | ppsEdge => exact execPpsEdge_wf (h := h) (hw := hw) ..
  | irigFrame => exact execIrigFrame_wf (h := h) (hw := hw) ..
  | freqInputLoss => exact execFreqInputLoss_wf (h := h) (hw := hw) ..
  | sourceLossTimeout => exact execSourceLossTimeout_wf (h := h) (hw := hw) ..
  | pulseStart => exact execPulseStart_wf (h := h) (hw := hw) ..
  | pulseEnd => exact execPulseEnd_wf (h := h) (hw := hw) ..
  | pulseArm => exact execPulseArm_wf (h := h) (hw := hw) ..
  | clkoutFreqWrite => exact execClkoutFreqWrite_wf (h := h) (hw := hw) ..
  | laceStep => exact execLaceStep_wf (h := h) (hw := hw) ..
  | cueStart => exact execCueStart_wf (h := h) (hw := hw) ..
  | cueRephase => exact execCueRephase_wf (h := h) (hw := hw) ..
  | cueStartRephase => exact execCueStartRephase_wf (h := h) (hw := hw) ..
  | cueStop => exact execCueStop_wf (h := h) (hw := hw) ..
  | cueReset => exact execCueReset_wf (h := h) (hw := hw) ..
  | cueEdge => exact execCueEdge_wf (h := h) (hw := hw) ..
  | laceAutostart => exact execLaceAutostart_wf (h := h) (hw := hw) ..
  | lceInFifo => exact execLceInFifo_wf (h := h) (hw := hw) ..
  | lceOutFifo => exact execLceOutFifo_wf (h := h) (hw := hw) ..
  | lceLoopWrite => exact execLceLoopWrite_wf (h := h) (hw := hw) ..
  | lceDivWrite => exact execLceDivWrite_wf (h := h) (hw := hw) ..
  | lceFlagsWrite => exact execLceFlagsWrite_wf (h := h) (hw := hw) ..
  | bar0Access => exact execBar0Access_wf (h := h) (hw := hw) ..
  | bar4Access => exact execBar4Access_wf (h := h) (hw := hw) ..
  | portReset => exact execPortReset_wf (h := h) (hw := hw) ..
  | pageGather => exact execPageGather_wf (h := h) (hw := hw) ..
  | pageScatter => exact execPageScatter_wf (h := h) (hw := hw) ..
  | pageRelease => exact execPageRelease_wf (h := h) (hw := hw) ..
  | contextAllocate => exact execContextAllocate_wf (h := h) (hw := hw) ..
  | contextIdleExpire => exact execContextIdleExpire_wf (h := h) (hw := hw) ..
  | noticeWindowRd => exact execNoticeWindowRd_wf (h := h) (hw := hw) ..
  | mbxPgTx => exact execMbxPgTx_wf (h := h) (hw := hw) ..
  | mbxPgRx => exact execMbxPgRx_wf (h := h) (hw := hw) ..
  | mbxPgBell => exact execMbxPgBell_wf (h := h) (hw := hw) ..
  | dmaPiWrite => exact execDmaPiWrite_wf (h := h) (hw := hw) ..
  | dmaDescriptorStart => exact execDmaDescriptorStart_wf (h := h) (hw := hw) ..
  | dmaBurst => exact execDmaBurst_wf (h := h) (hw := hw) ..
  | dmaDescriptorEnd => exact execDmaDescriptorEnd_wf (h := h) (hw := hw) ..
  | dmaAbort => exact execDmaAbort_wf (h := h) (hw := hw) ..
  | dmaChReset => exact execDmaChReset_wf (h := h) (hw := hw) ..
  | dmaEnable => exact execDmaEnable_wf (h := h) (hw := hw) ..
  | circularRecord => exact execCircularRecord_wf (h := h) (hw := hw) ..
  | circularCrdWrite => exact execCircularCrdWrite_wf (h := h) (hw := hw) ..
  | hcqDrain => exact execHcqDrain_wf (h := h) (hw := hw) ..
  | storeBucketWaitEnd => exact execStoreBucketWaitEnd_wf (h := h) (hw := hw) ..
  | recordSubmit => exact execRecordSubmit_wf (h := h) (hw := hw) ..
  | markTick => exact execMarkTick_wf (h := h) (hw := hw) ..
  | timeEventMark => exact execTimeEventMark_wf (h := h) (hw := hw) ..
  | snapTake => exact execSnapTake_wf (h := h) (hw := hw) ..
  | snapRelease => exact execSnapRelease_wf (h := h) (hw := hw) ..
  | segmentClose => exact execSegmentClose_wf (h := h) (hw := hw) ..
  | flush => exact execFlush_wf (h := h) (hw := hw) ..
  | nvmeWriteDone => exact execNvmeWriteDone_wf (h := h) (hw := hw) ..
  | nvmeWriteTimeout => exact execNvmeWriteTimeout_wf (h := h) (hw := hw) ..
  | archiveRetryTimer => exact execArchiveRetryTimer_wf (h := h) (hw := hw) ..
  | arcRetry => exact execArcRetry_wf (h := h) (hw := hw) ..
  | arcAdopt => exact execArcAdopt_wf (h := h) (hw := hw) ..
  | ercAlarmClr => exact execErcAlarmClr_wf (h := h) (hw := hw) ..
  | lastGasp => exact execLastGasp_wf (h := h) (hw := hw) ..
  | lastGaspEnd => exact execLastGaspEnd_wf (h := h) (hw := hw) ..
  | bootContinuation => exact execBootContinuation_wf (h := h) (hw := hw) ..
  | clrNonce => exact execClrNonce_wf (h := h) (hw := hw) ..
  | nonceExpire => exact execNonceExpire_wf (h := h) (hw := hw) ..
  | clearGo => exact execClearGo_wf (h := h) (hw := hw) ..
  | bind => exact execBind_wf (h := h) (hw := hw) ..
  | unbind => exact execUnbind_wf (h := h) (hw := hw) ..
  | raiseSec => exact execRaiseSec_wf (h := h) (hw := hw) ..
  | attest => exact execAttest_wf (h := h) (hw := hw) ..
  | cmdActive => exact execCmdActive_wf (h := h) (hw := hw) ..
  | cmdTrim => exact execCmdTrim_wf (h := h) (hw := hw) ..
  | cmdRetain => exact execCmdRetain_wf (h := h) (hw := hw) ..
  | cmdOffWake => exact execCmdOffWake_wf (h := h) (hw := hw) ..
  | cmdCycle => exact execCmdCycle_wf (h := h) (hw := hw) ..
  | retainExit => exact execRetainExit_wf (h := h) (hw := hw) ..
  | vcoreCodeStep => exact execVcoreCodeStep_wf (h := h) (hw := hw) ..
  | vcoreSlow => exact execVcoreSlow_wf (h := h) (hw := hw) ..
  | adaptStep => exact execAdaptStep_wf (h := h) (hw := hw) ..
  | vcoreTargetWrite => exact execVcoreTargetWrite_wf (h := h) (hw := hw) ..
  | domainFence => exact execDomainFence_wf (h := h) (hw := hw) ..
  | domainDrainEnd => exact execDomainDrainEnd_wf (h := h) (hw := hw) ..
  | drainForced => exact execDrainForced_wf (h := h) (hw := hw) ..
  | domainRampDone => exact execDomainRampDone_wf (h := h) (hw := hw) ..
  | demandWake => exact execDemandWake_wf (h := h) (hw := hw) ..
  | demandIdleExpire => exact execDemandIdleExpire_wf (h := h) (hw := hw) ..
  | sentinelExpire => exact execSentinelExpire_wf (h := h) (hw := hw) ..
  | crossingResetAck => exact execCrossingResetAck_wf (h := h) (hw := hw) ..
  | wakeSource => exact execWakeSource_wf (h := h) (hw := hw) ..
  | railsGood => exact execRailsGood_wf (h := h) (hw := hw) ..
  | railGoodTimeout => exact execRailGoodTimeout_wf (h := h) (hw := hw) ..
  | railUndervoltage => exact execRailUndervoltage_wf (h := h) (hw := hw) ..
  | railUvTimeout => exact execRailUvTimeout_wf (h := h) (hw := hw) ..
  | xinLoss => exact execXinLoss_wf (h := h) (hw := hw) ..
  | powerOnReset => exact execPowerOnReset_wf (h := h) (hw := hw) ..
  | vaonLoss => exact execVaonLoss_wf (h := h) (hw := hw) ..
  | faultDetect => exact execFaultDetect_wf (h := h) (hw := hw) ..
  | reloadFail => exact execReloadFail_wf (h := h) (hw := hw) ..
  | pkgReset => exact execPkgReset_wf (h := h) (hw := hw) ..
  | resetNAssert => exact execResetNAssert_wf (h := h) (hw := hw) ..
  | resetNRelease => exact execResetNRelease_wf (h := h) (hw := hw) ..
  | rung4 => exact execRung4_wf (h := h) (hw := hw) ..
  | rung4OffExpire => exact execRung4OffExpire_wf (h := h) (hw := hw) ..
  | unitRstGo => exact execUnitRstGo_wf (h := h) (hw := hw) ..
  | wdogEn => exact execWdogEn_wf (h := h) (hw := hw) ..
  | wdogKick => exact execWdogKick_wf (h := h) (hw := hw) ..
  | wdogExpire => exact execWdogExpire_wf (h := h) (hw := hw) ..
  | qstall => exact execQstall_wf (h := h) (hw := hw) ..
  | safeNAssert => exact execSafeNAssert_wf (h := h) (hw := hw) ..
  | safeSet => exact execSafeSet_wf (h := h) (hw := hw) ..
  | safeClr => exact execSafeClr_wf (h := h) (hw := hw) ..
  | safeExit => exact execSafeExit_wf (h := h) (hw := hw) ..
  | alarmClr => exact execAlarmClr_wf (h := h) (hw := hw) ..
  | condClr => exact execCondClr_wf (h := h) (hw := hw) ..
  | tempConversion => exact execTempConversion_wf (h := h) (hw := hw) ..
  | tempCrit => exact execTempCrit_wf (h := h) (hw := hw) ..
  | pommelStatus => exact execPommelStatus_wf (h := h) (hw := hw) ..
  | pommelFaults => exact execPommelFaults_wf (h := h) (hw := hw) ..
  | pommelRead => exact execPommelRead_wf (h := h) (hw := hw) ..
  | pommelWrite => exact execPommelWrite_wf (h := h) (hw := hw) ..
  | pommelMbxPut => exact execPommelMbxPut_wf (h := h) (hw := hw) ..
  | pommelMbxGet => exact execPommelMbxGet_wf (h := h) (hw := hw) ..
  | pommelLoadBegin => exact execPommelLoadBegin_wf (h := h) (hw := hw) ..
  | pommelLoadData => exact execPommelLoadData_wf (h := h) (hw := hw) ..
  | pommelLoadEnd => exact execPommelLoadEnd_wf (h := h) (hw := hw) ..
  | pommelLoadTimeout => exact execPommelLoadTimeout_wf (h := h) (hw := hw) ..
  | pommelSafe => exact execPommelSafe_wf (h := h) (hw := hw) ..
  | pommelSafeExit => exact execPommelSafeExit_wf (h := h) (hw := hw) ..
  | pommelReset => exact execPommelReset_wf (h := h) (hw := hw) ..
  | pommelAlarmClr => exact execPommelAlarmClr_wf (h := h) (hw := hw) ..
  | weltPacketRx => exact execWeltPacketRx_wf (h := h) (hw := hw) ..
  | weltRetrain => exact execWeltRetrain_wf (h := h) (hw := hw) ..
  | weltRetrainDone => exact execWeltRetrainDone_wf (h := h) (hw := hw) ..
  | weltTraining => exact execWeltTraining_wf (h := h) (hw := hw) ..
  | weltCreditWaitEnd => exact execWeltCreditWaitEnd_wf (h := h) (hw := hw) ..
  | timeMessage => exact execTimeMessage_wf (h := h) (hw := hw) ..
  | reinMessageRx => exact execReinMessageRx_wf (h := h) (hw := hw) ..
  | reinReset => exact execReinReset_wf (h := h) (hw := hw) ..
  | reinLinkUp => exact execReinLinkUp_wf (h := h) (hw := hw) ..
  | reinBreak => exact execReinBreak_wf (h := h) (hw := hw) ..
  | reinStatusSend => exact execReinStatusSend_wf (h := h) (hw := hw) ..
  | timeSyncExchange => exact execTimeSyncExchange_wf (h := h) (hw := hw) ..
  | mgmtGo => exact execMgmtGo_wf (h := h) (hw := hw) ..
  | mgmtReq => exact execMgmtReq_wf (h := h) (hw := hw) ..
  | mgmtRsp => exact execMgmtRsp_wf (h := h) (hw := hw) ..
  | mgmtTimeout => exact execMgmtTimeout_wf (h := h) (hw := hw) ..
  | mirror => exact execMirror_wf (h := h) (hw := hw) ..
  | calUserWrite => exact execCalUserWrite_wf (h := h) (hw := hw) ..
  | bankHold => exact execBankHold_wf (h := h) (hw := hw) ..
  | bankHoldRelease => exact execBankHoldRelease_wf (h := h) (hw := hw) ..
  | elxPadWrite => exact execElxPadWrite_wf (h := h) (hw := hw) ..
  | registerWrite => exact execRegisterWrite_wf (h := h) (hw := hw) ..
  | readClear => exact execReadClear_wf (h := h) (hw := hw) ..
  | pcieLinkUp => exact execPcieLinkUp_wf (h := h) (hw := hw) ..
  | safeNRelease => exact execSafeNRelease_wf (h := h) (hw := hw) ..
  | islandPllUnlock => exact execIslandPllUnlock_wf (h := h) (hw := hw) ..
  | islandPllRelock => exact execIslandPllRelock_wf (h := h) (hw := hw) ..
  | freqInputReturn => exact execFreqInputReturn_wf (h := h) (hw := hw) ..
  | announceReceiptTimeout => exact execAnnounceReceiptTimeout_wf (h := h) (hw := hw) ..
  | autoNegotiationFail => exact execAutoNegotiationFail_wf (h := h) (hw := hw) ..
  | railRetry => exact execRailRetry_wf (h := h) (hw := hw) ..
  | reassemblyTimeout => exact execReassemblyTimeout_wf (h := h) (hw := hw) ..
  | branchActivity => exact execBranchActivity_wf (h := h) (hw := hw) ..

theorem step_of_empty {s : State} (h : s.pending = []) : step s = .next s.idle := by
  rw [step, h]

theorem step_of_command {s : State} {c : Instr} {r : List Instr} (h : s.pending = c :: r) :
    step s = exec c { s with pending := r } := by
  rw [step, h]

theorem step_wf {s t : State} (h : step s = .next t) (hw : Memory.wf s.mem = true) : Memory.wf t.mem = true := by
  cases hq : s.pending with
  | nil =>
    rw [step_of_empty hq] at h
    exact nextRes_wf h (keep_wf (State.idle_mem s) hw)
  | cons c r =>
    rw [step_of_command hq] at h
    exact exec_wf c { s with pending := r } t h hw

theorem State.reset_wf : Memory.wf State.reset.mem = true := rfl

theorem State.reset_byte (d off : Nat) : State.reset.byte d off = 0 := rfl

/-- Settles O3: the step takes a command or is idle, and both keep the form. -/
theorem vatFormKept : Obligations.VatFormKept := by
  unfold Obligations.VatFormKept
  exact fun _ _ hw h => step_wf h hw

/-- Settles O4: the Vat's table is empty at reset. -/
theorem vatAtReset : Obligations.VatAtReset := by
  unfold Obligations.VatAtReset
  exact ⟨State.reset_wf, State.reset_byte⟩

end Sys2Proof.Machine

/-! PROOFS. Refused accesses (O14): the registers that a violation counts in, signals in and is logged in (R156). -/

namespace Sys2Proof.Machine

theorem regKey_ne_of_off_ne (d : Nat) {r r' : Reg} (h : r.off ≠ r'.off) : regKey d r ≠ regKey d r' := by
  unfold regKey; omega

/-! ## The two halves of a violation -/

/-- A violation counted and signalled. -/
def State.violCounted (s : State) (d : Nat) : State := (s.count d F.VAT_VIOL_CNT_COUNT 1).putFlag d F.VAT_EVENT_VIOL true

/-- A violation captured in VAT_VIOL_LOG. -/
def State.violLogged (s : State) (d m t line : Nat) (write prot : Bool) : State :=
  (((((s.put d F.VAT_VIOL_LOG_MASTER m).put d F.VAT_VIOL_LOG_TARGET t).put d F.VAT_VIOL_LOG_LINE line).putFlag d
    F.VAT_VIOL_LOG_WRITE write).putFlag d F.VAT_VIOL_LOG_PROTECTED prot).putFlag d F.VAT_VIOL_LOG_VALID true

section
variable (s : State) (d m t line : Nat) (write prot : Bool)

theorem State.rd_violCounted {r : Reg} (hc : r.off ≠ R.VAT_VIOL_CNT.off) (he : r.off ≠ R.VAT_EVENT.off) :
    (s.violCounted d).rd d r = s.rd d r :=
  (State.rd_put_ne _ _ _ _ _ _ (regKey_ne_of_off_ne d he)).trans (State.rd_put_ne _ _ _ _ _ _ (regKey_ne_of_off_ne d hc))

theorem State.violCounted_counts : Counted s (s.violCounted d) d F.VAT_VIOL_CNT_COUNT 1 :=
  (State.get_put_reg_ne _ _ _ _ _ _ (regKey_ne_of_off_ne d (by decide))).trans
    (State.get_count_same s d F.VAT_VIOL_CNT_COUNT 1 (by decide) (by decide))

theorem State.violCounted_signals : (s.violCounted d).flag d F.VAT_EVENT_VIOL = true :=
  State.flag_putFlag_same _ _ _ _ (by decide) (by decide)

theorem State.rd_violLogged {r : Reg} (h : r.off ≠ R.VAT_VIOL_LOG.off) :
    (s.violLogged d m t line write prot).rd d r = s.rd d r := by
  have hkey : regKey d r ≠ regKey d R.VAT_VIOL_LOG := regKey_ne_of_off_ne d h
  simp only [violLogged, putFlag]
  repeat rw [State.rd_put_ne _ _ _ _ _ _ hkey]

/-- The fields of VAT_VIOL_LOG lie apart, so each keeps what was captured in it. -/
theorem State.violLogged_fields (hm : m < 64) (ht : t < 8) (hl : line < 2 ^ 18) :
    let u := s.violLogged d m t line write prot
    u.get d F.VAT_VIOL_LOG_MASTER = m ∧ u.get d F.VAT_VIOL_LOG_TARGET = t ∧ u.get d F.VAT_VIOL_LOG_LINE = line ∧
      u.flag d F.VAT_VIOL_LOG_WRITE = write ∧ u.flag d F.VAT_VIOL_LOG_PROTECTED = prot := by
  have hlow : ∀ b : Bool, (bit b % 2 != 0) = b := by decide
  simp (disch := decide) only [violLogged, flag, putFlag, State.get_put_field_ne, State.get_put_same]
  exact ⟨Nat.mod_eq_of_lt hm, Nat.mod_eq_of_lt ht, Nat.mod_eq_of_lt hl, hlow write, hlow prot⟩

/-- A refused access is counted and signalled, and captured unless a capture is held (R156). -/
theorem State.vatViolation_eq : s.vatViolation d m t line write prot =
    if s.flag d F.VAT_VIOL_LOG_VALID then s.violCounted d else (s.violCounted d).violLogged d m t line write prot := by
  have hvalid : (s.violCounted d).flag d F.VAT_VIOL_LOG_VALID = s.flag d F.VAT_VIOL_LOG_VALID := by
    rw [flag, flag, get, get, State.rd_violCounted s d (by decide) (by decide)]
  rw [← hvalid]
  rfl

/-- Every register but VAT_VIOL_LOG is as counting and signalling leave it. -/
theorem State.rd_vatViolation {r : Reg} (h : r.off ≠ R.VAT_VIOL_LOG.off) :
    (s.vatViolation d m t line write prot).rd d r = (s.violCounted d).rd d r := by
  rw [State.vatViolation_eq]
  split
  · rfl
  · exact State.rd_violLogged _ _ _ _ _ _ _ h

theorem State.vatViolation_counts : Counted s (s.vatViolation d m t line write prot) d F.VAT_VIOL_CNT_COUNT 1 := by
  rw [Counted, State.get, State.rd_vatViolation _ _ _ _ _ _ _ (by decide)]
  exact State.violCounted_counts s d

theorem State.vatViolation_signals : (s.vatViolation d m t line write prot).flag d F.VAT_EVENT_VIOL = true := by
  rw [State.flag, State.get, State.rd_vatViolation _ _ _ _ _ _ _ (by decide)]
  exact State.violCounted_signals s d

theorem State.vatViolation_keeps_held_log (h : s.flag d F.VAT_VIOL_LOG_VALID = true) :
    (s.vatViolation d m t line write prot).rd d R.VAT_VIOL_LOG = s.rd d R.VAT_VIOL_LOG := by
  rw [State.vatViolation_eq, if_pos h, State.rd_violCounted s d (by decide) (by decide)]

theorem State.vatViolation_of_free_log (h : s.flag d F.VAT_VIOL_LOG_VALID = false) :
    s.vatViolation d m t line write prot = (s.violCounted d).violLogged d m t line write prot := by
  rw [State.vatViolation_eq, h]
  rfl

end

theorem State.vatAllowed_of_refused {s : State} {d m t off n line : Nat} {write prot : Bool}
    (h : s.firstRefused d m t off n write = some (line, prot)) :
    s.vatAllowed d m t off n write = (false, s.vatViolation d m t line write prot) := by
  rw [State.vatAllowed, h]

/-- Before a first image every byte-addressed access is refused (R155), and no capture is held: O14's premises at reset. -/
theorem vatRefusal_premises_at_reset : State.reset.firstRefused 0 3 4 0xE00100 2 true = some (0x38004, false) ∧
    State.reset.flag 0 F.VAT_VIOL_LOG_VALID = false := by decide

/-- Settles O14: a refused access answers with its violation, which changes registers only. -/
theorem vatRefusal : Obligations.VatRefusal := by
  unfold Obligations.VatRefusal
  intro s m d t off n write l prot h
  rw [State.vatAllowed_of_refused h]
  refine ⟨rfl, State.vatViolation_mem _ _ _ _ _ _ _, State.vatViolation_counts _ _ _ _ _ _ _,
    State.vatViolation_signals _ _ _ _ _ _ _, State.vatViolation_keeps_held_log _ _ _ _ _ _ _, ?captured⟩
  case captured =>
    rintro ⟨hfree, hm, hl⟩
    dsimp only
    rw [State.vatViolation_of_free_log _ _ _ _ _ _ _ hfree]
    exact State.violLogged_fields _ _ _ _ _ _ _ hm t.isLt hl

end Sys2Proof.Machine

/-! PROOFS. The SECDED code (O6), by the argument of R889's decoding table: the columns are distinct and of odd weight, so the XOR of
two of them has even, non-zero weight and is the column of no bit. -/

namespace Sys2Proof.Machine

/-! ## The columns of the check matrix -/

theorem eccColumn_weight_odd : ∀ i : Fin 72, weight8 (eccColumn i) % 2 = 1 := by decide +kernel

theorem eccColumn_injective : ∀ i j : Fin 72, eccColumn i = eccColumn j → i = j := by decide +kernel

theorem weight8_xor (x y : Nat) : weight8 (x ^^^ y) % 2 = (weight8 x + weight8 y) % 2 := by
  simp only [weight8, Nat.testBit_xor]
  induction List.range 8 with
  | nil => rfl
  | cons i l ih =>
    simp only [List.filter_cons]
    cases x.testBit i <;> cases y.testBit i <;> simp <;> omega

theorem eq_of_xor_eq_zero {x y : Nat} (h : x ^^^ y = 0) : x = y :=
  calc x = (x ^^^ y) ^^^ y := by rw [Nat.xor_assoc, Nat.xor_self, Nat.xor_zero]
    _ = y := by rw [h, Nat.zero_xor]

theorem eccColumn_ne_zero (i : Fin 72) : eccColumn i ≠ 0 := by
  intro h
  have hodd := eccColumn_weight_odd i
  rw [h] at hodd
  exact absurd hodd (by decide)

theorem eccColumn_ne_xor (i j k : Fin 72) : eccColumn k ≠ eccColumn i ^^^ eccColumn j := by
  intro h
  have hsum := weight8_xor (eccColumn i) (eccColumn j)
  have hi := eccColumn_weight_odd i
  have hj := eccColumn_weight_odd j
  have hk := eccColumn_weight_odd k
  rw [← h] at hsum
  omega

/-! ## Syndromes -/

/-- The syndrome of the low `n` bits of an error mask: the XOR of their columns. -/
def syndromeBelow (mask n : Nat) : Nat :=
  (List.range n).foldl (fun a i => if mask.testBit i then a ^^^ eccColumn i else a) 0

theorem eccSyndrome_eq_below (mask : Nat) : eccSyndrome mask = syndromeBelow mask 72 := rfl

theorem syndromeBelow_succ (mask n : Nat) : syndromeBelow mask (n + 1) =
    if mask.testBit n then syndromeBelow mask n ^^^ eccColumn n else syndromeBelow mask n := by
  simp [syndromeBelow, List.range_succ]

/-- Errors that meet in a word add their syndromes by XOR. -/
theorem syndromeBelow_xor (a b n : Nat) : syndromeBelow (a ^^^ b) n = syndromeBelow a n ^^^ syndromeBelow b n := by
  induction n with
  | zero => simp [syndromeBelow]
  | succ n ih =>
    have hleft (x y c : Nat) : (x ^^^ y) ^^^ c = (x ^^^ c) ^^^ y := by ac_rfl
    have hboth (x y c : Nat) : (x ^^^ c) ^^^ (y ^^^ c) = x ^^^ y := by
      rw [show (x ^^^ c) ^^^ (y ^^^ c) = (x ^^^ y) ^^^ (c ^^^ c) by ac_rfl, Nat.xor_self, Nat.xor_zero]
    simp only [syndromeBelow_succ, ih, Nat.testBit_xor]
    cases a.testBit n <;> cases b.testBit n
    case false.false => rfl
    case false.true => exact Nat.xor_assoc _ _ _
    case true.false => exact hleft _ _ _
    case true.true => exact (hboth _ _ _).symm

theorem syndromeBelow_two_pow (i n : Nat) : syndromeBelow (2 ^ i) n = if i < n then eccColumn i else 0 := by
  induction n with
  | zero => rfl
  | succ n ih =>
    rw [syndromeBelow_succ, ih, Nat.testBit_two_pow]
    obtain h | rfl | h := Nat.lt_trichotomy i n
    · simp only [h, Nat.ne_of_lt h, Nat.lt_succ_of_lt h, decide_false, Bool.false_eq_true, ↓reduceIte]
    · simp only [decide_true, Nat.lt_irrefl, Nat.lt_succ_self, ↓reduceIte, Nat.zero_xor]
    · simp only [Nat.ne_of_gt h, Nat.not_lt_of_gt h, Nat.not_lt.2 (Nat.succ_le_of_lt h), decide_false, Bool.false_eq_true, ↓reduceIte]

theorem syndromeBelow_no_error (n : Nat) : syndromeBelow 0 n = 0 := by
  induction n with
  | zero => rfl
  | succ n ih => simp only [syndromeBelow_succ, Nat.zero_testBit, Bool.false_eq_true, ↓reduceIte, ih]

theorem eccSyndrome_zero : eccSyndrome 0 = 0 := syndromeBelow_no_error 72

theorem eccSyndrome_two_pow (i : Fin 72) : eccSyndrome (2 ^ i.val) = eccColumn i := by
  rw [eccSyndrome_eq_below, syndromeBelow_two_pow, if_pos i.isLt]

theorem two_pow_add_two_pow_of_lt {i j : Nat} (h : i < j) : 2 ^ i + 2 ^ j = 2 ^ i ^^^ 2 ^ j := by
  have hor := Nat.two_pow_add_eq_or_of_lt (Nat.pow_lt_pow_right Nat.one_lt_two h) 1
  rw [Nat.mul_one, Nat.add_comm] at hor
  rw [hor]
  apply Nat.eq_of_testBit_eq
  intro k
  simp only [Nat.testBit_or, Nat.testBit_xor, Nat.testBit_two_pow]
  by_cases hi : i = k
  · simp only [← hi, Nat.ne_of_gt h, decide_true, decide_false, Bool.or_true, Bool.xor_false]
  · simp only [hi, decide_false, Bool.or_false, Bool.false_xor]

theorem eccSyndrome_two_errors {i j : Fin 72} (h : i < j) :
    eccSyndrome (2 ^ i.val + 2 ^ j.val) = eccColumn i ^^^ eccColumn j := by
  rw [two_pow_add_two_pow_of_lt h, eccSyndrome_eq_below, syndromeBelow_xor, ← eccSyndrome_eq_below,
    ← eccSyndrome_eq_below, eccSyndrome_two_pow, eccSyndrome_two_pow]

/-! ## Decoding -/

theorem firstIdx_eq_findIdx? {α : Type} (p : α → Bool) (l : List α) : firstIdx p l = l.findIdx? p := by
  induction l with
  | nil => rfl
  | cons a l ih => simp [firstIdx, List.findIdx?_cons, ih]

theorem eccBit_eccColumn (i : Fin 72) : eccBit (eccColumn i) = some i.val := by
  rw [eccBit, firstIdx_eq_findIdx?, List.findIdx?_eq_some_iff_getElem]
  refine ⟨by simp, by simp, fun j hj hcol => ?_⟩
  have heq := eccColumn_injective ⟨j, by omega⟩ i (by simpa using hcol)
  exact absurd (congrArg Fin.val heq) (Nat.ne_of_lt hj)

theorem eccBit_eq_none {syn : Nat} (h : ∀ i : Fin 72, eccColumn i ≠ syn) : eccBit syn = none := by
  rw [eccBit, firstIdx_eq_findIdx?, List.findIdx?_eq_none_iff]
  intro i hi
  simpa using h ⟨i, List.mem_range.mp hi⟩

theorem eccDecode_of_syndrome_zero {mask : Nat} (h : eccSyndrome mask = 0) : (eccDecode mask).1 = .clean := by
  simp [eccDecode, h]

/-- A syndrome that is the column of a bit: that bit is corrected. -/
theorem eccDecode_of_syndrome_column {mask : Nat} {i : Fin 72} (h : eccSyndrome mask = eccColumn i) :
    eccDecode mask = (.corrected, eccColumn i, (mask ^^^ 2 ^ i.val) % 2 ^ 64) := by
  simp [eccDecode, h, eccColumn_ne_zero, eccBit_eccColumn]

theorem eccDecode_of_syndrome_no_column {mask : Nat} (h0 : eccSyndrome mask ≠ 0)
    (h : ∀ i : Fin 72, eccColumn i ≠ eccSyndrome mask) : (eccDecode mask).1 = .uncorrectable := by
  simp [eccDecode, h0, eccBit_eq_none h]

/-- A single error is corrected, and nothing of it remains in the data delivered. -/
theorem eccDecode_two_pow (i : Fin 72) : eccDecode (2 ^ i.val) = (.corrected, eccColumn i, 0) := by
  rw [eccDecode_of_syndrome_column (eccSyndrome_two_pow i), Nat.xor_self, Nat.zero_mod]

theorem eccDecode_two_errors {i j : Fin 72} (h : i < j) : (eccDecode (2 ^ i.val + 2 ^ j.val)).1 = .uncorrectable := by
  apply eccDecode_of_syndrome_no_column <;> rw [eccSyndrome_two_errors h]
  · intro hzero
    exact Fin.ne_of_lt h (eccColumn_injective i j (eq_of_xor_eq_zero hzero))
  · exact eccColumn_ne_xor i j

/-- Settles O6: the syndrome is 0 without an error, one column for a single error, and no column for a double one. -/
theorem secdedCode : Obligations.SecdedCode := by
  unfold Obligations.SecdedCode
  refine ⟨eccDecode_of_syndrome_zero eccSyndrome_zero, fun i => ?single, fun i j h => eccDecode_two_errors h⟩
  case single => simp [eccDecode_two_pow i]

end Sys2Proof.Machine

/-! PROOFS. STALE at a read of a record (O13): the quality byte of the record in a slot is byte 28, and the deadline that the port
compares for it is the DEADLINE field of the record as the same read delivers it (R184, R211). -/

namespace Sys2Proof.Machine

/-! ## The bytes of a checked read -/

@[simp] theorem State.eccBytes_length (s : State) (d off n : Nat) : (s.eccBytes d off n).length = n := by
  induction n generalizing off with
  | zero => rfl
  | succ n ih => simp [State.eccBytes, ih]

@[simp] theorem State.eccBytes_getElem (s : State) (d off n i : Nat) (h : i < (s.eccBytes d off n).length) :
    (s.eccBytes d off n)[i] = s.eccByte d (off + i) := by
  induction n generalizing off i with
  | zero => cases h
  | succ n ih =>
    cases i with
    | zero => rfl
    | succ i => simp [State.eccBytes, ih, Nat.add_comm 1, Nat.add_assoc]

theorem State.eccBytes_append (s : State) (d off k n : Nat) :
    s.eccBytes d off (k + n) = s.eccBytes d off k ++ s.eccBytes d (off + k) n := by
  induction k generalizing off with
  | zero => simp [State.eccBytes]
  | succ k ih => rw [Nat.succ_add, State.eccBytes, ih, Nat.add_right_comm off, Nat.add_assoc off]; rfl

/-- A field of a read: the bytes from its offset on. -/
theorem State.eccBytes_field (s : State) (d off : Nat) {k w n : Nat} (h : k + w ≤ n) :
    ((s.eccBytes d off n).drop k).take w = s.eccBytes d (off + k) w := by
  obtain ⟨m, rfl⟩ := Nat.exists_eq_add_of_le h
  rw [Nat.add_assoc, State.eccBytes_append, List.drop_left' (State.eccBytes_length ..), State.eccBytes_append,
    List.take_left' (State.eccBytes_length ..)]

/-- A byte of a read through the port: the stored byte at its offset as the port delivers it. -/
theorem State.portRead_getD (s : State) (d off source lead : Nat) {i n : Nat} (h : i < n) :
    (s.portRead d off n source lead).1.getD i 0 = s.portByte d lead (off + i) (s.eccByte d (off + i)) := by
  simp [State.portRead, State.vatRead, List.zip, h]

/-! ## The STALE bit -/

theorem isStale_eq (now lead deadline : Nat) :
    isStale now lead deadline = (decide (deadline ≠ 0xFFFFFFFFFFFFFFFF) && decide (deadline ≤ now + lead)) := by
  rw [Bool.eq_iff_iff]
  simp only [isStale, Bool.and_eq_true, bne_iff_ne, decide_eq_true_eq, ge_iff_le]

/-- The quality byte of a slot's record lies in the record area, at byte 28 of 32. -/
theorem recOff_quality {slot : Nat} (h : slot < 0x20000) :
    inRecords (recOff slot + 28) = true ∧ (recOff slot + 28) % 32 = 28 := by
  unfold recOff
  exact ⟨decide_eq_true (by omega), by omega⟩

/-- The bit that the port writes over a stored quality byte: the stored STALE is masked out. -/
theorem staleBit_of_masked (b : Byte) (v : Bool) : ((b &&& 0xFD#8) ||| BitVec.ofNat 8 (2 * bit v)).getLsbD 1 = v := by
  have hmask : (0xFD#8).getLsbD 1 = false := by decide
  have hbit : (BitVec.ofNat 8 (2 * bit v)).getLsbD 1 = v := by cases v <;> decide
  rw [BitVec.getLsbD_or, BitVec.getLsbD_and, hmask, hbit, Bool.and_false, Bool.false_or]

theorem State.portByte_stale (s : State) (d lead : Nat) {off : Nat} (b : Byte) (h : inRecords off = true ∧ off % 32 = 28) :
    (s.portByte d lead off b).getLsbD 1 = isStale (s.now d) lead (leNat (s.eccBytes d (off - 12) 8)) := by
  rw [State.portByte, if_pos h, staleBit_of_masked]

/-- Settles O13: byte 28 of the read is the record's quality byte, and the eight bytes that begin 12 before it are its DEADLINE. -/
theorem staleAtRead : Obligations.StaleAtRead := by
  unfold Obligations.StaleAtRead
  intro s d slot source lead hslot
  have hdeadline : ((s.eccBytes d (recOff slot) 32).drop 16).take 8 = s.eccBytes d (recOff slot + 28 - 12) 8 :=
    s.eccBytes_field d (recOff slot) (by decide)
  dsimp only
  rw [s.portRead_getD d (recOff slot) source lead (by decide), s.portByte_stale d lead _ (recOff_quality hslot), isStale_eq,
    hdeadline]

end Sys2Proof.Machine

/-! PROOFS. How an instruction of a ready engine answers (R296 to R299, R304): its body runs on its own engine, and where the body
only rewrites the engine's entry, the rest of the state is left alone. The Awl obligations are settled through the two rules
`answers_of_checked` and `answers_of_alu`. -/

namespace Sys2Proof.Machine

/-! ## Answers -/

theorem Answers.imp {i : Instr} {s : State} {p q : State → Prop} (h : Answers i s p) (hpq : ∀ t, p t → q t) : Answers i s q := by
  obtain ⟨t, hexec, hp⟩ := h
  exact ⟨t, hexec, hpq t hp⟩

theorem onDie_of_live {s : State} {d : Nat} (h : Live s d) (k : State) : onDie s d k = .next k := by
  obtain ⟨hd, hpow⟩ := h
  rw [onDie, if_pos hd, if_pos hpow]

/-! ## The end of an instruction -/

@[simp] theorem State.eng_endInstr_same (s : State) (d e pc : Nat) :
    (s.endInstr d e pc).eng d e = { (s.eng d e).mulTick with pc := pc } := State.eng_modEng_same s d e _

/-- An engine's entry rewritten and the instruction ended: nothing else differs. -/
theorem engineOnly_endInstr (s : State) (d e : Nat) (g : Eng) (pc : Nat) :
    EngineOnly s ((s.setEng d e g).endInstr d e pc) d e { g.mulTick with pc := pc } := by
  refine ⟨by simp, fun d' e' hne => ?others, rfl⟩
  case others => rw [State.endInstr, State.modEng, State.eng_setEng_ne _ _ _ _ _ _ hne, State.eng_setEng_ne _ _ _ _ _ _ hne]

/-! ## Instructions of a ready engine -/

theorem ite_some_eq_none_iff {α : Type} {p : Prop} [Decidable p] {a : α} {o : Option α} :
    (if p then some a else o) = none ↔ ¬p ∧ o = none := by
  by_cases hp : p
  · rw [if_pos hp]
    exact ⟨fun h => (nomatch h), fun h => absurd hp h.1⟩
  · rw [if_neg hp]
    exact ⟨fun h => ⟨hp, h⟩, fun h => h.2⟩

theorem Eng.stackCheck_eq_none {g : Eng} {pops pushes rpops rpushes : Nat} :
    g.stackCheck pops pushes rpops rpushes = none ↔
      pops ≤ g.ds.length ∧ g.ds.length - pops + pushes ≤ 16 ∧ rpops ≤ g.rs.length ∧ g.rs.length - rpops + rpushes ≤ 16 := by
  rw [Eng.stackCheck, ite_some_eq_none_iff, ite_some_eq_none_iff, ite_some_eq_none_iff, ite_some_eq_none_iff, Nat.not_lt,
    Nat.not_lt, Nat.not_lt, Nat.not_lt, eq_self, and_true]

section
variable {s : State} {d : Die} {e : Engine} {c : Fin 8} {i : Instr} {pops pushes rpops rpushes : Nat}

/-- Power, the engine's state, a waiting failure, the fetch and the condition let the body run (R285, R296 to R299). -/
theorem awlInstr_of_ready (h : Ready s d e c) (body : State → AwlOut) : awlInstr d e c body s = .next (s.runBody d e body) := by
  obtain ⟨⟨hlive, hruns, hpend, hfetch⟩, hcond, -⟩ := h
  simp [awlInstr, awlGuard, onDie_of_live hlive, hruns, hpend, hfetch, hcond]

/-- A body that goes on, on stacks that pass the checks. -/
theorem exec_of_checked {k : Eng → State → AwlOut} {u : State} {pc : Nat} (h : Ready s d e c)
    (hi : exec i s = awlInstr d e c (checked d e pops pushes rpops rpushes k) s)
    (hc : (s.eng d e).stackCheck pops pushes rpops rpushes = none) (hk : k (s.eng d e) s = .next u pc) :
    exec i s = .next (u.endInstr d e pc) := by
  rw [hi, awlInstr_of_ready h, State.runBody, checked, hc, hk]

/-- An instruction that only rewrites its engine: `g` is what the body makes of the entry. -/
theorem answers_of_checked {u : Eng → Eng} (g : Eng) (h : Ready s d e c)
    (hi : exec i s =
      awlInstr d e c (checked d e pops pushes rpops rpushes fun g s => .next (s.setEng d e (u g)) g.pcNext) s)
    (hc : (s.eng d e).stackCheck pops pushes rpops rpushes = none) (hu : u (s.eng d e) = g) :
    Answers i s fun t => EngineOnly s t d e { g.mulTick with pc := (s.eng d e).pcNext } :=
  ⟨_, exec_of_checked h hi hc rfl, hu ▸ engineOnly_endInstr s d e _ _⟩

/-- An instruction on the operand stack and the flags alone: `top` are the entries that it pops, `res` those that it pushes. -/
theorem answers_of_alu {f : List W16 → Flags → List W16 × Flags} {rest : List W16} {fl : Flags} (top res : List W16)
    (h : Ready s d e c) (hi : exec i s = awlInstr d e c (aluBody d e pops pushes f) s) (hds : (s.eng d e).ds = top ++ rest)
    (hroom : Room rest pushes) (hf : f top (s.eng d e).fl = (res, fl)) (hpops : top.length = pops := by rfl) :
    Answers i s fun t =>
      EngineOnly s t d e { (s.eng d e).mulTick with ds := res ++ rest, fl := fl, pc := (s.eng d e).pcNext } := by
  have hrs : (s.eng d e).rs.length ≤ 16 := h.2.2
  have hc : (s.eng d e).stackCheck pops pushes 0 0 = none :=
    Eng.stackCheck_eq_none.mpr ⟨by simp [hds, hpops], by simpa [hds, hpops] using hroom, Nat.zero_le _, hrs⟩
  refine answers_of_checked { s.eng d e with ds := res ++ rest, fl := fl } h hi hc ?_
  rw [hds, List.take_left' hpops, List.drop_left' hpops, hf]

/-- The same for an instruction that pushes no more than it pops: a stack within its depth stays so. -/
theorem answers_of_alu_within {f : List W16 → Flags → List W16 × Flags} {rest : List W16} {fl : Flags} (top res : List W16)
    (h : Ready s d e c) (hlen : (s.eng d e).ds.length ≤ 16) (hi : exec i s = awlInstr d e c (aluBody d e pops pushes f) s)
    (hds : (s.eng d e).ds = top ++ rest) (hf : f top (s.eng d e).fl = (res, fl)) (hpops : top.length = pops := by rfl)
    (hle : pushes ≤ pops := by decide) :
    Answers i s fun t =>
      EngineOnly s t d e { (s.eng d e).mulTick with ds := res ++ rest, fl := fl, pc := (s.eng d e).pcNext } := by
  refine answers_of_alu top res h hi hds ?room hf hpops
  case room =>
    rw [hds, List.length_append] at hlen
    exact (by omega : rest.length + pushes ≤ 16)

end

/-! ## The premises are met -/

/-- A package after reset in which engine 0 of die 0 runs with the given stacks. -/
def runningEngine (ds rs : List W16) : State := State.reset.setEng 0 0 { Eng.power with st := .run, ds := ds, rs := rs }

theorem runningEngine_ds (ds rs : List W16) : ((runningEngine ds rs).eng (0 : Die) (0 : Engine)).ds = ds := by
  simp [runningEngine]

/-- The premises of the Awl obligations hold for every return stack within its depth. -/
theorem runningEngine_ready (ds rs : List W16) (hrs : rs.length ≤ 16) : Ready (runningEngine ds rs) (0 : Die) (0 : Engine) 0 := by
  have heng : (runningEngine ds rs).eng (0 : Die) (0 : Engine) = { Eng.power with st := .run, ds := ds, rs := rs } :=
    State.eng_setEng_same _ _ _ _
  have hlive : Live (runningEngine ds rs) (0 : Die) := ⟨by simp [runningEngine, State.reset_dieCount], rfl⟩
  refine ⟨⟨hlive, ?_, ?_, rfl⟩, rfl, ?_⟩ <;> rw [heng]
  · rfl
  · rfl
  · exact hrs

end Sys2Proof.Machine

/-! PROOFS. The stack operations and the literals (O7, O8, O15). -/

namespace Sys2Proof.Machine

theorem shiftLeft_or_ofNat (x : W16) {n : Nat} (hn : n < 16) :
    (x <<< 4) ||| BitVec.ofNat 16 n = BitVec.ofNat 16 (x.toNat * 16 + n) := by
  have hshift : x <<< 4 = BitVec.ofNat 16 (2 ^ 4 * x.toNat) := by bv_omega
  rw [Nat.mul_comm, Nat.two_pow_add_eq_or_of_lt (i := 4) hn, BitVec.ofNat_or, hshift]

/-- Settles O7: the literal pushes OP sign-extended, which keeps OP's value. -/
theorem awlLiteralWord : Obligations.AwlLiteralWord := by
  unfold Obligations.AwlLiteralWord
  intro s d e c op ⟨h, hroom⟩
  have hvalue : (op.signExtend 16).toInt = op.toInt := BitVec.toInt_signExtend_of_le (by decide)
  have hlow := op.le_toInt
  have hhigh := op.toInt_lt
  refine ⟨by omega, by omega, hvalue, ?answers⟩
  case answers =>
    refine (answers_of_alu [] [op.signExtend 16] h rfl rfl hroom rfl).imp fun t ⟨heng, _⟩ => ?_
    rw [heng]
    exact ⟨rfl, rfl⟩

/-- Settles O8: x shifted by four bits leaves room for n. -/
theorem awlLitxWord : Obligations.AwlLitxWord := by
  unfold Obligations.AwlLitxWord
  intro s d e c n x rest ⟨h, hds, hroom⟩
  refine (answers_of_alu [x] [(x <<< 4) ||| BitVec.ofNat 16 n] h rfl hds hroom rfl).imp fun t ⟨heng, _⟩ => ?_
  rw [heng, shiftLeft_or_ofNat x n.isLt]
  rfl

/-- Settles O15: each operation by the entries that it pops and pushes; `tor`, `fromr`, `rfetch` and `pick` by the checks of both
stacks. -/
theorem awlStackOperations : Obligations.AwlStackOperations := by
  unfold Obligations.AwlStackOperations
  intro s d e c rest a b x y z h g goes
  have hrs : g.rs.length ≤ 16 := h.2.2
  refine ⟨fun ⟨hds, hroom⟩ => answers_of_alu [] [] h rfl hds hroom rfl,
    fun ⟨hds, hroom⟩ => answers_of_alu [x] [] h rfl hds hroom rfl,
    fun ⟨hds, hroom⟩ => answers_of_alu [x] [x, x] h rfl hds hroom rfl,
    fun ⟨hds, hroom⟩ => answers_of_alu [b, a] [a, b] h rfl hds hroom rfl,
    fun ⟨hds, hroom⟩ => answers_of_alu [b, a] [a, b, a] h rfl hds hroom rfl,
    fun ⟨hds, hroom⟩ => answers_of_alu [z, y, x] [x, z, y] h rfl hds hroom rfl,
    fun ⟨hds, hroom⟩ => answers_of_alu [b, a] [b] h rfl hds hroom rfl,
    fun ⟨hds, hroom⟩ => answers_of_alu [b, a] [b, a, b] h rfl hds hroom rfl,
    fun ⟨hds, hroom⟩ => answers_of_alu [y, x] [] h rfl hds hroom rfl,
    fun ⟨hds, hroom⟩ => answers_of_alu [y, x] [y, x, y, x] h rfl hds hroom rfl,
    fun ⟨hds, hroom⟩ => answers_of_alu [z, y, b, a] [b, a, z, y, b, a] h rfl hds hroom rfl,
    fun ⟨hds, hroom⟩ => answers_of_alu [z, y, b, a] [b, a, z, y] h rfl hds hroom rfl,
    fun ⟨hds, hroom, hdepth⟩ => ?tor, fun rr ⟨hds, hroom, hr⟩ => ?fromr, fun rr ⟨hds, hroom, hr⟩ => ?rfetch,
    fun n ⟨hds, hroom, hx⟩ => ?pick⟩
  case tor =>
    have hc : g.stackCheck 1 0 0 1 = none := Eng.stackCheck_eq_none.mpr (by rw [hds, List.length_cons]; omega)
    exact answers_of_checked { g with ds := rest, rs := x :: g.rs } h rfl hc (by rw [hds]; rfl)
  case fromr =>
    have hc : g.stackCheck 0 1 1 0 = none := Eng.stackCheck_eq_none.mpr (by rw [hr, List.length_cons] at hrs ⊢; rw [hds]; omega)
    exact answers_of_checked { g with ds := x :: rest, rs := rr } h rfl hc (by rw [hds, hr]; rfl)
  case rfetch =>
    have hc : g.stackCheck 0 1 1 1 = none := Eng.stackCheck_eq_none.mpr (by rw [hr, List.length_cons] at hrs ⊢; rw [hds]; omega)
    exact answers_of_checked { g with ds := x :: rest } h rfl hc (by rw [hds, hr]; rfl)
  case pick =>
    have hn : n.val < rest.length := (List.getElem?_eq_some_iff.mp hx).1
    have hc : g.stackCheck (n.val + 1) (n.val + 2) 0 0 = none := Eng.stackCheck_eq_none.mpr (by rw [hds]; omega)
    exact answers_of_checked { g with ds := x :: rest } h rfl hc (by rw [hds, List.getD_eq_getElem?_getD, hx]; rfl)

end Sys2Proof.Machine

/-! PROOFS. Arithmetic, logic and tests (O16, O19): the flags of each kind on words and pairs (R301, R302), with subtraction as the
addition of the complement. -/

namespace Sys2Proof.Machine

/-! ## Flags -/

theorem Flags.zn_word (f : Flags) (r : W16) : f.zn 16 r.toNat = { f with z := r == 0, n := r.msb } := by
  have hz : (r.toNat == 0) = (r == 0) := by rw [Bool.eq_iff_iff, beq_iff_eq, beq_iff_eq, ← BitVec.toNat_inj]; rfl
  have hn : r.toNat.testBit 15 = r.msb := (BitVec.msb_eq_getLsbD_last r).symm
  rw [Flags.zn, BitVec.toNat_mod_cancel, hz, hn]

theorem logicFlags_eq (r : W16) (f : Flags) : logicFlags r f = ⟨r == 0, r.msb, f.c, false, f.t⟩ := by
  rw [logicFlags, Flags.zn_word]

/-- Kind add on words: the result may be given as any word that is the sum modulo 2^16. -/
theorem addFlags_word {x y k : Nat} {r : W16} (hr : r = BitVec.ofNat 16 (x + y + k)) (f : Flags) :
    addFlags 16 x y k f = (r.toNat, ⟨r == 0, r.msb, decide (65536 ≤ x + y + k),
      (x.testBit 15 == y.testBit 15 && x.testBit 15 != r.msb), f.t⟩) := by
  have hsum : (x + y + k) % 2 ^ 16 = r.toNat := by rw [hr, BitVec.toNat_ofNat]
  rw [addFlags, hsum, Flags.zn_word, BitVec.msb_eq_getLsbD_last]
  rfl

theorem wordOf_addFlags {x y k : Nat} {r : W16} (hr : r = BitVec.ofNat 16 (x + y + k)) (f : Flags) :
    wordOf (addFlags 16 x y k f) = ([r], ⟨r == 0, r.msb, decide (65536 ≤ x + y + k),
      (x.testBit 15 == y.testBit 15 && x.testBit 15 != r.msb), f.t⟩) := by
  rw [addFlags_word hr, wordOf, BitVec.ofNat_toNat, BitVec.setWidth_eq]

/-- Kind add on pairs. -/
theorem addFlags_pair {x y k r : Nat} (hr : r = (x + y + k) % 2 ^ 32) (f : Flags) :
    addFlags 32 x y k f = (r, ⟨r == 0, r.testBit 31, decide (2 ^ 32 ≤ x + y + k),
      (x.testBit 31 == y.testBit 31 && x.testBit 31 != r.testBit 31), f.t⟩) := by
  have hmod : r % 2 ^ 32 = r := by rw [hr, Nat.mod_mod]
  rw [addFlags, ← hr, Flags.zn, hmod]

theorem pairOf_addFlags {x y k r : Nat} (hr : r = (x + y + k) % 2 ^ 32) (f : Flags) :
    pairOf (addFlags 32 x y k f) = ([hiOf r, loOf r], ⟨r == 0, r.testBit 31, decide (2 ^ 32 ≤ x + y + k),
      (x.testBit 31 == y.testBit 31 && x.testBit 31 != r.testBit 31), f.t⟩) := by
  rw [addFlags_pair hr, pairOf]

/-! ## Sums, and subtraction as the addition of the complement -/

theorem add_carry_eq_ofNat (a b : W16) (k : Nat) : a + b + BitVec.ofNat 16 k = BitVec.ofNat 16 (a.toNat + b.toNat + k) := by
  rw [BitVec.ofNat_add, BitVec.ofNat_add, BitVec.ofNat_toNat, BitVec.ofNat_toNat, BitVec.setWidth_eq, BitVec.setWidth_eq]

theorem add_eq_ofNat (a b : W16) : a + b = BitVec.ofNat 16 (a.toNat + b.toNat + 0) := by
  rw [← add_carry_eq_ofNat, BitVec.add_zero]

theorem sub_eq_add_complement (a b : W16) : a - b = BitVec.ofNat 16 (a.toNat + (65535 - b.toNat) + 1) := by
  bv_omega

theorem neg_eq_add_complement (a : W16) : -a = BitVec.ofNat 16 (0 + (65535 - a.toNat) + 1) := by
  bv_omega

theorem sub_borrow_eq_add_complement (a b : W16) (cy : Bool) :
    a - b - BitVec.ofNat 16 (1 - cy.toNat) = BitVec.ofNat 16 (a.toNat + (65535 - b.toNat) + cy.toNat) := by
  cases cy <;> simp only [Bool.toNat_false, Bool.toNat_true] <;> bv_omega

theorem bit_eq_toNat (b : Bool) : bit b = b.toNat := by
  cases b <;> rfl

theorem pair32_lt (lo hi : W16) : pair32 lo hi < 2 ^ 32 := by
  unfold pair32; omega

theorem sub_pair_eq_add_complement {A B : Nat} (hB : B < 2 ^ 32) :
    (A + 2 ^ 32 - B) % 2 ^ 32 = (A + (2 ^ 32 - 1 - B) + 1) % 2 ^ 32 := by
  congr 1; omega

/-- Settles O16: each operation by the entries that it pops and pushes, with the flags of kind add or of kind logic. -/
theorem awlArithmetic : Obligations.AwlArithmetic := by
  unfold Obligations.AwlArithmetic
  intro s d e c rest a b ah bh h hlen g goes added logic n k wide A B S D
  have hk : k = bit g.fl.c := (bit_eq_toNat _).symm
  have hS : S = (A + B + 0) % 2 ^ 32 := rfl
  have hD : D = (A + (2 ^ 32 - 1 - B) + 1) % 2 ^ 32 := sub_pair_eq_add_complement (pair32_lt b bh)
  refine ⟨fun hds => ⟨?add, ?adc, ?sub, ?sbc, ?and, ?or, ?xor, ?cmp⟩, fun hds => ⟨?not, ?neg, ?inc, ?dec⟩,
    fun hds => ⟨?add2, ?sub2, ?cmp2⟩⟩
  case add => exact answers_of_alu_within [b, a] [a + b] h hlen rfl hds (wordOf_addFlags (add_eq_ofNat a b) _)
  case adc =>
    rw [hk]
    exact answers_of_alu_within [b, a] [_] h hlen rfl hds (wordOf_addFlags (add_carry_eq_ofNat a b _) _)
  case sub =>
    exact answers_of_alu_within [b, a] [a - b] h hlen rfl hds (wordOf_addFlags (sub_eq_add_complement a b) _)
  case sbc =>
    refine answers_of_alu_within [b, a] [_] h hlen rfl hds ?_
    rw [bit_eq_toNat]
    exact wordOf_addFlags (sub_borrow_eq_add_complement a b _) _
  case and =>
    exact answers_of_alu_within [b, a] [a &&& b] h hlen rfl hds (congrArg (Prod.mk _) (logicFlags_eq _ _))
  case or =>
    exact answers_of_alu_within [b, a] [a ||| b] h hlen rfl hds (congrArg (Prod.mk _) (logicFlags_eq _ _))
  case xor =>
    exact answers_of_alu_within [b, a] [a ^^^ b] h hlen rfl hds (congrArg (Prod.mk _) (logicFlags_eq _ _))
  case cmp =>
    exact answers_of_alu_within [b, a] [] h hlen rfl hds
      (congrArg (fun r => ([], r.2)) (addFlags_word (sub_eq_add_complement a b) _))
  case not => exact answers_of_alu_within [a] [~~~a] h hlen rfl hds (congrArg (Prod.mk _) (logicFlags_eq _ _))
  case neg =>
    exact answers_of_alu_within [a] [-a] h hlen rfl hds (wordOf_addFlags (neg_eq_add_complement a) _)
  case inc => exact answers_of_alu_within [a] [a + 1] h hlen rfl hds (wordOf_addFlags (add_eq_ofNat a 1) _)
  case dec =>
    exact answers_of_alu_within [a] [a - 1] h hlen rfl hds (wordOf_addFlags (sub_eq_add_complement a 1) _)
  case add2 =>
    exact answers_of_alu_within [bh, b, ah, a] [hiOf S, loOf S] h hlen rfl hds (pairOf_addFlags hS _)
  case sub2 =>
    exact answers_of_alu_within [bh, b, ah, a] [hiOf D, loOf D] h hlen rfl hds (pairOf_addFlags hD _)
  case cmp2 =>
    exact answers_of_alu_within [bh, b, ah, a] [] h hlen rfl hds
      (congrArg (fun r => ([], r.2)) (addFlags_pair hD _))

/-! ## Tests -/

theorem pair32_beq (lo hi lo' hi' : W16) : (pair32 lo hi == pair32 lo' hi') = (lo == lo' && hi == hi') := by
  rw [Bool.eq_iff_iff, Bool.and_eq_true, beq_iff_eq, beq_iff_eq, beq_iff_eq, ← BitVec.toNat_inj, ← BitVec.toNat_inj]
  unfold pair32
  omega

theorem not_ult_eq_decide (a b : W16) : (!a.ult b) = decide (b.toNat ≤ a.toNat) := by
  rw [BitVec.ult_eq_decide, ← decide_not, decide_eq_decide, Nat.not_lt]

theorem not_slt_eq_decide (a b : W16) : (!a.slt b) = decide (b.toInt ≤ a.toInt) := by
  rw [BitVec.slt_eq_decide, ← decide_not, decide_eq_decide, Int.not_lt]

/-- Settles O19: each test by the entries that it pops and the outcome that it gives to T and, inverted, to Z. -/
theorem awlTests : Obligations.AwlTests := by
  unfold Obligations.AwlTests
  intro s d e c rest x lo hi a b ah bh h hlen g goes
  have outcome {ds : List W16} {r r' : Bool} (hr : r = r') : (ds, testFlags r g.fl) = (ds, testFlags r' g.fl) := by rw [hr]
  refine ⟨fun hds => ⟨fun k => ?btst, ?tz⟩, fun hds => ⟨?teq, ?tne, ?tltu, ?tlts, ?tgeu, ?tges⟩, fun hds => ⟨?teq2, ?tltu2⟩,
    fun hds => ?tin, fun hds => ⟨?tt, ?tset, ?tclr⟩⟩
  case btst => rw [hds]; exact answers_of_alu_within [x] [x] h hlen rfl hds rfl
  case tz => rw [hds]; exact answers_of_alu_within [x] [x] h hlen rfl hds rfl
  case teq => exact answers_of_alu_within [b, a] [] h hlen rfl hds rfl
  case tne => exact answers_of_alu_within [b, a] [] h hlen rfl hds rfl
  case tltu => exact answers_of_alu_within [b, a] [] h hlen rfl hds rfl
  case tlts => exact answers_of_alu_within [b, a] [] h hlen rfl hds rfl
  case tgeu => exact answers_of_alu_within [b, a] [] h hlen rfl hds (outcome (not_ult_eq_decide a b))
  case tges => exact answers_of_alu_within [b, a] [] h hlen rfl hds (outcome (not_slt_eq_decide a b))
  case teq2 => exact answers_of_alu_within [bh, b, ah, a] [] h hlen rfl hds (outcome (pair32_beq a ah b bh))
  case tltu2 => exact answers_of_alu_within [bh, b, ah, a] [] h hlen rfl hds rfl
  case tin =>
    exact answers_of_alu_within [hi, lo, x] [] h hlen rfl hds (outcome (Bool.decide_and _ _).symm)
  case tt => exact answers_of_alu_within [] [] h hlen rfl hds rfl
  case tset => exact answers_of_alu_within [] [] h hlen rfl hds rfl
  case tclr => exact answers_of_alu_within [] [] h hlen rfl hds rfl

end Sys2Proof.Machine

/-! PROOFS. Byte operations, shifts and bit fields (O9, O17): the closed form of a shift by steps, its carry (R309), and the bits that
an inserted field leaves (R330). -/

namespace Sys2Proof.Machine

/-! ## Rotations -/

/-- A rotation reads the bits of the word around. -/
theorem getLsbD_rotateLeft_word (x : W16) (n : Nat) {i : Nat} (hi : i < 16) :
    (x.rotateLeft n).getLsbD i = x.getLsbD ((i + 16 - n % 16) % 16) := by
  rw [BitVec.getLsbD_rotateLeft, Bool.cond_decide, decide_eq_true hi, Bool.true_and]
  split <;> congr 1 <;> omega

theorem getLsbD_ite_one (b : Bool) (i : Nat) : (if b then 1 else 0 : W16).getLsbD i = (decide (i = 0) && b) := by
  cases b <;> simp [BitVec.getLsbD_one]

/-- One more step of a rotation moves the top bit into bit 0. -/
theorem rotateLeft_succ (x : W16) (n : Nat) :
    x.rotateLeft (n + 1) = (x.rotateLeft n <<< 1) ||| (if (x.rotateLeft n).msb then 1 else 0) := by
  apply BitVec.eq_of_getLsbD_eq
  intro i hi
  have hmsb : (x.rotateLeft n).msb = x.getLsbD ((15 + 16 - n % 16) % 16) := by
    rw [BitVec.msb_eq_getLsbD_last, getLsbD_rotateLeft_word x n (by decide)]
  rw [BitVec.getLsbD_or, BitVec.getLsbD_shiftLeft, getLsbD_ite_one, hmsb, getLsbD_rotateLeft_word x _ hi]
  cases i with
  | zero =>
    rw [show (0 + 16 - (n + 1) % 16) % 16 = (15 + 16 - n % 16) % 16 by omega]
    simp
  | succ i =>
    rw [Nat.add_sub_cancel, getLsbD_rotateLeft_word x n (by omega),
      show (i + 1 + 16 - (n + 1) % 16) % 16 = (i + 16 - n % 16) % 16 by omega]
    simp [hi]

theorem rotateLeft_zero (x : W16) : x.rotateLeft 0 = x := by
  apply BitVec.eq_of_getLsbD_eq
  intro i hi
  rw [getLsbD_rotateLeft_word x 0 hi]
  congr 1; omega

theorem rotateLeft_succ_bit_zero (x : W16) (n : Nat) : (x.rotateLeft (n + 1)).getLsbD 0 = (x.rotateLeft n).msb := by
  rw [rotateLeft_succ, BitVec.getLsbD_or, BitVec.getLsbD_shiftLeft, getLsbD_ite_one]
  rfl

/-! ## Byte operations -/

theorem rotateLeft_eight (x : W16) : x.rotateLeft 8 = x.extractLsb 7 0 ++ x.extractLsb 15 8 := by
  apply BitVec.eq_of_getLsbD_eq
  intro i hi
  rw [BitVec.getLsbD_append, BitVec.getLsbD_extractLsb, BitVec.getLsbD_extractLsb, getLsbD_rotateLeft_word x 8 hi]
  split
  · rw [show (i + 16 - 8 % 16) % 16 = 8 + i by omega, decide_eq_true (by omega), Bool.true_and]
  · rw [show (i + 16 - 8 % 16) % 16 = 0 + (i - 8) by omega, decide_eq_true (by omega), Bool.true_and]

theorem and_low_byte (x : W16) : x &&& 0xFF#16 = (x.setWidth 8).setWidth 16 := by
  apply BitVec.eq_of_toNat_eq
  rw [BitVec.toNat_and, BitVec.toNat_setWidth, BitVec.toNat_setWidth, Nat.mod_eq_of_lt (by omega)]
  exact Nat.and_two_pow_sub_one_eq_mod x.toNat 8

/-! ## Shifts by steps -/

theorem shiftSteps_succ (kind n : Nat) (p : W16 × Bool) :
    shiftSteps kind (n + 1) p = shiftOne kind (shiftSteps kind n p).1 := by
  induction n generalizing p with
  | zero => rfl
  | succ n ih => rw [shiftSteps, ih, shiftSteps]

/-- The closed form of the words and of the bits moved out that single steps run through is that of the whole shift. -/
theorem shiftSteps_eq {kind : Nat} {x : W16} (word : Nat → W16) (out : Nat → Bool) (hzero : word 0 = x)
    (hsucc : ∀ n, shiftOne kind (word n) = (word (n + 1), out (n + 1))) (n : Nat) (cy : Bool) :
    shiftSteps kind n (x, cy) = (word n, if n = 0 then cy else out n) := by
  induction n with
  | zero => rw [hzero]; rfl
  | succ n ih => rw [shiftSteps_succ, ih, hsucc, if_neg n.succ_ne_zero]

section
variable (x : W16) (n : Nat) (cy : Bool)

theorem shiftSteps_left :
    shiftSteps 0 n (x, cy) = (x <<< n, if n = 0 then cy else decide (n ≤ 16) && x.getLsbD (16 - n)) := by
  refine shiftSteps_eq (x <<< ·) (fun n => decide (n ≤ 16) && x.getLsbD (16 - n)) (BitVec.shiftLeft_zero x) (fun n => ?_) n cy
  rw [shiftOne, BitVec.shiftLeft_add, BitVec.msb_shiftLeft, BitVec.getMsbD, Nat.sub_sub, Nat.add_comm 1]
  rfl

theorem shiftSteps_right : shiftSteps 1 n (x, cy) = (x >>> n, if n = 0 then cy else x.getLsbD (n - 1)) := by
  refine shiftSteps_eq (x >>> ·) (fun n => x.getLsbD (n - 1)) (BitVec.ushiftRight_zero x) (fun n => ?_) n cy
  rw [shiftOne, BitVec.shiftRight_add, BitVec.getLsbD_ushiftRight]
  rfl

theorem shiftSteps_arith :
    shiftSteps 2 n (x, cy) = (x.sshiftRight n, if n = 0 then cy else (x.sshiftRight (n - 1)).getLsbD 0) := by
  refine shiftSteps_eq x.sshiftRight (fun n => (x.sshiftRight (n - 1)).getLsbD 0) BitVec.sshiftRight_zero (fun n => ?_) n cy
  rw [shiftOne, BitVec.sshiftRight_add]
  rfl

theorem shiftSteps_rotate :
    shiftSteps 3 n (x, cy) = (x.rotateLeft n, if n = 0 then cy else (x.rotateLeft n).getLsbD 0) := by
  refine shiftSteps_eq x.rotateLeft (fun n => (x.rotateLeft n).getLsbD 0) (rotateLeft_zero x) (fun n => ?_) n cy
  rw [rotateLeft_succ_bit_zero, rotateLeft_succ]
  rfl

end

theorem oneOf_shiftFlags {kind n : Nat} {x r : W16} {cy : Bool} {f : Flags} (h : shiftSteps kind n (x, f.c) = (r, cy)) :
    oneOf (shiftFlags kind n x f) = ([r], ⟨r == 0, r.msb, cy, false, f.t⟩) := by
  rw [oneOf, shiftFlags, h, Flags.zn_word]

/-! ## Bit fields -/

theorem bfxOf_eq {p w : Nat} {x r : W16} (hr : r = BitVec.ofNat 16 (x.toNat / 2 ^ p % 2 ^ w)) (f : Flags) :
    bfxOf p w x f = ([r], ⟨r == 0, r.msb, f.c, false, f.t⟩) := by
  rw [bfxOf, ← hr, logicFlags_eq]

theorem shiftRight_and_mask (x : W16) (p w : Nat) :
    (x >>> p) &&& BitVec.ofNat 16 (2 ^ w - 1) = BitVec.ofNat 16 (x.toNat / 2 ^ p % 2 ^ w) := by
  have hshift : x >>> p = BitVec.ofNat 16 (x.toNat / 2 ^ p) := by
    rw [← Nat.shiftRight_eq_div_pow, ← BitVec.toNat_ushiftRight, BitVec.ofNat_toNat, BitVec.setWidth_eq]
  rw [hshift, ← BitVec.ofNat_and, Nat.and_two_pow_sub_one_eq_mod]

/-- A number with `k` bits from bit `p` on replaced, by its parts above, within and below the field. -/
theorem insertField_eq (x v p k : Nat) : x - x / 2 ^ p % 2 ^ k * 2 ^ p + v % 2 ^ k * 2 ^ p =
    2 ^ p * (2 ^ k * (x / 2 ^ p / 2 ^ k) + v % 2 ^ k) + x % 2 ^ p := by
  have hx : x = 2 ^ p * (2 ^ k * (x / 2 ^ p / 2 ^ k)) + 2 ^ p * (x / 2 ^ p % 2 ^ k) + x % 2 ^ p := by
    rw [← Nat.mul_add, Nat.div_add_mod, Nat.div_add_mod]
  rw [Nat.mul_add, Nat.mul_comm _ (2 ^ p), Nat.mul_comm _ (2 ^ p)]
  omega

theorem testBit_insertField (x v p k i : Nat) : (x - x / 2 ^ p % 2 ^ k * 2 ^ p + v % 2 ^ k * 2 ^ p).testBit i =
    if p ≤ i ∧ i < p + k then v.testBit (i - p) else x.testBit i := by
  rw [insertField_eq, Nat.testBit_two_pow_mul_add _ (Nat.mod_lt _ (Nat.two_pow_pos p)),
    Nat.testBit_two_pow_mul_add _ (Nat.mod_lt _ (Nat.two_pow_pos k)), Nat.testBit_mod_two_pow, Nat.testBit_mod_two_pow,
    Nat.testBit_div_two_pow, Nat.testBit_div_two_pow]
  by_cases hlow : i < p
  · rw [if_pos hlow, if_neg (by omega), decide_eq_true hlow, Bool.true_and]
  by_cases hfield : i - p < k
  · rw [if_neg hlow, if_pos hfield, if_pos (by omega), decide_eq_true hfield, Bool.true_and]
  · rw [if_neg hlow, if_neg hfield, if_neg (by omega), show i - p - k + k + p = i by omega]

/-- The word that `bfi` leaves, with `k` bits from bit `p` on taken from v. -/
def insertField (p k : Nat) (x v : W16) : W16 :=
  BitVec.ofNat 16 (x.toNat - x.toNat / 2 ^ p % 2 ^ k * 2 ^ p + v.toNat % 2 ^ k * 2 ^ p)

theorem getLsbD_insertField (p k : Nat) (x v : W16) {i : Nat} (hi : i < 16) :
    (insertField p k x v).getLsbD i = if p ≤ i ∧ i < p + k then v.getLsbD (i - p) else x.getLsbD i := by
  rw [insertField, BitVec.getLsbD_ofNat, decide_eq_true hi, Bool.true_and, testBit_insertField]
  rfl

/-- `bfi` at a position within the word: the field ends at the word's top at the latest. -/
theorem bfiOf_eq {p w : Nat} {x v r : W16} (hp : p ≤ 16) (hr : r = insertField p (min w (16 - p)) x v) (f : Flags) :
    bfiOf p w x v f = ([r], ⟨r == 0, r.msb, decide (2 ^ min w (16 - p) ≤ v.toNat), false, f.t⟩) := by
  have hk : min (p + w) 16 - p = min w (16 - p) := by omega
  rw [bfiOf, hk, logicFlags_eq, hr]
  rfl

/-- Settles O9: the mask leaves the w + 1 bits from bit p on. -/
theorem awlFieldExtract : Obligations.AwlFieldExtract := by
  unfold Obligations.AwlFieldExtract
  intro s d e c p w x rest ⟨h, hds, hroom⟩
  refine (answers_of_alu [x] [_] h rfl hds hroom (bfxOf_eq (shiftRight_and_mask x p (w + 1)) _)).imp fun t ⟨heng, _⟩ => ?_
  rw [heng]
  exact ⟨rfl, rfl⟩

/-- Settles O17: each operation by the entries that it pops and the word that it pushes, with its flags; a shift by the closed form
of its steps. -/
theorem awlShiftsAndFields : Obligations.AwlShiftsAndFields := by
  unfold Obligations.AwlShiftsAndFields
  intro s d e c rest x v h hlen g goes flags shl shr sar rol
  have logic (r : W16) : ([r], logicFlags r g.fl) = ([r], flags r g.fl.c) := congrArg (Prod.mk _) (logicFlags_eq _ _)
  refine ⟨fun l ⟨hds, hroom⟩ => ?lit, fun hds => ⟨fun n => ?litx, ?swab, ?sext8, ?zext8, fun k => ⟨?shl, ?shr, ?sar, ?rol⟩,
    fun p w => ?bfx⟩, fun hds => ⟨?shlv, ?shrv, ?sarv, ?rolv,
      fun p w => ⟨insertField p (min (w + 1) (16 - p)) x v, fun i => ?bits, ?bfi⟩⟩⟩
  case lit => exact answers_of_alu [] [l.signExtend 16] h rfl hds hroom rfl
  case litx => exact answers_of_alu_within [x] [x <<< 4 ||| BitVec.ofNat 16 n] h hlen rfl hds rfl
  case swab =>
    rw [← rotateLeft_eight]
    exact answers_of_alu_within [x] [x.rotateLeft 8] h hlen rfl hds (logic _)
  case sext8 => exact answers_of_alu_within [x] [(x.setWidth 8).signExtend 16] h hlen rfl hds (logic _)
  case zext8 =>
    rw [← and_low_byte]
    exact answers_of_alu_within [x] [x &&& 0xFF#16] h hlen rfl hds (logic _)
  case shl => exact answers_of_alu_within [x] [_] h hlen rfl hds (oneOf_shiftFlags (shiftSteps_left x _ _))
  case shr => exact answers_of_alu_within [x] [_] h hlen rfl hds (oneOf_shiftFlags (shiftSteps_right x _ _))
  case sar => exact answers_of_alu_within [x] [_] h hlen rfl hds (oneOf_shiftFlags (shiftSteps_arith x _ _))
  case rol => exact answers_of_alu_within [x] [_] h hlen rfl hds (oneOf_shiftFlags (shiftSteps_rotate x _ _))
  case bfx => exact answers_of_alu_within [x] [_] h hlen rfl hds (bfxOf_eq rfl _)
  case shlv => exact answers_of_alu_within [v, x] [_] h hlen rfl hds (oneOf_shiftFlags (shiftSteps_left x _ _))
  case shrv => exact answers_of_alu_within [v, x] [_] h hlen rfl hds (oneOf_shiftFlags (shiftSteps_right x _ _))
  case sarv => exact answers_of_alu_within [v, x] [_] h hlen rfl hds (oneOf_shiftFlags (shiftSteps_arith x _ _))
  case rolv => exact answers_of_alu_within [v, x] [_] h hlen rfl hds (oneOf_shiftFlags (shiftSteps_rotate x _ _))
  case bfi => exact answers_of_alu_within [v, x] [_] h hlen rfl hds (bfiOf_eq (Nat.le_of_lt p.isLt) rfl _)
  case bits =>
    have hfield : (p.val ≤ i ∧ i.val < p + min (w.val + 1) (16 - p)) ↔ p.val ≤ i ∧ i.val ≤ p + w := by omega
    rw [getLsbD_insertField _ _ _ _ i.isLt]
    exact ite_congr (propext hfield) (fun _ => rfl) (fun _ => rfl)

end Sys2Proof.Machine

/-! PROOFS. The multiplier (O18): an issued value is the accumulator at once and the youngest result in flight (R346 to R348). -/

namespace Sys2Proof.Machine

theorem Eng.accQ_getLast?_mulTick_mulIssue (g : Eng) (v : Nat) :
    (g.mulIssue v).mulTick.accQ.getLast? = some (2, v % 2 ^ 40) := by
  simp [Eng.mulIssue, Eng.mulTick]

/-- The engine goes on with `v` in its accumulator and as its youngest result in flight; its other operands are `rest`. -/
abbrev MulIssued (s t : State) (d e v : Nat) (rest : List W16) : Prop :=
  EngineOnly s t d e { ({ s.eng d e with acc := v, accQ := (s.eng d e).accQ ++ [(3, v)] } : Eng).mulTick with
    ds := rest, pc := (s.eng d e).pcNext } ∧
  (t.eng d e).accQ.getLast? = some (2, v)

section
variable {s : State} {d : Die} {e : Engine} {c : Fin 8} {i : Instr} {rest : List W16} {v : Nat}

/-- An instruction that pops its operands and issues a value: what the value is modulo 2^40. -/
theorem answers_of_mulIssue {pops : Nat} {u : Eng → Eng} {n : Nat} (h : Ready s d e c)
    (hi : exec i s = awlInstr d e c (checked d e pops 0 0 0 fun g s => .next (s.setEng d e (u g)) g.pcNext) s)
    (hc : (s.eng d e).stackCheck pops 0 0 0 = none) (hu : u (s.eng d e) = { s.eng d e with ds := rest }.mulIssue n)
    (hv : n % 2 ^ 40 = v) :
    Answers i s fun t => MulIssued s t d e v rest := by
  subst hv
  refine (answers_of_checked _ h hi hc hu).imp fun t heng => ⟨heng, ?_⟩
  rw [heng.1]
  exact Eng.accQ_getLast?_mulTick_mulIssue _ _

theorem answers_of_mulBody {f : Eng → W16 → W16 → Nat} {a b : W16} (h : Ready s d e c) (hlen : (s.eng d e).ds.length ≤ 16)
    (hi : exec i s = awlInstr d e c (mulBody d e f) s) (hds : (s.eng d e).ds = b :: a :: rest)
    (hv : f (s.eng d e) a b % 2 ^ 40 = v) :
    Answers i s fun t => MulIssued s t d e v rest := by
  have hrs : (s.eng d e).rs.length ≤ 16 := h.2.2
  rw [hds, List.length_cons, List.length_cons] at hlen
  have hc : (s.eng d e).stackCheck 2 0 0 0 = none :=
    Eng.stackCheck_eq_none.mpr (by rw [hds, List.length_cons, List.length_cons]; omega)
  exact answers_of_mulIssue h hi hc (by rw [hds]; rfl) hv

end

theorem mul_mod_accumulator (a b : W16) : a.toNat * b.toNat % 2 ^ 40 = a.toNat * b.toNat :=
  Nat.mod_eq_of_lt (Nat.lt_of_lt_of_le (Nat.mul_lt_mul'' a.isLt b.isLt) (by decide))

theorem ofSigned_mod_accumulator (x : Int) : ofSigned 40 x % 2 ^ 40 = (x.emod (2 ^ 40)).toNat := by
  change (x % 2 ^ 40).toNat % 2 ^ 40 = (x % 2 ^ 40).toNat
  omega

theorem add_ofSigned_mod_accumulator (n : Nat) (x : Int) : (n + ofSigned 40 x) % 2 ^ 40 = ((n + x).emod (2 ^ 40)).toNat := by
  change (n + (x % 2 ^ 40).toNat) % 2 ^ 40 = ((n + x) % 2 ^ 40).toNat
  omega

/-- Settles O18: each operation by the value that it issues. -/
theorem awlMultiplier : Obligations.AwlMultiplier := by
  unfold Obligations.AwlMultiplier
  intro s d e c rest a b h hlen g goes
  refine ⟨fun hds => ⟨?mul, ?muls, ?macc, ?maccs⟩, fun hds => ?mclr⟩
  case mul => exact answers_of_mulBody h hlen rfl hds (mul_mod_accumulator a b)
  case muls => exact answers_of_mulBody h hlen rfl hds (ofSigned_mod_accumulator _)
  case macc => exact answers_of_mulBody h hlen rfl hds rfl
  case maccs => exact answers_of_mulBody h hlen rfl hds (add_ofSigned_mod_accumulator _ _)
  case mclr =>
    have hc : g.stackCheck 0 0 0 0 = none := Eng.stackCheck_eq_none.mpr ⟨Nat.zero_le _, hlen, Nat.zero_le _, h.2.2⟩
    exact answers_of_mulIssue h rfl hc (by rw [← hds]) (by decide)

end Sys2Proof.Machine

/-! PROOFS. The mailbox (O10): popping a word changes of its engine only the inbound queue (R313, R646). -/

namespace Sys2Proof.Machine

theorem State.eng_of_engs {s t : State} (h : t.engs = s.engs) (d e : Nat) : t.eng d e = s.eng d e := by
  rw [State.eng, State.eng, h]

theorem State.pageEvent_engs (s : State) (t : Nat) (f : Field) : (s.pageEvent t f).engs = s.engs := by
  unfold State.pageEvent
  induction s.hostPorts generalizing s with
  | nil => rfl
  | cons p r ih => exact ih (s.pputFlag p t f true)

theorem State.mbxPage_engs (s : State) (d e : Nat) (stat : Nat → Field) (ev : Field) : (s.mbxPage d e stat ev).engs = s.engs := by
  unfold State.mbxPage
  split
  · exact State.pageEvent_engs _ _ _
  · rfl

theorem State.mbxPop_of_empty {s : State} {d e : Nat} (h : (s.eng d e).mbxIn = []) : s.mbxPop d e = none := by
  rw [State.mbxPop, h]

theorem State.mbxPop_of_waiting {s : State} {d e : Nat} {w : W16} {r : List W16} (h : (s.eng d e).mbxIn = w :: r) :
    ∃ t, s.mbxPop d e = some (w, t) ∧ t.eng d e = { s.eng d e with mbxIn := r } := by
  have hpop : (s.modEng d e fun g => { g with mbxIn := r }).eng d e = { s.eng d e with mbxIn := r } :=
    State.eng_modEng_same _ _ _ _
  rw [State.mbxPop, h]
  dsimp only
  split
  · refine ⟨_, rfl, (State.eng_of_engs ?_ d e).trans hpop⟩
    split
    · exact (State.putFlag_engs _ _ _ _).trans (State.mbxPage_engs _ _ _ _ _)
    · exact State.mbxPage_engs _ _ _ _ _
  · exact ⟨_, rfl, hpop⟩

/-- The engine after a word was pushed and the outcome set. -/
theorem State.eng_pushed_outcome (s : State) (d e : Nat) (w : W16) (b : Bool) :
    ((s.pushed d e 0 [w]).modEng d e fun h => { h with fl := testFlags b h.fl }).eng d e =
      { s.eng d e with ds := w :: (s.eng d e).ds, fl := testFlags b (s.eng d e).fl } := by
  rw [State.eng_modEng_same, State.pushed, State.eng_modEng_same]
  rfl

/-- Settles O10: `mrx` by what the pop answers. -/
theorem awlMailboxRead : Obligations.AwlMailboxRead := by
  unfold Obligations.AwlMailboxRead
  intro s d e c ⟨h, hroom⟩ g
  have hc : g.stackCheck 0 1 0 0 = none := Eng.stackCheck_eq_none.mpr ⟨Nat.zero_le _, hroom, Nat.zero_le _, h.2.2⟩
  refine ⟨fun w r hw => ?waiting, fun hempty => ?none⟩
  case waiting =>
    obtain ⟨u, hpop, heng⟩ := State.mbxPop_of_waiting hw
    refine ⟨_, exec_of_checked h rfl hc (by rw [hpop]), ?_⟩
    dsimp only
    rw [State.eng_endInstr_same, State.eng_pushed_outcome, heng]
    exact ⟨rfl, rfl, rfl⟩
  case none =>
    refine ⟨_, exec_of_checked h rfl hc (by rw [State.mbxPop_of_empty hempty]), ?_⟩
    dsimp only
    rw [State.eng_endInstr_same, State.eng_pushed_outcome]
    exact ⟨rfl, rfl, rfl, hempty⟩

end Sys2Proof.Machine
